-- ==== Sys2Proof/Word.lean ====
section
/-!
DEFINITION. The plain data types the whole model is built on: sparse tables with one canonical
form, and exact fractions.  Nothing here is taken from a rule of the
spec; the rules are cited where these are used.
-/
namespace Sys2Proof

/-- A sparse table keyed by natural numbers, in ONE canonical form: keys strictly rising. -/
abbrev Assoc (α : Type) := List (Nat × α)

/-- The entry of a key, if the table lists one. -/
def Assoc.look {α : Type} (m : Assoc α) (k : Nat) : Option α :=
  match m with
  | [] => none
  | (k', v) :: t => if k = k' then some v else Assoc.look t k

/-- List `v` under `k`, in place of what was listed there; the keys stay rising. -/
def Assoc.put {α : Type} (m : Assoc α) (k : Nat) (v : α) : Assoc α :=
  match m with
  | [] => [(k, v)]
  | (k', v') :: t =>
    if k < k' then (k, v) :: (k', v') :: t
    else if k = k' then (k, v) :: t
    else (k', v') :: Assoc.put t k v

/-- List nothing under `k`. -/
def Assoc.del {α : Type} (m : Assoc α) (k : Nat) : Assoc α :=
  m.filter (fun e => e.1 != k)

/-- The entry of a key, or `d` where none is listed. -/
def Assoc.getD {α : Type} (m : Assoc α) (k : Nat) (d : α) : α := (m.look k).getD d

/-- True where the table lists the key. -/
def Assoc.has {α : Type} (m : Assoc α) (k : Nat) : Bool := (m.look k).isSome

/-- Replace every entry by what `f` makes of it; the keys stay. -/
def Assoc.mapVal {α : Type} (m : Assoc α) (f : Nat → α → α) : Assoc α :=
  m.map (fun e => (e.1, f e.1 e.2))

/-- Change the entry of `k`, if there is one. -/
def Assoc.modify {α : Type} (m : Assoc α) (k : Nat) (f : α → α) : Assoc α :=
  m.mapVal (fun k' v => if k' = k then f v else v)

/-- Keep only the entries `p` accepts. -/
def Assoc.keep {α : Type} (m : Assoc α) (p : Nat → α → Bool) : Assoc α :=
  m.filter (fun e => p e.1 e.2)

/-- How many entries `p` accepts. -/
def Assoc.countP {α : Type} (m : Assoc α) (p : Nat → α → Bool) : Nat :=
  (m.filter (fun e => p e.1 e.2)).length

/-- The first entry `p` accepts, by rising key. -/
def Assoc.first? {α : Type} (m : Assoc α) (p : Nat → α → Bool) : Option (Nat × α) :=
  m.find? (fun e => p e.1 e.2)

/-- One more than the greatest key listed, 0 for an empty table. -/
def Assoc.fresh {α : Type} (m : Assoc α) : Nat := m.foldl (fun a e => max a (e.1 + 1)) 0

/-- The canonical form: keys strictly rising. -/
abbrev Assoc.wf {α : Type} (m : Assoc α) : Prop := m.Pairwise (fun a b => a.1 < b.1)

/-- A set of natural numbers held as a table of units. -/
abbrev NatSet := List Nat

/-- Membership in a set. -/
def NatSet.mem (s : NatSet) (k : Nat) : Bool := s.contains k

/-- Put a number into a set, in rising order, without repeats. -/
def NatSet.insert (s : NatSet) (k : Nat) : NatSet :=
  match s with
  | [] => [k]
  | x :: t => if k < x then k :: x :: t else if k = x then x :: t else x :: NatSet.insert t k

/-- Take a number out of a set. -/
def NatSet.remove (s : NatSet) (k : Nat) : NatSet := s.filter (fun x => x != k)

/-- An exact fraction, kept in lowest terms with a positive denominator. -/
structure Frac where
  num : Int
  den : Nat
deriving DecidableEq, Repr

/-- The fraction `n / d` in lowest terms; `0` where `d = 0`. -/
def Frac.of (n : Int) (d : Nat) : Frac :=
  if d = 0 then ⟨0, 1⟩ else
    let g := Nat.gcd n.natAbs d
    ⟨n / (g : Int), d / g⟩

/-- A whole number as a fraction. -/
def Frac.int (n : Int) : Frac := ⟨n, 1⟩

/-- Zero. -/
def Frac.zero : Frac := ⟨0, 1⟩

/-- Sum. -/
def Frac.add (a b : Frac) : Frac := Frac.of (a.num * b.den + b.num * a.den) (a.den * b.den)

/-- Negation. -/
def Frac.neg (a : Frac) : Frac := ⟨-a.num, a.den⟩

/-- Difference. -/
def Frac.sub (a b : Frac) : Frac := a.add b.neg

/-- Product. -/
def Frac.mul (a b : Frac) : Frac := Frac.of (a.num * b.num) (a.den * b.den)

/-- Quotient; `0` where the divisor is 0. -/
def Frac.div (a b : Frac) : Frac :=
  if b.num = 0 then Frac.zero
  else if 0 < b.num then Frac.of (a.num * b.den) (a.den * b.num.natAbs)
  else Frac.of (-(a.num * b.den)) (a.den * b.num.natAbs)

/-- Strictly less. -/
def Frac.lt (a b : Frac) : Bool := decide (a.num * b.den < b.num * a.den)

/-- At most. -/
def Frac.le (a b : Frac) : Bool := decide (a.num * b.den ≤ b.num * a.den)

/-- The greatest whole number not above the fraction. -/
def Frac.floor (a : Frac) : Int := a.num / (a.den : Int)

/-- The least whole number not below the fraction. -/
def Frac.ceil (a : Frac) : Int := -((-a.num) / (a.den : Int))

/-- Absolute value. -/
def Frac.abs (a : Frac) : Frac := ⟨a.num.natAbs, a.den⟩

/-- The fraction held inside `[lo, hi]`. -/
def Frac.clamp (a lo hi : Frac) : Frac :=
  if a.lt lo then lo else if hi.lt a then hi else a

end Sys2Proof
end

