-- ==== Sys2Proof/Syntax/Operands.lean ====
section
/-!
DEFINITION. The operand types of the commands: messages, descriptors, records and images as the format
tables of the spec lay them out.  Reserved bits are left out (R3).  Data contents are natural numbers:
one number holds the bytes of one 4 KiB block, or of one value, read as little-endian.
-/
namespace Sys2Proof

/-- A side of the array (R8, R9): `SIDE` low is side A, high is side B. -/
inductive Side where
  | a | b
deriving DecidableEq, Repr

/-- The other side. -/
def Side.other : Side → Side
  | .a => .b
  | .b => .a

/-- The SIDE code: 0 A, 1 B. -/
def Side.code : Side → Nat
  | .a => 0
  | .b => 1

/-- The side of a code: 0 is A, every other code B. -/
def Side.ofCode (n : Nat) : Side := if n = 0 then .a else .b

/-- Operations of the innkeeper protocol (Table 17.3). -/
inductive IkOp where
  | renew | acquire | take | handover | query | grant | refuse | record
deriving DecidableEq, Repr

/-- Innkeeper message (Table 17.2), without MAGIC, VER and TAG. `tagOk` stands for the TAG: whether
the AES-CMAC over bytes 0 to 47 verifies (R373). -/
structure IkMsg where
  op : IkOp
  array : Nat
  sender : Nat
  tSend : Nat
  reqT : Nat
  epsNs : Nat
  leaseUs : Nat
  word : Nat
  lgen : Nat
  agen : Nat
  side : Side
  kind : Nat
  status : Nat
  objFirst : Nat
  objCount : Nat
  tagOk : Bool
deriving DecidableEq, Repr

/-- The phase sources of a measurement (R59). -/
inductive PhaseSrc where
  | ptp | pps
deriving DecidableEq, Repr

/-- The link states a PCIe training can end in (Table 04.14). -/
structure PcieLink where
  width : Nat
  speed : Nat
  flit : Bool
deriving DecidableEq, Repr

/-- What a PMBus device answers in a poll (R483): STATUS_WORD and READ_POUT, W; none where it does not acknowledge. -/
structure PmbAnswer where
  dev : Nat
  status : Option Nat
  pout : Option Nat
deriving DecidableEq, Repr

/-- A submission entry (Table 04.4).  `sgl0Ok`, `sgl1Ok`: the lists the SGL flags point to are well formed and sum
to the needed length (R91); meaningless where the flag is 0. -/
structure SubEntry where
  seq : Nat
  opcode : Nat
  fua : Bool
  order : Bool
  irq : Bool
  sgl0 : Bool
  sgl1 : Bool
  sgl0Ok : Bool
  sgl1Ok : Bool
  tag : Nat
  nsid : Nat
  dw3 : Nat
  addr0 : Nat
  addr1 : Nat
  offset : Nat
  len : Nat
  spec : Nat
deriving DecidableEq, Repr

/-- How a descriptor fetch ends (R93). -/
inductive FetchEnd where
  | ok | unsupportedRequest | completerAbort | timeout
deriving DecidableEq, Repr

/-- A namespace record of a configuration image (Table 20.4). -/
structure NsRec where
  nsid : Nat
  tenant : Nat
  kv : Bool
  dedup : Bool
  compress : Bool
  enc : Bool
  cut : Bool
  delete : Bool
  keySlot : Nat
  oset : Nat
  pgCount : Nat
  pgFirst : Nat
  cwMaxNs : Nat
  size : Nat
  resReadKiops : Nat
  resWriteMbps : Nat
deriving DecidableEq, Repr

/-- A record of a configuration image (Table 20.3). -/
inductive ImgRec where
  | reg (block offset : Nat) (words : List Nat)
  | commit (block : Nat)
  /-- A wrapped key blob (R235): its bytes as one number, read as little-endian. -/
  | key (target kek : Nat) (pad intoKek : Bool) (blobLen blob : Nat)
  | ns (r : NsRec)
  | aset (set : Nat) (arrays : List Nat)
  | reserved (rtype : Nat)
deriving DecidableEq, Repr

/-- A configuration image (Tables 20.2 to 20.4) as ADM reads it. `crcOk`: the CRC-32C of the header checks. -/
structure Image where
  magic : Nat
  ver : Nat
  headId : Nat
  imgGen : Nat
  len : Nat
  nrec : Nat
  fwGen : Nat
  full : Bool
  crcOk : Bool
  records : List ImgRec
deriving DecidableEq, Repr

/-- A Guestbook record (Table 21.1) without its CRC. -/
structure GbkRec where
  seq : Nat
  tCt : Nat
  utcSec : Nat
  utcNs : Nat
  leap : Bool
  timeValid : Bool
  utcOffset : Nat
  source : Nat
  code : Nat
  alarm : Bool
  lost : Nat
  head : Nat
  arg0 : Nat
  arg1 : Nat
  arg2 : Nat
deriving DecidableEq, Repr

/-- An anchor of a log (R182). -/
structure Anchor where
  aseq : Nat
  tailCseq : Nat
  tailOff : Nat
  stale : Bool
deriving DecidableEq, Repr

/-- The kinds of a write descriptor (Table 08.5). -/
inductive WKind where
  | block | kvPut | kvDelete | dealloc | zeroes
deriving DecidableEq, Repr

/-- The KIND code of Table 08.5. -/
def WKind.code : WKind → Nat
  | .block => 0 | .kvPut => 1 | .kvDelete => 2 | .dealloc => 3 | .zeroes => 4

/-- A map-delta entry (Table 08.6). -/
structure Delta where
  kind : Nat
  reloc : Bool
  nsid : Nat
  laddr : Nat
  addr : Nat
  wseq : Nat
  /-- The PG whose tree the entry belongs to; the NSID and the value handle alone do not tell it. -/
  pg : Nat
deriving DecidableEq, Repr

/-- A deferred-error entry (R51, Table 08.4 type 0x09). -/
structure Deferred where
  cause : Nat
  overflow : Bool
  nsid : Nat
  slba : Nat
  nlb : Nat
  bucket : Nat
  key : Nat
  keyLen : Nat
  time : Nat
deriving DecidableEq, Repr

/-- The hosts a deferred error can name (R51). -/
inductive HostRef where
  | nqn (h : Nat)
  | client (id : Nat)
  | function (fn : Nat)
deriving DecidableEq, Repr

/-- The write descriptor of a record of the partner, with its key and data (Table 08.5). -/
structure MirWrite where
  kind : WKind
  nsid : Nat
  lba : Nat
  blocks : Nat
  key : Nat
  keyLen : Nat
  valueLen : Nat
  data : List Nat
  fua : Bool
  valueId : Nat
  pg : Nat
  wseq : Nat
deriving DecidableEq, Repr

/-- The body of a record of the partner (Table 08.4). -/
inductive MirBody where
  | pad
  | accept (w : MirWrite)
  | intent (w : MirWrite) (stripe : Nat) (deltas : List Delta)
  | slot (status : Nat)
  | cancel (orig : Nat)
  | stamp (entries : List (Nat × Nat))
  | mapDelta (entries : List Delta)
  | sif (stripe step done : Nat)
  | window (b h : Nat)
  | deferred (host : HostRef) (e : Deferred) (remove : Bool)
deriving DecidableEq, Repr

/-- A record of the partner in this head's mirror log (R183, R192): where it lies, its original JSEQ, the replay slot its
descriptor or SLOT entry names, and its body. -/
structure MirrorRec where
  chan : Nat
  off : Nat
  len64 : Nat
  orig : Nat
  oset : Nat
  tIssue : Nat
  window : Nat
  seq : Nat
  body : MirBody
  persistent : Bool
deriving DecidableEq, Repr

/-- Why the Isaov link goes down (R187). -/
inductive DownCause where
  | silence | resends | quads
deriving DecidableEq, Repr

/-- What a listing asks for (R343): the bucket, or the start key and whether it is left out; `all`: every bucket, in ascending order
(R345). -/
structure ListReq where
  bucket : Nat
  key : Nat
  keyLen : Nat
  excl : Bool
  all : Bool
  len : Nat
deriving DecidableEq, Repr

/-- What a read command asks for. -/
inductive ReadOf where
  | blocks (lba n : Nat)
  | get (key keyLen len : Nat)
  | exist (key keyLen : Nat)
  | list (r : ListReq)
deriving DecidableEq, Repr

/-- How a command ends: its status and what its completion or response carries (Tables 04.7, 15.5). -/
structure Answer where
  status : Nat
  version : Nat
  tA : Nat
  wseq : Nat
  vlen : Nat
  written : Nat
  ending : Bool
  data : List Nat
deriving DecidableEq, Repr

/-- A drumbeat (Table 08.10). -/
structure Drumbeat where
  head : Nat
  dseq : Nat
  tSend : Nat
  eps : Nat
  chOk : Nat
  mirrorReady : Bool
  fenced : Bool
  layout : Nat
  fwGen : Nat
  epoch : Nat
deriving DecidableEq, Repr

/-- A command forwarded to the owner over the Isaov link (R126): a write, or a read of `blocks` blocks or of a key. -/
structure FwdCmd where
  write : Option WKind
  nsid : Nat
  lba : Nat
  blocks : Nat
  key : Nat
  keyLen : Nat
  valueLen : Nat
  data : List Nat
  ifAbsent : Bool
  ifPresent : Bool
  ifVersion : Option Nat
  fua : Bool
  /-- A listing (R343); none for a read, a get or a write. -/
  list : Option ListReq
  /-- The replay slot of the forwarding head's window (R126). -/
  window : Nat
  seq : Nat
deriving DecidableEq, Repr

/-- What the lookup of Table 09.2 gives a chunk. -/
inductive ChunkOut where
  /-- Order 1. -/
  | zero
  /-- Orders 2 and 8: stored new, unindexed. -/
  | plain
  /-- Orders 3 and 9: stored new, unindexed, queued for deferred deduplication. -/
  | deferred
  /-- Orders 5 and 7: stored new, an entry reserved and pinned. -/
  | reserved (handle : Nat)
  /-- Orders 4 and 6: inline match with the chunk at an address. -/
  | matched (handle addr : Nat)
deriving DecidableEq, Repr

/-- A message the partner or this head sends over the Isaov link (Table 08.9), by what it carries. -/
inductive IslMsg where
  | drumbeat (d : Drumbeat)
  | catchupRequest (chan : Option Nat)
  | catchupEnd
  | mirror (jseq : Nat) (m : MirrorRec)
  | anchor (chan : Nat) (a : Anchor)
  | mirrorAck (jseq : Nat)
  | mirrorRefuse (jseq : Nat)
  | gbkMirror (slot : Nat) (r : GbkRec)
  | gbkZero (upTo : Nat)
  | forward (token : Nat) (cmd : FwdCmd)
  | forwardDone (token : Nat) (a : Answer)
  | indexQuery (fp domain : Nat) (reserve : Bool)
  | indexAnswer (fp domain : Nat) (out : ChunkOut)
  | pinRelease (handle : Nat)
  | mediaRead (chan lun page : Nat)
  | mediaData (chan lun page : Nat) (ok : Bool)
  | copyRecord (jseq : Nat) (m : MirrorRec)
  | returnRequest (trial : Bool)
  | handover (kind object agen : Nat)
  | drill (group step : Nat)
  /-- DEADLINE of this head's trial; none when it ends (R471). -/
  | trial (deadline : Option Nat)
deriving DecidableEq, Repr

/-- An Enore command record (Table 15.3) with the key and the inline value it leads to. `areaOk`: the key and the inline
value lie within the value area. -/
structure EnoreRec where
  opcode : Nat
  ifAbsent : Bool
  ifPresent : Bool
  ifVersion : Bool
  remote : Bool
  fua : Bool
  excl : Bool
  rsvd : Bool
  keyLen : Nat
  seq : Nat
  epoch : Nat
  nsid : Nat
  len : Nat
  addr : Nat
  arg : Nat
  key : Nat
  areaOk : Bool
deriving DecidableEq, Repr

/-- A session open or attach request (Table 15.2) as the control cores read it. -/
structure SessReq where
  client : Nat
  session : Nat
  nsid : Nat
  qp : Nat
  slotsLog2 : Nat
  evtLog2 : Nat
  respImm : Bool
  vareaKib : Nat
  respAddr : Nat
  respRkey : Nat
deriving DecidableEq, Repr

/-- A change that a placement update carries (R331 to R333). -/
inductive PlaceChange where
  | bucket (bucket array : Nat) (pinned : Bool)
  | aset (set : Nat) (arrays : List Nat)
deriving DecidableEq, Repr

/-- What a head asks of an array of the placement authority (R333, R349): a grant of an update; the fill (ppm) and heat of its array;
the updates after an epoch. -/
inductive AuthReq where
  | update (epoch tEff : Nat) (changes : List PlaceChange)
  | report (fill heat : Nat)
  | fetch (epoch : Nat)
deriving DecidableEq, Repr

/-- The stripe that a placement uses (R293, R295): PG, band, row, whether the band is in one-bit mode, and the block of each
of its D + P members as a chunk address. -/
structure StripeAt where
  pg : Nat
  band : Nat
  row : Nat
  slc : Bool
  members : List Nat
deriving DecidableEq, Repr

/-- The number of Table 13.1. -/
def StripeAt.id (s : StripeAt) : Nat := s.pg % 2 ^ 16 + s.band % 2 ^ 32 * 2 ^ 16 + s.row % 2 ^ 12 * 2 ^ 48

/-- The parameter page of a LUN as FLC reads it (R272, `FLC_GEOM`). -/
structure ParamPage where
  cell : Nat
  planes : Nat
  blocks : Nat
  pages : Nat
  pageSize : Nat
  spare : Nat
  luns : Nat
  volumes : Nat
  /-- Typical program time, µs (R449). -/
  tProgUs : Nat
deriving DecidableEq, Repr

/-- How a member of an open stripe is found (Table 13.4). -/
inductive Found where
  | valid | torn | erased | unequal
deriving DecidableEq, Repr

/-- A span message (Table 13.5). `crcOk`: its CRC checks. -/
structure SpanMsg where
  initHead : Nat
  stripe : Nat
  member : Nat
  op : Nat
  step : Nat
  status : Nat
  k : Nat
  m : Nat
  payload : Nat
  crcOk : Bool
deriving DecidableEq, Repr

/-- A record of a replication or Caravan batch (R409): KIND 1 data, 2 zeros, 3 unmap, 4 key-value put, 5 key-value
delete. -/
structure BatchRec where
  kind : Nat
  /-- The namespace of a record that a Caravan moves. -/
  nsid : Nat
  laddr : Nat
  len : Nat
  key : Nat
  keyLen : Nat
  data : List Nat
  srcWseq : Nat
  tA : Nat
  /-- VALUE_ID of a put that a Caravan moves (R354). -/
  version : Nat
deriving DecidableEq, Repr

/-- A batch (Table 18.4). `crcOk`: the CRC, and the GCM tag where ENC is set, check. -/
structure Batch where
  kind : Nat
  srcArray : Nat
  link : Nat
  cut : Nat
  base : Nat
  seq : Nat
  last : Bool
  status : Nat
  crcOk : Bool
  records : List BatchRec
deriving DecidableEq, Repr

/-- An entry of the match engine (Table 16.1). -/
structure MteEntry where
  data : Nat
  care : Nat
  prio : Nat
  result : Nat
  valid : Bool
deriving DecidableEq, Repr

/-- What a sweep reads (R433): slack of each path-delay monitor, Q12.4 ps, and slowdown of each ring oscillator, ppm, none where
its self-check fails; the least eye heights, mV. -/
structure AgeRead where
  pdm : List (Option Int)
  ro : List (Option Int)
  netMv : Nat
  islMv : Nat
  pcieMv : Nat
deriving DecidableEq, Repr

/-- RoCEv2 operations of Table 06.1, and one outside it. -/
inductive RdmaOp where
  | send | sendImm | write | writeImm | read | unsupported
deriving DecidableEq, Repr

/-- The S fields of a window descriptor (Table 06.4). -/
structure WinDesc where
  base : Nat
  len : Nat
  qp : Nat
  qpBind : Bool
  rd : Bool
  wr : Bool
  imm : Bool
  pageable : Bool
  consumer : Nat
  tenant : Nat
  deadlineUs : Nat
deriving DecidableEq, Repr

/-- A RoCEv2 packet that arrives for a queue pair of the head (R138, R149): its PSN and place in its message; the first packet
names the operation, rkey, offset, length and immediate.  `slotFree`: the consumer has an input slot.  `resident`: ns until the
page it reaches is resident, 0 when it is. -/
structure RocePacket where
  psn : Nat
  first : Bool
  last : Bool
  op : RdmaOp
  rkey : Nat
  off : Nat
  len : Nat
  imm : Option Nat
  page : Nat
  slotFree : Bool
  resident : Nat
deriving DecidableEq, Repr

/-- A firmware image as the checks of R467 find it (Table 22.3). -/
structure FwImage where
  magicOk : Bool
  /-- Its check does not end within 5 s of a boot (R491). -/
  slow : Bool
  len : Nat
  bodyOk : Bool
  pubHash : Nat
  sigOk : Bool
  fwGen : Nat
  compatMin : Nat
  cfgFmt : Nat
deriving DecidableEq, Repr

/-- The transport of a queue. -/
inductive QTrans where
  | tcp (conn : Nat)
  | rdma (qp : Nat)
deriving DecidableEq, Repr

/-- How one codeword of a sense is decoded (Table 12.2): its number, the step that succeeds (3: none), the bits corrected, and the
offsets that succeeded. -/
structure CwRead where
  cw : Nat
  step : Nat
  bits : Nat
  offsets : List Int
deriving DecidableEq, Repr

/-- How the read of a map page ends (R262). -/
inductive PageGot where
  | whole | rebuilt | lost
deriving DecidableEq, Repr

/-- A DDR5 access of MAP, DDP or KVS (R263): `stream` is the requester's own mark (R264). -/
structure MdcAcc where
  addr : Nat
  write : Bool
  stream : Bool
deriving DecidableEq, Repr

end Sys2Proof
end

