-- ==== Sys2Proof/Syntax.lean ====
section
/-!
DEFINITION. The commands of the block: one constructor per row of spec/opcode_table.json, in its order.  Operands are what the
row's rule takes from outside the head: what a host, a partner, an innkeeper, a medium or a sensor gives, and the ways an outside step can end.
-/
namespace Sys2Proof

/-- A command. -/
inductive Instr where
  /-- POWER_ON_RESET (R487): An always-on feed rises above 1.7 V for 100 µs after both feeds were below 1.6 V, and the
  main domain is released with all state cleared. -/
  | powerOnReset (feedA feedB : Bool) (side : Side) (twoLinks chainA chainB : Bool)
  /-- AON_FEED_LOSS (R391): One always-on feed leaves 1.7 V to 3.6 V; the always-on domain runs on from the other feed. -/
  | aonFeedLoss (a : Bool)
  /-- SYSTEM_RESET (R488): SYS_RST_N is held low; the main domain and the always-on state except GBK_ALARM are reset. -/
  | systemReset
  /-- SYS_RST_N_RELEASE (R491): SYS_RST_N is released; the head samples SIDE and PCIE_BIF and boots in the order of Table
  23.5. -/
  | sysRstNRelease (side : Side) (twoLinks chainA chainB : Bool)
  /-- MAIN_DOMAIN_RESET (R489): A main-domain reset puts every driven flash output at high impedance while claims and the
  lease timer are kept, then the head boots again. -/
  | mainDomainReset (cause : Nat)
  /-- BOOT_IMAGE_TIMEOUT (R491): An image that has not verified within 5 s is treated as failing R467. -/
  | bootImageTimeout
  /-- MDC_INVALIDATION_END (R266): The 32,768-cycle invalidation of the metadata cache ends and MDC_STATUS.READY becomes
  1. -/
  | mdcInvalidationEnd
  /-- SYS_REFCLK_LOSS (R506): No SYS_REFCLK edge for 1 µs while the lease timer runs; the timer is treated as having
  reached zero. -/
  | sysRefclkLoss
  /-- PERST_N_ASSERT (R79): PERST_N is asserted; every function on the links stops and domain 28 is reset. -/
  | perstNAssert
  /-- FUNCTION_LEVEL_RESET (R79): Function Level Reset stops one function: its rings stop consuming and consumed
  submissions run to their end. -/
  | functionLevelReset (fn : Nat)
  /-- D3HOT_ENTRY (R79): A function enters D3hot and is stopped like a Function Level Reset. -/
  | d3hotEntry (fn : Nat)
  /-- PCIE_LINK_LOSS (R79): A PCIe link is lost and every function on it stops. -/
  | pcieLinkLoss (link : Nat)
  /-- PCIE_LINK_TRAIN (R492): The PCIe link trains and PF0 configuration space answers within 100 ms of reset release. -/
  | pcieLinkTrain (link : Nat) (l : PcieLink)
  /-- FENCE_IN_ASSERTED (R12): FENCE_IN_N has been low for 1 µs; the always-on domain sets every flash driver to high
  impedance and deasserts every claim. -/
  | fenceInAsserted
  /-- FENCE_TEST_PULSE (R383): A low pulse shorter than 0.5 µs on FENCE_IN_N only sets OWN_STATUS.FENCE_PULSE. -/
  | fenceTestPulse (ns : Nat)
  /-- FENCE_IN_RELEASE (R12): FENCE_IN_N is released; the fence ends and the head may claim again by its own firmware. -/
  | fenceInRelease
  /-- CLAIM_IN_CHANGE (R11): A filtered level change on ILK_CLAIM_IN[g] affects the driver enable of group g. -/
  | claimInChange (group : Nat) (claimed : Bool) (heldNs : Nat)
  /-- GROUP_SETTLE_EXPIRY (R11): The partner's claim has stayed deasserted for the 2 µs settle time while own claim and
  lease hold, and the drivers of the group enable. -/
  | groupSettleExpiry (group : Nat)
  /-- PTP_MEASUREMENT (R60): An accepted PTP measurement runs the servo law or steps time in ACQUIRING and updates ε. -/
  | ptpMeasurement (port dt srcTai : Nat) (logInterval : Int)
  /-- PTP_ANNOUNCE (R64): An Announce message of the followed port is received, and with UTC_FROM_PTP its UTC offset and
  leap flags are copied into CAR_UTC. -/
  | ptpAnnounce (port utcOffset : Nat) (leap61 leap59 : Bool)
  /-- PPS_IN_EDGE (R59): An edge on PPS_IN supplies the phase of a whole second of cluster time. -/
  | ppsInEdge (dt : Nat) (falling : Bool)
  /-- HOLDOVER_ENTRY (R60): Four expected intervals pass without a measurement while LOCKED and the time service enters
  HOLDOVER. -/
  | holdoverEntry
  /-- BACKUP_PORT_FALLOVER (R57): After 4 missed intervals with BACKUP_EN the head follows its backup port. -/
  | backupPortFallover
  /-- SERVO_STEP_1MS (R76): Without a measurement, a servo step happens every 1 ms of cluster time and takes up admitted
  CAR commits. -/
  | servoStep1ms
  /-- EPS_OVER_SET (R67): ε exceeds CAR_EPS_BOUND while time is valid; EPS_OVER is set, a record and event are posted and
  TOCSIN_N may be asserted. -/
  | epsOverSet
  /-- EPS_OVER_CLEAR (R67): ε has stayed at or below 7/8 of the bound for 1 s in LOCKED or HOLDOVER and EPS_OVER clears. -/
  | epsOverClear
  /-- PPS_OUT_EDGE (R61): Cluster time reaches a whole multiple of OUT_PERIOD and PPS_OUT rises for OUT_WIDTH. -/
  | ppsOutEdge
  /-- CAR_ENABLE_CLEAR (R60): CAR_CTRL.ENABLE is cleared; the time service enters UNSYNCED and a later enable steps
  forward only. -/
  | carEnableClear
  /-- CAR_NOW_READ (R76): A read of CAR_NOW_NS_LO latches the high word, fraction and ε of the same engine cycle. -/
  | carNowRead
  /-- CAR_SLOT_WRITE (R70): A write to a Carillon slot's fields is taken only while the slot is IDLE and outside the
  firmware range. -/
  | carSlotWrite (slot off value : Nat) (fw : Bool)
  /-- CAR_SLOT_ARM (R70): Writing a slot index to CAR_SLOT_ARM makes an IDLE slot ARMED, or HELD without valid time,
  unless the arm is refused. -/
  | carSlotArm (slot : Nat) (fw : Bool)
  /-- CAR_SLOT_DISARM (R70): Writing a slot index to CAR_SLOT_DISARM makes the slot IDLE at the next engine cycle. -/
  | carSlotDisarm (slot : Nat) (fw : Bool)
  /-- CARILLON_FIRE (R71): Cluster time reaches a slot's instant; the Carillon issues its action, marks it late when due
  and advances or idles the slot. -/
  | carillonFire (slot : Nat)
  /-- COMMIT_WRITE (R440): A write of the expected generation to a block's COMMIT latches its shadow and starts an
  admission check. -/
  | commitWrite (block gen : Nat)
  /-- ADMISSION_CHECK_END (R441): The admission check of a pending commit ends with admission or with a refusal reported
  in ADM_RESULT. -/
  | admissionCheckEnd (block : Nat)
  /-- COMMIT_TAKE_EFFECT (R441): An admitted commit reaches the block's boundary, the latched values apply and ACTIVE_GEN
  increases. -/
  | commitTakeEffect (block : Nat)
  /-- BLOCK_ENABLE_SET (R443): Setting a block's ENABLE runs the admission checks over its S and G fields and leaves it 0
  on failure. -/
  | blockEnableSet (block : Nat)
  /-- ADM_CHECK_IMAGE (R451): ADM_CMD OP 1 parses an image and checks every constraint without staging anything. -/
  | admCheckImage (img : Image)
  /-- ADM_APPLY_IMAGE (R451): ADM_CMD OP 2 checks an image and then writes and commits its records in order and sets
  ADM_IMG_GEN. -/
  | admApplyImage (img : Image)
  /-- MEASURED_DRIFT (R445): A new measurement breaks a constraint in force; ADM sets DRIFT and writes a Guestbook record. -/
  | measuredDrift
  /-- REGISTER_WRITE (R2): A BAR0 write to a register that has no row of its own acts by its access type and change class. -/
  | registerWrite (off size value : Nat)
  /-- RC_REGISTER_READ (R2): A read of an RC field returns it and clears it to its reset value. -/
  | rcRegisterRead (off size : Nat)
  /-- BAR0_ACCESS_ERROR (R520): An access to a reserved offset, or of a bad size, is ignored and sets GLB_ERR with
  GLB_ERR_INFO. -/
  | bar0AccessError (off size : Nat) (write : Option Nat)
  /-- GLB_INT_ACK (R525): A write to GLB_INT_ACK re-arms the error interrupt and sends a message when the masked summary
  is non-zero. -/
  | glbIntAck
  /-- ERROR_INTERRUPT (R525): The masked error summary becomes non-zero and the PF0 MSI-X message is sent. -/
  | errorInterrupt
  /-- INT_HOLDOFF_EXPIRY (R525): HOLDOFF_US ends and a held error message is sent if its condition still holds. -/
  | intHoldoffExpiry
  /-- RING_ENABLE (R85): Setting ENABLE on a DISABLED ring makes it ACTIVE with a fresh window or RESYNCING with its kept
  window. -/
  | ringEnable (ring : Nat)
  /-- RING_DISABLE (R84): Clearing ENABLE on a ring moves it to DRAINING. -/
  | ringDisable (ring : Nat)
  /-- RING_DRAIN_END (R84): The last consumed submission of a draining or stopped ring completes and the ring becomes
  DISABLED. -/
  | ringDrainEnd (ring : Nat)
  /-- RING_RELEASE (R86): A write to HRI_RING_RELEASE drops a disabled ring's kept replay window. -/
  | ringRelease (ring : Nat)
  /-- SQ_TAIL_DOORBELL (R87): An SQ tail doorbell publishes new submission entries, or is recorded for later, or puts the
  ring in ERROR when out of range. -/
  | sqTailDoorbell (fn index value : Nat)
  /-- CQ_HEAD_DOORBELL (R87): A CQ head doorbell frees completion entries and lets held event entries be written. -/
  | cqHeadDoorbell (fn index value : Nat)
  /-- DESCRIPTOR_FETCH (R89): HRI fetches up to 8 descriptors of a ring by the arbitration of HRI_RING_ARB. -/
  | descriptorFetch
  /-- DESCRIPTOR_FETCH_DONE (R88): Fetched entries arrive and are consumed in ring order after the replay-window check, or
  a fetch failure puts the ring in ERROR. -/
  | descriptorFetchDone (ring : Nat) (fe : FetchEnd) (entries : List SubEntry)
  /-- COMPLETION_WRITE (R96): A completion entry is written to the CQ before the status-block update and MSI-X message
  that cover it. -/
  | completionWrite (ring : Nat) (sbOk : Bool)
  /-- STATUS_BLOCK_TIMER (R100): 2 µs after the last change the ring status block is written as one 64-byte write. -/
  | statusBlockTimer (ring : Nat) (ok : Bool)
  /-- COALESCE_TIMER (R102): COAL_US passes since the first unsignalled entry and the ring signals its vector. -/
  | coalesceTimer (ring : Nat)
  /-- RESYNC (R101): A write to HRI_RESYNC or its BAR2 alias stops consumption of an ACTIVE or ERROR ring and waits for
  consumed submissions to be decided. -/
  | resync (fn : Option Nat) (index : Nat)
  /-- RESYNC_RECORD_WRITE (R101): When the wait of RESYNC ends the resync record is written, DONE is set, event 0x0003
  posted and the ring becomes ACTIVE. -/
  | resyncRecordWrite (ring : Nat)
  /-- EVQ_HEAD_DOORBELL (R103): The event ring head doorbell frees event entries. -/
  | evqHeadDoorbell (fn value : Nat)
  /-- EVENT_POST (R104): An event is written to the event ring of each function it goes to, or dropped and counted when
  the ring is full. -/
  | eventPost (source code fn nsid arg0 arg1 : Nat)
  /-- NOP (R92): Ring opcode 0x00 completes with no effect. -/
  | nop (ring seq : Nat)
  /-- BLK_WRITE (R92): Ring opcode 0x01 writes blocks of the tenant's namespace through acceptance. -/
  | blkWrite (ring seq : Nat) (data : Option Nat)
  /-- BLK_READ (R92): Ring opcode 0x02 reads blocks into host memory. -/
  | blkRead (ring seq : Nat) (xferOk : Bool)
  /-- FLUSH (R32): Ring opcode 0x03 completes once every write completed before it on the ring is accepted. -/
  | flush (ring seq : Nat)
  /-- DEALLOCATE (R118): Ring opcode 0x04 unmaps a block range with a zero destage reserve. -/
  | deallocate (ring seq : Nat)
  /-- KV_PUT (R340): Ring opcode 0x10 stores a value with the semantics of the Enore PUT. -/
  | kvPut (ring seq : Nat) (key value : Option Nat)
  /-- KV_GET (R340): Ring opcode 0x11 reads a value with the semantics of the Enore GET. -/
  | kvGet (ring seq : Nat) (key : Option Nat) (xferOk short : Bool)
  /-- KV_DELETE (R340): Ring opcode 0x12 removes a key with the semantics of the Enore DELETE. -/
  | kvDelete (ring seq : Nat) (key : Option Nat)
  /-- COMPRESS (R219): Ring opcode 0x20 compresses input segment by segment and stops with STS_OUTPUT_EXHAUSTED when
  output space runs out. -/
  | compress (ring seq : Nat) (input : Option Nat) (outOk : Bool)
  /-- DECOMPRESS (R221): Ring opcode 0x21 decompresses, or restores a chunk with header, filling the output to DW3. -/
  | decompress (ring seq : Nat) (input : Option Nat) (outOk : Bool)
  /-- CIPHER (R227): Ring opcode 0x22 runs an AES mode on a key slot within the limits of Table 10.2. -/
  | cipher (ring seq : Nat) (input : Option Nat) (outOk : Bool) (suspends : Nat)
  /-- HASH (R222): Ring opcode 0x23 computes SHA-256 or CRC-32C on one hash unit. -/
  | hash (ring seq : Nat) (input : Option Nat) (outOk : Bool)
  /-- WRITE_ARRIVAL (R37): OWN confirms ownership for a write, fixing its order and choosing the journal or direct path. -/
  | writeArrival (op : Nat) (at_ : StripeAt) (addrs : List Nat)
  /-- PJM_RECORD_PERSIST (R26): A PJM record's last burst completes and the persistence delay elapses, so the record is
  persistent locally. -/
  | pjmRecordPersist (mirror : Bool) (jseq : Nat)
  /-- MIRROR_RECORD_RECEIVE (R183): The partner receives a mirror record and writes it at the same channel and offset of
  its mirror log. -/
  | mirrorRecordReceive (jseq : Nat) (m : MirrorRec)
  /-- MIRROR_ACK_RECEIVE (R25): The partner's acknowledgement that a mirror record is persistent arrives, accepting the
  write when the local record is also persistent. -/
  | mirrorAckReceive (jseq : Nat)
  /-- PJM_WRITE_FAIL (R184): A record's write fails on either side and the record is written again on another channel with
  the same JSEQ, or held. -/
  | pjmWriteFail (jseq : Nat) (local_ : Bool)
  /-- STAMP_RECORD_TIMER (R179): 240 STAMP entries are pending or 2 µs have passed since the oldest, and a STAMP record is
  written. -/
  | stampRecordTimer
  /-- ANCHOR_WRITE (R182): After the tail has advanced 1 MiB, or 1 ms after an advance, the head writes the next anchor. -/
  | anchorWrite (chan : Nat)
  /-- RECORD_COPY_FORWARD (R181): A live record within the oldest eighth of the log is copied forward with COPY set. -/
  | recordCopyForward (jseq : Nat)
  /-- PJM_CHANNEL_FAIL (R190): A PJM channel is declared failed; its live records are copied forward from the partner's
  mirror and writes take the direct path. -/
  | pjmChannelFail (chan : Nat)
  /-- PJM_CH_CMD (R190): A write to PJM_CH_CMD returns a repaired channel to service after a per-channel catch-up. -/
  | pjmChCmd (chan : Nat)
  /-- PJM_REPLAY (R191): Logs are replayed in ascending ORIG_JSEQ, records valid in one copy are rewritten to the other
  and intents resolved by their stripes. -/
  | pjmReplay (both : Bool) (localBad mirrorBad : List Nat) (badType : Bool)
  /-- BUFFER_STRIPE_CLOSE (R28): A buffer stripe is full or its oldest write has waited the close delay, and it is
  programmed with filler in one round. -/
  | bufferStripeClose (stripe : Nat) (full : Bool)
  /-- PAGE_PROGRAM_DONE (R27): A member program completes with pass or failure and the stripe advances; a buffer stripe
  whose members all pass accepts its writes. -/
  | pageProgramDone (stripe member : Nat) (pass : Bool) (at_ : StripeAt) (addrs : List Nat)
  /-- COMMIT_WAIT_RELEASE (R68): Cluster time satisfies τ − ε(τ) > t_a + ε(t_a) and the held completion of a
  cut-consistent write is released. -/
  | commitWaitRelease (op : Nat)
  /-- DEFERRED_ERROR_RECORD (R51): A lost extent or a dropped replica records a deferred entry per host and namespace,
  merging past 16. -/
  | deferredErrorRecord (dropped : Bool) (nsid slba nlb bucket key keyLen : Nat)
  /-- DESTAGE (R195): Journal-path data is reduced, packed into a destage stripe and its map entries written. -/
  | destage (op : Nat) (at_ : StripeAt) (addrs : List Nat)
  /-- NET_FRAME_RECEIVE (R108): A frame is received on a port, discarded and counted when above MTU. -/
  | netFrameReceive (port bytes prio occ : Nat) (ce : Bool) (fecBad : Nat)
  /-- PFC_FRAME_RECEIVE (R109): A PFC frame pauses or resumes a priority toward the link partner. -/
  | pfcFrameReceive (port prio : Nat) (pause : Bool)
  /-- PFC_WATCHDOG_EXPIRY (R110): A priority stays paused longer than WDOG_US; PFC_STORM is set and a record written. -/
  | pfcWatchdogExpiry (port prio : Nat)
  /-- PORT_LINK_CHANGE (R107): A port's link comes up after negotiation or training, or goes down. -/
  | portLinkChange (port : Nat) (up : Bool)
  /-- TCP_SYN (R113): A SYN to a listener opens a connection, or is answered RST when every connection is in use. -/
  | tcpSyn (listener isn : Nat) (ecn sack tsopt : Bool) (wscale mss : Nat)
  /-- TCP_SEGMENT_RECEIVE (R113): A TCP segment is processed by the engine under RFC 9293 with the options in force. -/
  | tcpSegmentReceive (conn seq len : Nat) (ack : Option Nat) (rst fin ce : Bool)
  /-- TCP_RTO_EXPIRY (R113): The retransmission timer expires; the segment is resent and the connection aborts after 8
  resends. -/
  | tcpRtoExpiry (conn : Nat)
  /-- NVME_CONNECT (R116): A Fabrics Connect creates an admin or I/O queue, or completes Controller Busy. -/
  | nvmeConnect (tr : QTrans) (assoc : Option Nat) (host tenant qsize kato cid : Nat)
  /-- NVME_DISCONNECT (R114): A Fabrics Disconnect ends a queue or association. -/
  | nvmeDisconnect (q cid : Nat)
  /-- NVME_PROPERTY_GET (R114): Fabrics Property Get returns a controller property. -/
  | nvmePropertyGet (q cid off : Nat)
  /-- NVME_PROPERTY_SET (R114): Fabrics Property Set sets a controller property. -/
  | nvmePropertySet (q cid off value : Nat)
  /-- NVME_IDENTIFY (R114): Admin Identify returns controller or namespace data. -/
  | nvmeIdentify (q cid cns nsid : Nat)
  /-- NVME_GET_LOG_PAGE (R124): Get Log Page returns a log such as ANA 0Ch or Deferred Condition C0h without removing
  entries. -/
  | nvmeGetLogPage (q cid lid nsid : Nat) (rae : Bool)
  /-- NVME_SET_FEATURES (R114): Admin Set Features sets a feature such as Keep Alive Timeout. -/
  | nvmeSetFeatures (q cid fid value : Nat)
  /-- NVME_GET_FEATURES (R114): Admin Get Features returns a feature. -/
  | nvmeGetFeatures (q cid fid : Nat)
  /-- NVME_ASYNC_EVENT_REQUEST (R123): An Asynchronous Event Request is held until a deferred error or ANA notice
  completes it. -/
  | nvmeAsyncEventRequest (q cid : Nat)
  /-- NVME_KEEP_ALIVE (R117): A Keep Alive command restarts the association's keep-alive timer. -/
  | nvmeKeepAlive (q cid : Nat)
  /-- NVME_ABORT (R128): Abort completes; a held forwarded write is reported not aborted. -/
  | nvmeAbort (q cid : Nat)
  /-- KEEP_ALIVE_EXPIRY (R117): The Keep Alive Timeout expires; the association ends and its replay windows are discarded. -/
  | keepAliveExpiry (assoc : Nat)
  /-- NVME_READ (R121): An NVMe Read returns each block from the accepted write of highest write sequence. -/
  | nvmeRead (q cid dw nsid lba blocks : Nat) (xferOk : Bool)
  /-- NVME_WRITE (R122): An NVMe Write is accepted on the journal or direct path, with FUA handled as R122 gives. -/
  | nvmeWrite (q cid dw nsid lba blocks : Nat) (fua : Bool) (icd data : Nat)
  /-- NVME_FLUSH (R32): An NVMe Flush completes when earlier completed writes on the queue are accepted. -/
  | nvmeFlush (q cid dw nsid : Nat)
  /-- NVME_WRITE_ZEROES (R118): Write Zeroes takes the journal path with a zero reserve. -/
  | nvmeWriteZeroes (q cid dw nsid lba blocks : Nat)
  /-- NVME_DSM_DEALLOCATE (R118): Dataset Management with deallocate unmaps ranges with a zero reserve. -/
  | nvmeDsmDeallocate (q cid dw nsid : Nat) (deallocate : Bool) (ranges : List (Nat × Nat))
  /-- NVME_KV_STORE (R345): KV Store maps to PUT with Must Exist and Must Not Exist as conditions. -/
  | nvmeKvStore (q cid dw nsid key keyLen valueLen : Nat) (mustExist mustNot append : Bool) (icd data : Nat)
  /-- NVME_KV_RETRIEVE (R345): KV Retrieve maps to GET. -/
  | nvmeKvRetrieve (q cid dw nsid key keyLen len : Nat) (xferOk : Bool)
  /-- NVME_KV_DELETE (R345): KV Delete maps to DELETE. -/
  | nvmeKvDelete (q cid dw nsid key keyLen : Nat)
  /-- NVME_KV_EXIST (R345): KV Exist maps to EXIST. -/
  | nvmeKvExist (q cid dw nsid key keyLen : Nat)
  /-- NVME_KV_LIST (R345): KV List lists buckets in ascending order, then keys. -/
  | nvmeKvList (q cid dw nsid key keyLen len : Nat) (xferOk : Bool)
  /-- NVME_INVALID_OPCODE (R115): A command with an opcode outside Table 05.3 completes STS_INVALID_OPCODE with no effect. -/
  | nvmeInvalidOpcode (q cid : Nat)
  /-- NVME_TCP_ICREQ (R120): An ICReq sets digests and the number of outstanding transfer-ready PDUs for a connection. -/
  | nvmeTcpIcreq (conn maxR2t : Nat) (hdgst ddgst : Bool)
  /-- BUFFER_GRANT_TRANSFER (R119): POL grants buffers for a range and the head sends a transfer-ready PDU or issues an
  RDMA READ for it. -/
  | bufferGrantTransfer (q cid bytes : Nat)
  /-- H2C_DATA_RECEIVE (R120): H2CData for a requested range lands in staging buffers; unrequested data ends the
  connection. -/
  | h2cDataReceive (q cid off bytes data : Nat) (digestOk : Bool)
  /-- WRITE_DATA_READ_DONE (R119): An RDMA READ of write data completes or fails, failing the write with
  STS_HOST_XFER_FAIL. -/
  | writeDataReadDone (q cid : Nat) (ok : Bool) (data : Nat)
  /-- FORWARDED_COMPLETION_RECEIVE (R126): The owner's completion of a forwarded command arrives and the forwarding head
  completes it to the host. -/
  | forwardedCompletionReceive (token : Nat) (a : Answer)
  /-- ANA_STATE_CHANGE (R125): An ANA group's state changes and the change notice is posted. -/
  | anaStateChange
  /-- ROCE_PACKET_RECEIVE (R138): A RoCEv2 packet is handled as responder by its PSN: processed, NAKed or acknowledged as
  duplicate. -/
  | rocePacketReceive (qp : Nat) (p : RocePacket)
  /-- ODP_PAGE_RESIDENT (R153): A faulted page becomes resident and a held RDMA READ is answered. -/
  | odpPageResident (window page : Nat)
  /-- ROCE_ACK_RECEIVE (R139): An acknowledgement arrives as requester and frees acknowledged packets. -/
  | roceAckReceive (qp psn : Nat)
  /-- ROCE_NAK_SEQ_RECEIVE (R139): A NAK Sequence Error makes the requester go back N. -/
  | roceNakSeqReceive (qp psn : Nat)
  /-- ROCE_RNR_NAK_RECEIVE (R139): An RNR NAK restarts the timer with its value and counts against RNR_RETRY. -/
  | roceRnrNakReceive (qp psn timer : Nat)
  /-- ROCE_RETRANSMIT_EXPIRY (R139): The retransmit timer expires and every unacknowledged packet is resent, or the queue
  pair enters ERROR after RETRY_CNT. -/
  | roceRetransmitExpiry (qp : Nat)
  /-- CC_PROBE_SEND (R140): Once per probe interval a packet is marked AckReq and timestamped. -/
  | ccProbeSend (qp : Nat)
  /-- CC_PROBE_ACK (R140): The acknowledgement of a probe arrives and the queue pair's rate is updated from the measured
  delay. -/
  | ccProbeAck (qp rttNs : Nat)
  /-- CC_IDLE_EXPIRY (R140): A queue pair sends nothing for 1 ms and returns to its initial rate. -/
  | ccIdleExpiry (qp : Nat)
  /-- QP_MODIFY (R137): A consumer block creates, moves or destroys a queue pair through its states. -/
  | qpModify (qp target consumer tenant engine line psn : Nat)
  /-- QP_ERROR_ENTRY (R137): A queue pair enters ERROR and its consumer ends what it carries. -/
  | qpErrorEntry (qp : Nat)
  /-- WINDOW_OPEN (R147): An open command on a FREE window increases GEN and moves it to OPENING, or is refused. -/
  | windowOpen (index : Nat) (d : Option WinDesc) (inArea : Bool)
  /-- WINDOW_TRANSLATIONS_LOADED (R147): Every page translation of an opening window is loaded and it becomes OPEN. -/
  | windowTranslationsLoaded (index : Nat)
  /-- WINDOW_REVOKE (R148): A revoke command moves an OPEN or OPENING window to CLOSING. -/
  | windowRevoke (index : Nat) (bar0 : Bool)
  /-- WINDOW_READ_ENTRY (R157): RDM_WIN_CMD OP 3 reads a window entry into RDM_WIN_STAGE. -/
  | windowReadEntry (index : Nat)
  /-- WINDOW_DRAIN_END (R151): OUTSTANDING of a CLOSING window reaches 0; caches are invalidated, the window becomes FREE
  and the revoke completes. -/
  | windowDrainEnd (index : Nat)
  /-- REVOKE_TIMEOUT (R151): OUTSTANDING stays above 0 past RDM_REVOKE_TMO; carrying queue pairs enter ERROR and the
  revoke completes with TIMEOUT. -/
  | revokeTimeout (index : Nat)
  /-- WTC_MISS_WALK_DONE (R155): A translation cache miss finishes its page-table walk and the stalled queue pair resumes. -/
  | wtcMissWalkDone (qp : Nat)
  /-- POL_ALLOCATE (R161): An allocation request is granted whole by the reserve test, refused or queued by its mode. -/
  | polAllocate (block pool owner n : Nat) (wait : Bool)
  /-- POL_FREE (R168): A free is accepted and waiting requests are offered buffers in round robin, or it is refused as a
  double or bad free. -/
  | polFree (block pool index owner : Nat)
  /-- POL_OP_ALLOCATE (R172): POL_OP OP 1 allocates one buffer in immediate mode from BAR0. -/
  | polOpAllocate (pool owner : Nat)
  /-- POL_OP_FREE (R172): POL_OP OP 2 frees the buffer named in POL_OP_ADDR through POL's own port. -/
  | polOpFree (pool owner : Nat)
  /-- POL_OP_RESERVED (R172): POL_OP OP 3 completes at once with STS_BAD_DESCRIPTOR. -/
  | polOpReserved
  /-- POOL_ENABLE (R170): Setting a pool's ENABLE starts FILLING after the checks of R159. -/
  | poolEnable (pool : Nat)
  /-- POOL_FILL_END (R166): A pool's fill ends and it becomes ACTIVE. -/
  | poolFillEnd (pool : Nat)
  /-- POOL_DISABLE (R170): Clearing a pool's ENABLE drains it and completes waiting requests with STS_NO_BUFFER. -/
  | poolDisable (pool : Nat)
  /-- POOL_DRAIN_END (R170): FREE reaches COUNT in a draining pool; it becomes DISABLED and refills at once if ENABLE is
  1. -/
  | poolDrainEnd (pool : Nat)
  /-- POL_DISABLE (R162): Clearing POL_CTRL.ENABLE completes every waiting allocation with STS_NO_BUFFER. -/
  | polDisable
  /-- ISL_ENABLE (R185): Setting ISL_CTRL.ENABLE starts link training. -/
  | islEnable
  /-- ISL_TRAINING_END (R185): A training attempt ends with the link UP or failed, and a failed attempt starts the next at
  once. -/
  | islTrainingEnd (quads : Nat)
  /-- ISL_FLIT_RECEIVE (R186): A flit is acknowledged cumulatively or NAKed on CRC failure, and its messages are delivered
  per virtual channel. -/
  | islFlitReceive (fseq : Nat) (crcOk : Bool) (ack : Nat) (nak : Option Nat) (msgs : List IslMsg) (whole : List Nat)
  /-- ISL_LANE_FAIL (R185): A lane fails and takes its quad out of service. -/
  | islLaneFail (lane : Nat)
  /-- ISL_LINK_DOWN (R187): The link is down by silence, resends or quads; the partner's PJM becomes unreachable and
  unacknowledged writes are cancelled or held. -/
  | islLinkDown (cause : DownCause)
  /-- ISL_ENABLE_CLEAR (R187): Clearing ISL_CTRL.ENABLE on a link that is up takes it down at once on this head. -/
  | islEnableClear
  /-- ISL_LINK_UP (R189): The link comes UP; mirror anchors are marked STALE and catch-up is requested once layouts agree. -/
  | islLinkUp
  /-- CATCHUP_END (R189): Every copied and mirrored record is persistent, the partner's anchors are written clear and
  MIRROR_READY is reported. -/
  | catchupEnd
  /-- DRUMBEAT_SEND (R188): At each 5 µs grid instant the head sends a drumbeat on VC 0. -/
  | drumbeatSend
  /-- DRUMBEAT_RECEIVE (R188): A drumbeat arrives and counts for its grid instant, carrying layout, fence, epoch and
  firmware state. -/
  | drumbeatReceive (d : Drumbeat)
  /-- DRUMBEAT_ABSENT (R188): A drumbeat of a grid instant has not arrived by 5 µs later, and SUSPECT sets after
  SUSPECT_MISS in a row. -/
  | drumbeatAbsent
  /-- INDEX_MESSAGE (R199): An index message on VC 2 queries or reserves an entry of the half this head owns. -/
  | indexMessage (fp domain : Nat) (reserve : Bool)
  /-- INDEX_QUERY_TIMEOUT (R203): A partner-half query is not answered within INLINE_NS and is treated as a page not
  cached. -/
  | indexQueryTimeout (op : Nat)
  /-- PIN_RELEASE (R204): A pin is released when its reference entry is applied, cancelled or its requester fenced. -/
  | pinRelease (handle : Nat)
  /-- REFERENCE_APPLY (R206): The owner of a half applies reference entries in JSEQ order per writer, skipping those
  already applied. -/
  | referenceApply (mirror : Bool) (jseq : Nat)
  /-- INDEX_ENTRY_RELEASE (R207): A DYING entry's checkpoint is persistent; the chunk's space is released and VALID
  cleared. -/
  | indexEntryRelease (handle : Nat)
  /-- DEFERRED_DEDUP_ENTRY (R209): The deferred engine takes a queued chunk, matches or reserves an entry and writes one
  remapping record. -/
  | deferredDedupEntry
  /-- CHUNK_CRC_FAIL (R218): A restored chunk fails its CRC; STR reconstructs once and the read fails with STS_CHUNK_CRC
  if it persists. -/
  | chunkCrcFail (addr : Nat) (persists : Bool)
  /-- KEY_UNWRAP_SLOT (R235): CIP_KEY_CMD OP 1 unwraps a blob into a key slot. -/
  | keyUnwrapSlot (target kek : Nat) (pad : Bool) (blobLen : Nat)
  /-- KEY_UNWRAP_KEK (R235): CIP_KEY_CMD OP 2 unwraps a blob into a KEK slot. -/
  | keyUnwrapKek (target kek : Nat) (pad : Bool) (blobLen : Nat)
  /-- KEY_ERASE_SLOT (R237): CIP_KEY_CMD OP 3 moves a LOADED unbound key slot to ERASING. -/
  | keyEraseSlot (target : Nat)
  /-- KEY_ERASE_KEK (R236): CIP_KEY_CMD OP 4 erases a KEK slot at once, refused for KEK 0. -/
  | keyEraseKek (target : Nat)
  /-- KEY_ERASE_END (R237): The last job bound to an ERASING slot completes; the slot is zeroed, made EMPTY and the erase
  completes. -/
  | keyEraseEnd (slot : Nat)
  /-- KEY_STORE_FAULT (R239): A key store entry fails its tag on a fill; the slot becomes EMPTY and a record is written. -/
  | keyStoreFault (slot : Nat)
  /-- CHECKPOINT_START (R257): The interval or delta bytes of an ownership set trigger a checkpoint, which fixes its
  fences. -/
  | checkpointStart (oset : Nat)
  /-- CHECKPOINT_STRIPES_DONE (R258): Every metadata stripe of a checkpoint has passed parity program and the directory is
  written to both rings. -/
  | checkpointStripesDone (oset : Nat) (stripes : List StripeAt)
  /-- CHECKPOINT_DIRECTORY_DONE (R258): The directory is persistent; covered deltas stop being live and superseded pages
  become invalid. -/
  | checkpointDirectoryDone (oset : Nat) (copyFailed : Bool)
  /-- MAP_CKPT_CMD (R268): MAP_CKPT_CMD.START starts a checkpoint of every owned set. -/
  | mapCkptCmd
  /-- MAP_DIRTY_THRESHOLD (R261): Dirty frames reach DIRTY_PCT and a checkpoint of the set with the most dirty frames
  starts. -/
  | mapDirtyThreshold
  /-- MAP_ENABLE (R260): Setting MAP_CTRL.ENABLE starts recovery of held ownership sets by the steps of Table 11.5. -/
  | mapEnable
  /-- RECOVERY_SET_SERVE (R260): Step 5 of recovery ends for a set and it is served, with deltas merged on first use. -/
  | recoverySetServe (oset : Nat) (summaries : List (Bool × List Delta)) (wseqs : List (Nat × Nat)) (torn : Bool)
  /-- MAP_DELTA_APPLY (R256): A map-delta entry is applied to a leaf entry by its write sequence and RELOC flag. -/
  | mapDeltaApply (mirror : Bool) (jseq : Nat)
  /-- MAP_PAGE_FETCH (R261): A map page is fetched from flash into a clean frame, waiting for a checkpoint when none is
  clean. -/
  | mapPageFetch (page level stripe : Nat) (got : PageGot) (accs : List MdcAcc)
  /-- MDC_UNCORRECTABLE (R267): An uncorrectable error in an MDC line invalidates it and refetches it, or reports a dirty
  line to MAP for rebuild. -/
  | mdcUncorrectable (line page level stripe : Nat) (got : PageGot)
  /-- MDC_WAYGRP_POWER_DOWN (R265): MDC_WAYGRP_CMD OP 1 moves an ON way group to CLEANING. -/
  | mdcWaygrpPowerDown (group : Nat)
  /-- MDC_WAYGRP_POWER_UP (R265): MDC_WAYGRP_CMD OP 2 moves an OFF way group to WAKING. -/
  | mdcWaygrpPowerUp (group : Nat)
  /-- MDC_CLEAN_SWEEP_END (R265): The clean sweep of a way group ends and its domain is switched off. -/
  | mdcCleanSweepEnd (group : Nat)
  /-- MDC_WAKE_END (R265): A waking way group's domain is up and the group becomes ON with every line invalid. -/
  | mdcWakeEnd (group : Nat)
  /-- FLC_ENABLE (R270): Setting FLC_CTRL.ENABLE reads parameter pages, checks geometry and trains held channels. -/
  | flcEnable (pages : List (Nat × ParamPage)) (bads : List Nat)
  /-- CHANNEL_TRAINING (R273): A channel is trained at the configured rate, retried one rate lower, and marked failed
  after a second failure. -/
  | channelTraining (chan : Nat) (ok okLower : Bool) (marginPs : Nat)
  /-- GROUP_TAKE_UP (R277): When a group's drivers enable FLC deasserts chip enables, applies training, polls or resets
  busy LUNs and resumes commands. -/
  | groupTakeUp (group : Nat) (busy : List Nat)
  /-- BUSY_LUN_TIMEOUT (R277): A LUN still busy after tPROG or tBERS maximum at take-up receives RESET. -/
  | busyLunTimeout (lun : Nat)
  /-- GROUP_LOST (R278): A group's drivers disable; commands in flight end, reads go to the partner and programs are
  reported failed. -/
  | groupLost (group : Nat)
  /-- MEDIA_READ_REQUEST (R14): A media read on VC 3 is served by the head holding the group and the decoded codeword
  returned. -/
  | mediaReadRequest (chan lun page marginPs : Nat) (cws : List CwRead)
  /-- PAGE_READ_DONE (R280): A sense completes and its codewords are decoded, escalating through retry and soft decode. -/
  | pageReadDone (addr marginPs : Nat) (cws : List CwRead)
  /-- OPERATION_SUSPEND (R275): A waiting read suspends an erase or program on a busy LUN and the operation resumes after
  up to 4 reads. -/
  | operationSuspend (lun reads : Nat) (erase : Bool)
  /-- ERASE_DONE (R289): A block erase completes, or fails and the block is retired. -/
  | eraseDone (block : Nat) (ok : Bool)
  /-- BLOCK_RETIRE (R289): A grown bad block is relocated, marked bad and consumes a PG spare, possibly changing the PG's
  media state. -/
  | blockRetire (block : Nat)
  /-- REFRESH_QUEUE (R287): A block is queued for refresh by age, read retries or read count. -/
  | refreshQueue (block : Nat)
  /-- VALLEY_SEARCH (R281): A family's read offsets are refined by sensing one page at stepped offsets. -/
  | valleySearch (lun window : Nat) (offsets : List Int)
  /-- TRACKING_SWEEP (R281): A firmware slot fires the tracking sweep that reaches each family and saves the tables. -/
  | trackingSweep (found : List (Nat × Nat × List Int))
  /-- WEAR_LEVEL_OFFER (R286): Wear spread exceeds WL_DELTA and the least-worn data block is offered to GCX. -/
  | wearLevelOffer (lun : Nat)
  /-- DESTAGE_STRIPE_PROGRAM (R300): A destage stripe programs data members, then member D − 1, then parity, writing SIF
  records as members pass. -/
  | destageStripeProgram (stripe : Nat)
  /-- OPEN_STRIPE_COMPLETE (R303): After takeover or recovery the new holder completes each OPEN or SEALED stripe by Table
  13.4. -/
  | openStripeComplete (at_ : StripeAt) (found : List Found)
  /-- RECONSTRUCT (R304): A member is reconstructed per codeword position from the lowest D readable members. -/
  | reconstruct (stripe : Nat) (bad : List (Nat × List Nat))
  /-- SPAN_UPDATE (R307): An initiator writes a SIF record and sends new data and parity deltas to a spanning stripe's
  holders. -/
  | spanUpdate (op band row : Nat) (change : Option (Nat × Nat × Nat))
  /-- SPAN_MESSAGE_RECEIVE (R307): A holder applies an OP 0, 1 or 2 span message of the next STEP through its acceptance
  and acknowledges, or refuses. -/
  | spanMessageReceive (m : SpanMsg)
  /-- SPAN_ACK_RECEIVE (R307): An OP 3 acknowledgement arrives and the update completes when every holder has answered. -/
  | spanAckReceive (m : SpanMsg)
  /-- SPAN_ACK_TIMEOUT (R307): ACK_TMO_US passes without acknowledgement; the message is resent or the holder marked
  failed. -/
  | spanAckTimeout (stripe : Nat)
  /-- STRIPE_LOST (R308): Failures in a codeword position exceed P; the stripe is marked LOST and its lost chunks marked
  and recorded. -/
  | stripeLost (stripe : Nat) (bad : List (Nat × List Nat))
  /-- LOST_CHUNK_SWEEP (R309): MAP sweeps deduplicating namespaces and marks leaf entries carrying a lost handle. -/
  | lostChunkSweep
  /-- PATROL_TRIGGER (R310): Trigger 0 of STR opens the patrol budget set by its loop. -/
  | patrolTrigger
  /-- PATROL_STRIPE_CHECK (R311): Patrol checks a stripe's tags, manifest and parity, reconstructing or queuing its band
  on a finding. -/
  | patrolStripeCheck (stripe : Nat) (erasures : List (Nat × Nat)) (differs : Bool) (culprits : List Nat) (budgetEnds passEnds : Bool)
  /-- REBUILD_BAND (R312): A band affected by a failed member is rebuilt by reconstruction and relocation in priority
  order. -/
  | rebuildBand
  /-- GCX_VICTIM_CHOICE (R318): GCX takes work of the lowest class waiting, scoring eligible bands for class 5. -/
  | gcxVictimChoice
  /-- RELOCATION_CLAIM (R322): A victim band is claimed, its summaries read, pins taken and valid chunks copied into
  relocation stripes. -/
  | relocationClaim (band : Nat) (moves : List (Nat × StripeAt × Nat))
  /-- RELOCATION_BATCH_RECORD (R322): A relocation stripe's parity passes program and its batched RELOC record is written. -/
  | relocationBatchRecord (stripe : Nat)
  /-- RELOCATION_RECORDS_PERSIST (R322): Every batched record of a band is persistent; pins are released and the band
  becomes FREE to erase or HELD. -/
  | relocationRecordsPersist (band : Nat)
  /-- BAND_ERASE (R322): GCX erases the band's blocks and returns them to free space when every erase passes. -/
  | bandErase (band : Nat)
  /-- REFERENCE_SWEEP (R323): Trigger 0 of GCX or a three-quarter-full table starts a sweep that rewrites leaf entries
  naming relocated shared chunks. -/
  | referenceSweep
  /-- REFERENCE_SWEEP_END (R323): A sweep pass ends with its records persistent and HELD bands begun before it are
  released. -/
  | referenceSweepEnd
  /-- GCX_RESCORE (R324): After recovery GCX recomputes u for every band and erases bands with u = 0. -/
  | gcxRescore
  /-- FOLD_BAND (R325): The fold relocates the live chunks of the oldest SLC buffer band into a native-mode stripe. -/
  | foldBand (moves : List (Nat × StripeAt × Nat))
  /-- ENORE_SESSION_OPEN (R335): A SEND with OP 1 opens a session and its window, or is refused. -/
  | enoreSessionOpen (r : SessReq)
  /-- ENORE_SESSION_ATTACH (R335): A SEND with OP 2 attaches to a session, resuming or creating its window. -/
  | enoreSessionAttach (r : SessReq)
  /-- ENORE_COMMAND_IMMEDIATE (R337): An RDMA WRITE with immediate delivers COUNT + 1 command records for reading and
  routing. -/
  | enoreCommandImmediate (session imm : Nat) (records : List EnoreRec)
  /-- PUT (R340): Enore PUT stores a value with a new version under its conditions. -/
  | put (session cmd : Nat) (value : Option Nat)
  /-- GET (R340): Enore GET writes the value to the client then the response. -/
  | get (session cmd : Nat) (xferOk short : Bool)
  /-- DELETE (R340): Enore DELETE removes a key. -/
  | delete (session cmd : Nat)
  /-- LIST (R343): Enore LIST walks the PG tree in key order within a bucket. -/
  | list (session cmd : Nat) (xferOk : Bool)
  /-- EXIST (R340): Enore EXIST reports length and version. -/
  | exist (session cmd : Nat)
  /-- STATE (R344): Enore STATE waits for read commands to be decided and writes B, H and the marked bitmap. -/
  | state (session cmd : Nat) (xferOk : Bool)
  /-- CLOSE (R340): Enore CLOSE ends the session and keeps its window for KEEP_S. -/
  | close (session cmd : Nat)
  /-- ENORE_RESPONSE_WRITE (R342): A response is written to the client's response area, with an immediate when RESP_IMM is
  set. -/
  | enoreResponseWrite (session index : Nat)
  /-- SESSION_IDLE_EXPIRY (R356): A session idle for IDLE_S is closed. -/
  | sessionIdleExpiry (session : Nat)
  /-- SESSION_KEEP_EXPIRY (R340): KEEP_S after close passes and the session window is dropped. -/
  | sessionKeepExpiry (session : Nat)
  /-- EPOCH_UPDATE_RECEIVE (R333): A granted placement update is received and scheduled for its T_EFF. -/
  | epochUpdateReceive (epoch tEff : Nat) (changes : List PlaceChange)
  /-- EPOCH_UPDATE_APPLY (R333): Cluster time reaches an update's T_EFF and the head applies it in epoch order. -/
  | epochUpdateApply
  /-- EPOCH_FETCH (R333): A higher epoch is seen and missing updates are fetched from the authority before routing. -/
  | epochFetch (updates : Option (List (Nat × Nat × List PlaceChange)))
  /-- BALANCING_ROUND (R349): Trigger 0 of KVS sends fill and heat to the authority and may start an outgoing Caravan. -/
  | balancingRound (answer : Option (Nat × Nat × Nat × Nat))
  /-- CARAVAN_PROPOSE (R350): The target receives a proposal and reserves space or refuses. -/
  | caravanPropose (peer : Nat) (buckets : List Nat) (bytes : Nat) (answer : Option Bool)
  /-- CARAVAN_COPY_BATCH (R350): A Caravan delta batch is received and accepted by the target. -/
  | caravanCopyBatch (b : Batch)
  /-- CARAVAN_GRANT (R350): The delta falls below DELTA_MIB and the source requests the epoch with T_c. -/
  | caravanGrant (grant : Option (Nat × Nat))
  /-- CARAVAN_CUTOVER (R351): At T_c the source stops accepting writes for the range and ships the final delta and slots. -/
  | caravanCutover
  /-- CARAVAN_INSTALL (R352): The target accepts the final delta, merges slots, raises counters, serves and acknowledges. -/
  | caravanInstall (final : Batch) (slots : List (Nat × Nat × List (Nat × Nat)))
  /-- CARAVAN_RELEASE (R350): The source deletes its copy after acknowledgement. -/
  | caravanRelease
  /-- CARAVAN_ABORT (R350): Either side aborts before GRANT and the target discards its copies. -/
  | caravanAbort (out : Bool)
  /-- CARAVAN_HOLD_EXPIRY (R353): A request held longer than HOLD_US completes STS_NOT_OWNER. -/
  | caravanHoldExpiry
  /-- MTE_SEARCH (R361): A search of one table returns the winning entry or the default. -/
  | mteSearch (blk table key : Nat)
  /-- MTE_UPDATE_WRITE (R363): An update replaces a whole entry atomically. -/
  | mteUpdateWrite (fromQueue : Bool) (index : Nat) (image : MteEntry)
  /-- MTE_UPDATE_INVALIDATE (R363): An update clears an entry's VALID. -/
  | mteUpdateInvalidate (fromQueue : Bool) (index : Nat)
  /-- MTE_UPDATE_RESULT (R363): An update replaces an entry's RESULT only. -/
  | mteUpdateResult (fromQueue : Bool) (index result : Nat)
  /-- MTE_BULK_ENTER (R365): MTE_BANK_CMD OP 1 puts an uncovered bank in bulk-load mode. -/
  | mteBulkEnter (bank : Nat)
  /-- MTE_BULK_LEAVE (R365): MTE_BANK_CMD OP 2 takes a bank out of bulk-load mode. -/
  | mteBulkLeave (bank : Nat)
  /-- MTE_BANK_POWER_DOWN (R367): MTE_BANK_CMD OP 3 powers a bank pair down unless a table covers it. -/
  | mteBankPowerDown (bank : Nat)
  /-- MTE_BANK_POWER_UP (R367): MTE_BANK_CMD OP 4 powers a bank pair up with entries invalid. -/
  | mteBankPowerUp (bank : Nat)
  /-- MTE_BULK_LOAD (R365): MTE_BULK_CMD loads entry images from DDR5 into a bank in bulk-load mode. -/
  | mteBulkLoad (bank first count : Nat) (images : Option (List MteEntry))
  /-- MTE_SEARCH_CMD (R368): MTE_SEARCH_CMD runs one test search from BAR0. -/
  | mteSearchCmd (table : Nat)
  /-- OWN_ENABLE (R371): Setting OWN_CTRL.ENABLE enters ACQUIRING and sends ACQUIRE. -/
  | ownEnable
  /-- RENEW_SEND (R371): Every L/4 the holder sends RENEW to all three innkeepers. -/
  | renewSend
  /-- INNKEEPER_REPLY (R375): A GRANT, REFUSE or RECORD reply arrives and a majority makes the requester act or update
  E_h. -/
  | innkeeperReply (m : IkMsg) (whole : List Nat)
  /-- REQUEST_ABANDON (R375): A request without a majority by T_SEND + L is abandoned and a renewal failure noted. -/
  | requestAbandon (tSend : Nat)
  /-- LEASE_TIMER_EXPIRY (R378): The hardware lease timer reaches zero; claims drop, the head self-fences and FENCED is
  sent. -/
  | leaseTimerExpiry
  /-- IK_RENEW (R374): An innkeeper grants or refuses a RENEW. -/
  | ikRenew (m : IkMsg)
  /-- IK_ACQUIRE (R374): An innkeeper grants or refuses an ACQUIRE. -/
  | ikAcquire (m : IkMsg)
  /-- IK_TAKE (R374): An innkeeper grants a TAKE, or holds it while the other side's lease runs. -/
  | ikTake (m : IkMsg)
  /-- IK_HANDOVER (R374): An innkeeper grants or refuses a HANDOVER. -/
  | ikHandover (m : IkMsg)
  /-- IK_QUERY (R374): An innkeeper answers a QUERY with RECORD. -/
  | ikQuery (m : IkMsg)
  /-- IK_HELD_TAKE_EXPIRY (R374): The other side's EXP passes and the innkeeper grants the held TAKE. -/
  | ikHeldTakeExpiry (array : Nat)
  /-- IK_RECOVERY_END (R376): 20.1 ms after restart the innkeeper starts every record empty. -/
  | ikRecoveryEnd
  /-- TAKE_SEND (R384): On suspicion with the link down, or a FENCED drumbeat, the head sends TAKE and refuses the
  partner's mirror records. -/
  | takeSend
  /-- GROUP_CLAIM (R380): The head sets a group's mask bit, asserts its claim and waits for the settle time. -/
  | groupClaim (group : Nat)
  /-- GROUP_RELEASE (R381): The head stops opening stripes on a group, lets operations end, deasserts its claim and clears
  the mask. -/
  | groupRelease (group : Nat)
  /-- HANDOVER_SET (R387): A head moves a set to MOVING, drains it, sends HANDOVER and signals the partner after the
  grant. -/
  | handoverSet (oset : Nat)
  /-- HANDOVER_SIGNAL_RECEIVE (R387): The partner receives the VC 0 signal and activates the set from its mirror index. -/
  | handoverSignalReceive (kind object agen : Nat) (whole : List Nat)
  /-- RETURN_HOLD_EXPIRY (R388): RETURN_HOLD_S after the mirror is in service the returning head asks for its home
  objects. -/
  | returnHoldExpiry
  /-- RETURN_REQUEST_RECEIVE (R388): The partner releases FENCE_OUT_N and hands back the home sets and groups. -/
  | returnRequestReceive
  /-- OWNERSHIP_DRILL (R389): Trigger 0 of OWN drills one group through handover, claim, retrain, fence pulses and
  hand-back, or skips it. -/
  | ownershipDrill (failStep : Nat) (partnerHeld partnerDegraded : Bool)
  /-- OWN_HAND_OVER_ALL (R387): OWN_CMD OP 1 hands over every set and group. -/
  | ownHandOverAll
  /-- OWN_ASK_RETURN (R388): OWN_CMD OP 2 asks the partner for home objects now. -/
  | ownAskReturn
  /-- OWN_HAND_OVER_OSET (R387): OWN_CMD OP 3 hands over one ownership set. -/
  | ownHandOverOset (oset : Nat)
  /-- OWN_HAND_OVER_GROUP (R387): OWN_CMD OP 4 hands over one channel group. -/
  | ownHandOverGroup (group : Nat)
  /-- OWN_DRILL_NOW (R389): OWN_CMD OP 5 drills a named group now. -/
  | ownDrillNow (group failStep : Nat) (partnerHeld partnerDegraded : Bool)
  /-- SNAP_CREATE (R402): SNP_CMD OP 1 creates a snapshot cut at T, armed when its catalogue flush is persistent. -/
  | snapCreate
  /-- SNAP_DELETE (R408): SNP_CMD OP 2 deletes a frozen epoch by merging it into its successor. -/
  | snapDelete
  /-- SNAP_CLONE (R407): SNP_CMD OP 3 creates a clone namespace from a READY epoch. -/
  | snapClone
  /-- REPLICA_PROMOTE (R411): SNP_CMD OP 4 makes a replica writable at its frozen or pending epoch. -/
  | replicaPromote
  /-- SNAP_ATTACH (R407): SNP_CMD OP 5 attaches a READY epoch as a read-only namespace. -/
  | snapAttach
  /-- CATALOGUE_FLUSH_DONE (R403): A catalogue flush becomes persistent and the change it records takes effect. -/
  | catalogueFlushDone (ok : Bool)
  /-- CUT_INSTANT (R405): The owner's clock reaches T; the epoch moves to SEALING or writes are held while the cut is
  unarmed. -/
  | cutInstant (epoch : Nat)
  /-- CUT_READY (R405): Every write stamped up to T has its STAMP persistent and the epoch becomes READY with event
  0x0007. -/
  | cutReady (epoch : Nat)
  /-- SCHEDULE_CUT_TRIGGER (R406): An SNP trigger takes a scheduled cut and deletes the oldest beyond KEEP. -/
  | scheduleCutTrigger (sched : Nat)
  /-- REPLICATION_DELTA_SHIP (R410): For a cut the source ships the delta from the link's base in batches. -/
  | replicationDeltaShip (link epoch : Nat)
  /-- REPLICATION_BATCH_RECEIVE (R411): The target applies batch records by source write sequence and freezes the epoch
  after the last batch. -/
  | replicationBatchReceive (nsid : Nat) (b : Batch)
  /-- REPLICATION_ACK_RECEIVE (R416): A KIND 4 acknowledgement moves the base pin and may move the link to SYNC. -/
  | replicationAckReceive (link seq status : Nat)
  /-- REPLICATION_BATCH_TIMEOUT (R409): A batch without reply after SYNC_TMO_US is resent. -/
  | replicationBatchTimeout (link seq : Nat)
  /-- SYNC_WRITE_SEND (R413): On a SYNC link each accepted write is sent as a KIND 3 batch before its completion. -/
  | syncWriteSend (op : Nat)
  /-- SYNC_WRITE_TIMEOUT (R413): No acknowledgement within 4 × SYNC_TMO_US; the write completes locally and the link
  enters CATCHUP. -/
  | syncWriteTimeout (link seq : Nat)
  /-- CATCHUP_CUT_ARM (R415): The pending delta falls below 64 MiB and an internal cut C_r is armed. -/
  | catchupCutArm (link : Nat)
  /-- LINK_SUSPEND (R414): The target is unreachable for 1 s and the link becomes SUSPENDED. -/
  | linkSuspend (link : Nat)
  /-- RPO_MISS (R412): A link's lag exceeds RPO_MS; RPO_MISS is set and a record written. -/
  | rpoMiss (link : Nat)
  /-- LOOP_SAMPLE (R421): A Carillon action 0x4 starts a loop sample that computes and writes its output. -/
  | loopSample (loop : Nat) (late : Bool) (delayNs : Nat) (reading : Option Int)
  /-- LOOP_LOCAL_SAMPLE (R423): Before lock a LOCAL loop samples every LOCAL_PERIOD_US of the reference. -/
  | loopLocalSample (loop delayNs : Nat) (reading : Option Int)
  /-- LOOP_ENABLE (R429): Setting a loop's ENABLE starts it from the output in force. -/
  | loopEnable (loop : Nat)
  /-- LOOP_DISABLE (R429): Clearing a loop's ENABLE discards its pending sample and writes SAFE_OUT. -/
  | loopDisable (loop : Nat)
  /-- LOOP_SWAP (R427): Writing SWAP makes the other coefficient bank the one in use from the next sample. -/
  | loopSwap (loop : Nat)
  /-- AGE_SWEEP (R433): Trigger 0 of AGE or its enable reads every monitor, re-plans the set-point and ceiling and
  publishes margins. -/
  | ageSweep (r : AgeRead)
  /-- GBK_RECORD_STAGE (R457): A source delivers a record to staging, where it gets its SEQ or is dropped and counted. -/
  | gbkRecordStage (source code arg0 arg1 arg2 : Nat) (alarm : Bool)
  /-- GBK_RECORD_WRITE (R458): A staged record is written to its PJM slot and mirrored to the partner. -/
  | gbkRecordWrite
  /-- GBK_RESET_SCAN (R459): With PJM and GBK enabled GBK scans its region and resumes at the highest valid SEQ + 1. -/
  | gbkResetScan (partner : List GbkRec)
  /-- GBK_COPY (R460): GBK_COPY_CMD copies COUNT records in SEQ order to host memory or DDR5. -/
  | gbkCopy (count dst : Nat) (partner : Bool) (other : List GbkRec) (xferOk : Bool)
  /-- GBK_CLEAR (R461): GBK_CLEAR_CMD verifies a clear token and zeroes records up to UPTO, or refuses with a record. -/
  | gbkClear
  /-- LEAP_SECOND_ADJUST (R456): At the end of an announced leap second UTC_OFFSET is adjusted and the announcement
  cleared. -/
  | leapSecondAdjust
  /-- FWU_STAGE (R470): FWU_CMD OP 1 writes and verifies an image into the free slot. -/
  | fwuStage (img : FwImage)
  /-- FWU_CANCEL (R478): FWU_CMD OP 2 cancels a PENDING activation. -/
  | fwuCancel
  /-- FWU_ERASE_SLOT (R473): FWU_CMD OP 3 erases a STAGED slot after writing PREV_VALID 0. -/
  | fwuEraseSlot
  /-- FW_ACTIVATION (R472): Trigger 0 of FWU checks the partner, hands everything over, writes a trial boot record and
  resets the main domain. -/
  | fwActivation (partnerHeld partnerDegraded : Bool)
  /-- FW_CONFIRM (R473): A write of the running FW_GEN to FWU_CONFIRM before DEADLINE makes the image RUNNING. -/
  | fwConfirm (gen : Nat)
  /-- FW_DEADLINE (R474): Trigger 1 of FWU finds the image unconfirmed and falls back to the previous image. -/
  | fwDeadline
  /-- FW_BACKSTOP_EXPIRY (R475): The always-on backstop counter reaches zero and resets the main domain. -/
  | fwBackstopExpiry
  /-- PWR_DOMAIN_OFF (R480): PWR_DOM_CMD OP 1 queues a power-off of a domain, which drains and goes off or is refused. -/
  | pwrDomainOff (domain : Nat)
  /-- PWR_DOMAIN_ON (R481): PWR_DOM_CMD OP 2 queues a power-on of a domain. -/
  | pwrDomainOn (domain : Nat)
  /-- DOMAIN_SWITCH_END (R481): A domain finishes switching and the next queued request is judged. -/
  | domainSwitchEnd
  /-- PMBUS_POLL (R483): Every POLL_US PWR reads STATUS_WORD and READ_POUT of each listed regulator. -/
  | pmbusPoll (answers : List PmbAnswer) (measMv : Option Nat)
  /-- PMB_ALERT (R483): PMB_ALERT_N falls and PWR reads STATUS_WORD at once. -/
  | pmbAlert (answers : List PmbAnswer)
  /-- PWRGD_LOW (R483): A chain's power-good input has been low for 2 µs. -/
  | pwrgdLow (chain : Nat)
  /-- CHAIN_FAULT (R483): PWR declares a chain fault, clears its good bit, writes a record and reports to OWN. -/
  | chainFault (chain : Nat) (partnerDegraded : Bool)
  /-- CHAIN_GOOD (R483): A chain's power-good and status have been clean for 1 s and it is reported good again. -/
  | chainGood (chain : Nat)
  /-- AVS_VOUT_WRITE (R485): PWR steps the VDD regulators toward loop 0's output by VOUT_COMMAND writes. -/
  | avsVoutWrite (naks : List Nat)
  /-- PWR_RST_CMD (R488): A write to PWR_RST_CMD.MAIN starts a main-domain reset. -/
  | pwrRstCmd
  /-- JTAG_TAP_RESET (R526): JTAG_TRST_N or five TCK cycles with TMS high reset the TAP and boundary cells. -/
  | jtagTapReset
  /-- BYPASS (R526): JTAG BYPASS selects the 1-bit register. -/
  | bypass
  /-- IDCODE (R526): JTAG IDCODE returns the 32-bit identifier. -/
  | idcode
  /-- SAMPLE_PRELOAD (R526): JTAG SAMPLE/PRELOAD captures and preloads the boundary register. -/
  | samplePreload (captured preload : Nat)
  /-- EXTEST (R528): JTAG EXTEST drives boundary values when allowed, else loads BYPASS and sets SCAN_REFUSED. -/
  | extest
  /-- EXTEST_PULSE (R528): JTAG EXTEST_PULSE of IEEE 1149.6, allowed as EXTEST. -/
  | extestPulse
  /-- EXTEST_TRAIN (R528): JTAG EXTEST_TRAIN of IEEE 1149.6, allowed as EXTEST. -/
  | extestTrain
  /-- CLAMP (R528): JTAG CLAMP holds outputs from the boundary register, allowed as EXTEST. -/
  | clamp
  /-- HIGHZ (R528): JTAG HIGHZ puts outputs at high impedance, allowed as EXTEST. -/
  | highz
  /-- REG_ACCESS (R529): JTAG REG_ACCESS performs one BAR0 access at Update-DR. -/
  | regAccess (off size : Nat) (write : Option Nat)
  /-- FUSE_PROG (R531): JTAG FUSE_PROG or DBG_FUSE_CMD programs one fuse field once and reads it back. -/
  | fuseProg (field : Nat) (jtag : Option Nat)
  /-- LOOPBACK_START (R534): A write to DBG_LOOP starts PRBS31 loopback on an allowed lane or channel. -/
  | loopbackStart (kind target ms : Nat)
  /-- LOOPBACK_END (R534): The loopback ends after MS, or early when a flash group's drivers disable. -/
  | loopbackEnd (errors : Nat)
  /-- ALWAYS_ON_FEEDS_LOST (R487): Both always-on feeds fall below 1.6 V; the always-on domain holds the main domain in
  reset and its state, GBK_ALARM included, is lost. -/
  | alwaysOnFeedsLost
  /-- MEDIA_READ_RESPONSE_RECEIVE (R14): The codeword returned by the partner for a media read arrives over VC 3 and the
  waiting read continues with decryption and decompression. -/
  | mediaReadResponseReceive (chan lun page : Nat)
  /-- INDEX_ANSWER_RECEIVE (R199): The answer of the partner's index half to a lookup or reservation arrives on VC 2 and
  the chunk's lookup outcome is decided. -/
  | indexAnswerReceive (fp domain : Nat) (out : ChunkOut)
  /-- CATCHUP_REQUEST_RECEIVE (R189): The partner's catch-up request arrives and the head sends every live record of its
  own log on VC 3 while mirroring new records on VC 1. -/
  | catchupRequestReceive (chan : Option Nat)
  /-- AUTHORITY_REQUEST_RECEIVE (R333): A head of an authority array receives a placement update request, a fill and heat
  report or an update fetch, and grants, answers or returns updates. -/
  | authorityRequestReceive (array : Nat) (q : AuthReq)
  /-- RDMA_CM_REQUEST (R135): An RDMA CM connection request arrives on queue pair 1 over Unreliable Datagram, is
  classified by tenant and sets up a Reliable Connected queue pair for NVMe/RDMA or Enore. -/
  | rdmaCmRequest (lane port tenant line remotePsn ownPsn : Nat)
  /-- PTP_DELAY_REQ_SEND (R57): Every 2^DELAY_REQ_LOG s the head sends a Delay_Req or Pdelay_Req on the port it follows
  and timestamps it. -/
  | ptpDelayReqSend
deriving DecidableEq, Repr

end Sys2Proof
end

