-- ==== Sys2Proof/Decode.lean ====
section
/-!
DEFINITION. The words that spell a command.  spec/opcode_table.json gives no row any bits: no word spells one.
-/
namespace Sys2Proof

/-- The command that a word of `nbits` bits spells: none, because no row of the table has bits. -/
def decodeTableWord (_nbits _w : Nat) : Option Instr := none

end Sys2Proof
end

