-- ==== Sys2Proof/Config.lean ====
section
/-!
DEFINITION. What the spec leaves open and no command brings in from outside: free values.  Each is a constant without a
body, so no proof can know a value of it.
-/
namespace Sys2Proof.Config

/-- A value the spec leaves open and that no rule bounds, for the n-th draw (`State.free`). -/
opaque freeNat : Nat → Nat

/-- A truth value the spec leaves open, for the n-th draw. -/
opaque freeBool : Nat → Bool

/-- Which of a namespace's PGs, counted from PG_FIRST, holds a logical block: NSID, LBA (Table 20.4 gives no rule). -/
opaque pgIndex : Nat → Nat → Nat

/-- Bytes of the compressed stream of a content: format, level, content, length (R213: not part of the contract). -/
opaque compLen : Nat → Nat → Nat → Nat → Nat

/-- The compressed stream itself: format, level, content, length (R213). -/
opaque compData : Nat → Nat → Nat → Nat → Nat

/-- Bytes of one 65,536-byte segment of a COMPRESS job: format, level, content, length, segment (R213, R219). -/
opaque compSeg : Nat → Nat → Nat → Nat → Nat → List Nat

/-- What a compressed stream decodes to: format, stream, bytes of it; the spec takes the formats from outside (R213).  The output
bytes before its end or its first fault; whether it is valid; and the input consumed for a number of output bytes. -/
opaque decoded : Nat → Nat → Nat → List Nat
opaque decodedOk : Nat → Nat → Nat → Bool
opaque decodedAt : Nat → Nat → Nat → Nat → Nat

/-- The content of a chunk, by its address, that this head has not stored itself: the flash as its partner, or an earlier life
of the head, left it. -/
opaque flashChunk : Nat → Nat

/-- Blocks that a configuration grants a placement group: PG, generation of the image (the image carries no such field). -/
opaque pgGrant : Nat → Nat → Nat

/-- MiB of each journal channel (`PJM_CH_STATUS.SIZE_MIB`): 256 to 2,048 by the devices fitted (Table 08.1). -/
opaque pjmMib : Nat

/-- A temperature sensor (`AGE_TS`): its reading, Q8.8, and whether it passed its self-check; sensor, local time. -/
opaque sensorC : Nat → Nat → Nat
opaque sensorOk : Nat → Nat → Bool

/-- Firmware's own values of its loops (R420): loop; 0 RAMP, 1 N, 2 A, 3 G, 4 Y0, 5 RBOUND, 6 to 9 and 10 to 13 KP, KI, KD and BIAS of banks
0 and 1. -/
opaque fwLoop : Nat → Nat → Nat

/-- Bytes of the DDR5 fitted (the spec does not fix the size, but for its 3 TiB at most). -/
opaque ddr5Bytes : Nat

/-- The least DDR5 a head has: one RDIMM of 16 GiB (PRESUMED; log entry on the DDR5 size). -/
def ddr5Least : Nat := 2 ^ 34

/-- A controller property's bits that the spec does not give: offset (CAP, VS and the rest). -/
opaque nvmeProperty : Nat → Nat

/-- Identify data the spec does not give: CNS, NSID; 4,096 bytes. -/
opaque nvmeIdentify : Nat → Nat → Nat

/-- A log page the spec does not give: log identifier, NSID. -/
opaque nvmeLog : Nat → Nat → Nat

/-- The value of a feature no host has set: feature identifier. -/
opaque nvmeFeature : Nat → Nat

/-- An RDIMM is fitted on a DDR5 channel (the spec leaves it to the board). -/
opaque rdimmFitted : Nat → Bool

end Sys2Proof.Config
end

