-- ==== Sys2Proof/Machine/Status.lean ====
section
/-!
DEFINITION. Status codes (R5, R6): Table 00.3 and the tables of codes the chapters add.
-/
namespace Sys2Proof.Machine

abbrev STS_OK : Nat := 0x0000
abbrev STS_DUPLICATE_REPLAYED : Nat := 0x0001
abbrev STS_SEQ_STALE : Nat := 0x0102
abbrev STS_SEQ_AHEAD : Nat := 0x0103
abbrev STS_CUT_TOO_LATE : Nat := 0x0104
abbrev STS_MOVED : Nat := 0x0201
abbrev STS_NOT_OWNER : Nat := 0x0202
abbrev STS_PATH_INACCESSIBLE : Nat := 0x0203
abbrev STS_LEASE_HELD : Nat := 0x0204
abbrev STS_LEASE_STALE : Nat := 0x0205
abbrev STS_IK_RECOVERING : Nat := 0x0206
abbrev STS_CAPACITY_EXHAUSTED : Nat := 0x0301
abbrev STS_WRITE_PROTECTED : Nat := 0x0302
abbrev STS_OUTPUT_EXHAUSTED : Nat := 0x0303
abbrev STS_LBA_RANGE : Nat := 0x0304
abbrev STS_NO_BUFFER : Nat := 0x0305
abbrev STS_SNAP_LIMIT : Nat := 0x0306
abbrev STS_SNAP_IN_USE : Nat := 0x0307
abbrev STS_SLOT_PROTECTED : Nat := 0x0308
abbrev STS_DOMAIN_IN_USE : Nat := 0x0309
abbrev STS_LOST_EXTENT : Nat := 0x0401
abbrev STS_CHUNK_CRC : Nat := 0x0402
abbrev STS_STREAM_INVALID : Nat := 0x0403
abbrev STS_MEDIA_UNREADABLE : Nat := 0x0404
abbrev STS_SPAN_SHORT : Nat := 0x0405
abbrev STS_BUFFER_STATE : Nat := 0x0408
abbrev STS_AUTH_FAIL : Nat := 0x0501
abbrev STS_WINDOW_REVOKED : Nat := 0x0502
abbrev STS_BAD_DESCRIPTOR : Nat := 0x0503
abbrev STS_ACCESS_DENIED : Nat := 0x0504
abbrev STS_HOST_XFER_FAIL : Nat := 0x0505
abbrev STS_INVALID_OPCODE : Nat := 0x0506
abbrev STS_INVALID_NAMESPACE : Nat := 0x0507
abbrev STS_QP_FAILED : Nat := 0x0508
abbrev STS_KEY_EMPTY : Nat := 0x0509
abbrev STS_KEY_KIND : Nat := 0x050A
abbrev STS_UNWRAP_FAIL : Nat := 0x050B
abbrev STS_KEY_IN_USE : Nat := 0x050C
abbrev STS_KEY_ABSENT : Nat := 0x050D
abbrev STS_KEY_EXISTS : Nat := 0x050E
abbrev STS_VERSION_MISMATCH : Nat := 0x050F
abbrev STS_KEY_SIZE : Nat := 0x0510
abbrev STS_VALUE_SIZE : Nat := 0x0511
abbrev STS_IMAGE_INVALID : Nat := 0x0512
abbrev STS_IMAGE_SIG : Nat := 0x0513
abbrev STS_ADM_REFUSED : Nat := 0x0601
abbrev STS_DEFERRED_ERROR : Nat := 0x0701
abbrev STS_REPLICA_DROPPED : Nat := 0x0702

end Sys2Proof.Machine
end

