-- ==== Sys2Proof/Machine/RegTable.lean ====
section
/-!
DEFINITION. The register fields of the head, one definition per field, from the register map tables and
the field tables of spec/ (499 registers; Table 25.1 counts them).  Each docstring gives the field's place, access
type and change class as its table has them, then the table's own Meaning.
-/
namespace Sys2Proof.Machine

/-- The access types of Table 00.2 (R2). -/
inductive Acc where
  | ro | rw | w1c | w1s | wo | rc
deriving DecidableEq, Repr

/-- The change classes of R4; `fixed` where the table gives none. -/
inductive Cls where
  | s | g | l | fixed
deriving DecidableEq, Repr

/-- One row of a field table.  `reg` is the byte offset of the register in its block's window (R518), `lo` and `width`
the field's bits, `reset` its reset value.  An indexed register has `count` rows from index `first`, `stride` BITS apart; a
doubly indexed one `count2` columns `stride2` bits apart. -/
structure Field where
  blk : Nat
  reg : Nat
  lo : Nat
  width : Nat
  acc : Acc
  cls : Cls
  reset : Nat
  first : Nat
  count : Nat
  stride : Nat
  count2 : Nat
  stride2 : Nat
deriving DecidableEq, Repr

/-- The bit address of an index of a field in BAR0 (R518): block b begins at byte b × 0x10_0000. -/
def Field.key (f : Field) (i j : Nat) : Nat :=
  (f.blk * 1048576 + f.reg) * 8 + f.lo + i * f.stride + j * f.stride2


/-! The block indices of Table 25.1. -/

/-- Block index of GLB (Table 25.1). -/
abbrev Blk.GLB : Nat := 0

/-- Block index of CAR (Table 25.1). -/
abbrev Blk.CAR : Nat := 1

/-- Block index of HRI (Table 25.1). -/
abbrev Blk.HRI : Nat := 2

/-- Block index of NET (Table 25.1). -/
abbrev Blk.NET : Nat := 3

/-- Block index of NVF (Table 25.1). -/
abbrev Blk.NVF : Nat := 4

/-- Block index of RDM (Table 25.1). -/
abbrev Blk.RDM : Nat := 5

/-- Block index of POL (Table 25.1). -/
abbrev Blk.POL : Nat := 6

/-- Block index of PJM (Table 25.1). -/
abbrev Blk.PJM : Nat := 7

/-- Block index of ISL (Table 25.1). -/
abbrev Blk.ISL : Nat := 8

/-- Block index of DDP (Table 25.1). -/
abbrev Blk.DDP : Nat := 9

/-- Block index of CMP (Table 25.1). -/
abbrev Blk.CMP : Nat := 10

/-- Block index of CIP (Table 25.1). -/
abbrev Blk.CIP : Nat := 11

/-- Block index of MAP (Table 25.1). -/
abbrev Blk.MAP : Nat := 12

/-- Block index of MDC (Table 25.1). -/
abbrev Blk.MDC : Nat := 13

/-- Block index of FLC (Table 25.1). -/
abbrev Blk.FLC : Nat := 14

/-- Block index of STR (Table 25.1). -/
abbrev Blk.STR : Nat := 15

/-- Block index of GCX (Table 25.1). -/
abbrev Blk.GCX : Nat := 16

/-- Block index of KVS (Table 25.1). -/
abbrev Blk.KVS : Nat := 17

/-- Block index of MTE (Table 25.1). -/
abbrev Blk.MTE : Nat := 18

/-- Block index of OWN (Table 25.1). -/
abbrev Blk.OWN : Nat := 19

/-- Block index of SNP (Table 25.1). -/
abbrev Blk.SNP : Nat := 20

/-- Block index of LPE (Table 25.1). -/
abbrev Blk.LPE : Nat := 21

/-- Block index of AGE (Table 25.1). -/
abbrev Blk.AGE : Nat := 22

/-- Block index of ADM (Table 25.1). -/
abbrev Blk.ADM : Nat := 23

/-- Block index of GBK (Table 25.1). -/
abbrev Blk.GBK : Nat := 24

/-- Block index of FWU (Table 25.1). -/
abbrev Blk.FWU : Nat := 25

/-- Block index of PWR (Table 25.1). -/
abbrev Blk.PWR : Nat := 26

/-- Block index of DBG (Table 25.1). -/
abbrev Blk.DBG : Nat := 27


namespace Fld

/-- Table 03.4: `CAR_SLOT[n].INSTANT_NS`, RW, class L: Instant I₀, CT64 nanoseconds; advanced by the head after each periodic firing. -/
def CAR_SLOT_INSTANT_NS : Field :=
  ⟨1, 0x80000, 0, 64, .rw, .l, 0, 0, 16384, 256, 1, 0⟩

/-- Table 03.4: `CAR_SLOT[n].INSTANT_FRAC`, RW, class L: CT64 fraction. -/
def CAR_SLOT_INSTANT_FRAC : Field :=
  ⟨1, 0x80000, 64, 16, .rw, .l, 0, 0, 16384, 256, 1, 0⟩

/-- Table 03.4: `CAR_SLOT[n].COORD`, RW, class L: Coordinated: a time-dependent configuration while ARMED or HELD (R447); arm refused by R67 and R448. -/
def CAR_SLOT_COORD : Field :=
  ⟨1, 0x80000, 80, 1, .rw, .l, 0, 0, 16384, 256, 1, 0⟩

/-- Table 03.4: `CAR_SLOT[n].LOG_LATE`, RW, class L: Write a Guestbook record on each late firing. -/
def CAR_SLOT_LOG_LATE : Field :=
  ⟨1, 0x80000, 81, 1, .rw, .l, 0, 0, 16384, 256, 1, 0⟩

/-- Table 03.4: `CAR_SLOT[n].ARG`, RW, class L: Argument of the action. -/
def CAR_SLOT_ARG : Field :=
  ⟨1, 0x80000, 96, 32, .rw, .l, 0, 0, 16384, 256, 1, 0⟩

/-- Table 03.4: `CAR_SLOT[n].PERIOD_NS`, RW, class L: Period P in ns; 0 = one-shot; otherwise ≥ 1,000. -/
def CAR_SLOT_PERIOD_NS : Field :=
  ⟨1, 0x80000, 128, 64, .rw, .l, 0, 0, 16384, 256, 1, 0⟩

/-- Table 03.4: `CAR_SLOT[n].ACTION`, RW, class L: Table 03.3. -/
def CAR_SLOT_ACTION : Field :=
  ⟨1, 0x80000, 192, 4, .rw, .l, 0, 0, 16384, 256, 1, 0⟩

/-- Table 03.4: `CAR_SLOT[n].BLOCK`, RW, class L: Target block. -/
def CAR_SLOT_BLOCK : Field :=
  ⟨1, 0x80000, 196, 5, .rw, .l, 0, 0, 16384, 256, 1, 0⟩

/-- Table 03.4: `CAR_SLOT[n].TRIGGER`, RW, class L: Trigger input or loop index. -/
def CAR_SLOT_TRIGGER : Field :=
  ⟨1, 0x80000, 201, 7, .rw, .l, 0, 0, 16384, 256, 1, 0⟩

/-- Table 03.4: `CAR_SLOT[n].RING`, RW, class L: Ring pair for action 0x2. -/
def CAR_SLOT_RING : Field :=
  ⟨1, 0x80000, 208, 12, .rw, .l, 0, 0, 16384, 256, 1, 0⟩

/-- Table 03.4: `CAR_SLOT[n].FIRE_COUNT`, RO, class —: Firings, modulo 2^16. -/
def CAR_SLOT_FIRE_COUNT : Field :=
  ⟨1, 0x80000, 224, 16, .ro, .fixed, 0, 0, 16384, 256, 1, 0⟩

/-- Table 03.4: `CAR_SLOT[n].MISSED`, RO, class —: Occurrences passed over; saturates at 16,383. -/
def CAR_SLOT_MISSED : Field :=
  ⟨1, 0x80000, 240, 14, .ro, .fixed, 0, 0, 16384, 256, 1, 0⟩

/-- Table 03.4: `CAR_SLOT[n].STATE`, RO, class —: 0 IDLE, 1 ARMED, 2 HELD. -/
def CAR_SLOT_STATE : Field :=
  ⟨1, 0x80000, 254, 2, .ro, .fixed, 0, 0, 16384, 256, 1, 0⟩

/-- Table 03.6: `CAR_CTRL.ENABLE`, RW, class L: Time service enabled. -/
def CAR_CTRL_ENABLE : Field :=
  ⟨1, 0x0, 0, 1, .rw, .l, 0, 0, 1, 0, 1, 0⟩

/-- Table 03.6: `CAR_CTRL.SOURCE`, RW, class S: 0 PTP, 1 PTP with PPS_IN, 2 PPS_IN only, 3 reserved. -/
def CAR_CTRL_SOURCE : Field :=
  ⟨1, 0x0, 1, 2, .rw, .s, 0, 0, 1, 0, 1, 0⟩

/-- Table 03.6: `CAR_CTRL.PTP_PORT`, RW, class S: Primary port. -/
def CAR_CTRL_PTP_PORT : Field :=
  ⟨1, 0x0, 3, 5, .rw, .s, 0, 0, 1, 0, 1, 0⟩

/-- Table 03.6: `CAR_CTRL.BACKUP_PORT`, RW, class S: Backup port. -/
def CAR_CTRL_BACKUP_PORT : Field :=
  ⟨1, 0x0, 8, 5, .rw, .s, 0, 0, 1, 0, 1, 0⟩

/-- Table 03.6: `CAR_CTRL.BACKUP_EN`, RW, class S: Fall over to the backup port after 4 missed intervals. -/
def CAR_CTRL_BACKUP_EN : Field :=
  ⟨1, 0x0, 13, 1, .rw, .s, 0, 0, 1, 0, 1, 0⟩

/-- Table 03.6: `CAR_CTRL.DOMAIN`, RW, class S: PTP domain number. -/
def CAR_CTRL_DOMAIN : Field :=
  ⟨1, 0x0, 14, 8, .rw, .s, 0, 0, 1, 0, 1, 0⟩

/-- Table 03.6: `CAR_CTRL.TRANSPORT`, RW, class S: 0 UDP/IPv4, 1 UDP/IPv6, 2 IEEE 802.3. -/
def CAR_CTRL_TRANSPORT : Field :=
  ⟨1, 0x0, 22, 2, .rw, .s, 0, 0, 1, 0, 1, 0⟩

/-- Table 03.6: `CAR_CTRL.P2P`, RW, class S: 1 = peer-to-peer delay mechanism. -/
def CAR_CTRL_P2P : Field :=
  ⟨1, 0x0, 24, 1, .rw, .s, 0, 0, 1, 0, 1, 0⟩

/-- Table 03.6: `CAR_CTRL.DELAY_REQ_LOG`, RW, class S: log₂ of the Delay_Req interval in s, two's complement, −7 to +3. -/
def CAR_CTRL_DELAY_REQ_LOG : Field :=
  ⟨1, 0x0, 25, 4, .rw, .s, 12, 0, 1, 0, 1, 0⟩

/-- Table 03.6: `CAR_CTRL.UTC_FROM_PTP`, RW, class L: Copy `CAR_UTC` from Announce. -/
def CAR_CTRL_UTC_FROM_PTP : Field :=
  ⟨1, 0x0, 29, 1, .rw, .l, 1, 0, 1, 0, 1, 0⟩

/-- Table 03.6: `CAR_CTRL.EPS_ALARM`, RW, class L: Assert `TOCSIN_N` on `EPS_OVER`. -/
def CAR_CTRL_EPS_ALARM : Field :=
  ⟨1, 0x0, 30, 1, .rw, .l, 0, 0, 1, 0, 1, 0⟩

/-- Table 03.6: `CAR_STATUS.STATE`, RO, class —: 0 UNSYNCED, 1 ACQUIRING, 2 LOCKED, 3 HOLDOVER. -/
def CAR_STATUS_STATE : Field :=
  ⟨1, 0x8, 0, 2, .ro, .fixed, 0, 0, 1, 0, 1, 0⟩

/-- Table 03.6: `CAR_STATUS.EPS_OVER`, RO, class —: R67. -/
def CAR_STATUS_EPS_OVER : Field :=
  ⟨1, 0x8, 2, 1, .ro, .fixed, 0, 0, 1, 0, 1, 0⟩

/-- Table 03.6: `CAR_STATUS.PORT_ACTIVE`, RO, class —: Port followed. -/
def CAR_STATUS_PORT_ACTIVE : Field :=
  ⟨1, 0x8, 3, 5, .ro, .fixed, 0, 0, 1, 0, 1, 0⟩

/-- Table 03.6: `CAR_STATUS.ON_BACKUP`, RO, class —: Following the backup port. -/
def CAR_STATUS_ON_BACKUP : Field :=
  ⟨1, 0x8, 8, 1, .ro, .fixed, 0, 0, 1, 0, 1, 0⟩

/-- Table 03.6: `CAR_STATUS.PPS_SEEN`, RO, class —: `PPS_IN` edge within the last 1.5 s. -/
def CAR_STATUS_PPS_SEEN : Field :=
  ⟨1, 0x8, 9, 1, .ro, .fixed, 0, 0, 1, 0, 1, 0⟩

/-- Table 03.6: `CAR_STATUS.LEAP_PENDING`, RO, class —: Leap second announced. -/
def CAR_STATUS_LEAP_PENDING : Field :=
  ⟨1, 0x8, 10, 1, .ro, .fixed, 0, 0, 1, 0, 1, 0⟩

/-- Table 03.6: `CAR_NOW_NS_LO`, RO, class —: Cluster time, ns, low and high words. -/
def CAR_NOW_NS_LO : Field :=
  ⟨1, 0x10, 0, 32, .ro, .fixed, 0, 0, 1, 0, 1, 0⟩

/-- Table 03.6: `CAR_NOW_NS_HI`, RO, class —: Cluster time, ns, low and high words. -/
def CAR_NOW_NS_HI : Field :=
  ⟨1, 0x14, 0, 32, .ro, .fixed, 0, 0, 1, 0, 1, 0⟩

/-- Table 03.6: `CAR_NOW_FRAC.FRAC`, RO, class —: CT64 fraction. -/
def CAR_NOW_FRAC_FRAC : Field :=
  ⟨1, 0x18, 0, 16, .ro, .fixed, 0, 0, 1, 0, 1, 0⟩

/-- Table 03.6: `CAR_NOW_EPS`, RO, class —: ε in ns, latched or current (R65). -/
def CAR_NOW_EPS : Field :=
  ⟨1, 0x1C, 0, 32, .ro, .fixed, 4294967295, 0, 1, 0, 1, 0⟩

/-- Table 03.6: `CAR_EPS`, RO, class —: ε in ns, latched or current (R65). -/
def CAR_EPS : Field :=
  ⟨1, 0x20, 0, 32, .ro, .fixed, 4294967295, 0, 1, 0, 1, 0⟩

/-- Table 03.6: `CAR_EPS_BOUND.BOUND`, RW, class G: Bound in ns assumed by configuration in force. -/
def CAR_EPS_BOUND_BOUND : Field :=
  ⟨1, 0x24, 0, 32, .rw, .g, 1000, 0, 1, 0, 1, 0⟩

/-- Table 03.6: `CAR_DRIFT_BOUND.RHO`, RW, class S: ρ in ppb, 50 to 50,000; enable refused outside that range (R76). -/
def CAR_DRIFT_BOUND_RHO : Field :=
  ⟨1, 0x28, 0, 32, .rw, .s, 1000, 0, 1, 0, 1, 0⟩

/-- Table 03.6: `CAR_ASYM.ASYM_NS`, RW, class G: Asymmetry allowance a. -/
def CAR_ASYM_ASYM_NS : Field :=
  ⟨1, 0x2C, 0, 16, .rw, .g, 0, 0, 1, 0, 1, 0⟩

/-- Table 03.6: `CAR_ASYM.GM_EPS_NS`, RW, class G: Source uncertainty g. -/
def CAR_ASYM_GM_EPS_NS : Field :=
  ⟨1, 0x2C, 16, 16, .rw, .g, 0, 0, 1, 0, 1, 0⟩

/-- Table 03.6: `CAR_EPOCH_TAI.SEC`, RW, class S: Epoch, TAI seconds. -/
def CAR_EPOCH_TAI_SEC : Field :=
  ⟨1, 0x30, 0, 48, .rw, .s, 0, 0, 1, 0, 1, 0⟩

/-- Table 03.6: `CAR_EPOCH_TAI.NS`, RW, class S: Epoch, nanoseconds. -/
def CAR_EPOCH_TAI_NS : Field :=
  ⟨1, 0x30, 64, 30, .rw, .s, 0, 0, 1, 0, 1, 0⟩

/-- Table 03.6: `CAR_UTC.UTC_OFFSET`, RW, class L: TAI − UTC, s. -/
def CAR_UTC_UTC_OFFSET : Field :=
  ⟨1, 0x3C, 0, 16, .rw, .l, 0, 0, 1, 0, 1, 0⟩

/-- Table 03.6: `CAR_UTC.LEAP61`, RW, class L: Positive leap second at end of UTC day. -/
def CAR_UTC_LEAP61 : Field :=
  ⟨1, 0x3C, 16, 1, .rw, .l, 0, 0, 1, 0, 1, 0⟩

/-- Table 03.6: `CAR_UTC.LEAP59`, RW, class L: Negative leap second at end of UTC day. -/
def CAR_UTC_LEAP59 : Field :=
  ⟨1, 0x3C, 17, 1, .rw, .l, 0, 0, 1, 0, 1, 0⟩

/-- Table 03.6: `CAR_SERVO.KP`, RW, class G: Proportional gain, Q16.16. -/
def CAR_SERVO_KP : Field :=
  ⟨1, 0x40, 0, 32, .rw, .g, 16384, 0, 1, 0, 1, 0⟩

/-- Table 03.6: `CAR_SERVO.KI`, RW, class G: Integral gain, Q16.16. -/
def CAR_SERVO_KI : Field :=
  ⟨1, 0x40, 32, 32, .rw, .g, 1024, 0, 1, 0, 1, 0⟩

/-- Table 03.6: `CAR_PPS.IN_EN`, RW, class S: Accept `PPS_IN`. -/
def CAR_PPS_IN_EN : Field :=
  ⟨1, 0x48, 0, 1, .rw, .s, 0, 0, 1, 0, 1, 0⟩

/-- Table 03.6: `CAR_PPS.IN_EDGE`, RW, class S: 0 rising, 1 falling edge marks the second. -/
def CAR_PPS_IN_EDGE : Field :=
  ⟨1, 0x48, 1, 1, .rw, .s, 0, 0, 1, 0, 1, 0⟩

/-- Table 03.6: `CAR_PPS.OUT_EN`, RW, class L: Drive `PPS_OUT`. -/
def CAR_PPS_OUT_EN : Field :=
  ⟨1, 0x48, 2, 1, .rw, .l, 0, 0, 1, 0, 1, 0⟩

/-- Table 03.6: `CAR_PPS.OUT_PERIOD`, RW, class G: 0 1 s, 1 100 ms, 2 10 ms, 3 1 ms; others reserved. -/
def CAR_PPS_OUT_PERIOD : Field :=
  ⟨1, 0x48, 3, 3, .rw, .g, 0, 0, 1, 0, 1, 0⟩

/-- Table 03.6: `CAR_PPS.OUT_WIDTH`, RW, class G: High time, µs; a commit with width ≥ period is refused. -/
def CAR_PPS_OUT_WIDTH : Field :=
  ⟨1, 0x48, 6, 16, .rw, .g, 10000, 0, 1, 0, 1, 0⟩

/-- Table 03.6: `CAR_LATE_THRESH.NS`, RW, class L: Lateness threshold, ns (R73). -/
def CAR_LATE_THRESH_NS : Field :=
  ⟨1, 0x4C, 0, 16, .rw, .l, 100, 0, 1, 0, 1, 0⟩

/-- Table 03.6: `CAR_SLOT_ARM.SLOT`, WO, class L: Arm slot (R70). -/
def CAR_SLOT_ARM_SLOT : Field :=
  ⟨1, 0x50, 0, 14, .wo, .l, 0, 0, 1, 0, 1, 0⟩

/-- Table 03.6: `CAR_SLOT_DISARM.SLOT`, WO, class L: Disarm slot (R70). -/
def CAR_SLOT_DISARM_SLOT : Field :=
  ⟨1, 0x54, 0, 14, .wo, .l, 0, 0, 1, 0, 1, 0⟩

/-- Table 03.6: `CAR_ERR.SLOT_LIVE`, W1C, class L: Write to, or arm of, a slot not IDLE (R70). -/
def CAR_ERR_SLOT_LIVE : Field :=
  ⟨1, 0x58, 0, 1, .w1c, .l, 0, 0, 1, 0, 1, 0⟩

/-- Table 03.6: `CAR_ERR.SLOT_BAD`, W1C, class L: Arm refused by R70. -/
def CAR_ERR_SLOT_BAD : Field :=
  ⟨1, 0x58, 1, 1, .w1c, .l, 0, 0, 1, 0, 1, 0⟩

/-- Table 03.6: `CAR_ERR.SLOT_RSVD`, W1C, class L: Write to, or arm or disarm of, a firmware slot (R69). -/
def CAR_ERR_SLOT_RSVD : Field :=
  ⟨1, 0x58, 2, 1, .w1c, .l, 0, 0, 1, 0, 1, 0⟩

/-- Table 03.6: `CAR_ERR.EPS_REFUSED`, W1C, class L: Coordinated arm refused by R67 or R448. -/
def CAR_ERR_EPS_REFUSED : Field :=
  ⟨1, 0x58, 3, 1, .w1c, .l, 0, 0, 1, 0, 1, 0⟩

/-- Table 03.6: `CAR_ERR.TARGET_OFF`, W1C, class L: Action not delivered by R74. -/
def CAR_ERR_TARGET_OFF : Field :=
  ⟨1, 0x58, 4, 1, .w1c, .l, 0, 0, 1, 0, 1, 0⟩

/-- Table 03.6: `CAR_ERR.SOURCE_LOST`, W1C, class L: HOLDOVER entered. -/
def CAR_ERR_SOURCE_LOST : Field :=
  ⟨1, 0x58, 5, 1, .w1c, .l, 0, 0, 1, 0, 1, 0⟩

/-- Table 03.6: `CAR_LAST_THETA.THETA`, RO, class —: θ of the last measurement, head minus source (R65), signed ns, saturating. -/
def CAR_LAST_THETA_THETA : Field :=
  ⟨1, 0x5C, 0, 32, .ro, .fixed, 0, 0, 1, 0, 1, 0⟩

/-- Table 03.6: `CAR_COMMIT.GEN`, WO, class L: Commit with expected generation. -/
def CAR_COMMIT_GEN : Field :=
  ⟨1, 0x60, 0, 32, .wo, .l, 0, 0, 1, 0, 1, 0⟩

/-- Table 03.6: `CAR_ACTIVE_GEN.GEN`, RO, class —: Generation in force. -/
def CAR_ACTIVE_GEN_GEN : Field :=
  ⟨1, 0x64, 0, 32, .ro, .fixed, 0, 0, 1, 0, 1, 0⟩

/-- Table 03.6: `CAR_PORT_LAT[n].RX`, RW, class S: Receive latency, 2^-8 ns (first word). -/
def CAR_PORT_LAT_RX : Field :=
  ⟨1, 0x100, 0, 32, .rw, .s, 0, 0, 32, 64, 1, 0⟩

/-- Table 03.6: `CAR_PORT_LAT[n].TX`, RW, class S: Transmit latency, 2^-8 ns (second word). -/
def CAR_PORT_LAT_TX : Field :=
  ⟨1, 0x100, 32, 32, .rw, .s, 0, 0, 32, 64, 1, 0⟩

/-- Table 03.6: `CAR_FLAG[n].FLAG`, W1C, class L: Flags set by action 0x1. -/
def CAR_FLAG_FLAG : Field :=
  ⟨1, 0x400, 0, 32, .w1c, .l, 0, 0, 64, 32, 1, 0⟩

/-- Table 04.14: `HRI_CTRL.ENABLE`, RW, class L: Ring processing enabled. -/
def HRI_CTRL_ENABLE : Field :=
  ⟨2, 0x0, 0, 1, .rw, .l, 0, 0, 1, 0, 1, 0⟩

/-- Table 04.14: `HRI_STATUS.LINK_UP`, RO, class —: Link 0, link 1 trained. -/
def HRI_STATUS_LINK_UP : Field :=
  ⟨2, 0x4, 0, 2, .ro, .fixed, 0, 0, 1, 0, 1, 0⟩

/-- Table 04.14: `HRI_STATUS.BIF`, RO, class —: 1 = two ×8 links. -/
def HRI_STATUS_BIF : Field :=
  ⟨2, 0x4, 2, 1, .ro, .fixed, 0, 0, 1, 0, 1, 0⟩

/-- Table 04.14: `HRI_STATUS.WIDTH0`, RO, class —: Link 0 width. -/
def HRI_STATUS_WIDTH0 : Field :=
  ⟨2, 0x4, 3, 5, .ro, .fixed, 0, 0, 1, 0, 1, 0⟩

/-- Table 04.14: `HRI_STATUS.SPEED0`, RO, class —: 1 to 6 = 2.5 to 64 GT/s. -/
def HRI_STATUS_SPEED0 : Field :=
  ⟨2, 0x4, 8, 3, .ro, .fixed, 0, 0, 1, 0, 1, 0⟩

/-- Table 04.14: `HRI_STATUS.FLIT0`, RO, class —: Link 0 in FLIT mode. -/
def HRI_STATUS_FLIT0 : Field :=
  ⟨2, 0x4, 11, 1, .ro, .fixed, 0, 0, 1, 0, 1, 0⟩

/-- Table 04.14: `HRI_STATUS.WIDTH1`, RO, class —: Link 1 width. -/
def HRI_STATUS_WIDTH1 : Field :=
  ⟨2, 0x4, 12, 5, .ro, .fixed, 0, 0, 1, 0, 1, 0⟩

/-- Table 04.14: `HRI_STATUS.SPEED1`, RO, class —: As SPEED0. -/
def HRI_STATUS_SPEED1 : Field :=
  ⟨2, 0x4, 17, 3, .ro, .fixed, 0, 0, 1, 0, 1, 0⟩

/-- Table 04.14: `HRI_STATUS.FLIT1`, RO, class —: Link 1 in FLIT mode. -/
def HRI_STATUS_FLIT1 : Field :=
  ⟨2, 0x4, 20, 1, .ro, .fixed, 0, 0, 1, 0, 1, 0⟩

/-- Table 04.14: `HRI_ERR.DB_BAD`, W1C, class L: R93. -/
def HRI_ERR_DB_BAD : Field :=
  ⟨2, 0x8, 0, 1, .w1c, .l, 0, 0, 1, 0, 1, 0⟩

/-- Table 04.14: `HRI_ERR.FETCH_FAIL`, W1C, class L: R93. -/
def HRI_ERR_FETCH_FAIL : Field :=
  ⟨2, 0x8, 1, 1, .w1c, .l, 0, 0, 1, 0, 1, 0⟩

/-- Table 04.14: `HRI_ERR.SB_FAIL`, W1C, class L: R93. -/
def HRI_ERR_SB_FAIL : Field :=
  ⟨2, 0x8, 2, 1, .w1c, .l, 0, 0, 1, 0, 1, 0⟩

/-- Table 04.14: `HRI_ERR.RING_CFG`, W1C, class L: R85. -/
def HRI_ERR_RING_CFG : Field :=
  ⟨2, 0x8, 3, 1, .w1c, .l, 0, 0, 1, 0, 1, 0⟩

/-- Table 04.14: `HRI_ERR.NO_WINDOW`, W1C, class L: R85. -/
def HRI_ERR_NO_WINDOW : Field :=
  ⟨2, 0x8, 4, 1, .w1c, .l, 0, 0, 1, 0, 1, 0⟩

/-- Table 04.14: `HRI_ERR.EVQ_OVF`, W1C, class L: An event ring dropped an event. -/
def HRI_ERR_EVQ_OVF : Field :=
  ⟨2, 0x8, 5, 1, .w1c, .l, 0, 0, 1, 0, 1, 0⟩

/-- Table 04.14: `HRI_ERR_RING.RING`, RO, class —: Ring of the last ring error. -/
def HRI_ERR_RING_RING : Field :=
  ⟨2, 0xC, 0, 12, .ro, .fixed, 0, 0, 1, 0, 1, 0⟩

/-- Table 04.14: `HRI_RESYNC.RING`, WO, class L: Start RESYNC (R101). -/
def HRI_RESYNC_RING : Field :=
  ⟨2, 0x10, 0, 12, .wo, .l, 0, 0, 1, 0, 1, 0⟩

/-- Table 04.14: `HRI_RING_RELEASE.RING`, WO, class L: Drop a kept window (R86). -/
def HRI_RING_RELEASE_RING : Field :=
  ⟨2, 0x14, 0, 12, .wo, .l, 0, 0, 1, 0, 1, 0⟩

/-- Table 04.14: `HRI_COMMIT.GEN`, WO, class L: Commit with expected generation. -/
def HRI_COMMIT_GEN : Field :=
  ⟨2, 0x18, 0, 32, .wo, .l, 0, 0, 1, 0, 1, 0⟩

/-- Table 04.14: `HRI_ACTIVE_GEN.GEN`, RO, class —: Generation in force. -/
def HRI_ACTIVE_GEN_GEN : Field :=
  ⟨2, 0x1C, 0, 32, .ro, .fixed, 0, 0, 1, 0, 1, 0⟩

/-- Table 04.14: `HRI_FN_RINGS[n].BASE`, RW, class G: First global ring. -/
def HRI_FN_RINGS_BASE : Field :=
  ⟨2, 0x1000, 0, 12, .rw, .g, 0, 0, 256, 256, 1, 0⟩

/-- Table 04.14: `HRI_FN_RINGS[n].COUNT`, RW, class G: Rings, 0 to 1,024. -/
def HRI_FN_RINGS_COUNT : Field :=
  ⟨2, 0x1000, 16, 11, .rw, .g, 0, 0, 256, 256, 1, 0⟩

/-- Table 04.14: `HRI_FN_MSIX[n].BASE`, RW, class G: First global vector. -/
def HRI_FN_MSIX_BASE : Field :=
  ⟨2, 0x1004, 0, 11, .rw, .g, 0, 0, 256, 256, 1, 0⟩

/-- Table 04.14: `HRI_FN_MSIX[n].COUNT`, RW, class G: Vectors. Reset: by R102. -/
def HRI_FN_MSIX_COUNT : Field :=
  ⟨2, 0x1004, 16, 12, .rw, .g, 0, 0, 256, 256, 1, 0⟩

/-- Table 04.14: `HRI_FN_TENANT[n].TENANT`, RW, class G: Tenant (R83). -/
def HRI_FN_TENANT_TENANT : Field :=
  ⟨2, 0x1008, 0, 16, .rw, .g, 0, 0, 256, 256, 1, 0⟩

/-- Table 04.14: `HRI_FN_EVQ_CFG[n].ENABLE`, RW, class L: Event ring enabled. -/
def HRI_FN_EVQ_CFG_ENABLE : Field :=
  ⟨2, 0x100C, 0, 1, .rw, .l, 0, 0, 256, 256, 1, 0⟩

/-- Table 04.14: `HRI_FN_EVQ_CFG[n].GLOBAL`, RW, class L: Receive global events. -/
def HRI_FN_EVQ_CFG_GLOBAL : Field :=
  ⟨2, 0x100C, 1, 1, .rw, .l, 0, 0, 256, 256, 1, 0⟩

/-- Table 04.14: `HRI_FN_EVQ_CFG[n].LOG2`, RW, class S: Entries = 2^LOG2, 4 to 16. -/
def HRI_FN_EVQ_CFG_LOG2 : Field :=
  ⟨2, 0x100C, 2, 5, .rw, .s, 0, 0, 256, 256, 1, 0⟩

/-- Table 04.14: `HRI_FN_EVQ_CFG[n].VECTOR`, RW, class S: Local vector. -/
def HRI_FN_EVQ_CFG_VECTOR : Field :=
  ⟨2, 0x100C, 7, 11, .rw, .s, 0, 0, 256, 256, 1, 0⟩

/-- Table 04.14: `HRI_FN_EVQ_ADDR[n].ADDR`, RW, class S: Event ring base, 4 KiB-aligned. -/
def HRI_FN_EVQ_ADDR_ADDR : Field :=
  ⟨2, 0x1010, 0, 64, .rw, .s, 0, 0, 256, 256, 1, 0⟩

/-- Table 04.14: `HRI_FN_EVQ_LOST[n].COUNT`, RC, class —: Events dropped. -/
def HRI_FN_EVQ_LOST_COUNT : Field :=
  ⟨2, 0x1018, 0, 32, .rc, .fixed, 0, 0, 256, 256, 1, 0⟩

/-- Table 04.14: `HRI_RING_SQ_ADDR[n].ADDR`, RW, class S: SQ base. -/
def HRI_RING_SQ_ADDR_ADDR : Field :=
  ⟨2, 0x40000, 0, 64, .rw, .s, 0, 0, 4096, 512, 1, 0⟩

/-- Table 04.14: `HRI_RING_CQ_ADDR[n].ADDR`, RW, class S: CQ base. -/
def HRI_RING_CQ_ADDR_ADDR : Field :=
  ⟨2, 0x40008, 0, 64, .rw, .s, 0, 0, 4096, 512, 1, 0⟩

/-- Table 04.14: `HRI_RING_SB_ADDR[n].ADDR`, RW, class S: Status block. -/
def HRI_RING_SB_ADDR_ADDR : Field :=
  ⟨2, 0x40010, 0, 64, .rw, .s, 0, 0, 4096, 512, 1, 0⟩

/-- Table 04.14: `HRI_RING_RS_ADDR[n].ADDR`, RW, class S: Resync record. -/
def HRI_RING_RS_ADDR_ADDR : Field :=
  ⟨2, 0x40018, 0, 64, .rw, .s, 0, 0, 4096, 512, 1, 0⟩

/-- Table 04.14: `HRI_RING_CFG[n].ENABLE`, RW, class L: R85; clearing starts DRAINING. -/
def HRI_RING_CFG_ENABLE : Field :=
  ⟨2, 0x40020, 0, 1, .rw, .l, 0, 0, 4096, 512, 1, 0⟩

/-- Table 04.14: `HRI_RING_CFG[n].KEEP_REPLAY`, RW, class S: R85. -/
def HRI_RING_CFG_KEEP_REPLAY : Field :=
  ⟨2, 0x40020, 1, 1, .rw, .s, 0, 0, 4096, 512, 1, 0⟩

/-- Table 04.14: `HRI_RING_CFG[n].SQ_LOG2`, RW, class S: SQ entries = 2^SQ_LOG2, 4 to 16. -/
def HRI_RING_CFG_SQ_LOG2 : Field :=
  ⟨2, 0x40020, 2, 5, .rw, .s, 0, 0, 4096, 512, 1, 0⟩

/-- Table 04.14: `HRI_RING_CFG[n].CQ_LOG2`, RW, class S: CQ entries, ≥ SQ entries. -/
def HRI_RING_CFG_CQ_LOG2 : Field :=
  ⟨2, 0x40020, 7, 5, .rw, .s, 0, 0, 4096, 512, 1, 0⟩

/-- Table 04.14: `HRI_RING_CFG[n].VECTOR`, RW, class S: Local vector. -/
def HRI_RING_CFG_VECTOR : Field :=
  ⟨2, 0x40020, 12, 11, .rw, .s, 0, 0, 4096, 512, 1, 0⟩

/-- Table 04.14: `HRI_RING_CFG[n].COAL_CNT`, RW, class L: R102. -/
def HRI_RING_CFG_COAL_CNT : Field :=
  ⟨2, 0x40020, 23, 8, .rw, .l, 0, 0, 4096, 512, 1, 0⟩

/-- Table 04.14: `HRI_RING_CFG[n].COAL_US`, RW, class L: R102, µs. -/
def HRI_RING_CFG_COAL_US : Field :=
  ⟨2, 0x40020, 31, 8, .rw, .l, 0, 0, 4096, 512, 1, 0⟩

/-- Table 04.14: `HRI_RING_CFG[n].IRQ_EN`, RW, class L: Signal the vector. -/
def HRI_RING_CFG_IRQ_EN : Field :=
  ⟨2, 0x40020, 39, 1, .rw, .l, 0, 0, 4096, 512, 1, 0⟩

/-- Table 04.14: `HRI_RING_SEQ_BASE[n].SEQ`, RW, class S: Initial B (R85). -/
def HRI_RING_SEQ_BASE_SEQ : Field :=
  ⟨2, 0x40028, 0, 32, .rw, .s, 0, 0, 4096, 512, 1, 0⟩

/-- Table 04.14: `HRI_RING_STATE[n].STATE`, RO, class —: 0 DISABLED, 1 ACTIVE, 2 RESYNCING, 3 ERROR, 4 DRAINING. -/
def HRI_RING_STATE_STATE : Field :=
  ⟨2, 0x4002C, 0, 3, .ro, .fixed, 0, 0, 4096, 512, 1, 0⟩

/-- Table 04.14: `HRI_RING_STATE[n].KEPT`, RO, class —: A replay window is kept (R86). -/
def HRI_RING_STATE_KEPT : Field :=
  ⟨2, 0x4002C, 3, 1, .ro, .fixed, 0, 0, 4096, 512, 1, 0⟩

/-- Table 04.14: `HRI_RING_EVDROP[n].COUNT`, RC, class —: Event entries dropped (R99). -/
def HRI_RING_EVDROP_COUNT : Field :=
  ⟨2, 0x40030, 0, 32, .rc, .fixed, 0, 0, 4096, 512, 1, 0⟩

/-- Table 04.14: `HRI_RING_ARB[n].PRIO`, RW, class G: Class 0 to 3 (R89). -/
def HRI_RING_ARB_PRIO : Field :=
  ⟨2, 0x40034, 0, 2, .rw, .g, 1, 0, 4096, 512, 1, 0⟩

/-- Table 04.14: `HRI_RING_ARB[n].WEIGHT`, RW, class G: Descriptors per round, 1 to 255. -/
def HRI_RING_ARB_WEIGHT : Field :=
  ⟨2, 0x40034, 2, 8, .rw, .g, 1, 0, 4096, 512, 1, 0⟩

/-- Table 05.10: `NET_CTRL.ENABLE`, RW, class L: NET enabled. -/
def NET_CTRL_ENABLE : Field :=
  ⟨3, 0x0, 0, 1, .rw, .l, 0, 0, 1, 0, 1, 0⟩

/-- Table 05.10: `NET_STATUS.PORT_UP`, RO, class —: Bit n: port n link up. -/
def NET_STATUS_PORT_UP : Field :=
  ⟨3, 0x4, 0, 32, .ro, .fixed, 0, 0, 1, 0, 1, 0⟩

/-- Table 05.10: `NET_ERR.LINK_DOWN`, W1C, class L: A port's link went down. -/
def NET_ERR_LINK_DOWN : Field :=
  ⟨3, 0x8, 0, 1, .w1c, .l, 0, 0, 1, 0, 1, 0⟩

/-- Table 05.10: `NET_ERR.TCP_FULL`, W1C, class L: SYN refused (R113). -/
def NET_ERR_TCP_FULL : Field :=
  ⟨3, 0x8, 1, 1, .w1c, .l, 0, 0, 1, 0, 1, 0⟩

/-- Table 05.10: `NET_ERR.PFC_STORM`, W1C, class L: R110. -/
def NET_ERR_PFC_STORM : Field :=
  ⟨3, 0x8, 2, 1, .w1c, .l, 0, 0, 1, 0, 1, 0⟩

/-- Table 05.10: `NET_ERR.OVERSIZE`, W1C, class L: Frame above MTU discarded. -/
def NET_ERR_OVERSIZE : Field :=
  ⟨3, 0x8, 3, 1, .w1c, .l, 0, 0, 1, 0, 1, 0⟩

/-- Table 05.10: `NET_ERR_PORT.PORT`, RO, class —: Port of the last error. -/
def NET_ERR_PORT_PORT : Field :=
  ⟨3, 0xC, 0, 5, .ro, .fixed, 0, 0, 1, 0, 1, 0⟩

/-- Table 05.10: `NET_COMMIT.GEN`, WO, class L: Commit with expected generation. -/
def NET_COMMIT_GEN : Field :=
  ⟨3, 0x10, 0, 32, .wo, .l, 0, 0, 1, 0, 1, 0⟩

/-- Table 05.10: `NET_ACTIVE_GEN.GEN`, RO, class —: Generation in force. -/
def NET_ACTIVE_GEN_GEN : Field :=
  ⟨3, 0x14, 0, 32, .ro, .fixed, 0, 0, 1, 0, 1, 0⟩

/-- Table 05.10: `NET_OCTET_MODE[n].MODE`, RW, class S: Table 05.1. -/
def NET_OCTET_MODE_MODE : Field :=
  ⟨3, 0x20, 0, 3, .rw, .s, 0, 0, 4, 32, 1, 0⟩

/-- Table 05.10: `NET_TCP_CFG.MAX_CONN`, RW, class S: Connections, 1 to 131,072. -/
def NET_TCP_CFG_MAX_CONN : Field :=
  ⟨3, 0x40, 0, 18, .rw, .s, 131072, 0, 1, 0, 1, 0⟩

/-- Table 05.10: `NET_TCP_CFG.SACK`, RW, class S: Offer SACK. -/
def NET_TCP_CFG_SACK : Field :=
  ⟨3, 0x40, 18, 1, .rw, .s, 1, 0, 1, 0, 1, 0⟩

/-- Table 05.10: `NET_TCP_CFG.TSOPT`, RW, class S: Offer timestamps. -/
def NET_TCP_CFG_TSOPT : Field :=
  ⟨3, 0x40, 19, 1, .rw, .s, 1, 0, 1, 0, 1, 0⟩

/-- Table 05.10: `NET_TCP_CFG.WSCALE`, RW, class S: Window-scale shift, 0 to 14. -/
def NET_TCP_CFG_WSCALE : Field :=
  ⟨3, 0x40, 20, 4, .rw, .s, 7, 0, 1, 0, 1, 0⟩

/-- Table 05.10: `NET_TCP_RTO.RTO_MIN_US`, RW, class G: Minimum RTO, µs, 100 to 65,535. -/
def NET_TCP_RTO_RTO_MIN_US : Field :=
  ⟨3, 0x44, 0, 16, .rw, .g, 1000, 0, 1, 0, 1, 0⟩

/-- Table 05.10: `NET_TCP_RTO.RTO_MAX_MS`, RW, class G: Maximum RTO, ms. -/
def NET_TCP_RTO_RTO_MAX_MS : Field :=
  ⟨3, 0x44, 16, 16, .rw, .g, 1000, 0, 1, 0, 1, 0⟩

/-- Table 05.10: `NET_TCP_CONN.IN_USE`, RO, class —: Connections open. -/
def NET_TCP_CONN_IN_USE : Field :=
  ⟨3, 0x48, 0, 18, .ro, .fixed, 0, 0, 1, 0, 1, 0⟩

/-- Table 05.10: `NET_PORT_CFG[n].ENABLE`, RW, class L: Port enabled. -/
def NET_PORT_CFG_ENABLE : Field :=
  ⟨3, 0x1000, 0, 1, .rw, .l, 0, 0, 32, 512, 1, 0⟩

/-- Table 05.10: `NET_PORT_CFG[n].AN`, RW, class S: R107. -/
def NET_PORT_CFG_AN : Field :=
  ⟨3, 0x1000, 1, 1, .rw, .s, 0, 0, 32, 512, 1, 0⟩

/-- Table 05.10: `NET_PORT_CFG[n].MTU`, RW, class S: Frame bytes, 1,518 to 9,216. -/
def NET_PORT_CFG_MTU : Field :=
  ⟨3, 0x1000, 2, 14, .rw, .s, 1518, 0, 32, 512, 1, 0⟩

/-- Table 05.10: `NET_PORT_CFG[n].MAC`, RW, class S: Port MAC address. -/
def NET_PORT_CFG_MAC : Field :=
  ⟨3, 0x1000, 16, 48, .rw, .s, 0, 0, 32, 512, 1, 0⟩

/-- Table 05.10: `NET_PORT_STATUS[n].UP`, RO, class —: Link up. -/
def NET_PORT_STATUS_UP : Field :=
  ⟨3, 0x1008, 0, 1, .ro, .fixed, 0, 0, 32, 512, 1, 0⟩

/-- Table 05.10: `NET_PORT_STATUS[n].AN_DONE`, RO, class —: Negotiation and training complete. -/
def NET_PORT_STATUS_AN_DONE : Field :=
  ⟨3, 0x1008, 1, 1, .ro, .fixed, 0, 0, 32, 512, 1, 0⟩

/-- Table 05.10: `NET_PORT_STATUS[n].PAUSED`, RO, class —: Bit p: priority p paused by the link partner. -/
def NET_PORT_STATUS_PAUSED : Field :=
  ⟨3, 0x1008, 8, 8, .ro, .fixed, 0, 0, 32, 512, 1, 0⟩

/-- Table 05.10: `NET_PORT_STATUS[n].FEC_UNCORR`, RC, class —: Uncorrectable FEC codewords. -/
def NET_PORT_STATUS_FEC_UNCORR : Field :=
  ⟨3, 0x1008, 32, 32, .rc, .fixed, 0, 0, 32, 512, 1, 0⟩

/-- Table 05.10: `NET_PFC[n].EN_MASK`, RW, class G: Bit p: PFC on priority p. -/
def NET_PFC_EN_MASK : Field :=
  ⟨3, 0x1010, 0, 8, .rw, .g, 0, 0, 32, 512, 1, 0⟩

/-- Table 05.10: `NET_PFC[n].XOFF_KIB`, RW, class G: Pause threshold per priority, KiB. -/
def NET_PFC_XOFF_KIB : Field :=
  ⟨3, 0x1010, 8, 12, .rw, .g, 256, 0, 32, 512, 1, 0⟩

/-- Table 05.10: `NET_PFC[n].HEADROOM_KIB`, RW, class G: Headroom per priority, KiB. -/
def NET_PFC_HEADROOM_KIB : Field :=
  ⟨3, 0x1010, 20, 12, .rw, .g, 128, 0, 32, 512, 1, 0⟩

/-- Table 05.10: `NET_PFC[n].WDOG_US`, RW, class L: R110; 0 = off. -/
def NET_PFC_WDOG_US : Field :=
  ⟨3, 0x1010, 32, 16, .rw, .l, 0, 0, 32, 512, 1, 0⟩

/-- Table 05.10: `NET_ETS_MAP[n].PRIO_TC`, RW, class G: Bits [4p+2:4p]: class of priority p. -/
def NET_ETS_MAP_PRIO_TC : Field :=
  ⟨3, 0x1018, 0, 32, .rw, .g, 0, 0, 32, 512, 1, 0⟩

/-- Table 05.10: `NET_ETS_BW[n].BW`, RW, class G: Share of class t, %. -/
def NET_ETS_BW_BW : Field :=
  ⟨3, 0x1020, 0, 7, .rw, .g, 0, 0, 32, 512, 8, 8⟩

/-- Table 05.10: `NET_ETS_BW[n].STRICT`, RW, class G: Class t strict. -/
def NET_ETS_BW_STRICT : Field :=
  ⟨3, 0x1020, 7, 1, .rw, .g, 0, 0, 32, 512, 8, 8⟩

/-- Table 05.10: `NET_ECN[n].TCP_ECN`, RW, class G: R112. -/
def NET_ECN_TCP_ECN : Field :=
  ⟨3, 0x1028, 0, 1, .rw, .g, 1, 0, 32, 512, 1, 0⟩

/-- Table 05.10: `NET_ECN[n].ROCE_ECT`, RW, class G: R112. -/
def NET_ECN_ROCE_ECT : Field :=
  ⟨3, 0x1028, 1, 1, .rw, .g, 1, 0, 32, 512, 1, 0⟩

/-- Table 05.10: `NET_ECN_CE[n].COUNT`, RC, class —: CE marks received on RoCEv2. -/
def NET_ECN_CE_COUNT : Field :=
  ⟨3, 0x102C, 0, 32, .rc, .fixed, 0, 0, 32, 512, 1, 0⟩

/-- Table 05.10: `NET_IP[n].ADDR`, RW, class G: IPv6 address, or IPv4 as ::ffff:a.b.c.d. -/
def NET_IP_ADDR : Field :=
  ⟨3, 0x2000, 0, 128, .rw, .g, 0, 0, 256, 256, 1, 0⟩

/-- Table 05.10: `NET_IP_CFG[n].PORT`, RW, class G: Port carrying the address. -/
def NET_IP_CFG_PORT : Field :=
  ⟨3, 0x2010, 0, 5, .rw, .g, 0, 0, 256, 256, 1, 0⟩

/-- Table 05.10: `NET_IP_CFG[n].HOME_SIDE`, RW, class G: 0 side A, 1 side B (R129). -/
def NET_IP_CFG_HOME_SIDE : Field :=
  ⟨3, 0x2010, 5, 1, .rw, .g, 0, 0, 256, 256, 1, 0⟩

/-- Table 05.10: `NET_IP_CFG[n].VALID`, RW, class G: Address in use. -/
def NET_IP_CFG_VALID : Field :=
  ⟨3, 0x2010, 6, 1, .rw, .g, 0, 0, 256, 256, 1, 0⟩

/-- Table 05.10: `NET_IP_CFG[n].PREFIX`, RW, class G: Prefix length. -/
def NET_IP_CFG_PREFIX : Field :=
  ⟨3, 0x2010, 7, 8, .rw, .g, 0, 0, 256, 256, 1, 0⟩

/-- Table 05.12: `NVF_CTRL.ENABLE`, RW, class L: Target enabled; listeners open. -/
def NVF_CTRL_ENABLE : Field :=
  ⟨4, 0x0, 0, 1, .rw, .l, 0, 0, 1, 0, 1, 0⟩

/-- Table 05.12: `NVF_STATUS.ACCEPTING`, RO, class —: Listeners accepting connections. -/
def NVF_STATUS_ACCEPTING : Field :=
  ⟨4, 0x4, 0, 1, .ro, .fixed, 0, 0, 1, 0, 1, 0⟩

/-- Table 05.12: `NVF_STATUS.FWD_UP`, RO, class —: Forwarding to the partner available. -/
def NVF_STATUS_FWD_UP : Field :=
  ⟨4, 0x4, 1, 1, .ro, .fixed, 0, 0, 1, 0, 1, 0⟩

/-- Table 05.12: `NVF_ERR.CONN_REFUSED`, W1C, class L: Connect refused (R116). -/
def NVF_ERR_CONN_REFUSED : Field :=
  ⟨4, 0x8, 0, 1, .w1c, .l, 0, 0, 1, 0, 1, 0⟩

/-- Table 05.12: `NVF_ERR.FWD_HELD`, W1C, class L: Writes held by R128. -/
def NVF_ERR_FWD_HELD : Field :=
  ⟨4, 0x8, 1, 1, .w1c, .l, 0, 0, 1, 0, 1, 0⟩

/-- Table 05.12: `NVF_ERR.KATO_EXPIRED`, W1C, class L: Association ended (R117). -/
def NVF_ERR_KATO_EXPIRED : Field :=
  ⟨4, 0x8, 2, 1, .w1c, .l, 0, 0, 1, 0, 1, 0⟩

/-- Table 05.12: `NVF_ERR.DIGEST`, W1C, class L: Header or data digest failure; connection ended. -/
def NVF_ERR_DIGEST : Field :=
  ⟨4, 0x8, 3, 1, .w1c, .l, 0, 0, 1, 0, 1, 0⟩

/-- Table 05.12: `NVF_ERR.UNSOLICITED`, W1C, class L: Unrequested H2CData (R120). -/
def NVF_ERR_UNSOLICITED : Field :=
  ⟨4, 0x8, 4, 1, .w1c, .l, 0, 0, 1, 0, 1, 0⟩

/-- Table 05.12: `NVF_COMMIT.GEN`, WO, class L: Commit with expected generation. -/
def NVF_COMMIT_GEN : Field :=
  ⟨4, 0xC, 0, 32, .wo, .l, 0, 0, 1, 0, 1, 0⟩

/-- Table 05.12: `NVF_ACTIVE_GEN.GEN`, RO, class —: Generation in force. -/
def NVF_ACTIVE_GEN_GEN : Field :=
  ⟨4, 0x10, 0, 32, .ro, .fixed, 0, 0, 1, 0, 1, 0⟩

/-- Table 05.12: `NVF_LIMITS.MAX_ASSOC`, RW, class G: Associations, 1 to 16,384. -/
def NVF_LIMITS_MAX_ASSOC : Field :=
  ⟨4, 0x14, 0, 15, .rw, .g, 16384, 0, 1, 0, 1, 0⟩

/-- Table 05.12: `NVF_LIMITS.MAX_IOQ`, RW, class G: I/O queues per association, 1 to 128. -/
def NVF_LIMITS_MAX_IOQ : Field :=
  ⟨4, 0x14, 15, 8, .rw, .g, 128, 0, 1, 0, 1, 0⟩

/-- Table 05.12: `NVF_LIMITS.QSIZE_LOG2`, RW, class G: Maximum queue entries = 2^QSIZE_LOG2, 4 to 10. -/
def NVF_LIMITS_QSIZE_LOG2 : Field :=
  ⟨4, 0x14, 23, 4, .rw, .g, 10, 0, 1, 0, 1, 0⟩

/-- Table 05.12: `NVF_TCP_OPT.HDGST`, RW, class G: Offer header digest. -/
def NVF_TCP_OPT_HDGST : Field :=
  ⟨4, 0x18, 0, 1, .rw, .g, 1, 0, 1, 0, 1, 0⟩

/-- Table 05.12: `NVF_TCP_OPT.DDGST`, RW, class G: Offer data digest. -/
def NVF_TCP_OPT_DDGST : Field :=
  ⟨4, 0x18, 1, 1, .rw, .g, 1, 0, 1, 0, 1, 0⟩

/-- Table 05.12: `NVF_TCP_OPT.ICD_KIB`, RW, class G: In-capsule data, KiB, 0 to 8. -/
def NVF_TCP_OPT_ICD_KIB : Field :=
  ⟨4, 0x18, 2, 4, .rw, .g, 8, 0, 1, 0, 1, 0⟩

/-- Table 05.12: `NVF_TCP_OPT.MAXH2C_KIB`, RW, class G: MAXH2CDATA, KiB, 4 to 128. -/
def NVF_TCP_OPT_MAXH2C_KIB : Field :=
  ⟨4, 0x18, 6, 8, .rw, .g, 128, 0, 1, 0, 1, 0⟩

/-- Table 05.12: `NVF_ANA_CFG.ANATT_S`, RW, class G: ANATT, s, 1 to 255. -/
def NVF_ANA_CFG_ANATT_S : Field :=
  ⟨4, 0x1C, 0, 8, .rw, .g, 1, 0, 1, 0, 1, 0⟩

/-- Table 05.12: `NVF_ANA_CFG.ANA_AEN`, RW, class L: Post ANA change notices. -/
def NVF_ANA_CFG_ANA_AEN : Field :=
  ⟨4, 0x1C, 8, 1, .rw, .l, 1, 0, 1, 0, 1, 0⟩

/-- Table 05.12: `NVF_ASSOC_COUNT.COUNT`, RO, class —: Associations open. -/
def NVF_ASSOC_COUNT_COUNT : Field :=
  ⟨4, 0x20, 0, 15, .ro, .fixed, 0, 0, 1, 0, 1, 0⟩

/-- Table 05.12: `NVF_DEFERRED_COUNT.COUNT`, RO, class —: Pending deferred entries, all hosts. -/
def NVF_DEFERRED_COUNT_COUNT : Field :=
  ⟨4, 0x24, 0, 32, .ro, .fixed, 0, 0, 1, 0, 1, 0⟩

/-- Table 05.12: `NVF_SUBNQN.NQN`, RW, class S: Subsystem NQN, UTF-8, NUL-terminated. -/
def NVF_SUBNQN_NQN : Field :=
  ⟨4, 0x100, 0, 2048, .rw, .s, 0, 0, 1, 0, 1, 0⟩

/-- Table 05.12: `NVF_LISTEN[n].IP`, RW, class G: Index a of `NET_IP[a]`. -/
def NVF_LISTEN_IP : Field :=
  ⟨4, 0x1000, 0, 8, .rw, .g, 0, 0, 64, 64, 1, 0⟩

/-- Table 05.12: `NVF_LISTEN[n].PORT`, RW, class G: TCP port, or RDMA CM port; 4420 by default. -/
def NVF_LISTEN_PORT : Field :=
  ⟨4, 0x1000, 8, 16, .rw, .g, 4420, 0, 64, 64, 1, 0⟩

/-- Table 05.12: `NVF_LISTEN[n].TRANSPORT`, RW, class G: 0 off, 1 TCP, 2 RDMA. -/
def NVF_LISTEN_TRANSPORT : Field :=
  ⟨4, 0x1000, 24, 2, .rw, .g, 0, 0, 64, 64, 1, 0⟩

/-- Table 05.12: `NVF_LISTEN[n].DISCOVERY`, RW, class G: Listener serves the discovery controller. -/
def NVF_LISTEN_DISCOVERY : Field :=
  ⟨4, 0x1000, 26, 1, .rw, .g, 0, 0, 64, 64, 1, 0⟩

/-- Table 05.12: `NVF_ANA_GRP[n].STATE`, RO, class —: 0 unused, 1 Optimized, 2 Non-Optimized, 3 Inaccessible, 7 Change (Table 05.6). -/
def NVF_ANA_GRP_STATE : Field :=
  ⟨4, 0x2000, 0, 3, .ro, .fixed, 0, 1, 1024, 32, 1, 0⟩

/-- Table 06.4: `RDM_WIN_STAGE.BASE_VA`, RW, class S: Start in the head's internal address space, 64-byte aligned. -/
def RDM_WIN_STAGE_BASE_VA : Field :=
  ⟨5, 0x40, 0, 48, .rw, .s, 0, 0, 1, 0, 1, 0⟩

/-- Table 06.4: `RDM_WIN_STAGE.LENGTH`, RW, class S: Bytes, 1 to 2^30. -/
def RDM_WIN_STAGE_LENGTH : Field :=
  ⟨5, 0x40, 48, 32, .rw, .s, 0, 0, 1, 0, 1, 0⟩

/-- Table 06.4: `RDM_WIN_STAGE.QP`, RW, class S: Bound queue pair index (R134), when QP_BIND is 1. -/
def RDM_WIN_STAGE_QP : Field :=
  ⟨5, 0x40, 80, 24, .rw, .s, 0, 0, 1, 0, 1, 0⟩

/-- Table 06.4: `RDM_WIN_STAGE.QP_BIND`, RW, class S: Only QP may use the window; otherwise any queue pair of TENANT. -/
def RDM_WIN_STAGE_QP_BIND : Field :=
  ⟨5, 0x40, 104, 1, .rw, .s, 0, 0, 1, 0, 1, 0⟩

/-- Table 06.4: `RDM_WIN_STAGE.RD`, RW, class S: Remote read allowed. -/
def RDM_WIN_STAGE_RD : Field :=
  ⟨5, 0x40, 105, 1, .rw, .s, 0, 0, 1, 0, 1, 0⟩

/-- Table 06.4: `RDM_WIN_STAGE.WR`, RW, class S: Remote write allowed. -/
def RDM_WIN_STAGE_WR : Field :=
  ⟨5, 0x40, 106, 1, .rw, .s, 0, 0, 1, 0, 1, 0⟩

/-- Table 06.4: `RDM_WIN_STAGE.IMM`, RW, class S: RDMA WRITE with immediate allowed. -/
def RDM_WIN_STAGE_IMM : Field :=
  ⟨5, 0x40, 107, 1, .rw, .s, 0, 0, 1, 0, 1, 0⟩

/-- Table 06.4: `RDM_WIN_STAGE.PAGEABLE`, RW, class S: On-demand paging applies (R152); 0 = pinned. -/
def RDM_WIN_STAGE_PAGEABLE : Field :=
  ⟨5, 0x40, 108, 1, .rw, .s, 0, 0, 1, 0, 1, 0⟩

/-- Table 06.4: `RDM_WIN_STAGE.CONSUMER`, RW, class S: Table 06.3; receives deliveries and refusal records. -/
def RDM_WIN_STAGE_CONSUMER : Field :=
  ⟨5, 0x40, 112, 4, .rw, .s, 0, 0, 1, 0, 1, 0⟩

/-- Table 06.4: `RDM_WIN_STAGE.TENANT`, RW, class S: Owning tenant. -/
def RDM_WIN_STAGE_TENANT : Field :=
  ⟨5, 0x40, 128, 16, .rw, .s, 0, 0, 1, 0, 1, 0⟩

/-- Table 06.4: `RDM_WIN_STAGE.DEADLINE_US`, RW, class S: Stall deadline for faults, µs (R152); default 100 µs. -/
def RDM_WIN_STAGE_DEADLINE_US : Field :=
  ⟨5, 0x40, 144, 16, .rw, .s, 100, 0, 1, 0, 1, 0⟩

/-- Table 06.4: `RDM_WIN_STAGE.GEN`, RO, class —: Generation of the current or last opening. -/
def RDM_WIN_STAGE_GEN : Field :=
  ⟨5, 0x40, 160, 12, .ro, .fixed, 0, 0, 1, 0, 1, 0⟩

/-- Table 06.4: `RDM_WIN_STAGE.STATE`, RO, class —: 0 FREE, 1 OPENING, 2 OPEN, 3 CLOSING. -/
def RDM_WIN_STAGE_STATE : Field :=
  ⟨5, 0x40, 172, 2, .ro, .fixed, 0, 0, 1, 0, 1, 0⟩

/-- Table 06.4: `RDM_WIN_STAGE.OUTSTANDING`, RO, class —: Messages validated and not yet drained. -/
def RDM_WIN_STAGE_OUTSTANDING : Field :=
  ⟨5, 0x40, 176, 16, .ro, .fixed, 0, 0, 1, 0, 1, 0⟩

/-- Table 06.4: `RDM_WIN_STAGE.REFUSED`, RO, class —: Messages refused with STS_WINDOW_REVOKED since the last opening. -/
def RDM_WIN_STAGE_REFUSED : Field :=
  ⟨5, 0x40, 192, 32, .ro, .fixed, 0, 0, 1, 0, 1, 0⟩

/-- Table 06.9: `RDM_CTRL.ENABLE`, RW, class L: RDM enabled. -/
def RDM_CTRL_ENABLE : Field :=
  ⟨5, 0x0, 0, 1, .rw, .l, 0, 0, 1, 0, 1, 0⟩

/-- Table 06.9: `RDM_CTRL.CC_EN`, RW, class L: Congestion control (R140). -/
def RDM_CTRL_CC_EN : Field :=
  ⟨5, 0x0, 1, 1, .rw, .l, 1, 0, 1, 0, 1, 0⟩

/-- Table 06.9: `RDM_STATUS.ENG_UP`, RO, class —: Bit e: engine e serving. -/
def RDM_STATUS_ENG_UP : Field :=
  ⟨5, 0x4, 0, 8, .ro, .fixed, 0, 0, 1, 0, 1, 0⟩

/-- Table 06.9: `RDM_ERR.RETRY_EXC`, W1C, class L: R139. -/
def RDM_ERR_RETRY_EXC : Field :=
  ⟨5, 0x8, 0, 1, .w1c, .l, 0, 0, 1, 0, 1, 0⟩

/-- Table 06.9: `RDM_ERR.REVOKE_TMO`, W1C, class L: R151. -/
def RDM_ERR_REVOKE_TMO : Field :=
  ⟨5, 0x8, 1, 1, .w1c, .l, 0, 0, 1, 0, 1, 0⟩

/-- Table 06.9: `RDM_ERR.WIN_BUSY`, W1C, class L: R157. -/
def RDM_ERR_WIN_BUSY : Field :=
  ⟨5, 0x8, 2, 1, .w1c, .l, 0, 0, 1, 0, 1, 0⟩

/-- Table 06.9: `RDM_ERR.ODP_OVF`, W1C, class L: R154. -/
def RDM_ERR_ODP_OVF : Field :=
  ⟨5, 0x8, 3, 1, .w1c, .l, 0, 0, 1, 0, 1, 0⟩

/-- Table 06.9: `RDM_ERR_QP.QP`, RO, class —: Queue pair of the last error. -/
def RDM_ERR_QP_QP : Field :=
  ⟨5, 0xC, 0, 18, .ro, .fixed, 0, 0, 1, 0, 1, 0⟩

/-- Table 06.9: `RDM_COMMIT.GEN`, WO, class L: Commit with expected generation. -/
def RDM_COMMIT_GEN : Field :=
  ⟨5, 0x10, 0, 32, .wo, .l, 0, 0, 1, 0, 1, 0⟩

/-- Table 06.9: `RDM_ACTIVE_GEN.GEN`, RO, class —: Generation in force. -/
def RDM_ACTIVE_GEN_GEN : Field :=
  ⟨5, 0x14, 0, 32, .ro, .fixed, 0, 0, 1, 0, 1, 0⟩

/-- Table 06.9: `RDM_CFG.PRIO`, RW, class G: Priority of RoCEv2 traffic (R136). -/
def RDM_CFG_PRIO : Field :=
  ⟨5, 0x18, 0, 3, .rw, .g, 3, 0, 1, 0, 1, 0⟩

/-- Table 06.9: `RDM_CFG.DSCP`, RW, class G: DSCP of RoCEv2 traffic. -/
def RDM_CFG_DSCP : Field :=
  ⟨5, 0x18, 3, 6, .rw, .g, 26, 0, 1, 0, 1, 0⟩

/-- Table 06.9: `RDM_CFG.PMTU_MAX`, RW, class G: 1 to 5 = 256 to 4,096 bytes. -/
def RDM_CFG_PMTU_MAX : Field :=
  ⟨5, 0x18, 9, 3, .rw, .g, 5, 0, 1, 0, 1, 0⟩

/-- Table 06.9: `RDM_LIMITS.MAX_QP`, RW, class S: Queue pairs, 2 to 262,144. -/
def RDM_LIMITS_MAX_QP : Field :=
  ⟨5, 0x1C, 0, 19, .rw, .s, 262144, 0, 1, 0, 1, 0⟩

/-- Table 06.9: `RDM_LIMITS.WIN_LOG2`, RW, class S: Windows = 2^WIN_LOG2, 10 to 20. -/
def RDM_LIMITS_WIN_LOG2 : Field :=
  ⟨5, 0x1C, 19, 5, .rw, .s, 20, 0, 1, 0, 1, 0⟩

/-- Table 06.9: `RDM_QP_TIMER.ACK_TIMEOUT`, RW, class G: R139, 1 to 20. -/
def RDM_QP_TIMER_ACK_TIMEOUT : Field :=
  ⟨5, 0x20, 0, 5, .rw, .g, 3, 0, 1, 0, 1, 0⟩

/-- Table 06.9: `RDM_QP_TIMER.RETRY_CNT`, RW, class G: R139. -/
def RDM_QP_TIMER_RETRY_CNT : Field :=
  ⟨5, 0x20, 5, 3, .rw, .g, 7, 0, 1, 0, 1, 0⟩

/-- Table 06.9: `RDM_RNR.RNR_RETRY`, RW, class G: RNR retries; 7 = unlimited. -/
def RDM_RNR_RNR_RETRY : Field :=
  ⟨5, 0x24, 0, 3, .rw, .g, 7, 0, 1, 0, 1, 0⟩

/-- Table 06.9: `RDM_RNR.MIN_RNR_TIMER`, RW, class G: IBTA RNR timer value; 1 = 0.01 ms. -/
def RDM_RNR_MIN_RNR_TIMER : Field :=
  ⟨5, 0x24, 3, 5, .rw, .g, 1, 0, 1, 0, 1, 0⟩

/-- Table 06.9: `RDM_CC0.TARGET_US`, RW, class G: Target delay, µs, 2 to 1,000. -/
def RDM_CC0_TARGET_US : Field :=
  ⟨5, 0x28, 0, 16, .rw, .g, 12, 0, 1, 0, 1, 0⟩

/-- Table 06.9: `RDM_CC0.GAIN`, RW, class G: Gain, Q0.16. -/
def RDM_CC0_GAIN : Field :=
  ⟨5, 0x28, 16, 16, .rw, .g, 32768, 0, 1, 0, 1, 0⟩

/-- Table 06.9: `RDM_CC1.AI_STEP`, RW, class G: Increase per probe, 100 Mb/s units. -/
def RDM_CC1_AI_STEP : Field :=
  ⟨5, 0x2C, 0, 16, .rw, .g, 10, 0, 1, 0, 1, 0⟩

/-- Table 06.9: `RDM_CC1.MIN_RATE`, RW, class G: Rate floor, 100 Mb/s units. -/
def RDM_CC1_MIN_RATE : Field :=
  ⟨5, 0x2C, 16, 16, .rw, .g, 10, 0, 1, 0, 1, 0⟩

/-- Table 06.9: `RDM_CC2.PROBE_US`, RW, class G: Probe interval, µs, 4 to 10,000. -/
def RDM_CC2_PROBE_US : Field :=
  ⟨5, 0x30, 0, 16, .rw, .g, 20, 0, 1, 0, 1, 0⟩

/-- Table 06.9: `RDM_CC2.INIT_RATE`, RW, class G: Initial rate, 100 Mb/s units; 0 = line rate. -/
def RDM_CC2_INIT_RATE : Field :=
  ⟨5, 0x30, 16, 16, .rw, .g, 0, 0, 1, 0, 1, 0⟩

/-- Table 06.9: `RDM_WIN_CMD.INDEX`, WO, class L: Window index. -/
def RDM_WIN_CMD_INDEX : Field :=
  ⟨5, 0x34, 0, 20, .wo, .l, 0, 0, 1, 0, 1, 0⟩

/-- Table 06.9: `RDM_WIN_CMD.OP`, WO, class L: 1 open from `RDM_WIN_STAGE`; 2 revoke; 3 read entry into `RDM_WIN_STAGE`. -/
def RDM_WIN_CMD_OP : Field :=
  ⟨5, 0x34, 20, 2, .wo, .l, 0, 0, 1, 0, 1, 0⟩

/-- Table 06.9: `RDM_WIN_RESULT.INDEX`, RO, class —: Window of the last command. -/
def RDM_WIN_RESULT_INDEX : Field :=
  ⟨5, 0x38, 0, 20, .ro, .fixed, 0, 0, 1, 0, 1, 0⟩

/-- Table 06.9: `RDM_WIN_RESULT.DONE`, RO, class —: Command complete. -/
def RDM_WIN_RESULT_DONE : Field :=
  ⟨5, 0x38, 20, 1, .ro, .fixed, 0, 0, 1, 0, 1, 0⟩

/-- Table 06.9: `RDM_WIN_RESULT.BUSY`, RO, class —: Command in progress. -/
def RDM_WIN_RESULT_BUSY : Field :=
  ⟨5, 0x38, 21, 1, .ro, .fixed, 0, 0, 1, 0, 1, 0⟩

/-- Table 06.9: `RDM_WIN_RESULT.TIMEOUT`, RO, class —: Revoke ended by R151 timeout. -/
def RDM_WIN_RESULT_TIMEOUT : Field :=
  ⟨5, 0x38, 22, 1, .ro, .fixed, 0, 0, 1, 0, 1, 0⟩

/-- Table 06.9: `RDM_WIN_RESULT.STATUS`, RO, class —: Table 06.7 or STS_OK. -/
def RDM_WIN_RESULT_STATUS : Field :=
  ⟨5, 0x38, 32, 16, .ro, .fixed, 0, 0, 1, 0, 1, 0⟩

/-- Table 06.9: `RDM_WIN_RESULT.GEN`, RO, class —: GEN after the command. -/
def RDM_WIN_RESULT_GEN : Field :=
  ⟨5, 0x38, 48, 12, .ro, .fixed, 0, 0, 1, 0, 1, 0⟩

/-- Table 06.9: `RDM_QP_INUSE.COUNT`, RO, class —: Queue pairs not in RESET. -/
def RDM_QP_INUSE_COUNT : Field :=
  ⟨5, 0x60, 0, 19, .ro, .fixed, 0, 0, 1, 0, 1, 0⟩

/-- Table 06.9: `RDM_WIN_OPEN_COUNT.COUNT`, RO, class —: Windows not FREE. -/
def RDM_WIN_OPEN_COUNT_COUNT : Field :=
  ⟨5, 0x64, 0, 21, .ro, .fixed, 0, 0, 1, 0, 1, 0⟩

/-- Table 06.9: `RDM_ODP_FAULTS.COUNT`, RC, class —: Adapter faults raised. -/
def RDM_ODP_FAULTS_COUNT : Field :=
  ⟨5, 0x68, 0, 32, .rc, .fixed, 0, 0, 1, 0, 1, 0⟩

/-- Table 06.9: `RDM_REVOKE_TMO.US`, RW, class G: Drain limit, µs, 10 to 65,535. -/
def RDM_REVOKE_TMO_US : Field :=
  ⟨5, 0x6C, 0, 16, .rw, .g, 1000, 0, 1, 0, 1, 0⟩

/-- Table 06.9: `RDM_ENG_STAT[n].WTC_HIT`, RC, class —: Translation cache hits. -/
def RDM_ENG_STAT_WTC_HIT : Field :=
  ⟨5, 0x1000, 0, 32, .rc, .fixed, 0, 0, 8, 256, 1, 0⟩

/-- Table 06.9: `RDM_ENG_STAT[n].WTC_MISS`, RC, class —: Translation cache misses. -/
def RDM_ENG_STAT_WTC_MISS : Field :=
  ⟨5, 0x1004, 0, 32, .rc, .fixed, 0, 0, 8, 256, 1, 0⟩

/-- Table 06.9: `RDM_ENG_STAT[n].NAK_SEQ`, RC, class —: NAK Sequence Error sent. -/
def RDM_ENG_STAT_NAK_SEQ : Field :=
  ⟨5, 0x1008, 0, 32, .rc, .fixed, 0, 0, 8, 256, 1, 0⟩

/-- Table 06.9: `RDM_ENG_STAT[n].RNR_SENT`, RC, class —: RNR NAK sent. -/
def RDM_ENG_STAT_RNR_SENT : Field :=
  ⟨5, 0x100C, 0, 32, .rc, .fixed, 0, 0, 8, 256, 1, 0⟩

/-- Table 06.9: `RDM_ENG_STAT[n].RETRANS`, RC, class —: Go-back-N resends as requester. -/
def RDM_ENG_STAT_RETRANS : Field :=
  ⟨5, 0x1010, 0, 32, .rc, .fixed, 0, 0, 8, 256, 1, 0⟩

/-- Table 06.9: `RDM_ENG_STAT[n].ACC_NAK`, RC, class —: NAK Remote Access Error sent. -/
def RDM_ENG_STAT_ACC_NAK : Field :=
  ⟨5, 0x1014, 0, 32, .rc, .fixed, 0, 0, 8, 256, 1, 0⟩

/-- Table 07.6: `POL_CTRL.ENABLE`, RW, class L: POL enabled. -/
def POL_CTRL_ENABLE : Field :=
  ⟨6, 0x0, 0, 1, .rw, .l, 0, 0, 1, 0, 1, 0⟩

/-- Table 07.6: `POL_STATUS.ACTIVE`, RO, class —: Bit p: pool p ACTIVE. -/
def POL_STATUS_ACTIVE : Field :=
  ⟨6, 0x4, 0, 16, .ro, .fixed, 0, 0, 1, 0, 1, 0⟩

/-- Table 07.6: `POL_ERR.DOUBLE_FREE`, W1C, class L: R169, state bit 0. -/
def POL_ERR_DOUBLE_FREE : Field :=
  ⟨6, 0x8, 0, 1, .w1c, .l, 0, 0, 1, 0, 1, 0⟩

/-- Table 07.6: `POL_ERR.BAD_FREE`, W1C, class L: R169, index or HELD. -/
def POL_ERR_BAD_FREE : Field :=
  ⟨6, 0x8, 1, 1, .w1c, .l, 0, 0, 1, 0, 1, 0⟩

/-- Table 07.6: `POL_ERR.WAIT_FULL`, W1C, class L: R163. -/
def POL_ERR_WAIT_FULL : Field :=
  ⟨6, 0x8, 2, 1, .w1c, .l, 0, 0, 1, 0, 1, 0⟩

/-- Table 07.6: `POL_ERR_INFO.INDEX`, RO, class —: Buffer of the last refused free. -/
def POL_ERR_INFO_INDEX : Field :=
  ⟨6, 0x10, 0, 24, .ro, .fixed, 0, 0, 1, 0, 1, 0⟩

/-- Table 07.6: `POL_ERR_INFO.POOL`, RO, class —: Pool. -/
def POL_ERR_INFO_POOL : Field :=
  ⟨6, 0x10, 24, 4, .ro, .fixed, 0, 0, 1, 0, 1, 0⟩

/-- Table 07.6: `POL_ERR_INFO.OWNER`, RO, class —: Owner named. -/
def POL_ERR_INFO_OWNER : Field :=
  ⟨6, 0x10, 32, 10, .ro, .fixed, 0, 0, 1, 0, 1, 0⟩

/-- Table 07.6: `POL_ERR_INFO.BLOCK`, RO, class —: Requesting block: BAR0 offset ÷ 1 MiB; 6 for `POL_OP` (R169). -/
def POL_ERR_INFO_BLOCK : Field :=
  ⟨6, 0x10, 42, 5, .ro, .fixed, 0, 0, 1, 0, 1, 0⟩

/-- Table 07.6: `POL_COMMIT.GEN`, WO, class L: Commit with expected generation. -/
def POL_COMMIT_GEN : Field :=
  ⟨6, 0x18, 0, 32, .wo, .l, 0, 0, 1, 0, 1, 0⟩

/-- Table 07.6: `POL_ACTIVE_GEN.GEN`, RO, class —: Generation in force. -/
def POL_ACTIVE_GEN_GEN : Field :=
  ⟨6, 0x1C, 0, 32, .ro, .fixed, 0, 0, 1, 0, 1, 0⟩

/-- Table 07.6: `POL_REGION.BASE`, RW, class S: HBM base, 1 MiB-aligned. -/
def POL_REGION_BASE : Field :=
  ⟨6, 0x20, 0, 64, .rw, .s, 0, 0, 1, 0, 1, 0⟩

/-- Table 07.6: `POL_REGION.SIZE`, RW, class S: Bytes. -/
def POL_REGION_SIZE : Field :=
  ⟨6, 0x20, 64, 64, .rw, .s, 0, 0, 1, 0, 1, 0⟩

/-- Table 07.6: `POL_OP.OP`, WO, class L: 0 no action; 1 allocate one buffer; 2 free `POL_OP_ADDR`; 3 reserved (R172). -/
def POL_OP_OP : Field :=
  ⟨6, 0x30, 0, 2, .wo, .l, 0, 0, 1, 0, 1, 0⟩

/-- Table 07.6: `POL_OP.POOL`, WO, class L: Pool. -/
def POL_OP_POOL : Field :=
  ⟨6, 0x30, 2, 4, .wo, .l, 0, 0, 1, 0, 1, 0⟩

/-- Table 07.6: `POL_OP.OWNER`, WO, class L: Owner. -/
def POL_OP_OWNER : Field :=
  ⟨6, 0x30, 6, 10, .wo, .l, 0, 0, 1, 0, 1, 0⟩

/-- Table 07.6: `POL_OP_ADDR.INDEX`, RW, class L: Buffer index, returned or to free. -/
def POL_OP_ADDR_INDEX : Field :=
  ⟨6, 0x38, 0, 24, .rw, .l, 0, 0, 1, 0, 1, 0⟩

/-- Table 07.6: `POL_OP_RESULT.STATUS`, RO, class —: STS_OK, STS_BAD_DESCRIPTOR (R172) or Table 07.4. -/
def POL_OP_RESULT_STATUS : Field :=
  ⟨6, 0x40, 0, 16, .ro, .fixed, 0, 0, 1, 0, 1, 0⟩

/-- Table 07.6: `POL_OP_RESULT.BUSY`, RO, class —: Operation in progress. -/
def POL_OP_RESULT_BUSY : Field :=
  ⟨6, 0x40, 16, 1, .ro, .fixed, 0, 0, 1, 0, 1, 0⟩

/-- Table 07.6: `POL_DF_COUNT.COUNT`, RC, class —: Frees refused. -/
def POL_DF_COUNT_COUNT : Field :=
  ⟨6, 0x44, 0, 32, .rc, .fixed, 0, 0, 1, 0, 1, 0⟩

/-- Table 07.6: `POL_POOL_CFG[n].ENABLE`, RW, class L: Table 07.3. -/
def POL_POOL_CFG_ENABLE : Field :=
  ⟨6, 0x100, 0, 1, .rw, .l, 0, 0, 16, 256, 1, 0⟩

/-- Table 07.6: `POL_POOL_CFG[n].SIZE`, RW, class S: 0 256 B, 1 4 KiB, 2 16 KiB, 3 64 KiB. -/
def POL_POOL_CFG_SIZE : Field :=
  ⟨6, 0x100, 1, 2, .rw, .s, 0, 0, 16, 256, 1, 0⟩

/-- Table 07.6: `POL_POOL_CFG[n].COUNT`, RW, class S: Buffers, 1 to 16,777,216. -/
def POL_POOL_CFG_COUNT : Field :=
  ⟨6, 0x100, 7, 25, .rw, .s, 0, 0, 16, 256, 1, 0⟩

/-- Table 07.6: `POL_POOL_BASE[n].BASE`, RW, class S: HBM address of buffer 0. -/
def POL_POOL_BASE_BASE : Field :=
  ⟨6, 0x108, 0, 64, .rw, .s, 0, 0, 16, 256, 1, 0⟩

/-- Table 07.6: `POL_POOL_STAT[n].FREE`, RO, class —: Free buffers (R166). -/
def POL_POOL_STAT_FREE : Field :=
  ⟨6, 0x110, 0, 25, .ro, .fixed, 0, 0, 16, 256, 1, 0⟩

/-- Table 07.6: `POL_POOL_STAT[n].STATE`, RO, class —: 0 DISABLED, 1 FILLING, 2 ACTIVE, 3 DRAINING. -/
def POL_POOL_STAT_STATE : Field :=
  ⟨6, 0x110, 25, 2, .ro, .fixed, 0, 0, 16, 256, 1, 0⟩

/-- Table 07.6: `POL_POOL_STAT[n].WAITING`, RO, class —: Requests waiting. -/
def POL_POOL_STAT_WAITING : Field :=
  ⟨6, 0x110, 32, 14, .ro, .fixed, 0, 0, 16, 256, 1, 0⟩

/-- Table 07.6: `POL_OWNER_CFG[n].KIND`, RW, class G: 0 unused, 1 engine, 2 tenant, 3 queue; writes to owners 0 to 63 ignored. -/
def POL_OWNER_CFG_KIND : Field :=
  ⟨6, 0x1000, 0, 2, .rw, .g, 0, 0, 1024, 128, 1, 0⟩

/-- Table 07.6: `POL_OWNER_CFG[n].TENANT`, RW, class G: Tenant, for kinds 2 and 3. -/
def POL_OWNER_CFG_TENANT : Field :=
  ⟨6, 0x1000, 16, 16, .rw, .g, 0, 0, 1024, 128, 1, 0⟩

/-- Table 07.6: `POL_LIMIT[n][b].MIN`, RW, class G: Reserved minimum. -/
def POL_LIMIT_MIN : Field :=
  ⟨6, 0x10000, 0, 25, .rw, .g, 0, 0, 1024, 1024, 16, 64⟩

/-- Table 07.6: `POL_LIMIT[n][b].MAX`, RW, class G: Maximum. -/
def POL_LIMIT_MAX : Field :=
  ⟨6, 0x10000, 32, 25, .rw, .g, 0, 0, 1024, 1024, 16, 64⟩

/-- Table 07.6: `POL_HELD[n][b].HELD`, RO, class —: Buffers held. -/
def POL_HELD_HELD : Field :=
  ⟨6, 0x40000, 0, 25, .ro, .fixed, 0, 0, 1024, 512, 16, 32⟩

/-- Table 08.13: `PJM_CTRL.ENABLE`, RW, class L: PJM enabled. -/
def PJM_CTRL_ENABLE : Field :=
  ⟨7, 0x0, 0, 1, .rw, .l, 0, 0, 1, 0, 1, 0⟩

/-- Table 08.13: `PJM_STATUS.CH_OK`, RO, class —: Bit c: channel c in service. -/
def PJM_STATUS_CH_OK : Field :=
  ⟨7, 0x4, 0, 8, .ro, .fixed, 0, 0, 1, 0, 1, 0⟩

/-- Table 08.13: `PJM_STATUS.MIRROR_IN`, RO, class —: Partner's mirror of this head's log in service. -/
def PJM_STATUS_MIRROR_IN : Field :=
  ⟨7, 0x4, 8, 1, .ro, .fixed, 0, 0, 1, 0, 1, 0⟩

/-- Table 08.13: `PJM_STATUS.MIRROR_HELD`, RO, class —: This head's mirror of the partner in service. -/
def PJM_STATUS_MIRROR_HELD : Field :=
  ⟨7, 0x4, 9, 1, .ro, .fixed, 0, 0, 1, 0, 1, 0⟩

/-- Table 08.13: `PJM_STATUS.JOURNAL_OPEN`, RO, class —: Journal path available (R24). -/
def PJM_STATUS_JOURNAL_OPEN : Field :=
  ⟨7, 0x4, 10, 1, .ro, .fixed, 0, 0, 1, 0, 1, 0⟩

/-- Table 08.13: `PJM_ERR.CH_FAIL`, W1C, class L: A channel failed (R174). -/
def PJM_ERR_CH_FAIL : Field :=
  ⟨7, 0x8, 0, 1, .w1c, .l, 0, 0, 1, 0, 1, 0⟩

/-- Table 08.13: `PJM_ERR.UE`, W1C, class L: Uncorrectable error read. -/
def PJM_ERR_UE : Field :=
  ⟨7, 0x8, 1, 1, .w1c, .l, 0, 0, 1, 0, 1, 0⟩

/-- Table 08.13: `PJM_ERR.LOG_FULL`, W1C, class L: Journal path refused for room (R180). -/
def PJM_ERR_LOG_FULL : Field :=
  ⟨7, 0x8, 2, 1, .w1c, .l, 0, 0, 1, 0, 1, 0⟩

/-- Table 08.13: `PJM_ERR.BAD_TYPE`, W1C, class L: Reserved type dropped at replay. -/
def PJM_ERR_BAD_TYPE : Field :=
  ⟨7, 0x8, 3, 1, .w1c, .l, 0, 0, 1, 0, 1, 0⟩

/-- Table 08.13: `PJM_ERR.HELD`, W1C, class L: Writes held by R187. -/
def PJM_ERR_HELD : Field :=
  ⟨7, 0x8, 4, 1, .w1c, .l, 0, 0, 1, 0, 1, 0⟩

/-- Table 08.13: `PJM_ERR_INFO.CHANNEL`, RO, class —: Channel of the last error. -/
def PJM_ERR_INFO_CHANNEL : Field :=
  ⟨7, 0xC, 0, 3, .ro, .fixed, 0, 0, 1, 0, 1, 0⟩

/-- Table 08.13: `PJM_ERR_INFO.ADDR64`, RO, class —: Offset ÷ 64. -/
def PJM_ERR_INFO_ADDR64 : Field :=
  ⟨7, 0xC, 3, 29, .ro, .fixed, 0, 0, 1, 0, 1, 0⟩

/-- Table 08.13: `PJM_COMMIT.GEN`, WO, class L: Commit with expected generation. -/
def PJM_COMMIT_GEN : Field :=
  ⟨7, 0x10, 0, 32, .wo, .l, 0, 0, 1, 0, 1, 0⟩

/-- Table 08.13: `PJM_ACTIVE_GEN.GEN`, RO, class —: Generation in force. -/
def PJM_ACTIVE_GEN_GEN : Field :=
  ⟨7, 0x14, 0, 32, .ro, .fixed, 0, 0, 1, 0, 1, 0⟩

/-- Table 08.13: `PJM_TIMING.RATE`, RW, class S: 0 DDR4-1600, 1 -2133, 2 -2400, 3 -2666. -/
def PJM_TIMING_RATE : Field :=
  ⟨7, 0x18, 0, 2, .rw, .s, 0, 0, 1, 0, 1, 0⟩

/-- Table 08.13: `PJM_TIMING.PERSIST_NS`, RW, class S: Write persistence delay, ns (R26). -/
def PJM_TIMING_PERSIST_NS : Field :=
  ⟨7, 0x18, 16, 10, .rw, .s, 200, 0, 1, 0, 1, 0⟩

/-- Table 08.13: `PJM_LAYOUT.LOG_MIB`, RW, class S: L, MiB, 64 to 1,016. -/
def PJM_LAYOUT_LOG_MIB : Field :=
  ⟨7, 0x1C, 0, 10, .rw, .s, 64, 0, 1, 0, 1, 0⟩

/-- Table 08.13: `PJM_JCFG.THRESH_4K`, RW, class G: Journal threshold in 4 KiB units, 1 to 64 (R24). -/
def PJM_JCFG_THRESH_4K : Field :=
  ⟨7, 0x20, 0, 7, .rw, .g, 16, 0, 1, 0, 1, 0⟩

/-- Table 08.13: `PJM_JCFG.FULL_PCT`, RW, class G: Room limit, % of L, 50 to 95 (R180). -/
def PJM_JCFG_FULL_PCT : Field :=
  ⟨7, 0x20, 7, 7, .rw, .g, 90, 0, 1, 0, 1, 0⟩

/-- Table 08.13: `PJM_CH_CMD.CHANNEL`, WO, class L: Channel to return to service (R190). -/
def PJM_CH_CMD_CHANNEL : Field :=
  ⟨7, 0x24, 0, 3, .wo, .l, 0, 0, 1, 0, 1, 0⟩

/-- Table 08.13: `PJM_JSEQ.NEXT`, RO, class —: Next JSEQ. -/
def PJM_JSEQ_NEXT : Field :=
  ⟨7, 0x28, 0, 64, .ro, .fixed, 0, 0, 1, 0, 1, 0⟩

/-- Table 08.13: `PJM_LOG_USED.MIB`, RO, class —: Live records, all channels, MiB. -/
def PJM_LOG_USED_MIB : Field :=
  ⟨7, 0x30, 0, 32, .ro, .fixed, 0, 0, 1, 0, 1, 0⟩

/-- Table 08.13: `PJM_CH_STATUS[n].STATE`, RO, class —: 0 absent, 1 training, 2 in service, 3 failed, 4 catching up. -/
def PJM_CH_STATUS_STATE : Field :=
  ⟨7, 0x100, 0, 3, .ro, .fixed, 0, 0, 8, 128, 1, 0⟩

/-- Table 08.13: `PJM_CH_STATUS[n].SIZE_MIB`, RO, class —: Capacity. -/
def PJM_CH_STATUS_SIZE_MIB : Field :=
  ⟨7, 0x100, 4, 12, .ro, .fixed, 0, 0, 8, 128, 1, 0⟩

/-- Table 08.13: `PJM_CH_STATUS[n].LIVE_KIB`, RO, class —: Live bytes of the own log. -/
def PJM_CH_STATUS_LIVE_KIB : Field :=
  ⟨7, 0x100, 16, 32, .ro, .fixed, 0, 0, 8, 128, 1, 0⟩

/-- Table 08.13: `PJM_CH_ECC[n].CE`, RC, class —: Corrected errors, saturating. -/
def PJM_CH_ECC_CE : Field :=
  ⟨7, 0x108, 0, 16, .rc, .fixed, 0, 0, 8, 128, 1, 0⟩

/-- Table 08.13: `PJM_CH_ECC[n].UE`, RC, class —: Uncorrectable errors, saturating. -/
def PJM_CH_ECC_UE : Field :=
  ⟨7, 0x108, 16, 16, .rc, .fixed, 0, 0, 8, 128, 1, 0⟩

/-- Table 08.15: `ISL_CTRL.ENABLE`, RW, class L: Link enabled; training starts. -/
def ISL_CTRL_ENABLE : Field :=
  ⟨8, 0x0, 0, 1, .rw, .l, 0, 0, 1, 0, 1, 0⟩

/-- Table 08.15: `ISL_STATUS.STATE`, RO, class —: 0 DOWN, 1 TRAINING, 2 UP, 3 CATCHUP, 4 IN_SERVICE. -/
def ISL_STATUS_STATE : Field :=
  ⟨8, 0x4, 0, 3, .ro, .fixed, 0, 0, 1, 0, 1, 0⟩

/-- Table 08.15: `ISL_STATUS.SUSPECT`, RO, class —: R188. -/
def ISL_STATUS_SUSPECT : Field :=
  ⟨8, 0x4, 3, 1, .ro, .fixed, 0, 0, 1, 0, 1, 0⟩

/-- Table 08.15: `ISL_STATUS.QUADS_UP`, RO, class —: Bit q: quad q in service. -/
def ISL_STATUS_QUADS_UP : Field :=
  ⟨8, 0x4, 4, 4, .ro, .fixed, 0, 0, 1, 0, 1, 0⟩

/-- Table 08.15: `ISL_ERR.LINK_DOWN`, W1C, class L: R187. -/
def ISL_ERR_LINK_DOWN : Field :=
  ⟨8, 0x8, 0, 1, .w1c, .l, 0, 0, 1, 0, 1, 0⟩

/-- Table 08.15: `ISL_ERR.RETRY_EXC`, W1C, class L: R187, resend limit. -/
def ISL_ERR_RETRY_EXC : Field :=
  ⟨8, 0x8, 1, 1, .w1c, .l, 0, 0, 1, 0, 1, 0⟩

/-- Table 08.15: `ISL_ERR.SUSPECT`, W1C, class L: R188. -/
def ISL_ERR_SUSPECT : Field :=
  ⟨8, 0x8, 2, 1, .w1c, .l, 0, 0, 1, 0, 1, 0⟩

/-- Table 08.15: `ISL_ERR.LAYOUT`, W1C, class L: R175. -/
def ISL_ERR_LAYOUT : Field :=
  ⟨8, 0x8, 3, 1, .w1c, .l, 0, 0, 1, 0, 1, 0⟩

/-- Table 08.15: `ISL_ERR.CATCHUP_FAIL`, W1C, class L: Link lost during R189. -/
def ISL_ERR_CATCHUP_FAIL : Field :=
  ⟨8, 0x8, 4, 1, .w1c, .l, 0, 0, 1, 0, 1, 0⟩

/-- Table 08.15: `ISL_COMMIT.GEN`, WO, class L: Commit with expected generation. -/
def ISL_COMMIT_GEN : Field :=
  ⟨8, 0xC, 0, 32, .wo, .l, 0, 0, 1, 0, 1, 0⟩

/-- Table 08.15: `ISL_ACTIVE_GEN.GEN`, RO, class —: Generation in force. -/
def ISL_ACTIVE_GEN_GEN : Field :=
  ⟨8, 0x10, 0, 32, .ro, .fixed, 0, 0, 1, 0, 1, 0⟩

/-- Table 08.15: `ISL_CFG.DOWN_US`, RW, class G: R187, µs, 2 to 100. -/
def ISL_CFG_DOWN_US : Field :=
  ⟨8, 0x14, 0, 8, .rw, .g, 10, 0, 1, 0, 1, 0⟩

/-- Table 08.15: `ISL_CFG.SUSPECT_MISS`, RW, class G: R188, 1 to 15. -/
def ISL_CFG_SUSPECT_MISS : Field :=
  ⟨8, 0x14, 8, 4, .rw, .g, 3, 0, 1, 0, 1, 0⟩

/-- Table 08.15: `ISL_CFG.RETRY_MAX`, RW, class G: R187, 1 to 15. -/
def ISL_CFG_RETRY_MAX : Field :=
  ⟨8, 0x14, 12, 4, .rw, .g, 8, 0, 1, 0, 1, 0⟩

/-- Table 08.15: `ISL_CFG.MIN_QUADS`, RW, class G: R185; 0 means 4. -/
def ISL_CFG_MIN_QUADS : Field :=
  ⟨8, 0x14, 16, 2, .rw, .g, 1, 0, 1, 0, 1, 0⟩

/-- Table 08.15: `ISL_VC_WEIGHT.W2`, RW, class G: Weight of VC 2. -/
def ISL_VC_WEIGHT_W2 : Field :=
  ⟨8, 0x18, 0, 8, .rw, .g, 64, 0, 1, 0, 1, 0⟩

/-- Table 08.15: `ISL_VC_WEIGHT.W3`, RW, class G: Weight of VC 3. -/
def ISL_VC_WEIGHT_W3 : Field :=
  ⟨8, 0x18, 8, 8, .rw, .g, 64, 0, 1, 0, 1, 0⟩

/-- Table 08.15: `ISL_PEER.HEAD`, RO, class —: HEAD of the last drumbeat. -/
def ISL_PEER_HEAD : Field :=
  ⟨8, 0x20, 0, 16, .ro, .fixed, 0, 0, 1, 0, 1, 0⟩

/-- Table 08.15: `ISL_PEER.DSEQ`, RO, class —: DSEQ of the last drumbeat. -/
def ISL_PEER_DSEQ : Field :=
  ⟨8, 0x20, 16, 32, .ro, .fixed, 0, 0, 1, 0, 1, 0⟩

/-- Table 08.15: `ISL_PEER.CH_OK`, RO, class —: Partner's PJM channels in service. -/
def ISL_PEER_CH_OK : Field :=
  ⟨8, 0x20, 48, 8, .ro, .fixed, 0, 0, 1, 0, 1, 0⟩

/-- Table 08.15: `ISL_PEER.MIRROR_READY`, RO, class —: Partner holds this head's mirror. -/
def ISL_PEER_MIRROR_READY : Field :=
  ⟨8, 0x20, 56, 1, .ro, .fixed, 0, 0, 1, 0, 1, 0⟩

/-- Table 08.15: `ISL_PEER.FENCED`, RO, class —: Partner fenced. -/
def ISL_PEER_FENCED : Field :=
  ⟨8, 0x20, 57, 1, .ro, .fixed, 0, 0, 1, 0, 1, 0⟩

/-- Table 08.15: `ISL_RETRY.COUNT`, RC, class —: Flits resent. -/
def ISL_RETRY_COUNT : Field :=
  ⟨8, 0x28, 0, 32, .rc, .fixed, 0, 0, 1, 0, 1, 0⟩

/-- Table 08.15: `ISL_DRUM_MISSED.COUNT`, RC, class —: Drumbeats absent. -/
def ISL_DRUM_MISSED_COUNT : Field :=
  ⟨8, 0x2C, 0, 32, .rc, .fixed, 0, 0, 1, 0, 1, 0⟩

/-- Table 09.10: `DDP_CTRL.ENABLE`, RW, class L: DDP enabled. -/
def DDP_CTRL_ENABLE : Field :=
  ⟨9, 0x0, 0, 1, .rw, .l, 0, 0, 1, 0, 1, 0⟩

/-- Table 09.10: `DDP_CTRL.VERIFY`, RW, class G: Byte comparison before sharing (R209). -/
def DDP_CTRL_VERIFY : Field :=
  ⟨9, 0x0, 1, 1, .rw, .g, 0, 0, 1, 0, 1, 0⟩

/-- Table 09.10: `DDP_CTRL.ZERO_DETECT`, RW, class G: Map all-zero chunks as unmapped. -/
def DDP_CTRL_ZERO_DETECT : Field :=
  ⟨9, 0x0, 2, 1, .rw, .g, 1, 0, 1, 0, 1, 0⟩

/-- Table 09.10: `DDP_STATUS.HALVES`, RO, class —: Bit h: this head owns index half h. -/
def DDP_STATUS_HALVES : Field :=
  ⟨9, 0x4, 0, 2, .ro, .fixed, 0, 0, 1, 0, 1, 0⟩

/-- Table 09.10: `DDP_STATUS.REPLAYING`, RO, class —: Reference replay in progress. -/
def DDP_STATUS_REPLAYING : Field :=
  ⟨9, 0x4, 2, 1, .ro, .fixed, 0, 0, 1, 0, 1, 0⟩

/-- Table 09.10: `DDP_ERR.VERIFY_MISMATCH`, W1C, class L: R210. -/
def DDP_ERR_VERIFY_MISMATCH : Field :=
  ⟨9, 0x8, 0, 1, .w1c, .l, 0, 0, 1, 0, 1, 0⟩

/-- Table 09.10: `DDP_ERR.PAGE_FULL`, W1C, class L: Chunk left unindexed, page full. -/
def DDP_ERR_PAGE_FULL : Field :=
  ⟨9, 0x8, 1, 1, .w1c, .l, 0, 0, 1, 0, 1, 0⟩

/-- Table 09.10: `DDP_ERR.DEFER_DROP`, W1C, class L: Deferred queue full (R209). -/
def DDP_ERR_DEFER_DROP : Field :=
  ⟨9, 0x8, 2, 1, .w1c, .l, 0, 0, 1, 0, 1, 0⟩

/-- Table 09.10: `DDP_ERR.REF_SAT`, W1C, class L: An entry reached 0xFFFF_FF00. -/
def DDP_ERR_REF_SAT : Field :=
  ⟨9, 0x8, 3, 1, .w1c, .l, 0, 0, 1, 0, 1, 0⟩

/-- Table 09.10: `DDP_ERR.PIN_FULL`, W1C, class L: Pin store full (R204). -/
def DDP_ERR_PIN_FULL : Field :=
  ⟨9, 0x8, 4, 1, .w1c, .l, 0, 0, 1, 0, 1, 0⟩

/-- Table 09.10: `DDP_COMMIT.GEN`, WO, class L: Commit with expected generation. -/
def DDP_COMMIT_GEN : Field :=
  ⟨9, 0xC, 0, 32, .wo, .l, 0, 0, 1, 0, 1, 0⟩

/-- Table 09.10: `DDP_ACTIVE_GEN.GEN`, RO, class —: Generation in force. -/
def DDP_ACTIVE_GEN_GEN : Field :=
  ⟨9, 0x10, 0, 32, .ro, .fixed, 0, 0, 1, 0, 1, 0⟩

/-- Table 09.10: `DDP_CFG.INLINE_NS`, RW, class G: Partner-half answer limit, ns (R203). -/
def DDP_CFG_INLINE_NS : Field :=
  ⟨9, 0x14, 0, 16, .rw, .g, 3000, 0, 1, 0, 1, 0⟩

/-- Table 09.10: `DDP_IDX_CFG.PAGES_LOG2`, RW, class S: Index pages = 2^n, 12 to 32. -/
def DDP_IDX_CFG_PAGES_LOG2 : Field :=
  ⟨9, 0x18, 0, 6, .rw, .s, 20, 0, 1, 0, 1, 0⟩

/-- Table 09.10: `DDP_IDX_CFG.ICACHE_LOG2`, RW, class S: Cached index pages = 2^n, 10 to 26. -/
def DDP_IDX_CFG_ICACHE_LOG2 : Field :=
  ⟨9, 0x18, 8, 6, .rw, .s, 16, 0, 1, 0, 1, 0⟩

/-- Table 09.10: `DDP_IDX_CFG.DEFER_LOG2`, RW, class S: Deferred queue entries = 2^n, 16 to 24. -/
def DDP_IDX_CFG_DEFER_LOG2 : Field :=
  ⟨9, 0x18, 16, 6, .rw, .s, 22, 0, 1, 0, 1, 0⟩

/-- Table 09.10: `DDP_FILTER_BASE.ADDR`, RW, class S: DDR5 address, 4 KiB-aligned. -/
def DDP_FILTER_BASE_ADDR : Field :=
  ⟨9, 0x20, 0, 64, .rw, .s, 0, 0, 1, 0, 1, 0⟩

/-- Table 09.10: `DDP_ICACHE_BASE.ADDR`, RW, class S: DDR5 address, 16 KiB-aligned. -/
def DDP_ICACHE_BASE_ADDR : Field :=
  ⟨9, 0x28, 0, 64, .rw, .s, 0, 0, 1, 0, 1, 0⟩

/-- Table 09.10: `DDP_DEFER_BASE.ADDR`, RW, class S: DDR5 address, 4 KiB-aligned. -/
def DDP_DEFER_BASE_ADDR : Field :=
  ⟨9, 0x30, 0, 64, .rw, .s, 0, 0, 1, 0, 1, 0⟩

/-- Table 09.10: `DDP_STAT_INLINE.COUNT`, RC, class —: Inline matches. -/
def DDP_STAT_INLINE_COUNT : Field :=
  ⟨9, 0x40, 0, 64, .rc, .fixed, 0, 0, 1, 0, 1, 0⟩

/-- Table 09.10: `DDP_STAT_NEW.COUNT`, RC, class —: Chunks stored new. -/
def DDP_STAT_NEW_COUNT : Field :=
  ⟨9, 0x48, 0, 64, .rc, .fixed, 0, 0, 1, 0, 1, 0⟩

/-- Table 09.10: `DDP_STAT_DEFER_MATCH.COUNT`, RC, class —: Chunks shared by R209. -/
def DDP_STAT_DEFER_MATCH_COUNT : Field :=
  ⟨9, 0x50, 0, 64, .rc, .fixed, 0, 0, 1, 0, 1, 0⟩

/-- Table 09.10: `DDP_STAT_ZERO.COUNT`, RC, class —: All-zero chunks. -/
def DDP_STAT_ZERO_COUNT : Field :=
  ⟨9, 0x58, 0, 64, .rc, .fixed, 0, 0, 1, 0, 1, 0⟩

/-- Table 09.10: `DDP_DEFER_DROP.COUNT`, RC, class —: Chunks not queued. -/
def DDP_DEFER_DROP_COUNT : Field :=
  ⟨9, 0x60, 0, 32, .rc, .fixed, 0, 0, 1, 0, 1, 0⟩

/-- Table 09.10: `DDP_DEFER_DEPTH.COUNT`, RO, class —: Entries queued. -/
def DDP_DEFER_DEPTH_COUNT : Field :=
  ⟨9, 0x64, 0, 25, .ro, .fixed, 0, 0, 1, 0, 1, 0⟩

/-- Table 09.10: `DDP_VERIFY_MISMATCH.COUNT`, RC, class —: R210. -/
def DDP_VERIFY_MISMATCH_COUNT : Field :=
  ⟨9, 0x68, 0, 32, .rc, .fixed, 0, 0, 1, 0, 1, 0⟩

/-- Table 09.10: `DDP_PINS.COUNT`, RO, class —: Pins held, 0 to 65,536. -/
def DDP_PINS_COUNT : Field :=
  ⟨9, 0x6C, 0, 17, .ro, .fixed, 0, 0, 1, 0, 1, 0⟩

/-- Table 09.12: `CMP_CTRL.ENABLE`, RW, class L: CMP enabled. -/
def CMP_CTRL_ENABLE : Field :=
  ⟨10, 0x0, 0, 1, .rw, .l, 0, 0, 1, 0, 1, 0⟩

/-- Table 09.12: `CMP_STATUS.CLUSTER_UP`, RO, class —: Bit k: cluster k powered and serving. -/
def CMP_STATUS_CLUSTER_UP : Field :=
  ⟨10, 0x4, 0, 16, .ro, .fixed, 0, 0, 1, 0, 1, 0⟩

/-- Table 09.12: `CMP_ERR.CRC_FAIL`, W1C, class L: R218. -/
def CMP_ERR_CRC_FAIL : Field :=
  ⟨10, 0x8, 0, 1, .w1c, .l, 0, 0, 1, 0, 1, 0⟩

/-- Table 09.12: `CMP_ERR.STREAM_INVALID`, W1C, class L: R221. -/
def CMP_ERR_STREAM_INVALID : Field :=
  ⟨10, 0x8, 1, 1, .w1c, .l, 0, 0, 1, 0, 1, 0⟩

/-- Table 09.12: `CMP_COMMIT.GEN`, WO, class L: Commit with expected generation. -/
def CMP_COMMIT_GEN : Field :=
  ⟨10, 0xC, 0, 32, .wo, .l, 0, 0, 1, 0, 1, 0⟩

/-- Table 09.12: `CMP_ACTIVE_GEN.GEN`, RO, class —: Generation in force. -/
def CMP_ACTIVE_GEN_GEN : Field :=
  ⟨10, 0x10, 0, 32, .ro, .fixed, 0, 0, 1, 0, 1, 0⟩

/-- Table 09.12: `CMP_DP_CFG.FORMAT`, RW, class G: 0 LZ4 block, 1 Zstandard, 2 raw DEFLATE, 3 off. -/
def CMP_DP_CFG_FORMAT : Field :=
  ⟨10, 0x14, 0, 2, .rw, .g, 0, 0, 1, 0, 1, 0⟩

/-- Table 09.12: `CMP_DP_CFG.LEVEL`, RW, class G: 1 to 9 (Table 09.3). -/
def CMP_DP_CFG_LEVEL : Field :=
  ⟨10, 0x14, 2, 4, .rw, .g, 1, 0, 1, 0, 1, 0⟩

/-- Table 09.12: `CMP_DP_CFG.MIN_SAVE_64`, RW, class G: Minimum saving, 64-byte units (R217). -/
def CMP_DP_CFG_MIN_SAVE_64 : Field :=
  ⟨10, 0x14, 6, 6, .rw, .g, 8, 0, 1, 0, 1, 0⟩

/-- Table 09.12: `CMP_SHARE.OFFLOAD_MASK`, RW, class G: Bit k: cluster k serves offload first (R214). -/
def CMP_SHARE_OFFLOAD_MASK : Field :=
  ⟨10, 0x18, 0, 16, .rw, .g, 3, 0, 1, 0, 1, 0⟩

/-- Table 09.12: `CMP_STAT_IN.BYTES`, RC, class —: Data-path bytes compressed. -/
def CMP_STAT_IN_BYTES : Field :=
  ⟨10, 0x20, 0, 64, .rc, .fixed, 0, 0, 1, 0, 1, 0⟩

/-- Table 09.12: `CMP_STAT_OUT.BYTES`, RC, class —: Slot bytes stored for them. -/
def CMP_STAT_OUT_BYTES : Field :=
  ⟨10, 0x28, 0, 64, .rc, .fixed, 0, 0, 1, 0, 1, 0⟩

/-- Table 09.12: `CMP_STAT_RAW.COUNT`, RC, class —: Raw fallbacks (R217). -/
def CMP_STAT_RAW_COUNT : Field :=
  ⟨10, 0x30, 0, 64, .rc, .fixed, 0, 0, 1, 0, 1, 0⟩

/-- Table 09.12: `CMP_CRC_FAIL.COUNT`, RC, class —: CRC mismatches, before reconstruction. -/
def CMP_CRC_FAIL_COUNT : Field :=
  ⟨10, 0x38, 0, 32, .rc, .fixed, 0, 0, 1, 0, 1, 0⟩

/-- Table 09.12: `CMP_JOBS_WAITING.COUNT`, RO, class —: Offload jobs queued for a cluster. -/
def CMP_JOBS_WAITING_COUNT : Field :=
  ⟨10, 0x3C, 0, 16, .ro, .fixed, 0, 0, 1, 0, 1, 0⟩

/-- Table 10.9: `CIP_CTRL.ENABLE`, RW, class L: CIP enabled. -/
def CIP_CTRL_ENABLE : Field :=
  ⟨11, 0x0, 0, 1, .rw, .l, 0, 0, 1, 0, 1, 0⟩

/-- Table 10.9: `CIP_STATUS.PIPE_UP`, RO, class —: Bit i: pipeline i serving. -/
def CIP_STATUS_PIPE_UP : Field :=
  ⟨11, 0x4, 0, 32, .ro, .fixed, 0, 0, 1, 0, 1, 0⟩

/-- Table 10.9: `CIP_ERR.UNWRAP_FAIL`, W1C, class L: R235. -/
def CIP_ERR_UNWRAP_FAIL : Field :=
  ⟨11, 0x8, 0, 1, .w1c, .l, 0, 0, 1, 0, 1, 0⟩

/-- Table 10.9: `CIP_ERR.STORE_FAIL`, W1C, class L: R239. -/
def CIP_ERR_STORE_FAIL : Field :=
  ⟨11, 0x8, 1, 1, .w1c, .l, 0, 0, 1, 0, 1, 0⟩

/-- Table 10.9: `CIP_ERR.CMD_BUSY`, W1C, class L: R236. -/
def CIP_ERR_CMD_BUSY : Field :=
  ⟨11, 0x8, 2, 1, .w1c, .l, 0, 0, 1, 0, 1, 0⟩

/-- Table 10.9: `CIP_ERR.FUSE_BLANK`, W1C, class L: Key fuses unwritten; KEK 0 EMPTY. -/
def CIP_ERR_FUSE_BLANK : Field :=
  ⟨11, 0x8, 3, 1, .w1c, .l, 0, 0, 1, 0, 1, 0⟩

/-- Table 10.9: `CIP_ERR_INFO.SLOT`, RO, class —: Slot or KEK of the last error. -/
def CIP_ERR_INFO_SLOT : Field :=
  ⟨11, 0xC, 0, 14, .ro, .fixed, 0, 0, 1, 0, 1, 0⟩

/-- Table 10.9: `CIP_COMMIT.GEN`, WO, class L: Commit with expected generation. -/
def CIP_COMMIT_GEN : Field :=
  ⟨11, 0x10, 0, 32, .wo, .l, 0, 0, 1, 0, 1, 0⟩

/-- Table 10.9: `CIP_ACTIVE_GEN.GEN`, RO, class —: Generation in force. -/
def CIP_ACTIVE_GEN_GEN : Field :=
  ⟨11, 0x14, 0, 32, .ro, .fixed, 0, 0, 1, 0, 1, 0⟩

/-- Table 10.9: `CIP_PRIO.WRITE_ENC`, RW, class G: Priority of chunk encryption. -/
def CIP_PRIO_WRITE_ENC : Field :=
  ⟨11, 0x18, 0, 3, .rw, .g, 4, 0, 1, 0, 1, 0⟩

/-- Table 10.9: `CIP_PRIO.READ_DEC`, RW, class G: Priority of chunk decryption. -/
def CIP_PRIO_READ_DEC : Field :=
  ⟨11, 0x18, 3, 3, .rw, .g, 5, 0, 1, 0, 1, 0⟩

/-- Table 10.9: `CIP_PRIO.CONTROL`, RW, class G: Priority of OWN and GBK CMAC. -/
def CIP_PRIO_CONTROL : Field :=
  ⟨11, 0x18, 6, 3, .rw, .g, 7, 0, 1, 0, 1, 0⟩

/-- Table 10.9: `CIP_PRIO.OFFLOAD_MAX`, RW, class G: Highest offload priority (R240). -/
def CIP_PRIO_OFFLOAD_MAX : Field :=
  ⟨11, 0x18, 9, 3, .rw, .g, 3, 0, 1, 0, 1, 0⟩

/-- Table 10.9: `CIP_KEY_CMD.OP`, WO, class L: 1 unwrap into key slot; 2 unwrap into KEK; 3 erase key slot; 4 erase KEK. -/
def CIP_KEY_CMD_OP : Field :=
  ⟨11, 0x1C, 0, 3, .wo, .l, 0, 0, 1, 0, 1, 0⟩

/-- Table 10.9: `CIP_KEY_CMD.TARGET`, WO, class L: Key slot, or KEK in [8:3]. -/
def CIP_KEY_CMD_TARGET : Field :=
  ⟨11, 0x1C, 3, 14, .wo, .l, 0, 0, 1, 0, 1, 0⟩

/-- Table 10.9: `CIP_KEY_CMD.KEK`, WO, class L: Unwrapping KEK. -/
def CIP_KEY_CMD_KEK : Field :=
  ⟨11, 0x1C, 17, 6, .wo, .l, 0, 0, 1, 0, 1, 0⟩

/-- Table 10.9: `CIP_KEY_CMD.FORMAT`, WO, class L: 0 RFC 3394, 1 RFC 5649. -/
def CIP_KEY_CMD_FORMAT : Field :=
  ⟨11, 0x1C, 23, 1, .wo, .l, 0, 0, 1, 0, 1, 0⟩

/-- Table 10.9: `CIP_KEY_CMD.BLOB_LEN`, WO, class L: Blob bytes, 40 to 96. -/
def CIP_KEY_CMD_BLOB_LEN : Field :=
  ⟨11, 0x1C, 24, 7, .wo, .l, 0, 0, 1, 0, 1, 0⟩

/-- Table 10.9: `CIP_KEY_RESULT.STATUS`, RO, class —: STS_OK or Table 10.7. -/
def CIP_KEY_RESULT_STATUS : Field :=
  ⟨11, 0x20, 0, 16, .ro, .fixed, 0, 0, 1, 0, 1, 0⟩

/-- Table 10.9: `CIP_KEY_RESULT.DONE`, RO, class —: Command complete. -/
def CIP_KEY_RESULT_DONE : Field :=
  ⟨11, 0x20, 16, 1, .ro, .fixed, 0, 0, 1, 0, 1, 0⟩

/-- Table 10.9: `CIP_KEY_RESULT.BUSY`, RO, class —: Command in progress. -/
def CIP_KEY_RESULT_BUSY : Field :=
  ⟨11, 0x20, 17, 1, .ro, .fixed, 0, 0, 1, 0, 1, 0⟩

/-- Table 10.9: `CIP_KEY_BLOB`, WO, class L: Wrapped blob; reads return 0. -/
def CIP_KEY_BLOB : Field :=
  ⟨11, 0x40, 0, 768, .wo, .l, 0, 0, 1, 0, 1, 0⟩

/-- Table 10.9: `CIP_KEY_STORE.ADDR`, RW, class S: HBM address, 1 MiB-aligned. -/
def CIP_KEY_STORE_ADDR : Field :=
  ⟨11, 0xA0, 0, 64, .rw, .s, 0, 0, 1, 0, 1, 0⟩

/-- Table 10.9: `CIP_SLOTS_LOADED.COUNT`, RO, class —: Slots LOADED. -/
def CIP_SLOTS_LOADED_COUNT : Field :=
  ⟨11, 0xA8, 0, 15, .ro, .fixed, 0, 0, 1, 0, 1, 0⟩

/-- Table 10.9: `CIP_KCACHE_HIT.COUNT`, RC, class —: Key-slot cache hits. -/
def CIP_KCACHE_HIT_COUNT : Field :=
  ⟨11, 0xAC, 0, 32, .rc, .fixed, 0, 0, 1, 0, 1, 0⟩

/-- Table 10.9: `CIP_KCACHE_MISS.COUNT`, RC, class —: Key-slot cache misses. -/
def CIP_KCACHE_MISS_COUNT : Field :=
  ⟨11, 0xB0, 0, 32, .rc, .fixed, 0, 0, 1, 0, 1, 0⟩

/-- Table 10.9: `CIP_AUTH_FAIL.COUNT`, RC, class —: Failed tag comparisons (R231). -/
def CIP_AUTH_FAIL_COUNT : Field :=
  ⟨11, 0xB4, 0, 32, .rc, .fixed, 0, 0, 1, 0, 1, 0⟩

/-- Table 10.9: `CIP_SUSPENDS.COUNT`, RC, class —: Jobs suspended (R240). -/
def CIP_SUSPENDS_COUNT : Field :=
  ⟨11, 0xB8, 0, 32, .rc, .fixed, 0, 0, 1, 0, 1, 0⟩

/-- Table 10.9: `CIP_KEK_STATE[n].STATE`, RO, class —: 0 EMPTY, 1 LOADED. -/
def CIP_KEK_STATE_STATE : Field :=
  ⟨11, 0x1000, 0, 2, .ro, .fixed, 0, 0, 64, 32, 1, 0⟩

/-- Table 10.9: `CIP_KEK_STATE[n].KIND`, RO, class —: Table 10.5. -/
def CIP_KEK_STATE_KIND : Field :=
  ⟨11, 0x1000, 2, 8, .ro, .fixed, 0, 0, 64, 32, 1, 0⟩

/-- Table 10.9: `CIP_KEK_STATE[n].TENANT`, RO, class —: Table 10.5. -/
def CIP_KEK_STATE_TENANT : Field :=
  ⟨11, 0x1000, 16, 16, .ro, .fixed, 0, 0, 64, 32, 1, 0⟩

/-- Table 10.9: `CIP_SLOT_STATE[n].STATE`, RO, class —: 0 EMPTY, 1 LOADED, 2 ERASING. -/
def CIP_SLOT_STATE_STATE : Field :=
  ⟨11, 0x10000, 0, 2, .ro, .fixed, 0, 0, 16384, 32, 1, 0⟩

/-- Table 10.9: `CIP_SLOT_STATE[n].KIND`, RO, class —: Table 10.5. -/
def CIP_SLOT_STATE_KIND : Field :=
  ⟨11, 0x10000, 2, 8, .ro, .fixed, 0, 0, 16384, 32, 1, 0⟩

/-- Table 10.9: `CIP_SLOT_STATE[n].USAGE`, RO, class —: Table 10.5. -/
def CIP_SLOT_STATE_USAGE : Field :=
  ⟨11, 0x10000, 10, 4, .ro, .fixed, 0, 0, 16384, 32, 1, 0⟩

/-- Table 10.9: `CIP_SLOT_STATE[n].BOUND`, RO, class —: Named by configuration (R236). -/
def CIP_SLOT_STATE_BOUND : Field :=
  ⟨11, 0x10000, 14, 1, .ro, .fixed, 0, 0, 16384, 32, 1, 0⟩

/-- Table 10.9: `CIP_SLOT_STATE[n].TENANT`, RO, class —: Table 10.5. -/
def CIP_SLOT_STATE_TENANT : Field :=
  ⟨11, 0x10000, 16, 16, .ro, .fixed, 0, 0, 16384, 32, 1, 0⟩

/-- Table 11.8: `MAP_CTRL.ENABLE`, RW, class L: MAP enabled; recovery starts. -/
def MAP_CTRL_ENABLE : Field :=
  ⟨12, 0x0, 0, 1, .rw, .l, 0, 0, 1, 0, 1, 0⟩

/-- Table 11.8: `MAP_CTRL.CAP_ALARM`, RW, class L: Assert `TOCSIN_N` when a PG first refuses with STS_CAPACITY_EXHAUSTED (R36). -/
def MAP_CTRL_CAP_ALARM : Field :=
  ⟨12, 0x0, 1, 1, .rw, .l, 0, 0, 1, 0, 1, 0⟩

/-- Table 11.8: `MAP_STATUS.STATE`, RO, class —: 0 disabled, 1 recovering, 2 serving (R260). -/
def MAP_STATUS_STATE : Field :=
  ⟨12, 0x4, 0, 2, .ro, .fixed, 0, 0, 1, 0, 1, 0⟩

/-- Table 11.8: `MAP_STATUS.CKPT_ACTIVE`, RO, class —: A checkpoint is running. -/
def MAP_STATUS_CKPT_ACTIVE : Field :=
  ⟨12, 0x4, 2, 1, .ro, .fixed, 0, 0, 1, 0, 1, 0⟩

/-- Table 11.8: `MAP_STATUS.MERGING`, RO, class —: Delta table not yet empty (R260). -/
def MAP_STATUS_MERGING : Field :=
  ⟨12, 0x4, 3, 1, .ro, .fixed, 0, 0, 1, 0, 1, 0⟩

/-- Table 11.8: `MAP_ERR.CKPT_LATE`, W1C, class L: R257. -/
def MAP_ERR_CKPT_LATE : Field :=
  ⟨12, 0x8, 0, 1, .w1c, .l, 0, 0, 1, 0, 1, 0⟩

/-- Table 11.8: `MAP_ERR.CACHE_FULL`, W1C, class L: R261. -/
def MAP_ERR_CACHE_FULL : Field :=
  ⟨12, 0x8, 1, 1, .w1c, .l, 0, 0, 1, 0, 1, 0⟩

/-- Table 11.8: `MAP_ERR.PAGE_REBUILT`, W1C, class L: R262. -/
def MAP_ERR_PAGE_REBUILT : Field :=
  ⟨12, 0x8, 2, 1, .w1c, .l, 0, 0, 1, 0, 1, 0⟩

/-- Table 11.8: `MAP_ERR.DIR_FAIL`, W1C, class L: A directory copy failed program. -/
def MAP_ERR_DIR_FAIL : Field :=
  ⟨12, 0x8, 3, 1, .w1c, .l, 0, 0, 1, 0, 1, 0⟩

/-- Table 11.8: `MAP_ERR.TORN`, W1C, class L: Torn pages found in recovery. -/
def MAP_ERR_TORN : Field :=
  ⟨12, 0x8, 4, 1, .w1c, .l, 0, 0, 1, 0, 1, 0⟩

/-- Table 11.8: `MAP_ERR_INFO.PG`, RO, class —: PG of the last error. -/
def MAP_ERR_INFO_PG : Field :=
  ⟨12, 0xC, 0, 16, .ro, .fixed, 0, 0, 1, 0, 1, 0⟩

/-- Table 11.8: `MAP_ERR_INFO.OSET`, RO, class —: Ownership set of the last error. -/
def MAP_ERR_INFO_OSET : Field :=
  ⟨12, 0xC, 16, 16, .ro, .fixed, 0, 0, 1, 0, 1, 0⟩

/-- Table 11.8: `MAP_COMMIT.GEN`, WO, class L: Commit with expected generation. -/
def MAP_COMMIT_GEN : Field :=
  ⟨12, 0x10, 0, 32, .wo, .l, 0, 0, 1, 0, 1, 0⟩

/-- Table 11.8: `MAP_ACTIVE_GEN.GEN`, RO, class —: Generation in force. -/
def MAP_ACTIVE_GEN_GEN : Field :=
  ⟨12, 0x14, 0, 32, .ro, .fixed, 0, 0, 1, 0, 1, 0⟩

/-- Table 11.8: `MAP_CKPT.INTERVAL_MS`, RW, class G: R257, 10 to 1,000 ms. -/
def MAP_CKPT_INTERVAL_MS : Field :=
  ⟨12, 0x18, 0, 16, .rw, .g, 50, 0, 1, 0, 1, 0⟩

/-- Table 11.8: `MAP_CKPT.MIB`, RW, class G: R257, 16 to 4,096 MiB. -/
def MAP_CKPT_MIB : Field :=
  ⟨12, 0x18, 16, 16, .rw, .g, 256, 0, 1, 0, 1, 0⟩

/-- Table 11.8: `MAP_CKPT_CMD.START`, WO, class L: Checkpoint every owned set. -/
def MAP_CKPT_CMD_START : Field :=
  ⟨12, 0x1C, 0, 1, .wo, .l, 0, 0, 1, 0, 1, 0⟩

/-- Table 11.8: `MAP_CACHE_BASE.ADDR`, RW, class S: DDR5 address, 16 KiB-aligned. -/
def MAP_CACHE_BASE_ADDR : Field :=
  ⟨12, 0x20, 0, 64, .rw, .s, 0, 0, 1, 0, 1, 0⟩

/-- Table 11.8: `MAP_CACHE_CFG.PAGES_LOG2`, RW, class S: Frames = 2^n, 14 to 27. -/
def MAP_CACHE_CFG_PAGES_LOG2 : Field :=
  ⟨12, 0x28, 0, 6, .rw, .s, 20, 0, 1, 0, 1, 0⟩

/-- Table 11.8: `MAP_CACHE_CFG.DIRTY_PCT`, RW, class G: R261, 10 to 90 %. -/
def MAP_CACHE_CFG_DIRTY_PCT : Field :=
  ⟨12, 0x28, 8, 6, .rw, .g, 50, 0, 1, 0, 1, 0⟩

/-- Table 11.8: `MAP_DIR_CFG.BLOCKS`, RW, class S: Blocks per directory ring, 2 to 15. -/
def MAP_DIR_CFG_BLOCKS : Field :=
  ⟨12, 0x2C, 0, 4, .rw, .s, 8, 0, 1, 0, 1, 0⟩

/-- Table 11.8: `MAP_CKPT_GEN.GEN`, RO, class —: Highest CKPT_GEN written by this head. -/
def MAP_CKPT_GEN_GEN : Field :=
  ⟨12, 0x30, 0, 64, .ro, .fixed, 0, 0, 1, 0, 1, 0⟩

/-- Table 11.8: `MAP_CKPT_LAST.NS`, RO, class —: T_CKPT of the last completed checkpoint. -/
def MAP_CKPT_LAST_NS : Field :=
  ⟨12, 0x38, 0, 64, .ro, .fixed, 0, 0, 1, 0, 1, 0⟩

/-- Table 11.8: `MAP_DELTA_PENDING.MIB`, RO, class —: Delta bytes above the fences, all sets. -/
def MAP_DELTA_PENDING_MIB : Field :=
  ⟨12, 0x40, 0, 32, .ro, .fixed, 0, 0, 1, 0, 1, 0⟩

/-- Table 11.8: `MAP_DIRTY_PAGES.COUNT`, RO, class —: Dirty frames. -/
def MAP_DIRTY_PAGES_COUNT : Field :=
  ⟨12, 0x44, 0, 28, .ro, .fixed, 0, 0, 1, 0, 1, 0⟩

/-- Table 11.8: `MAP_RECOVERY_US.US`, RO, class —: R260. -/
def MAP_RECOVERY_US_US : Field :=
  ⟨12, 0x48, 0, 32, .ro, .fixed, 0, 0, 1, 0, 1, 0⟩

/-- Table 11.8: `MAP_STAT_FETCH.COUNT`, RC, class —: Pages read from flash. -/
def MAP_STAT_FETCH_COUNT : Field :=
  ⟨12, 0x50, 0, 64, .rc, .fixed, 0, 0, 1, 0, 1, 0⟩

/-- Table 11.10: `MDC_CTRL.ENABLE`, RW, class L: MDC enabled; when 0, every access bypasses. -/
def MDC_CTRL_ENABLE : Field :=
  ⟨13, 0x0, 0, 1, .rw, .l, 0, 0, 1, 0, 1, 0⟩

/-- Table 11.10: `MDC_STATUS.READY`, RO, class —: R266. -/
def MDC_STATUS_READY : Field :=
  ⟨13, 0x4, 0, 1, .ro, .fixed, 0, 0, 1, 0, 1, 0⟩

/-- Table 11.10: `MDC_ERR.UE_CLEAN`, W1C, class L: R267. -/
def MDC_ERR_UE_CLEAN : Field :=
  ⟨13, 0x8, 0, 1, .w1c, .l, 0, 0, 1, 0, 1, 0⟩

/-- Table 11.10: `MDC_ERR.UE_DIRTY`, W1C, class L: R267. -/
def MDC_ERR_UE_DIRTY : Field :=
  ⟨13, 0x8, 1, 1, .w1c, .l, 0, 0, 1, 0, 1, 0⟩

/-- Table 11.10: `MDC_ERR.GROUP_CMD`, W1C, class L: R265. -/
def MDC_ERR_GROUP_CMD : Field :=
  ⟨13, 0x8, 2, 1, .w1c, .l, 0, 0, 1, 0, 1, 0⟩

/-- Table 11.10: `MDC_COMMIT.GEN`, WO, class L: Commit with expected generation. -/
def MDC_COMMIT_GEN : Field :=
  ⟨13, 0xC, 0, 32, .wo, .l, 0, 0, 1, 0, 1, 0⟩

/-- Table 11.10: `MDC_ACTIVE_GEN.GEN`, RO, class —: Generation in force. -/
def MDC_ACTIVE_GEN_GEN : Field :=
  ⟨13, 0x10, 0, 32, .ro, .fixed, 0, 0, 1, 0, 1, 0⟩

/-- Table 11.10: `MDC_WAYGRP_CMD.GROUP`, WO, class L: Way group. -/
def MDC_WAYGRP_CMD_GROUP : Field :=
  ⟨13, 0x14, 0, 3, .wo, .l, 0, 0, 1, 0, 1, 0⟩

/-- Table 11.10: `MDC_WAYGRP_CMD.OP`, WO, class L: 1 power down, 2 power up. -/
def MDC_WAYGRP_CMD_OP : Field :=
  ⟨13, 0x14, 3, 2, .wo, .l, 0, 0, 1, 0, 1, 0⟩

/-- Table 11.10: `MDC_WAYGRP_STATE.STATE`, RO, class —: Bits [2g+1:2g]: 0 ON, 1 CLEANING, 2 OFF, 3 WAKING. -/
def MDC_WAYGRP_STATE_STATE : Field :=
  ⟨13, 0x18, 0, 16, .ro, .fixed, 0, 0, 1, 0, 1, 0⟩

/-- Table 11.10: `MDC_REGION[n].BASE`, RW, class G: DDR5 address, 1 MiB-aligned. -/
def MDC_REGION_BASE : Field :=
  ⟨13, 0x20, 0, 64, .rw, .g, 0, 0, 8, 128, 1, 0⟩

/-- Table 11.10: `MDC_REGION[n].SIZE_MIB`, RW, class G: Size, MiB. -/
def MDC_REGION_SIZE_MIB : Field :=
  ⟨13, 0x20, 64, 32, .rw, .g, 0, 0, 8, 128, 1, 0⟩

/-- Table 11.10: `MDC_REGION[n].VALID`, RW, class G: Region cached. -/
def MDC_REGION_VALID : Field :=
  ⟨13, 0x20, 96, 1, .rw, .g, 0, 0, 8, 128, 1, 0⟩

/-- Table 11.10: `MDC_REGION[n].STREAM`, RW, class G: Every fill from the region is streaming. -/
def MDC_REGION_STREAM : Field :=
  ⟨13, 0x20, 97, 1, .rw, .g, 0, 0, 8, 128, 1, 0⟩

/-- Table 11.10: `MDC_STAT_HIT.COUNT`, RC, class —: Hits. -/
def MDC_STAT_HIT_COUNT : Field :=
  ⟨13, 0x100, 0, 64, .rc, .fixed, 0, 0, 1, 0, 1, 0⟩

/-- Table 11.10: `MDC_STAT_MISS.COUNT`, RC, class —: Misses. -/
def MDC_STAT_MISS_COUNT : Field :=
  ⟨13, 0x108, 0, 64, .rc, .fixed, 0, 0, 1, 0, 1, 0⟩

/-- Table 11.10: `MDC_STAT_WB.COUNT`, RC, class —: Lines written back. -/
def MDC_STAT_WB_COUNT : Field :=
  ⟨13, 0x110, 0, 64, .rc, .fixed, 0, 0, 1, 0, 1, 0⟩

/-- Table 11.10: `MDC_ECC.CE`, RC, class —: Corrected errors, saturating. -/
def MDC_ECC_CE : Field :=
  ⟨13, 0x118, 0, 16, .rc, .fixed, 0, 0, 1, 0, 1, 0⟩

/-- Table 11.10: `MDC_ECC.UE`, RC, class —: Uncorrectable errors, saturating. -/
def MDC_ECC_UE : Field :=
  ⟨13, 0x118, 16, 16, .rc, .fixed, 0, 0, 1, 0, 1, 0⟩

/-- Table 12.7: `FLC_CTRL.ENABLE`, RW, class L: FLC enabled; held groups initialised (R270). -/
def FLC_CTRL_ENABLE : Field :=
  ⟨14, 0x0, 0, 1, .rw, .l, 0, 0, 1, 0, 1, 0⟩

/-- Table 12.7: `FLC_STATUS.GRP_DRIVEN`, RO, class —: Bit g: drivers of group g enabled (R11). -/
def FLC_STATUS_GRP_DRIVEN : Field :=
  ⟨14, 0x4, 0, 16, .ro, .fixed, 0, 0, 1, 0, 1, 0⟩

/-- Table 12.7: `FLC_STATUS.READY`, RO, class —: Every held channel in service or failed. -/
def FLC_STATUS_READY : Field :=
  ⟨14, 0x4, 16, 1, .ro, .fixed, 0, 0, 1, 0, 1, 0⟩

/-- Table 12.7: `FLC_ERR.GEOMETRY`, W1C, class L: R272. -/
def FLC_ERR_GEOMETRY : Field :=
  ⟨14, 0x8, 0, 1, .w1c, .l, 0, 0, 1, 0, 1, 0⟩

/-- Table 12.7: `FLC_ERR.TRAIN_FAIL`, W1C, class L: R273. -/
def FLC_ERR_TRAIN_FAIL : Field :=
  ⟨14, 0x8, 1, 1, .w1c, .l, 0, 0, 1, 0, 1, 0⟩

/-- Table 12.7: `FLC_ERR.PROG_FAIL`, W1C, class L: Program failure (R289). -/
def FLC_ERR_PROG_FAIL : Field :=
  ⟨14, 0x8, 2, 1, .w1c, .l, 0, 0, 1, 0, 1, 0⟩

/-- Table 12.7: `FLC_ERR.ERASE_FAIL`, W1C, class L: Erase failure (R289). -/
def FLC_ERR_ERASE_FAIL : Field :=
  ⟨14, 0x8, 3, 1, .w1c, .l, 0, 0, 1, 0, 1, 0⟩

/-- Table 12.7: `FLC_ERR.READ_FAIL`, W1C, class L: Step 3 reached (R280). -/
def FLC_ERR_READ_FAIL : Field :=
  ⟨14, 0x8, 4, 1, .w1c, .l, 0, 0, 1, 0, 1, 0⟩

/-- Table 12.7: `FLC_ERR.GROUP_LOST`, W1C, class L: R278. -/
def FLC_ERR_GROUP_LOST : Field :=
  ⟨14, 0x8, 5, 1, .w1c, .l, 0, 0, 1, 0, 1, 0⟩

/-- Table 12.7: `FLC_ERR.SLC_SHORT`, W1C, class L: Table 12.4. -/
def FLC_ERR_SLC_SHORT : Field :=
  ⟨14, 0x8, 6, 1, .w1c, .l, 0, 0, 1, 0, 1, 0⟩

/-- Table 12.7: `FLC_ERR.SPARE_LOW`, W1C, class L: Table 12.5. -/
def FLC_ERR_SPARE_LOW : Field :=
  ⟨14, 0x8, 7, 1, .w1c, .l, 0, 0, 1, 0, 1, 0⟩

/-- Table 12.7: `FLC_ERR.READ_ONLY`, W1C, class L: Table 12.5. -/
def FLC_ERR_READ_ONLY : Field :=
  ⟨14, 0x8, 8, 1, .w1c, .l, 0, 0, 1, 0, 1, 0⟩

/-- Table 12.7: `FLC_ERR_INFO.CH`, RO, class —: Channel of the last error. -/
def FLC_ERR_INFO_CH : Field :=
  ⟨14, 0x10, 0, 7, .ro, .fixed, 0, 0, 1, 0, 1, 0⟩

/-- Table 12.7: `FLC_ERR_INFO.VOL`, RO, class —: Volume. -/
def FLC_ERR_INFO_VOL : Field :=
  ⟨14, 0x10, 7, 4, .ro, .fixed, 0, 0, 1, 0, 1, 0⟩

/-- Table 12.7: `FLC_ERR_INFO.LUN`, RO, class —: LUN. -/
def FLC_ERR_INFO_LUN : Field :=
  ⟨14, 0x10, 11, 3, .ro, .fixed, 0, 0, 1, 0, 1, 0⟩

/-- Table 12.7: `FLC_ERR_INFO.PLANE`, RO, class —: Plane. -/
def FLC_ERR_INFO_PLANE : Field :=
  ⟨14, 0x10, 14, 2, .ro, .fixed, 0, 0, 1, 0, 1, 0⟩

/-- Table 12.7: `FLC_ERR_INFO.BLOCK`, RO, class —: Block. -/
def FLC_ERR_INFO_BLOCK : Field :=
  ⟨14, 0x10, 16, 16, .ro, .fixed, 0, 0, 1, 0, 1, 0⟩

/-- Table 12.7: `FLC_ERR_INFO.PG`, RO, class —: PG. -/
def FLC_ERR_INFO_PG : Field :=
  ⟨14, 0x10, 32, 16, .ro, .fixed, 0, 0, 1, 0, 1, 0⟩

/-- Table 12.7: `FLC_COMMIT.GEN`, WO, class L: Commit with expected generation. -/
def FLC_COMMIT_GEN : Field :=
  ⟨14, 0x18, 0, 32, .wo, .l, 0, 0, 1, 0, 1, 0⟩

/-- Table 12.7: `FLC_ACTIVE_GEN.GEN`, RO, class —: Generation in force. -/
def FLC_ACTIVE_GEN_GEN : Field :=
  ⟨14, 0x1C, 0, 32, .ro, .fixed, 0, 0, 1, 0, 1, 0⟩

/-- Table 12.7: `FLC_IF_CFG.RATE`, RW, class S: Table 12.1. -/
def FLC_IF_CFG_RATE : Field :=
  ⟨14, 0x20, 0, 3, .rw, .s, 0, 0, 1, 0, 1, 0⟩

/-- Table 12.7: `FLC_IF_CFG.RPT_CYC`, RW, class S: Repeater latency, DQS cycles (R271). -/
def FLC_IF_CFG_RPT_CYC : Field :=
  ⟨14, 0x20, 3, 4, .rw, .s, 0, 0, 1, 0, 1, 0⟩

/-- Table 12.7: `FLC_IF_CFG.ODT`, RW, class S: Head on-die termination on reads. -/
def FLC_IF_CFG_ODT : Field :=
  ⟨14, 0x20, 7, 1, .rw, .s, 1, 0, 1, 0, 1, 0⟩

/-- Table 12.7: `FLC_IF_CFG.MARGIN_PS`, RW, class G: Minimum eye width, ps (R277). -/
def FLC_IF_CFG_MARGIN_PS : Field :=
  ⟨14, 0x20, 8, 8, .rw, .g, 60, 0, 1, 0, 1, 0⟩

/-- Table 12.7: `FLC_LDPC_CFG.PARITY`, RW, class S: 0 256, 1 384, 2 512 bytes per codeword. -/
def FLC_LDPC_CFG_PARITY : Field :=
  ⟨14, 0x24, 0, 2, .rw, .s, 2, 0, 1, 0, 1, 0⟩

/-- Table 12.7: `FLC_RETRY_CFG.RETRY_N`, RW, class G: Step 1 senses, 0 to 15. -/
def FLC_RETRY_CFG_RETRY_N : Field :=
  ⟨14, 0x28, 0, 4, .rw, .g, 4, 0, 1, 0, 1, 0⟩

/-- Table 12.7: `FLC_RETRY_CFG.SOFT_EN`, RW, class G: Step 2 enabled. -/
def FLC_RETRY_CFG_SOFT_EN : Field :=
  ⟨14, 0x28, 4, 1, .rw, .g, 1, 0, 1, 0, 1, 0⟩

/-- Table 12.7: `FLC_RETRY_CFG.SOFT_DELTA`, RW, class G: Soft sense spacing, DAC steps. -/
def FLC_RETRY_CFG_SOFT_DELTA : Field :=
  ⟨14, 0x28, 8, 8, .rw, .g, 4, 0, 1, 0, 1, 0⟩

/-- Table 12.7: `FLC_TRACK_CFG.TRACK_BITS`, RW, class G: Corrected bits that start a valley search. -/
def FLC_TRACK_CFG_TRACK_BITS : Field :=
  ⟨14, 0x2C, 0, 8, .rw, .g, 60, 0, 1, 0, 1, 0⟩

/-- Table 12.7: `FLC_TRACK_CFG.FAMILY_MIN`, RW, class G: Family window, minutes, 1 to 255. -/
def FLC_TRACK_CFG_FAMILY_MIN : Field :=
  ⟨14, 0x2C, 8, 8, .rw, .g, 15, 0, 1, 0, 1, 0⟩

/-- Table 12.7: `FLC_TRACK_CFG.SWEEP_H`, RW, class G: Tracking sweep period, hours, 1 to 255. -/
def FLC_TRACK_CFG_SWEEP_H : Field :=
  ⟨14, 0x2C, 16, 8, .rw, .g, 24, 0, 1, 0, 1, 0⟩

/-- Table 12.7: `FLC_SLC_CFG.SLC_PCT`, RW, class G: R282, 2 to 10. -/
def FLC_SLC_CFG_SLC_PCT : Field :=
  ⟨14, 0x30, 0, 4, .rw, .g, 4, 0, 1, 0, 1, 0⟩

/-- Table 12.7: `FLC_SLC_CFG.FOLD_START`, RW, class G: Table 12.4, %. -/
def FLC_SLC_CFG_FOLD_START : Field :=
  ⟨14, 0x30, 4, 8, .rw, .g, 50, 0, 1, 0, 1, 0⟩

/-- Table 12.7: `FLC_SLC_CFG.SLC_LOW`, RW, class G: Table 12.4, %. -/
def FLC_SLC_CFG_SLC_LOW : Field :=
  ⟨14, 0x30, 12, 8, .rw, .g, 20, 0, 1, 0, 1, 0⟩

/-- Table 12.7: `FLC_SLC_CFG.SLC_MIN`, RW, class G: Table 12.4, %. -/
def FLC_SLC_CFG_SLC_MIN : Field :=
  ⟨14, 0x30, 20, 8, .rw, .g, 5, 0, 1, 0, 1, 0⟩

/-- Table 12.7: `FLC_WEAR_CFG.PE_MAX`, RW, class S: Rated native erases (R285). -/
def FLC_WEAR_CFG_PE_MAX : Field :=
  ⟨14, 0x34, 0, 16, .rw, .s, 3000, 0, 1, 0, 1, 0⟩

/-- Table 12.7: `FLC_WEAR_CFG.WL_DELTA`, RW, class G: R286, erases. -/
def FLC_WEAR_CFG_WL_DELTA : Field :=
  ⟨14, 0x34, 16, 16, .rw, .g, 200, 0, 1, 0, 1, 0⟩

/-- Table 12.7: `FLC_REFRESH_CFG.RETENTION_D`, RW, class G: R287, days. -/
def FLC_REFRESH_CFG_RETENTION_D : Field :=
  ⟨14, 0x38, 0, 16, .rw, .g, 90, 0, 1, 0, 1, 0⟩

/-- Table 12.7: `FLC_REFRESH_CFG.RD_LIMIT`, RW, class G: R287, thousands of reads. -/
def FLC_REFRESH_CFG_RD_LIMIT : Field :=
  ⟨14, 0x38, 16, 16, .rw, .g, 100, 0, 1, 0, 1, 0⟩

/-- Table 12.7: `FLC_SPARE_CFG.SPARE_PM`, RW, class S: R290, per mille, 5 to 100. -/
def FLC_SPARE_CFG_SPARE_PM : Field :=
  ⟨14, 0x3C, 0, 8, .rw, .s, 20, 0, 1, 0, 1, 0⟩

/-- Table 12.7: `FLC_SPARE_CFG.SPARE_LOW_PCT`, RW, class G: Low mark, % of allotment. -/
def FLC_SPARE_CFG_SPARE_LOW_PCT : Field :=
  ⟨14, 0x3C, 8, 8, .rw, .g, 25, 0, 1, 0, 1, 0⟩

/-- Table 12.7: `FLC_SPARE_CFG.ALARM`, RW, class L: Assert `TOCSIN_N` on LOW_SPARE and on READ_ONLY (R36). -/
def FLC_SPARE_CFG_ALARM : Field :=
  ⟨14, 0x3C, 16, 1, .rw, .l, 0, 0, 1, 0, 1, 0⟩

/-- Table 12.7: `FLC_GEOM.CELL`, RO, class —: 2 TLC, 3 QLC; others refused (R272). -/
def FLC_GEOM_CELL : Field :=
  ⟨14, 0x40, 0, 2, .ro, .fixed, 0, 0, 1, 0, 1, 0⟩

/-- Table 12.7: `FLC_GEOM.PLANES`, RO, class —: Planes − 1. -/
def FLC_GEOM_PLANES : Field :=
  ⟨14, 0x40, 2, 2, .ro, .fixed, 0, 0, 1, 0, 1, 0⟩

/-- Table 12.7: `FLC_GEOM.BLOCKS`, RO, class —: Blocks per plane. -/
def FLC_GEOM_BLOCKS : Field :=
  ⟨14, 0x40, 4, 16, .ro, .fixed, 0, 0, 1, 0, 1, 0⟩

/-- Table 12.7: `FLC_GEOM.PAGES`, RO, class —: Pages per block. -/
def FLC_GEOM_PAGES : Field :=
  ⟨14, 0x40, 20, 12, .ro, .fixed, 0, 0, 1, 0, 1, 0⟩

/-- Table 12.7: `FLC_GEOM.SPARE`, RO, class —: Spare bytes per page. -/
def FLC_GEOM_SPARE : Field :=
  ⟨14, 0x40, 32, 16, .ro, .fixed, 0, 0, 1, 0, 1, 0⟩

/-- Table 12.7: `FLC_GEOM.LUNS`, RO, class —: LUNs per volume. -/
def FLC_GEOM_LUNS : Field :=
  ⟨14, 0x40, 48, 8, .ro, .fixed, 0, 0, 1, 0, 1, 0⟩

/-- Table 12.7: `FLC_GEOM.VOLUMES`, RO, class —: Volumes per channel. -/
def FLC_GEOM_VOLUMES : Field :=
  ⟨14, 0x40, 56, 8, .ro, .fixed, 0, 0, 1, 0, 1, 0⟩

/-- Table 12.7: `FLC_PG_SEL.PG`, RW, class L: PG reported in `FLC_PG_MEDIA`. -/
def FLC_PG_SEL_PG : Field :=
  ⟨14, 0x48, 0, 16, .rw, .l, 0, 0, 1, 0, 1, 0⟩

/-- Table 12.7: `FLC_PG_MEDIA.STATE`, RO, class —: 0 NORMAL, 1 LOW_SPARE, 2 READ_ONLY. -/
def FLC_PG_MEDIA_STATE : Field :=
  ⟨14, 0x50, 0, 2, .ro, .fixed, 0, 0, 1, 0, 1, 0⟩

/-- Table 12.7: `FLC_PG_MEDIA.FREE_BLOCKS`, RO, class —: Erased blocks of the PG allocated to no band, less the spares remaining; destage reserves and reclamation headroom not subtracted. -/
def FLC_PG_MEDIA_FREE_BLOCKS : Field :=
  ⟨14, 0x50, 8, 24, .ro, .fixed, 0, 0, 1, 0, 1, 0⟩

/-- Table 12.7: `FLC_PG_MEDIA.SPARES`, RO, class —: Spares remaining. -/
def FLC_PG_MEDIA_SPARES : Field :=
  ⟨14, 0x50, 32, 24, .ro, .fixed, 0, 0, 1, 0, 1, 0⟩

/-- Table 12.7: `FLC_STAT_RETRY.COUNT`, RC, class —: Step 1 successes. -/
def FLC_STAT_RETRY_COUNT : Field :=
  ⟨14, 0x58, 0, 32, .rc, .fixed, 0, 0, 1, 0, 1, 0⟩

/-- Table 12.7: `FLC_STAT_SOFT.COUNT`, RC, class —: Step 2 successes. -/
def FLC_STAT_SOFT_COUNT : Field :=
  ⟨14, 0x5C, 0, 32, .rc, .fixed, 0, 0, 1, 0, 1, 0⟩

/-- Table 12.7: `FLC_STAT_SOFT_FAIL.COUNT`, RC, class —: Step 3 events. -/
def FLC_STAT_SOFT_FAIL_COUNT : Field :=
  ⟨14, 0x60, 0, 32, .rc, .fixed, 0, 0, 1, 0, 1, 0⟩

/-- Table 12.7: `FLC_STAT_RETIRED.COUNT`, RC, class —: Grown bad blocks. -/
def FLC_STAT_RETIRED_COUNT : Field :=
  ⟨14, 0x64, 0, 32, .rc, .fixed, 0, 0, 1, 0, 1, 0⟩

/-- Table 12.7: `FLC_SLC_FREE.PCT`, RO, class —: Free SLC blocks, % of share, held groups. -/
def FLC_SLC_FREE_PCT : Field :=
  ⟨14, 0x68, 0, 8, .ro, .fixed, 0, 0, 1, 0, 1, 0⟩

/-- Table 12.7: `FLC_CH_STATUS[n].STATE`, RO, class —: 0 not held, 1 initialising, 2 in service, 3 failed. -/
def FLC_CH_STATUS_STATE : Field :=
  ⟨14, 0x1000, 0, 3, .ro, .fixed, 0, 0, 128, 128, 1, 0⟩

/-- Table 12.7: `FLC_CH_STATUS[n].RATE`, RO, class —: Rate in force (R273). -/
def FLC_CH_STATUS_RATE : Field :=
  ⟨14, 0x1000, 3, 3, .ro, .fixed, 0, 0, 128, 128, 1, 0⟩

/-- Table 12.7: `FLC_CH_STATUS[n].RESETS`, RC, class —: RESETs at take-up (R277), saturating. -/
def FLC_CH_STATUS_RESETS : Field :=
  ⟨14, 0x1000, 8, 8, .rc, .fixed, 0, 0, 128, 128, 1, 0⟩

/-- Table 12.7: `FLC_CH_STATUS[n].MARGIN_PS`, RO, class —: Last measured eye width, ps. -/
def FLC_CH_STATUS_MARGIN_PS : Field :=
  ⟨14, 0x1000, 16, 16, .ro, .fixed, 0, 0, 128, 128, 1, 0⟩

/-- Table 12.7: `FLC_CH_ECC[n].HARD_FAIL`, RC, class —: Codewords failing step 0. -/
def FLC_CH_ECC_HARD_FAIL : Field :=
  ⟨14, 0x1008, 0, 32, .rc, .fixed, 0, 0, 128, 128, 1, 0⟩

/-- Table 12.7: `FLC_CH_ECC[n].BITS_CORR`, RC, class —: Bits corrected, saturating. -/
def FLC_CH_ECC_BITS_CORR : Field :=
  ⟨14, 0x1008, 32, 32, .rc, .fixed, 0, 0, 128, 128, 1, 0⟩

/-- Table 12.7: `FLC_GRP_STATUS[n].CLAIM_OUT`, RO, class —: Own claim asserted. -/
def FLC_GRP_STATUS_CLAIM_OUT : Field :=
  ⟨14, 0x2000, 0, 1, .ro, .fixed, 0, 0, 16, 32, 1, 0⟩

/-- Table 12.7: `FLC_GRP_STATUS[n].CLAIM_IN`, RO, class —: Partner's claim seen asserted. -/
def FLC_GRP_STATUS_CLAIM_IN : Field :=
  ⟨14, 0x2000, 1, 1, .ro, .fixed, 0, 0, 16, 32, 1, 0⟩

/-- Table 12.7: `FLC_GRP_STATUS[n].LEASE_RUN`, RO, class —: Media lease timer running. -/
def FLC_GRP_STATUS_LEASE_RUN : Field :=
  ⟨14, 0x2000, 2, 1, .ro, .fixed, 0, 0, 16, 32, 1, 0⟩

/-- Table 12.7: `FLC_GRP_STATUS[n].DRIVEN`, RO, class —: Drivers enabled (R11). -/
def FLC_GRP_STATUS_DRIVEN : Field :=
  ⟨14, 0x2000, 3, 1, .ro, .fixed, 0, 0, 16, 32, 1, 0⟩

/-- Table 12.7: `FLC_GRP_STATUS[n].TAKING_UP`, RO, class —: Steps of R277 in progress. -/
def FLC_GRP_STATUS_TAKING_UP : Field :=
  ⟨14, 0x2000, 4, 1, .ro, .fixed, 0, 0, 16, 32, 1, 0⟩

/-- Table 13.9: `STR_CTRL.ENABLE`, RW, class L: STR enabled. -/
def STR_CTRL_ENABLE : Field :=
  ⟨15, 0x0, 0, 1, .rw, .l, 0, 0, 1, 0, 1, 0⟩

/-- Table 13.9: `STR_CTRL.PATROL_EN`, RW, class L: Patrol runs (R310). -/
def STR_CTRL_PATROL_EN : Field :=
  ⟨15, 0x0, 1, 1, .rw, .l, 1, 0, 1, 0, 1, 0⟩

/-- Table 13.9: `STR_CTRL.REBUILD_EN`, RW, class L: Rebuild runs (R312). -/
def STR_CTRL_REBUILD_EN : Field :=
  ⟨15, 0x0, 2, 1, .rw, .l, 1, 0, 1, 0, 1, 0⟩

/-- Table 13.9: `STR_CTRL.LOST_ALARM`, RW, class L: Assert `TOCSIN_N` on LOST (R308). -/
def STR_CTRL_LOST_ALARM : Field :=
  ⟨15, 0x0, 3, 1, .rw, .l, 0, 0, 1, 0, 1, 0⟩

/-- Table 13.9: `STR_STATUS.PATROLLING`, RO, class —: Patrol budget open. -/
def STR_STATUS_PATROLLING : Field :=
  ⟨15, 0x4, 0, 1, .ro, .fixed, 0, 0, 1, 0, 1, 0⟩

/-- Table 13.9: `STR_STATUS.REBUILDING`, RO, class —: Bands queued for rebuild. -/
def STR_STATUS_REBUILDING : Field :=
  ⟨15, 0x4, 1, 1, .ro, .fixed, 0, 0, 1, 0, 1, 0⟩

/-- Table 13.9: `STR_STATUS.DEGRADED`, RO, class —: A DEGRADED or SEALED stripe exists. -/
def STR_STATUS_DEGRADED : Field :=
  ⟨15, 0x4, 2, 1, .ro, .fixed, 0, 0, 1, 0, 1, 0⟩

/-- Table 13.9: `STR_ERR.PROG_FAIL_DATA`, W1C, class L: Data member failed program (R300). -/
def STR_ERR_PROG_FAIL_DATA : Field :=
  ⟨15, 0x8, 0, 1, .w1c, .l, 0, 0, 1, 0, 1, 0⟩

/-- Table 13.9: `STR_ERR.PROG_FAIL_PARITY`, W1C, class L: Parity member failed or tore (Table 13.3). -/
def STR_ERR_PROG_FAIL_PARITY : Field :=
  ⟨15, 0x8, 1, 1, .w1c, .l, 0, 0, 1, 0, 1, 0⟩

/-- Table 13.9: `STR_ERR.STRIPE_LOST`, W1C, class L: R308. -/
def STR_ERR_STRIPE_LOST : Field :=
  ⟨15, 0x8, 2, 1, .w1c, .l, 0, 0, 1, 0, 1, 0⟩

/-- Table 13.9: `STR_ERR.PATROL_MISMATCH`, W1C, class L: R311. -/
def STR_ERR_PATROL_MISMATCH : Field :=
  ⟨15, 0x8, 3, 1, .w1c, .l, 0, 0, 1, 0, 1, 0⟩

/-- Table 13.9: `STR_ERR.SPAN_TIMEOUT`, W1C, class L: R307. -/
def STR_ERR_SPAN_TIMEOUT : Field :=
  ⟨15, 0x8, 4, 1, .w1c, .l, 0, 0, 1, 0, 1, 0⟩

/-- Table 13.9: `STR_ERR.LOST_FULL`, W1C, class L: R309. -/
def STR_ERR_LOST_FULL : Field :=
  ⟨15, 0x8, 5, 1, .w1c, .l, 0, 0, 1, 0, 1, 0⟩

/-- Table 13.9: `STR_ERR_INFO.STRIPE_ID`, RO, class —: Stripe of the last error. -/
def STR_ERR_INFO_STRIPE_ID : Field :=
  ⟨15, 0x10, 0, 64, .ro, .fixed, 0, 0, 1, 0, 1, 0⟩

/-- Table 13.9: `STR_COMMIT.GEN`, WO, class L: Commit with expected generation. -/
def STR_COMMIT_GEN : Field :=
  ⟨15, 0x18, 0, 32, .wo, .l, 0, 0, 1, 0, 1, 0⟩

/-- Table 13.9: `STR_ACTIVE_GEN.GEN`, RO, class —: Generation in force. -/
def STR_ACTIVE_GEN_GEN : Field :=
  ⟨15, 0x1C, 0, 32, .ro, .fixed, 0, 0, 1, 0, 1, 0⟩

/-- Table 13.9: `STR_PATROL.PASS_DAYS`, RW, class G: Pass length, days, 1 to 255. -/
def STR_PATROL_PASS_DAYS : Field :=
  ⟨15, 0x20, 0, 8, .rw, .g, 14, 0, 1, 0, 1, 0⟩

/-- Table 13.9: `STR_PATROL.MAX_GBPS`, RW, class G: Patrol ceiling, GB/s, 1 to 255. -/
def STR_PATROL_MAX_GBPS : Field :=
  ⟨15, 0x20, 8, 8, .rw, .g, 8, 0, 1, 0, 1, 0⟩

/-- Table 13.9: `STR_PATROL.LOOP`, RW, class G: Loop that paces patrol. -/
def STR_PATROL_LOOP : Field :=
  ⟨15, 0x20, 16, 6, .rw, .g, 1, 0, 1, 0, 1, 0⟩

/-- Table 13.9: `STR_PATROL_PROGRESS.PCT`, RO, class —: Share of the current pass done, %. -/
def STR_PATROL_PROGRESS_PCT : Field :=
  ⟨15, 0x24, 0, 8, .ro, .fixed, 0, 0, 1, 0, 1, 0⟩

/-- Table 13.9: `STR_PATROL_PROGRESS.PASSES`, RO, class —: Passes completed. -/
def STR_PATROL_PROGRESS_PASSES : Field :=
  ⟨15, 0x24, 8, 24, .ro, .fixed, 0, 0, 1, 0, 1, 0⟩

/-- Table 13.9: `STR_REBUILD.MAX_GBPS`, RW, class G: R313, GB/s. -/
def STR_REBUILD_MAX_GBPS : Field :=
  ⟨15, 0x28, 0, 8, .rw, .g, 100, 0, 1, 0, 1, 0⟩

/-- Table 13.9: `STR_REBUILD.SHARE_PCT`, RW, class G: R313, % of channel time, 10 to 100. -/
def STR_REBUILD_SHARE_PCT : Field :=
  ⟨15, 0x28, 8, 8, .rw, .g, 50, 0, 1, 0, 1, 0⟩

/-- Table 13.9: `STR_REBUILD.FULL_AT_ZERO`, RW, class G: R313. -/
def STR_REBUILD_FULL_AT_ZERO : Field :=
  ⟨15, 0x28, 16, 1, .rw, .g, 1, 0, 1, 0, 1, 0⟩

/-- Table 13.9: `STR_REBUILD_STATUS.REMAIN_GIB`, RO, class —: Data left to rebuild, GiB. -/
def STR_REBUILD_STATUS_REMAIN_GIB : Field :=
  ⟨15, 0x2C, 0, 32, .ro, .fixed, 0, 0, 1, 0, 1, 0⟩

/-- Table 13.9: `STR_SPAN_CFG.ACK_TMO_US`, RW, class G: R307, µs, 10 to 65,535. -/
def STR_SPAN_CFG_ACK_TMO_US : Field :=
  ⟨15, 0x30, 0, 16, .rw, .g, 1000, 0, 1, 0, 1, 0⟩

/-- Table 13.9: `STR_SPAN_CFG.RETRIES`, RW, class G: R307, 1 to 15. -/
def STR_SPAN_CFG_RETRIES : Field :=
  ⟨15, 0x30, 16, 4, .rw, .g, 4, 0, 1, 0, 1, 0⟩

/-- Table 13.9: `STR_LOST_COUNT.COUNT`, RO, class —: Lost-extent entries. -/
def STR_LOST_COUNT_COUNT : Field :=
  ⟨15, 0x34, 0, 32, .ro, .fixed, 0, 0, 1, 0, 1, 0⟩

/-- Table 13.9: `STR_LOST_MAX.COUNT`, RW, class G: R309. -/
def STR_LOST_MAX_COUNT : Field :=
  ⟨15, 0x38, 0, 32, .rw, .g, 65536, 0, 1, 0, 1, 0⟩

/-- Table 13.9: `STR_STAT_RECON.COUNT`, RC, class —: Codewords reconstructed (R304). -/
def STR_STAT_RECON_COUNT : Field :=
  ⟨15, 0x40, 0, 64, .rc, .fixed, 0, 0, 1, 0, 1, 0⟩

/-- Table 13.9: `STR_STAT_PATROL_FIXED.COUNT`, RC, class —: R311. -/
def STR_STAT_PATROL_FIXED_COUNT : Field :=
  ⟨15, 0x48, 0, 32, .rc, .fixed, 0, 0, 1, 0, 1, 0⟩

/-- Table 13.9: `STR_STAT_MISMATCH.COUNT`, RC, class —: R311. -/
def STR_STAT_MISMATCH_COUNT : Field :=
  ⟨15, 0x4C, 0, 32, .rc, .fixed, 0, 0, 1, 0, 1, 0⟩

/-- Table 13.9: `STR_PG_SEL.PG`, RW, class L: PG for `STR_PG_GEOM` and `STR_PG_INFO`. -/
def STR_PG_SEL_PG : Field :=
  ⟨15, 0x50, 0, 16, .rw, .l, 0, 0, 1, 0, 1, 0⟩

/-- Table 13.9: `STR_PG_GEOM.D`, RW, class G: Data members, 4 to 60 (R294). -/
def STR_PG_GEOM_D : Field :=
  ⟨15, 0x54, 0, 6, .rw, .g, 24, 0, 1, 0, 1, 0⟩

/-- Table 13.9: `STR_PG_GEOM.P`, RW, class G: Parity members, 1 to 3. -/
def STR_PG_GEOM_P : Field :=
  ⟨15, 0x54, 6, 2, .rw, .g, 2, 0, 1, 0, 1, 0⟩

/-- Table 13.9: `STR_PG_INFO.OPEN`, RO, class —: OPEN and SEALED stripes. -/
def STR_PG_INFO_OPEN : Field :=
  ⟨15, 0x58, 0, 16, .ro, .fixed, 0, 0, 1, 0, 1, 0⟩

/-- Table 13.9: `STR_PG_INFO.DEGRADED`, RO, class —: DEGRADED stripes, saturating. -/
def STR_PG_INFO_DEGRADED : Field :=
  ⟨15, 0x58, 16, 16, .ro, .fixed, 0, 0, 1, 0, 1, 0⟩

/-- Table 13.9: `STR_PG_INFO.LOST`, RO, class —: LOST stripes, saturating. -/
def STR_PG_INFO_LOST : Field :=
  ⟨15, 0x58, 32, 16, .ro, .fixed, 0, 0, 1, 0, 1, 0⟩

/-- Table 14.6: `GCX_CTRL.ENABLE`, RW, class L: GCX enabled. -/
def GCX_CTRL_ENABLE : Field :=
  ⟨16, 0x0, 0, 1, .rw, .l, 0, 0, 1, 0, 1, 0⟩

/-- Table 14.6: `GCX_CTRL.SCORE_EN`, RW, class L: Class 5 score victims run. -/
def GCX_CTRL_SCORE_EN : Field :=
  ⟨16, 0x0, 1, 1, .rw, .l, 1, 0, 1, 0, 1, 0⟩

/-- Table 14.6: `GCX_STATUS.ACTIVE`, RO, class —: A band is CLAIMED or COPIED. -/
def GCX_STATUS_ACTIVE : Field :=
  ⟨16, 0x4, 0, 1, .ro, .fixed, 0, 0, 1, 0, 1, 0⟩

/-- Table 14.6: `GCX_STATUS.SWEEPING`, RO, class —: Reference sweep running. -/
def GCX_STATUS_SWEEPING : Field :=
  ⟨16, 0x4, 1, 1, .ro, .fixed, 0, 0, 1, 0, 1, 0⟩

/-- Table 14.6: `GCX_STATUS.RESCORING`, RO, class —: R324 in progress. -/
def GCX_STATUS_RESCORING : Field :=
  ⟨16, 0x4, 2, 1, .ro, .fixed, 0, 0, 1, 0, 1, 0⟩

/-- Table 14.6: `GCX_ERR.TABLE_FULL`, W1C, class L: R323. -/
def GCX_ERR_TABLE_FULL : Field :=
  ⟨16, 0x8, 0, 1, .w1c, .l, 0, 0, 1, 0, 1, 0⟩

/-- Table 14.6: `GCX_ERR.NO_HEADROOM`, W1C, class L: Victim deferred by R326. -/
def GCX_ERR_NO_HEADROOM : Field :=
  ⟨16, 0x8, 1, 1, .w1c, .l, 0, 0, 1, 0, 1, 0⟩

/-- Table 14.6: `GCX_ERR.ERASE_FAIL`, W1C, class L: Step 5 erase failed; block retired (R289). -/
def GCX_ERR_ERASE_FAIL : Field :=
  ⟨16, 0x8, 2, 1, .w1c, .l, 0, 0, 1, 0, 1, 0⟩

/-- Table 14.6: `GCX_ERR_INFO.PG`, RO, class —: PG of the last error. -/
def GCX_ERR_INFO_PG : Field :=
  ⟨16, 0xC, 0, 16, .ro, .fixed, 0, 0, 1, 0, 1, 0⟩

/-- Table 14.6: `GCX_COMMIT.GEN`, WO, class L: Commit with expected generation. -/
def GCX_COMMIT_GEN : Field :=
  ⟨16, 0x10, 0, 32, .wo, .l, 0, 0, 1, 0, 1, 0⟩

/-- Table 14.6: `GCX_ACTIVE_GEN.GEN`, RO, class —: Generation in force. -/
def GCX_ACTIVE_GEN_GEN : Field :=
  ⟨16, 0x14, 0, 32, .ro, .fixed, 0, 0, 1, 0, 1, 0⟩

/-- Table 14.6: `GCX_SCORE0.W_V`, RW, class G: w_v, Q0.16. -/
def GCX_SCORE0_W_V : Field :=
  ⟨16, 0x18, 0, 16, .rw, .g, 32768, 0, 1, 0, 1, 0⟩

/-- Table 14.6: `GCX_SCORE0.W_A`, RW, class G: w_a, Q0.16. -/
def GCX_SCORE0_W_A : Field :=
  ⟨16, 0x18, 16, 16, .rw, .g, 16384, 0, 1, 0, 1, 0⟩

/-- Table 14.6: `GCX_SCORE1.W_W`, RW, class G: w_w, Q0.16. -/
def GCX_SCORE1_W_W : Field :=
  ⟨16, 0x1C, 0, 16, .rw, .g, 8192, 0, 1, 0, 1, 0⟩

/-- Table 14.6: `GCX_SCORE1.AGE_SAT_H`, RW, class G: age_sat, hours, 1 to 65,535. -/
def GCX_SCORE1_AGE_SAT_H : Field :=
  ⟨16, 0x1C, 16, 16, .rw, .g, 168, 0, 1, 0, 1, 0⟩

/-- Table 14.6: `GCX_SCORE2.U_MAX`, RW, class G: Scoring limit on u, Q0.16 (0.98). -/
def GCX_SCORE2_U_MAX : Field :=
  ⟨16, 0x20, 0, 16, .rw, .g, 64225, 0, 1, 0, 1, 0⟩

/-- Table 14.6: `GCX_PACE.LOOP`, RW, class G: First of 8 pacing loops (R319). -/
def GCX_PACE_LOOP : Field :=
  ⟨16, 0x24, 0, 6, .rw, .g, 8, 0, 1, 0, 1, 0⟩

/-- Table 14.6: `GCX_PACE.FREE_TARGET_PCT`, RW, class G: Set-point, %. -/
def GCX_PACE_FREE_TARGET_PCT : Field :=
  ⟨16, 0x24, 6, 8, .rw, .g, 10, 0, 1, 0, 1, 0⟩

/-- Table 14.6: `GCX_PACE.URGENT_PCT`, RW, class G: Class 2 threshold, %. -/
def GCX_PACE_URGENT_PCT : Field :=
  ⟨16, 0x24, 14, 8, .rw, .g, 3, 0, 1, 0, 1, 0⟩

/-- Table 14.6: `GCX_PACE.MAX_GBPS`, RW, class G: Rate ceiling per head, GB/s. -/
def GCX_PACE_MAX_GBPS : Field :=
  ⟨16, 0x24, 22, 10, .rw, .g, 64, 0, 1, 0, 1, 0⟩

/-- Table 14.6: `GCX_SWEEP.TABLE_LOG2`, RW, class S: Relocation table entries = 2^n, 12 to 24. -/
def GCX_SWEEP_TABLE_LOG2 : Field :=
  ⟨16, 0x28, 0, 5, .rw, .s, 20, 0, 1, 0, 1, 0⟩

/-- Table 14.6: `GCX_TABLE_BASE.ADDR`, RW, class S: DDR5 address, 4 KiB-aligned. -/
def GCX_TABLE_BASE_ADDR : Field :=
  ⟨16, 0x30, 0, 64, .rw, .s, 0, 0, 1, 0, 1, 0⟩

/-- Table 14.6: `GCX_TABLE_USED.COUNT`, RO, class —: Relocation table entries in use. -/
def GCX_TABLE_USED_COUNT : Field :=
  ⟨16, 0x38, 0, 25, .ro, .fixed, 0, 0, 1, 0, 1, 0⟩

/-- Table 14.6: `GCX_PG_SEL.PG`, RW, class L: PG for `GCX_PG_CFG` and `GCX_PG_INFO`. -/
def GCX_PG_SEL_PG : Field :=
  ⟨16, 0x40, 0, 16, .rw, .l, 0, 0, 1, 0, 1, 0⟩

/-- Table 14.6: `GCX_PG_CFG.HEADROOM_BANDS`, RW, class G: R326, 1 to 8. -/
def GCX_PG_CFG_HEADROOM_BANDS : Field :=
  ⟨16, 0x44, 0, 4, .rw, .g, 2, 0, 1, 0, 1, 0⟩

/-- Table 14.6: `GCX_PG_INFO.FREE_PCT`, RO, class —: Free share, % (R319). -/
def GCX_PG_INFO_FREE_PCT : Field :=
  ⟨16, 0x48, 0, 8, .ro, .fixed, 0, 0, 1, 0, 1, 0⟩

/-- Table 14.6: `GCX_PG_INFO.HELD`, RO, class —: Bands HELD. -/
def GCX_PG_INFO_HELD : Field :=
  ⟨16, 0x48, 8, 24, .ro, .fixed, 0, 0, 1, 0, 1, 0⟩

/-- Table 14.6: `GCX_PG_INFO.RATE_MBPS`, RO, class —: Current pacing output, MB/s. -/
def GCX_PG_INFO_RATE_MBPS : Field :=
  ⟨16, 0x48, 32, 32, .ro, .fixed, 0, 0, 1, 0, 1, 0⟩

/-- Table 14.6: `GCX_STAT_RELOC.BYTES`, RC, class —: Chunk bytes relocated. -/
def GCX_STAT_RELOC_BYTES : Field :=
  ⟨16, 0x50, 0, 64, .rc, .fixed, 0, 0, 1, 0, 1, 0⟩

/-- Table 14.6: `GCX_STAT_FREED.COUNT`, RC, class —: Bands erased. -/
def GCX_STAT_FREED_COUNT : Field :=
  ⟨16, 0x58, 0, 32, .rc, .fixed, 0, 0, 1, 0, 1, 0⟩

/-- Table 14.6: `GCX_STAT_DEAD_COPY.COUNT`, RC, class —: RELOC entries ignored by R256. -/
def GCX_STAT_DEAD_COPY_COUNT : Field :=
  ⟨16, 0x5C, 0, 32, .rc, .fixed, 0, 0, 1, 0, 1, 0⟩

/-- Table 14.6: `GCX_SWEEP_PASSES.COUNT`, RO, class —: Reference sweep passes completed. -/
def GCX_SWEEP_PASSES_COUNT : Field :=
  ⟨16, 0x60, 0, 32, .ro, .fixed, 0, 0, 1, 0, 1, 0⟩

/-- Table 15.10: `KVS_CTRL.ENABLE`, RW, class L: KVS enabled; Enore listener open. -/
def KVS_CTRL_ENABLE : Field :=
  ⟨17, 0x0, 0, 1, .rw, .l, 0, 0, 1, 0, 1, 0⟩

/-- Table 15.10: `KVS_CTRL.BAL_EN`, RW, class L: Outgoing Caravans (R349). -/
def KVS_CTRL_BAL_EN : Field :=
  ⟨17, 0x0, 1, 1, .rw, .l, 0, 0, 1, 0, 1, 0⟩

/-- Table 15.10: `KVS_CTRL.CARAVAN_IN`, RW, class L: Accept incoming proposals. -/
def KVS_CTRL_CARAVAN_IN : Field :=
  ⟨17, 0x0, 2, 1, .rw, .l, 1, 0, 1, 0, 1, 0⟩

/-- Table 15.10: `KVS_STATUS.EPOCH_SYNCED`, RO, class —: No missing updates known. -/
def KVS_STATUS_EPOCH_SYNCED : Field :=
  ⟨17, 0x4, 0, 1, .ro, .fixed, 0, 0, 1, 0, 1, 0⟩

/-- Table 15.10: `KVS_STATUS.OUT_PHASE`, RO, class —: 0 none, 1 PROPOSE, 2 COPY, 3 GRANT, 4 CUTOVER, 5 RELEASE. -/
def KVS_STATUS_OUT_PHASE : Field :=
  ⟨17, 0x4, 1, 3, .ro, .fixed, 0, 0, 1, 0, 1, 0⟩

/-- Table 15.10: `KVS_STATUS.IN_PHASE`, RO, class —: 0 none, 1 PROPOSE, 2 COPY, 4 holding, 5 INSTALL. -/
def KVS_STATUS_IN_PHASE : Field :=
  ⟨17, 0x4, 4, 3, .ro, .fixed, 0, 0, 1, 0, 1, 0⟩

/-- Table 15.10: `KVS_ERR.SLOT_BUSY`, W1C, class L: R338. -/
def KVS_ERR_SLOT_BUSY : Field :=
  ⟨17, 0x8, 0, 1, .w1c, .l, 0, 0, 1, 0, 1, 0⟩

/-- Table 15.10: `KVS_ERR.HOLD_EXPIRED`, W1C, class L: R353. -/
def KVS_ERR_HOLD_EXPIRED : Field :=
  ⟨17, 0x8, 1, 1, .w1c, .l, 0, 0, 1, 0, 1, 0⟩

/-- Table 15.10: `KVS_ERR.EPOCH_FETCH`, W1C, class L: Authority unreachable for a fetch (R333). -/
def KVS_ERR_EPOCH_FETCH : Field :=
  ⟨17, 0x8, 2, 1, .w1c, .l, 0, 0, 1, 0, 1, 0⟩

/-- Table 15.10: `KVS_ERR.CARAVAN_ABORT`, W1C, class L: Caravan aborted before GRANT. -/
def KVS_ERR_CARAVAN_ABORT : Field :=
  ⟨17, 0x8, 3, 1, .w1c, .l, 0, 0, 1, 0, 1, 0⟩

/-- Table 15.10: `KVS_ERR.ASET_EMPTY`, W1C, class L: KIND 2 override named an unused array set (R332). -/
def KVS_ERR_ASET_EMPTY : Field :=
  ⟨17, 0x8, 4, 1, .w1c, .l, 0, 0, 1, 0, 1, 0⟩

/-- Table 15.10: `KVS_ERR_INFO.SESSION`, RO, class —: Session of the last error. -/
def KVS_ERR_INFO_SESSION : Field :=
  ⟨17, 0x78, 0, 64, .ro, .fixed, 0, 0, 1, 0, 1, 0⟩

/-- Table 15.10: `KVS_COMMIT.GEN`, WO, class L: Commit with expected generation. -/
def KVS_COMMIT_GEN : Field :=
  ⟨17, 0x10, 0, 32, .wo, .l, 0, 0, 1, 0, 1, 0⟩

/-- Table 15.10: `KVS_ACTIVE_GEN.GEN`, RO, class —: Generation in force. -/
def KVS_ACTIVE_GEN_GEN : Field :=
  ⟨17, 0x14, 0, 32, .ro, .fixed, 0, 0, 1, 0, 1, 0⟩

/-- Table 15.10: `KVS_LIMITS.MAX_SESS`, RW, class G: Sessions, 1 to 131,072. -/
def KVS_LIMITS_MAX_SESS : Field :=
  ⟨17, 0x18, 0, 18, .rw, .g, 131072, 0, 1, 0, 1, 0⟩

/-- Table 15.10: `KVS_LIMITS.KEEP_S`, RW, class G: Window kept after close, s. -/
def KVS_LIMITS_KEEP_S : Field :=
  ⟨17, 0x18, 18, 14, .rw, .g, 300, 0, 1, 0, 1, 0⟩

/-- Table 15.10: `KVS_ENORE.PORT`, RW, class G: RDMA CM port. -/
def KVS_ENORE_PORT : Field :=
  ⟨17, 0x1C, 0, 16, .rw, .g, 5260, 0, 1, 0, 1, 0⟩

/-- Table 15.10: `KVS_ENORE.IDLE_S`, RW, class G: Idle session closed, s; 0 = never. -/
def KVS_ENORE_IDLE_S : Field :=
  ⟨17, 0x1C, 16, 16, .rw, .g, 600, 0, 1, 0, 1, 0⟩

/-- Table 15.10: `KVS_EPOCH.EPOCH`, RO, class —: Placement epoch in force. -/
def KVS_EPOCH_EPOCH : Field :=
  ⟨17, 0x20, 0, 32, .ro, .fixed, 0, 0, 1, 0, 1, 0⟩

/-- Table 15.10: `KVS_BUCKET_BASE.ADDR`, RW, class S: DDR5 address, 4 KiB-aligned. -/
def KVS_BUCKET_BASE_ADDR : Field :=
  ⟨17, 0x30, 0, 64, .rw, .s, 0, 0, 1, 0, 1, 0⟩

/-- Table 15.10: `KVS_PGMAP_BASE.ADDR`, RW, class S: DDR5 address, 4 KiB-aligned. -/
def KVS_PGMAP_BASE_ADDR : Field :=
  ⟨17, 0x38, 0, 64, .rw, .s, 0, 0, 1, 0, 1, 0⟩

/-- Table 15.10: `KVS_HEAT_BASE.ADDR`, RW, class S: DDR5 address, 4 KiB-aligned. -/
def KVS_HEAT_BASE_ADDR : Field :=
  ⟨17, 0x40, 0, 64, .rw, .s, 0, 0, 1, 0, 1, 0⟩

/-- Table 15.10: `KVS_ASET_BASE.ADDR`, RW, class S: DDR5 address of the array-set table, 4 KiB-aligned (R332). -/
def KVS_ASET_BASE_ADDR : Field :=
  ⟨17, 0x28, 0, 64, .rw, .s, 0, 0, 1, 0, 1, 0⟩

/-- Table 15.10: `KVS_AUTH.A0`, RW, class G: Authority array 0. -/
def KVS_AUTH_A0 : Field :=
  ⟨17, 0x48, 0, 15, .rw, .g, 0, 0, 1, 0, 1, 0⟩

/-- Table 15.10: `KVS_AUTH.A1`, RW, class G: Authority array 1. -/
def KVS_AUTH_A1 : Field :=
  ⟨17, 0x48, 16, 15, .rw, .g, 0, 0, 1, 0, 1, 0⟩

/-- Table 15.10: `KVS_AUTH.A2`, RW, class G: Authority array 2. -/
def KVS_AUTH_A2 : Field :=
  ⟨17, 0x48, 32, 15, .rw, .g, 0, 0, 1, 0, 1, 0⟩

/-- Table 15.10: `KVS_BAL.SKEW_PCT`, RW, class G: R349. -/
def KVS_BAL_SKEW_PCT : Field :=
  ⟨17, 0x50, 0, 8, .rw, .g, 5, 0, 1, 0, 1, 0⟩

/-- Table 15.10: `KVS_BAL.HEAT_PCT`, RW, class G: R349. -/
def KVS_BAL_HEAT_PCT : Field :=
  ⟨17, 0x50, 8, 8, .rw, .g, 50, 0, 1, 0, 1, 0⟩

/-- Table 15.10: `KVS_BAL.MIG_GBPS`, RW, class G: Copy ceiling, GB/s. -/
def KVS_BAL_MIG_GBPS : Field :=
  ⟨17, 0x50, 16, 8, .rw, .g, 10, 0, 1, 0, 1, 0⟩

/-- Table 15.10: `KVS_BAL.MAX_BUCKETS`, RW, class G: Buckets per Caravan, 1 to 64. -/
def KVS_BAL_MAX_BUCKETS : Field :=
  ⟨17, 0x50, 24, 7, .rw, .g, 64, 0, 1, 0, 1, 0⟩

/-- Table 15.10: `KVS_CARAVAN.LEAD_MS`, RW, class G: R333, 1 to 255. -/
def KVS_CARAVAN_LEAD_MS : Field :=
  ⟨17, 0x54, 0, 8, .rw, .g, 5, 0, 1, 0, 1, 0⟩

/-- Table 15.10: `KVS_CARAVAN.DELTA_MIB`, RW, class G: R350. -/
def KVS_CARAVAN_DELTA_MIB : Field :=
  ⟨17, 0x54, 8, 8, .rw, .g, 64, 0, 1, 0, 1, 0⟩

/-- Table 15.10: `KVS_CARAVAN.HOLD_US`, RW, class G: R353. -/
def KVS_CARAVAN_HOLD_US : Field :=
  ⟨17, 0x54, 16, 16, .rw, .g, 1000, 0, 1, 0, 1, 0⟩

/-- Table 15.10: `KVS_CARAVAN_STATE.PEER`, RO, class —: Peer array of the outgoing Caravan. -/
def KVS_CARAVAN_STATE_PEER : Field :=
  ⟨17, 0x58, 0, 15, .ro, .fixed, 0, 0, 1, 0, 1, 0⟩

/-- Table 15.10: `KVS_CARAVAN_STATE.BUCKETS`, RO, class —: Buckets moving. -/
def KVS_CARAVAN_STATE_BUCKETS : Field :=
  ⟨17, 0x58, 16, 7, .ro, .fixed, 0, 0, 1, 0, 1, 0⟩

/-- Table 15.10: `KVS_CARAVAN_STATE.EPOCH`, RO, class —: Granted epoch. -/
def KVS_CARAVAN_STATE_EPOCH : Field :=
  ⟨17, 0x58, 32, 32, .ro, .fixed, 0, 0, 1, 0, 1, 0⟩

/-- Table 15.10: `KVS_SESSIONS.COUNT`, RO, class —: Sessions attached. -/
def KVS_SESSIONS_COUNT : Field :=
  ⟨17, 0x60, 0, 18, .ro, .fixed, 0, 0, 1, 0, 1, 0⟩

/-- Table 15.10: `KVS_STAT_MOVED.COUNT`, RC, class —: STS_MOVED answers. -/
def KVS_STAT_MOVED_COUNT : Field :=
  ⟨17, 0x64, 0, 32, .rc, .fixed, 0, 0, 1, 0, 1, 0⟩

/-- Table 15.10: `KVS_STAT_FWD.COUNT`, RC, class —: Requests forwarded to the partner. -/
def KVS_STAT_FWD_COUNT : Field :=
  ⟨17, 0x68, 0, 32, .rc, .fixed, 0, 0, 1, 0, 1, 0⟩

/-- Table 15.10: `KVS_NS_SEL.NSID`, RW, class L: Namespace for `KVS_NS_CFG` and `KVS_SPAN_SET`. -/
def KVS_NS_SEL_NSID : Field :=
  ⟨17, 0x70, 0, 32, .rw, .l, 0, 0, 1, 0, 1, 0⟩

/-- Table 15.10: `KVS_NS_CFG.SCOPE`, RW, class S: 0 ARRAY, 1 CLUSTER. -/
def KVS_NS_CFG_SCOPE : Field :=
  ⟨17, 0x74, 0, 1, .rw, .s, 0, 0, 1, 0, 1, 0⟩

/-- Table 15.10: `KVS_NS_CFG.CLASS`, RW, class S: 0 LOCAL, 1 SPAN. -/
def KVS_NS_CFG_CLASS : Field :=
  ⟨17, 0x74, 1, 1, .rw, .s, 0, 0, 1, 0, 1, 0⟩

/-- Table 15.10: `KVS_NS_CFG.HASH_LEN`, RW, class S: 0 to 32. -/
def KVS_NS_CFG_HASH_LEN : Field :=
  ⟨17, 0x74, 2, 6, .rw, .s, 0, 0, 1, 0, 1, 0⟩

/-- Table 15.10: `KVS_NS_CFG.K`, RW, class S: 1 to 16. -/
def KVS_NS_CFG_K : Field :=
  ⟨17, 0x74, 8, 5, .rw, .s, 0, 0, 1, 0, 1, 0⟩

/-- Table 15.10: `KVS_NS_CFG.M`, RW, class S: 1 to 4. -/
def KVS_NS_CFG_M : Field :=
  ⟨17, 0x74, 13, 3, .rw, .s, 0, 0, 1, 0, 1, 0⟩

/-- Table 15.10: `KVS_NS_CFG.NSET`, RW, class S: Span set size, 4 to 32. -/
def KVS_NS_CFG_NSET : Field :=
  ⟨17, 0x74, 16, 6, .rw, .s, 0, 0, 1, 0, 1, 0⟩

/-- Table 15.10: `KVS_SPAN_SET[n].ARRAY`, RW, class S: Holder array j. -/
def KVS_SPAN_SET_ARRAY : Field :=
  ⟨17, 0x80, 0, 15, .rw, .s, 0, 0, 32, 32, 1, 0⟩

/-- Table 16.6: `MTE_CTRL.ENABLE`, RW, class L: MTE enabled. -/
def MTE_CTRL_ENABLE : Field :=
  ⟨18, 0x0, 0, 1, .rw, .l, 0, 0, 1, 0, 1, 0⟩

/-- Table 16.6: `MTE_STATUS.BANK_UP`, RO, class —: Bit k: bank k powered. -/
def MTE_STATUS_BANK_UP : Field :=
  ⟨18, 0x4, 0, 8, .ro, .fixed, 0, 0, 1, 0, 1, 0⟩

/-- Table 16.6: `MTE_STATUS.UPD_FULL`, RO, class —: Update queue full. -/
def MTE_STATUS_UPD_FULL : Field :=
  ⟨18, 0x4, 8, 1, .ro, .fixed, 0, 0, 1, 0, 1, 0⟩

/-- Table 16.6: `MTE_ERR.BULK_LIVE`, W1C, class L: R365. -/
def MTE_ERR_BULK_LIVE : Field :=
  ⟨18, 0x8, 0, 1, .w1c, .l, 0, 0, 1, 0, 1, 0⟩

/-- Table 16.6: `MTE_ERR.POWER_LIVE`, W1C, class L: R367. -/
def MTE_ERR_POWER_LIVE : Field :=
  ⟨18, 0x8, 1, 1, .w1c, .l, 0, 0, 1, 0, 1, 0⟩

/-- Table 16.6: `MTE_ERR.UPD_BUSY`, W1C, class L: R368. -/
def MTE_ERR_UPD_BUSY : Field :=
  ⟨18, 0x8, 2, 1, .w1c, .l, 0, 0, 1, 0, 1, 0⟩

/-- Table 16.6: `MTE_ERR.BULK_SRC`, W1C, class L: DDR5 read failed during bulk load; bank left in bulk-load mode. -/
def MTE_ERR_BULK_SRC : Field :=
  ⟨18, 0x8, 3, 1, .w1c, .l, 0, 0, 1, 0, 1, 0⟩

/-- Table 16.6: `MTE_ERR_INFO.INDEX`, RO, class —: Entry or first entry of the last error. -/
def MTE_ERR_INFO_INDEX : Field :=
  ⟨18, 0xC, 0, 17, .ro, .fixed, 0, 0, 1, 0, 1, 0⟩

/-- Table 16.6: `MTE_COMMIT.GEN`, WO, class L: Commit with expected generation. -/
def MTE_COMMIT_GEN : Field :=
  ⟨18, 0x10, 0, 32, .wo, .l, 0, 0, 1, 0, 1, 0⟩

/-- Table 16.6: `MTE_ACTIVE_GEN.GEN`, RO, class —: Generation in force. -/
def MTE_ACTIVE_GEN_GEN : Field :=
  ⟨18, 0x14, 0, 32, .ro, .fixed, 0, 0, 1, 0, 1, 0⟩

/-- Table 16.6: `MTE_BANK_CMD.BANK`, WO, class L: Bank, or pair in [2:1] for power. -/
def MTE_BANK_CMD_BANK : Field :=
  ⟨18, 0x18, 0, 3, .wo, .l, 0, 0, 1, 0, 1, 0⟩

/-- Table 16.6: `MTE_BANK_CMD.OP`, WO, class L: 1 enter bulk load, 2 leave bulk load, 3 power pair down, 4 power pair up. -/
def MTE_BANK_CMD_OP : Field :=
  ⟨18, 0x18, 3, 3, .wo, .l, 0, 0, 1, 0, 1, 0⟩

/-- Table 16.6: `MTE_BANK_STATE.STATE`, RO, class —: Bits [2k+1:2k]: 0 normal, 1 bulk load, 2 off. -/
def MTE_BANK_STATE_STATE : Field :=
  ⟨18, 0x1C, 0, 16, .ro, .fixed, 0, 0, 1, 0, 1, 0⟩

/-- Table 16.6: `MTE_STAT_SEARCH.COUNT`, RC, class —: Searches. -/
def MTE_STAT_SEARCH_COUNT : Field :=
  ⟨18, 0x20, 0, 64, .rc, .fixed, 0, 0, 1, 0, 1, 0⟩

/-- Table 16.6: `MTE_STAT_MULTI.COUNT`, RC, class —: Searches with MULTI set. -/
def MTE_STAT_MULTI_COUNT : Field :=
  ⟨18, 0x28, 0, 64, .rc, .fixed, 0, 0, 1, 0, 1, 0⟩

/-- Table 16.6: `MTE_STAT_UPD.COUNT`, RC, class —: Updates written, bulk load excluded. -/
def MTE_STAT_UPD_COUNT : Field :=
  ⟨18, 0x30, 0, 64, .rc, .fixed, 0, 0, 1, 0, 1, 0⟩

/-- Table 16.6: `MTE_ENTRY_STAGE`, RW, class L: Entry image for `MTE_UPD_CMD`. -/
def MTE_ENTRY_STAGE : Field :=
  ⟨18, 0x40, 0, 768, .rw, .l, 0, 0, 1, 0, 1, 0⟩

/-- Table 16.6: `MTE_UPD_CMD.INDEX`, WO, class L: Entry. -/
def MTE_UPD_CMD_INDEX : Field :=
  ⟨18, 0xA0, 0, 17, .wo, .l, 0, 0, 1, 0, 1, 0⟩

/-- Table 16.6: `MTE_UPD_CMD.OP`, WO, class L: 1 WRITE, 2 INVALIDATE, 3 RESULT (R363). -/
def MTE_UPD_CMD_OP : Field :=
  ⟨18, 0xA0, 17, 2, .wo, .l, 0, 0, 1, 0, 1, 0⟩

/-- Table 16.6: `MTE_UPD_RESULT.DONE`, RO, class —: Update written. -/
def MTE_UPD_RESULT_DONE : Field :=
  ⟨18, 0xA4, 0, 1, .ro, .fixed, 0, 0, 1, 0, 1, 0⟩

/-- Table 16.6: `MTE_UPD_RESULT.BUSY`, RO, class —: Update queued. -/
def MTE_UPD_RESULT_BUSY : Field :=
  ⟨18, 0xA4, 1, 1, .ro, .fixed, 0, 0, 1, 0, 1, 0⟩

/-- Table 16.6: `MTE_BULK_SRC.ADDR`, RW, class S: DDR5 address of entry images, 64-byte aligned. -/
def MTE_BULK_SRC_ADDR : Field :=
  ⟨18, 0xA8, 0, 64, .rw, .s, 0, 0, 1, 0, 1, 0⟩

/-- Table 16.6: `MTE_BULK_CMD.BANK`, WO, class L: Bank in bulk-load mode. -/
def MTE_BULK_CMD_BANK : Field :=
  ⟨18, 0xB0, 0, 3, .wo, .l, 0, 0, 1, 0, 1, 0⟩

/-- Table 16.6: `MTE_BULK_CMD.FIRST`, WO, class L: First entry within the bank. -/
def MTE_BULK_CMD_FIRST : Field :=
  ⟨18, 0xB0, 3, 14, .wo, .l, 0, 0, 1, 0, 1, 0⟩

/-- Table 16.6: `MTE_BULK_CMD.COUNT`, WO, class L: Images, 1 to 16,384. -/
def MTE_BULK_CMD_COUNT : Field :=
  ⟨18, 0xB0, 17, 15, .wo, .l, 0, 0, 1, 0, 1, 0⟩

/-- Table 16.6: `MTE_SEARCH_KEY.KEY`, RW, class L: Test key. -/
def MTE_SEARCH_KEY_KEY : Field :=
  ⟨18, 0xC0, 0, 320, .rw, .l, 0, 0, 1, 0, 1, 0⟩

/-- Table 16.6: `MTE_SEARCH_CMD.TABLE`, WO, class L: Table searched. -/
def MTE_SEARCH_CMD_TABLE : Field :=
  ⟨18, 0xE8, 0, 4, .wo, .l, 0, 0, 1, 0, 1, 0⟩

/-- Table 16.6: `MTE_SEARCH_RESULT.HIT`, RO, class —: Table 16.2. -/
def MTE_SEARCH_RESULT_HIT : Field :=
  ⟨18, 0xF0, 0, 1, .ro, .fixed, 0, 0, 1, 0, 1, 0⟩

/-- Table 16.6: `MTE_SEARCH_RESULT.MULTI`, RO, class —: Table 16.2. -/
def MTE_SEARCH_RESULT_MULTI : Field :=
  ⟨18, 0xF0, 1, 1, .ro, .fixed, 0, 0, 1, 0, 1, 0⟩

/-- Table 16.6: `MTE_SEARCH_RESULT.TIE`, RO, class —: Table 16.2. -/
def MTE_SEARCH_RESULT_TIE : Field :=
  ⟨18, 0xF0, 2, 1, .ro, .fixed, 0, 0, 1, 0, 1, 0⟩

/-- Table 16.6: `MTE_SEARCH_RESULT.OFF`, RO, class —: Table 16.2. -/
def MTE_SEARCH_RESULT_OFF : Field :=
  ⟨18, 0xF0, 3, 1, .ro, .fixed, 0, 0, 1, 0, 1, 0⟩

/-- Table 16.6: `MTE_SEARCH_RESULT.DONE`, RO, class —: Result valid. -/
def MTE_SEARCH_RESULT_DONE : Field :=
  ⟨18, 0xF0, 4, 1, .ro, .fixed, 0, 0, 1, 0, 1, 0⟩

/-- Table 16.6: `MTE_SEARCH_RESULT.INDEX`, RO, class —: Table 16.2. -/
def MTE_SEARCH_RESULT_INDEX : Field :=
  ⟨18, 0xF0, 16, 17, .ro, .fixed, 0, 0, 1, 0, 1, 0⟩

/-- Table 16.6: `MTE_SEARCH_RESULT.PRIO`, RO, class —: Table 16.2. -/
def MTE_SEARCH_RESULT_PRIO : Field :=
  ⟨18, 0xF0, 48, 16, .ro, .fixed, 0, 0, 1, 0, 1, 0⟩

/-- Table 16.6: `MTE_SEARCH_RESULT.RESULT`, RO, class —: Table 16.2. -/
def MTE_SEARCH_RESULT_RESULT : Field :=
  ⟨18, 0xF0, 64, 32, .ro, .fixed, 0, 0, 1, 0, 1, 0⟩

/-- Table 16.6: `MTE_TBL_CFG[n].ENABLE`, RW, class G: Table enabled. -/
def MTE_TBL_CFG_ENABLE : Field :=
  ⟨18, 0x100, 0, 1, .rw, .g, 0, 0, 16, 64, 1, 0⟩

/-- Table 16.6: `MTE_TBL_CFG[n].FIRST_SEG`, RW, class G: First segment (R359). -/
def MTE_TBL_CFG_FIRST_SEG : Field :=
  ⟨18, 0x100, 1, 7, .rw, .g, 0, 0, 16, 64, 1, 0⟩

/-- Table 16.6: `MTE_TBL_CFG[n].NSEG`, RW, class G: Segments, 1 to 128. -/
def MTE_TBL_CFG_NSEG : Field :=
  ⟨18, 0x100, 8, 8, .rw, .g, 0, 0, 16, 64, 1, 0⟩

/-- Table 16.6: `MTE_TBL_CFG[n].CONSUMER`, RW, class G: Searching block (R360). -/
def MTE_TBL_CFG_CONSUMER : Field :=
  ⟨18, 0x100, 16, 5, .rw, .g, 0, 0, 16, 64, 1, 0⟩

/-- Table 16.6: `MTE_TBL_CFG[n].WEIGHT`, RW, class G: Slots per round, 1 to 255 (R362). -/
def MTE_TBL_CFG_WEIGHT : Field :=
  ⟨18, 0x100, 21, 8, .rw, .g, 1, 0, 16, 64, 1, 0⟩

/-- Table 16.6: `MTE_TBL_DEFAULT[n].RESULT`, RW, class G: Result on a miss (R361). -/
def MTE_TBL_DEFAULT_RESULT : Field :=
  ⟨18, 0x104, 0, 32, .rw, .g, 0, 0, 16, 64, 1, 0⟩

/-- Table 17.9: `OWN_CTRL.ENABLE`, RW, class L: OWN enabled; ACQUIRING starts. -/
def OWN_CTRL_ENABLE : Field :=
  ⟨19, 0x0, 0, 1, .rw, .l, 0, 0, 1, 0, 1, 0⟩

/-- Table 17.9: `OWN_CTRL.TAKE_EN`, RW, class G: Automatic takeover (R384). -/
def OWN_CTRL_TAKE_EN : Field :=
  ⟨19, 0x0, 1, 1, .rw, .g, 1, 0, 1, 0, 1, 0⟩

/-- Table 17.9: `OWN_CTRL.RETURN_EN`, RW, class G: Automatic return (R388). -/
def OWN_CTRL_RETURN_EN : Field :=
  ⟨19, 0x0, 2, 1, .rw, .g, 1, 0, 1, 0, 1, 0⟩

/-- Table 17.9: `OWN_CTRL.DEGRADED_HANDOFF`, RW, class G: R392. -/
def OWN_CTRL_DEGRADED_HANDOFF : Field :=
  ⟨19, 0x0, 3, 1, .rw, .g, 0, 0, 1, 0, 1, 0⟩

/-- Table 17.9: `OWN_CTRL.DRILL_ALARM`, RW, class L: Assert `TOCSIN_N` on a failed drill. -/
def OWN_CTRL_DRILL_ALARM : Field :=
  ⟨19, 0x0, 4, 1, .rw, .l, 0, 0, 1, 0, 1, 0⟩

/-- Table 17.9: `OWN_CTRL.SELF_FENCE_ALARM`, RW, class L: Assert `TOCSIN_N` on self-fence (R378). -/
def OWN_CTRL_SELF_FENCE_ALARM : Field :=
  ⟨19, 0x0, 5, 1, .rw, .l, 0, 0, 1, 0, 1, 0⟩

/-- Table 17.9: `OWN_STATUS.LEASE`, RO, class —: 0 NONE, 1 ACQUIRING, 2 HELD, 3 SELF_FENCED. -/
def OWN_STATUS_LEASE : Field :=
  ⟨19, 0x4, 0, 2, .ro, .fixed, 0, 0, 1, 0, 1, 0⟩

/-- Table 17.9: `OWN_STATUS.FENCE_IN`, RO, class —: `FENCE_IN_N` asserted. -/
def OWN_STATUS_FENCE_IN : Field :=
  ⟨19, 0x4, 2, 1, .ro, .fixed, 0, 0, 1, 0, 1, 0⟩

/-- Table 17.9: `OWN_STATUS.FENCE_OUT`, RO, class —: `FENCE_OUT_N` asserted. -/
def OWN_STATUS_FENCE_OUT : Field :=
  ⟨19, 0x4, 3, 1, .ro, .fixed, 0, 0, 1, 0, 1, 0⟩

/-- Table 17.9: `OWN_STATUS.FENCE_PULSE`, W1C, class L: Test pulse seen (R383). -/
def OWN_STATUS_FENCE_PULSE : Field :=
  ⟨19, 0x4, 4, 1, .w1c, .l, 0, 0, 1, 0, 1, 0⟩

/-- Table 17.9: `OWN_STATUS.DEGRADED`, RO, class —: Clock ceiling 60 % (R392). -/
def OWN_STATUS_DEGRADED : Field :=
  ⟨19, 0x4, 5, 1, .ro, .fixed, 0, 0, 1, 0, 1, 0⟩

/-- Table 17.9: `OWN_STATUS.CHAIN_A`, RO, class —: Chain A reported good. -/
def OWN_STATUS_CHAIN_A : Field :=
  ⟨19, 0x4, 6, 1, .ro, .fixed, 0, 0, 1, 0, 1, 0⟩

/-- Table 17.9: `OWN_STATUS.CHAIN_B`, RO, class —: Chain B reported good. -/
def OWN_STATUS_CHAIN_B : Field :=
  ⟨19, 0x4, 7, 1, .ro, .fixed, 0, 0, 1, 0, 1, 0⟩

/-- Table 17.9: `OWN_STATUS.IK_OK`, RO, class —: Bit i: innkeeper i granted the last renewal. -/
def OWN_STATUS_IK_OK : Field :=
  ⟨19, 0x4, 8, 3, .ro, .fixed, 0, 0, 1, 0, 1, 0⟩

/-- Table 17.9: `OWN_ERR.SELF_FENCE`, W1C, class L: R378. -/
def OWN_ERR_SELF_FENCE : Field :=
  ⟨19, 0x8, 0, 1, .w1c, .l, 0, 0, 1, 0, 1, 0⟩

/-- Table 17.9: `OWN_ERR.CLAIM_CONFLICT`, W1C, class L: R382. -/
def OWN_ERR_CLAIM_CONFLICT : Field :=
  ⟨19, 0x8, 1, 1, .w1c, .l, 0, 0, 1, 0, 1, 0⟩

/-- Table 17.9: `OWN_ERR.RENEW_FAIL`, W1C, class L: R371. -/
def OWN_ERR_RENEW_FAIL : Field :=
  ⟨19, 0x8, 2, 1, .w1c, .l, 0, 0, 1, 0, 1, 0⟩

/-- Table 17.9: `OWN_ERR.MAC_FAIL`, W1C, class L: R373. -/
def OWN_ERR_MAC_FAIL : Field :=
  ⟨19, 0x8, 3, 1, .w1c, .l, 0, 0, 1, 0, 1, 0⟩

/-- Table 17.9: `OWN_ERR.DRILL_FAIL`, W1C, class L: R390. -/
def OWN_ERR_DRILL_FAIL : Field :=
  ⟨19, 0x8, 4, 1, .w1c, .l, 0, 0, 1, 0, 1, 0⟩

/-- Table 17.9: `OWN_ERR.DRILL_SKIPPED`, W1C, class L: R390. -/
def OWN_ERR_DRILL_SKIPPED : Field :=
  ⟨19, 0x8, 5, 1, .w1c, .l, 0, 0, 1, 0, 1, 0⟩

/-- Table 17.9: `OWN_ERR.FENCED`, W1C, class L: Fenced by the partner (R383). -/
def OWN_ERR_FENCED : Field :=
  ⟨19, 0x8, 6, 1, .w1c, .l, 0, 0, 1, 0, 1, 0⟩

/-- Table 17.9: `OWN_ERR.IK_LOST`, W1C, class L: R375. -/
def OWN_ERR_IK_LOST : Field :=
  ⟨19, 0x8, 7, 1, .w1c, .l, 0, 0, 1, 0, 1, 0⟩

/-- Table 17.9: `OWN_ERR.TAKE_REFUSED`, W1C, class L: TAKE refused, STS_LEASE_HELD. -/
def OWN_ERR_TAKE_REFUSED : Field :=
  ⟨19, 0x8, 8, 1, .w1c, .l, 0, 0, 1, 0, 1, 0⟩

/-- Table 17.9: `OWN_ERR_INFO.GROUP`, RO, class —: Group of the last error. -/
def OWN_ERR_INFO_GROUP : Field :=
  ⟨19, 0xC, 0, 4, .ro, .fixed, 0, 0, 1, 0, 1, 0⟩

/-- Table 17.9: `OWN_ERR_INFO.INNKEEPER`, RO, class —: Innkeeper of the last error. -/
def OWN_ERR_INFO_INNKEEPER : Field :=
  ⟨19, 0xC, 4, 2, .ro, .fixed, 0, 0, 1, 0, 1, 0⟩

/-- Table 17.9: `OWN_ERR_INFO.OSET`, RO, class —: Ownership set of the last error. -/
def OWN_ERR_INFO_OSET : Field :=
  ⟨19, 0xC, 6, 11, .ro, .fixed, 0, 0, 1, 0, 1, 0⟩

/-- Table 17.9: `OWN_COMMIT.GEN`, WO, class L: Commit with expected generation. -/
def OWN_COMMIT_GEN : Field :=
  ⟨19, 0x10, 0, 32, .wo, .l, 0, 0, 1, 0, 1, 0⟩

/-- Table 17.9: `OWN_ACTIVE_GEN.GEN`, RO, class —: Generation in force. -/
def OWN_ACTIVE_GEN_GEN : Field :=
  ⟨19, 0x14, 0, 32, .ro, .fixed, 0, 0, 1, 0, 1, 0⟩

/-- Table 17.9: `OWN_LEASE.LEASE_US`, RW, class G: L, µs, 200 to 20,000 (R370). -/
def OWN_LEASE_LEASE_US : Field :=
  ⟨19, 0x18, 0, 15, .rw, .g, 400, 0, 1, 0, 1, 0⟩

/-- Table 17.9: `OWN_LEASE.RETURN_HOLD_S`, RW, class G: Return hold-off, s, 1 to 65,535. -/
def OWN_LEASE_RETURN_HOLD_S : Field :=
  ⟨19, 0x18, 15, 16, .rw, .g, 60, 0, 1, 0, 1, 0⟩

/-- Table 17.9: `OWN_KEY.SLOT`, RW, class G: Innkeeper key slot (R373). -/
def OWN_KEY_SLOT : Field :=
  ⟨19, 0x1C, 0, 14, .rw, .g, 0, 0, 1, 0, 1, 0⟩

/-- Table 17.9: `OWN_LGEN.LGEN`, RO, class —: This side's LGEN. -/
def OWN_LGEN_LGEN : Field :=
  ⟨19, 0x20, 0, 32, .ro, .fixed, 0, 0, 1, 0, 1, 0⟩

/-- Table 17.9: `OWN_AGEN.AGEN`, RO, class —: AGEN in force. -/
def OWN_AGEN_AGEN : Field :=
  ⟨19, 0x24, 0, 32, .ro, .fixed, 0, 0, 1, 0, 1, 0⟩

/-- Table 17.9: `OWN_EXPIRY.NS`, RO, class —: E_h, CT64 nanoseconds. -/
def OWN_EXPIRY_NS : Field :=
  ⟨19, 0x28, 0, 64, .ro, .fixed, 0, 0, 1, 0, 1, 0⟩

/-- Table 17.9: `OWN_RTT.NS`, RO, class —: Longest innkeeper round trip in the last 1 s. -/
def OWN_RTT_NS : Field :=
  ⟨19, 0x30, 0, 32, .ro, .fixed, 0, 0, 1, 0, 1, 0⟩

/-- Table 17.9: `OWN_GRP.HOME_MASK`, RW, class G: Home groups of this side. Reset: 0x00FF side A, 0xFF00 side B. -/
def OWN_GRP_HOME_MASK : Field :=
  ⟨19, 0x34, 0, 16, .rw, .g, 255, 0, 1, 0, 1, 0⟩

/-- Table 17.9: `OWN_GRP.HELD_MASK`, RO, class —: Groups assigned here (R380). -/
def OWN_GRP_HELD_MASK : Field :=
  ⟨19, 0x34, 16, 16, .ro, .fixed, 0, 0, 1, 0, 1, 0⟩

/-- Table 17.9: `OWN_CMD.OP`, WO, class L: 1 hand over all; 2 ask return now; 3 hand over OSET; 4 hand over GROUP; 5 drill GROUP now. -/
def OWN_CMD_OP : Field :=
  ⟨19, 0x38, 0, 3, .wo, .l, 0, 0, 1, 0, 1, 0⟩

/-- Table 17.9: `OWN_CMD.OSET`, WO, class L: Ownership set, 1 to 1,024. -/
def OWN_CMD_OSET : Field :=
  ⟨19, 0x38, 3, 11, .wo, .l, 0, 0, 1, 0, 1, 0⟩

/-- Table 17.9: `OWN_CMD.GROUP`, WO, class L: Channel group. -/
def OWN_CMD_GROUP : Field :=
  ⟨19, 0x38, 14, 4, .wo, .l, 0, 0, 1, 0, 1, 0⟩

/-- Table 17.9: `OWN_CMD_RESULT.STATUS`, RO, class —: STS_OK or Table 17.7. -/
def OWN_CMD_RESULT_STATUS : Field :=
  ⟨19, 0x3C, 0, 16, .ro, .fixed, 0, 0, 1, 0, 1, 0⟩

/-- Table 17.9: `OWN_CMD_RESULT.DONE`, RO, class —: Command complete. -/
def OWN_CMD_RESULT_DONE : Field :=
  ⟨19, 0x3C, 16, 1, .ro, .fixed, 0, 0, 1, 0, 1, 0⟩

/-- Table 17.9: `OWN_CMD_RESULT.BUSY`, RO, class —: Command in progress. -/
def OWN_CMD_RESULT_BUSY : Field :=
  ⟨19, 0x3C, 17, 1, .ro, .fixed, 0, 0, 1, 0, 1, 0⟩

/-- Table 17.9: `OWN_DRILL.EN`, RW, class G: Drills run (R389). -/
def OWN_DRILL_EN : Field :=
  ⟨19, 0x40, 0, 1, .rw, .g, 1, 0, 1, 0, 1, 0⟩

/-- Table 17.9: `OWN_DRILL.HOLD_MS`, RW, class G: Longest hold of g at P, ms, 1 to 255. -/
def OWN_DRILL_HOLD_MS : Field :=
  ⟨19, 0x40, 8, 8, .rw, .g, 5, 0, 1, 0, 1, 0⟩

/-- Table 17.9: `OWN_DRILL_STATUS.GROUP`, RO, class —: Last group drilled. -/
def OWN_DRILL_STATUS_GROUP : Field :=
  ⟨19, 0x44, 0, 4, .ro, .fixed, 0, 0, 1, 0, 1, 0⟩

/-- Table 17.9: `OWN_DRILL_STATUS.RESULT`, RO, class —: 0 none, 1 pass, 2 fail, 3 skipped. -/
def OWN_DRILL_STATUS_RESULT : Field :=
  ⟨19, 0x44, 4, 2, .ro, .fixed, 0, 0, 1, 0, 1, 0⟩

/-- Table 17.9: `OWN_DRILL_STATUS.STEP`, RO, class —: Failing step of R389. -/
def OWN_DRILL_STATUS_STEP : Field :=
  ⟨19, 0x44, 6, 3, .ro, .fixed, 0, 0, 1, 0, 1, 0⟩

/-- Table 17.9: `OWN_DRILL_STATUS.PASSES`, RO, class —: Drills passed, saturating. -/
def OWN_DRILL_STATUS_PASSES : Field :=
  ⟨19, 0x44, 16, 16, .ro, .fixed, 0, 0, 1, 0, 1, 0⟩

/-- Table 17.9: `OWN_IK_CFG.ENABLE`, RW, class S: Serve as innkeeper (R377). -/
def OWN_IK_CFG_ENABLE : Field :=
  ⟨19, 0x48, 0, 1, .rw, .s, 0, 0, 1, 0, 1, 0⟩

/-- Table 17.9: `OWN_STAT_TAKEOVER.COUNT`, RC, class —: Takeovers completed. -/
def OWN_STAT_TAKEOVER_COUNT : Field :=
  ⟨19, 0x4C, 0, 32, .rc, .fixed, 0, 0, 1, 0, 1, 0⟩

/-- Table 17.9: `OWN_LAST_OUTAGE_US.US`, RO, class —: R385. -/
def OWN_LAST_OUTAGE_US_US : Field :=
  ⟨19, 0x50, 0, 32, .ro, .fixed, 0, 0, 1, 0, 1, 0⟩

/-- Table 17.9: `OWN_SET_SEL.OSET`, RW, class L: Set reported in `OWN_SET_STATE`. -/
def OWN_SET_SEL_OSET : Field :=
  ⟨19, 0x54, 0, 11, .rw, .l, 0, 0, 1, 0, 1, 0⟩

/-- Table 17.9: `OWN_SET_STATE.STATE`, RO, class —: 0 unused, 1 OWNED, 2 PARTNER, 3 UNREACHABLE, 4 MOVING, 5 LOST. -/
def OWN_SET_STATE_STATE : Field :=
  ⟨19, 0x58, 0, 3, .ro, .fixed, 0, 0, 1, 0, 1, 0⟩

/-- Table 17.9: `OWN_SET_STATE.HOLDER`, RO, class —: Assigned side: 0 A, 1 B. -/
def OWN_SET_STATE_HOLDER : Field :=
  ⟨19, 0x58, 3, 1, .ro, .fixed, 0, 0, 1, 0, 1, 0⟩

/-- Table 17.9: `OWN_SET_STATE.HOME`, RO, class —: Home side. -/
def OWN_SET_STATE_HOME : Field :=
  ⟨19, 0x58, 4, 1, .ro, .fixed, 0, 0, 1, 0, 1, 0⟩

/-- Table 17.9: `OWN_IK[n].ID`, RW, class G: Innkeeper head ID or innkeeper ID. -/
def OWN_IK_ID : Field :=
  ⟨19, 0x60, 0, 16, .rw, .g, 0, 0, 3, 128, 1, 0⟩

/-- Table 17.9: `OWN_IK[n].PORT`, RW, class G: Local port used. -/
def OWN_IK_PORT : Field :=
  ⟨19, 0x60, 16, 5, .rw, .g, 0, 0, 3, 128, 1, 0⟩

/-- Table 17.9: `OWN_IK[n].SOFTWARE`, RW, class G: Software innkeeper. -/
def OWN_IK_SOFTWARE : Field :=
  ⟨19, 0x60, 21, 1, .rw, .g, 0, 0, 3, 128, 1, 0⟩

/-- Table 17.9: `OWN_IK[n].QP`, RO, class —: Queue pair in use. -/
def OWN_IK_QP : Field :=
  ⟨19, 0x60, 32, 18, .ro, .fixed, 0, 0, 3, 128, 1, 0⟩

/-- Table 17.9: `OWN_IK[n].UP`, RO, class —: Queue pair in RTS. -/
def OWN_IK_UP : Field :=
  ⟨19, 0x60, 50, 1, .ro, .fixed, 0, 0, 3, 128, 1, 0⟩

/-- Table 17.9: `OWN_IK_ARRAY[n].ARRAY`, RW, class G: Array served. -/
def OWN_IK_ARRAY_ARRAY : Field :=
  ⟨19, 0x1000, 0, 15, .rw, .g, 0, 0, 512, 64, 1, 0⟩

/-- Table 17.9: `OWN_IK_ARRAY[n].VALID`, RW, class G: Entry in use. -/
def OWN_IK_ARRAY_VALID : Field :=
  ⟨19, 0x1000, 15, 1, .rw, .g, 0, 0, 512, 64, 1, 0⟩

/-- Table 17.9: `OWN_IK_ARRAY[n].KEY_SLOT`, RW, class G: That array's innkeeper key. -/
def OWN_IK_ARRAY_KEY_SLOT : Field :=
  ⟨19, 0x1000, 16, 14, .rw, .g, 0, 0, 512, 64, 1, 0⟩

/-- Table 17.9: `OWN_HOME[n].SIDE`, RW, class G: Bit j: home side of set 32w + j + 1, 1 = side B. -/
def OWN_HOME_SIDE : Field :=
  ⟨19, 0x2000, 0, 32, .rw, .g, 0, 0, 32, 32, 1, 0⟩

/-- Table 18.8: `SNP_CTRL.ENABLE`, RW, class L: SNP enabled. -/
def SNP_CTRL_ENABLE : Field :=
  ⟨20, 0x0, 0, 1, .rw, .l, 0, 0, 1, 0, 1, 0⟩

/-- Table 18.8: `SNP_CTRL.REPL_ALARM`, RW, class L: Assert `TOCSIN_N` on RPO miss (R412). -/
def SNP_CTRL_REPL_ALARM : Field :=
  ⟨20, 0x0, 1, 1, .rw, .l, 0, 0, 1, 0, 1, 0⟩

/-- Table 18.8: `SNP_STATUS.SEALING`, RO, class —: An epoch is SEALING. -/
def SNP_STATUS_SEALING : Field :=
  ⟨20, 0x4, 0, 1, .ro, .fixed, 0, 0, 1, 0, 1, 0⟩

/-- Table 18.8: `SNP_STATUS.DELETING`, RO, class —: A delete is running. -/
def SNP_STATUS_DELETING : Field :=
  ⟨20, 0x4, 1, 1, .ro, .fixed, 0, 0, 1, 0, 1, 0⟩

/-- Table 18.8: `SNP_STATUS.FLUSHING`, RO, class —: A catalogue flush is running. -/
def SNP_STATUS_FLUSHING : Field :=
  ⟨20, 0x4, 2, 1, .ro, .fixed, 0, 0, 1, 0, 1, 0⟩

/-- Table 18.8: `SNP_ERR.CUT_HELD`, W1C, class L: R404. -/
def SNP_ERR_CUT_HELD : Field :=
  ⟨20, 0x8, 0, 1, .w1c, .l, 0, 0, 1, 0, 1, 0⟩

/-- Table 18.8: `SNP_ERR.CUT_LATE`, W1C, class L: Create refused or withdrawn, STS_CUT_TOO_LATE. -/
def SNP_ERR_CUT_LATE : Field :=
  ⟨20, 0x8, 1, 1, .w1c, .l, 0, 0, 1, 0, 1, 0⟩

/-- Table 18.8: `SNP_ERR.RPO_MISS`, W1C, class L: R412. -/
def SNP_ERR_RPO_MISS : Field :=
  ⟨20, 0x8, 2, 1, .w1c, .l, 0, 0, 1, 0, 1, 0⟩

/-- Table 18.8: `SNP_ERR.SYNC_DROP`, W1C, class L: R413. -/
def SNP_ERR_SYNC_DROP : Field :=
  ⟨20, 0x8, 3, 1, .w1c, .l, 0, 0, 1, 0, 1, 0⟩

/-- Table 18.8: `SNP_ERR.LIMIT`, W1C, class L: R397. -/
def SNP_ERR_LIMIT : Field :=
  ⟨20, 0x8, 4, 1, .w1c, .l, 0, 0, 1, 0, 1, 0⟩

/-- Table 18.8: `SNP_ERR_INFO.NSID`, RO, class —: Namespace of the last error. -/
def SNP_ERR_INFO_NSID : Field :=
  ⟨20, 0x10, 0, 32, .ro, .fixed, 0, 0, 1, 0, 1, 0⟩

/-- Table 18.8: `SNP_ERR_INFO.LINK`, RO, class —: Link of the last error. -/
def SNP_ERR_INFO_LINK : Field :=
  ⟨20, 0x10, 32, 5, .ro, .fixed, 0, 0, 1, 0, 1, 0⟩

/-- Table 18.8: `SNP_COMMIT.GEN`, WO, class L: Commit with expected generation. -/
def SNP_COMMIT_GEN : Field :=
  ⟨20, 0x18, 0, 32, .wo, .l, 0, 0, 1, 0, 1, 0⟩

/-- Table 18.8: `SNP_ACTIVE_GEN.GEN`, RO, class —: Generation in force. -/
def SNP_ACTIVE_GEN_GEN : Field :=
  ⟨20, 0x1C, 0, 32, .ro, .fixed, 0, 0, 1, 0, 1, 0⟩

/-- Table 18.8: `SNP_CFG.LEAD_MS`, RW, class G: Least lead of a cut, ms, 10 to 255 (R402). -/
def SNP_CFG_LEAD_MS : Field :=
  ⟨20, 0x20, 0, 8, .rw, .g, 20, 0, 1, 0, 1, 0⟩

/-- Table 18.8: `SNP_CMD.OP`, WO, class L: 1 create; 2 delete; 3 clone; 4 promote; 5 attach epoch. -/
def SNP_CMD_OP : Field :=
  ⟨20, 0x24, 0, 3, .wo, .l, 0, 0, 1, 0, 1, 0⟩

/-- Table 18.8: `SNP_CMD_ARG.NSID`, RW, class L: Namespace. -/
def SNP_CMD_ARG_NSID : Field :=
  ⟨20, 0x40, 0, 32, .rw, .l, 0, 0, 1, 0, 1, 0⟩

/-- Table 18.8: `SNP_CMD_ARG.EPOCH`, RW, class L: Epoch, for delete, clone and attach. -/
def SNP_CMD_ARG_EPOCH : Field :=
  ⟨20, 0x40, 32, 32, .rw, .l, 0, 0, 1, 0, 1, 0⟩

/-- Table 18.8: `SNP_CMD_ARG.T`, RW, class L: Cut instant, CT64 nanoseconds. -/
def SNP_CMD_ARG_T : Field :=
  ⟨20, 0x40, 64, 64, .rw, .l, 0, 0, 1, 0, 1, 0⟩

/-- Table 18.8: `SNP_CMD_ARG.NEW_NSID`, RW, class L: Clone or attach NSID. -/
def SNP_CMD_ARG_NEW_NSID : Field :=
  ⟨20, 0x40, 128, 32, .rw, .l, 0, 0, 1, 0, 1, 0⟩

/-- Table 18.8: `SNP_CMD_RESULT.STATUS`, RO, class —: STS_OK or Table 18.6. -/
def SNP_CMD_RESULT_STATUS : Field :=
  ⟨20, 0x28, 0, 16, .ro, .fixed, 0, 0, 1, 0, 1, 0⟩

/-- Table 18.8: `SNP_CMD_RESULT.DONE`, RO, class —: Command complete. -/
def SNP_CMD_RESULT_DONE : Field :=
  ⟨20, 0x28, 16, 1, .ro, .fixed, 0, 0, 1, 0, 1, 0⟩

/-- Table 18.8: `SNP_CMD_RESULT.BUSY`, RO, class —: Command in progress. -/
def SNP_CMD_RESULT_BUSY : Field :=
  ⟨20, 0x28, 17, 1, .ro, .fixed, 0, 0, 1, 0, 1, 0⟩

/-- Table 18.8: `SNP_CMD_RESULT.EPOCH`, RO, class —: Epoch created. -/
def SNP_CMD_RESULT_EPOCH : Field :=
  ⟨20, 0x28, 32, 32, .ro, .fixed, 0, 0, 1, 0, 1, 0⟩

/-- Table 18.8: `SNP_EPOCHS.COUNT`, RO, class —: Retained epochs of the array. -/
def SNP_EPOCHS_COUNT : Field :=
  ⟨20, 0x60, 0, 21, .ro, .fixed, 0, 0, 1, 0, 1, 0⟩

/-- Table 18.8: `SNP_STAT_CWAIT.NS`, RC, class —: Total commit-wait time, ns. -/
def SNP_STAT_CWAIT_NS : Field :=
  ⟨20, 0x68, 0, 64, .rc, .fixed, 0, 0, 1, 0, 1, 0⟩

/-- Table 18.8: `SNP_SCHED[n].FIRST_NS`, RW, class G: First instant, CT64 nanoseconds. -/
def SNP_SCHED_FIRST_NS : Field :=
  ⟨20, 0x1000, 0, 64, .rw, .g, 0, 1, 31, 256, 1, 0⟩

/-- Table 18.8: `SNP_SCHED[n].PERIOD_MS`, RW, class G: Period, ms. -/
def SNP_SCHED_PERIOD_MS : Field :=
  ⟨20, 0x1000, 64, 32, .rw, .g, 0, 1, 31, 256, 1, 0⟩

/-- Table 18.8: `SNP_SCHED[n].KEEP`, RW, class G: READY cuts kept, 1 to 65,535. -/
def SNP_SCHED_KEEP : Field :=
  ⟨20, 0x1000, 96, 16, .rw, .g, 0, 1, 31, 256, 1, 0⟩

/-- Table 18.8: `SNP_SCHED[n].VALID`, RW, class G: Schedule in force. -/
def SNP_SCHED_VALID : Field :=
  ⟨20, 0x1000, 112, 1, .rw, .g, 0, 1, 31, 256, 1, 0⟩

/-- Table 18.8: `SNP_RLINK[n].ARRAY`, RW, class G: Target array. -/
def SNP_RLINK_ARRAY : Field :=
  ⟨20, 0x2000, 0, 15, .rw, .g, 0, 1, 31, 256, 1, 0⟩

/-- Table 18.8: `SNP_RLINK[n].MODE`, RW, class G: 0 off, 1 asynchronous, 2 synchronous. -/
def SNP_RLINK_MODE : Field :=
  ⟨20, 0x2000, 15, 2, .rw, .g, 0, 1, 31, 256, 1, 0⟩

/-- Table 18.8: `SNP_RLINK[n].ENC`, RW, class G: Encrypt payloads (R409). -/
def SNP_RLINK_ENC : Field :=
  ⟨20, 0x2000, 17, 1, .rw, .g, 0, 1, 31, 256, 1, 0⟩

/-- Table 18.8: `SNP_RLINK[n].TNSID`, RW, class G: Replica namespace. -/
def SNP_RLINK_TNSID : Field :=
  ⟨20, 0x2000, 32, 32, .rw, .g, 0, 1, 31, 256, 1, 0⟩

/-- Table 18.8: `SNP_RLINK[n].RPO_MS`, RW, class G: RPO, ms (R412). -/
def SNP_RLINK_RPO_MS : Field :=
  ⟨20, 0x2000, 64, 32, .rw, .g, 0, 1, 31, 256, 1, 0⟩

/-- Table 18.8: `SNP_RLINK[n].MAX_GBPS`, RW, class G: Shipping ceiling, GB/s. -/
def SNP_RLINK_MAX_GBPS : Field :=
  ⟨20, 0x2000, 96, 8, .rw, .g, 10, 1, 31, 256, 1, 0⟩

/-- Table 18.8: `SNP_RLINK[n].SYNC_TMO_US`, RW, class G: Batch resend timer, µs. -/
def SNP_RLINK_SYNC_TMO_US : Field :=
  ⟨20, 0x2000, 112, 16, .rw, .g, 250, 1, 31, 256, 1, 0⟩

/-- Table 18.8: `SNP_RLINK[n].KEY_SLOT`, RW, class G: GCM key slot when ENC is 1. -/
def SNP_RLINK_KEY_SLOT : Field :=
  ⟨20, 0x2000, 128, 14, .rw, .g, 0, 1, 31, 256, 1, 0⟩

/-- Table 18.8: `SNP_RLINK_STAT[n].STATE`, RO, class —: 0 OFF, 1 ASYNC, 2 CATCHUP, 3 SYNC, 4 SUSPENDED. -/
def SNP_RLINK_STAT_STATE : Field :=
  ⟨20, 0x3000, 0, 3, .ro, .fixed, 0, 1, 31, 128, 1, 0⟩

/-- Table 18.8: `SNP_RLINK_STAT[n].LAG_MS`, RO, class —: R412, saturating. -/
def SNP_RLINK_STAT_LAG_MS : Field :=
  ⟨20, 0x3000, 32, 32, .ro, .fixed, 0, 1, 31, 128, 1, 0⟩

/-- Table 18.8: `SNP_RLINK_STAT[n].LAST_CUT`, RO, class —: CUT of the last acknowledged delta. -/
def SNP_RLINK_STAT_LAST_CUT : Field :=
  ⟨20, 0x3000, 64, 64, .ro, .fixed, 0, 1, 31, 128, 1, 0⟩

/-- Table 19.6: `LPE_CTRL.ENABLE`, RW, class L: LPE enabled. -/
def LPE_CTRL_ENABLE : Field :=
  ⟨21, 0x0, 0, 1, .rw, .l, 0, 0, 1, 0, 1, 0⟩

/-- Table 19.6: `LPE_ERR.TRIP`, W1C, class L: R431. -/
def LPE_ERR_TRIP : Field :=
  ⟨21, 0x4, 0, 1, .w1c, .l, 0, 0, 1, 0, 1, 0⟩

/-- Table 19.6: `LPE_ERR.BANK_ACTIVE`, W1C, class L: R427. -/
def LPE_ERR_BANK_ACTIVE : Field :=
  ⟨21, 0x4, 1, 1, .w1c, .l, 0, 0, 1, 0, 1, 0⟩

/-- Table 19.6: `LPE_ERR.FB_INVALID`, W1C, class L: R426. -/
def LPE_ERR_FB_INVALID : Field :=
  ⟨21, 0x4, 2, 1, .w1c, .l, 0, 0, 1, 0, 1, 0⟩

/-- Table 19.6: `LPE_ERR.OVERRUN`, W1C, class L: R422. -/
def LPE_ERR_OVERRUN : Field :=
  ⟨21, 0x4, 3, 1, .w1c, .l, 0, 0, 1, 0, 1, 0⟩

/-- Table 19.6: `LPE_ERR.RSVD_LOOP`, W1C, class L: R420. -/
def LPE_ERR_RSVD_LOOP : Field :=
  ⟨21, 0x4, 4, 1, .w1c, .l, 0, 0, 1, 0, 1, 0⟩

/-- Table 19.6: `LPE_ERR_INFO.LOOP`, RO, class —: Loop of the last error. -/
def LPE_ERR_INFO_LOOP : Field :=
  ⟨21, 0x8, 0, 6, .ro, .fixed, 0, 0, 1, 0, 1, 0⟩

/-- Table 19.6: `LPE_COMMIT.GEN`, WO, class L: Commit with expected generation. -/
def LPE_COMMIT_GEN : Field :=
  ⟨21, 0xC, 0, 32, .wo, .l, 0, 0, 1, 0, 1, 0⟩

/-- Table 19.6: `LPE_ACTIVE_GEN.GEN`, RO, class —: Generation in force. -/
def LPE_ACTIVE_GEN_GEN : Field :=
  ⟨21, 0x10, 0, 32, .ro, .fixed, 0, 0, 1, 0, 1, 0⟩

/-- Table 19.6: `LPE_RUN.MASK`, RO, class —: Bit n: loop n RAMPING or RUNNING. -/
def LPE_RUN_MASK : Field :=
  ⟨21, 0x18, 0, 64, .ro, .fixed, 0, 0, 1, 0, 1, 0⟩

/-- Table 19.6: `LPE_TRIPPED.MASK`, RO, class —: Bit n: loop n TRIPPED. -/
def LPE_TRIPPED_MASK : Field :=
  ⟨21, 0x20, 0, 64, .ro, .fixed, 0, 0, 1, 0, 1, 0⟩

/-- Table 19.6: `LPE_DELAY_MAX.NS`, RC, class —: Longest delay of R421, ns. -/
def LPE_DELAY_MAX_NS : Field :=
  ⟨21, 0x28, 0, 16, .rc, .fixed, 0, 0, 1, 0, 1, 0⟩

/-- Table 19.6: `LPE_LOOP_CFG[n].SRC`, RW, class S: Table 19.1. -/
def LPE_LOOP_CFG_SRC : Field :=
  ⟨21, 0x1000, 0, 4, .rw, .s, 0, 0, 64, 1024, 1, 0⟩

/-- Table 19.6: `LPE_LOOP_CFG[n].DEST`, RW, class S: Table 19.1. -/
def LPE_LOOP_CFG_DEST : Field :=
  ⟨21, 0x1000, 4, 4, .rw, .s, 0, 0, 64, 1024, 1, 0⟩

/-- Table 19.6: `LPE_LOOP_CFG[n].ARG`, RW, class S: Zone or instance. -/
def LPE_LOOP_CFG_ARG : Field :=
  ⟨21, 0x1000, 8, 8, .rw, .s, 0, 0, 64, 1024, 1, 0⟩

/-- Table 19.6: `LPE_LOOP_CFG[n].LOCAL`, RW, class S: R423. -/
def LPE_LOOP_CFG_LOCAL : Field :=
  ⟨21, 0x1000, 16, 1, .rw, .s, 0, 0, 64, 1024, 1, 0⟩

/-- Table 19.6: `LPE_LOOP_CFG[n].LOCAL_PERIOD_US`, RW, class S: R423, µs. -/
def LPE_LOOP_CFG_LOCAL_PERIOD_US : Field :=
  ⟨21, 0x1000, 17, 15, .rw, .s, 0, 0, 64, 1024, 1, 0⟩

/-- Table 19.6: `LPE_LOOP_CTRL[n].ENABLE`, RW, class L: R429. -/
def LPE_LOOP_CTRL_ENABLE : Field :=
  ⟨21, 0x1004, 0, 1, .rw, .l, 0, 0, 64, 1024, 1, 0⟩

/-- Table 19.6: `LPE_LOOP_CTRL[n].SWAP`, W1S, class L: R427; reads 1 while pending. -/
def LPE_LOOP_CTRL_SWAP : Field :=
  ⟨21, 0x1004, 1, 1, .w1s, .l, 0, 0, 64, 1024, 1, 0⟩

/-- Table 19.6: `LPE_LOOP_CTRL[n].TRIP_ALARM`, RW, class L: R431. -/
def LPE_LOOP_CTRL_TRIP_ALARM : Field :=
  ⟨21, 0x1004, 2, 1, .rw, .l, 0, 0, 64, 1024, 1, 0⟩

/-- Table 19.6: `LPE_LOOP_SP[n].SP`, RW, class G: Set-point target, Q16.16. -/
def LPE_LOOP_SP_SP : Field :=
  ⟨21, 0x1008, 0, 32, .rw, .g, 0, 0, 64, 1024, 1, 0⟩

/-- Table 19.6: `LPE_LOOP_RAMP[n].STEP`, RW, class G: R428, Q16.16 per sample. -/
def LPE_LOOP_RAMP_STEP : Field :=
  ⟨21, 0x100C, 0, 32, .rw, .g, 0, 0, 64, 1024, 1, 0⟩

/-- Table 19.6: `LPE_LOOP_LIM[n].OUT_MIN`, RW, class G: Q16.16. -/
def LPE_LOOP_LIM_OUT_MIN : Field :=
  ⟨21, 0x1010, 0, 32, .rw, .g, 0, 0, 64, 1024, 1, 0⟩

/-- Table 19.6: `LPE_LOOP_LIM[n].OUT_MAX`, RW, class G: Q16.16. -/
def LPE_LOOP_LIM_OUT_MAX : Field :=
  ⟨21, 0x1010, 32, 32, .rw, .g, 0, 0, 64, 1024, 1, 0⟩

/-- Table 19.6: `LPE_LOOP_SAFE[n].OUT`, RW, class G: SAFE_OUT, Q16.16. -/
def LPE_LOOP_SAFE_OUT : Field :=
  ⟨21, 0x1018, 0, 32, .rw, .g, 0, 0, 64, 1024, 1, 0⟩

/-- Table 19.6: `LPE_LOOP_FB[n].Y`, RW, class L: Feedback of source 0. -/
def LPE_LOOP_FB_Y : Field :=
  ⟨21, 0x101C, 0, 32, .rw, .l, 0, 0, 64, 1024, 1, 0⟩

/-- Table 19.6: `LPE_COEF[n][b].KP`, RW, class L: Q16.16; bank not in use only. -/
def LPE_COEF_KP : Field :=
  ⟨21, 0x1020, 0, 32, .rw, .l, 0, 0, 64, 1024, 2, 128⟩

/-- Table 19.6: `LPE_COEF[n][b].KI`, RW, class L: As KP. -/
def LPE_COEF_KI : Field :=
  ⟨21, 0x1020, 32, 32, .rw, .l, 0, 0, 64, 1024, 2, 128⟩

/-- Table 19.6: `LPE_COEF[n][b].KD`, RW, class L: As KP. -/
def LPE_COEF_KD : Field :=
  ⟨21, 0x1020, 64, 32, .rw, .l, 0, 0, 64, 1024, 2, 128⟩

/-- Table 19.6: `LPE_COEF[n][b].BIAS`, RW, class L: As KP. -/
def LPE_COEF_BIAS : Field :=
  ⟨21, 0x1020, 96, 32, .rw, .l, 0, 0, 64, 1024, 2, 128⟩

/-- Table 19.6: `LPE_MODEL[n].A`, RW, class G: Pole factor, Q0.16. -/
def LPE_MODEL_A : Field :=
  ⟨21, 0x1040, 0, 16, .rw, .g, 0, 0, 64, 1024, 1, 0⟩

/-- Table 19.6: `LPE_MODEL[n].G`, RW, class G: Plant gain, Q16.16. -/
def LPE_MODEL_G : Field :=
  ⟨21, 0x1040, 32, 32, .rw, .g, 0, 0, 64, 1024, 1, 0⟩

/-- Table 19.6: `LPE_MODEL[n].Y0`, RW, class G: Plant offset, Q16.16. -/
def LPE_MODEL_Y0 : Field :=
  ⟨21, 0x1040, 64, 32, .rw, .g, 0, 0, 64, 1024, 1, 0⟩

/-- Table 19.6: `LPE_MODEL[n].RBOUND`, RW, class G: Residual bound, Q16.16. -/
def LPE_MODEL_RBOUND : Field :=
  ⟨21, 0x1040, 96, 32, .rw, .g, 0, 0, 64, 1024, 1, 0⟩

/-- Table 19.6: `LPE_SUP[n].N`, RW, class G: R431; 0 = no supervision. -/
def LPE_SUP_N : Field :=
  ⟨21, 0x1050, 0, 4, .rw, .g, 0, 0, 64, 1024, 1, 0⟩

/-- Table 19.6: `LPE_LOOP_FLAGS[n].SAT_E`, W1C, class L: R425. -/
def LPE_LOOP_FLAGS_SAT_E : Field :=
  ⟨21, 0x1058, 0, 1, .w1c, .l, 0, 0, 64, 1024, 1, 0⟩

/-- Table 19.6: `LPE_LOOP_FLAGS[n].SAT_P`, W1C, class L: R425. -/
def LPE_LOOP_FLAGS_SAT_P : Field :=
  ⟨21, 0x1058, 1, 1, .w1c, .l, 0, 0, 64, 1024, 1, 0⟩

/-- Table 19.6: `LPE_LOOP_FLAGS[n].SAT_I`, W1C, class L: R425. -/
def LPE_LOOP_FLAGS_SAT_I : Field :=
  ⟨21, 0x1058, 2, 1, .w1c, .l, 0, 0, 64, 1024, 1, 0⟩

/-- Table 19.6: `LPE_LOOP_FLAGS[n].SAT_D`, W1C, class L: R425. -/
def LPE_LOOP_FLAGS_SAT_D : Field :=
  ⟨21, 0x1058, 3, 1, .w1c, .l, 0, 0, 64, 1024, 1, 0⟩

/-- Table 19.6: `LPE_LOOP_FLAGS[n].SAT_U`, W1C, class L: R425. -/
def LPE_LOOP_FLAGS_SAT_U : Field :=
  ⟨21, 0x1058, 4, 1, .w1c, .l, 0, 0, 64, 1024, 1, 0⟩

/-- Table 19.6: `LPE_LOOP_FLAGS[n].CLAMP`, W1C, class L: R425. -/
def LPE_LOOP_FLAGS_CLAMP : Field :=
  ⟨21, 0x1058, 5, 1, .w1c, .l, 0, 0, 64, 1024, 1, 0⟩

/-- Table 19.6: `LPE_LOOP_FLAGS[n].FB_INVALID`, W1C, class L: R426. -/
def LPE_LOOP_FLAGS_FB_INVALID : Field :=
  ⟨21, 0x1058, 6, 1, .w1c, .l, 0, 0, 64, 1024, 1, 0⟩

/-- Table 19.6: `LPE_LOOP_STATE[n].Y`, RO, class —: Last feedback. -/
def LPE_LOOP_STATE_Y : Field :=
  ⟨21, 0x1060, 0, 32, .ro, .fixed, 0, 0, 64, 1024, 1, 0⟩

/-- Table 19.6: `LPE_LOOP_STATE[n].OUT`, RO, class —: Last output written. -/
def LPE_LOOP_STATE_OUT : Field :=
  ⟨21, 0x1060, 32, 32, .ro, .fixed, 0, 0, 64, 1024, 1, 0⟩

/-- Table 19.6: `LPE_LOOP_STATE[n].I`, RO, class —: Integrator. -/
def LPE_LOOP_STATE_I : Field :=
  ⟨21, 0x1060, 64, 32, .ro, .fixed, 0, 0, 64, 1024, 1, 0⟩

/-- Table 19.6: `LPE_LOOP_STATE[n].SP_NOW`, RO, class —: R428. -/
def LPE_LOOP_STATE_SP_NOW : Field :=
  ⟨21, 0x1060, 96, 32, .ro, .fixed, 0, 0, 64, 1024, 1, 0⟩

/-- Table 19.6: `LPE_LOOP_STATE[n].STATE`, RO, class —: 0 DISABLED, 1 RAMPING, 2 RUNNING, 3 TRIPPED. -/
def LPE_LOOP_STATE_STATE : Field :=
  ⟨21, 0x1060, 128, 2, .ro, .fixed, 0, 0, 64, 1024, 1, 0⟩

/-- Table 19.6: `LPE_LOOP_STATE[n].BANK`, RO, class —: Bank in use. -/
def LPE_LOOP_STATE_BANK : Field :=
  ⟨21, 0x1060, 130, 1, .ro, .fixed, 0, 0, 64, 1024, 1, 0⟩

/-- Table 19.6: `LPE_LOOP_STATE[n].RCOUNT`, RO, class —: Consecutive residuals over bound. -/
def LPE_LOOP_STATE_RCOUNT : Field :=
  ⟨21, 0x1060, 131, 4, .ro, .fixed, 0, 0, 64, 1024, 1, 0⟩

/-- Table 19.6: `LPE_LOOP_STATE[n].DELAY_NS`, RO, class —: R421. -/
def LPE_LOOP_STATE_DELAY_NS : Field :=
  ⟨21, 0x1060, 144, 16, .ro, .fixed, 0, 0, 64, 1024, 1, 0⟩

/-- Table 19.6: `LPE_LOOP_STAT[n].SAMPLES`, RC, class —: Samples computed. -/
def LPE_LOOP_STAT_SAMPLES : Field :=
  ⟨21, 0x1078, 0, 32, .rc, .fixed, 0, 0, 64, 1024, 1, 0⟩

/-- Table 19.6: `LPE_LOOP_STAT[n].LATE`, RC, class —: Late samples, saturating. -/
def LPE_LOOP_STAT_LATE : Field :=
  ⟨21, 0x1078, 32, 16, .rc, .fixed, 0, 0, 64, 1024, 1, 0⟩

/-- Table 19.6: `LPE_LOOP_STAT[n].OVERRUN`, RC, class —: Dropped samples, saturating. -/
def LPE_LOOP_STAT_OVERRUN : Field :=
  ⟨21, 0x1078, 48, 16, .rc, .fixed, 0, 0, 64, 1024, 1, 0⟩

/-- Table 19.8: `AGE_CTRL.ENABLE`, RW, class L: Sweeps run. -/
def AGE_CTRL_ENABLE : Field :=
  ⟨22, 0x0, 0, 1, .rw, .l, 0, 0, 1, 0, 1, 0⟩

/-- Table 19.8: `AGE_CTRL.ALARM`, RW, class L: R437. -/
def AGE_CTRL_ALARM : Field :=
  ⟨22, 0x0, 1, 1, .rw, .l, 0, 0, 1, 0, 1, 0⟩

/-- Table 19.8: `AGE_CTRL.AVS_OWN`, RW, class L: R435. -/
def AGE_CTRL_AVS_OWN : Field :=
  ⟨22, 0x0, 2, 1, .rw, .l, 1, 0, 1, 0, 1, 0⟩

/-- Table 19.8: `AGE_STATUS.SWEEPING`, RO, class —: Sweep running. -/
def AGE_STATUS_SWEEPING : Field :=
  ⟨22, 0x4, 0, 1, .ro, .fixed, 0, 0, 1, 0, 1, 0⟩

/-- Table 19.8: `AGE_STATUS.HISTORY`, RO, class —: History entries, 0 to 168. -/
def AGE_STATUS_HISTORY : Field :=
  ⟨22, 0x4, 8, 8, .ro, .fixed, 0, 0, 1, 0, 1, 0⟩

/-- Table 19.8: `AGE_ERR.MON_FAIL`, W1C, class L: R432. -/
def AGE_ERR_MON_FAIL : Field :=
  ⟨22, 0x8, 0, 1, .w1c, .l, 0, 0, 1, 0, 1, 0⟩

/-- Table 19.8: `AGE_ERR.CEIL_DOWN`, W1C, class L: R436. -/
def AGE_ERR_CEIL_DOWN : Field :=
  ⟨22, 0x8, 1, 1, .w1c, .l, 0, 0, 1, 0, 1, 0⟩

/-- Table 19.8: `AGE_ERR.MARGIN_LOW`, W1C, class L: R437. -/
def AGE_ERR_MARGIN_LOW : Field :=
  ⟨22, 0x8, 2, 1, .w1c, .l, 0, 0, 1, 0, 1, 0⟩

/-- Table 19.8: `AGE_ERR.NO_HISTORY`, W1C, class L: R434. -/
def AGE_ERR_NO_HISTORY : Field :=
  ⟨22, 0x8, 3, 1, .w1c, .l, 0, 0, 1, 0, 1, 0⟩

/-- Table 19.8: `AGE_COMMIT.GEN`, WO, class L: Commit with expected generation. -/
def AGE_COMMIT_GEN : Field :=
  ⟨22, 0xC, 0, 32, .wo, .l, 0, 0, 1, 0, 1, 0⟩

/-- Table 19.8: `AGE_ACTIVE_GEN.GEN`, RO, class —: Generation in force. -/
def AGE_ACTIVE_GEN_GEN : Field :=
  ⟨22, 0x10, 0, 32, .ro, .fixed, 0, 0, 1, 0, 1, 0⟩

/-- Table 19.8: `AGE_CFG.SLACK_REQ_PS`, RW, class G: Required slack, ps. -/
def AGE_CFG_SLACK_REQ_PS : Field :=
  ⟨22, 0x14, 0, 8, .rw, .g, 25, 0, 1, 0, 1, 0⟩

/-- Table 19.8: `AGE_CFG.VMAX_MV`, RW, class G: Highest supply, mV, 650 to 850. -/
def AGE_CFG_VMAX_MV : Field :=
  ⟨22, 0x14, 8, 10, .rw, .g, 850, 0, 1, 0, 1, 0⟩

/-- Table 19.8: `AGE_CFG.HYST_PS`, RW, class G: R436, ps. -/
def AGE_CFG_HYST_PS : Field :=
  ⟨22, 0x14, 18, 8, .rw, .g, 5, 0, 1, 0, 1, 0⟩

/-- Table 19.8: `AGE_GB.PS_PER_PM`, RW, class G: k, ps per ‰, Q8.8. -/
def AGE_GB_PS_PER_PM : Field :=
  ⟨22, 0x18, 0, 16, .rw, .g, 256, 0, 1, 0, 1, 0⟩

/-- Table 19.8: `AGE_GB.PROJ_H`, RW, class G: Projection, h. -/
def AGE_GB_PROJ_H : Field :=
  ⟨22, 0x18, 16, 16, .rw, .g, 720, 0, 1, 0, 1, 0⟩

/-- Table 19.8: `AGE_GB.DEF_RATE`, RW, class G: Rate without history, 0.001 ‰ per 1,000 h. -/
def AGE_GB_DEF_RATE : Field :=
  ⟨22, 0x18, 32, 32, .rw, .g, 1000, 0, 1, 0, 1, 0⟩

/-- Table 19.8: `AGE_WARN.MARGIN_MV`, RW, class G: R437, mV. -/
def AGE_WARN_MARGIN_MV : Field :=
  ⟨22, 0x20, 0, 16, .rw, .g, 20, 0, 1, 0, 1, 0⟩

/-- Table 19.8: `AGE_WARN.HOURS`, RW, class G: R437, h. -/
def AGE_WARN_HOURS : Field :=
  ⟨22, 0x20, 16, 16, .rw, .g, 8760, 0, 1, 0, 1, 0⟩

/-- Table 19.8: `AGE_LAST.NS`, RO, class —: Start of the last sweep, CT64 nanoseconds. -/
def AGE_LAST_NS : Field :=
  ⟨22, 0x28, 0, 64, .ro, .fixed, 0, 0, 1, 0, 1, 0⟩

/-- Table 19.8: `AGE_SLACK.ALL_PS`, RO, class —: s_all, signed, Q12.4. -/
def AGE_SLACK_ALL_PS : Field :=
  ⟨22, 0x30, 0, 16, .ro, .fixed, 0, 0, 1, 0, 1, 0⟩

/-- Table 19.8: `AGE_SLACK.TRK_PS`, RO, class —: s_trk, signed, Q12.4. -/
def AGE_SLACK_TRK_PS : Field :=
  ⟨22, 0x30, 16, 16, .ro, .fixed, 0, 0, 1, 0, 1, 0⟩

/-- Table 19.8: `AGE_DEGRADE.DELTA`, RO, class —: δ, 0.001 ‰. -/
def AGE_DEGRADE_DELTA : Field :=
  ⟨22, 0x38, 0, 32, .ro, .fixed, 0, 0, 1, 0, 1, 0⟩

/-- Table 19.8: `AGE_DEGRADE.RATE`, RO, class —: Rate, 0.001 ‰ per 1,000 h, signed. -/
def AGE_DEGRADE_RATE : Field :=
  ⟨22, 0x38, 32, 32, .ro, .fixed, 0, 0, 1, 0, 1, 0⟩

/-- Table 19.8: `AGE_GUARD.GB_PS`, RO, class —: gb_ps, Q12.4. -/
def AGE_GUARD_GB_PS : Field :=
  ⟨22, 0x40, 0, 16, .ro, .fixed, 0, 0, 1, 0, 1, 0⟩

/-- Table 19.8: `AGE_GUARD.VGB_MV`, RO, class —: vgb_mv, rounded up. -/
def AGE_GUARD_VGB_MV : Field :=
  ⟨22, 0x40, 16, 16, .ro, .fixed, 0, 0, 1, 0, 1, 0⟩

/-- Table 19.8: `AGE_CEIL.STEPS`, RO, class —: Steps below nominal (R436). -/
def AGE_CEIL_STEPS : Field :=
  ⟨22, 0x44, 0, 6, .ro, .fixed, 0, 0, 1, 0, 1, 0⟩

/-- Table 19.8: `AGE_CEIL.MHZ`, RO, class —: Engine clock in force. -/
def AGE_CEIL_MHZ : Field :=
  ⟨22, 0x44, 16, 16, .ro, .fixed, 0, 0, 1, 0, 1, 0⟩

/-- Table 19.8: `AGE_MARGIN.V_MV`, RO, class —: R437. -/
def AGE_MARGIN_V_MV : Field :=
  ⟨22, 0x48, 0, 16, .ro, .fixed, 0, 0, 1, 0, 1, 0⟩

/-- Table 19.8: `AGE_MARGIN.HOURS`, RO, class —: R437. -/
def AGE_MARGIN_HOURS : Field :=
  ⟨22, 0x48, 32, 32, .ro, .fixed, 4294967295, 0, 1, 0, 1, 0⟩

/-- Table 19.8: `AGE_EYE.NET_MV`, RO, class —: Least network eye height. -/
def AGE_EYE_NET_MV : Field :=
  ⟨22, 0x50, 0, 16, .ro, .fixed, 0, 0, 1, 0, 1, 0⟩

/-- Table 19.8: `AGE_EYE.ISL_MV`, RO, class —: Least Isaov eye height. -/
def AGE_EYE_ISL_MV : Field :=
  ⟨22, 0x50, 16, 16, .ro, .fixed, 0, 0, 1, 0, 1, 0⟩

/-- Table 19.8: `AGE_EYE.PCIE_MV`, RO, class —: Least PCIe eye height. -/
def AGE_EYE_PCIE_MV : Field :=
  ⟨22, 0x50, 32, 16, .ro, .fixed, 0, 0, 1, 0, 1, 0⟩

/-- Table 19.8: `AGE_FLASH.MARGIN_PS`, RO, class —: Least flash channel margin. -/
def AGE_FLASH_MARGIN_PS : Field :=
  ⟨22, 0x58, 0, 16, .ro, .fixed, 0, 0, 1, 0, 1, 0⟩

/-- Table 19.8: `AGE_FLASH.CH`, RO, class —: Its channel. -/
def AGE_FLASH_CH : Field :=
  ⟨22, 0x58, 16, 7, .ro, .fixed, 0, 0, 1, 0, 1, 0⟩

/-- Table 19.8: `AGE_TEMP.MAX_C`, RO, class —: Highest sensor reading, Q8.8 °C. -/
def AGE_TEMP_MAX_C : Field :=
  ⟨22, 0x5C, 0, 16, .ro, .fixed, 0, 0, 1, 0, 1, 0⟩

/-- Table 19.8: `AGE_TEMP.SENSOR`, RO, class —: Its sensor. -/
def AGE_TEMP_SENSOR : Field :=
  ⟨22, 0x5C, 16, 7, .ro, .fixed, 0, 0, 1, 0, 1, 0⟩

/-- Table 19.8: `AGE_FUSE.PS_PER_MV`, RO, class —: σ, Q8.8. Reset: Fused. -/
def AGE_FUSE_PS_PER_MV : Field :=
  ⟨22, 0x60, 0, 16, .ro, .fixed, 0, 0, 1, 0, 1, 0⟩

/-- Table 19.8: `AGE_PDM[n].SLACK_PS`, RO, class —: Slack, signed, Q12.4. -/
def AGE_PDM_SLACK_PS : Field :=
  ⟨22, 0x1000, 0, 16, .ro, .fixed, 0, 0, 512, 32, 1, 0⟩

/-- Table 19.8: `AGE_PDM[n].VALID`, RO, class —: Reading passed self-check. -/
def AGE_PDM_VALID : Field :=
  ⟨22, 0x1000, 16, 1, .ro, .fixed, 0, 0, 512, 32, 1, 0⟩

/-- Table 19.8: `AGE_RO[n].PPM`, RO, class —: Slowdown, signed ppm. -/
def AGE_RO_PPM : Field :=
  ⟨22, 0x2000, 0, 32, .ro, .fixed, 0, 0, 64, 32, 1, 0⟩

/-- Table 19.8: `AGE_TS[n].TEMP`, RO, class —: Q8.8 °C. -/
def AGE_TS_TEMP : Field :=
  ⟨22, 0x2100, 0, 16, .ro, .fixed, 0, 0, 128, 32, 1, 0⟩

/-- Table 19.8: `AGE_TS[n].VALID`, RO, class —: Reading passed self-check. -/
def AGE_TS_VALID : Field :=
  ⟨22, 0x2100, 16, 1, .ro, .fixed, 0, 0, 128, 32, 1, 0⟩

/-- Table 20.7: `ADM_STATUS.CHECKING`, RO, class —: A check is running. -/
def ADM_STATUS_CHECKING : Field :=
  ⟨23, 0x0, 0, 1, .ro, .fixed, 0, 0, 1, 0, 1, 0⟩

/-- Table 20.7: `ADM_STATUS.APPLYING`, RO, class —: R451 phase 3. -/
def ADM_STATUS_APPLYING : Field :=
  ⟨23, 0x0, 1, 1, .ro, .fixed, 0, 0, 1, 0, 1, 0⟩

/-- Table 20.7: `ADM_ERR.GEN_MISMATCH`, W1C, class L: R440. -/
def ADM_ERR_GEN_MISMATCH : Field :=
  ⟨23, 0x4, 0, 1, .w1c, .l, 0, 0, 1, 0, 1, 0⟩

/-- Table 20.7: `ADM_ERR.COMMIT_PENDING`, W1C, class L: R442. -/
def ADM_ERR_COMMIT_PENDING : Field :=
  ⟨23, 0x4, 1, 1, .w1c, .l, 0, 0, 1, 0, 1, 0⟩

/-- Table 20.7: `ADM_ERR.APPLY_BUSY`, W1C, class L: R451; also a write to `ADM_CMD` while BUSY. -/
def ADM_ERR_APPLY_BUSY : Field :=
  ⟨23, 0x4, 2, 1, .w1c, .l, 0, 0, 1, 0, 1, 0⟩

/-- Table 20.7: `ADM_ERR.REFUSED`, W1C, class L: R452. -/
def ADM_ERR_REFUSED : Field :=
  ⟨23, 0x4, 3, 1, .w1c, .l, 0, 0, 1, 0, 1, 0⟩

/-- Table 20.7: `ADM_ERR.DRIFT`, W1C, class L: R445. -/
def ADM_ERR_DRIFT : Field :=
  ⟨23, 0x4, 4, 1, .w1c, .l, 0, 0, 1, 0, 1, 0⟩

/-- Table 20.7: `ADM_PENDING.BLOCKS`, RO, class —: Bit b: block b has a commit pending. -/
def ADM_PENDING_BLOCKS : Field :=
  ⟨23, 0x8, 0, 28, .ro, .fixed, 0, 0, 1, 0, 1, 0⟩

/-- Table 20.7: `ADM_COMMIT.GEN`, WO, class L: Commit with expected generation. -/
def ADM_COMMIT_GEN : Field :=
  ⟨23, 0x10, 0, 32, .wo, .l, 0, 0, 1, 0, 1, 0⟩

/-- Table 20.7: `ADM_ACTIVE_GEN.GEN`, RO, class —: Generation in force. -/
def ADM_ACTIVE_GEN_GEN : Field :=
  ⟨23, 0x14, 0, 32, .ro, .fixed, 0, 0, 1, 0, 1, 0⟩

/-- Table 20.7: `ADM_CMD.OP`, WO, class L: 1 check image; 2 apply image. -/
def ADM_CMD_OP : Field :=
  ⟨23, 0x18, 0, 2, .wo, .l, 0, 0, 1, 0, 1, 0⟩

/-- Table 20.7: `ADM_CMD.SRC`, WO, class L: 0 PF0 host memory; 1 DDR5. -/
def ADM_CMD_SRC : Field :=
  ⟨23, 0x18, 2, 1, .wo, .l, 0, 0, 1, 0, 1, 0⟩

/-- Table 20.7: `ADM_IMG_ADDR.ADDR`, RW, class L: Image address, 64-byte aligned. -/
def ADM_IMG_ADDR_ADDR : Field :=
  ⟨23, 0x20, 0, 64, .rw, .l, 0, 0, 1, 0, 1, 0⟩

/-- Table 20.7: `ADM_IMG_LEN.BYTES`, RW, class L: Image length, up to 64 MiB. -/
def ADM_IMG_LEN_BYTES : Field :=
  ⟨23, 0x28, 0, 32, .rw, .l, 0, 0, 1, 0, 1, 0⟩

/-- Table 20.7: `ADM_IMG_GEN.GEN`, RO, class —: IMG_GEN of the last image applied. -/
def ADM_IMG_GEN_GEN : Field :=
  ⟨23, 0x2C, 0, 32, .ro, .fixed, 0, 0, 1, 0, 1, 0⟩

/-- Table 20.7: `ADM_RESULT.STATUS`, RO, class —: STS_OK or STS_ADM_REFUSED. -/
def ADM_RESULT_STATUS : Field :=
  ⟨23, 0x30, 0, 16, .ro, .fixed, 0, 0, 1, 0, 1, 0⟩

/-- Table 20.7: `ADM_RESULT.CONSTRAINT`, RO, class —: R444. -/
def ADM_RESULT_CONSTRAINT : Field :=
  ⟨23, 0x30, 16, 16, .ro, .fixed, 0, 0, 1, 0, 1, 0⟩

/-- Table 20.7: `ADM_RESULT.DONE`, RO, class —: Check or apply ended. -/
def ADM_RESULT_DONE : Field :=
  ⟨23, 0x30, 32, 1, .ro, .fixed, 0, 0, 1, 0, 1, 0⟩

/-- Table 20.7: `ADM_RESULT.BUSY`, RO, class —: Check or apply running. -/
def ADM_RESULT_BUSY : Field :=
  ⟨23, 0x30, 33, 1, .ro, .fixed, 0, 0, 1, 0, 1, 0⟩

/-- Table 20.7: `ADM_RESULT.UNIT`, RO, class —: 0 none, 1 ns, 2 engine cycles, 3 MB/s, 4 IOPS, 5 ms, 6 count, 7 address, 8 bytes; 9 to 15 reserved. -/
def ADM_RESULT_UNIT : Field :=
  ⟨23, 0x30, 34, 4, .ro, .fixed, 0, 0, 1, 0, 1, 0⟩

/-- Table 20.7: `ADM_RESULT.RECORD`, RO, class —: Failing record, from 0; 0xFF_FFFF for a direct commit. -/
def ADM_RESULT_RECORD : Field :=
  ⟨23, 0x30, 40, 24, .ro, .fixed, 0, 0, 1, 0, 1, 0⟩

/-- Table 20.7: `ADM_REQUIRED.VALUE`, RO, class —: R452. -/
def ADM_REQUIRED_VALUE : Field :=
  ⟨23, 0x38, 0, 64, .ro, .fixed, 0, 0, 1, 0, 1, 0⟩

/-- Table 20.7: `ADM_OFFERED.VALUE`, RO, class —: R452. -/
def ADM_OFFERED_VALUE : Field :=
  ⟨23, 0x40, 0, 64, .ro, .fixed, 0, 0, 1, 0, 1, 0⟩

/-- Table 20.7: `ADM_TIME.LEASE_EPS_NS`, RW, class G: R446; at most 12,500. -/
def ADM_TIME_LEASE_EPS_NS : Field :=
  ⟨23, 0x48, 0, 32, .rw, .g, 1000, 0, 1, 0, 1, 0⟩

/-- Table 20.7: `ADM_TIME.REPL_EPS_NS`, RW, class G: R446. -/
def ADM_TIME_REPL_EPS_NS : Field :=
  ⟨23, 0x48, 32, 32, .rw, .g, 1000, 0, 1, 0, 1, 0⟩

/-- Table 20.7: `ADM_TIME.FW_EPS_NS`, RW, class G: R446. -/
def ADM_TIME_FW_EPS_NS : Field :=
  ⟨23, 0x48, 64, 32, .rw, .g, 1000, 0, 1, 0, 1, 0⟩

/-- Table 20.7: `ADM_TIME.SLOT_EPS_NS`, RW, class G: R446. -/
def ADM_TIME_SLOT_EPS_NS : Field :=
  ⟨23, 0x48, 96, 32, .rw, .g, 1000, 0, 1, 0, 1, 0⟩

/-- Table 20.7: `ADM_QOS.WRITE_PCT`, RW, class G: Share of B_w reservable, %. -/
def ADM_QOS_WRITE_PCT : Field :=
  ⟨23, 0x58, 0, 8, .rw, .g, 80, 0, 1, 0, 1, 0⟩

/-- Table 20.7: `ADM_QOS.READ_PCT`, RW, class G: Share of read IOPS reservable, %. -/
def ADM_QOS_READ_PCT : Field :=
  ⟨23, 0x58, 8, 8, .rw, .g, 80, 0, 1, 0, 1, 0⟩

/-- Table 20.7: `ADM_QOS.WAF_Q8`, RW, class G: Write amplification assumed, Q4.8. -/
def ADM_QOS_WAF_Q8 : Field :=
  ⟨23, 0x58, 16, 12, .rw, .g, 640, 0, 1, 0, 1, 0⟩

/-- Table 20.7: `ADM_STAT_REFUSED.COUNT`, RC, class —: Refusals. -/
def ADM_STAT_REFUSED_COUNT : Field :=
  ⟨23, 0x5C, 0, 32, .rc, .fixed, 0, 0, 1, 0, 1, 0⟩

/-- Table 21.4: `GBK_CTRL.ENABLE`, RW, class L: Records written to PJM (R459). -/
def GBK_CTRL_ENABLE : Field :=
  ⟨24, 0x0, 0, 1, .rw, .l, 0, 0, 1, 0, 1, 0⟩

/-- Table 21.4: `GBK_CTRL.PIN_EN`, RW, class L: Drive `TOCSIN_N` (R463). -/
def GBK_CTRL_PIN_EN : Field :=
  ⟨24, 0x0, 1, 1, .rw, .l, 0, 0, 1, 0, 1, 0⟩

/-- Table 21.4: `GBK_STATUS.SCANNING`, RO, class —: Reset scan running. -/
def GBK_STATUS_SCANNING : Field :=
  ⟨24, 0x4, 0, 1, .ro, .fixed, 0, 0, 1, 0, 1, 0⟩

/-- Table 21.4: `GBK_STATUS.CLEARING`, RO, class —: Clear running. -/
def GBK_STATUS_CLEARING : Field :=
  ⟨24, 0x4, 1, 1, .ro, .fixed, 0, 0, 1, 0, 1, 0⟩

/-- Table 21.4: `GBK_ERR.OVERFLOW`, W1C, class L: Staging dropped a record. -/
def GBK_ERR_OVERFLOW : Field :=
  ⟨24, 0x8, 0, 1, .w1c, .l, 0, 0, 1, 0, 1, 0⟩

/-- Table 21.4: `GBK_ERR.CLEAR_REFUSED`, W1C, class L: R461. -/
def GBK_ERR_CLEAR_REFUSED : Field :=
  ⟨24, 0x8, 1, 1, .w1c, .l, 0, 0, 1, 0, 1, 0⟩

/-- Table 21.4: `GBK_ERR.CMD_BUSY`, W1C, class L: R464. -/
def GBK_ERR_CMD_BUSY : Field :=
  ⟨24, 0x8, 2, 1, .w1c, .l, 0, 0, 1, 0, 1, 0⟩

/-- Table 21.4: `GBK_COMMIT.GEN`, WO, class L: Commit with expected generation. -/
def GBK_COMMIT_GEN : Field :=
  ⟨24, 0xC, 0, 32, .wo, .l, 0, 0, 1, 0, 1, 0⟩

/-- Table 21.4: `GBK_ACTIVE_GEN.GEN`, RO, class —: Generation in force. -/
def GBK_ACTIVE_GEN_GEN : Field :=
  ⟨24, 0x10, 0, 32, .ro, .fixed, 0, 0, 1, 0, 1, 0⟩

/-- Table 21.4: `GBK_KEY.SLOT`, RW, class G: Clear-token key slot. -/
def GBK_KEY_SLOT : Field :=
  ⟨24, 0x14, 0, 14, .rw, .g, 0, 0, 1, 0, 1, 0⟩

/-- Table 21.4: `GBK_HEAD_SEQ.SEQ`, RO, class —: Highest persistent SEQ. -/
def GBK_HEAD_SEQ_SEQ : Field :=
  ⟨24, 0x18, 0, 64, .ro, .fixed, 0, 0, 1, 0, 1, 0⟩

/-- Table 21.4: `GBK_FLOOR.SEQ`, RO, class —: Lowest SEQ not cleared. -/
def GBK_FLOOR_SEQ : Field :=
  ⟨24, 0x20, 0, 64, .ro, .fixed, 1, 0, 1, 0, 1, 0⟩

/-- Table 21.4: `GBK_LOST.COUNT`, RC, class —: Records dropped (R457). -/
def GBK_LOST_COUNT : Field :=
  ⟨24, 0x28, 0, 32, .rc, .fixed, 0, 0, 1, 0, 1, 0⟩

/-- Table 21.4: `GBK_ALARM.SOURCE`, W1C, class L: Bit b: block b requested the alarm. -/
def GBK_ALARM_SOURCE : Field :=
  ⟨24, 0x2C, 0, 32, .w1c, .l, 0, 0, 1, 0, 1, 0⟩

/-- Table 21.4: `GBK_ALARM_MASK.MASK`, RW, class L: Bit b: block b may assert `TOCSIN_N`. -/
def GBK_ALARM_MASK_MASK : Field :=
  ⟨24, 0x30, 0, 32, .rw, .l, 4294967295, 0, 1, 0, 1, 0⟩

/-- Table 21.4: `GBK_COPY_ADDR.ADDR`, RW, class L: Destination, 64-byte aligned. -/
def GBK_COPY_ADDR_ADDR : Field :=
  ⟨24, 0x38, 0, 64, .rw, .l, 0, 0, 1, 0, 1, 0⟩

/-- Table 21.4: `GBK_COPY_FIRST.SEQ`, RW, class L: First SEQ copied. -/
def GBK_COPY_FIRST_SEQ : Field :=
  ⟨24, 0x40, 0, 64, .rw, .l, 0, 0, 1, 0, 1, 0⟩

/-- Table 21.4: `GBK_COPY_CMD.COUNT`, WO, class L: Records, 1 to 65,536. -/
def GBK_COPY_CMD_COUNT : Field :=
  ⟨24, 0x48, 0, 17, .wo, .l, 0, 0, 1, 0, 1, 0⟩

/-- Table 21.4: `GBK_COPY_CMD.DST`, WO, class L: 0 PF0 host memory, 1 DDR5. -/
def GBK_COPY_CMD_DST : Field :=
  ⟨24, 0x48, 17, 1, .wo, .l, 0, 0, 1, 0, 1, 0⟩

/-- Table 21.4: `GBK_COPY_CMD.PARTNER`, WO, class L: Copy the partner's ring. -/
def GBK_COPY_CMD_PARTNER : Field :=
  ⟨24, 0x48, 18, 1, .wo, .l, 0, 0, 1, 0, 1, 0⟩

/-- Table 21.4: `GBK_COPY_RESULT.STATUS`, RO, class —: STS_OK, STS_BAD_DESCRIPTOR (R460) or STS_HOST_XFER_FAIL. -/
def GBK_COPY_RESULT_STATUS : Field :=
  ⟨24, 0x4C, 0, 16, .ro, .fixed, 0, 0, 1, 0, 1, 0⟩

/-- Table 21.4: `GBK_COPY_RESULT.DONE`, RO, class —: Copy complete. -/
def GBK_COPY_RESULT_DONE : Field :=
  ⟨24, 0x4C, 16, 1, .ro, .fixed, 0, 0, 1, 0, 1, 0⟩

/-- Table 21.4: `GBK_COPY_RESULT.BUSY`, RO, class —: Copy running. -/
def GBK_COPY_RESULT_BUSY : Field :=
  ⟨24, 0x4C, 17, 1, .ro, .fixed, 0, 0, 1, 0, 1, 0⟩

/-- Table 21.4: `GBK_CLEAR_TOKEN`, WO, class L: Token (R461); reads return 0. -/
def GBK_CLEAR_TOKEN : Field :=
  ⟨24, 0x50, 0, 384, .wo, .l, 0, 0, 1, 0, 1, 0⟩

/-- Table 21.4: `GBK_CLEAR_CMD.GO`, WO, class L: Verify and clear. -/
def GBK_CLEAR_CMD_GO : Field :=
  ⟨24, 0x80, 0, 1, .wo, .l, 0, 0, 1, 0, 1, 0⟩

/-- Table 21.4: `GBK_CLEAR_RESULT.STATUS`, RO, class —: STS_OK or R461 status. -/
def GBK_CLEAR_RESULT_STATUS : Field :=
  ⟨24, 0x84, 0, 16, .ro, .fixed, 0, 0, 1, 0, 1, 0⟩

/-- Table 21.4: `GBK_CLEAR_RESULT.DONE`, RO, class —: Clear complete or refused. -/
def GBK_CLEAR_RESULT_DONE : Field :=
  ⟨24, 0x84, 16, 1, .ro, .fixed, 0, 0, 1, 0, 1, 0⟩

/-- Table 21.4: `GBK_CLEAR_RESULT.BUSY`, RO, class —: Clear running. -/
def GBK_CLEAR_RESULT_BUSY : Field :=
  ⟨24, 0x84, 17, 1, .ro, .fixed, 0, 0, 1, 0, 1, 0⟩

/-- Table 21.4: `GBK_STAGE_DEPTH.COUNT`, RO, class —: Records in staging, 0 to 4,096. -/
def GBK_STAGE_DEPTH_COUNT : Field :=
  ⟨24, 0x88, 0, 13, .ro, .fixed, 0, 0, 1, 0, 1, 0⟩

/-- Table 22.9: `FWU_CTRL.ENABLE`, RW, class L: Activations run. -/
def FWU_CTRL_ENABLE : Field :=
  ⟨25, 0x0, 0, 1, .rw, .l, 0, 0, 1, 0, 1, 0⟩

/-- Table 22.9: `FWU_STATUS.SLOT`, RO, class —: Slot booted. -/
def FWU_STATUS_SLOT : Field :=
  ⟨25, 0x4, 0, 1, .ro, .fixed, 0, 0, 1, 0, 1, 0⟩

/-- Table 22.9: `FWU_STATUS.TRIAL`, RO, class —: Running on trial. -/
def FWU_STATUS_TRIAL : Field :=
  ⟨25, 0x4, 1, 1, .ro, .fixed, 0, 0, 1, 0, 1, 0⟩

/-- Table 22.9: `FWU_STATUS.PARTNER_GEN`, RO, class —: Partner FW_GEN [29:0] from the drumbeat. -/
def FWU_STATUS_PARTNER_GEN : Field :=
  ⟨25, 0x4, 2, 30, .ro, .fixed, 0, 0, 1, 0, 1, 0⟩

/-- Table 22.9: `FWU_ERR.ACT_SKIPPED`, W1C, class L: R472. -/
def FWU_ERR_ACT_SKIPPED : Field :=
  ⟨25, 0x8, 0, 1, .w1c, .l, 0, 0, 1, 0, 1, 0⟩

/-- Table 22.9: `FWU_ERR.CONFIRM_BAD`, W1C, class L: R473. -/
def FWU_ERR_CONFIRM_BAD : Field :=
  ⟨25, 0x8, 1, 1, .w1c, .l, 0, 0, 1, 0, 1, 0⟩

/-- Table 22.9: `FWU_ERR.FALLBACK`, W1C, class L: R474, R475; set after the boot. -/
def FWU_ERR_FALLBACK : Field :=
  ⟨25, 0x8, 2, 1, .w1c, .l, 0, 0, 1, 0, 1, 0⟩

/-- Table 22.9: `FWU_ERR.CMD_BUSY`, W1C, class L: R478. -/
def FWU_ERR_CMD_BUSY : Field :=
  ⟨25, 0x8, 3, 1, .w1c, .l, 0, 0, 1, 0, 1, 0⟩

/-- Table 22.9: `FWU_COMMIT.GEN`, WO, class L: Commit with expected generation. -/
def FWU_COMMIT_GEN : Field :=
  ⟨25, 0xC, 0, 32, .wo, .l, 0, 0, 1, 0, 1, 0⟩

/-- Table 22.9: `FWU_ACTIVE_GEN.GEN`, RO, class —: Generation in force. -/
def FWU_ACTIVE_GEN_GEN : Field :=
  ⟨25, 0x10, 0, 32, .ro, .fixed, 0, 0, 1, 0, 1, 0⟩

/-- Table 22.9: `FWU_CFG.CONFIRM_S`, RW, class G: Confirm window, s, 60 to 65,535. -/
def FWU_CFG_CONFIRM_S : Field :=
  ⟨25, 0x48, 0, 16, .rw, .g, 600, 0, 1, 0, 1, 0⟩

/-- Table 22.9: `FWU_CFG.DELTA_S`, RW, class G: Δ, s, 1 to 65,535. -/
def FWU_CFG_DELTA_S : Field :=
  ⟨25, 0x48, 16, 16, .rw, .g, 900, 0, 1, 0, 1, 0⟩

/-- Table 22.9: `FWU_CFG.BACKSTOP_S`, RW, class G: R475, s. -/
def FWU_CFG_BACKSTOP_S : Field :=
  ⟨25, 0x48, 32, 16, .rw, .g, 60, 0, 1, 0, 1, 0⟩

/-- Table 22.9: `FWU_DEADLINE.NS`, RO, class —: DEADLINE of the trial; 0 when none. -/
def FWU_DEADLINE_NS : Field :=
  ⟨25, 0x18, 0, 64, .ro, .fixed, 0, 0, 1, 0, 1, 0⟩

/-- Table 22.9: `FWU_ACT.T`, RW, class G: T, CT64 nanoseconds (R471). -/
def FWU_ACT_T : Field :=
  ⟨25, 0x20, 0, 64, .rw, .g, 0, 0, 1, 0, 1, 0⟩

/-- Table 22.9: `FWU_ACT.VALID`, RW, class G: Activation scheduled. -/
def FWU_ACT_VALID : Field :=
  ⟨25, 0x20, 64, 1, .rw, .g, 0, 0, 1, 0, 1, 0⟩

/-- Table 22.9: `FWU_STAGE_ADDR.ADDR`, RW, class L: Image source, 64-byte aligned. -/
def FWU_STAGE_ADDR_ADDR : Field :=
  ⟨25, 0x30, 0, 64, .rw, .l, 0, 0, 1, 0, 1, 0⟩

/-- Table 22.9: `FWU_STAGE_LEN.BYTES`, RW, class L: Image bytes, header included. -/
def FWU_STAGE_LEN_BYTES : Field :=
  ⟨25, 0x38, 0, 25, .rw, .l, 0, 0, 1, 0, 1, 0⟩

/-- Table 22.9: `FWU_CMD.OP`, WO, class L: 1 stage; 2 cancel a PENDING activation; 3 erase a STAGED slot. -/
def FWU_CMD_OP : Field :=
  ⟨25, 0x3C, 0, 2, .wo, .l, 0, 0, 1, 0, 1, 0⟩

/-- Table 22.9: `FWU_CMD.SRC`, WO, class L: 0 PF0 host memory; 1 DDR5. -/
def FWU_CMD_SRC : Field :=
  ⟨25, 0x3C, 2, 1, .wo, .l, 0, 0, 1, 0, 1, 0⟩

/-- Table 22.9: `FWU_CMD_RESULT.STATUS`, RO, class —: STS_OK or Table 22.6. -/
def FWU_CMD_RESULT_STATUS : Field :=
  ⟨25, 0x40, 0, 16, .ro, .fixed, 0, 0, 1, 0, 1, 0⟩

/-- Table 22.9: `FWU_CMD_RESULT.DONE`, RO, class —: Command complete. -/
def FWU_CMD_RESULT_DONE : Field :=
  ⟨25, 0x40, 16, 1, .ro, .fixed, 0, 0, 1, 0, 1, 0⟩

/-- Table 22.9: `FWU_CMD_RESULT.BUSY`, RO, class —: Command running. -/
def FWU_CMD_RESULT_BUSY : Field :=
  ⟨25, 0x40, 17, 1, .ro, .fixed, 0, 0, 1, 0, 1, 0⟩

/-- Table 22.9: `FWU_CONFIRM.FW_GEN`, WO, class L: R473. -/
def FWU_CONFIRM_FW_GEN : Field :=
  ⟨25, 0x44, 0, 32, .wo, .l, 0, 0, 1, 0, 1, 0⟩

/-- Table 22.9: `FWU_SLOT_INFO[n].STATE`, RO, class —: 0 EMPTY, 1 STAGED, 2 PENDING, 3 TRIAL, 4 RUNNING, 5 PREVIOUS. -/
def FWU_SLOT_INFO_STATE : Field :=
  ⟨25, 0x50, 0, 3, .ro, .fixed, 0, 0, 2, 128, 1, 0⟩

/-- Table 22.9: `FWU_SLOT_INFO[n].FW_GEN`, RO, class —: Table 22.3. -/
def FWU_SLOT_INFO_FW_GEN : Field :=
  ⟨25, 0x50, 32, 32, .ro, .fixed, 0, 0, 2, 128, 1, 0⟩

/-- Table 22.9: `FWU_SLOT_INFO[n].COMPAT_MIN`, RO, class —: Table 22.3. -/
def FWU_SLOT_INFO_COMPAT_MIN : Field :=
  ⟨25, 0x50, 64, 32, .ro, .fixed, 0, 0, 2, 128, 1, 0⟩

/-- Table 22.9: `FWU_SLOT_INFO[n].CFG_FMT`, RO, class —: Table 22.3. -/
def FWU_SLOT_INFO_CFG_FMT : Field :=
  ⟨25, 0x50, 96, 16, .ro, .fixed, 0, 0, 2, 128, 1, 0⟩

/-- Table 23.8: `PWR_CTRL.ENABLE`, RW, class L: PMBus polling and AVS writes. -/
def PWR_CTRL_ENABLE : Field :=
  ⟨26, 0x0, 0, 1, .rw, .l, 0, 0, 1, 0, 1, 0⟩

/-- Table 23.8: `PWR_CTRL.AVS_EN`, RW, class L: VDD from loop 0 (R485). -/
def PWR_CTRL_AVS_EN : Field :=
  ⟨26, 0x0, 1, 1, .rw, .l, 1, 0, 1, 0, 1, 0⟩

/-- Table 23.8: `PWR_STATUS.CHAIN_A_GOOD`, RO, class —: R483. -/
def PWR_STATUS_CHAIN_A_GOOD : Field :=
  ⟨26, 0x4, 0, 1, .ro, .fixed, 0, 0, 1, 0, 1, 0⟩

/-- Table 23.8: `PWR_STATUS.CHAIN_B_GOOD`, RO, class —: R483. -/
def PWR_STATUS_CHAIN_B_GOOD : Field :=
  ⟨26, 0x4, 1, 1, .ro, .fixed, 0, 0, 1, 0, 1, 0⟩

/-- Table 23.8: `PWR_STATUS.DOM_BUSY`, RO, class —: A domain is switching. -/
def PWR_STATUS_DOM_BUSY : Field :=
  ⟨26, 0x4, 2, 1, .ro, .fixed, 0, 0, 1, 0, 1, 0⟩

/-- Table 23.8: `PWR_STATUS.FIRST_BOOT`, RO, class —: R493. -/
def PWR_STATUS_FIRST_BOOT : Field :=
  ⟨26, 0x4, 3, 1, .ro, .fixed, 0, 0, 1, 0, 1, 0⟩

/-- Table 23.8: `PWR_STATUS.QUEUED`, RO, class —: Domain requests queued, 0 to 16. -/
def PWR_STATUS_QUEUED : Field :=
  ⟨26, 0x4, 4, 5, .ro, .fixed, 0, 0, 1, 0, 1, 0⟩

/-- Table 23.8: `PWR_ERR.CHAIN_A_FAULT`, W1C, class L: R483. -/
def PWR_ERR_CHAIN_A_FAULT : Field :=
  ⟨26, 0x8, 0, 1, .w1c, .l, 0, 0, 1, 0, 1, 0⟩

/-- Table 23.8: `PWR_ERR.CHAIN_B_FAULT`, W1C, class L: R483. -/
def PWR_ERR_CHAIN_B_FAULT : Field :=
  ⟨26, 0x8, 1, 1, .w1c, .l, 0, 0, 1, 0, 1, 0⟩

/-- Table 23.8: `PWR_ERR.PMB_NAK`, W1C, class L: PMBus transaction not acknowledged. -/
def PWR_ERR_PMB_NAK : Field :=
  ⟨26, 0x8, 2, 1, .w1c, .l, 0, 0, 1, 0, 1, 0⟩

/-- Table 23.8: `PWR_ERR.DOM_REFUSED`, W1C, class L: R480, R481. -/
def PWR_ERR_DOM_REFUSED : Field :=
  ⟨26, 0x8, 3, 1, .w1c, .l, 0, 0, 1, 0, 1, 0⟩

/-- Table 23.8: `PWR_ERR.OFF_ACCESS`, W1C, class L: R482. -/
def PWR_ERR_OFF_ACCESS : Field :=
  ⟨26, 0x8, 4, 1, .w1c, .l, 0, 0, 1, 0, 1, 0⟩

/-- Table 23.8: `PWR_ERR_INFO.DOMAIN`, RO, class —: Domain of the last error. -/
def PWR_ERR_INFO_DOMAIN : Field :=
  ⟨26, 0xC, 0, 6, .ro, .fixed, 0, 0, 1, 0, 1, 0⟩

/-- Table 23.8: `PWR_ERR_INFO.DEV`, RO, class —: PMBus device of the last error. -/
def PWR_ERR_INFO_DEV : Field :=
  ⟨26, 0xC, 8, 4, .ro, .fixed, 0, 0, 1, 0, 1, 0⟩

/-- Table 23.8: `PWR_COMMIT.GEN`, WO, class L: Commit with expected generation. -/
def PWR_COMMIT_GEN : Field :=
  ⟨26, 0x10, 0, 32, .wo, .l, 0, 0, 1, 0, 1, 0⟩

/-- Table 23.8: `PWR_ACTIVE_GEN.GEN`, RO, class —: Generation in force. -/
def PWR_ACTIVE_GEN_GEN : Field :=
  ⟨26, 0x14, 0, 32, .ro, .fixed, 0, 0, 1, 0, 1, 0⟩

/-- Table 23.8: `PWR_DOM_CMD.DOMAIN`, WO, class L: Domain. -/
def PWR_DOM_CMD_DOMAIN : Field :=
  ⟨26, 0x18, 0, 6, .wo, .l, 0, 0, 1, 0, 1, 0⟩

/-- Table 23.8: `PWR_DOM_CMD.OP`, WO, class L: 1 off, 2 on. -/
def PWR_DOM_CMD_OP : Field :=
  ⟨26, 0x18, 6, 2, .wo, .l, 0, 0, 1, 0, 1, 0⟩

/-- Table 23.8: `PWR_DOM_RESULT.STATUS`, RO, class —: STS_OK or STS_DOMAIN_IN_USE. -/
def PWR_DOM_RESULT_STATUS : Field :=
  ⟨26, 0x1C, 0, 16, .ro, .fixed, 0, 0, 1, 0, 1, 0⟩

/-- Table 23.8: `PWR_DOM_RESULT.DONE`, RO, class —: Last command ended. -/
def PWR_DOM_RESULT_DONE : Field :=
  ⟨26, 0x1C, 16, 1, .ro, .fixed, 0, 0, 1, 0, 1, 0⟩

/-- Table 23.8: `PWR_DOM_RESULT.BUSY`, RO, class —: Last command queued or running. -/
def PWR_DOM_RESULT_BUSY : Field :=
  ⟨26, 0x1C, 17, 1, .ro, .fixed, 0, 0, 1, 0, 1, 0⟩

/-- Table 23.8: `PWR_DOM_STATE.ON`, RO, class —: Bit d: domain d powered; the reset value is the state at the release of reset, before the boot ROM powers domains (Table 23.5). -/
def PWR_DOM_STATE_ON : Field :=
  ⟨26, 0x20, 0, 64, .ro, .fixed, 9223372036854775808, 0, 1, 0, 1, 0⟩

/-- Table 23.8: `PWR_VDD.SET_MV`, RO, class —: VDD commanded, mV. -/
def PWR_VDD_SET_MV : Field :=
  ⟨26, 0x3C, 0, 10, .ro, .fixed, 750, 0, 1, 0, 1, 0⟩

/-- Table 23.8: `PWR_VDD.MEAS_MV`, RO, class —: VDD read back (READ_VOUT, chain A or B if A faulted), mV. -/
def PWR_VDD_MEAS_MV : Field :=
  ⟨26, 0x3C, 16, 10, .ro, .fixed, 0, 0, 1, 0, 1, 0⟩

/-- Table 23.8: `PWR_AVS.FIXED_MV`, RW, class G: R485, 650 to 850 mV. -/
def PWR_AVS_FIXED_MV : Field :=
  ⟨26, 0x28, 0, 10, .rw, .g, 750, 0, 1, 0, 1, 0⟩

/-- Table 23.8: `PWR_AVS.STEP_MV`, RW, class G: Largest VOUT_COMMAND step, 1 to 10 mV. -/
def PWR_AVS_STEP_MV : Field :=
  ⟨26, 0x28, 10, 4, .rw, .g, 5, 0, 1, 0, 1, 0⟩

/-- Table 23.8: `PWR_POLL.US`, RW, class G: R483, 20 to 10,000 µs. -/
def PWR_POLL_US : Field :=
  ⟨26, 0x2C, 0, 16, .rw, .g, 100, 0, 1, 0, 1, 0⟩

/-- Table 23.8: `PWR_RST_CMD.MAIN`, WO, class L: Main-domain reset (Table 23.3). -/
def PWR_RST_CMD_MAIN : Field :=
  ⟨26, 0x30, 0, 1, .wo, .l, 0, 0, 1, 0, 1, 0⟩

/-- Table 23.8: `PWR_RST_CAUSE.CAUSE`, RO, class —: 0 power-on, 1 system, 2 command, 3 activation, 4 fall-back, 5 backstop. -/
def PWR_RST_CAUSE_CAUSE : Field :=
  ⟨26, 0x34, 0, 3, .ro, .fixed, 0, 0, 1, 0, 1, 0⟩

/-- Table 23.8: `PWR_BOOT_US.US`, RO, class —: Release to firmware entry, µs. -/
def PWR_BOOT_US_US : Field :=
  ⟨26, 0x38, 0, 32, .ro, .fixed, 0, 0, 1, 0, 1, 0⟩

/-- Table 23.8: `PWR_CHAIN[n].STATUS`, RO, class —: Last STATUS_WORD with a fault bit, or 0. -/
def PWR_CHAIN_STATUS : Field :=
  ⟨26, 0x40, 0, 16, .ro, .fixed, 0, 0, 2, 64, 1, 0⟩

/-- Table 23.8: `PWR_CHAIN[n].POWER_W`, RO, class —: Sum of READ_POUT, W. -/
def PWR_CHAIN_POWER_W : Field :=
  ⟨26, 0x40, 16, 16, .ro, .fixed, 0, 0, 2, 64, 1, 0⟩

/-- Table 23.8: `PWR_CHAIN[n].FAULTS`, RC, class —: Chain faults declared, saturating. -/
def PWR_CHAIN_FAULTS : Field :=
  ⟨26, 0x40, 32, 16, .rc, .fixed, 0, 0, 2, 64, 1, 0⟩

/-- Table 23.8: `PWR_PMB_DEV[n].ADDR`, RW, class S: 7-bit PMBus address. -/
def PWR_PMB_DEV_ADDR : Field :=
  ⟨26, 0x80, 0, 7, .rw, .s, 0, 0, 16, 32, 1, 0⟩

/-- Table 23.8: `PWR_PMB_DEV[n].CHAIN`, RW, class S: 0 chain A, 1 chain B. -/
def PWR_PMB_DEV_CHAIN : Field :=
  ⟨26, 0x80, 7, 1, .rw, .s, 0, 0, 16, 32, 1, 0⟩

/-- Table 23.8: `PWR_PMB_DEV[n].VDD`, RW, class S: Regulates core VDD; receives VOUT_COMMAND. -/
def PWR_PMB_DEV_VDD : Field :=
  ⟨26, 0x80, 8, 1, .rw, .s, 0, 0, 16, 32, 1, 0⟩

/-- Table 23.8: `PWR_PMB_DEV[n].VALID`, RW, class S: Entry in use. -/
def PWR_PMB_DEV_VALID : Field :=
  ⟨26, 0x80, 9, 1, .rw, .s, 0, 0, 16, 32, 1, 0⟩

/-- Table 25.3: `GLB_ID.PART`, RO, class —: Part number. -/
def GLB_ID_PART : Field :=
  ⟨0, 0x0, 0, 16, .ro, .fixed, 33064, 0, 1, 0, 1, 0⟩

/-- Table 25.3: `GLB_ID.FAMILY`, RO, class —: Ryuvas family code. -/
def GLB_ID_FAMILY : Field :=
  ⟨0, 0x0, 16, 16, .ro, .fixed, 21078, 0, 1, 0, 1, 0⟩

/-- Table 25.3: `GLB_REV.MINOR`, RO, class —: Stepping digit: 1 in stepping B1. Reset: Fused. -/
def GLB_REV_MINOR : Field :=
  ⟨0, 0x4, 0, 4, .ro, .fixed, 0, 0, 1, 0, 1, 0⟩

/-- Table 25.3: `GLB_REV.MAJOR`, RO, class —: Stepping letter: 0 A, 1 B, and so on. Reset: Fused. -/
def GLB_REV_MAJOR : Field :=
  ⟨0, 0x4, 4, 4, .ro, .fixed, 0, 0, 1, 0, 1, 0⟩

/-- Table 25.3: `GLB_REV.SPEED`, RO, class —: Speed grade: 16 or 14. Reset: Fused. -/
def GLB_REV_SPEED : Field :=
  ⟨0, 0x4, 8, 5, .ro, .fixed, 0, 0, 1, 0, 1, 0⟩

/-- Table 25.3: `GLB_REV.TEMP`, RO, class —: 0 commercial (C), 1 extended (E). Reset: Fused. -/
def GLB_REV_TEMP : Field :=
  ⟨0, 0x4, 13, 1, .ro, .fixed, 0, 0, 1, 0, 1, 0⟩

/-- Table 25.3: `GLB_HEAD.HEAD_ID`, RO, class —: Head ID of the configuration in force (R9). -/
def GLB_HEAD_HEAD_ID : Field :=
  ⟨0, 0x8, 0, 16, .ro, .fixed, 0, 0, 1, 0, 1, 0⟩

/-- Table 25.3: `GLB_HEAD.ID_VALID`, RO, class —: A configuration naming this head is in force. -/
def GLB_HEAD_ID_VALID : Field :=
  ⟨0, 0x8, 16, 1, .ro, .fixed, 0, 0, 1, 0, 1, 0⟩

/-- Table 25.3: `GLB_HEAD.SIDE`, RO, class —: `SIDE` as sampled: 0 side A, 1 side B. Reset: Strap. -/
def GLB_HEAD_SIDE : Field :=
  ⟨0, 0x8, 17, 1, .ro, .fixed, 0, 0, 1, 0, 1, 0⟩

/-- Table 25.3: `GLB_HEAD.BIF`, RO, class —: `PCIE_BIF` as sampled (R78). Reset: Strap. -/
def GLB_HEAD_BIF : Field :=
  ⟨0, 0x8, 18, 1, .ro, .fixed, 0, 0, 1, 0, 1, 0⟩

/-- Table 25.3: `GLB_STATUS.STAGE`, RO, class —: 0 boot ROM, 1 firmware starting, 2 configured, 3 serving: lease HELD and NVF, KVS or HRI enabled. -/
def GLB_STATUS_STAGE : Field :=
  ⟨0, 0xC, 0, 2, .ro, .fixed, 0, 0, 1, 0, 1, 0⟩

/-- Table 25.3: `GLB_STATUS.TOCSIN`, RO, class —: `TOCSIN_N` driven low (R463). -/
def GLB_STATUS_TOCSIN : Field :=
  ⟨0, 0xC, 2, 1, .ro, .fixed, 0, 0, 1, 0, 1, 0⟩

/-- Table 25.3: `GLB_STATUS.TIME_VALID`, RO, class —: `CAR_STATUS.STATE` is LOCKED or HOLDOVER. -/
def GLB_STATUS_TIME_VALID : Field :=
  ⟨0, 0xC, 3, 1, .ro, .fixed, 0, 0, 1, 0, 1, 0⟩

/-- Table 25.3: `GLB_FUSE.KEY`, RO, class —: Key fuses written (R234). Reset: Fused. -/
def GLB_FUSE_KEY : Field :=
  ⟨0, 0x10, 0, 1, .ro, .fixed, 0, 0, 1, 0, 1, 0⟩

/-- Table 25.3: `GLB_FUSE.PUBKEY`, RO, class —: Public-key hash written (R467). Reset: Fused. -/
def GLB_FUSE_PUBKEY : Field :=
  ⟨0, 0x10, 1, 1, .ro, .fixed, 0, 0, 1, 0, 1, 0⟩

/-- Table 25.3: `GLB_FUSE.ROLLBACK`, RO, class —: Rollback floor, FW_GEN (R467). Reset: Fused. -/
def GLB_FUSE_ROLLBACK : Field :=
  ⟨0, 0x10, 32, 32, .ro, .fixed, 0, 0, 1, 0, 1, 0⟩

/-- Table 25.3: `GLB_UID.UID`, RO, class —: Unique die identifier. Reset: Fused. -/
def GLB_UID_UID : Field :=
  ⟨0, 0x18, 0, 64, .ro, .fixed, 0, 0, 1, 0, 1, 0⟩

/-- Table 25.3: `GLB_ERR.CFG_LIVE`, W1C, class L: Write to an S field of a running block ignored (R4). -/
def GLB_ERR_CFG_LIVE : Field :=
  ⟨0, 0x20, 0, 1, .w1c, .l, 0, 0, 1, 0, 1, 0⟩

/-- Table 25.3: `GLB_ERR.BAD_OFFSET`, W1C, class L: R520. -/
def GLB_ERR_BAD_OFFSET : Field :=
  ⟨0, 0x20, 1, 1, .w1c, .l, 0, 0, 1, 0, 1, 0⟩

/-- Table 25.3: `GLB_ERR.BAD_SIZE`, W1C, class L: R519. -/
def GLB_ERR_BAD_SIZE : Field :=
  ⟨0, 0x20, 2, 1, .w1c, .l, 0, 0, 1, 0, 1, 0⟩

/-- Table 25.3: `GLB_BLK_EN.MASK`, RO, class —: Bit b: block b enabled; bits 0 (GLB) and 23 (ADM) always 1. -/
def GLB_BLK_EN_MASK : Field :=
  ⟨0, 0x24, 0, 28, .ro, .fixed, 8388609, 0, 1, 0, 1, 0⟩

/-- Table 25.3: `GLB_ERR_INFO.OFFSET`, RO, class —: BAR0 offset of the last access that set a `GLB_ERR` bit. -/
def GLB_ERR_INFO_OFFSET : Field :=
  ⟨0, 0x28, 0, 26, .ro, .fixed, 0, 0, 1, 0, 1, 0⟩

/-- Table 25.3: `GLB_ERR_INFO.WRITE`, RO, class —: 1 write, 0 read. -/
def GLB_ERR_INFO_WRITE : Field :=
  ⟨0, 0x28, 32, 1, .ro, .fixed, 0, 0, 1, 0, 1, 0⟩

/-- Table 25.3: `GLB_ERR_INFO.KIND`, RO, class —: 1 CFG_LIVE, 2 BAD_OFFSET, 3 BAD_SIZE. -/
def GLB_ERR_INFO_KIND : Field :=
  ⟨0, 0x28, 33, 2, .ro, .fixed, 0, 0, 1, 0, 1, 0⟩

/-- Table 25.3: `GLB_INT_STATUS.BLOCKS`, RO, class —: Bit b: `<BLK>_ERR` of block b has a bit set; bit 0 for `GLB_ERR`. -/
def GLB_INT_STATUS_BLOCKS : Field :=
  ⟨0, 0x30, 0, 28, .ro, .fixed, 0, 0, 1, 0, 1, 0⟩

/-- Table 25.3: `GLB_INT_MASK.EN`, RW, class L: Bit b: bit b of `BLOCKS` may signal. -/
def GLB_INT_MASK_EN : Field :=
  ⟨0, 0x34, 0, 28, .rw, .l, 0, 0, 1, 0, 1, 0⟩

/-- Table 25.3: `GLB_INT_CFG.VECTOR`, RW, class L: Local MSI-X vector of PF0. -/
def GLB_INT_CFG_VECTOR : Field :=
  ⟨0, 0x38, 0, 11, .rw, .l, 0, 0, 1, 0, 1, 0⟩

/-- Table 25.3: `GLB_INT_CFG.EN`, RW, class L: Signal the vector. -/
def GLB_INT_CFG_EN : Field :=
  ⟨0, 0x38, 11, 1, .rw, .l, 0, 0, 1, 0, 1, 0⟩

/-- Table 25.3: `GLB_INT_CFG.HOLDOFF_US`, RW, class L: Least spacing of messages, µs, 0 to 4,095. -/
def GLB_INT_CFG_HOLDOFF_US : Field :=
  ⟨0, 0x38, 16, 12, .rw, .l, 10, 0, 1, 0, 1, 0⟩

/-- Table 25.3: `GLB_INT_ACK.ACK`, WO, class L: Re-arm signalling (R525). -/
def GLB_INT_ACK_ACK : Field :=
  ⟨0, 0x3C, 0, 1, .wo, .l, 0, 0, 1, 0, 1, 0⟩

/-- Table 25.3: `GLB_SCRATCH.DATA`, RW, class L: No effect on behaviour. -/
def GLB_SCRATCH_DATA : Field :=
  ⟨0, 0x40, 0, 32, .rw, .l, 0, 0, 1, 0, 1, 0⟩

/-- Table 26.5: `DBG_CTRL.ENABLE`, RW, class L: DBG enabled. -/
def DBG_CTRL_ENABLE : Field :=
  ⟨27, 0x0, 0, 1, .rw, .l, 0, 0, 1, 0, 1, 0⟩

/-- Table 26.5: `DBG_CTRL.OUT_EN`, RW, class L: Drive `DBG_OUT` and DBG_CLK (R533). -/
def DBG_CTRL_OUT_EN : Field :=
  ⟨27, 0x0, 1, 1, .rw, .l, 0, 0, 1, 0, 1, 0⟩

/-- Table 26.5: `DBG_CTRL.DIV`, RW, class S: DBG_CLK divider exponent, 3 to 6. -/
def DBG_CTRL_DIV : Field :=
  ⟨27, 0x0, 2, 3, .rw, .s, 6, 0, 1, 0, 1, 0⟩

/-- Table 26.5: `DBG_STATUS.LOCKED`, RO, class —: R530. Reset: Fused. -/
def DBG_STATUS_LOCKED : Field :=
  ⟨27, 0x4, 0, 1, .ro, .fixed, 0, 0, 1, 0, 1, 0⟩

/-- Table 26.5: `DBG_STATUS.SCAN`, RO, class —: A driving instruction is in force. -/
def DBG_STATUS_SCAN : Field :=
  ⟨27, 0x4, 1, 1, .ro, .fixed, 0, 0, 1, 0, 1, 0⟩

/-- Table 26.5: `DBG_STATUS.LOOPING`, RO, class —: A loopback is running. -/
def DBG_STATUS_LOOPING : Field :=
  ⟨27, 0x4, 2, 1, .ro, .fixed, 0, 0, 1, 0, 1, 0⟩

/-- Table 26.5: `DBG_ERR.SCAN_REFUSED`, W1C, class L: R528. -/
def DBG_ERR_SCAN_REFUSED : Field :=
  ⟨27, 0x8, 0, 1, .w1c, .l, 0, 0, 1, 0, 1, 0⟩

/-- Table 26.5: `DBG_ERR.LOOP_BUSY`, W1C, class L: R536. -/
def DBG_ERR_LOOP_BUSY : Field :=
  ⟨27, 0x8, 1, 1, .w1c, .l, 0, 0, 1, 0, 1, 0⟩

/-- Table 26.5: `DBG_ERR.FUSE_BUSY`, W1C, class L: R531, R536. -/
def DBG_ERR_FUSE_BUSY : Field :=
  ⟨27, 0x8, 2, 1, .w1c, .l, 0, 0, 1, 0, 1, 0⟩

/-- Table 26.5: `DBG_ERR_INFO.OPCODE`, RO, class —: Instruction of the last refusal. -/
def DBG_ERR_INFO_OPCODE : Field :=
  ⟨27, 0xC, 0, 8, .ro, .fixed, 0, 0, 1, 0, 1, 0⟩

/-- Table 26.5: `DBG_COMMIT.GEN`, WO, class L: Commit with expected generation. -/
def DBG_COMMIT_GEN : Field :=
  ⟨27, 0x10, 0, 32, .wo, .l, 0, 0, 1, 0, 1, 0⟩

/-- Table 26.5: `DBG_ACTIVE_GEN.GEN`, RO, class —: Generation in force. -/
def DBG_ACTIVE_GEN_GEN : Field :=
  ⟨27, 0x14, 0, 32, .ro, .fixed, 0, 0, 1, 0, 1, 0⟩

/-- Table 26.5: `DBG_MUX[n].SEL`, RW, class G: Signal group (R532). -/
def DBG_MUX_SEL : Field :=
  ⟨27, 0x20, 0, 12, .rw, .g, 0, 0, 2, 32, 1, 0⟩

/-- Table 26.5: `DBG_LOOP.KIND`, WO, class L: Table 26.3. -/
def DBG_LOOP_KIND : Field :=
  ⟨27, 0x28, 0, 3, .wo, .l, 0, 0, 1, 0, 1, 0⟩

/-- Table 26.5: `DBG_LOOP.TARGET`, WO, class L: Lane or channel. -/
def DBG_LOOP_TARGET : Field :=
  ⟨27, 0x28, 3, 7, .wo, .l, 0, 0, 1, 0, 1, 0⟩

/-- Table 26.5: `DBG_LOOP.MS`, WO, class L: Duration, ms, 1 to 65,535. -/
def DBG_LOOP_MS : Field :=
  ⟨27, 0x28, 10, 16, .wo, .l, 0, 0, 1, 0, 1, 0⟩

/-- Table 26.5: `DBG_LOOP_STAT.ERRORS`, RC, class —: Bit errors, saturating. -/
def DBG_LOOP_STAT_ERRORS : Field :=
  ⟨27, 0x30, 0, 32, .rc, .fixed, 0, 0, 1, 0, 1, 0⟩

/-- Table 26.5: `DBG_LOOP_STAT.STATUS`, RO, class —: STS_OK or R534 status. -/
def DBG_LOOP_STAT_STATUS : Field :=
  ⟨27, 0x30, 32, 16, .ro, .fixed, 0, 0, 1, 0, 1, 0⟩

/-- Table 26.5: `DBG_LOOP_STAT.DONE`, RO, class —: Loopback ended. -/
def DBG_LOOP_STAT_DONE : Field :=
  ⟨27, 0x30, 48, 1, .ro, .fixed, 0, 0, 1, 0, 1, 0⟩

/-- Table 26.5: `DBG_LOOP_STAT.BUSY`, RO, class —: Loopback running. -/
def DBG_LOOP_STAT_BUSY : Field :=
  ⟨27, 0x30, 49, 1, .ro, .fixed, 0, 0, 1, 0, 1, 0⟩

/-- Table 26.5: `DBG_FUSE_CMD.FIELD`, WO, class L: Table 26.2. -/
def DBG_FUSE_CMD_FIELD : Field :=
  ⟨27, 0x38, 0, 5, .wo, .l, 0, 0, 1, 0, 1, 0⟩

/-- Table 26.5: `DBG_FUSE_DATA`, WO, class L: Value to program; reads return 0. -/
def DBG_FUSE_DATA : Field :=
  ⟨27, 0x40, 0, 384, .wo, .l, 0, 0, 1, 0, 1, 0⟩

/-- Table 26.5: `DBG_FUSE_RESULT.STATUS`, RO, class —: STS_OK or R531 status. -/
def DBG_FUSE_RESULT_STATUS : Field :=
  ⟨27, 0x70, 0, 16, .ro, .fixed, 0, 0, 1, 0, 1, 0⟩

/-- Table 26.5: `DBG_FUSE_RESULT.DONE`, RO, class —: Command ended. -/
def DBG_FUSE_RESULT_DONE : Field :=
  ⟨27, 0x70, 16, 1, .ro, .fixed, 0, 0, 1, 0, 1, 0⟩

/-- Table 26.5: `DBG_FUSE_RESULT.BUSY`, RO, class —: Command running. -/
def DBG_FUSE_RESULT_BUSY : Field :=
  ⟨27, 0x70, 17, 1, .ro, .fixed, 0, 0, 1, 0, 1, 0⟩

end Fld

/-- Every field of GLB, in the order of its table. -/
def fieldsGLB : List Field := [
  Fld.GLB_ID_PART, Fld.GLB_ID_FAMILY, Fld.GLB_REV_MINOR, Fld.GLB_REV_MAJOR,
  Fld.GLB_REV_SPEED, Fld.GLB_REV_TEMP, Fld.GLB_HEAD_HEAD_ID, Fld.GLB_HEAD_ID_VALID,
  Fld.GLB_HEAD_SIDE, Fld.GLB_HEAD_BIF, Fld.GLB_STATUS_STAGE, Fld.GLB_STATUS_TOCSIN,
  Fld.GLB_STATUS_TIME_VALID, Fld.GLB_FUSE_KEY, Fld.GLB_FUSE_PUBKEY, Fld.GLB_FUSE_ROLLBACK,
  Fld.GLB_UID_UID, Fld.GLB_ERR_CFG_LIVE, Fld.GLB_ERR_BAD_OFFSET, Fld.GLB_ERR_BAD_SIZE,
  Fld.GLB_BLK_EN_MASK, Fld.GLB_ERR_INFO_OFFSET, Fld.GLB_ERR_INFO_WRITE, Fld.GLB_ERR_INFO_KIND,
  Fld.GLB_INT_STATUS_BLOCKS, Fld.GLB_INT_MASK_EN, Fld.GLB_INT_CFG_VECTOR, Fld.GLB_INT_CFG_EN,
  Fld.GLB_INT_CFG_HOLDOFF_US, Fld.GLB_INT_ACK_ACK, Fld.GLB_SCRATCH_DATA]

/-- Every field of CAR, in the order of its table. -/
def fieldsCAR : List Field := [
  Fld.CAR_SLOT_INSTANT_NS, Fld.CAR_SLOT_INSTANT_FRAC, Fld.CAR_SLOT_COORD, Fld.CAR_SLOT_LOG_LATE,
  Fld.CAR_SLOT_ARG, Fld.CAR_SLOT_PERIOD_NS, Fld.CAR_SLOT_ACTION, Fld.CAR_SLOT_BLOCK,
  Fld.CAR_SLOT_TRIGGER, Fld.CAR_SLOT_RING, Fld.CAR_SLOT_FIRE_COUNT, Fld.CAR_SLOT_MISSED,
  Fld.CAR_SLOT_STATE, Fld.CAR_CTRL_ENABLE, Fld.CAR_CTRL_SOURCE, Fld.CAR_CTRL_PTP_PORT,
  Fld.CAR_CTRL_BACKUP_PORT, Fld.CAR_CTRL_BACKUP_EN, Fld.CAR_CTRL_DOMAIN, Fld.CAR_CTRL_TRANSPORT,
  Fld.CAR_CTRL_P2P, Fld.CAR_CTRL_DELAY_REQ_LOG, Fld.CAR_CTRL_UTC_FROM_PTP, Fld.CAR_CTRL_EPS_ALARM,
  Fld.CAR_STATUS_STATE, Fld.CAR_STATUS_EPS_OVER, Fld.CAR_STATUS_PORT_ACTIVE, Fld.CAR_STATUS_ON_BACKUP,
  Fld.CAR_STATUS_PPS_SEEN, Fld.CAR_STATUS_LEAP_PENDING, Fld.CAR_NOW_NS_LO, Fld.CAR_NOW_NS_HI,
  Fld.CAR_NOW_FRAC_FRAC, Fld.CAR_NOW_EPS, Fld.CAR_EPS, Fld.CAR_EPS_BOUND_BOUND,
  Fld.CAR_DRIFT_BOUND_RHO, Fld.CAR_ASYM_ASYM_NS, Fld.CAR_ASYM_GM_EPS_NS, Fld.CAR_EPOCH_TAI_SEC,
  Fld.CAR_EPOCH_TAI_NS, Fld.CAR_UTC_UTC_OFFSET, Fld.CAR_UTC_LEAP61, Fld.CAR_UTC_LEAP59,
  Fld.CAR_SERVO_KP, Fld.CAR_SERVO_KI, Fld.CAR_PPS_IN_EN, Fld.CAR_PPS_IN_EDGE,
  Fld.CAR_PPS_OUT_EN, Fld.CAR_PPS_OUT_PERIOD, Fld.CAR_PPS_OUT_WIDTH, Fld.CAR_LATE_THRESH_NS,
  Fld.CAR_SLOT_ARM_SLOT, Fld.CAR_SLOT_DISARM_SLOT, Fld.CAR_ERR_SLOT_LIVE, Fld.CAR_ERR_SLOT_BAD,
  Fld.CAR_ERR_SLOT_RSVD, Fld.CAR_ERR_EPS_REFUSED, Fld.CAR_ERR_TARGET_OFF, Fld.CAR_ERR_SOURCE_LOST,
  Fld.CAR_LAST_THETA_THETA, Fld.CAR_COMMIT_GEN, Fld.CAR_ACTIVE_GEN_GEN, Fld.CAR_PORT_LAT_RX,
  Fld.CAR_PORT_LAT_TX, Fld.CAR_FLAG_FLAG]

/-- Every field of HRI, in the order of its table. -/
def fieldsHRI : List Field := [
  Fld.HRI_CTRL_ENABLE, Fld.HRI_STATUS_LINK_UP, Fld.HRI_STATUS_BIF, Fld.HRI_STATUS_WIDTH0,
  Fld.HRI_STATUS_SPEED0, Fld.HRI_STATUS_FLIT0, Fld.HRI_STATUS_WIDTH1, Fld.HRI_STATUS_SPEED1,
  Fld.HRI_STATUS_FLIT1, Fld.HRI_ERR_DB_BAD, Fld.HRI_ERR_FETCH_FAIL, Fld.HRI_ERR_SB_FAIL,
  Fld.HRI_ERR_RING_CFG, Fld.HRI_ERR_NO_WINDOW, Fld.HRI_ERR_EVQ_OVF, Fld.HRI_ERR_RING_RING,
  Fld.HRI_RESYNC_RING, Fld.HRI_RING_RELEASE_RING, Fld.HRI_COMMIT_GEN, Fld.HRI_ACTIVE_GEN_GEN,
  Fld.HRI_FN_RINGS_BASE, Fld.HRI_FN_RINGS_COUNT, Fld.HRI_FN_MSIX_BASE, Fld.HRI_FN_MSIX_COUNT,
  Fld.HRI_FN_TENANT_TENANT, Fld.HRI_FN_EVQ_CFG_ENABLE, Fld.HRI_FN_EVQ_CFG_GLOBAL, Fld.HRI_FN_EVQ_CFG_LOG2,
  Fld.HRI_FN_EVQ_CFG_VECTOR, Fld.HRI_FN_EVQ_ADDR_ADDR, Fld.HRI_FN_EVQ_LOST_COUNT, Fld.HRI_RING_SQ_ADDR_ADDR,
  Fld.HRI_RING_CQ_ADDR_ADDR, Fld.HRI_RING_SB_ADDR_ADDR, Fld.HRI_RING_RS_ADDR_ADDR, Fld.HRI_RING_CFG_ENABLE,
  Fld.HRI_RING_CFG_KEEP_REPLAY, Fld.HRI_RING_CFG_SQ_LOG2, Fld.HRI_RING_CFG_CQ_LOG2, Fld.HRI_RING_CFG_VECTOR,
  Fld.HRI_RING_CFG_COAL_CNT, Fld.HRI_RING_CFG_COAL_US, Fld.HRI_RING_CFG_IRQ_EN, Fld.HRI_RING_SEQ_BASE_SEQ,
  Fld.HRI_RING_STATE_STATE, Fld.HRI_RING_STATE_KEPT, Fld.HRI_RING_EVDROP_COUNT, Fld.HRI_RING_ARB_PRIO,
  Fld.HRI_RING_ARB_WEIGHT]

/-- Every field of NET, in the order of its table. -/
def fieldsNET : List Field := [
  Fld.NET_CTRL_ENABLE, Fld.NET_STATUS_PORT_UP, Fld.NET_ERR_LINK_DOWN, Fld.NET_ERR_TCP_FULL,
  Fld.NET_ERR_PFC_STORM, Fld.NET_ERR_OVERSIZE, Fld.NET_ERR_PORT_PORT, Fld.NET_COMMIT_GEN,
  Fld.NET_ACTIVE_GEN_GEN, Fld.NET_OCTET_MODE_MODE, Fld.NET_TCP_CFG_MAX_CONN, Fld.NET_TCP_CFG_SACK,
  Fld.NET_TCP_CFG_TSOPT, Fld.NET_TCP_CFG_WSCALE, Fld.NET_TCP_RTO_RTO_MIN_US, Fld.NET_TCP_RTO_RTO_MAX_MS,
  Fld.NET_TCP_CONN_IN_USE, Fld.NET_PORT_CFG_ENABLE, Fld.NET_PORT_CFG_AN, Fld.NET_PORT_CFG_MTU,
  Fld.NET_PORT_CFG_MAC, Fld.NET_PORT_STATUS_UP, Fld.NET_PORT_STATUS_AN_DONE, Fld.NET_PORT_STATUS_PAUSED,
  Fld.NET_PORT_STATUS_FEC_UNCORR, Fld.NET_PFC_EN_MASK, Fld.NET_PFC_XOFF_KIB, Fld.NET_PFC_HEADROOM_KIB,
  Fld.NET_PFC_WDOG_US, Fld.NET_ETS_MAP_PRIO_TC, Fld.NET_ETS_BW_BW, Fld.NET_ETS_BW_STRICT,
  Fld.NET_ECN_TCP_ECN, Fld.NET_ECN_ROCE_ECT, Fld.NET_ECN_CE_COUNT, Fld.NET_IP_ADDR,
  Fld.NET_IP_CFG_PORT, Fld.NET_IP_CFG_HOME_SIDE, Fld.NET_IP_CFG_VALID, Fld.NET_IP_CFG_PREFIX]

/-- Every field of NVF, in the order of its table. -/
def fieldsNVF : List Field := [
  Fld.NVF_CTRL_ENABLE, Fld.NVF_STATUS_ACCEPTING, Fld.NVF_STATUS_FWD_UP, Fld.NVF_ERR_CONN_REFUSED,
  Fld.NVF_ERR_FWD_HELD, Fld.NVF_ERR_KATO_EXPIRED, Fld.NVF_ERR_DIGEST, Fld.NVF_ERR_UNSOLICITED,
  Fld.NVF_COMMIT_GEN, Fld.NVF_ACTIVE_GEN_GEN, Fld.NVF_LIMITS_MAX_ASSOC, Fld.NVF_LIMITS_MAX_IOQ,
  Fld.NVF_LIMITS_QSIZE_LOG2, Fld.NVF_TCP_OPT_HDGST, Fld.NVF_TCP_OPT_DDGST, Fld.NVF_TCP_OPT_ICD_KIB,
  Fld.NVF_TCP_OPT_MAXH2C_KIB, Fld.NVF_ANA_CFG_ANATT_S, Fld.NVF_ANA_CFG_ANA_AEN, Fld.NVF_ASSOC_COUNT_COUNT,
  Fld.NVF_DEFERRED_COUNT_COUNT, Fld.NVF_SUBNQN_NQN, Fld.NVF_LISTEN_IP, Fld.NVF_LISTEN_PORT,
  Fld.NVF_LISTEN_TRANSPORT, Fld.NVF_LISTEN_DISCOVERY, Fld.NVF_ANA_GRP_STATE]

/-- Every field of RDM, in the order of its table. -/
def fieldsRDM : List Field := [
  Fld.RDM_WIN_STAGE_BASE_VA, Fld.RDM_WIN_STAGE_LENGTH, Fld.RDM_WIN_STAGE_QP, Fld.RDM_WIN_STAGE_QP_BIND,
  Fld.RDM_WIN_STAGE_RD, Fld.RDM_WIN_STAGE_WR, Fld.RDM_WIN_STAGE_IMM, Fld.RDM_WIN_STAGE_PAGEABLE,
  Fld.RDM_WIN_STAGE_CONSUMER, Fld.RDM_WIN_STAGE_TENANT, Fld.RDM_WIN_STAGE_DEADLINE_US, Fld.RDM_WIN_STAGE_GEN,
  Fld.RDM_WIN_STAGE_STATE, Fld.RDM_WIN_STAGE_OUTSTANDING, Fld.RDM_WIN_STAGE_REFUSED, Fld.RDM_CTRL_ENABLE,
  Fld.RDM_CTRL_CC_EN, Fld.RDM_STATUS_ENG_UP, Fld.RDM_ERR_RETRY_EXC, Fld.RDM_ERR_REVOKE_TMO,
  Fld.RDM_ERR_WIN_BUSY, Fld.RDM_ERR_ODP_OVF, Fld.RDM_ERR_QP_QP, Fld.RDM_COMMIT_GEN,
  Fld.RDM_ACTIVE_GEN_GEN, Fld.RDM_CFG_PRIO, Fld.RDM_CFG_DSCP, Fld.RDM_CFG_PMTU_MAX,
  Fld.RDM_LIMITS_MAX_QP, Fld.RDM_LIMITS_WIN_LOG2, Fld.RDM_QP_TIMER_ACK_TIMEOUT, Fld.RDM_QP_TIMER_RETRY_CNT,
  Fld.RDM_RNR_RNR_RETRY, Fld.RDM_RNR_MIN_RNR_TIMER, Fld.RDM_CC0_TARGET_US, Fld.RDM_CC0_GAIN,
  Fld.RDM_CC1_AI_STEP, Fld.RDM_CC1_MIN_RATE, Fld.RDM_CC2_PROBE_US, Fld.RDM_CC2_INIT_RATE,
  Fld.RDM_WIN_CMD_INDEX, Fld.RDM_WIN_CMD_OP, Fld.RDM_WIN_RESULT_INDEX, Fld.RDM_WIN_RESULT_DONE,
  Fld.RDM_WIN_RESULT_BUSY, Fld.RDM_WIN_RESULT_TIMEOUT, Fld.RDM_WIN_RESULT_STATUS, Fld.RDM_WIN_RESULT_GEN,
  Fld.RDM_QP_INUSE_COUNT, Fld.RDM_WIN_OPEN_COUNT_COUNT, Fld.RDM_ODP_FAULTS_COUNT, Fld.RDM_REVOKE_TMO_US,
  Fld.RDM_ENG_STAT_WTC_HIT, Fld.RDM_ENG_STAT_WTC_MISS, Fld.RDM_ENG_STAT_NAK_SEQ, Fld.RDM_ENG_STAT_RNR_SENT,
  Fld.RDM_ENG_STAT_RETRANS, Fld.RDM_ENG_STAT_ACC_NAK]

/-- Every field of POL, in the order of its table. -/
def fieldsPOL : List Field := [
  Fld.POL_CTRL_ENABLE, Fld.POL_STATUS_ACTIVE, Fld.POL_ERR_DOUBLE_FREE, Fld.POL_ERR_BAD_FREE,
  Fld.POL_ERR_WAIT_FULL, Fld.POL_ERR_INFO_INDEX, Fld.POL_ERR_INFO_POOL, Fld.POL_ERR_INFO_OWNER,
  Fld.POL_ERR_INFO_BLOCK, Fld.POL_COMMIT_GEN, Fld.POL_ACTIVE_GEN_GEN, Fld.POL_REGION_BASE,
  Fld.POL_REGION_SIZE, Fld.POL_OP_OP, Fld.POL_OP_POOL, Fld.POL_OP_OWNER,
  Fld.POL_OP_ADDR_INDEX, Fld.POL_OP_RESULT_STATUS, Fld.POL_OP_RESULT_BUSY, Fld.POL_DF_COUNT_COUNT,
  Fld.POL_POOL_CFG_ENABLE, Fld.POL_POOL_CFG_SIZE, Fld.POL_POOL_CFG_COUNT, Fld.POL_POOL_BASE_BASE,
  Fld.POL_POOL_STAT_FREE, Fld.POL_POOL_STAT_STATE, Fld.POL_POOL_STAT_WAITING, Fld.POL_OWNER_CFG_KIND,
  Fld.POL_OWNER_CFG_TENANT, Fld.POL_LIMIT_MIN, Fld.POL_LIMIT_MAX, Fld.POL_HELD_HELD]

/-- Every field of PJM, in the order of its table. -/
def fieldsPJM : List Field := [
  Fld.PJM_CTRL_ENABLE, Fld.PJM_STATUS_CH_OK, Fld.PJM_STATUS_MIRROR_IN, Fld.PJM_STATUS_MIRROR_HELD,
  Fld.PJM_STATUS_JOURNAL_OPEN, Fld.PJM_ERR_CH_FAIL, Fld.PJM_ERR_UE, Fld.PJM_ERR_LOG_FULL,
  Fld.PJM_ERR_BAD_TYPE, Fld.PJM_ERR_HELD, Fld.PJM_ERR_INFO_CHANNEL, Fld.PJM_ERR_INFO_ADDR64,
  Fld.PJM_COMMIT_GEN, Fld.PJM_ACTIVE_GEN_GEN, Fld.PJM_TIMING_RATE, Fld.PJM_TIMING_PERSIST_NS,
  Fld.PJM_LAYOUT_LOG_MIB, Fld.PJM_JCFG_THRESH_4K, Fld.PJM_JCFG_FULL_PCT, Fld.PJM_CH_CMD_CHANNEL,
  Fld.PJM_JSEQ_NEXT, Fld.PJM_LOG_USED_MIB, Fld.PJM_CH_STATUS_STATE, Fld.PJM_CH_STATUS_SIZE_MIB,
  Fld.PJM_CH_STATUS_LIVE_KIB, Fld.PJM_CH_ECC_CE, Fld.PJM_CH_ECC_UE]

/-- Every field of ISL, in the order of its table. -/
def fieldsISL : List Field := [
  Fld.ISL_CTRL_ENABLE, Fld.ISL_STATUS_STATE, Fld.ISL_STATUS_SUSPECT, Fld.ISL_STATUS_QUADS_UP,
  Fld.ISL_ERR_LINK_DOWN, Fld.ISL_ERR_RETRY_EXC, Fld.ISL_ERR_SUSPECT, Fld.ISL_ERR_LAYOUT,
  Fld.ISL_ERR_CATCHUP_FAIL, Fld.ISL_COMMIT_GEN, Fld.ISL_ACTIVE_GEN_GEN, Fld.ISL_CFG_DOWN_US,
  Fld.ISL_CFG_SUSPECT_MISS, Fld.ISL_CFG_RETRY_MAX, Fld.ISL_CFG_MIN_QUADS, Fld.ISL_VC_WEIGHT_W2,
  Fld.ISL_VC_WEIGHT_W3, Fld.ISL_PEER_HEAD, Fld.ISL_PEER_DSEQ, Fld.ISL_PEER_CH_OK,
  Fld.ISL_PEER_MIRROR_READY, Fld.ISL_PEER_FENCED, Fld.ISL_RETRY_COUNT, Fld.ISL_DRUM_MISSED_COUNT]

/-- Every field of DDP, in the order of its table. -/
def fieldsDDP : List Field := [
  Fld.DDP_CTRL_ENABLE, Fld.DDP_CTRL_VERIFY, Fld.DDP_CTRL_ZERO_DETECT, Fld.DDP_STATUS_HALVES,
  Fld.DDP_STATUS_REPLAYING, Fld.DDP_ERR_VERIFY_MISMATCH, Fld.DDP_ERR_PAGE_FULL, Fld.DDP_ERR_DEFER_DROP,
  Fld.DDP_ERR_REF_SAT, Fld.DDP_ERR_PIN_FULL, Fld.DDP_COMMIT_GEN, Fld.DDP_ACTIVE_GEN_GEN,
  Fld.DDP_CFG_INLINE_NS, Fld.DDP_IDX_CFG_PAGES_LOG2, Fld.DDP_IDX_CFG_ICACHE_LOG2, Fld.DDP_IDX_CFG_DEFER_LOG2,
  Fld.DDP_FILTER_BASE_ADDR, Fld.DDP_ICACHE_BASE_ADDR, Fld.DDP_DEFER_BASE_ADDR, Fld.DDP_STAT_INLINE_COUNT,
  Fld.DDP_STAT_NEW_COUNT, Fld.DDP_STAT_DEFER_MATCH_COUNT, Fld.DDP_STAT_ZERO_COUNT, Fld.DDP_DEFER_DROP_COUNT,
  Fld.DDP_DEFER_DEPTH_COUNT, Fld.DDP_VERIFY_MISMATCH_COUNT, Fld.DDP_PINS_COUNT]

/-- Every field of CMP, in the order of its table. -/
def fieldsCMP : List Field := [
  Fld.CMP_CTRL_ENABLE, Fld.CMP_STATUS_CLUSTER_UP, Fld.CMP_ERR_CRC_FAIL, Fld.CMP_ERR_STREAM_INVALID,
  Fld.CMP_COMMIT_GEN, Fld.CMP_ACTIVE_GEN_GEN, Fld.CMP_DP_CFG_FORMAT, Fld.CMP_DP_CFG_LEVEL,
  Fld.CMP_DP_CFG_MIN_SAVE_64, Fld.CMP_SHARE_OFFLOAD_MASK, Fld.CMP_STAT_IN_BYTES, Fld.CMP_STAT_OUT_BYTES,
  Fld.CMP_STAT_RAW_COUNT, Fld.CMP_CRC_FAIL_COUNT, Fld.CMP_JOBS_WAITING_COUNT]

/-- Every field of CIP, in the order of its table. -/
def fieldsCIP : List Field := [
  Fld.CIP_CTRL_ENABLE, Fld.CIP_STATUS_PIPE_UP, Fld.CIP_ERR_UNWRAP_FAIL, Fld.CIP_ERR_STORE_FAIL,
  Fld.CIP_ERR_CMD_BUSY, Fld.CIP_ERR_FUSE_BLANK, Fld.CIP_ERR_INFO_SLOT, Fld.CIP_COMMIT_GEN,
  Fld.CIP_ACTIVE_GEN_GEN, Fld.CIP_PRIO_WRITE_ENC, Fld.CIP_PRIO_READ_DEC, Fld.CIP_PRIO_CONTROL,
  Fld.CIP_PRIO_OFFLOAD_MAX, Fld.CIP_KEY_CMD_OP, Fld.CIP_KEY_CMD_TARGET, Fld.CIP_KEY_CMD_KEK,
  Fld.CIP_KEY_CMD_FORMAT, Fld.CIP_KEY_CMD_BLOB_LEN, Fld.CIP_KEY_RESULT_STATUS, Fld.CIP_KEY_RESULT_DONE,
  Fld.CIP_KEY_RESULT_BUSY, Fld.CIP_KEY_BLOB, Fld.CIP_KEY_STORE_ADDR, Fld.CIP_SLOTS_LOADED_COUNT,
  Fld.CIP_KCACHE_HIT_COUNT, Fld.CIP_KCACHE_MISS_COUNT, Fld.CIP_AUTH_FAIL_COUNT, Fld.CIP_SUSPENDS_COUNT,
  Fld.CIP_KEK_STATE_STATE, Fld.CIP_KEK_STATE_KIND, Fld.CIP_KEK_STATE_TENANT, Fld.CIP_SLOT_STATE_STATE,
  Fld.CIP_SLOT_STATE_KIND, Fld.CIP_SLOT_STATE_USAGE, Fld.CIP_SLOT_STATE_BOUND, Fld.CIP_SLOT_STATE_TENANT]

/-- Every field of MAP, in the order of its table. -/
def fieldsMAP : List Field := [
  Fld.MAP_CTRL_ENABLE, Fld.MAP_CTRL_CAP_ALARM, Fld.MAP_STATUS_STATE, Fld.MAP_STATUS_CKPT_ACTIVE,
  Fld.MAP_STATUS_MERGING, Fld.MAP_ERR_CKPT_LATE, Fld.MAP_ERR_CACHE_FULL, Fld.MAP_ERR_PAGE_REBUILT,
  Fld.MAP_ERR_DIR_FAIL, Fld.MAP_ERR_TORN, Fld.MAP_ERR_INFO_PG, Fld.MAP_ERR_INFO_OSET,
  Fld.MAP_COMMIT_GEN, Fld.MAP_ACTIVE_GEN_GEN, Fld.MAP_CKPT_INTERVAL_MS, Fld.MAP_CKPT_MIB,
  Fld.MAP_CKPT_CMD_START, Fld.MAP_CACHE_BASE_ADDR, Fld.MAP_CACHE_CFG_PAGES_LOG2, Fld.MAP_CACHE_CFG_DIRTY_PCT,
  Fld.MAP_DIR_CFG_BLOCKS, Fld.MAP_CKPT_GEN_GEN, Fld.MAP_CKPT_LAST_NS, Fld.MAP_DELTA_PENDING_MIB,
  Fld.MAP_DIRTY_PAGES_COUNT, Fld.MAP_RECOVERY_US_US, Fld.MAP_STAT_FETCH_COUNT]

/-- Every field of MDC, in the order of its table. -/
def fieldsMDC : List Field := [
  Fld.MDC_CTRL_ENABLE, Fld.MDC_STATUS_READY, Fld.MDC_ERR_UE_CLEAN, Fld.MDC_ERR_UE_DIRTY,
  Fld.MDC_ERR_GROUP_CMD, Fld.MDC_COMMIT_GEN, Fld.MDC_ACTIVE_GEN_GEN, Fld.MDC_WAYGRP_CMD_GROUP,
  Fld.MDC_WAYGRP_CMD_OP, Fld.MDC_WAYGRP_STATE_STATE, Fld.MDC_REGION_BASE, Fld.MDC_REGION_SIZE_MIB,
  Fld.MDC_REGION_VALID, Fld.MDC_REGION_STREAM, Fld.MDC_STAT_HIT_COUNT, Fld.MDC_STAT_MISS_COUNT,
  Fld.MDC_STAT_WB_COUNT, Fld.MDC_ECC_CE, Fld.MDC_ECC_UE]

/-- Every field of FLC, in the order of its table. -/
def fieldsFLC : List Field := [
  Fld.FLC_CTRL_ENABLE, Fld.FLC_STATUS_GRP_DRIVEN, Fld.FLC_STATUS_READY, Fld.FLC_ERR_GEOMETRY,
  Fld.FLC_ERR_TRAIN_FAIL, Fld.FLC_ERR_PROG_FAIL, Fld.FLC_ERR_ERASE_FAIL, Fld.FLC_ERR_READ_FAIL,
  Fld.FLC_ERR_GROUP_LOST, Fld.FLC_ERR_SLC_SHORT, Fld.FLC_ERR_SPARE_LOW, Fld.FLC_ERR_READ_ONLY,
  Fld.FLC_ERR_INFO_CH, Fld.FLC_ERR_INFO_VOL, Fld.FLC_ERR_INFO_LUN, Fld.FLC_ERR_INFO_PLANE,
  Fld.FLC_ERR_INFO_BLOCK, Fld.FLC_ERR_INFO_PG, Fld.FLC_COMMIT_GEN, Fld.FLC_ACTIVE_GEN_GEN,
  Fld.FLC_IF_CFG_RATE, Fld.FLC_IF_CFG_RPT_CYC, Fld.FLC_IF_CFG_ODT, Fld.FLC_IF_CFG_MARGIN_PS,
  Fld.FLC_LDPC_CFG_PARITY, Fld.FLC_RETRY_CFG_RETRY_N, Fld.FLC_RETRY_CFG_SOFT_EN, Fld.FLC_RETRY_CFG_SOFT_DELTA,
  Fld.FLC_TRACK_CFG_TRACK_BITS, Fld.FLC_TRACK_CFG_FAMILY_MIN, Fld.FLC_TRACK_CFG_SWEEP_H, Fld.FLC_SLC_CFG_SLC_PCT,
  Fld.FLC_SLC_CFG_FOLD_START, Fld.FLC_SLC_CFG_SLC_LOW, Fld.FLC_SLC_CFG_SLC_MIN, Fld.FLC_WEAR_CFG_PE_MAX,
  Fld.FLC_WEAR_CFG_WL_DELTA, Fld.FLC_REFRESH_CFG_RETENTION_D, Fld.FLC_REFRESH_CFG_RD_LIMIT, Fld.FLC_SPARE_CFG_SPARE_PM,
  Fld.FLC_SPARE_CFG_SPARE_LOW_PCT, Fld.FLC_SPARE_CFG_ALARM, Fld.FLC_GEOM_CELL, Fld.FLC_GEOM_PLANES,
  Fld.FLC_GEOM_BLOCKS, Fld.FLC_GEOM_PAGES, Fld.FLC_GEOM_SPARE, Fld.FLC_GEOM_LUNS,
  Fld.FLC_GEOM_VOLUMES, Fld.FLC_PG_SEL_PG, Fld.FLC_PG_MEDIA_STATE, Fld.FLC_PG_MEDIA_FREE_BLOCKS,
  Fld.FLC_PG_MEDIA_SPARES, Fld.FLC_STAT_RETRY_COUNT, Fld.FLC_STAT_SOFT_COUNT, Fld.FLC_STAT_SOFT_FAIL_COUNT,
  Fld.FLC_STAT_RETIRED_COUNT, Fld.FLC_SLC_FREE_PCT, Fld.FLC_CH_STATUS_STATE, Fld.FLC_CH_STATUS_RATE,
  Fld.FLC_CH_STATUS_RESETS, Fld.FLC_CH_STATUS_MARGIN_PS, Fld.FLC_CH_ECC_HARD_FAIL, Fld.FLC_CH_ECC_BITS_CORR,
  Fld.FLC_GRP_STATUS_CLAIM_OUT, Fld.FLC_GRP_STATUS_CLAIM_IN, Fld.FLC_GRP_STATUS_LEASE_RUN, Fld.FLC_GRP_STATUS_DRIVEN,
  Fld.FLC_GRP_STATUS_TAKING_UP]

/-- Every field of STR, in the order of its table. -/
def fieldsSTR : List Field := [
  Fld.STR_CTRL_ENABLE, Fld.STR_CTRL_PATROL_EN, Fld.STR_CTRL_REBUILD_EN, Fld.STR_CTRL_LOST_ALARM,
  Fld.STR_STATUS_PATROLLING, Fld.STR_STATUS_REBUILDING, Fld.STR_STATUS_DEGRADED, Fld.STR_ERR_PROG_FAIL_DATA,
  Fld.STR_ERR_PROG_FAIL_PARITY, Fld.STR_ERR_STRIPE_LOST, Fld.STR_ERR_PATROL_MISMATCH, Fld.STR_ERR_SPAN_TIMEOUT,
  Fld.STR_ERR_LOST_FULL, Fld.STR_ERR_INFO_STRIPE_ID, Fld.STR_COMMIT_GEN, Fld.STR_ACTIVE_GEN_GEN,
  Fld.STR_PATROL_PASS_DAYS, Fld.STR_PATROL_MAX_GBPS, Fld.STR_PATROL_LOOP, Fld.STR_PATROL_PROGRESS_PCT,
  Fld.STR_PATROL_PROGRESS_PASSES, Fld.STR_REBUILD_MAX_GBPS, Fld.STR_REBUILD_SHARE_PCT, Fld.STR_REBUILD_FULL_AT_ZERO,
  Fld.STR_REBUILD_STATUS_REMAIN_GIB, Fld.STR_SPAN_CFG_ACK_TMO_US, Fld.STR_SPAN_CFG_RETRIES, Fld.STR_LOST_COUNT_COUNT,
  Fld.STR_LOST_MAX_COUNT, Fld.STR_STAT_RECON_COUNT, Fld.STR_STAT_PATROL_FIXED_COUNT, Fld.STR_STAT_MISMATCH_COUNT,
  Fld.STR_PG_SEL_PG, Fld.STR_PG_GEOM_D, Fld.STR_PG_GEOM_P, Fld.STR_PG_INFO_OPEN,
  Fld.STR_PG_INFO_DEGRADED, Fld.STR_PG_INFO_LOST]

/-- Every field of GCX, in the order of its table. -/
def fieldsGCX : List Field := [
  Fld.GCX_CTRL_ENABLE, Fld.GCX_CTRL_SCORE_EN, Fld.GCX_STATUS_ACTIVE, Fld.GCX_STATUS_SWEEPING,
  Fld.GCX_STATUS_RESCORING, Fld.GCX_ERR_TABLE_FULL, Fld.GCX_ERR_NO_HEADROOM, Fld.GCX_ERR_ERASE_FAIL,
  Fld.GCX_ERR_INFO_PG, Fld.GCX_COMMIT_GEN, Fld.GCX_ACTIVE_GEN_GEN, Fld.GCX_SCORE0_W_V,
  Fld.GCX_SCORE0_W_A, Fld.GCX_SCORE1_W_W, Fld.GCX_SCORE1_AGE_SAT_H, Fld.GCX_SCORE2_U_MAX,
  Fld.GCX_PACE_LOOP, Fld.GCX_PACE_FREE_TARGET_PCT, Fld.GCX_PACE_URGENT_PCT, Fld.GCX_PACE_MAX_GBPS,
  Fld.GCX_SWEEP_TABLE_LOG2, Fld.GCX_TABLE_BASE_ADDR, Fld.GCX_TABLE_USED_COUNT, Fld.GCX_PG_SEL_PG,
  Fld.GCX_PG_CFG_HEADROOM_BANDS, Fld.GCX_PG_INFO_FREE_PCT, Fld.GCX_PG_INFO_HELD, Fld.GCX_PG_INFO_RATE_MBPS,
  Fld.GCX_STAT_RELOC_BYTES, Fld.GCX_STAT_FREED_COUNT, Fld.GCX_STAT_DEAD_COPY_COUNT, Fld.GCX_SWEEP_PASSES_COUNT]

/-- Every field of KVS, in the order of its table. -/
def fieldsKVS : List Field := [
  Fld.KVS_CTRL_ENABLE, Fld.KVS_CTRL_BAL_EN, Fld.KVS_CTRL_CARAVAN_IN, Fld.KVS_STATUS_EPOCH_SYNCED,
  Fld.KVS_STATUS_OUT_PHASE, Fld.KVS_STATUS_IN_PHASE, Fld.KVS_ERR_SLOT_BUSY, Fld.KVS_ERR_HOLD_EXPIRED,
  Fld.KVS_ERR_EPOCH_FETCH, Fld.KVS_ERR_CARAVAN_ABORT, Fld.KVS_ERR_ASET_EMPTY, Fld.KVS_ERR_INFO_SESSION,
  Fld.KVS_COMMIT_GEN, Fld.KVS_ACTIVE_GEN_GEN, Fld.KVS_LIMITS_MAX_SESS, Fld.KVS_LIMITS_KEEP_S,
  Fld.KVS_ENORE_PORT, Fld.KVS_ENORE_IDLE_S, Fld.KVS_EPOCH_EPOCH, Fld.KVS_BUCKET_BASE_ADDR,
  Fld.KVS_PGMAP_BASE_ADDR, Fld.KVS_HEAT_BASE_ADDR, Fld.KVS_ASET_BASE_ADDR, Fld.KVS_AUTH_A0,
  Fld.KVS_AUTH_A1, Fld.KVS_AUTH_A2, Fld.KVS_BAL_SKEW_PCT, Fld.KVS_BAL_HEAT_PCT,
  Fld.KVS_BAL_MIG_GBPS, Fld.KVS_BAL_MAX_BUCKETS, Fld.KVS_CARAVAN_LEAD_MS, Fld.KVS_CARAVAN_DELTA_MIB,
  Fld.KVS_CARAVAN_HOLD_US, Fld.KVS_CARAVAN_STATE_PEER, Fld.KVS_CARAVAN_STATE_BUCKETS, Fld.KVS_CARAVAN_STATE_EPOCH,
  Fld.KVS_SESSIONS_COUNT, Fld.KVS_STAT_MOVED_COUNT, Fld.KVS_STAT_FWD_COUNT, Fld.KVS_NS_SEL_NSID,
  Fld.KVS_NS_CFG_SCOPE, Fld.KVS_NS_CFG_CLASS, Fld.KVS_NS_CFG_HASH_LEN, Fld.KVS_NS_CFG_K,
  Fld.KVS_NS_CFG_M, Fld.KVS_NS_CFG_NSET, Fld.KVS_SPAN_SET_ARRAY]

/-- Every field of MTE, in the order of its table. -/
def fieldsMTE : List Field := [
  Fld.MTE_CTRL_ENABLE, Fld.MTE_STATUS_BANK_UP, Fld.MTE_STATUS_UPD_FULL, Fld.MTE_ERR_BULK_LIVE,
  Fld.MTE_ERR_POWER_LIVE, Fld.MTE_ERR_UPD_BUSY, Fld.MTE_ERR_BULK_SRC, Fld.MTE_ERR_INFO_INDEX,
  Fld.MTE_COMMIT_GEN, Fld.MTE_ACTIVE_GEN_GEN, Fld.MTE_BANK_CMD_BANK, Fld.MTE_BANK_CMD_OP,
  Fld.MTE_BANK_STATE_STATE, Fld.MTE_STAT_SEARCH_COUNT, Fld.MTE_STAT_MULTI_COUNT, Fld.MTE_STAT_UPD_COUNT,
  Fld.MTE_ENTRY_STAGE, Fld.MTE_UPD_CMD_INDEX, Fld.MTE_UPD_CMD_OP, Fld.MTE_UPD_RESULT_DONE,
  Fld.MTE_UPD_RESULT_BUSY, Fld.MTE_BULK_SRC_ADDR, Fld.MTE_BULK_CMD_BANK, Fld.MTE_BULK_CMD_FIRST,
  Fld.MTE_BULK_CMD_COUNT, Fld.MTE_SEARCH_KEY_KEY, Fld.MTE_SEARCH_CMD_TABLE, Fld.MTE_SEARCH_RESULT_HIT,
  Fld.MTE_SEARCH_RESULT_MULTI, Fld.MTE_SEARCH_RESULT_TIE, Fld.MTE_SEARCH_RESULT_OFF, Fld.MTE_SEARCH_RESULT_DONE,
  Fld.MTE_SEARCH_RESULT_INDEX, Fld.MTE_SEARCH_RESULT_PRIO, Fld.MTE_SEARCH_RESULT_RESULT, Fld.MTE_TBL_CFG_ENABLE,
  Fld.MTE_TBL_CFG_FIRST_SEG, Fld.MTE_TBL_CFG_NSEG, Fld.MTE_TBL_CFG_CONSUMER, Fld.MTE_TBL_CFG_WEIGHT,
  Fld.MTE_TBL_DEFAULT_RESULT]

/-- Every field of OWN, in the order of its table. -/
def fieldsOWN : List Field := [
  Fld.OWN_CTRL_ENABLE, Fld.OWN_CTRL_TAKE_EN, Fld.OWN_CTRL_RETURN_EN, Fld.OWN_CTRL_DEGRADED_HANDOFF,
  Fld.OWN_CTRL_DRILL_ALARM, Fld.OWN_CTRL_SELF_FENCE_ALARM, Fld.OWN_STATUS_LEASE, Fld.OWN_STATUS_FENCE_IN,
  Fld.OWN_STATUS_FENCE_OUT, Fld.OWN_STATUS_FENCE_PULSE, Fld.OWN_STATUS_DEGRADED, Fld.OWN_STATUS_CHAIN_A,
  Fld.OWN_STATUS_CHAIN_B, Fld.OWN_STATUS_IK_OK, Fld.OWN_ERR_SELF_FENCE, Fld.OWN_ERR_CLAIM_CONFLICT,
  Fld.OWN_ERR_RENEW_FAIL, Fld.OWN_ERR_MAC_FAIL, Fld.OWN_ERR_DRILL_FAIL, Fld.OWN_ERR_DRILL_SKIPPED,
  Fld.OWN_ERR_FENCED, Fld.OWN_ERR_IK_LOST, Fld.OWN_ERR_TAKE_REFUSED, Fld.OWN_ERR_INFO_GROUP,
  Fld.OWN_ERR_INFO_INNKEEPER, Fld.OWN_ERR_INFO_OSET, Fld.OWN_COMMIT_GEN, Fld.OWN_ACTIVE_GEN_GEN,
  Fld.OWN_LEASE_LEASE_US, Fld.OWN_LEASE_RETURN_HOLD_S, Fld.OWN_KEY_SLOT, Fld.OWN_LGEN_LGEN,
  Fld.OWN_AGEN_AGEN, Fld.OWN_EXPIRY_NS, Fld.OWN_RTT_NS, Fld.OWN_GRP_HOME_MASK,
  Fld.OWN_GRP_HELD_MASK, Fld.OWN_CMD_OP, Fld.OWN_CMD_OSET, Fld.OWN_CMD_GROUP,
  Fld.OWN_CMD_RESULT_STATUS, Fld.OWN_CMD_RESULT_DONE, Fld.OWN_CMD_RESULT_BUSY, Fld.OWN_DRILL_EN,
  Fld.OWN_DRILL_HOLD_MS, Fld.OWN_DRILL_STATUS_GROUP, Fld.OWN_DRILL_STATUS_RESULT, Fld.OWN_DRILL_STATUS_STEP,
  Fld.OWN_DRILL_STATUS_PASSES, Fld.OWN_IK_CFG_ENABLE, Fld.OWN_STAT_TAKEOVER_COUNT, Fld.OWN_LAST_OUTAGE_US_US,
  Fld.OWN_SET_SEL_OSET, Fld.OWN_SET_STATE_STATE, Fld.OWN_SET_STATE_HOLDER, Fld.OWN_SET_STATE_HOME,
  Fld.OWN_IK_ID, Fld.OWN_IK_PORT, Fld.OWN_IK_SOFTWARE, Fld.OWN_IK_QP,
  Fld.OWN_IK_UP, Fld.OWN_IK_ARRAY_ARRAY, Fld.OWN_IK_ARRAY_VALID, Fld.OWN_IK_ARRAY_KEY_SLOT,
  Fld.OWN_HOME_SIDE]

/-- Every field of SNP, in the order of its table. -/
def fieldsSNP : List Field := [
  Fld.SNP_CTRL_ENABLE, Fld.SNP_CTRL_REPL_ALARM, Fld.SNP_STATUS_SEALING, Fld.SNP_STATUS_DELETING,
  Fld.SNP_STATUS_FLUSHING, Fld.SNP_ERR_CUT_HELD, Fld.SNP_ERR_CUT_LATE, Fld.SNP_ERR_RPO_MISS,
  Fld.SNP_ERR_SYNC_DROP, Fld.SNP_ERR_LIMIT, Fld.SNP_ERR_INFO_NSID, Fld.SNP_ERR_INFO_LINK,
  Fld.SNP_COMMIT_GEN, Fld.SNP_ACTIVE_GEN_GEN, Fld.SNP_CFG_LEAD_MS, Fld.SNP_CMD_OP,
  Fld.SNP_CMD_ARG_NSID, Fld.SNP_CMD_ARG_EPOCH, Fld.SNP_CMD_ARG_T, Fld.SNP_CMD_ARG_NEW_NSID,
  Fld.SNP_CMD_RESULT_STATUS, Fld.SNP_CMD_RESULT_DONE, Fld.SNP_CMD_RESULT_BUSY, Fld.SNP_CMD_RESULT_EPOCH,
  Fld.SNP_EPOCHS_COUNT, Fld.SNP_STAT_CWAIT_NS, Fld.SNP_SCHED_FIRST_NS, Fld.SNP_SCHED_PERIOD_MS,
  Fld.SNP_SCHED_KEEP, Fld.SNP_SCHED_VALID, Fld.SNP_RLINK_ARRAY, Fld.SNP_RLINK_MODE,
  Fld.SNP_RLINK_ENC, Fld.SNP_RLINK_TNSID, Fld.SNP_RLINK_RPO_MS, Fld.SNP_RLINK_MAX_GBPS,
  Fld.SNP_RLINK_SYNC_TMO_US, Fld.SNP_RLINK_KEY_SLOT, Fld.SNP_RLINK_STAT_STATE, Fld.SNP_RLINK_STAT_LAG_MS,
  Fld.SNP_RLINK_STAT_LAST_CUT]

/-- Every field of LPE, in the order of its table. -/
def fieldsLPE : List Field := [
  Fld.LPE_CTRL_ENABLE, Fld.LPE_ERR_TRIP, Fld.LPE_ERR_BANK_ACTIVE, Fld.LPE_ERR_FB_INVALID,
  Fld.LPE_ERR_OVERRUN, Fld.LPE_ERR_RSVD_LOOP, Fld.LPE_ERR_INFO_LOOP, Fld.LPE_COMMIT_GEN,
  Fld.LPE_ACTIVE_GEN_GEN, Fld.LPE_RUN_MASK, Fld.LPE_TRIPPED_MASK, Fld.LPE_DELAY_MAX_NS,
  Fld.LPE_LOOP_CFG_SRC, Fld.LPE_LOOP_CFG_DEST, Fld.LPE_LOOP_CFG_ARG, Fld.LPE_LOOP_CFG_LOCAL,
  Fld.LPE_LOOP_CFG_LOCAL_PERIOD_US, Fld.LPE_LOOP_CTRL_ENABLE, Fld.LPE_LOOP_CTRL_SWAP, Fld.LPE_LOOP_CTRL_TRIP_ALARM,
  Fld.LPE_LOOP_SP_SP, Fld.LPE_LOOP_RAMP_STEP, Fld.LPE_LOOP_LIM_OUT_MIN, Fld.LPE_LOOP_LIM_OUT_MAX,
  Fld.LPE_LOOP_SAFE_OUT, Fld.LPE_LOOP_FB_Y, Fld.LPE_COEF_KP, Fld.LPE_COEF_KI,
  Fld.LPE_COEF_KD, Fld.LPE_COEF_BIAS, Fld.LPE_MODEL_A, Fld.LPE_MODEL_G,
  Fld.LPE_MODEL_Y0, Fld.LPE_MODEL_RBOUND, Fld.LPE_SUP_N, Fld.LPE_LOOP_FLAGS_SAT_E,
  Fld.LPE_LOOP_FLAGS_SAT_P, Fld.LPE_LOOP_FLAGS_SAT_I, Fld.LPE_LOOP_FLAGS_SAT_D, Fld.LPE_LOOP_FLAGS_SAT_U,
  Fld.LPE_LOOP_FLAGS_CLAMP, Fld.LPE_LOOP_FLAGS_FB_INVALID, Fld.LPE_LOOP_STATE_Y, Fld.LPE_LOOP_STATE_OUT,
  Fld.LPE_LOOP_STATE_I, Fld.LPE_LOOP_STATE_SP_NOW, Fld.LPE_LOOP_STATE_STATE, Fld.LPE_LOOP_STATE_BANK,
  Fld.LPE_LOOP_STATE_RCOUNT, Fld.LPE_LOOP_STATE_DELAY_NS, Fld.LPE_LOOP_STAT_SAMPLES, Fld.LPE_LOOP_STAT_LATE,
  Fld.LPE_LOOP_STAT_OVERRUN]

/-- Every field of AGE, in the order of its table. -/
def fieldsAGE : List Field := [
  Fld.AGE_CTRL_ENABLE, Fld.AGE_CTRL_ALARM, Fld.AGE_CTRL_AVS_OWN, Fld.AGE_STATUS_SWEEPING,
  Fld.AGE_STATUS_HISTORY, Fld.AGE_ERR_MON_FAIL, Fld.AGE_ERR_CEIL_DOWN, Fld.AGE_ERR_MARGIN_LOW,
  Fld.AGE_ERR_NO_HISTORY, Fld.AGE_COMMIT_GEN, Fld.AGE_ACTIVE_GEN_GEN, Fld.AGE_CFG_SLACK_REQ_PS,
  Fld.AGE_CFG_VMAX_MV, Fld.AGE_CFG_HYST_PS, Fld.AGE_GB_PS_PER_PM, Fld.AGE_GB_PROJ_H,
  Fld.AGE_GB_DEF_RATE, Fld.AGE_WARN_MARGIN_MV, Fld.AGE_WARN_HOURS, Fld.AGE_LAST_NS,
  Fld.AGE_SLACK_ALL_PS, Fld.AGE_SLACK_TRK_PS, Fld.AGE_DEGRADE_DELTA, Fld.AGE_DEGRADE_RATE,
  Fld.AGE_GUARD_GB_PS, Fld.AGE_GUARD_VGB_MV, Fld.AGE_CEIL_STEPS, Fld.AGE_CEIL_MHZ,
  Fld.AGE_MARGIN_V_MV, Fld.AGE_MARGIN_HOURS, Fld.AGE_EYE_NET_MV, Fld.AGE_EYE_ISL_MV,
  Fld.AGE_EYE_PCIE_MV, Fld.AGE_FLASH_MARGIN_PS, Fld.AGE_FLASH_CH, Fld.AGE_TEMP_MAX_C,
  Fld.AGE_TEMP_SENSOR, Fld.AGE_FUSE_PS_PER_MV, Fld.AGE_PDM_SLACK_PS, Fld.AGE_PDM_VALID,
  Fld.AGE_RO_PPM, Fld.AGE_TS_TEMP, Fld.AGE_TS_VALID]

/-- Every field of ADM, in the order of its table. -/
def fieldsADM : List Field := [
  Fld.ADM_STATUS_CHECKING, Fld.ADM_STATUS_APPLYING, Fld.ADM_ERR_GEN_MISMATCH, Fld.ADM_ERR_COMMIT_PENDING,
  Fld.ADM_ERR_APPLY_BUSY, Fld.ADM_ERR_REFUSED, Fld.ADM_ERR_DRIFT, Fld.ADM_PENDING_BLOCKS,
  Fld.ADM_COMMIT_GEN, Fld.ADM_ACTIVE_GEN_GEN, Fld.ADM_CMD_OP, Fld.ADM_CMD_SRC,
  Fld.ADM_IMG_ADDR_ADDR, Fld.ADM_IMG_LEN_BYTES, Fld.ADM_IMG_GEN_GEN, Fld.ADM_RESULT_STATUS,
  Fld.ADM_RESULT_CONSTRAINT, Fld.ADM_RESULT_DONE, Fld.ADM_RESULT_BUSY, Fld.ADM_RESULT_UNIT,
  Fld.ADM_RESULT_RECORD, Fld.ADM_REQUIRED_VALUE, Fld.ADM_OFFERED_VALUE, Fld.ADM_TIME_LEASE_EPS_NS,
  Fld.ADM_TIME_REPL_EPS_NS, Fld.ADM_TIME_FW_EPS_NS, Fld.ADM_TIME_SLOT_EPS_NS, Fld.ADM_QOS_WRITE_PCT,
  Fld.ADM_QOS_READ_PCT, Fld.ADM_QOS_WAF_Q8, Fld.ADM_STAT_REFUSED_COUNT]

/-- Every field of GBK, in the order of its table. -/
def fieldsGBK : List Field := [
  Fld.GBK_CTRL_ENABLE, Fld.GBK_CTRL_PIN_EN, Fld.GBK_STATUS_SCANNING, Fld.GBK_STATUS_CLEARING,
  Fld.GBK_ERR_OVERFLOW, Fld.GBK_ERR_CLEAR_REFUSED, Fld.GBK_ERR_CMD_BUSY, Fld.GBK_COMMIT_GEN,
  Fld.GBK_ACTIVE_GEN_GEN, Fld.GBK_KEY_SLOT, Fld.GBK_HEAD_SEQ_SEQ, Fld.GBK_FLOOR_SEQ,
  Fld.GBK_LOST_COUNT, Fld.GBK_ALARM_SOURCE, Fld.GBK_ALARM_MASK_MASK, Fld.GBK_COPY_ADDR_ADDR,
  Fld.GBK_COPY_FIRST_SEQ, Fld.GBK_COPY_CMD_COUNT, Fld.GBK_COPY_CMD_DST, Fld.GBK_COPY_CMD_PARTNER,
  Fld.GBK_COPY_RESULT_STATUS, Fld.GBK_COPY_RESULT_DONE, Fld.GBK_COPY_RESULT_BUSY, Fld.GBK_CLEAR_TOKEN,
  Fld.GBK_CLEAR_CMD_GO, Fld.GBK_CLEAR_RESULT_STATUS, Fld.GBK_CLEAR_RESULT_DONE, Fld.GBK_CLEAR_RESULT_BUSY,
  Fld.GBK_STAGE_DEPTH_COUNT]

/-- Every field of FWU, in the order of its table. -/
def fieldsFWU : List Field := [
  Fld.FWU_CTRL_ENABLE, Fld.FWU_STATUS_SLOT, Fld.FWU_STATUS_TRIAL, Fld.FWU_STATUS_PARTNER_GEN,
  Fld.FWU_ERR_ACT_SKIPPED, Fld.FWU_ERR_CONFIRM_BAD, Fld.FWU_ERR_FALLBACK, Fld.FWU_ERR_CMD_BUSY,
  Fld.FWU_COMMIT_GEN, Fld.FWU_ACTIVE_GEN_GEN, Fld.FWU_CFG_CONFIRM_S, Fld.FWU_CFG_DELTA_S,
  Fld.FWU_CFG_BACKSTOP_S, Fld.FWU_DEADLINE_NS, Fld.FWU_ACT_T, Fld.FWU_ACT_VALID,
  Fld.FWU_STAGE_ADDR_ADDR, Fld.FWU_STAGE_LEN_BYTES, Fld.FWU_CMD_OP, Fld.FWU_CMD_SRC,
  Fld.FWU_CMD_RESULT_STATUS, Fld.FWU_CMD_RESULT_DONE, Fld.FWU_CMD_RESULT_BUSY, Fld.FWU_CONFIRM_FW_GEN,
  Fld.FWU_SLOT_INFO_STATE, Fld.FWU_SLOT_INFO_FW_GEN, Fld.FWU_SLOT_INFO_COMPAT_MIN, Fld.FWU_SLOT_INFO_CFG_FMT]

/-- Every field of PWR, in the order of its table. -/
def fieldsPWR : List Field := [
  Fld.PWR_CTRL_ENABLE, Fld.PWR_CTRL_AVS_EN, Fld.PWR_STATUS_CHAIN_A_GOOD, Fld.PWR_STATUS_CHAIN_B_GOOD,
  Fld.PWR_STATUS_DOM_BUSY, Fld.PWR_STATUS_FIRST_BOOT, Fld.PWR_STATUS_QUEUED, Fld.PWR_ERR_CHAIN_A_FAULT,
  Fld.PWR_ERR_CHAIN_B_FAULT, Fld.PWR_ERR_PMB_NAK, Fld.PWR_ERR_DOM_REFUSED, Fld.PWR_ERR_OFF_ACCESS,
  Fld.PWR_ERR_INFO_DOMAIN, Fld.PWR_ERR_INFO_DEV, Fld.PWR_COMMIT_GEN, Fld.PWR_ACTIVE_GEN_GEN,
  Fld.PWR_DOM_CMD_DOMAIN, Fld.PWR_DOM_CMD_OP, Fld.PWR_DOM_RESULT_STATUS, Fld.PWR_DOM_RESULT_DONE,
  Fld.PWR_DOM_RESULT_BUSY, Fld.PWR_DOM_STATE_ON, Fld.PWR_VDD_SET_MV, Fld.PWR_VDD_MEAS_MV,
  Fld.PWR_AVS_FIXED_MV, Fld.PWR_AVS_STEP_MV, Fld.PWR_POLL_US, Fld.PWR_RST_CMD_MAIN,
  Fld.PWR_RST_CAUSE_CAUSE, Fld.PWR_BOOT_US_US, Fld.PWR_CHAIN_STATUS, Fld.PWR_CHAIN_POWER_W,
  Fld.PWR_CHAIN_FAULTS, Fld.PWR_PMB_DEV_ADDR, Fld.PWR_PMB_DEV_CHAIN, Fld.PWR_PMB_DEV_VDD,
  Fld.PWR_PMB_DEV_VALID]

/-- Every field of DBG, in the order of its table. -/
def fieldsDBG : List Field := [
  Fld.DBG_CTRL_ENABLE, Fld.DBG_CTRL_OUT_EN, Fld.DBG_CTRL_DIV, Fld.DBG_STATUS_LOCKED,
  Fld.DBG_STATUS_SCAN, Fld.DBG_STATUS_LOOPING, Fld.DBG_ERR_SCAN_REFUSED, Fld.DBG_ERR_LOOP_BUSY,
  Fld.DBG_ERR_FUSE_BUSY, Fld.DBG_ERR_INFO_OPCODE, Fld.DBG_COMMIT_GEN, Fld.DBG_ACTIVE_GEN_GEN,
  Fld.DBG_MUX_SEL, Fld.DBG_LOOP_KIND, Fld.DBG_LOOP_TARGET, Fld.DBG_LOOP_MS,
  Fld.DBG_LOOP_STAT_ERRORS, Fld.DBG_LOOP_STAT_STATUS, Fld.DBG_LOOP_STAT_DONE, Fld.DBG_LOOP_STAT_BUSY,
  Fld.DBG_FUSE_CMD_FIELD, Fld.DBG_FUSE_DATA, Fld.DBG_FUSE_RESULT_STATUS, Fld.DBG_FUSE_RESULT_DONE,
  Fld.DBG_FUSE_RESULT_BUSY]

/-- The fields of a block, by its index (Table 25.1). -/
def blockFields (b : Nat) : List Field :=
  match b with
  | 0 => fieldsGLB
  | 1 => fieldsCAR
  | 2 => fieldsHRI
  | 3 => fieldsNET
  | 4 => fieldsNVF
  | 5 => fieldsRDM
  | 6 => fieldsPOL
  | 7 => fieldsPJM
  | 8 => fieldsISL
  | 9 => fieldsDDP
  | 10 => fieldsCMP
  | 11 => fieldsCIP
  | 12 => fieldsMAP
  | 13 => fieldsMDC
  | 14 => fieldsFLC
  | 15 => fieldsSTR
  | 16 => fieldsGCX
  | 17 => fieldsKVS
  | 18 => fieldsMTE
  | 19 => fieldsOWN
  | 20 => fieldsSNP
  | 21 => fieldsLPE
  | 22 => fieldsAGE
  | 23 => fieldsADM
  | 24 => fieldsGBK
  | 25 => fieldsFWU
  | 26 => fieldsPWR
  | 27 => fieldsDBG
  | _ => []

/-- Fields whose Reset column reads Fused or Strap: a reset leaves them (R522, R537). -/
def keptFields : List Field := [
  Fld.AGE_FUSE_PS_PER_MV, Fld.GLB_REV_MINOR, Fld.GLB_REV_MAJOR, Fld.GLB_REV_SPEED,
  Fld.GLB_REV_TEMP, Fld.GLB_HEAD_SIDE, Fld.GLB_HEAD_BIF, Fld.GLB_FUSE_KEY,
  Fld.GLB_FUSE_PUBKEY, Fld.GLB_FUSE_ROLLBACK, Fld.GLB_UID_UID, Fld.DBG_STATUS_LOCKED]

/-- The ENABLE field of a block; GLB has none and ADM is always enabled (R453). -/
def enableField (b : Nat) : Option Field :=
  match b with
  | 1 => some Fld.CAR_CTRL_ENABLE
  | 2 => some Fld.HRI_CTRL_ENABLE
  | 3 => some Fld.NET_CTRL_ENABLE
  | 4 => some Fld.NVF_CTRL_ENABLE
  | 5 => some Fld.RDM_CTRL_ENABLE
  | 6 => some Fld.POL_CTRL_ENABLE
  | 7 => some Fld.PJM_CTRL_ENABLE
  | 8 => some Fld.ISL_CTRL_ENABLE
  | 9 => some Fld.DDP_CTRL_ENABLE
  | 10 => some Fld.CMP_CTRL_ENABLE
  | 11 => some Fld.CIP_CTRL_ENABLE
  | 12 => some Fld.MAP_CTRL_ENABLE
  | 13 => some Fld.MDC_CTRL_ENABLE
  | 14 => some Fld.FLC_CTRL_ENABLE
  | 15 => some Fld.STR_CTRL_ENABLE
  | 16 => some Fld.GCX_CTRL_ENABLE
  | 17 => some Fld.KVS_CTRL_ENABLE
  | 18 => some Fld.MTE_CTRL_ENABLE
  | 19 => some Fld.OWN_CTRL_ENABLE
  | 20 => some Fld.SNP_CTRL_ENABLE
  | 21 => some Fld.LPE_CTRL_ENABLE
  | 22 => some Fld.AGE_CTRL_ENABLE
  | 24 => some Fld.GBK_CTRL_ENABLE
  | 25 => some Fld.FWU_CTRL_ENABLE
  | 26 => some Fld.PWR_CTRL_ENABLE
  | 27 => some Fld.DBG_CTRL_ENABLE
  | _ => none

/-- The COMMIT field of a block (R440); GLB has none (R523). -/
def commitField (b : Nat) : Option Field :=
  match b with
  | 1 => some Fld.CAR_COMMIT_GEN
  | 2 => some Fld.HRI_COMMIT_GEN
  | 3 => some Fld.NET_COMMIT_GEN
  | 4 => some Fld.NVF_COMMIT_GEN
  | 5 => some Fld.RDM_COMMIT_GEN
  | 6 => some Fld.POL_COMMIT_GEN
  | 7 => some Fld.PJM_COMMIT_GEN
  | 8 => some Fld.ISL_COMMIT_GEN
  | 9 => some Fld.DDP_COMMIT_GEN
  | 10 => some Fld.CMP_COMMIT_GEN
  | 11 => some Fld.CIP_COMMIT_GEN
  | 12 => some Fld.MAP_COMMIT_GEN
  | 13 => some Fld.MDC_COMMIT_GEN
  | 14 => some Fld.FLC_COMMIT_GEN
  | 15 => some Fld.STR_COMMIT_GEN
  | 16 => some Fld.GCX_COMMIT_GEN
  | 17 => some Fld.KVS_COMMIT_GEN
  | 18 => some Fld.MTE_COMMIT_GEN
  | 19 => some Fld.OWN_COMMIT_GEN
  | 20 => some Fld.SNP_COMMIT_GEN
  | 21 => some Fld.LPE_COMMIT_GEN
  | 22 => some Fld.AGE_COMMIT_GEN
  | 23 => some Fld.ADM_COMMIT_GEN
  | 24 => some Fld.GBK_COMMIT_GEN
  | 25 => some Fld.FWU_COMMIT_GEN
  | 26 => some Fld.PWR_COMMIT_GEN
  | 27 => some Fld.DBG_COMMIT_GEN
  | _ => none

/-- The ACTIVE_GEN field of a block (R440). -/
def activeGenField (b : Nat) : Option Field :=
  match b with
  | 1 => some Fld.CAR_ACTIVE_GEN_GEN
  | 2 => some Fld.HRI_ACTIVE_GEN_GEN
  | 3 => some Fld.NET_ACTIVE_GEN_GEN
  | 4 => some Fld.NVF_ACTIVE_GEN_GEN
  | 5 => some Fld.RDM_ACTIVE_GEN_GEN
  | 6 => some Fld.POL_ACTIVE_GEN_GEN
  | 7 => some Fld.PJM_ACTIVE_GEN_GEN
  | 8 => some Fld.ISL_ACTIVE_GEN_GEN
  | 9 => some Fld.DDP_ACTIVE_GEN_GEN
  | 10 => some Fld.CMP_ACTIVE_GEN_GEN
  | 11 => some Fld.CIP_ACTIVE_GEN_GEN
  | 12 => some Fld.MAP_ACTIVE_GEN_GEN
  | 13 => some Fld.MDC_ACTIVE_GEN_GEN
  | 14 => some Fld.FLC_ACTIVE_GEN_GEN
  | 15 => some Fld.STR_ACTIVE_GEN_GEN
  | 16 => some Fld.GCX_ACTIVE_GEN_GEN
  | 17 => some Fld.KVS_ACTIVE_GEN_GEN
  | 18 => some Fld.MTE_ACTIVE_GEN_GEN
  | 19 => some Fld.OWN_ACTIVE_GEN_GEN
  | 20 => some Fld.SNP_ACTIVE_GEN_GEN
  | 21 => some Fld.LPE_ACTIVE_GEN_GEN
  | 22 => some Fld.AGE_ACTIVE_GEN_GEN
  | 23 => some Fld.ADM_ACTIVE_GEN_GEN
  | 24 => some Fld.GBK_ACTIVE_GEN_GEN
  | 25 => some Fld.FWU_ACTIVE_GEN_GEN
  | 26 => some Fld.PWR_ACTIVE_GEN_GEN
  | 27 => some Fld.DBG_ACTIVE_GEN_GEN
  | _ => none

/-- The ERR bits of a block, summed into `GLB_INT_STATUS` (R525). -/
def errFields (b : Nat) : List Field :=
  match b with
  | 0 => [Fld.GLB_ERR_CFG_LIVE, Fld.GLB_ERR_BAD_OFFSET, Fld.GLB_ERR_BAD_SIZE]
  | 1 => [Fld.CAR_ERR_SLOT_LIVE, Fld.CAR_ERR_SLOT_BAD, Fld.CAR_ERR_SLOT_RSVD, Fld.CAR_ERR_EPS_REFUSED, Fld.CAR_ERR_TARGET_OFF, Fld.CAR_ERR_SOURCE_LOST]
  | 2 => [Fld.HRI_ERR_DB_BAD, Fld.HRI_ERR_FETCH_FAIL, Fld.HRI_ERR_SB_FAIL, Fld.HRI_ERR_RING_CFG, Fld.HRI_ERR_NO_WINDOW, Fld.HRI_ERR_EVQ_OVF]
  | 3 => [Fld.NET_ERR_LINK_DOWN, Fld.NET_ERR_TCP_FULL, Fld.NET_ERR_PFC_STORM, Fld.NET_ERR_OVERSIZE]
  | 4 => [Fld.NVF_ERR_CONN_REFUSED, Fld.NVF_ERR_FWD_HELD, Fld.NVF_ERR_KATO_EXPIRED, Fld.NVF_ERR_DIGEST, Fld.NVF_ERR_UNSOLICITED]
  | 5 => [Fld.RDM_ERR_RETRY_EXC, Fld.RDM_ERR_REVOKE_TMO, Fld.RDM_ERR_WIN_BUSY, Fld.RDM_ERR_ODP_OVF]
  | 6 => [Fld.POL_ERR_DOUBLE_FREE, Fld.POL_ERR_BAD_FREE, Fld.POL_ERR_WAIT_FULL]
  | 7 => [Fld.PJM_ERR_CH_FAIL, Fld.PJM_ERR_UE, Fld.PJM_ERR_LOG_FULL, Fld.PJM_ERR_BAD_TYPE, Fld.PJM_ERR_HELD]
  | 8 => [Fld.ISL_ERR_LINK_DOWN, Fld.ISL_ERR_RETRY_EXC, Fld.ISL_ERR_SUSPECT, Fld.ISL_ERR_LAYOUT, Fld.ISL_ERR_CATCHUP_FAIL]
  | 9 => [Fld.DDP_ERR_VERIFY_MISMATCH, Fld.DDP_ERR_PAGE_FULL, Fld.DDP_ERR_DEFER_DROP, Fld.DDP_ERR_REF_SAT, Fld.DDP_ERR_PIN_FULL]
  | 10 => [Fld.CMP_ERR_CRC_FAIL, Fld.CMP_ERR_STREAM_INVALID]
  | 11 => [Fld.CIP_ERR_UNWRAP_FAIL, Fld.CIP_ERR_STORE_FAIL, Fld.CIP_ERR_CMD_BUSY, Fld.CIP_ERR_FUSE_BLANK]
  | 12 => [Fld.MAP_ERR_CKPT_LATE, Fld.MAP_ERR_CACHE_FULL, Fld.MAP_ERR_PAGE_REBUILT, Fld.MAP_ERR_DIR_FAIL, Fld.MAP_ERR_TORN]
  | 13 => [Fld.MDC_ERR_UE_CLEAN, Fld.MDC_ERR_UE_DIRTY, Fld.MDC_ERR_GROUP_CMD]
  | 14 => [Fld.FLC_ERR_GEOMETRY, Fld.FLC_ERR_TRAIN_FAIL, Fld.FLC_ERR_PROG_FAIL, Fld.FLC_ERR_ERASE_FAIL, Fld.FLC_ERR_READ_FAIL, Fld.FLC_ERR_GROUP_LOST, Fld.FLC_ERR_SLC_SHORT, Fld.FLC_ERR_SPARE_LOW, Fld.FLC_ERR_READ_ONLY]
  | 15 => [Fld.STR_ERR_PROG_FAIL_DATA, Fld.STR_ERR_PROG_FAIL_PARITY, Fld.STR_ERR_STRIPE_LOST, Fld.STR_ERR_PATROL_MISMATCH, Fld.STR_ERR_SPAN_TIMEOUT, Fld.STR_ERR_LOST_FULL]
  | 16 => [Fld.GCX_ERR_TABLE_FULL, Fld.GCX_ERR_NO_HEADROOM, Fld.GCX_ERR_ERASE_FAIL]
  | 17 => [Fld.KVS_ERR_SLOT_BUSY, Fld.KVS_ERR_HOLD_EXPIRED, Fld.KVS_ERR_EPOCH_FETCH, Fld.KVS_ERR_CARAVAN_ABORT, Fld.KVS_ERR_ASET_EMPTY]
  | 18 => [Fld.MTE_ERR_BULK_LIVE, Fld.MTE_ERR_POWER_LIVE, Fld.MTE_ERR_UPD_BUSY, Fld.MTE_ERR_BULK_SRC]
  | 19 => [Fld.OWN_ERR_SELF_FENCE, Fld.OWN_ERR_CLAIM_CONFLICT, Fld.OWN_ERR_RENEW_FAIL, Fld.OWN_ERR_MAC_FAIL, Fld.OWN_ERR_DRILL_FAIL, Fld.OWN_ERR_DRILL_SKIPPED, Fld.OWN_ERR_FENCED, Fld.OWN_ERR_IK_LOST, Fld.OWN_ERR_TAKE_REFUSED]
  | 20 => [Fld.SNP_ERR_CUT_HELD, Fld.SNP_ERR_CUT_LATE, Fld.SNP_ERR_RPO_MISS, Fld.SNP_ERR_SYNC_DROP, Fld.SNP_ERR_LIMIT]
  | 21 => [Fld.LPE_ERR_TRIP, Fld.LPE_ERR_BANK_ACTIVE, Fld.LPE_ERR_FB_INVALID, Fld.LPE_ERR_OVERRUN, Fld.LPE_ERR_RSVD_LOOP]
  | 22 => [Fld.AGE_ERR_MON_FAIL, Fld.AGE_ERR_CEIL_DOWN, Fld.AGE_ERR_MARGIN_LOW, Fld.AGE_ERR_NO_HISTORY]
  | 23 => [Fld.ADM_ERR_GEN_MISMATCH, Fld.ADM_ERR_COMMIT_PENDING, Fld.ADM_ERR_APPLY_BUSY, Fld.ADM_ERR_REFUSED, Fld.ADM_ERR_DRIFT]
  | 24 => [Fld.GBK_ERR_OVERFLOW, Fld.GBK_ERR_CLEAR_REFUSED, Fld.GBK_ERR_CMD_BUSY]
  | 25 => [Fld.FWU_ERR_ACT_SKIPPED, Fld.FWU_ERR_CONFIRM_BAD, Fld.FWU_ERR_FALLBACK, Fld.FWU_ERR_CMD_BUSY]
  | 26 => [Fld.PWR_ERR_CHAIN_A_FAULT, Fld.PWR_ERR_CHAIN_B_FAULT, Fld.PWR_ERR_PMB_NAK, Fld.PWR_ERR_DOM_REFUSED, Fld.PWR_ERR_OFF_ACCESS]
  | 27 => [Fld.DBG_ERR_SCAN_REFUSED, Fld.DBG_ERR_LOOP_BUSY, Fld.DBG_ERR_FUSE_BUSY]
  | _ => []

end Sys2Proof.Machine
end

