-- ==== Sys2Proof/Machine/State.lean ====
section
/-!
DEFINITION. The machine's state: every register field (in three sparse tables: value in force, shadow, latched commit)
and, block by block, the state the spec gives the head beside its registers.  A value that a register field of the spec
shows has that field as its one home; what a field only mirrors (pins, masks, cluster time) is derived where it is read
(Machine/Regs.lean).  All of it is plain data.
-/
namespace Sys2Proof.Machine

open Sys2Proof

/-! ## Time units
Local time is counted in sevenths of a picosecond, the unit in which an engine cycle of either speed grade
(625 ps, and 10,000/14 ps) is a whole number. -/

/-- Local time units in a nanosecond. -/
abbrev unitsPerNs : Nat := 7000

/-- A CT64 instant with its fraction: units of 2^-16 ns since the cluster epoch (R62). -/
abbrev Ct := Nat

/-! ## What leaves the head -/

/-- An event-ring entry (Table 04.11). -/
structure EventEntry where
  seq : Nat
  source : Nat
  code : Nat
  time : Nat
  lost : Nat
  phase : Bool
  arg0 : Nat
  arg1 : Nat
deriving DecidableEq, Repr

/-- A completion entry (Table 04.6). -/
structure ComplEntry where
  subSeq : Nat
  cplSeq : Nat
  status : Nat
  phase : Bool
  replayed : Bool
  event : Bool
  late : Bool
  opcode : Nat
  tag : Nat
  tagHigh : Nat
  result0 : Nat
  result1 : Nat
deriving DecidableEq, Repr

/-- A ring status block (Table 04.9). -/
structure StatusBlock where
  c : Nat
  k : Nat
  sqHead : Nat
  cqTail : Nat
  state : Nat
  b : Nat
  h : Nat
  updates : Nat
deriving DecidableEq, Repr

/-- A resync record (Table 04.10); `map` lists the marked offsets i of B + i. -/
structure ResyncRec where
  c : Nat
  k : Nat
  b : Nat
  h : Nat
  sqHead : Nat
  marked : Nat
  map : List Nat
deriving DecidableEq, Repr

/-! ## Writes and journal records -/

/-- Where a command came from and where its completion goes. -/
inductive Src where
  /-- A host ring submission: ring, sequence. -/
  | ring (ring seq : Nat)
  /-- An NVMe-oF command: queue handle, command identifier. -/
  | nvme (queue cid : Nat)
  /-- An Enore command: session, slot. -/
  | enore (session slot : Nat)
  /-- A command the partner forwarded over the Isaov link: its token, and the replay slot of the partner's window (R126). -/
  | partner (token window seq : Nat)
  /-- A batch of a replication link, or of a Caravan: the link or Caravan and the batch. -/
  | batch (link seq : Nat)
  /-- A spanning-stripe message: the queue pair's stripe and STEP. -/
  | span (stripe step : Nat)
  /-- The head's own firmware. -/
  | own
deriving DecidableEq, Repr

/-- How far a write has come (R24 to R31). -/
inductive WStage where
  /-- Submitted; OWN has not confirmed ownership (before R37). -/
  | submitted
  /-- Waits for an earlier overlapping write to be accepted (R37). -/
  | waiting
  /-- Forwarded to the owner over the Isaov link (R126). -/
  | forwarded
  /-- On the journal path: its ACCEPT record is issued (R25). -/
  | journal
  /-- On the direct path: its intent record is issued (R27). -/
  | direct
  /-- Held by R187, R128 or R404: no completion until resolved. -/
  | held
  /-- Refused: its SLOT record with this status is issued, the completion waits for it (R43). -/
  | refusing (status : Nat)
  /-- Accepted (R25, R27); waits of R30 may remain. -/
  | accepted
deriving DecidableEq, Repr

/-- A write the head is carrying (Table 08.5 and the rules of Accepted work). -/
structure WriteOp where
  src : Src
  kind : WKind
  nsid : Nat
  tenant : Nat
  lba : Nat
  blocks : Nat
  key : Nat
  keyLen : Nat
  valueLen : Nat
  data : List Nat
  ifAbsent : Bool
  ifPresent : Bool
  /-- IF_VERSION: the version expected (Table 15.3). -/
  ifVersion : Option Nat
  fua : Bool
  /-- The VALUE_ID a put takes (R251). -/
  valueId : Nat
  pg : Nat
  reserve : Nat
  stage : WStage
  jseq : Nat
  stripe : Nat
  wseq : Nat
  tA : Nat
  epsA : Frac
  accepted : Bool
  programmed : Bool
  synced : Bool
  released : Bool
  arrival : Nat
  /-- A put of a SPAN namespace whose value does not lie in its spanning stripes yet (R346). -/
  span : Bool
deriving DecidableEq, Repr

/-- The body of a PJM record (Table 08.4). -/
inductive RecBody where
  | pad
  | accept (op : Nat)
  | intent (op stripe : Nat) (deltas : List Delta)
  | slot (window seq status : Nat)
  | cancel (orig : Nat)
  | stamp (entries : List (Nat × Nat))
  | mapDelta (entries : List Delta)
  | sif (stripe step done : Nat)
  | window (window b h : Nat)
  | deferred (host : HostRef) (e : Deferred) (remove : Bool)
deriving DecidableEq, Repr

/-- A journal record (Table 08.3) with what the head knows of its two copies. -/
structure PjmRec where
  body : RecBody
  orig : Nat
  copy : Bool
  chan : Nat
  cseq : Nat
  off : Nat
  len64 : Nat
  oset : Nat
  tIssue : Nat
  localOk : Bool
  mirrorSent : Bool
  mirrorOk : Bool
  /-- Copied to the partner, or acknowledged by it, in a catch-up that has not ended (R189). -/
  acked : Bool
  held : Bool
  live : Bool
deriving DecidableEq, Repr

/-! ## Replay windows -/

/-- The state of a replay-window slot (R40): a free slot is not listed. -/
inductive SlotSt where
  | inProgress
  | completed (status : Nat)
deriving DecidableEq, Repr

/-- A replay window (R40): 32-bit sequences for a ring, 64-bit for an Enore session. -/
structure RWin where
  bits : Nat
  b : Nat
  h : Nat
  slots : Assoc SlotSt
  owner : Nat
  /-- The bucket of the key-value write of a sequence (R352). -/
  marks : Assoc Nat
deriving DecidableEq, Repr

/-! ## GLB, always-on domain, PWR -/

/-- GLB state beside its registers: the error interrupt (R525). -/
structure Glb where
  /-- A message may be sent for a non-zero value: set while the masked summary is 0 and by a write to `GLB_INT_ACK`. -/
  armed : Bool
  /-- Local time of the last message. -/
  lastMsg : Option Nat
  /-- A message is held back by HOLDOFF_US. -/
  held : Bool
deriving DecidableEq, Repr

/-- The pins the board drives and the always-on domain (R11, R12, R378 to R383, R463, R487, Table 23.1 domain 63). -/
structure Aon where
  /-- An always-on feed is within its range: A, B (R391). -/
  feedA : Bool
  feedB : Bool
  /-- `SYS_RST_N` is held low. -/
  sysRst : Bool
  /-- `PERST_N` is asserted. -/
  perst : Bool
  /-- The main domain is held in reset or has not finished booting: no firmware runs. -/
  mainReset : Bool
  /-- `SIDE` as sampled (R9). -/
  side : Side
  /-- Levels of the straps on the board, sampled at a release of `SYS_RST_N` (R498). -/
  sidePin : Side
  bifPin : Bool
  /-- `FENCE_IN_N` counts as asserted (R383). -/
  fenceIn : Bool
  /-- The fence of R12 holds: until `FENCE_IN_N` is released and own firmware claims again. -/
  fenced : Bool
  /-- `FENCE_OUT_N` is asserted. -/
  fenceOut : Bool
  /-- Local time at which the hardware lease timer reaches zero; none while it is stopped or has reached zero (R378). -/
  leaseEnd : Option Nat
  /-- The mask of groups assigned to this head (R380). -/
  claimMask : NatSet
  /-- `ILK_CLAIM_OUT`: groups whose claim is asserted. -/
  claimOut : NatSet
  /-- `ILK_CLAIM_IN`: groups whose claim by the partner is seen. -/
  claimIn : NatSet
  /-- Groups whose flash I/O drivers are enabled (R11). -/
  drivers : NatSet
  /-- For a claimed group: local time since which the partner's claim has stayed deasserted. -/
  settle : Assoc Nat
  /-- Boot-failure latch (R463). -/
  bootFail : Bool
  /-- Local time at which the firmware backstop counter reaches zero (R475). -/
  backstop : Option Nat
  /-- The always-on copy of the SR-IOV TotalVFs of each PF (R492), and of the last applied configuration. -/
  totalVfs : Nat
  totalVfsCfg : Nat
  /-- The root key as the last power-on or system reset read it from the key fuses: none while blank (R234, R531). -/
  rootKey : Option Nat
  /-- The cause of the reset that runs, as `PWR_RST_CAUSE` will report it (R488). -/
  resetCause : Nat
deriving DecidableEq, Repr

/-- A queued domain request (R481). -/
structure DomReq where
  domain : Nat
  on : Bool
  /-- The request came from `PWR_DOM_CMD`. -/
  cmd : Bool
deriving DecidableEq, Repr

/-- What PWR knows of one regulator chain (R483). -/
structure Chain where
  /-- The power-good input is high. -/
  pwrgd : Bool
  /-- A fault is declared. -/
  faulted : Bool
  /-- Local time at which power-good was last low, or a STATUS_WORD last reported a fault. -/
  dirtyAt : Nat
  /-- A fault found and not yet declared: its cause, STATUS_WORD and PMBus device (R483). -/
  due : Option (Nat × Nat × Nat)
deriving DecidableEq, Repr

/-- PWR state beside its registers. -/
structure Pwr where
  queue : List DomReq
  /-- The request being switched. -/
  switching : Option DomReq
  chainA : Chain
  chainB : Chain
  /-- Consecutive transactions each PMBus device has failed to answer (R483). -/
  misses : Assoc Nat
  /-- A write to `PWR_RST_CMD` waits for a domain switch to end (R495). -/
  rstWaits : Bool
deriving DecidableEq, Repr

/-! ## CAR -/

/-- CAR state beside its registers (R57 to R76). -/
structure Car where
  /-- Cluster time, ns, at the local instant `baseAt`. -/
  base : Frac
  baseAt : Nat
  /-- Frequency correction y (R60). -/
  y : Frac
  /-- Integral of the offsets s, ns (R60). -/
  integ : Frac
  /-- Local time of the last accepted measurement since the reset. -/
  lastMeas : Option Nat
  /-- Consecutive measurements with |θ| below 1 µs. -/
  lockRun : Nat
  /-- A step was made in the present ACQUIRING. -/
  stepped : Bool
  /-- ACQUIRING has been left since the last reset: only forward steps (R60). -/
  leftAcq : Bool
  /-- ε at the last accepted measurement, ns (R65). -/
  epsK : Frac
  /-- logMessageInterval of the last Sync of the port followed. -/
  logInterval : Int
  /-- Seconds are known from an earlier PTP lock (R59). -/
  secondsKnown : Bool
  /-- Local time since which ε has stayed at or below 7/8 of the bound (R67). -/
  epsLowSince : Option Nat
  /-- Local time of the last `PPS_IN` edge. -/
  ppsInAt : Option Nat
  /-- `PPS_OUT` is high until this instant (R61). -/
  ppsOutUntil : Option Ct
  /-- Local time of the last servo step (R76). -/
  lastStep : Nat
  /-- θ of the last PTP measurement when PPS_IN gives the phase (R59). -/
  ptpTheta : Option Frac
  /-- Local time of the last Delay_Req or Pdelay_Req sent (R57). -/
  delayReqAt : Option Nat
  /-- day_end of the leap announcement in force, UTC seconds (R456). -/
  dayEnd : Option Nat
deriving DecidableEq, Repr

/-! ## ADM and GBK -/

/-- A pending commit (R441). -/
structure Pend where
  gen : Nat
  /-- The check has ended with admission. -/
  admitted : Bool
deriving DecidableEq, Repr

/-- A namespace in force (Table 20.4, with what other blocks add to it). -/
structure Ns where
  tenant : Nat
  kv : Bool
  dedup : Bool
  compress : Bool
  enc : Bool
  cut : Bool
  keySlot : Nat
  oset : Nat
  pgFirst : Nat
  pgCount : Nat
  cwMaxNs : Nat
  size : Nat
  resReadKiops : Nat
  resWriteMbps : Nat
  /-- Reads only: an attached epoch (R407). -/
  readOnly : Bool
deriving DecidableEq, Repr

/-- ADM state beside its registers. -/
structure Adm where
  pend : Assoc Pend
  /-- Constraints a measured figure breaks (R445). -/
  drift : NatSet
  /-- Namespaces in force. -/
  nss : Assoc Ns
  /-- Array sets in force (R332): SIZE array IDs. -/
  asets : Assoc (List Nat)
  /-- A value of `CAR_EPS_BOUND` ADM has committed, which waits for CAR's boundary (R447). -/
  boundNext : Option Nat
deriving DecidableEq, Repr

/-- GBK state beside its registers. -/
structure Gbk where
  /-- Records in staging, oldest first (R457). -/
  staging : List GbkRec
  nextSeq : Nat
  /-- Consecutive drops since the last record staged. -/
  drops : Nat
  /-- The own ring in the PJM: slot to record (R458). -/
  ring : Assoc GbkRec
  /-- The partner's ring in this head's mirror region. -/
  mirror : Assoc GbkRec
  /-- T_ISSUE of the last accepted clear token (R461). -/
  lastIssue : Nat
  /-- The scan of R459 has ended. -/
  scanned : Bool
deriving DecidableEq, Repr

/-! ## HRI -/

/-- A consumed submission that has not completed. -/
structure Sub where
  e : SubEntry
  /-- The command has been started by its opcode's row. -/
  started : Bool
  /-- Resend: completes with the replayed indication (R41, R44). -/
  replayed : Bool
  /-- Waits for the original in progress (R41). -/
  follows : Bool
  /-- The replay window was advanced or marked for it: its outcome is stored (R43). -/
  stores : Bool
deriving DecidableEq, Repr

/-- A completion waiting to be written to a CQ, in order. -/
structure Ready where
  sub : Nat
  opcode : Nat
  tag : Nat
  irq : Bool
  status : Nat
  replayed : Bool
  result0 : Nat
  result1 : Nat
deriving DecidableEq, Repr

/-- An event entry of R99 waiting for a CQ entry. -/
structure HeldEvent where
  arg : Nat
  late : Bool
  instant : Nat
  lateness : Nat
  eps : Nat
deriving DecidableEq, Repr

/-- A host ring beside its registers (R84 to R102). -/
structure Ring where
  sqHead : Nat
  /-- The SQ tail in force, and the one recorded while not ACTIVE (R87). -/
  sqTail : Nat
  sqRecorded : Option Nat
  cqTail : Nat
  cqHead : Nat
  cqRecorded : Option Nat
  phase : Bool
  /-- The next completion sequence (R47). -/
  cplSeq : Nat
  /-- Highest sequence consumed. -/
  c : Nat
  /-- Entries fetched and not yet consumed, oldest first. -/
  fetched : List SubEntry
  /-- A fetch of this many descriptors is outstanding. -/
  fetching : Nat
  /-- Consumed submissions, oldest first, by consumption number. -/
  subs : Assoc Sub
  ready : List Ready
  heldEvents : List HeldEvent
  unsignalled : Nat
  firstUnsignalled : Option Nat
  /-- Local time of the last change the status block does not show yet. -/
  sbDirty : Option Nat
  updates : Nat
  /-- RESYNC waits for the consumed submissions to be decided (R101). -/
  resync : Bool
  /-- CQ entries written and not yet freed. -/
  cqUsed : Nat
deriving DecidableEq, Repr

/-- A function's state beside its registers (R79, R103). -/
structure Fn where
  stopped : Bool
  evqHead : Nat
  evqTail : Nat
  evtSeq : Nat
  /-- Events dropped since the last entry written. -/
  lost : Nat
  phase : Bool
  /-- Entries written and not yet freed. -/
  used : Nat
deriving DecidableEq, Repr

/-- HRI state beside its registers. -/
structure Hri where
  rings : Assoc Ring
  fns : Assoc Fn
  /-- Round-robin position of class 0 (R89). -/
  rr : Nat
  /-- The ring the weighted round robin of classes 1 to 3 serves, and the descriptors it may still take this round. -/
  wrr : Nat
  wrrLeft : Nat
deriving DecidableEq, Repr

/-! ## PJM and ISL -/

/-- One channel of the own log (R176 to R182). -/
structure PjmChan where
  /-- Offset of the next record, 64-byte units. -/
  headOff : Nat
  tailOff : Nat
  nextCseq : Nat
  tailCseq : Nat
  anchor0 : Anchor
  anchor1 : Anchor
  /-- Local time of the last advance of the tail that no anchor shows, and the units advanced since. -/
  tailMoved : Option Nat
  tailUnits : Nat
  /-- Local times of uncorrectable errors of the last second, newest first (R174). -/
  ueTimes : List Nat
deriving DecidableEq, Repr

/-- PJM state beside its registers. -/
structure Pjm where
  /-- Own records by JSEQ. -/
  recs : Assoc PjmRec
  chans : Assoc PjmChan
  /-- The partner's records in the mirror log, by the partner's JSEQ. -/
  mirror : Assoc MirrorRec
  /-- The mirror's anchors per channel (R182, R189). -/
  mirrorAnchors : Assoc Anchor
  /-- STAMP entries pending, oldest first: ORIG_JSEQ, t_a; and the local time of the oldest (R179). -/
  stamps : List (Nat × Nat)
  stampSince : Option Nat
  /-- The head refuses the partner's mirror records since it sent TAKE (R379). -/
  refuseMirror : Bool
  /-- Channels in a per-channel catch-up (R190). -/
  repairing : NatSet
deriving DecidableEq, Repr

/-- ISL state beside its registers (R185 to R189). -/
structure Isl where
  txSeq : Nat
  rxExpect : Nat
  /-- Flits sent and not acknowledged: FSEQ, times resent (R187). -/
  unacked : Assoc Nat
  /-- Local time of the last valid flit. -/
  lastFlit : Nat
  dseq : Nat
  /-- Grid number (cluster time ÷ 5 µs) the last drumbeat counted for, and absences in a row (R188). -/
  lastGrid : Nat
  missRun : Nat
  /-- Fields of the last drumbeat that no register shows. -/
  peerLayout : Option Nat
  peerFwGen : Nat
  peerEpoch : Nat
  peerEps : Nat
  /-- This head's mirror anchors are marked STALE and persistent (R189). -/
  staleWritten : Bool
  /-- Catch-up requested; the last copied record arrived. -/
  catchupAsked : Bool
  /-- The partner's catch-up is being served. -/
  serving : Bool
  /-- The last copied record of the catch-up has arrived (R189). -/
  copied : Bool
  /-- Grid number of the last drumbeat sent. -/
  sentGrid : Nat
  /-- The level the drumbeat's MIRROR_READY carries next. -/
  mirrorReady : Bool
deriving DecidableEq, Repr

/-! ## OWN -/

/-- A request of this head to its innkeepers in flight (R371, R375). -/
structure OwnReq where
  msg : IkMsg
  /-- Innkeepers that granted, with the LGEN and AGEN they answered. -/
  grants : List (Nat × Nat × Nat)
  refused : NatSet
  /-- RECORD replies: innkeeper, AGEN, first object, holder bits. -/
  records : List (Nat × Nat × Nat × Nat)
  done : Bool
deriving DecidableEq, Repr

/-- A side's lease in an innkeeper record. -/
structure IkLease where
  exp : Nat
  lgen : Nat
deriving DecidableEq, Repr

/-- An innkeeper's record of one array (R374). -/
structure IkRecord where
  leaseA : Option IkLease
  leaseB : Option IkLease
  agen : Nat
  /-- Holder of each object known: set n at n, group g at 2,000 + g. -/
  holders : Assoc Side
  heldTake : Option IkMsg
deriving DecidableEq, Repr

/-- OWN state beside its registers. -/
structure Own where
  /-- Requests in flight by T_SEND. -/
  reqs : Assoc OwnReq
  /-- T_SEND of the last message sent. -/
  lastSend : Nat
  /-- The sides that hold the ownership sets and the groups, at the AGEN learnt. -/
  sets : Assoc Side
  groups : Assoc Side
  moving : NatSet
  /-- The HANDOVER and TAKE messages of the last 64 values of AGEN (R375). -/
  kept : List IkMsg
  /-- Renewals in a row each innkeeper has missed. -/
  ikMiss : Assoc Nat
  /-- Cluster time, ns, of the next renewal. -/
  nextRenew : Nat
  /-- Innkeeper round trips of the last second: local time, ns (`OWN_RTT`). -/
  rtts : List (Nat × Nat)
  /-- Messages dropped because their tag failed (R373). -/
  macFails : Nat
  /-- Objects still to hand over, one at a time: sets, then groups at 2,000 + g (R387). -/
  handing : NatSet
  /-- T_SEND of a TAKE in flight or held. -/
  takeSent : Option Nat
  /-- A refused TAKE is sent again at this cluster time (R384). -/
  takeAgain : Option Nat
  /-- Local time at which TAKE was sent (R385). -/
  outageFrom : Nat
  /-- Groups being released (R381), and those whose HANDOVER follows. -/
  releasing : NatSet
  /-- RETURN_HOLD_S counts from this local time (R388). -/
  returnFrom : Option Nat
  /-- Innkeeper role: records by array, last T_SEND by array × 65,536 + sender, end of the restart wait. -/
  ikRecords : Assoc IkRecord
  ikLast : Assoc Nat
  /-- The last T_SEND accepted from each innkeeper (R373). -/
  fromIk : Assoc Nat
  ikRecovering : Option Nat
deriving DecidableEq, Repr

/-! ## NET and NVF -/

/-- A network port beside its registers (R106 to R110). -/
structure Port where
  /-- Ingress occupancy of each priority, bytes. -/
  occ : Assoc Nat
  /-- Priorities this head has paused at the link partner. -/
  pauseSent : NatSet
  /-- Local time since which the link partner pauses a priority whose watchdog has not run out in this pause. -/
  pausedSince : Assoc Nat
  /-- Frames above the MTU that were discarded (R108). -/
  oversize : Nat
deriving DecidableEq, Repr

/-- The states of RFC 9293 a passively opened connection passes through (R113). -/
inductive TcpSt where
  | synReceived | established | closeWait | closing | closed
deriving DecidableEq, Repr

/-- A TCP connection (R113, Table 05.2). -/
structure Tcp where
  listener : Nat
  st : TcpSt
  sndUna : Nat
  sndNxt : Nat
  rcvNxt : Nat
  /-- Times the oldest unacknowledged segment has been resent. -/
  retx : Nat
  ecn : Bool
  sack : Bool
  tsopt : Bool
  wscale : Nat
  mss : Nat
  /-- An ECN echo is owed to the sender. -/
  ece : Bool
  /-- Set by an ICReq (R120): transfer-ready PDUs the host takes per command, digests in use. -/
  maxR2t : Nat
  hdgst : Bool
  ddgst : Bool
  ready : Bool
deriving DecidableEq, Repr

/-- An association (R114 to R117, R123). -/
structure NvAssoc where
  host : Nat
  tenant : Nat
  adminQ : Nat
  /-- Keep Alive Timeout, ms; 0 none; and the local time at which it expires. -/
  kato : Nat
  kaEnd : Option Nat
  /-- Asynchronous Event Requests outstanding, oldest first. -/
  aers : List Nat
  /-- Controller Configuration as Property Set left it; CSTS.RDY follows CC.EN. -/
  cc : Nat
  /-- Features set. -/
  features : Assoc Nat
  /-- An ANA change notice waits for a request. -/
  anaNotice : Bool
deriving DecidableEq, Repr

/-- What R123 keeps of a host. -/
structure NvHost where
  /-- A C0h event waits for the host's next request. -/
  pendingEvent : Bool
  /-- A C0h event was posted and log page C0h has not been read with RAE cleared. -/
  posted : Bool
deriving DecidableEq, Repr

/-- An entry of the window of R45: command identifier, dwords 10 to 15. -/
structure NvWin where
  cid : Nat
  dwords : Nat
  st : SlotSt
  /-- Order of completion, for the choice of the entry that leaves. -/
  order : Nat
  /-- Resends that wait for the original (R41). -/
  follow : Nat
  /-- A read executed again for a resend (R44). -/
  replayed : Bool
  /-- Retrieve, Exist, List: dword 0 keeps its meaning (R130). -/
  keepsDw0 : Bool
deriving DecidableEq, Repr

/-- A queue of an association (R114, R45). -/
structure NvQueue where
  assoc : Nat
  qid : Nat
  trans : QTrans
  qsize : Nat
  win : List NvWin
  orderNext : Nat
deriving DecidableEq, Repr

/-- A write command whose data is being collected (R119, R120). -/
structure NvXfer where
  queue : Nat
  cid : Nat
  bytes : Nat
  /-- Bytes for which buffers have been granted and requested; bytes received. -/
  requested : Nat
  received : Nat
  /-- Transfer-ready PDUs outstanding: offset, length. -/
  r2t : List (Nat × Nat)
  op : Nat
  /-- The data received, as one little-endian number. -/
  acc : Nat
deriving DecidableEq, Repr

/-- A command this head forwarded to the partner (R126, R128). -/
structure Fwd where
  src : Src
  /-- The write carried, if the command changes state. -/
  op : Option Nat
  held : Bool
deriving DecidableEq, Repr

/-- The pending deferred errors of one host and namespace, oldest first (R52). -/
structure DefPair where
  host : HostRef
  nsid : Nat
  entries : List Deferred
deriving DecidableEq, Repr

/-- NET state beside its registers. -/
structure Net where
  ports : Assoc Port
  tcp : Assoc Tcp
deriving DecidableEq, Repr

/-- NVF state beside its registers. -/
structure Nvf where
  assocs : Assoc NvAssoc
  hosts : Assoc NvHost
  queues : Assoc NvQueue
  xfers : Assoc NvXfer
  fwds : Assoc Fwd
  deferred : List DefPair
deriving DecidableEq, Repr

/-! ## MAP, FLC and STR: placement groups -/

/-- Media states of a PG (Table 12.5). -/
inductive Media where
  | normal | lowSpare | readOnly
deriving DecidableEq, Repr

/-- A placement group. -/
structure Pg where
  oset : Nat
  home : Side
  /-- Stripe geometry: data and parity members. -/
  d : Nat
  p : Nat
  /-- Free sectors; sectors reserved by writes not yet destaged (R34); bands of reclamation headroom (R326). -/
  free : Nat
  reserved : Nat
  headroom : Nat
  /-- Good blocks given, and blocks erased and allocated to no band. -/
  blocks : Nat
  freeBlocks : Nat
  /-- Highest write sequence given (R38). -/
  wseq : Nat
  /-- The PG has refused a write since it last accepted one (R36). -/
  refusing : Bool
  media : Media
  /-- Spare blocks left, and allotted (R290). -/
  spares : Nat
  allotted : Nat
  /-- Next VALUE_ID (R250). -/
  nextValue : Nat
  /-- Next stripe number and buffer-stripe number. -/
  nextStripe : Nat
  /-- Groups whose channels its bands use. -/
  groups : NatSet
deriving DecidableEq, Repr

/-! ## MAP, DDP, CMP and MDC -/

/-- A leaf entry (Table 11.2) as one version of a block or value chunk: the version a cut at C holds is the one of highest
write sequence whose `stamp` is at or below C (R395, R396). -/
structure Leaf where
  kind : Nat
  voff : Nat
  birth : Nat
  addr : Nat
  wseq : Nat
  /-- The deduplication index handle (R200): page × 512 + slot. -/
  idx : Option Nat
  stamp : Nat
deriving DecidableEq, Repr

/-- A version of a key's value descriptor (R251); `present` is clear where the key was deleted. -/
structure KvVer where
  present : Bool
  vlen : Nat
  valueId : Nat
  chunks : Nat
  wseq : Nat
  stamp : Nat
deriving DecidableEq, Repr

/-- A stored chunk: the header of Table 09.5, its place and its plaintext. -/
structure Chunk where
  data : Nat
  origLen : Nat
  storedLen : Nat
  format : Nat
  enc : Bool
  cdc : Bool
  domain : Nat
  fp : Nat
  nsid : Nat
  /-- The key of the first leaf entry it was stored for, its write sequence and its PG. -/
  leaf : Nat
  wseq : Nat
  pg : Nat
  stripe : Nat
  /-- Its codewords can be read, and the restored plaintext checks (R218, R291). -/
  readable : Bool
  /-- Failed its CRC once reconstruction was tried (R218). -/
  crcBad : Bool
deriving DecidableEq, Repr

/-- An entry of a deduplication index page (Table 09.1); `pins` names the requesters' pins by chunk address. -/
structure IdxEntry where
  fp : Nat
  domain : Nat
  addr : Nat
  refcnt : Nat
  dying : Bool
  pins : Nat
deriving DecidableEq, Repr

/-- Where a leaf entry of a reduced write leads: its leaf key, KIND, address, index handle and VOFF. -/
structure Mapped where
  leaf : Nat
  kind : Nat
  addr : Nat
  idx : Option Nat
  voff : Nat
deriving DecidableEq, Repr

/-- A write being reduced (R195): at destage, or before its buffer stripe is programmed. -/
structure Destage where
  op : Nat
  direct : Bool
  stripe : Nat
  /-- One chunk address per chunk, as the placement gives them; `addr` of a chunk that stores nothing is not used. -/
  addrs : List Nat
  /-- Outcomes; none while a query to the partner's half is unanswered. -/
  outs : List (Option ChunkOut)
  /-- Local time at which queries were sent. -/
  since : Nat
  /-- The MAPDELTA or INTENT record, once issued. -/
  jseq : Option Nat
  /-- What was stored, and its slot bytes, once decided. -/
  mapped : List Mapped
  bytes : Nat
  stored : Bool
deriving DecidableEq, Repr

/-- An entry of the deferred queue (R209): leaf key, its write sequence, the chunk's address. -/
structure DeferEnt where
  leaf : Nat
  wseq : Nat
  addr : Nat
deriving DecidableEq, Repr

/-- DDP state beside its registers. -/
structure Ddp where
  /-- Entries by handle: page × 512 + slot. -/
  idx : Assoc IdxEntry
  /-- APPLIED_A and APPLIED_B of each page. -/
  applied : Assoc (Nat × Nat)
  /-- Bits set in each page's filter block (R201). -/
  filter : Assoc NatSet
  /-- Recent table: set to handles, most recently used first (R202). -/
  recent : Assoc (List Nat)
  /-- Index pages in the index cache, most recently used first. -/
  icache : List Nat
  deferQ : List DeferEnt
deriving DecidableEq, Repr

/-- A checkpoint running (R258). -/
structure Ckpt where
  fenceA : Nat
  fenceB : Nat
  t : Nat
  /-- Pages it writes that no delta has reached since. -/
  pages : NatSet
  /-- The directory is being written (step 3). -/
  dir : Bool
deriving DecidableEq, Repr

/-- An ownership set in MAP (R257 to R260). -/
structure MapSet where
  /-- Local time of the start of the last checkpoint. -/
  lastStart : Option Nat
  /-- Delta bytes since the last fence. -/
  bytes : Nat
  gen : Nat
  run : Option Ckpt
  /-- Another checkpoint starts when the running one ends. -/
  again : Bool
  recovering : Bool
  merging : Bool
deriving DecidableEq, Repr

/-- MAP state beside its registers. -/
structure MapSt where
  leaves : Assoc (List Leaf)
  kv : Assoc (List KvVer)
  chunks : Assoc Chunk
  sets : Assoc MapSet
  /-- Dirty map pages: page to ownership set. -/
  dirty : Assoc Nat
  /-- Pages in the map cache, most recently used first. -/
  cached : List Nat
  /-- Fetches that wait for a clean frame. -/
  fetchWait : List Nat
  destages : Assoc Destage
  /-- Local time at which recovery started. -/
  recoveryFrom : Option Nat
deriving DecidableEq, Repr

/-- A line of the metadata cache (R263, R264). -/
structure MdcLine where
  addr : Nat
  dirty : Bool
  age : Nat
deriving DecidableEq, Repr

/-- MDC state beside its registers. -/
structure Mdc where
  /-- Valid lines by set × 16 + way. -/
  lines : Assoc MdcLine
deriving DecidableEq, Repr

/-! ## KVS -/

/-- A command read from a session slot (R337). -/
structure SessCmd where
  slot : Nat
  e : EnoreRec
  replayed : Bool
  follows : Bool
  stores : Bool
  /-- It has passed the routing of R334 and may be executed. -/
  routed : Bool
  started : Bool
  /-- The array that an STS_MOVED of R351 names. -/
  owner : Nat
deriving DecidableEq, Repr

/-- A response to be written (R342). -/
structure SessResp where
  slot : Nat
  seq : Nat
  status : Nat
  replayed : Bool
  ending : Bool
  opcode : Nat
  owner : Nat
  vlen : Nat
  written : Nat
  version : Nat
  tA : Nat
deriving DecidableEq, Repr

/-- An Enore session (R335 to R338). -/
structure Sess where
  client : Nat
  nsid : Nat
  tenant : Nat
  qp : Nat
  slotsLog2 : Nat
  evtLog2 : Nat
  respImm : Bool
  respAddr : Nat
  /-- Index of its session window in RDM. -/
  window : Nat
  attached : Bool
  /-- Commands read, in reading order. -/
  cmds : Assoc SessCmd
  nextCmd : Nat
  resps : List SessResp
  evtSeq : Nat
  lastUse : Nat
  closedAt : Option Nat
deriving DecidableEq, Repr

/-- Attributes of a key-value namespace (Table 15.1). -/
structure NsKv where
  cluster : Bool
  span : Bool
  hashLen : Nat
  k : Nat
  m : Nat
  /-- Span set size, and the entries of `KVS_SPAN_SET`. -/
  nset : Nat
  entries : List Nat
deriving DecidableEq, Repr

/-- The span set: the first `nset` entries. -/
def NsKv.set (a : NsKv) : List Nat := (List.range a.nset).map (fun j => a.entries.getD j 0)

/-- An entry of the bucket table (R330). -/
structure Bucket where
  array : Nat
  pinned : Bool
  moving : Bool
deriving DecidableEq, Repr

/-- A granted placement update that waits for its T_EFF (R333). -/
structure EpochUpd where
  tEff : Nat
  changes : List PlaceChange
deriving DecidableEq, Repr

/-- A Caravan (R350); the phase is in `KVS_STATUS`. -/
structure Caravan where
  peer : Nat
  buckets : List Nat
  epoch : Nat
  tc : Nat
  /-- Source: the instant up to which values and deletes have been shipped. -/
  since : Nat
  /-- Target: destage sectors reserved, by PG. -/
  reserve : Assoc Nat
  /-- Highest batch sent, or applied. -/
  batch : Nat
  /-- Target: keys the batches have installed: NSID, key, key length. -/
  keys : List (Nat × Nat × Nat)
deriving DecidableEq, Repr

/-- A request held for a range that is being installed (R353). -/
structure HeldReq where
  src : Src
  /-- Local time at which it was held. -/
  since : Nat
deriving DecidableEq, Repr

/-- KVS state beside its registers. -/
structure Kvs where
  sessions : Assoc Sess
  /-- The persistent counter of SESSION_ID (R335). -/
  nextSession : Nat
  ns : Assoc NsKv
  buckets : Assoc Bucket
  /-- Bucket-PG table (R329). -/
  pgmap : Assoc Nat
  heat : Assoc Nat
  updates : Assoc EpochUpd
  /-- Updates this head's array has granted as an authority (R333), and its highest epoch granted. -/
  granted : Assoc EpochUpd
  fills : Assoc (Nat × Nat)
  /-- The highest epoch seen in a request, a response or a drumbeat. -/
  seenEpoch : Nat
  outC : Option Caravan
  inC : Option Caravan
  held : List HeldReq
deriving DecidableEq, Repr

/-! ## SNP -/

/-- A catalogue entry (Table 18.2), by its epoch. -/
structure CatEntry where
  nsid : Nat
  cut : Nat
  pred : Nat
  srcNsid : Nat
  state : Nat
  scheduled : Bool
  sched : Nat
  linkBase : Bool
  cloneSrc : Bool
  epsNs : Nat
  expose : Nat
  /-- The create flush is persistent: the cut is armed (R403, R404). -/
  armed : Bool
deriving DecidableEq, Repr

/-- What a catalogue flush records (R403). -/
inductive FlushOf where
  | create (epoch : Nat)
  | ready (epoch : Nat)
  | remove (epoch : Nat) (cmd : Bool)
  | withdraw (epoch : Nat)
  | clone (nsid epoch : Nat)
  | attach (epoch : Nat)
  | promote (nsid : Nat)
  | freeze (nsid epoch : Nat)
  | internal (link epoch : Nat)
deriving DecidableEq, Repr

/-- A batch sent and not acknowledged. -/
structure SentBatch where
  b : Batch
  at_ : Nat
  firstAt : Nat
  /-- The write of a KIND 3 batch. -/
  op : Option Nat
deriving DecidableEq, Repr

/-- A replication link beside its registers (R409 to R416). -/
structure Link where
  /-- Base cut and its epoch; 0 for a full copy. -/
  base : Nat
  baseEpoch : Nat
  nextBatch : Nat
  sent : Assoc SentBatch
  /-- The cut whose delta is being shipped, with its epoch. -/
  shipping : Option (Nat × Nat)
  /-- C_r of a CATCHUP (R415) and its epoch. -/
  cr : Option Nat
  lastReply : Nat
  /-- Measured round trip of the link, ns. -/
  rttNs : Nat
deriving DecidableEq, Repr

/-- A replica this head's array holds (R411). -/
structure Replica where
  srcArray : Nat
  link : Nat
  /-- Batches applied, and the highest batch of the last delta frozen. -/
  applied : NatSet
  doneTo : Nat
  /-- The LAST batch of the delta being received: its number and cut. -/
  last : Option (Nat × Nat)
  /-- A delta is being received; a synchronous write has arrived since the last one ended. -/
  partial_ : Bool
  sync : Bool
  /-- Source write sequence held for each block or key. -/
  srcWseq : Assoc Nat
  lastCut : Nat
deriving DecidableEq, Repr

/-- SNP state beside its registers. -/
structure Snp where
  cat : Assoc CatEntry
  nextEpoch : Nat
  flushes : List FlushOf
  links : Assoc Link
  replicas : Assoc Replica
  /-- Clones: NSID to source NSID and cut (R407). -/
  clones : Assoc (Nat × Nat)
  /-- Namespaces whose acceptance is held because a cut is unarmed at its instant (R404). -/
  heldNs : NatSet
deriving DecidableEq, Repr

/-! ## FLC, STR and GCX -/

/-- A block (R285 to R289), by its address. -/
structure BlockSt where
  /-- Wear in eighths of an erase. -/
  wear : Nat
  reads : Nat
  slc : Bool
  bad : Bool
  /-- Codewords that reached step 3 since the last erase. -/
  step3 : Nat
  refreshQueued : Bool
  /-- Cluster time, ns, of the program of its oldest page. -/
  firstProg : Nat
  pg : Nat
deriving DecidableEq, Repr

/-- What a LUN is doing (R275). -/
structure LunSt where
  erasing : Bool
  suspended : Nat
  reads : Nat
  /-- Left busy by a former holder (R277). -/
  foreign : Bool
deriving DecidableEq, Repr

/-- A block family's tracked read offsets (R281). -/
structure Family where
  lun : Nat
  window : Nat
  offsets : List Int
deriving DecidableEq, Repr

/-- A read that waits for codewords the partner reads (R14), or for its set's recovery (R260): what the command asks, the flash pages
that have come back, and those still missing (channel, LUN, page). -/
structure WaitRead where
  src : Src
  nsid : Nat
  read : ReadOf
  xferOk : Bool
  short : Bool
  got : List (Nat × Nat × Nat)
  left : List (Nat × Nat × Nat)
deriving DecidableEq, Repr

/-- FLC state beside its registers. -/
structure Flc where
  blocks : Assoc BlockSt
  luns : Assoc LunSt
  families : List Family
  /-- Family tables in the metadata reserve, as the last sweep saved them. -/
  saved : List Family
  geomBad : Bool
  /-- The parameter page all LUNs report. -/
  geom : Option ParamPage
  /-- LUNs retired (R449). -/
  lunsOut : NatSet
  /-- Groups FLC has taken up since their drivers enabled (R277). -/
  takenUp : NatSet
  /-- Channels that finished their take-up's first read. -/
  marginOk : NatSet
  /-- Reads that wait. -/
  reads : List WaitRead
deriving DecidableEq, Repr

/-- What a stripe carries. -/
inductive StripeKind where
  | buffer | destage | reloc | fold | metadata
deriving DecidableEq, Repr

/-- Stripe states (Table 13.3); a FREE stripe is not listed. -/
inductive StripeSt where
  | opened | sealed | closed | degraded | lost
deriving DecidableEq, Repr

/-- A stripe (R293 to R308), by STRIPE_ID. -/
structure Stripe where
  kind : StripeKind
  st : StripeSt
  d : Nat
  p : Nat
  ops : List Nat
  /-- It is closed for programming (R28). -/
  full : Bool
  /-- Local time at which its oldest write arrived. -/
  since : Nat
  passed : NatSet
  /-- Members VOID in the manifest, and members that have failed. -/
  void : NatSet
  failed : NatSet
  /-- Codeword positions lost. -/
  lostPos : NatSet
  sif : Option Nat
  step : Nat
  /-- The sectors it holds. -/
  sectors : Nat
deriving DecidableEq, Repr

/-- Reclamation states of a band (Table 14.3); a FREE band is not listed. -/
inductive BandSt where
  | inUse | claimed | copied | held
  /-- Step 4 of R322 is done: free to erase. -/
  | erasable
  | erasing
deriving DecidableEq, Repr

/-- A band (R293, R296), by PG + 65,536 × BAND. -/
structure Band where
  d : Nat
  p : Nat
  kind : StripeKind
  slc : Bool
  short : Bool
  members : List Nat
  rows : Nat
  /-- Cluster time, ns, at which its last stripe closed. -/
  tClose : Nat
  st : BandSt
  /-- Sweep passes begun when it became HELD (R323). -/
  heldPass : Nat
  /-- Relocation records that must be persistent before it may be erased. -/
  waits : NatSet
  /-- Members whose erase has not passed yet (R322 step 5). -/
  eraseLeft : NatSet
  pins : List Nat
deriving DecidableEq, Repr

/-- A lost-extent entry (R308, R309). -/
structure LostExt where
  nsid : Nat
  start : Nat
  count : Nat
  addr : Nat
deriving DecidableEq, Repr

/-- An update of a spanning stripe in flight at its initiator (R307). -/
structure SpanUpd where
  step : Nat
  sif : Nat
  /-- Members whose holder has acknowledged, and whose holder is marked failed. -/
  acked : NatSet
  failed : NatSet
  members : NatSet
  k : Nat
  m : Nat
  tries : Nat
  since : Nat
  sent : Bool
  op : Nat
  /-- The messages of the update with the arrays they go to, to be resent. -/
  msgs : List (Nat × SpanMsg)
deriving DecidableEq, Repr

/-- STR state beside its registers. -/
structure Str where
  stripes : Assoc Stripe
  bands : Assoc Band
  lostExt : List LostExt
  lostTable : NatSet
  spans : Assoc SpanUpd
  /-- Holder role: last STEP applied, by stripe × 32 + member; the message whose application waits for its acceptance. -/
  spanStep : Assoc Nat
  /-- Initiator role: the last STEP of each stripe. -/
  initStep : Assoc Nat
  spanIn : Assoc SpanMsg
  /-- Bands queued for rebuild. -/
  rebuild : List Nat
  patrolCursor : Nat
deriving DecidableEq, Repr

/-- Work waiting in GCX (R318): class and band, in order of arrival. -/
structure GcxWork where
  cls : Nat
  band : Nat
deriving DecidableEq, Repr

/-- A chunk copied out of a band (R322): its source and new address, the stripe it went to, and whether the record that moves it is
issued. -/
structure GcxMove where
  src : Nat
  dst : Nat
  stripe : Nat
  recorded : Bool
deriving DecidableEq, Repr

/-- GCX state beside its registers. -/
structure Gcx where
  work : List GcxWork
  moves : List GcxMove
  /-- Relocation table: source address to new address (R323). -/
  table : Assoc Nat
  /-- Passes begun; a pass runs. -/
  passes : Nat
  sweeping : Bool
  /-- Records the running pass has written that are not persistent. -/
  sweepRecs : NatSet
deriving DecidableEq, Repr

/-! ## MTE, LPE and AGE -/

/-- An update waiting in the queue of R363: entry, operation (1 WRITE, 2 INVALIDATE, 3 RESULT), image. -/
structure MteUpd where
  index : Nat
  op : Nat
  image : MteEntry
deriving DecidableEq, Repr

/-- MTE state beside its registers: entries with any content (R357), and the update queue (R363). -/
structure Mte where
  entries : Assoc MteEntry
  queue : List MteUpd
deriving DecidableEq, Repr

/-- A loop beside its registers (R421 to R431). -/
structure LoopSt where
  /-- No sample has run since the enable (R429). -/
  fresh : Bool
  /-- Local time until which the last sample is pending (R422). -/
  busyUntil : Nat
  /-- Local time of the last local sample (R423). -/
  localAt : Option Nat
  /-- Local sampling has stopped at a Carillon action after LOCKED (R423). -/
  localDone : Bool
  /-- A target that AGE has staged and committed for this loop alone (R435). -/
  spNext : Option Nat
deriving DecidableEq, Repr

/-- LPE state beside its registers: loops, and the outputs in force at the destinations, by destination × 256 + instance
(Table 19.1), as signed Q16.16 fields; an unlisted one holds its reset value (R429). -/
structure Lpe where
  loops : Assoc LoopSt
  dests : Assoc Nat
deriving DecidableEq, Repr

/-- AGE state beside its registers: the hourly history (R434), oldest first: cluster time of the sweep, ns, and δ, ‰. -/
structure Age where
  history : List (Nat × Frac)
  /-- The first target of loop 0 since the reset has been staged (R435). -/
  staged : Bool
deriving DecidableEq, Repr

/-! ## RDM, POL and CIP -/

/-- Queue pair states (Table 06.2); a queue pair in RESET is not listed. -/
inductive QpSt where
  | init | rtr | rts | error
deriving DecidableEq, Repr

/-- A message a queue pair is receiving (R149): the window it was validated on, if its opcode names one. -/
structure RdmMsg where
  op : RdmaOp
  window : Option Nat
  off : Nat
  len : Nat
  imm : Option Nat
deriving DecidableEq, Repr

/-- A Reliable Connected queue pair (R134 to R142). -/
structure Qp where
  st : QpSt
  consumer : Nat
  tenant : Nat
  /-- Engine that serves its port (R134). -/
  engine : Nat
  /-- As responder: the expected PSN, and a NAK Sequence Error is out for the present gap (R138). -/
  expPsn : Nat
  nakSent : Bool
  /-- The message being received. -/
  msg : Option RdmMsg
  /-- As requester: oldest unacknowledged and next PSN, resends without progress, RNR NAKs without progress (R139). -/
  una : Nat
  nxt : Nat
  retries : Nat
  rnrs : Nat
  ackTimeout : Nat
  retryCnt : Nat
  rnrRetry : Nat
  /-- Local time at which the retransmit timer expires. -/
  timer : Option Nat
  /-- Rate R, line rate, 100 Mb/s units; the probe out: PSN and departure; local times of the last probe and the last send
  (R140). -/
  rate : Frac
  line : Nat
  probe : Option (Nat × Nat)
  probeAt : Nat
  lastSend : Nat
  /-- The window × 16,384 + page whose translation miss stalls it (R155). -/
  missing : Option Nat
  /-- Local time of the first fault of the message it receives (R152). -/
  faultAt : Option Nat
  /-- The timer runs for an RNR NAK, whose resend counts against RNR_RETRY only (R139). -/
  rnrWait : Bool
deriving DecidableEq, Repr

/-- A memory window (Table 06.4). -/
structure Win where
  d : WinDesc
  gen : Nat
  /-- 0 FREE, 1 OPENING, 2 OPEN, 3 CLOSING. -/
  st : Nat
  outstanding : Nat
  refused : Nat
  /-- Local time of the revoke (R151). -/
  revokedAt : Nat
  /-- `RDM_WIN_CMD` awaits the end of an open or a revoke; so does a consumer's port. -/
  bar0 : Bool
  port : Bool
deriving DecidableEq, Repr

/-- An adapter fault that is outstanding (R152 to R154): engine, queue pair, window, page; a READ request held without a
response, with the range it asks for and its PSN. -/
structure RdmFault where
  engine : Nat
  qp : Nat
  window : Nat
  page : Nat
  held : Bool
  off : Nat
  len : Nat
  psn : Nat
deriving DecidableEq, Repr

/-- RDM state beside its registers. -/
structure Rdm where
  qps : Assoc Qp
  wins : Assoc Win
  faults : List RdmFault
  /-- Translation cache of each engine, most recently used first: window × 16,384 + page (R155). -/
  wtc : Assoc (List Nat)
deriving DecidableEq, Repr

/-- A pool's free store (R165, R166): the cache on chip, top first; the ring as the indices at and above `lo` that no
refill has taken yet, and after them the spilled ones, oldest first; and the set state bits. -/
structure Pool where
  cache : List Nat
  lo : Nat
  ring : List Nat
  taken : NatSet
deriving DecidableEq, Repr

/-- A waiting allocation (R162). -/
structure PolWait where
  block : Nat
  pool : Nat
  owner : Nat
  n : Nat
deriving DecidableEq, Repr

/-- POL state beside its registers. -/
structure Pol where
  pools : Assoc Pool
  waits : List PolWait
  /-- Owner served last by the round robin of each pool. -/
  rr : Assoc Nat
  /-- Owners of kind queue bound to a queue (R160): kind of queue and number; and whether that queue has ended. -/
  bound : Assoc (Nat × Bool)
deriving DecidableEq, Repr

/-- A loaded key (Table 10.5). -/
structure CipKey where
  kind : Nat
  usage : Nat
  tenant : Nat
  key : Nat
deriving DecidableEq, Repr

/-- CIP state beside its registers: key slots LOADED or ERASING, KEKs LOADED, the key-slot cache by set, most recently used
first (R239). -/
structure Cip where
  slots : Assoc CipKey
  keks : Assoc CipKey
  kcache : Assoc (List Nat)
deriving DecidableEq, Repr

/-! ## FWU and DBG -/

/-- A boot record (Table 22.2). -/
structure BootRec where
  rseq : Nat
  active : Nat
  trial : Bool
  tries : Nat
  prevValid : Bool
  cfgActive : Nat
  cfgPrev : Nat
  deadline : Nat
deriving DecidableEq, Repr

/-- FWU state beside its registers: the boot flash (Table 22.1), which no reset changes, and the update in progress. -/
structure Fwu where
  /-- Valid copies of the boot record. -/
  copy0 : Option BootRec
  copy1 : Option BootRec
  /-- Images in the slots. -/
  slots : Assoc FwImage
  /-- Configuration stores that hold a configuration: CFG_FMT and the image. -/
  stores : Assoc (Nat × Image)
  /-- Step 2 of R472 runs: objects are being handed over. -/
  activating : Bool
  /-- DEADLINE of the partner's trial, as it sent it (R471). -/
  partnerDeadline : Option Nat
  /-- The record of a fall-back to be written after the boot (R474): trial FW_GEN and cause. -/
  fellBack : Option (Nat × Nat)
  /-- The boot ROM reads an image that does not verify: its slot and the local time of the read's start (R491). -/
  booting : Option (Nat × Nat)
deriving DecidableEq, Repr

/-- The fuses (Table 26.2). -/
structure Fuses where
  root : Option Nat
  pub : Option Nat
  roll : List Nat
  lock : Bool
deriving DecidableEq, Repr

/-- DBG state beside its registers: the TAP (R526), the loopback (R534), fuse programming (R531). -/
structure Dbg where
  /-- Instruction register. -/
  ir : Nat
  /-- Boundary-scan cells: as preloaded, and as captured. -/
  preload : Nat
  /-- Value the next Capture-DR shifts out. -/
  dr : Nat
  fuses : Fuses
  /-- Loopback running: kind, target, local time of its end. -/
  loop : Option (Nat × Nat × Nat)
deriving DecidableEq, Repr

/-! ## What leaves the head -/

/-- What the head sends or drives outside itself, in one journal: the newest first. -/
inductive Out where
  /-- An MSI-X message: function, local vector (R102, R525). -/
  | msix (fn vector : Nat)
  /-- An event entry written to a function's event ring (R103): function, address. -/
  | event (fn addr : Nat) (e : EventEntry)
  /-- A completion entry written to a CQ: ring, index (R94). -/
  | completion (ring idx : Nat) (e : ComplEntry)
  /-- A ring status block write (R100). -/
  | statusBlock (ring : Nat) (b : StatusBlock)
  /-- A resync record write, and the later write of DONE (R101). -/
  | resync (ring : Nat) (r : ResyncRec)
  | resyncDone (ring : Nat)
  /-- A descriptor fetch from host memory: ring, first index, count (R89). -/
  | fetch (ring idx count : Nat)
  /-- Data written to host memory: function, address, content (R97); the output of a job byte by byte. -/
  | hostData (fn addr : Nat) (data : List Nat)
  /-- The value a register read returned (R2): BAR0 offset, value. -/
  | regValue (off value : Nat)
  /-- An innkeeper message: recipient, message (R372). -/
  | ik (dest : Nat) (m : IkMsg)
  /-- A message over the Isaov link: virtual channel (Table 08.9). -/
  | isl (vc : Nat) (m : IslMsg)
  /-- A flit acknowledgement, or a NAK, of the Isaov link: FSEQ (R186). -/
  | flitAck (fseq : Nat)
  | flitNak (fseq : Nat)
  | flitResend (fseq : Nat)
  /-- A pulse of this many ns on `FENCE_OUT_N` (R389). -/
  | fencePulse (ns : Nat)
  /-- A PTP Delay_Req or Pdelay_Req on a port (R57): port, peer delay. -/
  | delayReq (port : Nat) (pdelay : Bool)
  /-- A Carillon trigger delivered to a block (Table 03.3, R73): block, trigger input, ARG, instant, lateness, ε, late
  mark.  The block's own command acts on it. -/
  | trigger (block input arg instant lateness eps : Nat) (late : Bool)
  /-- The rise of `PPS_OUT`, width in µs (R61). -/
  | ppsOut (widthUs : Nat)
  /-- Guestbook records copied to host memory (0) or DDR5 (1): destination, address, records (R460). -/
  | gbkCopy (dst addr : Nat) (rs : List GbkRec)
  /-- A PMBus VOUT_COMMAND: device, mV (R485); a STATUS_WORD and READ_POUT poll of a device (R483). -/
  | vout (dev mv : Nat)
  | pmbusRead (dev : Nat)
  /-- A PFC frame: port, priority, pause or resume (R109). -/
  | pfc (port prio : Nat) (pause : Bool)
  /-- TCP segments: connection, sequence of an acknowledgement or of a resend; a RST (R113). -/
  | tcpSynAck (conn : Nat)
  | tcpAck (conn ack : Nat) (ece : Bool)
  | tcpResend (conn seq : Nat)
  | tcpRst (conn : Nat)
  /-- An NVMe completion: queue, command identifier, status code, status type and code, dword 0, DNR (R130). -/
  | nvmeCpl (queue cid status sct sc dw0 : Nat) (dnr : Bool)
  /-- Data returned to an NVMe host: queue, command identifier, content. -/
  | nvmeData (queue cid : Nat) (data : List Nat)
  /-- A transfer-ready PDU or the RDMA READ in its place: queue, command identifier, offset, bytes, and the owner its buffers are charged
  to (R119, R160). -/
  | grantData (queue cid off bytes : Nat) (owner : Option Nat)
  /-- An NVMe/TCP ICResp: connection, digests. -/
  | icResp (conn : Nat) (hdgst ddgst : Bool)
  /-- A fatal transport error that ends a connection (R120). -/
  | termReq (conn : Nat)
  /-- An Enore response or event written to a client (R342): session, response; event code, namespace, bucket, cause, time. -/
  | enoreResp (session epoch : Nat) (r : SessResp) (imm : Bool)
  | enoreEvent (session seq code cause nsid bucket time : Nat)
  /-- Data written to an Enore client: session, address, content. -/
  | enoreData (session addr : Nat) (data : List Nat)
  /-- The reply to a session open or attach: queue pair, opcode, status, session, RKEY, epoch, B, H (Table 15.2). -/
  | sessReply (qp op status session rkey epoch b h : Nat)
  /-- A batch to another array (R409): array, batch. -/
  | batch (array : Nat) (b : Batch)
  /-- Messages of placement and Caravan (R333, R349, R350): array, kind, epoch, instant. -/
  | placeMsg (array kind epoch t : Nat) (changes : List PlaceChange)
  | caravanMsg (array phase : Nat) (buckets : List Nat) (bytes : Nat)
  /-- What the authority answers a balancing round (R349): the means of fill and heat, the arrays of lowest fill and heat. -/
  | fillAnswer (array fill heat lowFill lowHeat : Nat)
  /-- Replay slots of a session shipped with a final delta (R352): array, session, B, sequences with their statuses. -/
  | caravanSlots (array session b : Nat) (slots : List (Nat × Nat))
  /-- Flash commands (R274 to R289): program of a stripe's members, erase of a block, a sense of a page, SET FEATURES and
  training of a channel, RESET of a LUN, take-up of a group. -/
  | program (stripe : Nat) (members : List Nat)
  | erase (block : Nat)
  | sense (addr step : Nat)
  | train (chan rate : Nat)
  | lunReset (lun : Nat)
  | takeUp (group : Nat)
  /-- A span message to a holder (R306): array, message. -/
  | span (array : Nat) (m : SpanMsg)
  /-- A gratuitous ARP or unsolicited Neighbor Advertisement for an address (R129). -/
  | announce (addr : Nat)
  /-- RoCEv2 (R138 to R142, R152): acknowledgement of a PSN; NAK Sequence Error, Invalid Request (1) or Remote Access Error
  (2) at a PSN; RNR NAK with its timer value; resend from a PSN; a probe packet; a READ response. -/
  | roceAck (qp psn : Nat)
  | roceNak (qp psn code : Nat)
  | roceRnr (qp timer : Nat)
  | roceResend (qp psn : Nat)
  | roceProbe (qp psn : Nat)
  | roceRead (qp window off len : Nat)
  /-- A delivery to a consumer's input queue (R142): consumer, queue pair, immediate, window, offset, length. -/
  | roceDeliver (consumer qp : Nat) (imm window : Option Nat) (off len : Nat)
  /-- A refusal record to a consumer (R149, R150): status, queue pair, PSN, window. -/
  | roceRefusal (consumer status qp psn window : Nat)
  /-- Work of a queue pair ends with a status, at its consumer (R137); a window command of a block ends (R151). -/
  | qpEnded (consumer qp status : Nat)
  | winDone (window status : Nat) (timeout : Bool)
  /-- POL's answer to a block (R161, R162, R169): pool, owner, status, buffers granted. -/
  | polAnswer (block pool owner status : Nat) (bufs : List Nat)
  /-- What the TAP shifts out (R526, R529). -/
  | tap (v : Nat)
deriving DecidableEq, Repr

/-! ## The machine -/

/-- The whole state of the head. -/
structure State where
  /-- Register fields in force, by bit address (R518): a field not listed holds its reset value. -/
  regs : Assoc Nat
  /-- Shadow registers (R4): staged values that no commit has latched. -/
  shadow : Assoc Nat
  /-- Values latched by the commits pending (R441). -/
  latched : Assoc Nat
  /-- Local time of the 25 MHz reference, in sevenths of a picosecond (R66). -/
  now : Nat
  /-- The model's own counter of free values drawn (no part of the head). -/
  free : Nat
  /-- What has left the head, newest first. -/
  out : List Out
  /-- Replay windows of rings and Enore sessions (R40), as they stand in the PJM. -/
  wins : Assoc RWin
  /-- Writes the head carries, by arrival. -/
  ops : Assoc WriteOp
  nextOp : Nat
  glb : Glb
  aon : Aon
  pwr : Pwr
  car : Car
  adm : Adm
  gbk : Gbk
  hri : Hri
  pjm : Pjm
  isl : Isl
  own : Own
  net : Net
  nvf : Nvf
  pgs : Assoc Pg
  flc : Flc
  str : Str
  gcx : Gcx
  ddp : Ddp
  map : MapSt
  mdc : Mdc
  kvs : Kvs
  snp : Snp
  mte : Mte
  lpe : Lpe
  age : Age
  rdm : Rdm
  pol : Pol
  cip : Cip
  fwu : Fwu
  dbg : Dbg
  /-- The commands that wait, first in, first out. -/
  pending : List Instr
deriving DecidableEq, Repr

/-! ## Reasons a step can stop -/

/-- Faults.  No command of this block stops the machine with a fault: every error the spec describes is an effect on
the state (an error bit, a status, a record).  The one constructor keeps the type inhabited; nothing raises it (safe). -/
inductive Fault where
  /-- Raised by nothing. -/
  | none
deriving DecidableEq, Repr

/-- Refusals. -/
inductive Refusal where
  /-- Raised by an arm of `exec` whose command has no meaning yet (safe): named by its mnemonic. -/
  | notModelled (mnemonic : String)
deriving DecidableEq, Repr

/-! ## Reset -/

/-- The always-on domain after a power-on (Table 23.3): no claim, the timers stopped, both feeds in range.  The strap levels are
the board's; side A and one x16 link here (the model's choice). -/
def Aon.powerOn : Aon :=
  { feedA := true, feedB := true, sysRst := false, perst := false, mainReset := true, side := .a, sidePin := .a, bifPin := false,
    fenceIn := false, fenced := false, fenceOut := false, leaseEnd := none, claimMask := [], claimOut := [], claimIn := [],
    drivers := [], settle := [], bootFail := false, backstop := none, totalVfs := 0, totalVfsCfg := 0, rootKey := none, resetCause := 0 }

/-- A regulator chain with its power-good input high. -/
def Chain.good : Chain := { pwrgd := true, faulted := false, dirtyAt := 0, due := none }

/-- CAR in UNSYNCED. -/
def Car.init : Car :=
  { base := Frac.zero, baseAt := 0, y := Frac.zero, integ := Frac.zero, lastMeas := none, lockRun := 0, stepped := false,
    leftAcq := false, epsK := Frac.zero, logInterval := 0, secondsKnown := false, epsLowSince := none, ppsInAt := none,
    ppsOutUntil := none, lastStep := 0, ptpTheta := none, delayReqAt := none, dayEnd := none }

/-- OWN with nothing known of any object. -/
def Own.init : Own :=
  { reqs := [], lastSend := 0, sets := [], groups := [], moving := [], kept := [], ikMiss := [], nextRenew := 0, rtts := [],
    macFails := 0, handing := [], takeSent := none, takeAgain := none, outageFrom := 0, releasing := [], returnFrom := none, ikRecords := [],
    ikLast := [], fromIk := [], ikRecovering := none }

/-- ISL with its link down. -/
def Isl.init : Isl :=
  { txSeq := 0, rxExpect := 0, unacked := [], lastFlit := 0, dseq := 0, lastGrid := 0, missRun := 0, peerLayout := none,
    peerFwGen := 0, peerEpoch := 0, peerEps := 0, staleWritten := false, catchupAsked := false, serving := false,
    copied := false, sentGrid := 0, mirrorReady := false }

/-- What the fuses and R102 give the registers at reset: stepping B1, speed grade 16, a unique identifier, the sigma of the
delay monitors (the model's choice of part); 64 vectors for a physical function and 7 for a virtual one. -/
def resetRegs : Assoc Nat :=
  [(Fld.GLB_REV_MINOR.key 0 0, 1), (Fld.GLB_REV_MAJOR.key 0 0, 1), (Fld.GLB_REV_SPEED.key 0 0, 16),
   (Fld.GLB_UID_UID.key 0 0, 1)] ++
  (List.range 256).map (fun n => (Fld.HRI_FN_MSIX_COUNT.key n 0, if n < 4 then 64 else 7)) ++
  [(Fld.AGE_FUSE_PS_PER_MV.key 0 0, 256)]

/-- The machine right after a power-on reset: every register at its reset value, no namespace, no stripe, an empty journal, a
blank boot flash, unprogrammed fuses (R522, R531, R537), and no command waiting. -/
def State.reset : State where
  regs := resetRegs
  shadow := []
  latched := []
  now := 0
  free := 0
  out := []
  wins := []
  ops := []
  nextOp := 0
  glb := { armed := true, lastMsg := none, held := false }
  aon := Aon.powerOn
  pwr := { queue := [], switching := none, chainA := Chain.good, chainB := Chain.good, misses := [], rstWaits := false }
  car := Car.init
  adm := { pend := [], drift := [], nss := [], asets := [], boundNext := none }
  gbk := { staging := [], nextSeq := 1, drops := 0, ring := [], mirror := [], lastIssue := 0, scanned := false }
  hri := { rings := [], fns := [], rr := 0, wrr := 0, wrrLeft := 0 }
  pjm := { recs := [], chans := [], mirror := [], mirrorAnchors := [], stamps := [], stampSince := none, refuseMirror := false,
           repairing := [] }
  isl := Isl.init
  own := Own.init
  net := { ports := [], tcp := [] }
  nvf := { assocs := [], hosts := [], queues := [], xfers := [], fwds := [], deferred := [] }
  pgs := []
  flc := { blocks := [], luns := [], families := [], saved := [], geomBad := false, geom := none, lunsOut := [], takenUp := [],
           marginOk := [], reads := [] }
  str := { stripes := [], bands := [], lostExt := [], lostTable := [], spans := [], spanStep := [], initStep := [], spanIn := [],
           rebuild := [], patrolCursor := 0 }
  gcx := { work := [], moves := [], table := [], passes := 0, sweeping := false, sweepRecs := [] }
  ddp := { idx := [], applied := [], filter := [], recent := [], icache := [], deferQ := [] }
  map := { leaves := [], kv := [], chunks := [], sets := [], dirty := [], cached := [], fetchWait := [], destages := [],
           recoveryFrom := none }
  mdc := { lines := [] }
  kvs := { sessions := [], nextSession := 1, ns := [], buckets := [], pgmap := [], heat := [], updates := [], granted := [],
           fills := [], seenEpoch := 0, outC := none, inC := none, held := [] }
  snp := { cat := [], nextEpoch := 1, flushes := [], links := [], replicas := [], clones := [], heldNs := [] }
  mte := { entries := [], queue := [] }
  lpe := { loops := [], dests := [] }
  age := { history := [], staged := false }
  rdm := { qps := [], wins := [], faults := [], wtc := [] }
  pol := { pools := [], waits := [], rr := [], bound := [] }
  cip := { slots := [], keks := [], kcache := [] }
  fwu := { copy0 := none, copy1 := none, slots := [], stores := [], activating := false, partnerDeadline := none,
           fellBack := none, booting := none }
  dbg := { ir := 0x01, preload := 0, dr := 0, fuses := { root := none, pub := none, roll := [], lock := false }, loop := none }
  pending := []

end Sys2Proof.Machine
end

