-- ==== Sys2Proof/Machine/Regs.lean ====
section
/-!
DEFINITION. The one way registers are read and written inside the head: field reads and writes over the sparse register
table, error bits, counters, blocks enabled.  A BAR0 access from outside goes through Machine/Bar0.lean, which adds the
access types and change classes.
-/
namespace Sys2Proof.Machine

open Sys2Proof

/-- A field's value in force. -/
def State.rd (s : State) (f : Field) (i : Nat := 0) (j : Nat := 0) : Nat :=
  s.regs.getD (f.key i j) f.reset

/-- A one-bit field, as a truth value. -/
def State.rdb (s : State) (f : Field) (i : Nat := 0) (j : Nat := 0) : Bool := s.rd f i j == 1

/-- A table of fields with one field set; the reset value is not listed. -/
def putField (t : Assoc Nat) (f : Field) (v i j : Nat) : Assoc Nat :=
  if v % 2 ^ f.width = f.reset then t.del (f.key i j) else t.put (f.key i j) (v % 2 ^ f.width)

/-- Set a field's value in force, cut to the field's width. -/
def State.wr (s : State) (f : Field) (v : Nat) (i : Nat := 0) (j : Nat := 0) : State :=
  { s with regs := putField s.regs f v i j }

/-- Set a one-bit field from a truth value. -/
def State.wrb (s : State) (f : Field) (v : Bool) (i : Nat := 0) (j : Nat := 0) : State :=
  s.wr f (b2n v) i j

/-- Set an error or status bit. -/
def State.raise (s : State) (f : Field) (i : Nat := 0) : State := s.wr f 1 i

/-- Add to a counter field, which stops at its all-ones value (R522). -/
def State.bump (s : State) (f : Field) (d : Nat := 1) (i : Nat := 0) : State :=
  s.wr f (satAdd f.width (s.rd f i) d) i

/-- Put something among what has left the head. -/
def State.emit (s : State) (o : Out) : State := { s with out := o :: s.out }

/-- The indices of a singly indexed field whose value is not its reset value, with the values. -/
def State.listed (s : State) (f : Field) : List (Nat × Nat) :=
  s.regs.filterMap (fun e =>
    let base := f.key 0 0
    if base ≤ e.1 ∧ (e.1 - base) % f.stride = 0 ∧ (e.1 - base) / f.stride < f.first + f.count
    then some ((e.1 - base) / f.stride, e.2) else none)

/-- A block is enabled: GLB and ADM always are (Table 25.3 `GLB_BLK_EN`, R453). -/
def State.enabled (s : State) (b : Nat) : Bool :=
  match enableField b with
  | some f => s.rdb f
  | none => b == Blk.GLB || b == Blk.ADM

/-- The summary of R525: bit b of `GLB_INT_STATUS.BLOCKS` is 1 while an ERR bit of block b is set. -/
def State.errSummary (s : State) : Nat :=
  (List.range 28).foldl (fun a b =>
    if (errFields b).any (fun f => s.rd f != 0) then a + 2 ^ b else a) 0

/-- The bits of the summary that may signal. -/
def State.maskedErr (s : State) : Nat := s.errSummary &&& s.rd Fld.GLB_INT_MASK_EN

/-- This head's ID in the configuration in force (R9). -/
def State.headId (s : State) : Nat := s.rd Fld.GLB_HEAD_HEAD_ID

/-- This head's array: its head ID without bit 0 (Table 00.4). -/
def State.arrayId (s : State) : Nat := s.headId / 2

/-- The partner's head ID (R8). -/
def State.partnerId (s : State) : Nat := if s.headId % 2 = 0 then s.headId + 1 else s.headId - 1

/-- Draw a fresh free value's number from the model's counter. -/
def State.draw (s : State) : State := { s with free := s.free + 1 }

end Sys2Proof.Machine
end

