-- ==== Sys2Proof/Machine/Time.lean ====
section
/-!
DEFINITION. Local time, cluster time and its uncertainty (R60 to R68).
-/
namespace Sys2Proof.Machine

open Sys2Proof

/-- Local time units in one engine cycle: 625 ps in speed grade 16, 10,000/14 ps in grade 14 (chapter 00). -/
def State.cycle (s : State) : Nat := if s.rd Fld.GLB_REV_SPEED = 14 then 5000 else 4375

/-- Local time units in one tick of the 25 MHz reference. -/
abbrev refTick : Nat := 280000

/-- Local time units in one µs. -/
abbrev unitsPerUs : Nat := 7000000

/-- Cluster time in ns at local instant `t`: it runs at the nominal rate × (1 + y) (R60). -/
def State.ctAt (s : State) (t : Nat) : Frac :=
  s.car.base.add ((Frac.of ((t : Int) - (s.car.baseAt : Int)) unitsPerNs).mul ((Frac.int 1).add s.car.y))

/-- Cluster time now, ns. -/
def State.ct (s : State) : Frac := s.ctAt s.now

/-- Cluster time now in whole ns: the CT64 nanoseconds (R62). -/
def State.ctNs (s : State) : Nat := s.ct.floor.toNat

/-- Cluster time now as CT64 with its fraction, in 2^-16 ns (R62). -/
def State.ct16 (s : State) : Ct := (s.ct.mul (Frac.int 65536)).floor.toNat

/-- The local instant, on the engine-cycle grid, of the first cycle in which cluster time is at or past `inst` ns. -/
def State.localOf (s : State) (inst : Frac) : Nat :=
  let d := ((inst.sub s.car.base).mul (Frac.int unitsPerNs)).div ((Frac.int 1).add s.car.y)
  let t := s.car.baseAt + d.ceil.toNat
  max s.now (ceilDiv t s.cycle * s.cycle)

/-- Time is valid in LOCKED and HOLDOVER (Table 03.1). -/
def State.timeValid (s : State) : Bool := decide (2 ≤ s.rd Fld.CAR_STATUS_STATE)

/-- ε in ns at local instant `t` while time is valid: ε_k + ρ (t − t_k) (R65). -/
def State.epsAt (s : State) (t : Nat) : Frac :=
  s.car.epsK.add ((Frac.of (s.rd Fld.CAR_DRIFT_BOUND_RHO) 1000000000).mul
    (Frac.of ((t : Int) - ((s.car.lastMeas.getD t : Nat) : Int)) unitsPerNs))

/-- ε in ns now; 0xFFFF_FFFF while time is not valid (R65, R68). -/
def State.eps (s : State) : Frac :=
  if s.timeValid then s.epsAt s.now else Frac.int 0xFFFFFFFF

/-- `CAR_EPS`: ε rounded up to whole ns, at most 0xFFFF_FFFE; 0xFFFF_FFFF while time is not valid (R65). -/
def State.epsNs (s : State) : Nat :=
  if s.timeValid then min (s.epsAt s.now).ceil.toNat 0xFFFFFFFE else 0xFFFFFFFF

/-- The guard time G = 25 µs + 2 × ε, ns, for the larger of two uncertainties (R370). -/
def guardNs (epsA epsB : Nat) : Nat := 25000 + 2 * max epsA epsB

/-- The lease length L in ns (R370). -/
def State.leaseNs (s : State) : Nat := s.rd Fld.OWN_LEASE_LEASE_US * 1000

end Sys2Proof.Machine
end

