-- ==== Sys2Proof/Machine/Ops.lean ====
section
/-!
DEFINITION. The operations many commands share: alarms and Guestbook records (R456, R457, R463), events (R103, R104), the
always-on gate of the flash drivers and the lease timer (R11, R378), and the passing of local time.
-/
namespace Sys2Proof.Machine

open Sys2Proof

/-- What a command's meaning answers. -/
abbrev Res := Host.Outcome State Fault Refusal

/-! ## Alarms and the Guestbook -/

/-- Request the alarm for a source: its bit of `GBK_ALARM` sets (R463). -/
def State.alarm (s : State) (src : Nat) : State :=
  s.wr Fld.GBK_ALARM_SOURCE (setBit (s.rd Fld.GBK_ALARM_SOURCE) src)

/-- `TOCSIN_N` is driven low (R463): a boot failure, or an unmasked alarm with the pin enabled. -/
def State.tocsin (s : State) : Bool :=
  s.aon.bootFail ||
    (s.rdb Fld.GBK_CTRL_PIN_EN &&
      (s.rd Fld.GBK_ALARM_SOURCE &&& s.rd Fld.GBK_ALARM_MASK_MASK) != 0)

/-- UTC seconds of the first midnight after a UTC instant in seconds (R456). -/
def nextMidnight (utcSec : Int) : Int := (utcSec / 86400 + 1) * 86400

/-- The UTC fields of R456 for a detection instant in CT64 ns: seconds, nanoseconds, LEAP. -/
def State.utcOf (s : State) (tCt : Nat) : Int × Int × Bool :=
  let tai : Int := (s.rd Fld.CAR_EPOCH_TAI_SEC * 1000000000 + s.rd Fld.CAR_EPOCH_TAI_NS + tCt : Nat)
  let utc := tai - (s.rd Fld.CAR_UTC_UTC_OFFSET : Int) * 1000000000
  let dayEnd := ((s.car.dayEnd.getD 0 : Nat) : Int) * 1000000000
  let up := s.rdb Fld.CAR_UTC_LEAP61 && s.car.dayEnd.isSome && decide (dayEnd ≤ utc)
  let utc1 := if up then utc - 1000000000 else utc
  let down := s.rdb Fld.CAR_UTC_LEAP59 && s.car.dayEnd.isSome && decide (dayEnd - 1000000000 ≤ utc1)
  let utc2 := if down then utc1 + 1000000000 else utc1
  (utc2 / 1000000000, utc2 % 1000000000, up)

/-- The Guestbook record a source delivers (Table 21.1); its SEQ and LOST are set on staging. -/
def State.gbkMake (s : State) (src code a0 a1 a2 tCt : Nat) (alarm : Bool) : GbkRec :=
  let v := s.timeValid
  let u := s.utcOf tCt
  { seq := 0, tCt := tCt, utcSec := if v then u.1.toNat else 0, utcNs := if v then u.2.1.toNat else 0,
    leap := v && u.2.2, timeValid := v, utcOffset := s.rd Fld.CAR_UTC_UTC_OFFSET, source := src, code := code,
    alarm := alarm, lost := 0, head := s.headId, arg0 := a0, arg1 := a1, arg2 := a2 }

/-- Staging of a record (R457): it takes the next SEQ and the count of drops before it, or is dropped and counted when
the ring of 4,096 is full. -/
def State.gbkStage (s : State) (r : GbkRec) : State :=
  if s.gbk.staging.length < 4096 then
    { s with gbk := { s.gbk with
        staging := s.gbk.staging ++ [{ r with seq := s.gbk.nextSeq, lost := min s.gbk.drops 0xFFFF }]
        nextSeq := s.gbk.nextSeq + 1
        drops := 0 } }
  else
    let s := { s with gbk := { s.gbk with drops := s.gbk.drops + 1 } }
    (s.bump Fld.GBK_LOST_COUNT).raise Fld.GBK_ERR_OVERFLOW

/-- A source writes a Guestbook record, detected at CT64 `tCt`; with `alarm`, it requests `TOCSIN_N`, which a dropped
record does too (R457, R463). -/
def State.recordAt (s : State) (src code a0 a1 a2 tCt : Nat) (alarm : Bool) : State :=
  let s := if alarm then s.alarm src else s
  s.gbkStage (s.gbkMake src code a0 a1 a2 tCt alarm)

/-- A source writes a Guestbook record now. -/
def State.record (s : State) (src code : Nat) (a0 : Nat := 0) (a1 : Nat := 0) (a2 : Nat := 0)
    (alarm : Bool := false) : State :=
  s.recordAt src code a0 a1 a2 s.ctNs alarm

/-! ## Events -/

/-- A function's event-ring state as reset leaves it. -/
def Fn.init : Fn :=
  { stopped := false, evqHead := 0, evqTail := 0, evtSeq := 1, lost := 0, phase := true, used := 0 }

/-- A function's state. -/
def State.fn (s : State) (n : Nat) : Fn := s.hri.fns.getD n Fn.init

/-- Replace a function's state. -/
def State.setFn (s : State) (n : Nat) (f : Fn) : State :=
  { s with hri := { s.hri with fns := s.hri.fns.put n f } }

/-- Entries of a function's event ring: a power of two from 16 to 65,536 (R103); LOG2 outside 4 to 16 counts as the
nearer bound. -/
def State.evqSize (s : State) (n : Nat) : Nat := 2 ^ max 4 (min 16 (s.rd Fld.HRI_FN_EVQ_CFG_LOG2 n))

/-- Write an event to one function's ring, or drop and count it when the ring is full (R103).  A ring not enabled, or of
a stopped function, takes nothing. -/
def State.eventTo (s : State) (n src code time a0 a1 : Nat) : State :=
  let f := s.fn n
  if !s.rdb Fld.HRI_FN_EVQ_CFG_ENABLE n || f.stopped then s
  else if s.evqSize n ≤ f.used then
    ((s.setFn n { f with lost := min (f.lost + 1) 0xFFFF }).bump Fld.HRI_FN_EVQ_LOST_COUNT 1 n).raise
      Fld.HRI_ERR_EVQ_OVF
  else
    let e : EventEntry := { seq := f.evtSeq, source := src, code := code, time := time, lost := f.lost,
                            phase := f.phase, arg0 := a0 % 2 ^ 32, arg1 := a1 % 2 ^ 64 }
    let tail := (f.evqTail + 1) % s.evqSize n
    let f' := { f with evqTail := tail, evtSeq := f.evtSeq + 1, lost := 0, used := f.used + 1,
                       phase := if tail = 0 then !f.phase else f.phase }
    ((s.setFn n f').emit (.event n (s.rd Fld.HRI_FN_EVQ_ADDR_ADDR n + 32 * f.evqTail) e)).emit
      (.msix n (s.rd Fld.HRI_FN_EVQ_CFG_VECTOR n))

/-- Write an event to each function of a list. -/
def State.eventToAll (s : State) (ns : List Nat) (src code time a0 a1 : Nat) : State :=
  ns.foldl (fun s n => s.eventTo n src code time a0 a1) s

/-- The functions a global event goes to: PF0 and every function whose GLOBAL is set (R104). -/
def State.globalFns (s : State) : List Nat :=
  NatSet.insert ((s.listed Fld.HRI_FN_EVQ_CFG_GLOBAL).map (·.1)) 0

/-- Post a global event now. -/
def State.eventGlobal (s : State) (src code a0 a1 : Nat) : State :=
  s.eventToAll s.globalFns src code s.ctNs a0 a1

/-- Post an event to one function now. -/
def State.eventFn (s : State) (n src code a0 a1 : Nat) : State := s.eventTo n src code s.ctNs a0 a1

/-- The functions of a tenant (R83). -/
def State.tenantFns (s : State) (tenant : Nat) : List Nat :=
  ((s.listed Fld.HRI_FN_TENANT_TENANT).filter (fun e => e.2 == tenant)).map (·.1)

/-- The functions that have a namespace: those of its tenant. -/
def State.nsFns (s : State) (nsid : Nat) : List Nat :=
  match s.adm.nss.look nsid with
  | some n => s.tenantFns n.tenant
  | none => []

/-! ## The always-on gate -/

/-- The hardware lease timer runs (R378). -/
def Aon.timerRuns (a : Aon) : Bool := a.leaseEnd.isSome

/-- The condition of R11 for group g. -/
def Aon.mayDrive (a : Aon) (g : Nat) : Bool := a.claimOut.mem g && !a.claimIn.mem g && a.timerRuns

/-- Drivers whose condition of R11 no longer holds go to high impedance; a settle count whose condition no longer holds
stops. -/
def Aon.gate (a : Aon) : Aon :=
  { a with drivers := a.drivers.filter a.mayDrive
           settle := a.settle.keep (fun g _ => a.claimOut.mem g && !a.claimIn.mem g) }

/-- What the always-on logic holds at every instant, without firmware (R11, R12, R378): no claim while `FENCE_IN_N` is asserted or the lease
timer does not run, and no driver whose condition does not hold. -/
def Aon.settled (a : Aon) : Aon := Aon.gate (if a.timerRuns && !a.fenceIn then a else { a with claimOut := [] })

/-- A command ends in the state it leaves, as the always-on logic holds it. -/
def ended (s : State) : Res := .next { s with aon := s.aon.settled }

/-- Every driver to high impedance and every claim deasserted (R12, R378). -/
def Aon.dropAll (a : Aon) : Aon := { a with claimOut := [], drivers := [], settle := [] }

/-- Groups that lose their drivers between two always-on states. -/
def lostDrivers (a b : Aon) : List Nat := a.drivers.filter (fun g => !b.drivers.mem g)

/-- The lease state of Table 17.1. -/
abbrev leaseNone : Nat := 0
abbrev leaseAcquiring : Nat := 1
abbrev leaseHeld : Nat := 2
abbrev leaseSelfFenced : Nat := 3

/-- The hardware lease timer reaches zero (R378): every claim drops, drivers off, SELF_FENCED, the error bit, and the
record of the expiry, with the alarm where enabled. -/
def State.leaseZero (s : State) : State :=
  let s := { s with aon := { s.aon.dropAll with leaseEnd := none } }
  let s := (s.wr Fld.OWN_STATUS_LEASE leaseSelfFenced).raise Fld.OWN_ERR_SELF_FENCE
  s.record Blk.OWN 0x3003 0 0 0 (s.rdb Fld.OWN_CTRL_SELF_FENCE_ALARM)

/-- Local time passes to `t`; it never runs back.  The lease timer expires on the way when its end is reached, at its own
instant (R378). -/
def State.advance (s : State) (t : Nat) : State :=
  match s.aon.leaseEnd with
  | some e =>
    if e ≤ t ∧ s.now ≤ t then
      let s := State.leaseZero { s with now := max s.now e }
      { s with now := max s.now t }
    else { s with now := max s.now t }
  | none => { s with now := max s.now t }

/-- Local time passes to the first engine cycle at which cluster time is at or past `inst` ns. -/
def State.advanceCt (s : State) (inst : Frac) : State := s.advance (s.localOf inst)

/-- Local time passes by `us` µs after `since`, if it has not already. -/
def State.advanceUs (s : State) (since us : Nat) : State := s.advance (since + us * unitsPerUs)

/-- A loopback runs on a flash channel: FLC issues it no command (R534). -/
def State.chanLooped (s : State) (c : Nat) : Bool :=
  match s.dbg.loop with
  | some (kind, target, _) => kind == 4 && target == c
  | none => false

/-! ## Messages to the partner -/

/-- Isaov link states of Table 08.15. -/
abbrev islDown : Nat := 0
abbrev islTraining : Nat := 1
abbrev islUp : Nat := 2
abbrev islCatchup : Nat := 3
abbrev islInService : Nat := 4

/-- The Isaov link carries messages: it is UP, in catch-up or in service. -/
def State.linkUp (s : State) : Bool := decide (islUp ≤ s.rd Fld.ISL_STATUS_STATE)

/-- Send a message to the partner over a virtual channel, while the link carries messages; one flit carries it here, unacknowledged
until the partner's ACK covers it (R186). -/
def State.isend (s : State) (vc : Nat) (m : IslMsg) : State :=
  if s.linkUp then
    { s with isl := { s.isl with txSeq := (s.isl.txSeq + 1) % 65536, unacked := s.isl.unacked.put s.isl.txSeq 0 } }.emit (.isl vc m)
  else s

/-- The partner's PJM is reachable (R18, R187): the link carries messages and the partner has reported its mirror of this
head's log in service. -/
def State.partnerPjm (s : State) : Bool := s.linkUp && s.rdb Fld.PJM_STATUS_MIRROR_IN

end Sys2Proof.Machine
end

