-- ==== Sys2Proof/Machine/Replay.lean ====
section
/-!
DEFINITION. Replay windows (R40 to R43): serial-number arithmetic, the judgement of Table 02.1, the advance of B and H,
and the storing of an outcome.
-/
namespace Sys2Proof.Machine

open Sys2Proof

/-- How far `s` lies ahead of `b` in serial order, modulo 2^bits. -/
def serialDist (bits b s : Nat) : Nat := (s + 2 ^ bits - b % 2 ^ bits) % 2 ^ bits

/-- `s` is below `b` in serial order (R40). -/
def serialLt (bits s b : Nat) : Bool :=
  decide (serialDist bits s b ≠ 0 ∧ serialDist bits s b < 2 ^ (bits - 1))

/-- The later of two sequences in serial order. -/
def serialMax (bits a b : Nat) : Nat := if serialLt bits a b then b else a

/-- A fresh window of base `b`: H = B − 1, every slot free (R85). -/
def RWin.fresh (bits b owner : Nat) : RWin :=
  { bits := bits, b := b % 2 ^ bits, h := (b + 2 ^ bits - 1) % 2 ^ bits, slots := [], owner := owner, marks := [] }

/-- A slot's state: none while free. -/
def RWin.slot (w : RWin) (s : Nat) : Option SlotSt := w.slots.look s

/-- The outcomes of Table 02.1. -/
inductive Judge where
  | stale
  | done (status : Nat)
  | busy
  | free
  | advance
  | ahead
deriving DecidableEq, Repr

/-- Table 02.1 for sequence `s` (R41). -/
def RWin.judge (w : RWin) (s : Nat) : Judge :=
  if serialLt w.bits s w.b then .stale
  else if serialDist w.bits w.b s ≤ 1023 then
    match w.slot s with
    | some (.completed st) => .done st
    | some .inProgress => .busy
    | none => .free
  else
    let nb := (s + 2 ^ w.bits - 1023) % 2 ^ w.bits
    if w.slots.any (fun e => e.2 == SlotSt.inProgress && serialLt w.bits e.1 nb) then .ahead else .advance

/-- H moves over completed slots that directly follow it (R40), at most `fuel` of them. -/
def RWin.climb (w : RWin) (fuel : Nat) : RWin :=
  match fuel with
  | 0 => w
  | k + 1 =>
    match w.slot ((w.h + 1) % 2 ^ w.bits) with
    | some (.completed _) => RWin.climb { w with h := (w.h + 1) % 2 ^ w.bits } k
    | _ => w

/-- H first becomes the larger of itself and B − 1, then climbs (R40). -/
def RWin.followH (w : RWin) : RWin :=
  RWin.climb { w with h := serialMax w.bits w.h ((w.b + 2 ^ w.bits - 1) % 2 ^ w.bits) } 1024

/-- B advances to `nb`; slots that leave the window are dropped; H follows R40. -/
def RWin.advanceTo (w : RWin) (nb : Nat) : RWin :=
  RWin.followH { w with b := nb, slots := w.slots.keep (fun s _ => !serialLt w.bits s nb),
                        marks := w.marks.keep (fun s _ => !serialLt w.bits s nb) }

/-- The window once sequence `s` is taken for processing: B advanced where Table 02.1 says so, the slot in progress. -/
def RWin.take (w : RWin) (s : Nat) : RWin :=
  let w' := match w.judge s with
    | .advance => w.advanceTo ((s + 2 ^ w.bits - 1023) % 2 ^ w.bits)
    | _ => w
  { w' with slots := w'.slots.put s .inProgress }

/-- The outcome of `s` is stored and H advances (R40, R43). -/
def RWin.complete (w : RWin) (s status : Nat) : RWin :=
  RWin.followH { w with slots := w.slots.put s (.completed status) }

/-- The slot of `s` becomes free again (R33, R53). -/
def RWin.release (w : RWin) (s : Nat) : RWin := { w with slots := w.slots.del s }

/-- Note the bucket of a key-value write's sequence (R352). -/
def RWin.mark (w : RWin) (s bucket : Nat) : RWin := { w with marks := w.marks.put s bucket }

/-- The key of a ring's window in `State.wins`. -/
abbrev winRing (r : Nat) : Nat := r

/-- The key of an Enore session's window in `State.wins`. -/
abbrev winSession (k : Nat) : Nat := 65536 + k

/-- Replace a window. -/
def State.setWin (s : State) (k : Nat) (w : RWin) : State := { s with wins := s.wins.put k w }

/-- Drop a window. -/
def State.dropWin (s : State) (k : Nat) : State := { s with wins := s.wins.del k }

/-- Change a window, where there is one. -/
def State.modWin (s : State) (k : Nat) (f : RWin → RWin) : State :=
  { s with wins := s.wins.modify k f }

end Sys2Proof.Machine
end

