-- ==== Sys2Proof/Machine/HriOps.lean ====
section
/-!
DEFINITION. What the commands of HRI share with the blocks that use rings: ring state, completion and event entries,
coalescing, the status block, ring errors, and the end of a submission.
-/
namespace Sys2Proof.Machine

open Sys2Proof

/-- Ring states (Table 04.14). -/
abbrev ringDisabled : Nat := 0
abbrev ringActive : Nat := 1
abbrev ringResyncing : Nat := 2
abbrev ringError : Nat := 3
abbrev ringDraining : Nat := 4

/-- A ring as an enable leaves it: indices at 0, the completion sequence at 1 (R85). -/
def Ring.init : Ring :=
  { sqHead := 0, sqTail := 0, sqRecorded := none, cqTail := 0, cqHead := 0, cqRecorded := none, phase := true,
    cplSeq := 1, c := 0, fetched := [], fetching := 0, subs := [], ready := [], heldEvents := [], unsignalled := 0,
    firstUnsignalled := none, sbDirty := none, updates := 0, resync := false, cqUsed := 0 }

/-- A ring's state beside its registers. -/
def State.ring (s : State) (r : Nat) : Ring := s.hri.rings.getD r Ring.init

/-- Replace a ring's state. -/
def State.setRing (s : State) (r : Nat) (x : Ring) : State :=
  { s with hri := { s.hri with rings := s.hri.rings.put r x } }

/-- `HRI_RING_STATE.STATE`. -/
def State.ringSt (s : State) (r : Nat) : Nat := s.rd Fld.HRI_RING_STATE_STATE r

/-- The function that owns a global ring index (R81). -/
def State.ringFn (s : State) (r : Nat) : Option Nat :=
  ((s.listed Fld.HRI_FN_RINGS_COUNT).find? (fun e =>
    s.rd Fld.HRI_FN_RINGS_BASE e.1 ≤ r && decide (r < s.rd Fld.HRI_FN_RINGS_BASE e.1 + e.2))).map (·.1)

/-- The global index of a function's local ring; none beyond RING_COUNT (R81). -/
def State.localRing (s : State) (fn i : Nat) : Option Nat :=
  if i < s.rd Fld.HRI_FN_RINGS_COUNT fn then some (s.rd Fld.HRI_FN_RINGS_BASE fn + i) else none

/-- SQ entries of a ring. -/
def State.sqSize (s : State) (r : Nat) : Nat := 2 ^ s.rd Fld.HRI_RING_CFG_SQ_LOG2 r

/-- CQ entries of a ring. -/
def State.cqSize (s : State) (r : Nat) : Nat := 2 ^ s.rd Fld.HRI_RING_CFG_CQ_LOG2 r

/-- The function of a ring is stopped: nothing more is written to its host memory (R79). -/
def State.ringStopped (s : State) (r : Nat) : Bool :=
  match s.ringFn r with
  | some n => (s.fn n).stopped
  | none => false

/-- The tenant of a ring's function (R83). -/
def State.ringTenant (s : State) (r : Nat) : Nat :=
  match s.ringFn r with
  | some n => s.rd Fld.HRI_FN_TENANT_TENANT n
  | none => 0

/-- Signal a ring's vector (R102). -/
def State.ringSignal (s : State) (r : Nat) : State :=
  let x := s.ring r
  let s := s.setRing r { x with unsignalled := 0, firstUnsignalled := none }
  if s.rdb Fld.HRI_RING_CFG_IRQ_EN r && !s.ringStopped r then
    s.emit (.msix ((s.ringFn r).getD 0) (s.rd Fld.HRI_RING_CFG_VECTOR r))
  else s

/-- The status block a ring would write now (Table 04.9). -/
def State.statusOf (s : State) (r : Nat) : StatusBlock :=
  let x := s.ring r
  let w := s.wins.getD (winRing r) (RWin.fresh 32 0 0)
  { c := x.c, k := (x.cplSeq + 2 ^ 32 - 1) % 2 ^ 32, sqHead := x.sqHead, cqTail := x.cqTail, state := s.ringSt r,
    b := w.b, h := w.h, updates := (x.updates + 1) % 2 ^ 32 }

/-- Write the ring status block as one 64-byte write, covering everything up to now (R100). -/
def State.writeStatus (s : State) (r : Nat) : State :=
  if s.ringStopped r then s
  else
    let b := s.statusOf r
    (s.setRing r { s.ring r with updates := b.updates, sbDirty := none }).emit (.statusBlock r b)

/-- Note a change the status block must show within 2 µs (R100). -/
def State.touchStatus (s : State) (r : Nat) : State := s.setRing r { s.ring r with sbDirty := some s.now }

/-- Write one entry to a ring's CQ (R94, R96): it takes the next completion sequence; the status block precedes the
signal (R100), and coalescing or IRQ decides the signal (R102). -/
def State.cqWrite (s : State) (r : Nat) (e : ComplEntry) (irq : Bool) : State :=
  if s.ringStopped r then s
  else
    let x := s.ring r
    let e := { e with cplSeq := x.cplSeq, phase := x.phase }
    let tail := (x.cqTail + 1) % s.cqSize r
    let x' := { x with
      cqTail := tail
      cplSeq := (x.cplSeq + 1) % 2 ^ 32
      phase := if tail = 0 then !x.phase else x.phase
      cqUsed := x.cqUsed + 1
      unsignalled := x.unsignalled + 1
      firstUnsignalled := some (x.firstUnsignalled.getD s.now)
      sbDirty := some s.now }
    let s := (s.setRing r x').emit (.completion r x.cqTail e)
    let cnt := s.rd Fld.HRI_RING_CFG_COAL_CNT r
    if irq || decide (cnt ≤ x'.unsignalled) then (s.writeStatus r).ringSignal r else s

/-- The count of R88: entries written and not freed, submissions consumed and not completed, and held event entries. -/
def State.cqLoad (s : State) (r : Nat) : Nat :=
  let x := s.ring r
  x.cqUsed + x.subs.length + x.ready.length + x.heldEvents.length

/-- The event entry of R99. -/
def eventEntryOf (h : HeldEvent) : ComplEntry :=
  { subSeq := 0, cplSeq := 0, status := STS_OK, phase := false, replayed := false, event := true, late := h.late,
    opcode := 0xC0, tag := h.arg % 65536, tagHigh := h.arg / 65536 % 65536, result0 := h.instant,
    result1 := min h.lateness 0xFFFFFFFF + min h.eps 0xFFFFFFFF * 2 ^ 32 }

/-- A Carillon action 0x2 on a ring (R99): the entry is written, held while the CQ has no free entry (up to 16), or
dropped and counted. -/
def State.ringEvent (s : State) (r : Nat) (h : HeldEvent) : State :=
  let st := s.ringSt r
  if st = ringActive ∨ st = ringResyncing ∨ st = ringDraining then
    let x := s.ring r
    if s.cqLoad r < s.cqSize r ∧ x.heldEvents = [] then s.cqWrite r (eventEntryOf h) false
    else if x.heldEvents.length < 16 then s.setRing r { x with heldEvents := x.heldEvents ++ [h] }
    else s.bump Fld.HRI_RING_EVDROP_COUNT 1 r
  else s.bump Fld.HRI_RING_EVDROP_COUNT 1 r

/-- Held event entries are written while the CQ has an entry that no consumed submission needs (R88, R99); `fuel` bounds their number. -/
def State.flushEvents (s : State) (r fuel : Nat) : State :=
  match fuel with
  | 0 => s
  | k + 1 =>
    let x := s.ring r
    match x.heldEvents with
    | [] => s
    | h :: t =>
      if x.cqUsed + x.subs.length + x.ready.length < s.cqSize r then
        let late := s.ctNs - h.instant
        State.flushEvents
          ((s.setRing r { x with heldEvents := t }).cqWrite r (eventEntryOf { h with lateness := late }) false) r k
      else s

/-- A ring fault of R93: the ring enters ERROR, unless it is DISABLED or DRAINING, where it stays (Table 04.3); the bit and the ring
latch, event 0x0002 goes to its function. -/
def State.ringFault (s : State) (r : Nat) (f : Field) : State :=
  let stays := s.ringSt r = ringDisabled ∨ s.ringSt r = ringDraining
  let s := ((if stays then s else s.wr Fld.HRI_RING_STATE_STATE ringError r).raise f).wr Fld.HRI_ERR_RING_RING r
  let s := s.touchStatus r
  let err := (List.range 6).foldl (fun a i =>
    a + (match (errFields Blk.HRI)[i]? with | some g => s.rd g | none => 0) * 2 ^ i) 0
  match s.ringFn r with
  | some n => s.eventFn n Blk.HRI 0x0002 r err
  | none => s

/-- The consumption number of the submission of sequence `q` still carried by a ring. -/
def Ring.subOf (x : Ring) (q : Nat) : Option (Nat × Sub) :=
  x.subs.first? (fun _ u => u.e.seq == q)

/-- A submission ends with a status and results: its outcome is stored where it changes state (R43), its completion waits
to be written (R94, R95), and every resend that follows it ends with the same status, replayed (R41). -/
def State.endSub (s : State) (r q status r0 r1 : Nat) : State :=
  let x := s.ring r
  match x.subOf q with
  | none => s
  | some (k, u) =>
    let s := if u.stores then s.modWin (winRing r) (fun w => w.complete q status) else s
    let mk (v : Sub) (rep : Bool) (a b : Nat) : Ready :=
      { sub := v.e.seq, opcode := v.e.opcode, tag := v.e.tag, irq := v.e.irq, status := status, replayed := rep,
        result0 := a, result1 := b }
    let followers := x.subs.keep (fun k' v => k' != k && v.follows && v.e.seq == q)
    let x' := { x with
      subs := x.subs.keep (fun k' v => k' != k && !(v.follows && v.e.seq == q))
      ready := x.ready ++ [mk u u.replayed r0 r1] ++ followers.map (fun e => mk e.2 true 0 0) }
    s.setRing r x'

/-- A submission ends and its replay slot stays free (R53): a resend is processed as new. -/
def State.endSubFree (s : State) (r q status r0 r1 : Nat) : State :=
  let s := s.modWin (winRing r) (fun w => w.release q)
  match (s.ring r).subOf q with
  | none => s
  | some (k, u) =>
    let s := s.setRing r { s.ring r with subs := (s.ring r).subs.put k { u with stores := false } }
    s.endSub r q status r0 r1

/-- A draining or stopped ring with nothing left becomes DISABLED (R79, R84), to be enabled again by setting ENABLE (R85); event entries
still held are dropped and counted (R99). -/
def State.drainCheck (s : State) (r : Nat) : State :=
  let x := s.ring r
  if s.ringSt r = ringDraining ∧ x.subs = [] ∧ (x.ready = [] ∨ s.ringStopped r = true) then
    let s := (s.bump Fld.HRI_RING_EVDROP_COUNT x.heldEvents.length r).setRing r { x with heldEvents := [] }
    (((s.wr Fld.HRI_RING_CFG_ENABLE 0 r).wr Fld.HRI_RING_STATE_STATE ringDisabled r).wrb Fld.HRI_RING_STATE_KEPT (s.wins.has (winRing r)) r).touchStatus r
  else s

/-- The kept windows of a function's disabled rings go (R86). -/
def State.dropKept (s : State) (fn : Nat) : State :=
  let gone (e : Nat × RWin) : Bool := decide (e.1 < 65536) && e.2.owner == fn && s.ringSt e.1 == ringDisabled
  (s.wins.filter gone).foldl (fun s e => (s.dropWin e.1).wr Fld.HRI_RING_STATE_KEPT 0 e.1) s

end Sys2Proof.Machine
end

