-- ==== Sys2Proof/Machine/PwrOps.lean ====
section
/-!
DEFINITION. Power domains (R479 to R482): which are powered, the queue of requests, and the judgement of Table 23.1.
-/
namespace Sys2Proof.Machine

open Sys2Proof

/-- A domain is powered (`PWR_DOM_STATE.ON`). -/
def State.domainOn (s : State) (d : Nat) : Bool := bitAt (s.rd Fld.PWR_DOM_STATE_ON) d

/-- Power a domain, or take its power. -/
def State.setDomain (s : State) (d : Nat) (on : Bool) : State :=
  let v := s.rd Fld.PWR_DOM_STATE_ON
  s.wr Fld.PWR_DOM_STATE_ON (if on then setBit v d else clrBit v d)

/-- Another domain of `lo` to `lo + n − 1` is powered. -/
def State.otherOn (s : State) (lo n d : Nat) : Bool :=
  ((List.range n).map (lo + ·)).any (fun e => e != d && s.domainOn e)

/-- The domain is switched by a block, or by the boot ROM alone (Table 23.1). -/
def blockSwitched (d : Nat) : Bool :=
  decide (16 ≤ d ∧ d ≤ 23) || d == 29 || d == 30 || decide (37 ≤ d ∧ d ≤ 44) || decide (53 ≤ d ∧ d ≤ 56) || decide (63 ≤ d)

/-- A domain may be switched off (Table 23.1). -/
def State.mayPowerOff (s : State) (d : Nat) : Bool :=
  if d ≤ 15 then !s.rdb Fld.OWN_CTRL_ENABLE
  else if 24 ≤ d ∧ d ≤ 27 then !s.rdb Fld.ISL_CTRL_ENABLE || !bitAt (s.rd Fld.ISL_STATUS_QUADS_UP) (d - 24)
  else if d = 28 then !s.rdb Fld.HRI_CTRL_ENABLE
  else if 31 ≤ d ∧ d ≤ 36 then !Config.rdimmFitted (2 * (d - 31)) && !Config.rdimmFitted (2 * (d - 31) + 1)
  else if 45 ≤ d ∧ d ≤ 48 then s.otherOn 45 4 d || !s.rdb Fld.CMP_CTRL_ENABLE
  else if 49 ≤ d ∧ d ≤ 50 then s.otherOn 49 2 d || !s.rdb Fld.CIP_CTRL_ENABLE
  else if 51 ≤ d ∧ d ≤ 52 then s.otherOn 51 2 d || !s.rdb Fld.DDP_CTRL_ENABLE
  else if 57 ≤ d ∧ d ≤ 60 then d != 57
  else if d = 61 then s.rd Fld.LPE_RUN_MASK == 0 && s.rd Fld.LPE_TRIPPED_MASK == 0
  else if d = 62 then !s.rdb Fld.PJM_CTRL_ENABLE
  else false

/-- A request passes when it reaches the head of the queue (R480, R481). -/
def State.domainPasses (s : State) (r : DomReq) : Bool :=
  s.domainOn r.domain != r.on &&
    (!r.cmd || (!blockSwitched r.domain && (r.on || s.mayPowerOff r.domain)))

/-- The answer to a `PWR_DOM_CMD`: DONE and BUSY follow the last command queued or running. -/
def State.domAnswer (s : State) (status : Nat) : State :=
  let left := s.pwr.queue.any (fun r => r.cmd) || (match s.pwr.switching with
    | some r => r.cmd
    | none => false)
  ((s.wr Fld.PWR_DOM_RESULT_STATUS status).wrb Fld.PWR_DOM_RESULT_DONE (!left)).wrb Fld.PWR_DOM_RESULT_BUSY left

/-- Judge requests from the head of the queue until one passes and its switch begins. -/
def State.domNext (s : State) (fuel : Nat) : State :=
  match fuel with
  | 0 => s
  | n + 1 =>
    match s.pwr.switching, s.pwr.queue with
    | none, r :: rest =>
      let s1 : State := { s with pwr := { s.pwr with queue := rest } }
      if s.domainPasses r then
        let s1 := { s1 with pwr := { s1.pwr with switching := some r } }
        s1.wr Fld.PWR_STATUS_DOM_BUSY 1
      else
        let s1 := if r.cmd then
            ((s1.raise Fld.PWR_ERR_DOM_REFUSED).wr Fld.PWR_ERR_INFO_DOMAIN r.domain).domAnswer STS_DOMAIN_IN_USE
          else s1
        State.domNext s1 n
    | _, _ => s

/-- A request joins the queue (R481); a `PWR_DOM_CMD` that finds 16 waiting is ignored. -/
def State.domRequest (s : State) (d : Nat) (on cmd : Bool) : State :=
  if cmd && decide (16 ≤ s.pwr.queue.length) then
    (s.raise Fld.PWR_ERR_DOM_REFUSED).wr Fld.PWR_ERR_INFO_DOMAIN d
  else
    let r : DomReq := { domain := d, on := on, cmd := cmd }
    let s := { s with pwr := { s.pwr with queue := s.pwr.queue ++ [r] } }
    let s := if cmd then (s.wr Fld.PWR_DOM_RESULT_DONE 0).wr Fld.PWR_DOM_RESULT_BUSY 1 else s
    s.domNext (s.pwr.queue.length + 1)

end Sys2Proof.Machine
end

