-- ==== Sys2Proof/Machine/Commit.lean ====
section
/-!
DEFINITION. Staged fields and commits (R4, R440 to R442), refusals (R452) and the least assumed uncertainty (R446, R447).
-/
namespace Sys2Proof.Machine

open Sys2Proof

/-- Bit addresses of a block's window (R518). -/
def inBlock (b k : Nat) : Bool := decide (b * 8388608 ≤ k ∧ k < (b + 1) * 8388608)

/-- The entries of a table that belong to a block. -/
def blockEntries (t : Assoc Nat) (b : Nat) : Assoc Nat := t.filter (fun e => inBlock b e.1)

/-- A table with the entries of another put over it. -/
def overlay (t u : Assoc Nat) : Assoc Nat := u.foldl (fun a e => a.put e.1 e.2) t

/-- Stage a value of a G field: it goes to the shadow register and has no effect by itself (R4, R442). -/
def State.stage (s : State) (f : Field) (v i j : Nat) : State :=
  { s with shadow := s.shadow.put (f.key i j) (v % 2 ^ f.width) }

/-- The state as it would stand with every pending commit in force (R441 step 2). -/
def State.proposed (s : State) : State := { s with regs := overlay s.regs s.latched }

/-- ADM latches a block's shadow for generation `g` (R441 step 1). -/
def State.latch (s : State) (b g : Nat) : State :=
  let s := { s with latched := overlay s.latched (blockEntries s.shadow b)
                    adm := { s.adm with pend := s.adm.pend.put b { gen := g, admitted := false } } }
  s.wr Fld.ADM_PENDING_BLOCKS (setBit (s.rd Fld.ADM_PENDING_BLOCKS) b)

/-- The pending commit of a block is gone: its latched values and its bit of `ADM_PENDING`. -/
def State.unpend (s : State) (b : Nat) : State :=
  let s := { s with latched := s.latched.filter (fun e => !inBlock b e.1)
                    adm := { s.adm with pend := s.adm.pend.del b } }
  s.wr Fld.ADM_PENDING_BLOCKS (clrBit (s.rd Fld.ADM_PENDING_BLOCKS) b)

/-- A set of latched values takes effect: they are in force, and a shadow value equal to the one that took effect is
staged no more; a value staged since stays for the next commit (R442). -/
def State.applyValues (s : State) (vals : Assoc Nat) : State :=
  { s with regs := overlay s.regs vals
           shadow := s.shadow.filter (fun e => vals.look e.1 != some e.2) }

/-- What a commit changes besides registers: the states of replication links (Table 18.5), the geometry or the headroom of the PG selected (`STR_PG_GEOM`, `GCX_PG_CFG`), the
quads of octets whose mode changed (R106, Table 23.1), and a
STAGED slot that an activation now names (R471), and the kept windows of a function whose ring range changed (R86); `old` is the
state before the commit. -/
def State.afterCommit (s old : State) (b : Nat) (vals : Assoc Nat) : State :=
  if b = Blk.HRI then
    (List.range 256).foldl (fun s n =>
      if s.rd Fld.HRI_FN_RINGS_BASE n != old.rd Fld.HRI_FN_RINGS_BASE n || s.rd Fld.HRI_FN_RINGS_COUNT n != old.rd Fld.HRI_FN_RINGS_COUNT n then
        s.dropKept n
      else s) s
  else if b = Blk.STR then
    { s with pgs := s.pgs.modify (s.rd Fld.STR_PG_SEL_PG) (fun p =>
        { p with d := (vals.look (Fld.STR_PG_GEOM_D.key 0 0)).getD p.d, p := (vals.look (Fld.STR_PG_GEOM_P.key 0 0)).getD p.p }) }
  else if b = Blk.GCX then
    { s with pgs := s.pgs.modify (s.rd Fld.GCX_PG_SEL_PG) (fun p =>
        { p with headroom := (vals.look (Fld.GCX_PG_CFG_HEADROOM_BANDS.key 0 0)).getD p.headroom }) }
  else if b = Blk.NET then
    (List.range 8).foldl (fun s q =>
      let on := s.rd Fld.NET_OCTET_MODE_MODE (q / 2) != 0
      if s.domainOn (16 + q) != on then s.domRequest (16 + q) on false else s) s
  else if b = Blk.SNP then
    (List.range 32).foldl (fun s l =>
      if vals.has (Fld.SNP_RLINK_MODE.key l 0) then
        let m := s.rd Fld.SNP_RLINK_MODE l
        let x : Link := { base := 0, baseEpoch := 0, nextBatch := 1, sent := [], shipping := none, cr := none, lastReply := s.now, rttNs := 0 }
        let s := s.wr Fld.SNP_RLINK_STAT_STATE (if m = 0 then 0 else if m = 1 then 1 else 2) l
        { s with snp := { s.snp with links := if m = 0 then s.snp.links.del l else if s.snp.links.has l then s.snp.links else s.snp.links.put l x } }
      else s) s
  else if b = Blk.FWU ∧ s.rdb Fld.FWU_ACT_VALID = true ∧ vals.has (Fld.FWU_ACT_VALID.key 0 0) = true then
    match [0, 1].find? (fun k => s.rd Fld.FWU_SLOT_INFO_STATE k == 1) with
    | some k => s.wr Fld.FWU_SLOT_INFO_STATE 2 k
    | none => s
  else s

/-- The block applies its latched values, raises ACTIVE_GEN modulo 2^32 and clears its pending bit (R440, R441 step 4). -/
def State.applyCommit (s : State) (b : Nat) : State :=
  let vals := blockEntries s.latched b
  let s := ((s.applyValues vals).unpend b).afterCommit s b vals
  match activeGenField b with
  | some f => s.wr f (s.rd f + 1)
  | none => s

/-- A block's pending commit has been admitted. -/
def State.admittedPend (s : State) (b : Nat) : Bool :=
  match s.adm.pend.look b with
  | some p => p.admitted
  | none => false

/-- At a block's boundary an admitted commit takes effect. -/
def State.boundary (s : State) (b : Nat) : State := if s.admittedPend b then s.applyCommit b else s

/-! ## Refusals -/

/-- Units of `ADM_RESULT.UNIT` (Table 20.7). -/
abbrev unitNone : Nat := 0
abbrev unitNs : Nat := 1
abbrev unitCycles : Nat := 2
abbrev unitMBs : Nat := 3
abbrev unitIops : Nat := 4
abbrev unitMs : Nat := 5
abbrev unitCount : Nat := 6
abbrev unitAddr : Nat := 7
abbrev unitBytes : Nat := 8

/-- A constraint that a proposed state breaks (R444); `figures` are UNIT, REQUIRED and OFFERED, none where the spec states
no figures for the constraint. -/
structure Violation where
  index : Nat
  figures : Option (Nat × Nat × Nat)
deriving DecidableEq, Repr

/-- A constraint with stated figures. -/
def viol (index unit required offered : Nat) : Violation := ⟨index, some (unit, required, offered)⟩

/-- A constraint whose figures the spec does not state. -/
def violOpen (index : Nat) : Violation := ⟨index, none⟩

/-- RECORD of a direct BAR0 commit (R452). -/
abbrev directRecord : Nat := 0xFFFFFF

/-- A refusal by ADM (R452): the result with the constraint, UNIT and figures, the count and the error bit.  Figures the
spec does not state are free values. -/
def State.admRefuse (s : State) (v : Violation) (rec : Nat) : State :=
  let fig := v.figures.getD (Config.freeNat s.free, Config.freeNat (s.free + 1), Config.freeNat (s.free + 2))
  let s := { s with free := s.free + 3 }
  let s := (s.wr Fld.ADM_RESULT_STATUS STS_ADM_REFUSED).wr Fld.ADM_RESULT_CONSTRAINT v.index
  let s := ((s.wr Fld.ADM_RESULT_UNIT fig.1).wr Fld.ADM_REQUIRED_VALUE fig.2.1).wr Fld.ADM_OFFERED_VALUE fig.2.2
  let s := ((s.wr Fld.ADM_RESULT_RECORD rec).wr Fld.ADM_RESULT_DONE 1).wr Fld.ADM_RESULT_BUSY 0
  (s.bump Fld.ADM_STAT_REFUSED_COUNT).raise Fld.ADM_ERR_REFUSED

/-! ## Assumed uncertainty -/

/-- Indices of coordinated Carillon slots that are ARMED or HELD (R446). -/
def State.coordLive (s : State) : List Nat :=
  ((s.listed Fld.CAR_SLOT_COORD).filter (fun e => s.rd Fld.CAR_SLOT_STATE e.1 != 0)).map (·.1)

/-- The bounds on ε that the time-dependent configuration in force assumes (R446). -/
def State.assumed (s : State) : List Nat :=
  (if s.rdb Fld.OWN_CTRL_ENABLE then [s.rd Fld.ADM_TIME_LEASE_EPS_NS] else []) ++
  (if s.listed Fld.SNP_SCHED_VALID != [] || s.listed Fld.SNP_RLINK_MODE != [] then [s.rd Fld.ADM_TIME_REPL_EPS_NS]
   else []) ++
  (if s.rdb Fld.FWU_ACT_VALID then [s.rd Fld.ADM_TIME_FW_EPS_NS] else []) ++
  (if s.coordLive != [] then [s.rd Fld.ADM_TIME_SLOT_EPS_NS] else []) ++
  ((s.adm.nss.filter (fun e => e.2.cut)).map (fun e => e.2.cwMaxNs / 2))

/-- The least assumed bound, ns; 0xFFFF_FFFF with nothing in force (R447). -/
def State.leastBound (s : State) : Nat := s.assumed.foldl min 0xFFFFFFFF

/-- ADM writes the least bound into `CAR_EPS_BOUND` at once (R447, events other than a commit or an image). -/
def State.boundNow (s : State) : State := s.wr Fld.CAR_EPS_BOUND_BOUND s.leastBound

/-- ADM commits the least bound with a change; it takes effect at CAR's boundary, at once while CAR is disabled
(R442, R447). -/
def State.boundCommit (s : State) : State :=
  if s.enabled Blk.CAR then { s with adm := { s.adm with boundNext := some s.leastBound } } else s.boundNow

/-- Present ε is at or below a bound, or time is not valid and it is not compared (R448). -/
def State.epsWithin (s : State) (bound : Nat) : Bool :=
  !s.timeValid || s.eps.le (Frac.int (bound : Nat))

end Sys2Proof.Machine
end

