-- ==== Sys2Proof/Machine/OwnOps.lean ====
section
/-!
DEFINITION. What ownership decides for every block (R369 to R381, R387): holders of objects, ownership-set states, group
claims, and the sending of innkeeper messages.
-/
namespace Sys2Proof.Machine

open Sys2Proof

/-! ## Objects -/

/-- Ownership-set states (Table 17.6). -/
abbrev setUnused : Nat := 0
abbrev setOwned : Nat := 1
abbrev setPartner : Nat := 2
abbrev setUnreachable : Nat := 3
abbrev setMoving : Nat := 4
abbrev setLost : Nat := 5

/-- The home side of a set (R369, `OWN_HOME`). -/
def State.homeOf (s : State) (o : Nat) : Side :=
  if bitAt (s.rd Fld.OWN_HOME_SIDE ((o - 1) / 32)) ((o - 1) % 32) then .b else .a

/-- The home side of a group (R369, `OWN_GRP.HOME_MASK`). -/
def State.groupHome (s : State) (g : Nat) : Side :=
  if bitAt (s.rd Fld.OWN_GRP_HOME_MASK) g then s.aon.side else s.aon.side.other

/-- The lease is HELD (Table 17.1). -/
def State.leaseIsHeld (s : State) : Bool := s.rd Fld.OWN_STATUS_LEASE == leaseHeld

/-- The state of an ownership set on this head (Table 17.6). -/
def State.setState (s : State) (o : Nat) : Nat :=
  match s.own.sets.look o with
  | none => setUnused
  | some side =>
    if !s.leaseIsHeld then setLost
    else if s.own.moving.mem o || (s.own.takeSent.isSome && side != s.aon.side) then setMoving
    else if side = s.aon.side then setOwned
    else if s.linkUp && !s.rdb Fld.ISL_STATUS_SUSPECT then setPartner else setUnreachable

/-- The ANA state of a set's group as `NVF_ANA_GRP` codes it (Tables 05.6, 17.6). -/
def anaCode (st : Nat) : Nat :=
  if st = setUnused then 0 else if st = setOwned then 1 else if st = setPartner then 2
  else if st = setMoving then 7 else 3

/-- The namespaces of an ownership set. -/
def State.nsOfSet (s : State) (o : Nat) : List Nat := (s.adm.nss.filter (fun e => e.2.oset == o)).map (·.1)

/-- The PG of a group or set held here: this head serves the PG's writes. -/
def State.ownsPg (s : State) (pg : Nat) : Bool :=
  match s.pgs.look pg with
  | some p => s.setState p.oset == setOwned
  | none => false

/-- A takeover, a return or a handover is in progress (R390). -/
def State.ownershipMoving (s : State) : Bool :=
  s.own.takeSent.isSome || s.own.moving != [] || s.own.handing != [] || s.own.releasing != []

/-! ## Claims -/

/-- Both heads claim a group while this head's drivers for it are off (R382): side B withdraws its claim and clears its
mask bit; both heads note the conflict. -/
def State.claimConflict (s : State) (g : Nat) : State :=
  if s.aon.claimOut.mem g && s.aon.claimIn.mem g && !s.aon.drivers.mem g then
    let s := s.record Blk.OWN 0x3001 g
    if s.aon.side = .b then
      let a := { s.aon with claimOut := s.aon.claimOut.remove g, claimMask := s.aon.claimMask.remove g }
      (({ s with aon := a.gate }).raise Fld.OWN_ERR_CLAIM_CONFLICT).wr Fld.OWN_ERR_INFO_GROUP g
    else s
  else s

/-- Steps 1 to 3 of a claim of group g (R380): the mask bit, the claim line, and the start of the settle count.  A fenced
head, and one in the first-boot state, asserts no claim (R12, R493). -/
def State.claimGroup (s : State) (g : Nat) : State :=
  if s.aon.fenceIn || s.rdb Fld.PWR_STATUS_FIRST_BOOT || !s.aon.timerRuns then s
  else
    let a := { s.aon with
      fenced := false
      claimMask := s.aon.claimMask.insert g
      claimOut := s.aon.claimOut.insert g
      settle := if s.aon.claimIn.mem g || s.aon.drivers.mem g then s.aon.settle else s.aon.settle.put g s.now }
    State.claimConflict { s with aon := a } g

/-- The end of a release of group g (R381 steps 3 and 4): the claim falls, then the mask bit. -/
def State.dropGroup (s : State) (g : Nat) : State :=
  let a := { s.aon with claimOut := s.aon.claimOut.remove g, claimMask := s.aon.claimMask.remove g }
  { s with aon := a.gate }

/-- The settle time of 2 µs, in local units. -/
abbrev settleTime : Nat := 2 * unitsPerUs

/-! ## Messages of the innkeeper protocol -/

/-- Objects of the two kinds in one numbering: set n at n, group g at 2,000 + g. -/
def objKey (kind first j : Nat) : Nat := if kind = 0 then first + j else 2000 + first + j

/-- A message of this head as it stands now (R372): T_SEND lies above every one sent before (R373). -/
def State.ikMsg (s : State) (op : IkOp) : IkMsg :=
  { op := op, array := s.arrayId, sender := s.headId, tSend := max s.ctNs (s.own.lastSend + 1), reqT := 0,
    epsNs := s.epsNs, leaseUs := s.rd Fld.OWN_LEASE_LEASE_US, word := 0, lgen := s.rd Fld.OWN_LGEN_LGEN,
    agen := s.rd Fld.OWN_AGEN_AGEN, side := s.aon.side, kind := 0, status := 0, objFirst := 0, objCount := 0,
    tagOk := true }

/-- The innkeeper IDs of `OWN_IK`. -/
def State.ikId (s : State) (i : Nat) : Nat := s.rd Fld.OWN_IK_ID i

/-- Which of the three innkeepers an ID names. -/
def State.ikIndex (s : State) (id : Nat) : Option Nat := [0, 1, 2].find? (fun i => s.ikId i == id)

/-- Send a request to all three innkeepers and keep it in flight. -/
def State.ikSendAll (s : State) (m : IkMsg) : State :=
  let s := { s with own := { s.own with
      lastSend := m.tSend
      reqs := s.own.reqs.put m.tSend { msg := m, grants := [], refused := [], records := [], done := false } } }
  [0, 1, 2].foldl (fun s i => s.emit (.ik (s.ikId i) m)) s

/-- Send a QUERY for 64 objects of a kind from `first` (Table 17.3). -/
def State.querySend (s : State) (kind first : Nat) : State :=
  s.ikSendAll { s.ikMsg .query with kind := kind, objFirst := first }

/-- Send ACQUIRE, then the QUERYs that tell the assignment of every object (Table 17.1, R375). -/
def State.acquireSend (s : State) : State :=
  let s := s.wr Fld.OWN_STATUS_LEASE leaseAcquiring
  let s := s.ikSendAll (s.ikMsg .acquire)
  let s := (List.range 16).foldl (fun s k => s.querySend 0 (64 * k + 1)) s
  s.querySend 1 0

/-- Send HANDOVER for objects of a kind (R387 step 3). -/
def State.handoverSend (s : State) (kind first count : Nat) : State :=
  s.ikSendAll { s.ikMsg .handover with kind := kind, objFirst := first, objCount := count }

/-- Keep a HANDOVER or TAKE for the last 64 values of AGEN (R375). -/
def State.keepMsg (s : State) (m : IkMsg) : State :=
  { s with own := { s.own with kept := (s.own.kept ++ [m]).drop ((s.own.kept.length + 1) - 64) } }

/-- Assign an object to a side. -/
def State.assign (s : State) (key : Nat) (side : Side) : State :=
  if key < 2000 then { s with own := { s.own with sets := s.own.sets.put key side } }
  else { s with own := { s.own with groups := s.own.groups.put (key - 2000) side } }

/-- The sets this head holds, and the groups. -/
def State.ownSets (s : State) : List Nat := (s.own.sets.filter (fun e => e.2 == s.aon.side)).map (·.1)
def State.ownGroups (s : State) : List Nat := (s.own.groups.filter (fun e => e.2 == s.aon.side)).map (·.1)

/-- The index halves this head holds, as objects: half h at 4,000 + h (R199: a half moves like any other ownership). -/
def State.ownHalves (s : State) : List Nat :=
  ([0, 1].filter (fun h => bitAt (s.rd Fld.DDP_STATUS_HALVES) h)).map (4000 + ·)

/-- Objects to hand over, one at a time: sets, then groups, then halves of the index (R387). -/
def State.queueHand (s : State) (objs : List Nat) : State :=
  { s with own := { s.own with handing := objs.foldl NatSet.insert s.own.handing } }

/-- Every object this head holds. -/
def State.allHeld (s : State) : List Nat := s.ownSets ++ s.ownGroups.map (2000 + ·) ++ s.ownHalves

/-- The objects held here whose home is the other side (R388). -/
def State.partnerHome (s : State) : List Nat :=
  s.ownSets.filter (fun o => s.homeOf o != s.aon.side) ++
  (s.ownGroups.filter (fun g => s.groupHome g != s.aon.side)).map (2000 + ·) ++
  s.ownHalves.filter (fun h => h != 4000 + s.aon.side.code)

/-- The returning partner's objects go back (R388): `FENCE_OUT_N` is released first, and its mirror records are taken again. -/
def State.returnServe (s : State) : State :=
  ({ s with aon := { s.aon with fenceOut := false }, pjm := { s.pjm with refuseMirror := false } }).queueHand s.partnerHome

/-- Ask the partner for this head's home objects (R388). -/
def State.askReturn (s : State) : State :=
  { s.isend 0 (.returnRequest (s.rdb Fld.FWU_STATUS_TRIAL)) with own := { s.own with returnFrom := none } }

/-- The head is degraded (R392). -/
def State.degraded (s : State) : Bool := s.rdb Fld.OWN_STATUS_DEGRADED

end Sys2Proof.Machine
end

