-- ==== Sys2Proof/Machine/Lpe.lean ====
section
/-!
DEFINITION. The loop engine and ageing (R419 to R439).
-/
namespace Sys2Proof.Machine

open Sys2Proof

/-! ## Q16.16 arithmetic (R424) -/

/-- Saturation to a signed 32-bit number. -/
def sat32 (x : Int) : Int := if x < -2147483648 then -2147483648 else if 2147483647 < x then 2147483647 else x

/-- A product of Q16.16 numbers before saturation: rounded to the nearest multiple of 2^-16, ties away from zero. -/
def mulRound (a b : Int) : Int :=
  let x := a * b
  if 0 ≤ x then (x + 32768) / 65536 else -((-x + 32768) / 65536)

/-- The signed value of a 32-bit field. -/
def q16 (v : Nat) : Int := signedOf 32 v

/-- The 32-bit field of a value. -/
def q16f (x : Int) : Nat := unsignedOf 32 x

/-! ## Loops -/

/-- Loop states (Table 19.3). -/
abbrev loopDisabled : Nat := 0
abbrev loopRamping : Nat := 1
abbrev loopRunning : Nat := 2
abbrev loopTripped : Nat := 3

/-- A loop as reset leaves it. -/
def LoopSt.init : LoopSt := { fresh := true, busyUntil := 0, localAt := none, localDone := false, spNext := none }

/-- A loop beside its registers. -/
def State.loop (s : State) (n : Nat) : LoopSt := s.lpe.loops.getD n LoopSt.init

/-- Replace a loop. -/
def State.setLoop (s : State) (n : Nat) (x : LoopSt) : State := { s with lpe := { s.lpe with loops := s.lpe.loops.put n x } }

/-- The destination of a loop, as destination × 256 + instance (Table 19.1). -/
def State.loopDest (s : State) (n : Nat) : Nat :=
  let d := s.rd Fld.LPE_LOOP_CFG_DEST n
  d * 256 + (if d = 2 ∨ d = 3 then s.rd Fld.LPE_LOOP_CFG_ARG n else 0)

/-- What a destination holds at reset, Q16.16 (R429). -/
def destReset (k : Nat) : Nat := if k / 256 = 1 then 750 * 65536 else if k / 256 = 2 then 65536 else 0

/-- The output in force at a destination. -/
def State.destOf (s : State) (k : Nat) : Nat := s.lpe.dests.getD k (destReset k)

/-- Write an output to a loop's destination; destination 0 is the loop's own output alone. -/
def State.loopOut (s : State) (n out : Nat) : State :=
  let k := s.loopDest n
  let s := s.wr Fld.LPE_LOOP_STATE_OUT out n
  if k / 256 = 0 then s else { s with lpe := { s.lpe with dests := s.lpe.dests.put k out } }

/-- Set a loop's state and its bits of `LPE_RUN` and `LPE_TRIPPED`. -/
def State.loopState (s : State) (n st : Nat) : State :=
  let s := s.wr Fld.LPE_LOOP_STATE_STATE st n
  let run := s.rd Fld.LPE_RUN_MASK
  let trip := s.rd Fld.LPE_TRIPPED_MASK
  let s := s.wr Fld.LPE_RUN_MASK (if st = loopRamping ∨ st = loopRunning then setBit run n else clrBit run n)
  s.wr Fld.LPE_TRIPPED_MASK (if st = loopTripped then setBit trip n else clrBit trip n)

/-- The block that publishes a source; none for source 0 (Table 19.1). -/
def sourceBlock (src : Nat) : Option Nat :=
  match src with
  | 1 => some Blk.AGE
  | 2 => some Blk.AGE
  | 3 => some Blk.GCX
  | 4 => some Blk.STR
  | 5 => some Blk.FLC
  | _ => none

/-- The feedback of a loop (R421, R426): the registers of sources 0 and 5, or what sources 1 to 4 have published, none where
that is invalid. -/
def State.feedback (s : State) (n : Nat) (reading : Option Int) : Option Int :=
  let src := s.rd Fld.LPE_LOOP_CFG_SRC n
  if src = 0 then some (q16 (s.rd Fld.LPE_LOOP_FB_Y n))
  else
    match sourceBlock src with
    | some b => if !s.enabled b then none else if src = 5 then some ((s.rd Fld.FLC_SLC_FREE_PCT : Int) * 65536) else reading
    | none => reading

/-- A loop trips (R431). -/
def State.loopTrip (s : State) (n a1 a2 : Nat) : State :=
  let s := (s.loopOut n (s.rd Fld.LPE_LOOP_SAFE_OUT n)).loopState n loopTripped
  let s := (s.raise Fld.LPE_ERR_TRIP).wr Fld.LPE_ERR_INFO_LOOP n
  s.record Blk.LPE 0x2001 n a1 a2 (s.rdb Fld.LPE_LOOP_CTRL_TRIP_ALARM n)

/-- The residual count after a sample (R431). -/
def State.residual (s : State) (n : Nat) (exceeds : Bool) : State :=
  s.wr Fld.LPE_LOOP_STATE_RCOUNT (if exceeds then min 15 (s.rd Fld.LPE_LOOP_STATE_RCOUNT n + 1) else 0) n

/-- The predicted measurement (R430). -/
def State.yHat (s : State) (n : Nat) : Int :=
  let yp := q16 (s.rd Fld.LPE_LOOP_STATE_Y n)
  let g := mulRound (q16 (s.rd Fld.LPE_MODEL_G n)) (q16 (s.rd Fld.LPE_LOOP_STATE_OUT n))
  let inner := sat32 (sat32 g + q16 (s.rd Fld.LPE_MODEL_Y0 n) - yp)
  sat32 (yp + sat32 (mulRound (s.rd Fld.LPE_MODEL_A n : Int) inner))

/-- What one sample computes (R424, R425): integrator, output and the flags raised. -/
structure Sampled where
  i : Int
  out : Int
  satE : Bool
  satP : Bool
  satD : Bool
  satI : Bool
  satU : Bool
  clamp : Bool
deriving DecidableEq, Repr

/-- The stages of R424 on set-point `sp`, measurement `y`, the one before, and integrator `i`. -/
def sampleOf (kp ki kd bias sp y yPrev i lo hi : Int) (fresh : Bool) : Sampled :=
  let e := sat32 (sp - y)
  let p := sat32 (mulRound kp e)
  let dd := if fresh then 0 else yPrev - y
  let d := sat32 (mulRound kd (sat32 dd))
  let ke := sat32 (mulRound ki e)
  let iN := sat32 (i + ke)
  let u0 := bias + p + iN + d
  let u := sat32 u0
  let out := min (max u lo) hi
  let held := (decide (hi < u) && decide (0 < ke)) || (decide (u < lo) && decide (ke < 0))
  { i := if held then i else iN, out := out, satE := e != sp - y, satP := p != mulRound kp e,
    satD := sat32 dd != dd || d != mulRound kd (sat32 dd), satI := ke != mulRound ki e || iN != i + ke, satU := u != u0,
    clamp := out != u }

/-- Raise a sticky flag of a loop. -/
def State.flagIf (s : State) (b : Bool) (f : Field) (n : Nat) : State := if b then s.raise f n else s

/-- The set-point moves toward its target (R428). -/
def rampTo (now target step : Int) : Int :=
  if step = 0 then target
  else if now < target then min target (now + step) else max target (now - step)

/-- The coefficients of the bank in use. -/
def State.coef (s : State) (f : Field) (n : Nat) : Int := q16 (s.rd f n (s.rd Fld.LPE_LOOP_STATE_BANK n))

/-- A sample with a valid feedback, its output written (R424, R428 to R431). -/
def State.sampleValid (s : State) (n : Nat) (y : Int) : State :=
  let x := s.loop n
  let nSup := s.rd Fld.LPE_SUP_N n
  let yh := s.yHat n
  let r : Int := (y - yh).natAbs
  let sup := decide (0 < nSup) && !x.fresh
  let s := if sup then s.residual n (decide (q16 (s.rd Fld.LPE_MODEL_RBOUND n) < r)) else s
  let trips := sup && decide (nSup ≤ s.rd Fld.LPE_LOOP_STATE_RCOUNT n)
  if s.rd Fld.LPE_LOOP_STATE_STATE n = loopTripped then s.wr Fld.LPE_LOOP_STATE_Y (q16f y) n
  else if trips then
    (s.wr Fld.LPE_LOOP_STATE_Y (q16f y) n).loopTrip n (q16f y + q16f yh * 2 ^ 32) (q16f r)
  else
    let target := q16 (s.rd Fld.LPE_LOOP_SP_SP n)
    let bias := s.coef Fld.LPE_COEF_BIAS n
    let sp := if x.fresh then y
      else rampTo (q16 (s.rd Fld.LPE_LOOP_STATE_SP_NOW n)) target (q16 (s.rd Fld.LPE_LOOP_RAMP_STEP n))
    let inForce := if s.loopDest n / 256 = 0 then s.rd Fld.LPE_LOOP_STATE_OUT n else s.destOf (s.loopDest n)
    let i := if x.fresh then sat32 (q16 inForce - bias) else q16 (s.rd Fld.LPE_LOOP_STATE_I n)
    let z := sampleOf (s.coef Fld.LPE_COEF_KP n) (s.coef Fld.LPE_COEF_KI n) (s.coef Fld.LPE_COEF_KD n) bias sp y
      (q16 (s.rd Fld.LPE_LOOP_STATE_Y n)) i (q16 (s.rd Fld.LPE_LOOP_LIM_OUT_MIN n)) (q16 (s.rd Fld.LPE_LOOP_LIM_OUT_MAX n)) x.fresh
    let s := ((s.flagIf z.satE Fld.LPE_LOOP_FLAGS_SAT_E n).flagIf z.satP Fld.LPE_LOOP_FLAGS_SAT_P n).flagIf z.satD
      Fld.LPE_LOOP_FLAGS_SAT_D n
    let s := ((s.flagIf z.satI Fld.LPE_LOOP_FLAGS_SAT_I n).flagIf z.satU Fld.LPE_LOOP_FLAGS_SAT_U n).flagIf z.clamp
      Fld.LPE_LOOP_FLAGS_CLAMP n
    let s := ((s.wr Fld.LPE_LOOP_STATE_Y (q16f y) n).wr Fld.LPE_LOOP_STATE_I (q16f z.i) n).wr Fld.LPE_LOOP_STATE_SP_NOW (q16f sp) n
    let s := (s.loopOut n (q16f z.out)).loopState n (if sp = target then loopRunning else loopRamping)
    s.setLoop n { x with fresh := false }

/-- A sample whose feedback is invalid (R426): no output, i and y_prev stay; under supervision it counts as a residual over the
bound.  The record of a trip made by it has no measurement to name: free values. -/
def State.sampleInvalid (s : State) (n : Nat) : State :=
  let s := ((s.raise Fld.LPE_LOOP_FLAGS_FB_INVALID n).raise Fld.LPE_ERR_FB_INVALID).wr Fld.LPE_ERR_INFO_LOOP n
  let nSup := s.rd Fld.LPE_SUP_N n
  if nSup = 0 ∨ (s.loop n).fresh = true then s
  else
    let s := s.residual n true
    if nSup ≤ s.rd Fld.LPE_LOOP_STATE_RCOUNT n ∧ s.rd Fld.LPE_LOOP_STATE_STATE n != loopTripped then
      ({ s with free := s.free + 2 }).loopTrip n (Config.freeNat s.free) (Config.freeNat (s.free + 1))
    else s

/-- One sample of a loop (R421, R422, R427): dropped while the one before it is pending; a pending swap and a staged target
come in with it. -/
def State.sample (s : State) (n : Nat) (late : Bool) (delayNs : Nat) (reading : Option Int) : State :=
  let x := s.loop n
  if s.now < x.busyUntil then
    ((s.bump Fld.LPE_LOOP_STAT_OVERRUN 1 n).raise Fld.LPE_ERR_OVERRUN).wr Fld.LPE_ERR_INFO_LOOP n
  else
    let s := s.boundary Blk.LPE
    let s := match x.spNext with
      | some v => s.wr Fld.LPE_LOOP_SP_SP v n
      | none => s
    let s := if s.rdb Fld.LPE_LOOP_CTRL_SWAP n then
        (s.wr Fld.LPE_LOOP_STATE_BANK (1 - s.rd Fld.LPE_LOOP_STATE_BANK n) n).wr Fld.LPE_LOOP_CTRL_SWAP 0 n else s
    let s := s.setLoop n { x with busyUntil := s.now + delayNs * unitsPerNs, spNext := none }
    let s := (s.wr Fld.LPE_LOOP_STATE_DELAY_NS (min delayNs 65535) n).wr Fld.LPE_DELAY_MAX_NS
      (max (s.rd Fld.LPE_DELAY_MAX_NS) (min delayNs 65535))
    let s := s.bump Fld.LPE_LOOP_STAT_SAMPLES 1 n
    let s := if late then s.bump Fld.LPE_LOOP_STAT_LATE 1 n else s
    match s.feedback n reading with
    | some y => s.sampleValid n (sat32 y)
    | none => s.sampleInvalid n

/-- A loop takes samples. -/
def State.loopRuns (s : State) (n : Nat) : Bool := decide (n < 64) && s.rdb Fld.LPE_CTRL_ENABLE && s.rdb Fld.LPE_LOOP_CTRL_ENABLE n

/-- LOOP_SAMPLE (R421, R423): a Carillon action 0x4 names the loop. -/
def State.loopSample (s : State) (n : Nat) (late : Bool) (delayNs : Nat) (reading : Option Int) : State :=
  if s.loopRuns n then
    let s := if s.timeValid then s.setLoop n { s.loop n with localDone := true } else s
    s.sample n late delayNs reading
  else s

/-- LOOP_LOCAL_SAMPLE (R423): the next period of a LOCAL loop passes before the first Carillon action after LOCKED. -/
def State.loopLocalSample (s : State) (n delayNs : Nat) (reading : Option Int) : State :=
  let x := s.loop n
  if s.loopRuns n && s.rdb Fld.LPE_LOOP_CFG_LOCAL n && (!s.timeValid || !x.localDone) then
    let s := match x.localAt with
      | some t => s.advanceUs t (s.rd Fld.LPE_LOOP_CFG_LOCAL_PERIOD_US n)
      | none => s
    let s := s.setLoop n { s.loop n with localAt := some s.now, localDone := x.localDone && s.timeValid }
    s.sample n false delayNs reading
  else s

/-- LOOP_SWAP (R427). -/
def State.loopSwap (s : State) (n : Nat) : State := if n < 64 then s.wr Fld.LPE_LOOP_CTRL_SWAP 1 n else s

/-- LOOP_DISABLE (R429): the pending sample writes nothing after SAFE_OUT. -/
def State.loopDisable (s : State) (n : Nat) : State :=
  if n < 64 ∧ s.rdb Fld.LPE_LOOP_CTRL_ENABLE n = true then
    let s := (s.wr Fld.LPE_LOOP_CTRL_ENABLE 0 n).loopState n loopDisabled
    let s := s.loopOut n (s.rd Fld.LPE_LOOP_SAFE_OUT n)
    s.setLoop n { s.loop n with fresh := true, busyUntil := 0, localAt := none }
  else s

/-- A loop starts (R429): its first sample takes the measurement and the output in force. -/
def State.loopStart (s : State) (n : Nat) : State :=
  let s := ((s.wr Fld.LPE_LOOP_CTRL_ENABLE 1 n).loopState n loopRamping).wr Fld.LPE_LOOP_STATE_RCOUNT 0 n
  s.setLoop n { s.loop n with fresh := true, busyUntil := 0, localAt := none }

/-! ## Ageing -/

/-- The least of the readings that passed. -/
def leastOf (l : List (Option Int)) : Option Int :=
  l.foldl (fun a x => match a, x with
    | some m, some v => some (min m v)
    | none, some v => some v
    | m, none => m) none

/-- The greatest of the readings that passed. -/
def greatestOf (l : List (Option Int)) : Option Int :=
  l.foldl (fun a x => match a, x with
    | some m, some v => some (max m v)
    | none, some v => some v
    | m, none => m) none

/-- One hour, ns. -/
abbrev hourNs : Nat := 3600000000000

/-- The slowdown rate, ‰ per 1,000 h, from the oldest history entry 24 to 168 h old, or the default (R434). -/
def State.ageRate (s : State) (now : Nat) (delta : Frac) : Frac :=
  match s.age.history.find? (fun e => decide (24 * hourNs ≤ now - e.1 ∧ now - e.1 ≤ 168 * hourNs)) with
  | some e => ((delta.sub e.2).mul (Frac.int 1000)).div (Frac.of ((now - e.1 : Nat) : Int) hourNs)
  | none => Frac.of (s.rd Fld.AGE_GB_DEF_RATE : Int) 1000

/-- Q12.4 of a figure in ps. -/
def q12_4 (x : Frac) : Nat := unsignedOf 16 (x.mul (Frac.int 16)).floor

/-- Monitor readings go to their registers. -/
def State.agePdm (s : State) (l : List (Option Int)) : State :=
  (List.range 512).foldl (fun s i =>
    match l.getD i none with
    | some v => (s.wr Fld.AGE_PDM_SLACK_PS (unsignedOf 16 v) i).wr Fld.AGE_PDM_VALID 1 i
    | none => s.wr Fld.AGE_PDM_VALID 0 i) s

/-- Ring-oscillator readings go to their registers. -/
def State.ageRo (s : State) (l : List (Option Int)) : State :=
  (List.range 64).foldl (fun s i =>
    match l.getD i none with
    | some v => s.wr Fld.AGE_RO_PPM (unsignedOf 32 v) i
    | none => s) s

/-- The channel of least margin among those the head drives (R433). -/
def State.ageFlash (s : State) : Option (Nat × Nat) :=
  ((List.range 128).filter (fun c => s.aon.drivers.mem (c / 8))).foldl (fun a c =>
    let m := s.rd Fld.FLC_CH_STATUS_MARGIN_PS c
    match a with
    | some b => if m < b.2 then some (c, m) else some b
    | none => some (c, m)) none

/-- Worth of a ceiling step, ps of slack (R436): 625 ps ÷ 64, or 714 ps ÷ 64. -/
def State.tStep (s : State) : Frac := if s.rd Fld.GLB_REV_SPEED = 14 then Frac.of 714 64 else Frac.of 625 64

/-- Nominal engine clock, MHz. -/
def State.nominalMhz (s : State) : Nat := if s.rd Fld.GLB_REV_SPEED = 14 then 1400 else 1600

/-- The engine clock in force: the least of AGE's ceiling and the 60 % ceiling of a degraded head (R392, R436). -/
def State.clockMhz (s : State) : Nat :=
  let c := s.nominalMhz * (64 - s.rd Fld.AGE_CEIL_STEPS) / 64
  if s.rdb Fld.OWN_STATUS_DEGRADED then min c (s.nominalMhz * 60 / 100) else c

/-- The ceiling after a sweep (R436). -/
def State.ageCeiling (s : State) (sVmax req sTrk spTrk : Frac) : State :=
  let t := s.tStep
  let steps := s.rd Fld.AGE_CEIL_STEPS
  let s := if sVmax.lt req then
      let n := ((req.sub sVmax).div t).ceil.toNat
      let s := (s.wr Fld.AGE_CEIL_STEPS (min 63 (steps + n))).raise Fld.AGE_ERR_CEIL_DOWN
      s.record Blk.AGE 0x2001 n steps 0 (s.rdb Fld.AGE_CTRL_ALARM)
    else if ((req.add t).add (Frac.int (s.rd Fld.AGE_CFG_HYST_PS : Int))).le sVmax && decide (0 < steps) && spTrk.le (sTrk.sub t) then
      s.wr Fld.AGE_CEIL_STEPS (steps - 1)
    else s
  s.wr Fld.AGE_CEIL_MHZ s.clockMhz

/-- The published margin and its warning (R437). -/
def State.ageMargin (s : State) (sVmax req rate sigma k : Frac) : State :=
  let room := sVmax.sub req
  let v := if sigma.num = 0 then 0 else (room.div sigma).floor.toNat
  let h := if rate.num ≤ 0 then 0xFFFFFFFF
    else min 0xFFFFFFFF ((room.div (k.mul rate)).mul (Frac.int 1000)).floor.toNat
  let s := (s.wr Fld.AGE_MARGIN_V_MV (min v 65535)).wr Fld.AGE_MARGIN_HOURS h
  if v < s.rd Fld.AGE_WARN_MARGIN_MV ∨ h < s.rd Fld.AGE_WARN_HOURS then
    (s.raise Fld.AGE_ERR_MARGIN_LOW).record Blk.AGE 0x1002 v h 0 (s.rdb Fld.AGE_CTRL_ALARM)
  else s

/-- The re-planning of a sweep (R434 to R437). -/
def State.agePlan (s : State) (now : Nat) (sAll sTrk : Frac) (delta : Frac) : State :=
  let k := Frac.of (s.rd Fld.AGE_GB_PS_PER_PM : Int) 256
  let sigma := Frac.of (s.rd Fld.AGE_FUSE_PS_PER_MV : Int) 256
  let slackReq := Frac.int (s.rd Fld.AGE_CFG_SLACK_REQ_PS : Int)
  let rate := s.ageRate now delta
  let deltaP := delta.add ((rate.mul (Frac.int (s.rd Fld.AGE_GB_PROJ_H : Int))).div (Frac.int 1000))
  let req := slackReq.add (k.mul deltaP)
  let gap := sTrk.sub sAll
  let spTrk := req.add (if gap.num < 0 then Frac.zero else gap)
  let gb := spTrk.sub slackReq
  let vmax := (s.rd Fld.AGE_CFG_VMAX_MV : Int) - (s.rd Fld.PWR_VDD_SET_MV : Int)
  let sVmax := sAll.add ((Frac.int vmax).mul sigma)
  let s := (s.wr Fld.AGE_SLACK_ALL_PS (q12_4 sAll)).wr Fld.AGE_SLACK_TRK_PS (q12_4 sTrk)
  let s := (s.wr Fld.AGE_DEGRADE_DELTA (delta.mul (Frac.int 1000)).floor.toNat).wr Fld.AGE_DEGRADE_RATE
    (unsignedOf 32 (rate.mul (Frac.int 1000)).floor)
  let s := (s.wr Fld.AGE_GUARD_GB_PS (q12_4 gb)).wr Fld.AGE_GUARD_VGB_MV
    (if sigma.num = 0 then 0 else (gb.div sigma).ceil.toNat)
  let s := if s.rdb Fld.AGE_CTRL_AVS_OWN || !s.age.staged then
      let v := q16f (sat32 (spTrk.mul (Frac.int 65536)).floor)
      let s := { s with age := { s.age with staged := true } }
      s.setLoop 0 { s.loop 0 with spNext := some v }
    else s
  (s.ageCeiling sVmax req sTrk spTrk).ageMargin sVmax req rate sigma k

/-- AGE_SWEEP (R433 to R437).  With no monitor that passes its self-check a figure has no value: it is free. -/
def State.ageSweep (s : State) (r : AgeRead) : State :=
  if !s.rdb Fld.AGE_CTRL_ENABLE then s
  else
    let s := s.boundary Blk.AGE
    let now := s.ctNs
    let pdm := r.pdm.take 512
    let ro := r.ro.take 64
    let bad := pdm.length != 512 || ro.length != 64 || pdm.any (fun x => x.isNone) || ro.any (fun x => x.isNone)
    let s := if bad then s.raise Fld.AGE_ERR_MON_FAIL else s
    let s := if s.age.history = [] then s.raise Fld.AGE_ERR_NO_HISTORY else s
    let s := ((s.agePdm pdm).ageRo ro).wr Fld.AGE_LAST_NS now
    let s := ((s.wr Fld.AGE_EYE_NET_MV r.netMv).wr Fld.AGE_EYE_ISL_MV r.islMv).wr Fld.AGE_EYE_PCIE_MV r.pcieMv
    let s := match s.ageFlash with
      | some c => (s.wr Fld.AGE_FLASH_MARGIN_PS c.2).wr Fld.AGE_FLASH_CH c.1
      | none => s
    let sAll := Frac.of ((leastOf pdm).getD (Config.freeNat s.free : Int)) 16
    let sTrk := Frac.of ((leastOf (pdm.take 32)).getD (Config.freeNat (s.free + 1) : Int)) 16
    let delta := Frac.of ((greatestOf ro).getD (Config.freeNat (s.free + 2) : Int)) 1000
    let s := ({ s with free := s.free + 3 }).agePlan now sAll sTrk delta
    let h := s.age.history ++ [(now, delta)]
    let s := { s with age := { s.age with history := h.drop (h.length - 168) } }
    s.wr Fld.AGE_STATUS_HISTORY s.age.history.length

def execLoopSample (loop : Nat) (late : Bool) (delayNs : Nat) (reading : Option Int) (s : State) : Res :=
  ended (s.loopSample loop late delayNs reading)
def execLoopLocalSample (loop delayNs : Nat) (reading : Option Int) (s : State) : Res :=
  ended (s.loopLocalSample loop delayNs reading)
def execLoopDisable (loop : Nat) (s : State) : Res := ended (s.loopDisable loop)
def execLoopSwap (loop : Nat) (s : State) : Res := ended (s.loopSwap loop)
def execAgeSweep (r : AgeRead) (s : State) : Res := ended (s.ageSweep r)

end Sys2Proof.Machine
end

