-- ==== Sys2Proof/Machine/Hash.lean ====
section
/-!
DEFINITION. CRC-32C and SHA-256, the two digests the spec names (R176, R198, R222, R329), over byte lists.
-/
namespace Sys2Proof

/-- The `n` bytes of a number, least significant first. -/
def bytesLE (v n : Nat) : List Nat :=
  match n with
  | 0 => []
  | k + 1 => v % 256 :: bytesLE (v / 256) k

/-- The `n` bytes of a number, most significant first. -/
def bytesBE (v n : Nat) : List Nat := (bytesLE v n).reverse

/-- The number whose bytes, least significant first, are given. -/
def natLE (bs : List Nat) : Nat := bs.foldr (fun b a => a * 256 + b) 0

/-- The number whose bytes, most significant first, are given. -/
def natBE (bs : List Nat) : Nat := bs.foldl (fun a b => a * 256 + b) 0

/-! ## CRC-32C -/

/-- Eight shifts of the reflected CRC-32C register, polynomial 0x1EDC6F41 (reflected 0x82F63B78). -/
def crcShift (n c : Nat) : Nat :=
  match n with
  | 0 => c
  | k + 1 => crcShift k (if c % 2 = 1 then (c / 2) ^^^ 0x82F63B78 else c / 2)

/-- CRC-32C of a byte list. -/
def crc32c (bs : List Nat) : Nat :=
  (bs.foldl (fun c b => crcShift 8 (c ^^^ b)) 0xFFFFFFFF) ^^^ 0xFFFFFFFF

/-! ## SHA-256 -/

/-- Sum of two words modulo 2^32. -/
def add32 (a b : Nat) : Nat := (a + b) % 2 ^ 32

/-- Rotation of a 32-bit word to the right. -/
def rotr32 (x n : Nat) : Nat := x / 2 ^ n + x % 2 ^ n * 2 ^ (32 - n)

/-- The round constants of SHA-256, first half. -/
def shaK0 : List Nat :=
  [0x428a2f98, 0x71374491, 0xb5c0fbcf, 0xe9b5dba5, 0x3956c25b, 0x59f111f1, 0x923f82a4, 0xab1c5ed5,
   0xd807aa98, 0x12835b01, 0x243185be, 0x550c7dc3, 0x72be5d74, 0x80deb1fe, 0x9bdc06a7, 0xc19bf174,
   0xe49b69c1, 0xefbe4786, 0x0fc19dc6, 0x240ca1cc, 0x2de92c6f, 0x4a7484aa, 0x5cb0a9dc, 0x76f988da,
   0x983e5152, 0xa831c66d, 0xb00327c8, 0xbf597fc7, 0xc6e00bf3, 0xd5a79147, 0x06ca6351, 0x14292967]

/-- The round constants of SHA-256, second half. -/
def shaK1 : List Nat :=
  [0x27b70a85, 0x2e1b2138, 0x4d2c6dfc, 0x53380d13, 0x650a7354, 0x766a0abb, 0x81c2c92e, 0x92722c85,
   0xa2bfe8a1, 0xa81a664b, 0xc24b8b70, 0xc76c51a3, 0xd192e819, 0xd6990624, 0xf40e3585, 0x106aa070,
   0x19a4c116, 0x1e376c08, 0x2748774c, 0x34b0bcb5, 0x391c0cb3, 0x4ed8aa4a, 0x5b9cca4f, 0x682e6ff3,
   0x748f82ee, 0x78a5636f, 0x84c87814, 0x8cc70208, 0x90befffa, 0xa4506ceb, 0xbef9a3f7, 0xc67178f2]

/-- The initial hash value of SHA-256. -/
def shaH0 : List Nat :=
  [0x6a09e667, 0xbb67ae85, 0x3c6ef372, 0xa54ff53a, 0x510e527f, 0x9b05688c, 0x1f83d9ab, 0x5be0cd19]

/-- The words of a message block extended by `n` more; the list holds the latest word first. -/
def shaExpand (n : Nat) (w : List Nat) : List Nat :=
  match n with
  | 0 => w
  | k + 1 =>
    let g := fun i => w.getD i 0
    let s0 := rotr32 (g 14) 7 ^^^ rotr32 (g 14) 18 ^^^ (g 14) / 2 ^ 3
    let s1 := rotr32 (g 1) 17 ^^^ rotr32 (g 1) 19 ^^^ (g 1) / 2 ^ 10
    shaExpand k (add32 (add32 (g 15) s0) (add32 (g 6) s1) :: w)

/-- One round of the compression over the eight working words. -/
def shaRound (st : List Nat) (kw : Nat) : List Nat :=
  match st with
  | [a, b, c, d, e, f, g, h] =>
    let s1 := rotr32 e 6 ^^^ rotr32 e 11 ^^^ rotr32 e 25
    let ch := (e &&& f) ^^^ ((0xFFFFFFFF ^^^ e) &&& g)
    let t1 := add32 (add32 h s1) (add32 ch kw)
    let s0 := rotr32 a 2 ^^^ rotr32 a 13 ^^^ rotr32 a 22
    let maj := (a &&& b) ^^^ (a &&& c) ^^^ (b &&& c)
    [add32 t1 (add32 s0 maj), a, b, c, add32 d t1, e, f, g]
  | _ => st

/-- The hash value after one 64-byte block. -/
def shaBlock (h : List Nat) (block : List Nat) : List Nat :=
  let w0 := (List.range 16).map (fun i => natBE ((block.drop (4 * i)).take 4))
  let w := (shaExpand 48 w0.reverse).reverse
  let out := (List.zipWith add32 (shaK0 ++ shaK1) w).foldl shaRound h
  List.zipWith add32 h out

/-- The hash value after `n` blocks of a padded message. -/
def shaBlocks (n : Nat) (h : List Nat) (bs : List Nat) : List Nat :=
  match n with
  | 0 => h
  | k + 1 => shaBlocks k (shaBlock h (bs.take 64)) (bs.drop 64)

/-- SHA-256 of a byte list: 32 bytes. -/
def sha256 (bs : List Nat) : List Nat :=
  let zeros := (64 - (bs.length + 9) % 64) % 64
  let m := bs ++ 0x80 :: List.replicate zeros 0 ++ bytesBE (8 * bs.length) 8
  (shaBlocks (m.length / 64) shaH0 m).flatMap (fun w => bytesBE w 4)

/-- The fingerprint of a chunk's plaintext (R198): the first 24 digest bytes, byte 0 lowest. -/
def fingerprint (bs : List Nat) : Nat := natLE ((sha256 bs).take 24)

/-! ## Content-defined chunking (R197) -/

/-- gear[i]: bytes 0 to 7 of SHA-256 of the one-byte message i, read little-endian. -/
def gear (i : Nat) : Nat := natLE ((sha256 [i]).take 8)

/-- The lengths of the chunks R197 cuts a value into, given the running hash and the length of the open chunk. -/
def cutLengths (bs : List Nat) (h n : Nat) : List Nat :=
  match bs with
  | [] => if n = 0 then [] else [n]
  | b :: t =>
    let h := (h * 2 + gear b) % 2 ^ 64
    let n := n + 1
    if n < 4096 then cutLengths t h n
    else
      let mask := if n < 16384 then 0xFFFE000000000000 else 0xFFE0000000000000
      if (h &&& mask) = 0 ∨ n = 65536 then n :: cutLengths t 0 0 else cutLengths t h n

/-- The chunks of a key-value value of `len` bytes (R197): one below 65,536 bytes, else as `cutLengths` cuts it; each as
its length and its content. -/
def cutValue (v len : Nat) : List (Nat × Nat) :=
  if len < 65536 then [(len, v)]
  else
    ((cutLengths (bytesLE v len) 0 0).foldl
      (fun (a : Nat × List (Nat × Nat)) n => (a.1 / 2 ^ (8 * n), a.2 ++ [(n, a.1 % 2 ^ (8 * n))])) (v, [])).2

end Sys2Proof
end

