-- ==== Sys2Proof/Machine/MteOps.lean ====
section
/-!
DEFINITION. The match engine's entries and search (R357 to R361), as every consumer uses it.
-/
namespace Sys2Proof.Machine

open Sys2Proof

/-- An entry of all zeros: VALID 0. -/
def mteZero : MteEntry := { data := 0, care := 0, prio := 0, result := 0, valid := false }

/-- An entry's image as a number (Table 16.1). -/
def mteImage (e : MteEntry) : Nat :=
  e.data % 2 ^ 320 + e.care % 2 ^ 320 * 2 ^ 320 + e.prio % 2 ^ 16 * 2 ^ 640 + e.result % 2 ^ 32 * 2 ^ 656 +
    b2n e.valid * 2 ^ 688

/-- The entry an image holds. -/
def mteOfImage (v : Nat) : MteEntry :=
  { data := bitsOf v 0 320, care := bitsOf v 320 320, prio := bitsOf v 640 16, result := bitsOf v 656 32, valid := bitAt v 688 }

/-- An entry. -/
def State.mteEntry (s : State) (i : Nat) : MteEntry := s.mte.entries.getD i mteZero

/-- Write an entry; an entry of all zeros is not listed. -/
def State.setMte (s : State) (i : Nat) (e : MteEntry) : State :=
  { s with mte := { s.mte with
      entries := if e = mteZero then s.mte.entries.del i else s.mte.entries.put i e } }

/-- An entry matches a key (R358). -/
def mteHits (e : MteEntry) (key : Nat) : Bool := e.valid && ((key ^^^ e.data) &&& e.care) % 2 ^ 320 == 0

/-- The state of a bank: 0 normal, 1 bulk load, 2 off. -/
def State.bankState (s : State) (k : Nat) : Nat := bitsOf (s.rd Fld.MTE_BANK_STATE_STATE) (2 * k) 2

/-- Set the state of a bank. -/
def State.setBank (s : State) (k v : Nat) : State :=
  s.wr Fld.MTE_BANK_STATE_STATE (putBits (s.rd Fld.MTE_BANK_STATE_STATE) (2 * k) 2 v)

/-- Segments of a table: first, and one past the last (R359). -/
def State.tblSegs (s : State) (t : Nat) : Nat × Nat :=
  (s.rd Fld.MTE_TBL_CFG_FIRST_SEG t, s.rd Fld.MTE_TBL_CFG_FIRST_SEG t + s.rd Fld.MTE_TBL_CFG_NSEG t)

/-- A table is enabled. -/
def State.tblOn (s : State) (t : Nat) : Bool := s.rdb Fld.MTE_TBL_CFG_ENABLE t

/-- An enabled table covers a bank: banks hold 16 segments. -/
def State.bankCovered (s : State) (k : Nat) : Bool :=
  (List.range 16).any (fun t => s.tblOn t &&
    decide ((s.tblSegs t).1 < 16 * (k + 1) ∧ 16 * k < (s.tblSegs t).2))

/-- The result of a search (Table 16.2). -/
structure MteResult where
  hit : Bool
  multi : Bool
  tie : Bool
  off : Bool
  index : Nat
  prio : Nat
  result : Nat
deriving DecidableEq, Repr

/-- The result on a disabled table, or one that the block does not search (R360). -/
def MteResult.offRes : MteResult :=
  { hit := false, multi := false, tie := false, off := true, index := 0, prio := 0, result := 0 }

/-- The better of two matches: the higher PRIO, and of equal PRIO the lower index (R361). -/
def betterMatch (a : Option (Nat × MteEntry)) (e : Nat × MteEntry) : Option (Nat × MteEntry) :=
  match a with
  | none => some e
  | some b => if b.2.prio < e.2.prio then some e else some b

/-- A search of one table (R358, R361). -/
def State.mteFind (s : State) (t key : Nat) : MteResult :=
  if !s.tblOn t || !s.rdb Fld.MTE_CTRL_ENABLE then MteResult.offRes
  else
    let segs := s.tblSegs t
    let ms := s.mte.entries.filter (fun e =>
      decide (segs.1 * 1024 ≤ e.1 ∧ e.1 < segs.2 * 1024) && s.bankState (e.1 / 16384) == 0 && mteHits e.2 key)
    match ms.foldl betterMatch none with
    | none => { MteResult.offRes with off := false, result := s.rd Fld.MTE_TBL_DEFAULT_RESULT t }
    | some w =>
      { hit := true, multi := decide (2 ≤ ms.length), tie := ms.any (fun e => e.1 != w.1 && e.2.prio == w.2.prio), off := false,
        index := w.1, prio := w.2.prio, result := w.2.result }

/-- A search by a block: only the table's consumer may search it (R360); searches and multiple matches are counted. -/
def State.mteSearch (s : State) (blk t key : Nat) : State × MteResult :=
  let s := s.boundary Blk.MTE
  if s.rd Fld.MTE_TBL_CFG_CONSUMER t != blk then (s, MteResult.offRes)
  else
    let r := s.mteFind t key
    let s := s.bump Fld.MTE_STAT_SEARCH_COUNT
    (if r.multi then s.bump Fld.MTE_STAT_MULTI_COUNT else s, r)

/-- The enabled table a block searches: the lowest that names it as its consumer. -/
def State.mteTable (s : State) (blk : Nat) : Option Nat :=
  (List.range 16).find? (fun t => s.tblOn t && s.rd Fld.MTE_TBL_CFG_CONSUMER t == blk)

/-- The policy a block's table returns for a key; none where the block has no enabled table. -/
def State.mtePolicy (s : State) (blk key : Nat) : Option MteResult := (s.mteTable blk).map (fun t => s.mteFind t key)

end Sys2Proof.Machine
end

