-- ==== Sys2Proof/Machine/PjmOps.lean ====
section
/-!
DEFINITION. The journal's records (R175 to R184): channels, the choice of a channel, issuing and rewriting a record, its
persistence, its end of life, and anchors.
-/
namespace Sys2Proof.Machine

open Sys2Proof

/-- Channel states of `PJM_CH_STATUS`. -/
abbrev chanAbsent : Nat := 0
abbrev chanTraining : Nat := 1
abbrev chanInService : Nat := 2
abbrev chanFailed : Nat := 3
abbrev chanCatchUp : Nat := 4

/-- A channel's log as an empty log stands (R175): records from 4 KiB, unit 64; anchors not yet written. -/
def PjmChan.init : PjmChan :=
  { headOff := 64, tailOff := 64, nextCseq := 0, tailCseq := 0, anchor0 := ⟨0, 0, 64, false⟩,
    anchor1 := ⟨0, 0, 64, false⟩, tailMoved := none, tailUnits := 0, ueTimes := [] }

/-- A channel beside its registers. -/
def State.chan (s : State) (c : Nat) : PjmChan := s.pjm.chans.getD c PjmChan.init

/-- Replace a channel. -/
def State.setChan (s : State) (c : Nat) (x : PjmChan) : State :=
  { s with pjm := { s.pjm with chans := s.pjm.chans.put c x } }

/-- A channel is in service on this head. -/
def State.chanIn (s : State) (c : Nat) : Bool := s.rd Fld.PJM_CH_STATUS_STATE c == chanInService

/-- `PJM_STATUS.CH_OK` (Table 08.13): the channels in service. -/
def State.chOk (s : State) : Nat := (List.range 8).foldl (fun a c => if s.chanIn c then a + 2 ^ c else a) 0

/-- A channel in service on both heads (R180); on this one alone while the partner's PJM is unreachable (R183). -/
def State.chanUsable (s : State) (c : Nat) : Bool :=
  s.chanIn c && (!s.partnerPjm || bitAt (s.rd Fld.ISL_PEER_CH_OK) c)

/-- Units of an own log: L in 64-byte units (Table 08.2). -/
def State.logUnits (s : State) : Nat := s.rd Fld.PJM_LAYOUT_LOG_MIB * 16384

/-- Units between a channel's tail and head. -/
def State.chanSpan (s : State) (c : Nat) : Nat :=
  let x := s.chan c
  if x.tailOff ≤ x.headOff then x.headOff - x.tailOff else s.logUnits - 64 - (x.tailOff - x.headOff)

/-- Live units of a channel's own log (R181). -/
def State.chanLive (s : State) (c : Nat) : Nat :=
  s.pjm.recs.foldl (fun a e => if e.2.live && e.2.chan == c && !e.2.held then a + e.2.len64 else a) 0

/-- The channel with the most free own-log space among those in service on both heads, the lowest on a tie (R180); one may be
left out (R184). -/
def State.pickChanBut (s : State) (ex : Option Nat) : Option Nat :=
  ((List.range 8).filter (fun c => s.chanUsable c && some c != ex)).foldl (fun best c =>
    match best with
    | none => some c
    | some b => if s.chanSpan c < s.chanSpan b then some c else some b) none

/-- The channel the next record takes (R180). -/
def State.pickChan (s : State) : Option Nat := s.pickChanBut none

/-- The type code of a record (Table 08.4). -/
def RecBody.typ : RecBody → Nat
  | .pad => 0x00 | .accept _ => 0x01 | .intent _ _ _ => 0x02 | .slot _ _ _ => 0x03 | .cancel _ => 0x04
  | .stamp _ => 0x05 | .mapDelta _ => 0x06 | .sif _ _ _ => 0x07 | .window _ _ _ => 0x08 | .deferred _ _ _ => 0x09

/-- The replay slot that a command's source has: window and sequence (R40, R126).  Ring windows are numbered by ring, session windows
from 65,536; NVMe queues, batches and spans, whose windows are not in the PJM, lie above. -/
def State.slotOf (s : State) (c : Src) : Nat × Nat :=
  match c with
  | .ring r q => (r, q)
  | .enore k n =>
    (65536 + k, match s.kvs.sessions.look k with
      | some x => match x.cmds.look n with
        | some c => c.e.seq
        | none => 0
      | none => 0)
  | .nvme q c => (2 ^ 80 + q, c)
  | .partner _ w q => (w, q)
  | .batch l q => (2 ^ 81 + l, q)
  | .span a b => (2 ^ 82 + a, b)
  | .own => (2 ^ 83, 0)

/-- The descriptor a write's record carries (Table 08.5). -/
def WriteOp.descriptor (o : WriteOp) : MirWrite :=
  { kind := o.kind, nsid := o.nsid, lba := o.lba, blocks := o.blocks, key := o.key, keyLen := o.keyLen,
    valueLen := o.valueLen, data := o.data, fua := o.fua, valueId := o.valueId, pg := o.pg, wseq := o.wseq }

/-- The body that goes to the partner. -/
def State.mirrorBody (s : State) (b : RecBody) : MirBody :=
  match b with
  | .pad => .pad
  | .accept o => match s.ops.look o with
    | some x => .accept x.descriptor
    | none => .pad
  | .intent o k ds => match s.ops.look o with
    | some x => .intent { x.descriptor with data := [] } k ds
    | none => .pad
  | .slot _ _ st => .slot st
  | .cancel o => .cancel o
  | .stamp es => .stamp es
  | .mapDelta ds => .mapDelta ds
  | .sif k st d => .sif k st d
  | .window _ b h => .window b h
  | .deferred h e r => .deferred h e r

/-- The mirror message of a record (R183). -/
def State.mirrorOf (s : State) (r : PjmRec) : MirrorRec :=
  let src : Option Src := match r.body with
    | .accept o => (s.ops.look o).map WriteOp.src
    | .intent o _ _ => (s.ops.look o).map WriteOp.src
    | _ => none
  let slot : Nat × Nat := match r.body, src with
    | .slot w q _, _ => (w, q)
    | .window w _ _, _ => (w, 0)
    | _, some c => s.slotOf c
    | _, none => (0, 0)
  { chan := r.chan, off := r.off, len64 := r.len64, orig := r.orig, oset := r.oset, tIssue := r.tIssue, window := slot.1,
    seq := slot.2, body := s.mirrorBody r.body, persistent := false }

/-- Records go to the partner as they are issued: while its PJM is reachable, and while the catch-up it asked for runs (R183, R189). -/
def State.mirroring (s : State) : Bool := s.partnerPjm || (s.linkUp && s.isl.serving)

/-- Issue a record to a channel (R180, R183): a record that would cross the end of the log is preceded by a PAD record to the end, with a
JSEQ and a CSEQ of its own, and starts again at 4 KiB; it goes to the partner in the same engine cycle. -/
def State.place (s : State) (c jseq : Nat) (r : PjmRec) : State :=
  let x := s.chan c
  let crosses := decide (s.logUnits < x.headOff + r.len64)
  let pads := crosses && decide (x.headOff < s.logUnits)
  let send := s.mirroring
  let p := s.rd Fld.PJM_JSEQ_NEXT
  let pad : PjmRec := { r with body := .pad, orig := p, copy := false, chan := c, off := x.headOff, len64 := s.logUnits - x.headOff, oset := 0 }
  let s := if pads && send then s.isend 1 (.mirror p (s.mirrorOf pad)) else s
  let s := if pads then s.wr Fld.PJM_JSEQ_NEXT (p + 1) else s
  let x := if crosses then { x with headOff := 64, nextCseq := x.nextCseq + b2n pads } else x
  let r := { r with chan := c, off := x.headOff, cseq := x.nextCseq, held := false, localOk := false,
                    mirrorSent := send, mirrorOk := false, acked := false }
  let s := s.setChan c { x with headOff := x.headOff + r.len64, nextCseq := x.nextCseq + 1 }
  let s := { s with pjm := { s.pjm with recs := s.pjm.recs.put jseq r } }
  if send then s.isend 1 (.mirror jseq (s.mirrorOf r)) else s

/-- PJM's boundary, the next record issued (R193); then the record takes the next JSEQ and goes to the channel of R180, or
is held while no channel is in service (R184). -/
def State.issue (s : State) (body : RecBody) (len64 oset : Nat) : State :=
  let s := s.boundary Blk.PJM
  let j := s.rd Fld.PJM_JSEQ_NEXT
  let s := s.wr Fld.PJM_JSEQ_NEXT (j + 1)
  let r : PjmRec := { body := body, orig := j, copy := false, chan := 0, cseq := 0, off := 0, len64 := len64, oset := oset,
                      tIssue := s.ctNs, localOk := false, mirrorSent := false, mirrorOk := false, acked := false, held := true, live := true }
  match s.pickChan with
  | some c => s.place c j r
  | none => { s.raise Fld.PJM_ERR_HELD with pjm := { s.pjm with recs := s.pjm.recs.put j r } }

/-- The JSEQ the next record takes. -/
def State.nextJseq (s : State) : Nat := s.rd Fld.PJM_JSEQ_NEXT

/-- The record that stands for an original JSEQ: its newest copy (R181). -/
def State.recOf (s : State) (orig : Nat) : Option PjmRec :=
  (s.pjm.recs.reverse.find? (fun e => e.2.orig == orig)).map (·.2)

/-- A record counts as persistent (R25, R26, R183): on both sides, or, for every type except ACCEPT, on the local copy
alone while the partner's PJM is unreachable. -/
def State.recPersistent (s : State) (r : PjmRec) : Bool :=
  r.localOk && (r.mirrorOk || (!s.partnerPjm && r.body.typ != 0x01))

/-- The oldest live record of a channel, as its cseq and offset; the head of the log where none is live (R181). -/
def State.oldestLive (s : State) (c : Nat) : Nat × Nat :=
  let x := s.chan c
  s.pjm.recs.foldl (fun a e =>
    if e.2.live && e.2.chan == c && !e.2.held && decide (e.2.cseq < a.1) then (e.2.cseq, e.2.off) else a)
    (x.nextCseq, x.headOff)

/-- The tail of a channel moves to its oldest live record; records before it are in no log any more (R181, R182). -/
def State.retail (s : State) (c : Nat) : State :=
  let x := s.chan c
  let t := s.oldestLive c
  if t.1 = x.tailCseq then s
  else
    let units := if x.tailOff ≤ t.2 then t.2 - x.tailOff else s.logUnits - 64 - (x.tailOff - t.2)
    let s := s.setChan c { x with tailOff := t.2, tailCseq := t.1, tailUnits := x.tailUnits + units
                                  tailMoved := some (x.tailMoved.getD s.now) }
    { s with pjm := { s.pjm with
        recs := s.pjm.recs.keep (fun _ r => r.live || r.held || r.chan != c || decide (t.1 ≤ r.cseq)) } }

/-- A replay window is released (Table 08.8): no ring, session or queue has it. -/
def State.winReleased (s : State) (w : Nat) : Bool :=
  if w < 2 ^ 80 then !s.wins.has w else if w < 2 ^ 81 then !s.nvf.queues.has (w - 2 ^ 80) else false

/-- A record that other records, or the release of its window, have outlived (Table 08.8): SLOT, WINDOW and DEFERRED. -/
def State.outlived (s : State) (j : Nat) (r : PjmRec) : Bool :=
  let image (w : Nat) : Bool := s.pjm.recs.any (fun e => decide (j < e.1) && (match e.2.body with
    | .window w' _ _ => w' == w
    | _ => false))
  match r.body with
  | .slot w _ _ => image w || s.winReleased w
  | .window w _ _ => image w || s.winReleased w
  | .deferred h d remove => s.pjm.recs.any (fun e => e.2.body == .deferred h d (!remove)) != remove
  | _ => false

/-- Records that `p` names, and those outlived, stop being live (Table 08.8), and the tails follow; a CANCEL whose ACCEPT is in no
log stops being live with it. -/
def State.endLive (s : State) (p : Nat → PjmRec → Bool) : State :=
  let recs := s.pjm.recs.mapVal (fun j r => if p j r || s.outlived j r then { r with live := false } else r)
  let s := { s with pjm := { s.pjm with recs := recs } }
  let s := (List.range 8).foldl State.retail s
  let recs := s.pjm.recs.mapVal (fun _ r =>
    match r.body with
    | .cancel o => if s.pjm.recs.any (fun e => e.2.orig == o && e.2.body.typ == 0x01) then r else { r with live := false }
    | _ => r)
  (List.range 8).foldl State.retail { s with pjm := { s.pjm with recs := recs } }

/-- A STAMP entry is pending (R179). -/
def State.stampAdd (s : State) (orig tA : Nat) : State :=
  { s with pjm := { s.pjm with stamps := s.pjm.stamps ++ [(orig, tA)]
                               stampSince := some (s.pjm.stampSince.getD s.now) } }

/-- Write a STAMP record with the pending entries, at most 240 (R179). -/
def State.stampWrite (s : State) : State :=
  match s.pjm.stamps with
  | [] => s
  | es =>
    let now := es.take 240
    let s := s.issue (.stamp now) (1 + ceilDiv (16 * now.length) 64) 0
    { s with pjm := { s.pjm with stamps := es.drop 240
                                 stampSince := if es.length ≤ 240 then none else some s.now } }

/-- The journal has room for a record of `n` units (R180): on the channel chosen, live bytes stay below FULL_PCT of L. -/
def State.journalRoom (s : State) (n : Nat) : Bool :=
  match s.pickChan with
  | some c => decide ((s.chanLive c + n) * 100 < s.rd Fld.PJM_JCFG_FULL_PCT * s.logUnits)
  | none => false

/-- Every channel of this head's PJM is in service: no local channel has failed (R190). -/
def State.channelsWhole (s : State) : Bool :=
  (List.range 8).all (fun c => s.rd Fld.PJM_CH_STATUS_STATE c != chanFailed && s.rd Fld.PJM_CH_STATUS_STATE c != chanCatchUp)

/-- `PJM_STATUS.JOURNAL_OPEN` (R24, R184, R190): the partner's PJM is reachable, no local channel is failed, no record is
held, and there is room for a record. -/
def State.journalOpen (s : State) : Bool :=
  s.rdb Fld.PJM_CTRL_ENABLE && s.partnerPjm && s.channelsWhole && !s.pjm.recs.any (fun e => e.2.held && e.2.live) &&
    s.journalRoom 1

end Sys2Proof.Machine
end

