-- ==== Sys2Proof/Machine/MapOps.lean ====
section
/-!
DEFINITION. The translation map as its users see it (R244 to R256, R395 to R401): leaf entries and key descriptors in
versions, what an epoch holds, the application of map deltas, and the content a leaf entry leads to.
-/
namespace Sys2Proof.Machine

open Sys2Proof

/-- The key of a leaf entry: namespace, tree (0 the block map, pg + 1 the values of a PG's key tree), LADDR (Table 08.6). -/
def leafKey (nsid tree laddr : Nat) : Nat := (nsid * 131072 + tree) * 2 ^ 64 + laddr % 2 ^ 64

/-- The NSID a leaf key names. -/
def leafNs (k : Nat) : Nat := k / 2 ^ 64 / 131072

/-- The key of a key-value entry: trees lie in order of NSID and PG, keys of one tree in the order of R250. -/
def kvKey (nsid pg key keyLen : Nat) : Nat :=
  (nsid * 65536 + pg) * 2 ^ 2048 + key * 2 ^ (8 * (255 - keyLen)) * 256 + keyLen

/-- The NSID, PG, key and key length of a key-value entry's key. -/
def kvNs (k : Nat) : Nat := k / 2 ^ 2048 / 65536
def kvPg (k : Nat) : Nat := k / 2 ^ 2048 % 65536
def kvLen (k : Nat) : Nat := k % 256
def kvBytes (k : Nat) : Nat := k % 2 ^ 2048 / 256 / 2 ^ (8 * (255 - kvLen k))

/-- The value handle of chunk `n` of a value (R251): [63:16] VALUE_ID, [15:0] chunk. -/
def valueHandle (valueId n : Nat) : Nat := valueId % 2 ^ 48 * 65536 + n % 65536

/-! ## Buckets -/

/-- Key bytes that choose a bucket (R329). -/
def State.hashLen (s : State) (nsid keyLen : Nat) : Nat :=
  match s.kvs.ns.look nsid with
  | some a => if a.hashLen = 0 ∨ keyLen ≤ a.hashLen then keyLen else a.hashLen
  | none => keyLen

/-- The bucket of a key (R329). -/
def State.bucketOf (s : State) (nsid key keyLen : Nat) : Nat :=
  crc32c (bytesBE nsid 4 ++ (bytesBE key keyLen).take (s.hashLen nsid keyLen)) % 2 ^ 20

/-! ## Epochs -/

/-- Epoch states of Table 18.3. -/
abbrev epActive : Nat := 0
abbrev epPending : Nat := 1
abbrev epSealing : Nat := 2
abbrev epReady : Nat := 3
abbrev epDeleting : Nat := 4

/-- The stamp of a replica's pending epoch, above every instant (R411). -/
abbrev openStamp : Nat := 2 ^ 64

/-- The replication and snapshot policy of a namespace (R406): schedule and link, 0 for none. -/
def State.snpPolicy (s : State) (nsid : Nat) : Nat × Nat :=
  match s.adm.nss.look nsid with
  | some n =>
    match s.mtePolicy Blk.SNP (n.tenant * 2 ^ 304 + nsid * 2 ^ 272) with
    | some r => if r.off then (0, 0) else (bitsOf r.result 0 5, bitsOf r.result 5 5)
    | none => (0, 0)
  | none => (0, 0)

/-- The namespaces a link replicates. -/
def State.linkNss (s : State) (l : Nat) : List (Nat × Ns) := s.adm.nss.filter (fun e => (s.snpPolicy e.1).2 == l)

/-- The instants of a namespace's schedule that have passed and that no cut has taken yet: the last, and the one before it (R406). -/
def State.schedDue (s : State) (nsid : Nat) : List Nat :=
  let k := (s.snpPolicy nsid).1
  let first := s.rd Fld.SNP_SCHED_FIRST_NS k
  let per := s.rd Fld.SNP_SCHED_PERIOD_MS k * 1000000
  if k = 0 ∨ s.rdb Fld.SNP_SCHED_VALID k = false ∨ per = 0 ∨ s.ctNs < first then []
  else
    let last := first + (s.ctNs - first) / per * per
    let taken := (s.snp.cat.filter (fun e => e.2.nsid == nsid && e.2.scheduled)).foldl (fun a e => max a (e.2.cut + 1)) 0
    (if first + per ≤ last then [last - per, last] else [last]).filter (fun t => decide (taken ≤ t))

/-- The cuts of a namespace whose contents are retained: armed, sealing or frozen epochs not being deleted (R395, R405). -/
def State.cutsOf (s : State) (nsid : Nat) : List Nat :=
  (s.snp.cat.filter (fun e => e.2.nsid == nsid && e.2.state != epActive && e.2.state != epDeleting)).map (fun e => e.2.cut) ++
    s.schedDue nsid

/-- The active epoch of a namespace; 0 where the catalogue holds no line for it. -/
def State.activeEpoch (s : State) (nsid : Nat) : Nat :=
  ((s.snp.cat.first? (fun _ c => c.nsid == nsid && c.state == epActive)).map (·.1)).getD 0

/-- The epoch a write of stamp `t` belongs to: the first cut not frozen that holds it, or the active epoch (R395). -/
def State.epochOf (s : State) (nsid t : Nat) : Nat :=
  let open_ := s.snp.cat.filter (fun e => e.2.nsid == nsid && e.2.state == epPending && e.2.armed && decide (t ≤ e.2.cut))
  ((open_.foldl (fun (a : Option (Nat × Nat)) e => match a with
    | some b => if e.2.cut < b.2 then some (e.1, e.2.cut) else some b
    | none => some (e.1, e.2.cut)) none).map (·.1)).getD (s.activeEpoch nsid)

/-- The version of highest write sequence among those of stamp at or below a cut (R396). -/
def Leaf.at_ (vs : List Leaf) (cut : Option Nat) : Option Leaf :=
  match cut with
  | none => vs.head?
  | some c => vs.find? (fun v => v.stamp ≤ c)

/-- The same for a key's descriptors. -/
def KvVer.at_ (vs : List KvVer) (cut : Option Nat) : Option KvVer :=
  match cut with
  | none => vs.head?
  | some c => vs.find? (fun v => v.stamp ≤ c)

/-- The leaf entry of a block or value chunk at a cut (none: the active epoch); a clone sees its source's epoch where it
holds no version of its own (R400, R407).  `fuel` bounds the chain of clones. -/
def State.leafIn (s : State) (tree laddr : Nat) : Nat → Nat → Option Nat → Option Leaf
  | 0, nsid, cut => Leaf.at_ (s.map.leaves.getD (leafKey nsid tree laddr) []) cut
  | fuel + 1, nsid, cut =>
    match Leaf.at_ (s.map.leaves.getD (leafKey nsid tree laddr) []) cut with
    | some v => some v
    | none =>
      match s.snp.clones.look nsid with
      | some (src, c) => s.leafIn tree laddr fuel src (some c)
      | none => none

/-- The leaf entry a namespace sees. -/
def State.leafAt (s : State) (nsid tree laddr : Nat) (cut : Option Nat) : Option Leaf :=
  s.leafIn tree laddr s.snp.clones.length nsid cut

/-- The value descriptor of a key at a cut (R251, R400, R407). -/
def State.kvIn (s : State) (pg key keyLen : Nat) : Nat → Nat → Option Nat → Option KvVer
  | 0, nsid, cut => KvVer.at_ (s.map.kv.getD (kvKey nsid pg key keyLen) []) cut
  | fuel + 1, nsid, cut =>
    match KvVer.at_ (s.map.kv.getD (kvKey nsid pg key keyLen) []) cut with
    | some v => some v
    | none =>
      match s.snp.clones.look nsid with
      | some (src, c) => s.kvIn pg key keyLen fuel src (some c)
      | none => none

/-- The value descriptor a namespace sees. -/
def State.kvAt (s : State) (nsid pg key keyLen : Nat) (cut : Option Nat) : Option KvVer :=
  s.kvIn pg key keyLen s.snp.clones.length nsid cut

/-- Put a version among the others, highest write sequence first; an equal write sequence is replaced (R256). -/
def putVersion (vs : List Leaf) (v : Leaf) : List Leaf :=
  match vs with
  | [] => [v]
  | x :: t =>
    if x.wseq < v.wseq then v :: x :: t
    else if x.wseq = v.wseq then v :: t
    else x :: putVersion t v

/-- The same for descriptors. -/
def putKvVersion (vs : List KvVer) (v : KvVer) : List KvVer :=
  match vs with
  | [] => [v]
  | x :: t =>
    if x.wseq < v.wseq then v :: x :: t
    else if x.wseq = v.wseq then v :: t
    else x :: putKvVersion t v

/-- A version is held by the active epoch or by one of the cuts. -/
def keptVersion (vs : List Leaf) (cuts : List Nat) (v : Leaf) : Bool :=
  vs.head? == some v || cuts.any (fun c => Leaf.at_ vs (some c) == some v)

/-- The same for descriptors. -/
def keptKvVersion (vs : List KvVer) (cuts : List Nat) (v : KvVer) : Bool :=
  vs.head? == some v || cuts.any (fun c => KvVer.at_ vs (some c) == some v)

/-- Cuts that hold versions of a namespace: its own, and those of clones that share its pages. -/
def State.holdingCuts (s : State) (nsid : Nat) : List Nat :=
  s.cutsOf nsid ++ (s.snp.clones.filter (fun e => e.2.1 == nsid)).map (fun e => e.2.2)

/-! ## Changing the map -/

/-- The map page a leaf entry lies in (R246). -/
def pageOf (leaf : Nat) : Nat := leaf / 512

/-- A page becomes dirty for its ownership set; one that a checkpoint is writing stays dirty for the next (R258). -/
def State.dirtyPage (s : State) (page nsid : Nat) : State :=
  match s.adm.nss.look nsid with
  | some n =>
    let clip (m : MapSet) : MapSet := { m with run := m.run.map (fun c => { c with pages := c.pages.remove page }) }
    { s with map := { s.map with dirty := s.map.dirty.put page n.oset, sets := s.map.sets.modify n.oset clip } }
  | none => s

/-- Apply a content change to a leaf entry (R256 without RELOC, R398). -/
def State.putLeaf (s : State) (key : Nat) (v : Leaf) : State :=
  let s := { s with map := { s.map with leaves := s.map.leaves.put key (putVersion (s.map.leaves.getD key []) v) } }
  s.dirtyPage (pageOf key) (leafNs key)

/-- Change where the content of one write sequence is held, in every epoch that holds it (R256 with RELOC, R399). -/
def State.moveLeaf (s : State) (key wseq : Nat) (f : Leaf → Leaf) : State :=
  let vs := s.map.leaves.getD key []
  if vs.any (fun v => v.wseq == wseq) then
    { s with map := { s.map with leaves := s.map.leaves.put key (vs.map (fun (v : Leaf) => if v.wseq = wseq then f v else v)) } }.dirtyPage
      (pageOf key) (leafNs key)
  else s

/-- Index handles whose leaf entry no epoch would hold once unheld versions go: each is owed a −1 (R205, R208). -/
def State.droppedRefs (s : State) (key : Nat) : List (Nat × Nat) :=
  let vs := s.map.leaves.getD key []
  let cuts := s.holdingCuts (leafNs key)
  vs.filterMap (fun v => if keptVersion vs cuts v then none else v.idx.map (fun h => (h, v.addr)))

/-- Versions no epoch holds leave the map. -/
def State.pruneLeaf (s : State) (key : Nat) : State :=
  let vs := s.map.leaves.getD key []
  let cuts := s.holdingCuts (leafNs key)
  { s with map := { s.map with leaves := s.map.leaves.put key (vs.filter (keptVersion vs cuts)) } }

/-- Apply a content change to a key's descriptor. -/
def State.putKv (s : State) (key : Nat) (v : KvVer) : State :=
  { s with map := { s.map with kv := s.map.kv.put key (putKvVersion (s.map.kv.getD key []) v) } }

/-- Leaf keys of the chunks of a value. -/
def valueLeaves (nsid pg : Nat) (v : KvVer) : List Nat :=
  (List.range v.chunks).map (fun n => leafKey nsid (pg + 1) (valueHandle v.valueId n))

/-- Descriptors no epoch holds, and with them the leaf entries of their values, leave the map; the index handles of those
entries are owed a −1. -/
def State.kvDropped (s : State) (key : Nat) : List KvVer :=
  let vs := s.map.kv.getD key []
  vs.filter (fun v => !keptKvVersion vs (s.holdingCuts (kvNs key)) v)

def State.pruneKv (s : State) (key : Nat) : State :=
  let gone := s.kvDropped key
  let vs := (s.map.kv.getD key []).filter (fun v => !gone.contains v)
  let leaves := gone.foldl (fun m v =>
    (valueLeaves (kvNs key) (kvPg key) v).foldl (fun m k => m.del k) m) s.map.leaves
  { s with map := { s.map with kv := if vs = [] then s.map.kv.del key else s.map.kv.put key vs, leaves := leaves } }

/-- The index handles owed a −1 when the unheld descriptors of a key go. -/
def State.kvDroppedRefs (s : State) (key : Nat) : List (Nat × Nat) :=
  (s.kvDropped key).flatMap (fun v =>
    (valueLeaves (kvNs key) (kvPg key) v).filterMap (fun k =>
      match s.map.leaves.getD k [] with
      | l :: _ => l.idx.map (fun h => (h, l.addr))
      | [] => none))

/-- A put of a SPAN namespace (Table 15.1). -/
def State.spanPut (s : State) (kind : WKind) (nsid : Nat) : Bool :=
  kind == .kvPut && (match s.kvs.ns.look nsid with
    | some k => k.span
    | none => false)

/-! ## Contents -/

/-- Why a content cannot be returned, or the content. -/
inductive Got where
  | data (v : Nat)
  | fail (status : Nat)
deriving DecidableEq, Repr

/-- A value cut into members of a spanning stripe: 65,536 bytes each (R346). -/
def fixedCut (v len : Nat) : List (Nat × Nat) :=
  (List.range (max 1 (ceilDiv len 65536))).map (fun i =>
    let n := min 65536 (len - 65536 * i)
    (n, v / 2 ^ (524288 * i) % 2 ^ (8 * n)))

/-- The chunks of a value, as lengths and contents: cut by R197, or into members of spanning stripes. -/
def WriteOp.cut (o : WriteOp) : List (Nat × Nat) :=
  if o.span then fixedCut (o.data.headD 0) o.valueLen else cutValue (o.data.headD 0) o.valueLen

/-- The content of the chunk a write carries for a leaf entry (R249 KIND 2): the block, or the piece of the value. -/
def WriteOp.chunkOf (o : WriteOp) (laddr : Nat) : Nat :=
  match o.kind with
  | .kvPut => (o.cut.getD (laddr % 65536) (0, 0)).2
  | .block => o.data.getD (laddr - o.lba) 0
  | _ => 0

/-- The content of a leaf entry (R249): zeros, the chunk, the journal-resident data, or STS_LOST_EXTENT; a chunk whose
codewords cannot be read or whose CRC fails ends the read (R218, R291).  A chunk this head has not stored itself holds what
the flash holds: a free value. -/
def State.contentOf (s : State) (laddr : Nat) (l : Option Leaf) : Got :=
  match l with
  | none => .data 0
  | some v =>
    match v.kind with
    | 0 => .data 0
    | 1 =>
      match s.map.chunks.look v.addr with
      | some c =>
        if c.enc && s.rd Fld.CIP_SLOT_STATE_STATE (c.domain - 1) != 1 then .fail STS_KEY_EMPTY
        else if !c.readable then .fail STS_LOST_EXTENT else if c.crcBad then .fail STS_CHUNK_CRC else .data c.data
      | none => .data (Config.flashChunk v.addr)
    | 2 =>
      match s.ops.first? (fun _ o => o.accepted && o.jseq == v.addr) with
      | some (_, o) => .data (o.chunkOf laddr)
      | none => .data (Config.flashChunk v.addr)
    | _ => .fail STS_LOST_EXTENT

/-- The namespace and the cut at which a namespace is read: a replica at its last frozen epoch (R411), an attached epoch
at its own (R407), every other at its active epoch. -/
def State.readView (s : State) (nsid : Nat) : Nat × Option Nat :=
  match s.snp.replicas.look nsid with
  | some r => (nsid, some r.lastCut)
  | none =>
    match s.snp.cat.first? (fun _ c => c.expose == nsid && nsid != 0) with
    | some (_, c) => (c.nsid, some c.cut)
    | none => (nsid, none)

/-- The contents of `n` blocks from an LBA, or the first failure (R39, R121). -/
def State.readBlocks (s : State) (nsid lba n : Nat) : List Nat × Nat :=
  let view := s.readView nsid
  (List.range n).foldl (fun (a : List Nat × Nat) i =>
    if a.2 != STS_OK then a
    else match s.contentOf (lba + i) (s.leafAt view.1 0 (lba + i) view.2) with
      | .data v => (a.1 ++ [v], STS_OK)
      | .fail st => ([], st)) ([], STS_OK)

/-- A key's descriptor as a read takes it: present, or absent. -/
def State.kvRead (s : State) (nsid pg key keyLen : Nat) : Option KvVer :=
  let view := s.readView nsid
  match s.kvAt view.1 pg key keyLen view.2 with
  | some v => if v.present then some v else none
  | none => none

/-- The value a descriptor leads to (R251), or the first failure. -/
def State.valueOf (s : State) (nsid pg : Nat) (v : KvVer) : Got :=
  let ns := (s.readView nsid).1
  let parts := (List.range v.chunks).foldl (fun (a : Nat × Nat × Nat) i =>
    if a.2.2 != STS_OK then a
    else
      let h := valueHandle v.valueId i
      match s.contentOf h (s.leafAt ns (pg + 1) h none) with
      | .data x =>
        let len := match s.leafAt ns (pg + 1) (valueHandle v.valueId (i + 1)) none with
          | some l => l.voff - a.2.1
          | none => v.vlen - a.2.1
        (a.1 + x * 2 ^ (8 * a.2.1), a.2.1 + len, STS_OK)
      | .fail st => (0, 0, st)) (0, 0, STS_OK)
  if parts.2.2 = STS_OK then .data parts.1 else .fail parts.2.2

end Sys2Proof.Machine
end

