-- ==== Sys2Proof/Machine/Constraints.lean ====
section
/-!
DEFINITION. The constraints ADM judges (R444): every refusal case that a block's chapter states, numbered in the order of its
chapter, and ADM's own of Table 20.1; and the setting of a block's ENABLE under them (R443).  Every function reads the state as it
would stand with the change in force.
-/
namespace Sys2Proof.Machine

open Sys2Proof

/-- A violation where a condition holds. -/
def violIf (c : Bool) (v : Violation) : List Violation := if c then [v] else []

/-- Indices of an indexed register. -/
def Field.indices (f : Field) : List Nat := (List.range f.count).map (fun i => f.first + i)

/-- Two address ranges, base and length, overlap. -/
def overlaps (a b : Nat × Nat) : Bool := decide (a.1 < b.1 + b.2 ∧ b.1 < a.1 + a.2 ∧ 0 < a.2 ∧ 0 < b.2)

/-- Some two ranges of a list overlap. -/
def anyOverlap (l : List (Nat × Nat)) : Bool :=
  match l with
  | [] => false
  | x :: t => t.any (overlaps x) || anyOverlap t

/-- A range leaves the DDR5 fitted, which is at least `Config.ddr5Least`. -/
def outsideDdr5 (a : Nat × Nat) : Bool := decide (Config.ddr5Least < a.1 + a.2) && decide (Config.ddr5Bytes < a.1 + a.2)

/-- A list names no value twice. -/
def distinct (l : List Nat) : Bool :=
  match l with
  | [] => true
  | x :: t => !t.contains x && distinct t

/-- The areas of R224: filter, index cache, deferred queue. -/
def State.ddpAreas (s : State) : List (Nat × Nat) :=
  [(s.rd Fld.DDP_FILTER_BASE_ADDR, 2 ^ s.rd Fld.DDP_IDX_CFG_PAGES_LOG2 * 512),
   (s.rd Fld.DDP_ICACHE_BASE_ADDR, 2 ^ s.rd Fld.DDP_IDX_CFG_ICACHE_LOG2 * 16384),
   (s.rd Fld.DDP_DEFER_BASE_ADDR, 2 ^ s.rd Fld.DDP_IDX_CFG_DEFER_LOG2 * 64)]

/-- The map cache area of R268. -/
def State.mapArea (s : State) : Nat × Nat :=
  (s.rd Fld.MAP_CACHE_BASE_ADDR, 2 ^ s.rd Fld.MAP_CACHE_CFG_PAGES_LOG2 * 16384)

/-- The relocation table's area (R323, R327): 16-byte entries. -/
def State.gcxArea (s : State) : Nat × Nat := (s.rd Fld.GCX_TABLE_BASE_ADDR, 2 ^ s.rd Fld.GCX_SWEEP_TABLE_LOG2 * 16)

/-- The areas of R356: bucket table, bucket-PG table, heat counters, array-set table. -/
def State.kvsAreas (s : State) : List (Nat × Nat) :=
  [(s.rd Fld.KVS_BUCKET_BASE_ADDR, 4194304), (s.rd Fld.KVS_PGMAP_BASE_ADDR, 2097152),
   (s.rd Fld.KVS_HEAT_BASE_ADDR, 2097152), (s.rd Fld.KVS_ASET_BASE_ADDR, 262144)]

/-- HBM in the package (chapter 24): 48 GiB. -/
abbrev hbmBytes : Nat := 51539607552

/-! ## CAR (R76) -/

/-- The period OUT_PERIOD selects, ns. -/
def ppsPeriodNs (code : Nat) : Nat := 1000000000 / 10 ^ code

/-- DELAY_REQ_LOG as a signed number. -/
def State.delayReqLog (s : State) : Int := signedOf Fld.CAR_CTRL_DELAY_REQ_LOG.width (s.rd Fld.CAR_CTRL_DELAY_REQ_LOG)

def State.carViolations (s : State) : List Violation :=
  let per := s.rd Fld.CAR_PPS_OUT_PERIOD
  let w := s.rd Fld.CAR_PPS_OUT_WIDTH * 1000
  let src := s.rd Fld.CAR_CTRL_SOURCE
  let tr := s.rd Fld.CAR_CTRL_TRANSPORT
  let dl := s.delayReqLog
  let rho := s.rd Fld.CAR_DRIFT_BOUND_RHO
  violIf (decide (3 < per)) (viol 0x0101 unitNone 3 per) ++
  violIf (decide (per ≤ 3 ∧ ppsPeriodNs per ≤ w)) (viol 0x0102 unitNs (ppsPeriodNs per) w) ++
  violIf (src == 3 || tr == 3) (viol 0x0103 unitNone 2 3) ++
  violIf (decide (dl < -7)) (viol 0x0104 unitNone (unsignedOf 64 (-7)) (unsignedOf 64 dl)) ++
  violIf (decide (3 < dl)) (viol 0x0104 unitNone 3 (unsignedOf 64 dl)) ++
  violIf (decide (rho < 50)) (viol 0x0105 unitNone 50 rho) ++
  violIf (decide (50000 < rho)) (viol 0x0105 unitNone 50000 rho)

/-! ## HRI (R105) -/

/-- A function's rings: first and count. -/
def State.fnRings (s : State) (n : Nat) : Nat × Nat := (s.rd Fld.HRI_FN_RINGS_BASE n, s.rd Fld.HRI_FN_RINGS_COUNT n)

/-- A function's vectors: first and count. -/
def State.fnVectors (s : State) (n : Nat) : Nat × Nat := (s.rd Fld.HRI_FN_MSIX_BASE n, s.rd Fld.HRI_FN_MSIX_COUNT n)

/-- A ring of a function is not DISABLED. -/
def State.fnRingLive (s : State) (n : Nat) : Bool :=
  let r := s.fnRings n
  (List.range r.2).any (fun i => s.rd Fld.HRI_RING_STATE_STATE (r.1 + i) != 0)

/-- Constraints of HRI (R105).  Every vector range begins at 0 at reset: only functions that have rings are held to disjoint vectors. -/
def State.hriViolations (s old : State) : List Violation :=
  let rings := (List.range 256).map s.fnRings
  let vecs := (List.range 256).map s.fnVectors
  let used := ((List.range 256).filter (fun n => (s.fnRings n).2 != 0)).map s.fnVectors
  violIf (anyOverlap rings || anyOverlap used) (violOpen 0x0201) ++
  violIf (rings.any (fun r => decide (1024 < r.2)) || decide (4096 < (rings.map (·.2)).sum)) (violOpen 0x0202) ++
  violIf (decide (2048 < (vecs.map (·.2)).sum)) (violOpen 0x0203) ++
  violIf ((List.range 256).any (fun n => (s.fnRings n != old.fnRings n || s.fnVectors n != old.fnVectors n) && old.fnRingLive n))
    (violOpen 0x0204)

/-! ## NET (R132), RDM (R136) and ISL (R194) -/

/-- Ports that are enabled. -/
def State.portsOn (s : State) : List Nat := (List.range 32).filter (fun p => s.rdb Fld.NET_PORT_CFG_ENABLE p)

/-- Set bits of an 8-bit mask. -/
def popcount8 (m : Nat) : Nat := ((List.range 8).filter (fun i => bitAt m i)).length

/-- Shares of a port's classes that are not strict. -/
def State.etsShares (s : State) (p : Nat) : List Nat :=
  ((List.range 8).filter (fun t => !s.rdb Fld.NET_ETS_BW_STRICT p t)).map (fun t => s.rd Fld.NET_ETS_BW_BW p t)

def State.netViolations (s : State) : List Violation :=
  let ips := ((List.range 256).filter (fun i => s.rdb Fld.NET_IP_CFG_VALID i)).map (fun i => s.rd Fld.NET_IP_ADDR i)
  let kib := ((List.range 32).map (fun p => popcount8 (s.rd Fld.NET_PFC_EN_MASK p) *
    (s.rd Fld.NET_PFC_XOFF_KIB p + s.rd Fld.NET_PFC_HEADROOM_KIB p))).sum
  violIf ((List.range 4).any (fun o => decide (6 ≤ s.rd Fld.NET_OCTET_MODE_MODE o))) (violOpen 0x0301) ++
  violIf (s.portsOn.any (fun p => s.etsShares p != [] && (s.etsShares p).sum != 100)) (violOpen 0x0302) ++
  violIf (decide (32768 < kib)) (violOpen 0x0303) ++
  violIf (!distinct ips) (violOpen 0x0304)

def State.rdmViolations (s : State) : List Violation :=
  violIf (s.portsOn.any (fun p => !bitAt (s.rd Fld.NET_PFC_EN_MASK p) (s.rd Fld.RDM_CFG_PRIO))) (violOpen 0x0501)

def State.islViolations (s : State) : List Violation :=
  violIf (s.rd Fld.ISL_VC_WEIGHT_W2 == 0 || s.rd Fld.ISL_VC_WEIGHT_W3 == 0) (violOpen 0x0801)

/-! ## POL (R159, R160) -/

/-- Bytes of a buffer by its SIZE code (R158). -/
def bufBytes (code : Nat) : Nat := if code = 0 then 256 else if code = 1 then 4096 else if code = 2 then 16384 else 65536

/-- Pools enabled. -/
def State.poolsOn (s : State) : List Nat := (List.range 16).filter (fun p => s.rdb Fld.POL_POOL_CFG_ENABLE p)

/-- A pool's area: base and bytes. -/
def State.poolArea (s : State) (p : Nat) : Nat × Nat :=
  (s.rd Fld.POL_POOL_BASE_BASE p, s.rd Fld.POL_POOL_CFG_COUNT p * bufBytes (s.rd Fld.POL_POOL_CFG_SIZE p))

/-- Bytes of free rings and state bits at the top of the region: 4.125 per buffer. -/
def State.polMeta (s : State) : Nat := ceilDiv ((s.poolsOn.map (fun p => s.rd Fld.POL_POOL_CFG_COUNT p)).sum * 33) 8

/-- The first pair of overlapping areas: end of the lower plus 1, base of the higher. -/
def firstOverlap (l : List (Nat × Nat)) : Option (Nat × Nat) :=
  match l with
  | [] => none
  | x :: t =>
    match t.find? (overlaps x) with
    | some y => if x.1 ≤ y.1 then some (x.1 + x.2, y.1) else some (y.1 + y.2, x.1)
    | none => firstOverlap t

/-- What of an area lies outside the region: limit crossed, first address outside. -/
def leaves (lo hi : Nat) (a : Nat × Nat) : Option (Nat × Nat) :=
  if a.1 < lo then some (lo, a.1) else if hi < a.1 + a.2 then some (hi, max hi a.1) else none

def State.polAreaViolations (s : State) : List Violation :=
  let lo := s.rd Fld.POL_REGION_BASE
  let size := s.rd Fld.POL_REGION_SIZE
  let areas := s.poolsOn.map s.poolArea
  let mm := s.polMeta
  let need := (areas.map (·.2)).sum + mm
  let metaArea := (lo + (size - mm), mm)
  (match firstOverlap areas with
   | some o => [viol 0x0601 unitAddr o.1 o.2]
   | none => []) ++
  (match (areas ++ (if size < mm then [(lo + size - mm, mm)] else [metaArea])).filterMap (leaves lo (lo + size)) with
   | o :: _ => [viol 0x0602 unitAddr o.1 o.2]
   | [] => []) ++
  violIf (decide (size < need)) (viol 0x0603 unitBytes need size)

def State.polOwnerViolations (s : State) : List Violation :=
  let owners := List.range 1024
  let tenants := (owners.filter (fun o => s.rd Fld.POL_OWNER_CFG_KIND o == 2)).map (fun o => s.rd Fld.POL_OWNER_CFG_TENANT o)
  let queues := (owners.filter (fun o => s.rd Fld.POL_OWNER_CFG_KIND o == 3)).map (fun o => s.rd Fld.POL_OWNER_CFG_TENANT o)
  violIf (s.poolsOn.any (fun p => decide (s.rd Fld.POL_POOL_CFG_COUNT p < (owners.map (fun o => s.rd Fld.POL_LIMIT_MIN o p)).sum)))
    (violOpen 0x0604) ++
  violIf (s.poolsOn.any (fun p => owners.any (fun o => decide (s.rd Fld.POL_LIMIT_MAX o p < s.rd Fld.POL_LIMIT_MIN o p))))
    (violOpen 0x0605) ++
  violIf (!distinct tenants) (violOpen 0x0606) ++
  violIf (queues.any (fun t => !tenants.contains t)) (violOpen 0x0607)

def State.polViolations (s : State) : List Violation := s.polAreaViolations ++ s.polOwnerViolations

/-! ## DDP (R224), CIP (R243), MAP (R246, R268) -/

def State.ddpViolations (s : State) : List Violation :=
  violIf (anyOverlap s.ddpAreas) (violOpen 0x0901) ++ violIf (s.ddpAreas.any outsideDdr5) (violOpen 0x0902)

def State.cipViolations (s : State) : List Violation :=
  let store := (s.rd Fld.CIP_KEY_STORE_ADDR, 2097152)
  violIf (decide (hbmBytes < store.1 + store.2)) (violOpen 0x0B01) ++
  violIf (overlaps store (s.rd Fld.POL_REGION_BASE, s.rd Fld.POL_REGION_SIZE)) (violOpen 0x0B02)

def State.mapViolations (s : State) : List Violation :=
  violIf (s.adm.nss.any (fun e => decide (2 ^ 53 < e.2.size))) (violOpen 0x0C01) ++
  violIf (outsideDdr5 s.mapArea) (violOpen 0x0C02) ++
  violIf (s.ddpAreas.any (overlaps s.mapArea)) (violOpen 0x0C03)

/-! ## FLC (R292), STR (R294), GCX (R327) -/

def State.flcViolations (s : State) : List Violation :=
  let pct := s.rd Fld.FLC_SLC_CFG_SLC_PCT
  violIf (decide (6 ≤ s.rd Fld.FLC_IF_CFG_RATE)) (violOpen 0x0E01) ++
  violIf (decide (pct < 2 ∨ 10 < pct)) (violOpen 0x0E03) ++
  violIf (decide (¬ (s.rd Fld.FLC_SLC_CFG_SLC_MIN < s.rd Fld.FLC_SLC_CFG_SLC_LOW ∧
    s.rd Fld.FLC_SLC_CFG_SLC_LOW < s.rd Fld.FLC_SLC_CFG_FOLD_START))) (violOpen 0x0E04)

/-- Groups that a side holds under the configured split. -/
def State.groupsOf (s : State) (side : Side) : Nat := ((List.range 16).filter (fun g => s.groupHome g == side)).length

def State.strViolations (s : State) : List Violation :=
  match s.pgs.look (s.rd Fld.STR_PG_SEL_PG) with
  | some pg =>
    let d := (s.latched.look (Fld.STR_PG_GEOM_D.key 0 0)).getD pg.d
    let p := (s.latched.look (Fld.STR_PG_GEOM_P.key 0 0)).getD pg.p
    violIf (decide (8 * s.groupsOf pg.home < d + p)) (violOpen 0x0F01)
  | none => []

def State.gcxViolations (s : State) : List Violation :=
  violIf (decide (s.rd Fld.GCX_PACE_FREE_TARGET_PCT ≤ s.rd Fld.GCX_PACE_URGENT_PCT)) (violOpen 0x1001) ++
  violIf (s.rd Fld.GCX_SCORE2_U_MAX == 0) (violOpen 0x1002) ++
  violIf (outsideDdr5 s.gcxArea || (s.mapArea :: s.ddpAreas).any (overlaps s.gcxArea)) (violOpen 0x1003)

/-! ## KVS (R328, R356), MTE (R359), SNP (R412, R418) -/

/-- A namespace is exposed through NVMe: attached to a host with an association, whose tenant it has. -/
def State.nsExposed (s : State) (nsid : Nat) : Bool :=
  match s.adm.nss.look nsid with
  | some n => s.nvf.assocs.any (fun e => e.2.tenant == n.tenant)
  | none => false

/-- An array set is too long, or names one array twice. -/
def badSet (l : List Nat) : Bool := decide (31 < l.length) || !distinct l

def State.kvsViolations (s : State) : List Violation :=
  let others := s.gcxArea :: s.mapArea :: s.ddpAreas
  violIf (s.kvs.ns.any (fun e => e.2.cluster && s.nsExposed e.1)) (violOpen 0x1101) ++
  violIf (s.kvs.ns.any (fun e => e.2.span && (e.2.cluster || (match s.adm.nss.look e.1 with | some n => n.dedup | none => false))))
    (violOpen 0x1102) ++
  violIf (s.kvs.ns.any (fun e => e.2.span && (decide (e.2.nset < e.2.k + e.2.m) || !distinct e.2.set))) (violOpen 0x1103) ++
  violIf (!distinct [s.rd Fld.KVS_AUTH_A0, s.rd Fld.KVS_AUTH_A1, s.rd Fld.KVS_AUTH_A2]) (violOpen 0x1104) ++
  violIf (s.kvsAreas.any outsideDdr5) (violOpen 0x1105) ++
  violIf (anyOverlap s.kvsAreas || s.kvsAreas.any (fun a => others.any (overlaps a))) (violOpen 0x1106) ++
  violIf (s.adm.asets.any (fun e => badSet e.2)) (violOpen 0x1107)

def State.mteViolations (s : State) : List Violation :=
  let on := (List.range 16).filter s.tblOn
  let segs := on.map (fun t => ((s.tblSegs t).1, (s.tblSegs t).2 - (s.tblSegs t).1))
  violIf (anyOverlap segs) (violOpen 0x1201) ++
  violIf (on.any (fun t => decide (128 < (s.tblSegs t).2))) (violOpen 0x1202) ++
  violIf ((List.range 8).any (fun k => s.bankState k != 0 && s.bankCovered k)) (violOpen 0x1203)

/-- Link l in a policy, its target array and mode. -/
def State.linkArrays (s : State) : List Nat :=
  [s.rd Fld.OWN_IK_ID 0 / 2, s.rd Fld.OWN_IK_ID 1 / 2, s.rd Fld.OWN_IK_ID 2 / 2]

/-- R412 for a link: the figures REQUIRED and OFFERED, ms, where it fails. -/
def State.rpoFails (s : State) (l : Nat) : Option (Nat × Nat) :=
  let nss := s.linkNss l
  if s.rd Fld.SNP_RLINK_MODE l = 0 ∨ nss = [] then none
  else
    let w := (nss.map (fun e => e.2.resWriteMbps)).sum
    let m := s.rd Fld.SNP_RLINK_MAX_GBPS l * 1000
    let per := (nss.map (fun e => s.rd Fld.SNP_SCHED_PERIOD_MS (s.snpPolicy e.1).1)).foldl max 0
    let rtt := match s.snp.links.look l with | some x => ceilDiv x.rttNs 1000000 | none => 0
    let need := per + ceilDiv (per * w) m + rtt
    if m ≤ w ∨ s.rd Fld.SNP_RLINK_RPO_MS l < need then some (need, s.rd Fld.SNP_RLINK_RPO_MS l) else none

/-- The first link that breaks R412. -/
def State.rpoViolation (s : State) : Option (Nat × Nat) := ((List.range 32).filterMap s.rpoFails).head?

def State.snpViolations (s : State) : List Violation :=
  let ls := (List.range 32).filter (fun l => l != 0 && s.rd Fld.SNP_RLINK_MODE l == 2)
  violIf (ls.any (fun l => s.rd Fld.SNP_RLINK_ARRAY l == s.arrayId ||
      (s.kvs.buckets.any (fun e => e.2.array == s.rd Fld.SNP_RLINK_ARRAY l) && !s.linkArrays.contains (s.rd Fld.SNP_RLINK_ARRAY l))))
    (violOpen 0x1401) ++
  violIf ((List.range 32).any (fun k => s.rdb Fld.SNP_SCHED_VALID k && decide (s.rd Fld.SNP_SCHED_PERIOD_MS k < 10)))
    (violOpen 0x1402)

/-! ## LPE (R438) and FWU (R471) -/

/-- The range of a loop's destination, signed Q16.16 (Table 19.1). -/
def State.destRange (s : State) (d : Nat) : Option (Int × Int) :=
  if d = 1 then some (650 * 65536, 850 * 65536)
  else if d = 2 then some (0, 65536)
  else if d = 3 ∨ d = 5 then some (0, (s.rd Fld.GCX_PACE_MAX_GBPS : Int) * 65536)
  else if d = 4 then some (0, (s.rd Fld.STR_PATROL_MAX_GBPS : Int) * 65536)
  else none

/-- A limit outside a range: bound crossed and value, as 64-bit two's complement Q16.16. -/
def outOf (r : Int × Int) (v : Int) : Option (Nat × Nat) :=
  if v < r.1 then some (unsignedOf 64 r.1, unsignedOf 64 v)
  else if r.2 < v then some (unsignedOf 64 r.2, unsignedOf 64 v) else none

/-- The sample slots of a loop: Carillon slots with action 0x4 that are ARMED or HELD. -/
def State.sampleSlots (s : State) (n : Nat) : List Nat :=
  ((s.listed Fld.CAR_SLOT_STATE).map (·.1)).filter (fun k =>
    s.rd Fld.CAR_SLOT_ACTION k == 4 && s.rd Fld.CAR_SLOT_TRIGGER k == n)

/-- The constraints of one loop. -/
def State.loopViolations (s : State) (n : Nat) : List Violation :=
  let src := s.rd Fld.LPE_LOOP_CFG_SRC n
  let dst := s.rd Fld.LPE_LOOP_CFG_DEST n
  let per := s.rd Fld.LPE_LOOP_CFG_LOCAL_PERIOD_US n * 1000
  let lim := match s.destRange dst with
    | some r => ([s.rd Fld.LPE_LOOP_LIM_OUT_MIN n, s.rd Fld.LPE_LOOP_LIM_OUT_MAX n].filterMap (fun v => outOf r (q16 v))).head?
    | none => none
  violIf (decide (5 < src)) (viol 0x1501 unitNone 5 src) ++ violIf (decide (5 < dst)) (viol 0x1501 unitNone 5 dst) ++
  (if s.rdb Fld.LPE_LOOP_CFG_LOCAL n then
    match (s.sampleSlots n).find? (fun k => s.rd Fld.CAR_SLOT_PERIOD_NS k != per) with
    | some k => [viol 0x1502 unitNs per (s.rd Fld.CAR_SLOT_PERIOD_NS k)]
    | none => []
   else []) ++
  (match lim with
   | some o => [viol 0x1503 unitNone o.1 o.2]
   | none => [])

def State.lpeViolations (s : State) : List Violation :=
  let on := (List.range 64).filter (fun n => s.rdb Fld.LPE_LOOP_CTRL_ENABLE n)
  let top := q16 (s.rd Fld.LPE_LOOP_LIM_OUT_MAX 0)
  on.flatMap s.loopViolations ++
  violIf (on.contains 0 && decide ((s.rd Fld.AGE_CFG_VMAX_MV : Int) * 65536 < top))
    (viol 0x1504 unitNone (s.rd Fld.AGE_CFG_VMAX_MV) (top / 65536).toNat)

/-- The slot in a state. -/
def State.slotIn (s : State) (st : Nat) : Option Nat := [0, 1].find? (fun k => s.rd Fld.FWU_SLOT_INFO_STATE k == st)

def State.fwuViolations (s : State) : List Violation :=
  violIf (s.rdb Fld.FWU_ACT_VALID && (s.slotIn 1).isNone && (s.slotIn 2).isNone) (violOpen 0x1901)

/-! ## ADM (Table 20.1) -/

/-- Least period of a source, ns (Table 19.1). -/
def leastPeriod (src : Nat) : Nat := if src ≤ 1 then 10000 else if src = 2 then 50000 else 1000000

/-- Engine cycles of a sample: 80 with supervision, 48 without (R422). -/
def State.sampleCost (s : State) (n : Nat) : Nat := if s.rd Fld.LPE_SUP_N n = 0 then 48 else 80

/-- Two sample slots can fall in the same engine cycle (R422). -/
def State.coincide (s : State) (a b : Nat) : Bool :=
  let ia := (s.rd Fld.CAR_SLOT_INSTANT_NS a : Int)
  let ib := (s.rd Fld.CAR_SLOT_INSTANT_NS b : Int)
  let pa := s.rd Fld.CAR_SLOT_PERIOD_NS a
  let pb := s.rd Fld.CAR_SLOT_PERIOD_NS b
  if pa = 0 ∧ pb = 0 then ia == ib
  else if pa = 0 then decide (ib ≤ ia) && (ia - ib) % (pb : Int) == 0
  else if pb = 0 then decide (ia ≤ ib) && (ib - ia) % (pa : Int) == 0
  else (ia - ib) % (Nat.gcd pa pb : Int) == 0

/-- Constraint 0x1703: a loop's period below its source's least, or a coincidence set above 1,400 cycles; a set is the slots that
can meet one slot. -/
def State.budget (s : State) : List Violation :=
  let on := (List.range 64).filter (fun n => s.rdb Fld.LPE_LOOP_CTRL_ENABLE n)
  let slots := on.flatMap (fun n => (s.sampleSlots n).map (fun k => (n, k)))
  let short := slots.find? (fun e => s.rd Fld.CAR_SLOT_PERIOD_NS e.2 != 0 &&
    decide (s.rd Fld.CAR_SLOT_PERIOD_NS e.2 < leastPeriod (s.rd Fld.LPE_LOOP_CFG_SRC e.1)))
  let cost := slots.foldl (fun m e =>
    max m ((slots.filter (fun f => s.coincide e.2 f.2)).map (fun f => s.sampleCost f.1)).sum) 0
  (match short with
   | some e => [viol 0x1703 unitNs (leastPeriod (s.rd Fld.LPE_LOOP_CFG_SRC e.1)) (s.rd Fld.CAR_SLOT_PERIOD_NS e.2)]
   | none => []) ++
  violIf (decide (1400 < cost)) (viol 0x1703 unitCycles cost 1400)

/-- Constraints 0x1701 and 0x1702 (R370, R377). -/
def State.leaseLimits (s : State) : List Violation :=
  let e := s.rd Fld.ADM_TIME_LEASE_EPS_NS
  let need := s.rd Fld.OWN_RTT_NS + 25000 + 2 * e
  violIf (decide (s.leaseNs < 4 * need)) (viol 0x1701 unitNs need (s.leaseNs / 4)) ++
  violIf (decide (12500 < e)) (viol 0x1702 unitNs 12500 e)

/-- Rate of a channel, MB/s, by its code (Table 12.1). -/
def rateMBs (code : Nat) : Nat :=
  if code = 0 then 800 else if code = 1 then 1200 else if code = 2 then 1600 else if code = 3 then 2400 else if code = 4 then 3200
  else 3600

/-- B_w of R449, MB/s: LUN programs and channels, the lesser. -/
def State.writeCapability (s : State) : Nat :=
  match s.flc.geom with
  | none => 0
  | some g =>
    let luns := 128 * g.volumes * g.luns - s.flc.lunsOut.length
    let chans := (List.range 128).filter (fun c => s.rd Fld.FLC_CH_STATUS_STATE c != 3)
    let bprog := if g.tProgUs = 0 then 0 else luns * g.planes * 16384 / g.tProgUs
    let bchan := (chans.map (fun c => rateMBs (s.rd Fld.FLC_CH_STATUS_RATE c))).sum * 9 / 10
    min bprog bchan

/-- Geometry of a namespace's PGs. -/
def State.nsGeom (s : State) (n : Ns) : Nat × Nat :=
  match s.pgs.look n.pgFirst with
  | some p => (p.d, p.p)
  | none => (Fld.STR_PG_GEOM_D.reset, Fld.STR_PG_GEOM_P.reset)

/-- Constraints 0x1704 and 0x1705 (R449). -/
def State.rates (s : State) : List Violation :=
  let w := (s.adm.nss.map (fun e =>
    let g := s.nsGeom e.2
    if g.1 = 0 then 0 else e.2.resWriteMbps * (g.1 + g.2) * s.rd Fld.ADM_QOS_WAF_Q8 / (g.1 * 256))).sum
  let wCap := s.writeCapability * s.rd Fld.ADM_QOS_WRITE_PCT / 100
  let r := (s.adm.nss.map (fun e => e.2.resReadKiops * 1000)).sum
  let f := if s.rd Fld.AGE_CEIL_MHZ = 0 then s.nominalMhz else s.rd Fld.AGE_CEIL_MHZ
  let rCap := 48000000 * f * s.rd Fld.ADM_QOS_READ_PCT / 160000
  violIf (decide (wCap < w)) (viol 0x1704 unitMBs w wCap) ++ violIf (decide (rCap < r)) (viol 0x1705 unitIops r rCap)

/-- The kinds of R446 with the bound each assumes; none where nothing of the kind is in force. -/
def State.kinds (s : State) : List (Option Nat) :=
  [if s.rdb Fld.OWN_CTRL_ENABLE then some (s.rd Fld.ADM_TIME_LEASE_EPS_NS) else none,
   if s.listed Fld.SNP_SCHED_VALID != [] || s.listed Fld.SNP_RLINK_MODE != [] then some (s.rd Fld.ADM_TIME_REPL_EPS_NS) else none,
   if s.rdb Fld.FWU_ACT_VALID then some (s.rd Fld.ADM_TIME_FW_EPS_NS) else none,
   if s.coordLive != [] then some (s.rd Fld.ADM_TIME_SLOT_EPS_NS) else none]

/-- A bound is added or tightened between two states of one kind. -/
def tightened (a b : Option Nat) : Bool :=
  match a, b with
  | none, some _ => true
  | some x, some y => decide (y < x)
  | _, none => false

/-- The bound a namespace assumes. -/
def nsBound (e : Option Ns) : Option Nat :=
  match e with
  | some n => if n.cut then some (n.cwMaxNs / 2) else none
  | none => none

/-- A change adds or tightens an assumed bound (R448). -/
def State.tightens (old new : State) : Bool :=
  (List.zip old.kinds new.kinds).any (fun p => tightened p.1 p.2) ||
  new.adm.nss.any (fun e => tightened (nsBound (old.adm.nss.look e.1)) (nsBound (some e.2)))

/-- The schedules and the activation in force, none where not valid (R446). -/
def State.timed (s : State) : List (Option (Nat × Nat × Nat)) :=
  (List.range 32).map (fun i => if s.rdb Fld.SNP_SCHED_VALID i then
    some (s.rd Fld.SNP_SCHED_FIRST_NS i, s.rd Fld.SNP_SCHED_PERIOD_MS i, s.rd Fld.SNP_SCHED_KEEP i) else none) ++
  [if s.rdb Fld.FWU_ACT_VALID then some (s.rd Fld.FWU_ACT_T, 0, 0) else none]

/-- What is in force after a change was not so before it. -/
def addsOrAlters {α : Type} [DecidableEq α] (a b : Option α) : Bool := b.isSome && decide (a ≠ b)

/-- A change adds or alters time-dependent configuration (R67, 0x1709). -/
def State.altersTime (old new : State) : Bool :=
  (List.zip old.kinds new.kinds).any (fun p => addsOrAlters p.1 p.2) ||
  (List.zip old.timed new.timed).any (fun p => addsOrAlters p.1 p.2) ||
  new.adm.nss.any (fun e => addsOrAlters (nsBound (old.adm.nss.look e.1)) (nsBound (some e.2)))

/-- A time-dependent configuration comes into force, changes or leaves force between two states (R447). -/
def State.timeMoved (old new : State) : Bool :=
  old.altersTime new || new.altersTime old

/-- Constraint 0x1709 on a change (R67, R448). -/
def State.timeChange (old new : State) : List Violation :=
  violIf (old.rdb Fld.CAR_STATUS_EPS_OVER && old.altersTime new)
    (viol 0x1709 unitNs (old.rd Fld.CAR_EPS_BOUND_BOUND) old.epsNs) ++
  violIf (old.tightens new && !old.epsWithin new.leastBound) (viol 0x1709 unitNs new.leastBound old.epsNs)

/-- A host write of `CAR_EPS_BOUND` above the least bound in force (R447). -/
def State.hostBound (old new : State) : List Violation :=
  let v := new.rd Fld.CAR_EPS_BOUND_BOUND
  let least := old.leastBound
  if old.latched.has (Fld.CAR_EPS_BOUND_BOUND.key 0 0) && decide (least < v) then
    [viol (if old.adm.nss.any (fun e => e.2.cut) then 0x1707 else 0x1709) unitNs least v]
  else []

/-- A cut-consistent namespace whose CW_MAX the bound that would result exceeds (R448). -/
def State.cutBound (s : State) : List Violation :=
  match s.adm.nss.find? (fun e => e.2.cut && decide (e.2.cwMaxNs < 2 * s.leastBound)) with
  | some e => [viol 0x1707 unitNs (2 * s.leastBound) e.2.cwMaxNs]
  | none => []

/-- The head's activation instant, ns (R471). -/
def State.activationNs (s : State) (side : Side) : Nat :=
  s.rd Fld.FWU_ACT_T + (if side = Side.b then s.rd Fld.FWU_CFG_DELTA_S * 1000000000 else 0)

/-- End of the partner's confirm window E_p (R471). -/
def State.partnerWindow (s : State) : Option Nat :=
  let confirm := s.rd Fld.FWU_CFG_CONFIRM_S * 1000000000
  match s.fwu.partnerDeadline with
  | some d => some d
  | none => if s.aon.side = Side.b then some (s.activationNs Side.a + confirm) else none

/-- Constraint 0x1708. -/
def State.activation (s : State) : List Violation :=
  match s.partnerWindow with
  | some e => violIf (s.rdb Fld.FWU_ACT_VALID && decide (s.activationNs s.aon.side < e)) (viol 0x1708 unitNs e (s.activationNs s.aon.side))
  | none => []

/-- Constraint 0x170C (R16): own array, or two innkeepers of one array. -/
def State.innkeepers (s : State) : List Violation :=
  let ids := [0, 1, 2].map (fun i => (s.rdb Fld.OWN_IK_SOFTWARE i, s.rd Fld.OWN_IK_ID i))
  let heads := (ids.filter (fun e => !e.1)).map (fun e => e.2 / 2)
  violIf (heads.contains s.arrayId || !distinct heads || !distinct (ids.map (fun e => b2n e.1 * 65536 + e.2))) (violOpen 0x170C)

/-- Constraint 0x170D (R63). -/
def State.epochMoves (old new : State) : List Violation :=
  violIf ((old.rd Fld.CAR_EPOCH_TAI_SEC != new.rd Fld.CAR_EPOCH_TAI_SEC || old.rd Fld.CAR_EPOCH_TAI_NS != new.rd Fld.CAR_EPOCH_TAI_NS) &&
    old.assumed != []) (violOpen 0x170D)

/-- The constraints of a block, judged on the state `new` that the change gives in place of `old`. -/
def blockViolations (b : Nat) (old new : State) : List Violation :=
  if b = Blk.CAR then new.carViolations
  else if b = Blk.HRI then new.hriViolations old
  else if b = Blk.NET then new.netViolations
  else if b = Blk.RDM then new.rdmViolations
  else if b = Blk.POL then new.polViolations
  else if b = Blk.ISL then new.islViolations
  else if b = Blk.DDP then new.ddpViolations
  else if b = Blk.CIP then new.cipViolations
  else if b = Blk.MAP then new.mapViolations
  else if b = Blk.FLC then new.flcViolations
  else if b = Blk.STR then new.strViolations
  else if b = Blk.GCX then new.gcxViolations
  else if b = Blk.KVS then new.kvsViolations
  else if b = Blk.MTE then new.mteViolations
  else if b = Blk.SNP then new.snpViolations
  else if b = Blk.LPE then new.lpeViolations
  else if b = Blk.FWU then new.fwuViolations
  else []

/-- ADM's own constraints that a change of a block touches (Table 20.1). -/
def admViolations (b : Nat) (old new : State) : List Violation :=
  (if b = Blk.OWN ∨ b = Blk.ADM then new.leaseLimits else []) ++
  (if b = Blk.LPE ∨ b = Blk.CAR then new.budget else []) ++
  (if b = Blk.ADM ∨ b = Blk.FLC ∨ b = Blk.STR then new.rates else []) ++
  (if b = Blk.SNP ∨ b = Blk.ADM then
    match new.rpoViolation with
    | some o => [viol 0x1706 unitMs o.1 o.2]
    | none => []
   else []) ++
  (if b = Blk.CAR then old.hostBound new ++ old.epochMoves new else []) ++
  new.cutBound ++
  (if b = Blk.FWU then new.activation else []) ++
  old.timeChange new ++
  (if b = Blk.OWN then new.innkeepers else [])

/-- Every constraint a change of block b breaks: the block's own first, then ADM's. -/
def violations (b : Nat) (old new : State) : List Violation := blockViolations b old new ++ admViolations b old new

/-- Constraints that a measured figure of the state in force breaks now (R445). -/
def State.driftNow (s : State) : NatSet :=
  ((s.leaseLimits ++ s.rates).map (·.index) ++ (match s.rpoViolation with | some _ => [0x1706] | none => [])).foldl NatSet.insert []

/-- The first reason to refuse a change: a constraint it breaks, or one it touches that measured drift has broken and that is
not met yet (R445). -/
def refusal (b : Nat) (old new : State) : Option Violation := (violations b old new).head?

/-- Setting a block's ENABLE runs its checks (R443): on failure it stays 0 and ADM reports. -/
def State.tryEnable (s : State) (f : Field) (i : Nat := 0) : State × Bool :=
  let new := s.wr f 1 i
  match refusal f.blk s new with
  | some v => (s.admRefuse v directRecord, false)
  | none => (new, true)

end Sys2Proof.Machine
end

