-- ==== Sys2Proof/Machine/Adm.lean ====
section
/-!
DEFINITION. ADM: commits, their checks and their effect, and measured drift (R440 to R448); and the enabling of a loop (R429).
-/
namespace Sys2Proof.Machine

open Sys2Proof

/-- A check still runs. -/
def State.checking (s : State) : Bool := s.adm.pend.any (fun e => !e.2.admitted)

/-- COMMIT_WRITE (R440, R442): a write of v to the COMMIT of block b.  GLB has none (R523). -/
def State.commitWrite (s : State) (b v : Nat) : State :=
  match commitField b, activeGenField b with
  | some _, some g =>
    if s.rdb Fld.ADM_STATUS_APPLYING then s.raise Fld.ADM_ERR_APPLY_BUSY
    else if s.adm.pend.has b then s.raise Fld.ADM_ERR_COMMIT_PENDING
    else if v = (s.rd g + 1) % 2 ^ 32 then
      let s := if b = Blk.ADM then s else s.boundary Blk.ADM
      (s.latch b v).wr Fld.ADM_STATUS_CHECKING 1
    else s.raise Fld.ADM_ERR_GEN_MISMATCH
  | _, _ => s

/-- An admission with the bound it commits (R447). -/
def State.letIn (s : State) (b : Nat) : State :=
  let new := s.proposed
  let s := { s with adm := { s.adm with pend := s.adm.pend.modify b (fun p => { p with admitted := true }) } }
  let s := if s.timeMoved new then
      (if s.enabled Blk.CAR then { s with adm := { s.adm with boundNext := some new.leastBound } }
       else s.wr Fld.CAR_EPS_BOUND_BOUND new.leastBound)
    else s
  if s.enabled b && b != Blk.ADM then s else s.applyCommit b

/-- ADMISSION_CHECK_END (R441): within 100 µs the check ends with admission or refusal; a disabled block, and ADM at its next
check, apply at once. -/
def State.checkEnd (s : State) (b : Nat) : State :=
  match s.adm.pend.look b with
  | some p =>
    if p.admitted then s
    else
      let s := match refusal b s s.proposed with
        | some v => (s.unpend b).admRefuse v directRecord
        | none => s.letIn b
      s.wrb Fld.ADM_STATUS_CHECKING s.checking
  | none => s

/-- COMMIT_TAKE_EFFECT (R441, R442): the boundary of block b is reached. -/
def State.takeEffect (s : State) (b : Nat) : State := s.boundary b

/-- MEASURED_DRIFT (R445): constraints in force that a measured figure breaks now; each newly broken one sets DRIFT and is
recorded. -/
def State.measuredDrift (s : State) : State :=
  let now := s.driftNow
  let fresh := now.filter (fun c => !s.adm.drift.mem c)
  let s := { s with adm := { s.adm with drift := now } }
  fresh.foldl (fun s c => (s.raise Fld.ADM_ERR_DRIFT).record Blk.ADM 0x1001 c 0 0) s

/-- LOOP_ENABLE (R429, R443): the checks of R438 and R422, then RAMPING from the output in force. -/
def State.loopEnable (s : State) (n : Nat) : State :=
  if n < 64 ∧ s.rdb Fld.LPE_LOOP_CTRL_ENABLE n = false then
    let r := s.tryEnable Fld.LPE_LOOP_CTRL_ENABLE n
    if r.2 then r.1.loopStart n else r.1
  else s

def execCommitWrite (block gen : Nat) (s : State) : Res := ended (s.commitWrite block gen)
def execAdmissionCheckEnd (block : Nat) (s : State) : Res := ended (s.checkEnd block)
def execCommitTakeEffect (block : Nat) (s : State) : Res := ended (s.takeEffect block)
def execMeasuredDrift (s : State) : Res := ended s.measuredDrift
def execLoopEnable (loop : Nat) (s : State) : Res := ended (s.loopEnable loop)

end Sys2Proof.Machine
end

