-- ==== Sys2Proof/Machine/Aes.lean ====
section
/-!
DEFINITION. AES and its modes as Table 10.2 and R230 use them (CBC, CTR, CFB-128, OFB, XTS, GCM, CMAC), and the key wraps of R235, over
byte lists.
-/
namespace Sys2Proof

/-! ## The block cipher -/

/-- The AES substitution box, by rows of 16. -/
def aesSboxRows : List (List Nat) :=
  [
   [0x63, 0x7c, 0x77, 0x7b, 0xf2, 0x6b, 0x6f, 0xc5, 0x30, 0x01, 0x67, 0x2b, 0xfe, 0xd7, 0xab, 0x76],
   [0xca, 0x82, 0xc9, 0x7d, 0xfa, 0x59, 0x47, 0xf0, 0xad, 0xd4, 0xa2, 0xaf, 0x9c, 0xa4, 0x72, 0xc0],
   [0xb7, 0xfd, 0x93, 0x26, 0x36, 0x3f, 0xf7, 0xcc, 0x34, 0xa5, 0xe5, 0xf1, 0x71, 0xd8, 0x31, 0x15],
   [0x04, 0xc7, 0x23, 0xc3, 0x18, 0x96, 0x05, 0x9a, 0x07, 0x12, 0x80, 0xe2, 0xeb, 0x27, 0xb2, 0x75],
   [0x09, 0x83, 0x2c, 0x1a, 0x1b, 0x6e, 0x5a, 0xa0, 0x52, 0x3b, 0xd6, 0xb3, 0x29, 0xe3, 0x2f, 0x84],
   [0x53, 0xd1, 0x00, 0xed, 0x20, 0xfc, 0xb1, 0x5b, 0x6a, 0xcb, 0xbe, 0x39, 0x4a, 0x4c, 0x58, 0xcf],
   [0xd0, 0xef, 0xaa, 0xfb, 0x43, 0x4d, 0x33, 0x85, 0x45, 0xf9, 0x02, 0x7f, 0x50, 0x3c, 0x9f, 0xa8],
   [0x51, 0xa3, 0x40, 0x8f, 0x92, 0x9d, 0x38, 0xf5, 0xbc, 0xb6, 0xda, 0x21, 0x10, 0xff, 0xf3, 0xd2],
   [0xcd, 0x0c, 0x13, 0xec, 0x5f, 0x97, 0x44, 0x17, 0xc4, 0xa7, 0x7e, 0x3d, 0x64, 0x5d, 0x19, 0x73],
   [0x60, 0x81, 0x4f, 0xdc, 0x22, 0x2a, 0x90, 0x88, 0x46, 0xee, 0xb8, 0x14, 0xde, 0x5e, 0x0b, 0xdb],
   [0xe0, 0x32, 0x3a, 0x0a, 0x49, 0x06, 0x24, 0x5c, 0xc2, 0xd3, 0xac, 0x62, 0x91, 0x95, 0xe4, 0x79],
   [0xe7, 0xc8, 0x37, 0x6d, 0x8d, 0xd5, 0x4e, 0xa9, 0x6c, 0x56, 0xf4, 0xea, 0x65, 0x7a, 0xae, 0x08],
   [0xba, 0x78, 0x25, 0x2e, 0x1c, 0xa6, 0xb4, 0xc6, 0xe8, 0xdd, 0x74, 0x1f, 0x4b, 0xbd, 0x8b, 0x8a],
   [0x70, 0x3e, 0xb5, 0x66, 0x48, 0x03, 0xf6, 0x0e, 0x61, 0x35, 0x57, 0xb9, 0x86, 0xc1, 0x1d, 0x9e],
   [0xe1, 0xf8, 0x98, 0x11, 0x69, 0xd9, 0x8e, 0x94, 0x9b, 0x1e, 0x87, 0xe9, 0xce, 0x55, 0x28, 0xdf],
   [0x8c, 0xa1, 0x89, 0x0d, 0xbf, 0xe6, 0x42, 0x68, 0x41, 0x99, 0x2d, 0x0f, 0xb0, 0x54, 0xbb, 0x16]]

/-- SubBytes of a byte. -/
def aesSub (b : Nat) : Nat := (aesSboxRows.getD (b / 16) []).getD (b % 16) 0

/-- InvSubBytes of a byte: the byte whose substitution it is. -/
def aesInvSub (b : Nat) : Nat := aesSboxRows.flatten.idxOf b

/-- Product with x in GF(2^8). -/
def gfTwice (b : Nat) : Nat := if b < 128 then 2 * b else (2 * b) ^^^ 0x11B

/-- Product in GF(2^8); `n` bits of the multiplier are taken. -/
def gfMul (n a b : Nat) : Nat :=
  match n with
  | 0 => 0
  | k + 1 => (if b % 2 = 1 then a else 0) ^^^ gfMul k (gfTwice a) (b / 2)

/-- Bytewise exclusive or; the length is that of the shorter. -/
def xorBytes (a b : List Nat) : List Nat := List.zipWith (fun x y => x ^^^ y) a b

/-- The k-th round constant, from 1. -/
def aesRcon (k : Nat) : Nat := (List.range (k - 1)).foldl (fun c _ => gfTwice c) 1

/-- `n` more words of the key schedule; the list holds the latest word first, `i` numbers the next one. -/
def aesWords (nk n i : Nat) (w : List (List Nat)) : List (List Nat) :=
  match n with
  | 0 => w
  | k + 1 =>
    let last := w.headD []
    let t :=
      if i % nk = 0 then xorBytes ((last.drop 1 ++ last.take 1).map aesSub) [aesRcon (i / nk), 0, 0, 0]
      else if 6 < nk ∧ i % nk = 4 then last.map aesSub
      else last
    aesWords nk k (i + 1) (xorBytes (w.getD (nk - 1) []) t :: w)

/-- The parts of `n` bytes a list falls into, the last perhaps shorter; `fuel` bounds their number. -/
def partsOf (fuel n : Nat) (bs : List Nat) : List (List Nat) :=
  match fuel, bs with
  | 0, _ => []
  | _, [] => []
  | k + 1, b :: t => (b :: t).take n :: partsOf k n ((b :: t).drop n)

/-- The parts of `n` bytes of a whole list. -/
def parts (n : Nat) (bs : List Nat) : List (List Nat) := partsOf bs.length n bs

/-- The round keys of an AES key of 16, 24 or 32 bytes. -/
def aesKeys (key : List Nat) : List (List Nat) :=
  let nk := key.length / 4
  let w := aesWords nk (4 * (nk + 7) - nk) nk (parts 4 key).reverse
  (parts 16 (w.reverse.flatten))

/-- The bytes of a state, column by column, in the order ShiftRows takes them from. -/
def aesShift : List Nat := [0, 5, 10, 15, 4, 9, 14, 3, 8, 13, 2, 7, 12, 1, 6, 11]

/-- Its inverse. -/
def aesUnshift : List Nat := [0, 13, 10, 7, 4, 1, 14, 11, 8, 5, 2, 15, 12, 9, 6, 3]

/-- Bytes taken in the order of a list of places. -/
def permute (places bs : List Nat) : List Nat := places.map (fun i => bs.getD i 0)

/-- MixColumns with the coefficients of one row, rotated for each of the four. -/
def aesMix (coef bs : List Nat) : List Nat :=
  (parts 4 bs).flatMap (fun c => (List.range 4).map (fun r =>
    (List.range 4).foldl (fun a i => a ^^^ gfMul 4 (c.getD i 0) (coef.getD ((i + 4 - r) % 4) 0)) 0))

/-- AES encryption of a block under a schedule of round keys. -/
def aesEnc (ks : List (List Nat)) (bs : List Nat) : List Nat :=
  match ks with
  | [] => bs
  | k0 :: rest =>
    let mid := rest.dropLast.foldl (fun b k => xorBytes (aesMix [2, 3, 1, 1] (permute aesShift (b.map aesSub))) k) (xorBytes bs k0)
    xorBytes (permute aesShift (mid.map aesSub)) (rest.getLastD [])

/-- AES decryption of a block. -/
def aesDec (ks : List (List Nat)) (bs : List Nat) : List Nat :=
  match ks.reverse with
  | [] => bs
  | k0 :: rest =>
    let inv (b : List Nat) : List Nat := (permute aesUnshift b).map aesInvSub
    let mid := rest.dropLast.foldl (fun b k => aesMix [14, 11, 13, 9] (xorBytes (inv b) k)) (xorBytes bs k0)
    xorBytes (inv mid) (rest.getLastD [])

/-! ## Modes of NIST SP 800-38A -/

/-- CBC encryption of 16-byte blocks. -/
def cbcEnc (ks : List (List Nat)) (iv : List Nat) (bs : List (List Nat)) : List Nat :=
  match bs with
  | [] => []
  | b :: t => let c := aesEnc ks (xorBytes b iv); c ++ cbcEnc ks c t

/-- CBC decryption. -/
def cbcDec (ks : List (List Nat)) (iv : List Nat) (bs : List (List Nat)) : List Nat :=
  match bs with
  | [] => []
  | b :: t => xorBytes (aesDec ks b) iv ++ cbcDec ks b t

/-- CTR from a counter block held as a number; `bits` of it count. -/
def ctrRun (ks : List (List Nat)) (bits ctr : Nat) (bs : List (List Nat)) : List Nat :=
  match bs with
  | [] => []
  | b :: t =>
    let next := ctr / 2 ^ bits * 2 ^ bits + (ctr + 1) % 2 ^ bits
    xorBytes b (aesEnc ks (bytesBE ctr 16)) ++ ctrRun ks bits next t

/-- CFB-128. -/
def cfbRun (ks : List (List Nat)) (dec : Bool) (iv : List Nat) (bs : List (List Nat)) : List Nat :=
  match bs with
  | [] => []
  | b :: t => let o := xorBytes b (aesEnc ks iv); o ++ cfbRun ks dec (if dec then b else o) t

/-- OFB. -/
def ofbRun (ks : List (List Nat)) (iv : List Nat) (bs : List (List Nat)) : List Nat :=
  match bs with
  | [] => []
  | b :: t => let k := aesEnc ks iv; xorBytes b k ++ ofbRun ks k t

/-! ## XTS (IEEE 1619) -/

/-- The next tweak: product with the primitive element, the block read little-endian. -/
def xtsNext (t : List Nat) : List Nat :=
  let v := natLE t * 2
  bytesLE (if v < 2 ^ 128 then v else (v % 2 ^ 128) ^^^ 0x87) 16

/-- One block under a tweak. -/
def xtsBlock (ks : List (List Nat)) (dec : Bool) (t b : List Nat) : List Nat :=
  xorBytes (if dec then aesDec ks (xorBytes b t) else aesEnc ks (xorBytes b t)) t

/-- The blocks of a data unit, the last two with ciphertext stealing when the last is short. -/
def xtsBlocks (ks : List (List Nat)) (dec : Bool) (t : List Nat) (bs : List (List Nat)) : List Nat :=
  match bs with
  | [] => []
  | [b] => xtsBlock ks dec t b
  | b :: c :: rest =>
    if rest = [] ∧ c.length < 16 then
      let u := xtsNext t
      let first := xtsBlock ks dec (if dec then u else t) b
      xtsBlock ks dec (if dec then t else u) (c ++ first.drop c.length) ++ first.take c.length
    else xtsBlock ks dec t b ++ xtsBlocks ks dec (xtsNext t) (c :: rest)

/-- XTS of a data unit under the two halves of a key. -/
def xtsRun (key : List Nat) (dec : Bool) (tweak : List Nat) (bs : List Nat) : List Nat :=
  let h := key.length / 2
  xtsBlocks (aesKeys (key.take h)) dec (aesEnc (aesKeys (key.drop h)) tweak) (parts 16 bs)

/-! ## GCM (NIST SP 800-38D) -/

/-- Product in GF(2^128) as GHASH reads blocks: big-endian, the first bit the lowest power. -/
def ghashMul (n x v z : Nat) : Nat :=
  match n with
  | 0 => z
  | k + 1 =>
    ghashMul k x (if v % 2 = 1 then (v / 2) ^^^ (0xE1 * 2 ^ 120) else v / 2) (if x / 2 ^ k % 2 = 1 then z ^^^ v else z)

/-- A list padded with zeros to whole blocks. -/
def padTo (n : Nat) (bs : List Nat) : List Nat := bs ++ List.replicate ((n - bs.length % n) % n) 0

/-- GHASH of whole blocks. -/
def ghash (h : Nat) (bs : List Nat) : Nat :=
  (parts 16 bs).foldl (fun y b => ghashMul 128 (y ^^^ natBE b) h 0) 0

/-- GCM with a 12-byte IV: the output and the 16-byte tag of a payload; the tag covers the ciphertext. -/
def gcmRun (ks : List (List Nat)) (dec : Bool) (iv aad bs : List Nat) : List Nat × List Nat :=
  let j0 := natBE iv * 2 ^ 32 + 1
  let out := ctrRun ks 32 (j0 + 1) (parts 16 bs)
  let c := if dec then bs else out
  let h := natBE (aesEnc ks (List.replicate 16 0))
  let y := ghash h (padTo 16 aad ++ padTo 16 c ++ bytesBE (8 * aad.length) 8 ++ bytesBE (8 * c.length) 8)
  (out, xorBytes (bytesBE y 16) (aesEnc ks (bytesBE j0 16)))

/-! ## CMAC (NIST SP 800-38B) -/

/-- A subkey from the block before it. -/
def cmacDouble (v : Nat) : Nat := if v < 2 ^ 127 then 2 * v else (2 * v % 2 ^ 128) ^^^ 0x87

/-- The 16-byte tag of a message. -/
def cmac (ks : List (List Nat)) (bs : List Nat) : List Nat :=
  let k1 := cmacDouble (natBE (aesEnc ks (List.replicate 16 0)))
  let whole := bs.length != 0 && bs.length % 16 == 0
  let n := if bs.length = 0 then 0 else (bs.length - 1) / 16 * 16
  let last := if whole then xorBytes (bs.drop n) (bytesBE k1 16)
    else xorBytes (padTo 16 (bs.drop n ++ [0x80])) (bytesBE (cmacDouble k1) 16)
  (parts 16 (bs.take n) ++ [last]).foldl (fun c b => aesEnc ks (xorBytes b c)) (List.replicate 16 0)

/-! ## Key wraps (RFC 3394, RFC 5649) -/

/-- One step of the unwrap over the check value and the semiblocks, numbered `t`. -/
def unwrapStep (ks : List (List Nat)) (n : Nat) (x : List Nat × List (List Nat)) (t : Nat) : List Nat × List (List Nat) :=
  let i := (t - 1) % n
  let b := aesDec ks (xorBytes x.1 (bytesBE t 8) ++ x.2.getD i [])
  (b.take 8, x.2.set i (b.drop 8))

/-- The check value and the plaintext that a wrap of whole semiblocks opens to. -/
def unwrapRaw (ks : List (List Nat)) (blob : List Nat) : List Nat × List Nat :=
  let p := parts 8 blob
  let n := p.length - 1
  let r := ((List.range (6 * n)).map (fun k => 6 * n - k)).foldl (unwrapStep ks n) (p.headD [], p.drop 1)
  (r.1, r.2.flatten)

/-- Unwrap under RFC 3394, or RFC 5649 where `pad` is set: the plaintext, none where the integrity check fails.  A blob of one
semiblock of plaintext, which RFC 5649 alone wraps in one block, is no blob of R235 and fails. -/
def keyUnwrap (key : List Nat) (pad : Bool) (blob : List Nat) : Option (List Nat) :=
  if blob.length % 8 ≠ 0 ∨ blob.length < 24 then none
  else
    let r := unwrapRaw (aesKeys key) blob
    if pad then
      let mli := natBE (r.1.drop 4)
      if natBE (r.1.take 4) = 0xA65959A6 ∧ mli ≤ r.2.length ∧ r.2.length < mli + 8 ∧ (r.2.drop mli).all (fun b => b == 0) = true
      then some (r.2.take mli) else none
    else if r.1.all (fun b => b == 0xA6) then some r.2 else none

end Sys2Proof
end

