-- ==== Sys2Proof/Machine/Gf.lean ====
section
/-!
DEFINITION. The arithmetic of stripe parity (R297, R298): GF(2^8) with the polynomial 0x11D and the extended Cauchy
coefficients.
-/
namespace Sys2Proof.Machine

open Sys2Proof

/-- Product by x. -/
def gfDouble (a : Nat) : Nat := if a < 128 then 2 * a else Nat.xor (2 * a % 256) 0x1D

/-- Product in GF(2^8), from the low bit of `b` up. -/
def gfMulAux (fuel a b : Nat) : Nat :=
  match fuel with
  | 0 => 0
  | n + 1 => Nat.xor (if b % 2 = 1 then a else 0) (gfMulAux n (gfDouble a) (b / 2))

/-- Product in GF(2^8). -/
def gfMul (a b : Nat) : Nat := gfMulAux 8 a b

/-- Power in GF(2^8). -/
def gfPow (a n : Nat) : Nat :=
  match n with
  | 0 => 1
  | k + 1 => gfMul a (gfPow a k)

/-- Inverse in GF(2^8); 0 for 0. -/
def gfInv (a : Nat) : Nat := gfPow a 254

/-- The coefficient of parity member j for data member i (R297). -/
def parityCoef (j i : Nat) : Nat := gfMul (4 + i) (gfInv (Nat.xor j (4 + i)))

/-- A member's content of `n` bytes times a coefficient, byte by byte. -/
def scaleBytes (c v n : Nat) : Nat := natLE ((bytesLE v n).map (fun b => gfMul c b))

/-- The change of parity member j when data member i changes (R298). -/
def parityDelta (j i old new n : Nat) : Nat := scaleBytes (parityCoef j i) (Nat.xor old new) n

/-- Parity member j of data members (R297); a VOID member counts as zeros. -/
def parityOf (j : Nat) (ds : List Nat) (n : Nat) : Nat :=
  (List.range ds.length).foldl (fun a i => Nat.xor a (scaleBytes (parityCoef j i) (ds.getD i 0) n)) 0

end Sys2Proof.Machine
end

