-- ==== Sys2Proof/Machine/RdmOps.lean ====
section
/-!
DEFINITION. What other blocks use of RDM: the packets a queue pair sends as requester (R139 to R141), and the window a consumer block
holds (R145 to R147).
-/
namespace Sys2Proof.Machine

open Sys2Proof

/-- Replace a queue pair. -/
def State.setQp (s : State) (q : Nat) (x : Qp) : State := { s with rdm := { s.rdm with qps := s.rdm.qps.put q x } }

/-- Bytes of a full packet: the largest path MTU allowed (Table 06.1). -/
def State.mtu (s : State) : Nat := 128 * 2 ^ s.rd Fld.RDM_CFG_PMTU_MAX

/-- Packets of a message, one where it is empty. -/
def State.packets (s : State) (bytes : Nat) : Nat := max 1 (ceilDiv bytes s.mtu)

/-- The retransmit timer's period: 4.096 µs × 2^ACK_TIMEOUT (R139). -/
def ackPeriod (t : Nat) : Nat := 4096 * 2 ^ t * unitsPerNs

/-- A queue pair in RTS sends a message of so many bytes: its PSNs, and the retransmit timer (R139). -/
def State.roceSend (s : State) (q bytes : Nat) : State :=
  match s.rdm.qps.look q with
  | none => s
  | some x =>
    if x.st != .rts then s
    else
      let timer := match x.timer with
        | some t => some t
        | none => some (s.now + ackPeriod x.ackTimeout)
      s.setQp q { x with nxt := (x.nxt + s.packets bytes) % 2 ^ 24, timer := timer, lastSend := s.now }

/-- A window of the table. -/
def Win.init : Win :=
  { d := { base := 0, len := 0, qp := 0, qpBind := false, rd := false, wr := false, imm := false, pageable := false, consumer := 0,
           tenant := 0, deadlineUs := 100 },
    gen := 0, st := 0, outstanding := 0, refused := 0, revokedAt := 0, bar0 := false, port := false }

abbrev winFree : Nat := 0
abbrev winOpening : Nat := 1
abbrev winOpen : Nat := 2
abbrev winClosing : Nat := 3

def State.win (s : State) (i : Nat) : Win := s.rdm.wins.getD i Win.init

/-- Replace a window; `RDM_WIN_OPEN_COUNT` counts those not FREE. -/
def State.putWin (s : State) (i : Nat) (w : Win) : State :=
  let s := { s with rdm := { s.rdm with wins := s.rdm.wins.put i w } }
  s.wr Fld.RDM_WIN_OPEN_COUNT_COUNT (s.rdm.wins.countP (fun _ w => w.st != winFree))

/-- An rkey: window index and generation (R144). -/
def rkeyOf (i gen : Nat) : Nat := i * 4096 + gen % 4096

/-- Windows there are (R144). -/
def State.winCount (s : State) : Nat := 2 ^ s.rd Fld.RDM_LIMITS_WIN_LOG2

/-- The result of a window command, to its issuer: `RDM_WIN_RESULT`, or the consumer block (R151, R157). -/
def State.winResult (s : State) (i : Nat) (bar0 : Bool) (status : Nat) (timeout : Bool) : State :=
  if bar0 then
    let s := ((s.wr Fld.RDM_WIN_RESULT_INDEX i).wr Fld.RDM_WIN_RESULT_DONE 1).wr Fld.RDM_WIN_RESULT_BUSY 0
    ((s.wrb Fld.RDM_WIN_RESULT_TIMEOUT timeout).wr Fld.RDM_WIN_RESULT_STATUS status).wr Fld.RDM_WIN_RESULT_GEN (s.win i).gen
  else s.emit (.winDone i status timeout)

/-- An open command (R147): refused, or the window opens its next generation. -/
def State.winOpenCmd (s : State) (i : Nat) (d : WinDesc) (inArea bar0 : Bool) : State :=
  let w := s.win i
  if s.winCount ≤ i ∨ w.st ≠ winFree then s.winResult i bar0 STS_BAD_DESCRIPTOR false
  else if !inArea || d.len == 0 || decide (2 ^ 30 < d.len) then s.winResult i bar0 STS_ACCESS_DENIED false
  else
    s.putWin i { d := d, gen := (w.gen + 1) % 4096, st := winOpening, outstanding := 0, refused := 0, revokedAt := 0, bar0 := bar0, port := !bar0 }

/-- The issuers that await a window's command have its result. -/
def State.winResults (s : State) (i status : Nat) (timeout : Bool) : State :=
  let w := s.win i
  let s := if w.bar0 then s.winResult i true status timeout else s
  let s := if w.port then s.winResult i false status timeout else s
  s.putWin i { w with bar0 := false, port := false }

/-- A revoke command (R148): CLOSING at once, which ends an open command that waits; on a FREE window it completes at once, on a CLOSING
one when it is FREE. -/
def State.winRevokeCmd (s : State) (i : Nat) (bar0 : Bool) : State :=
  let w := s.win i
  if w.st = winFree then s.winResult i bar0 STS_OK false
  else if w.st = winClosing then s.putWin i { w with bar0 := w.bar0 || bar0, port := w.port || !bar0 }
  else (s.winResults i STS_WINDOW_REVOKED false).putWin i { w with st := winClosing, revokedAt := s.now, bar0 := bar0, port := !bar0 }

end Sys2Proof.Machine
end

