-- ==== Sys2Proof/Machine/Complete.lean ====
section
/-!
DEFINITION. The end of commands on every path (R5, R42 to R45, R130, R342), the acceptance of writes (R25, R27, R30), the
events of ownership and deferred errors on the fabric (R123, R125), and what a record's persistence brings about.
-/
namespace Sys2Proof.Machine

open Sys2Proof

/-! ## NVMe -/

/-- The NVMe status of a code (Tables 05.8, 09.8, 10.x, 13.x, 15.8): type (0 generic, 1 command specific, 2 media, 3 path
related), code, DNR.  Codes with no NVMe status take Generic 06h with DNR clear. -/
def nvmeStatus (st : Nat) : Nat × Nat × Bool :=
  match st with
  | 0x0000 => (0, 0x00, false)
  | 0x0001 => (0, 0x00, false)
  | 0x0202 => (3, 0x03, false)
  | 0x0203 => (3, 0x02, false)
  | 0x0301 => (0, 0x81, false)
  | 0x0302 => (0, 0x20, true)
  | 0x0304 => (0, 0x80, true)
  | 0x0401 => (2, 0x81, true)
  | 0x0402 => (2, 0x81, true)
  | 0x0405 => (0, 0x82, false)
  | 0x0503 => (0, 0x02, true)
  | 0x0504 => (2, 0x86, true)
  | 0x0505 => (0, 0x04, false)
  | 0x0506 => (0, 0x01, true)
  | 0x0507 => (0, 0x0B, true)
  | 0x0509 => (2, 0x86, true)
  | 0x050A => (0, 0x02, true)
  | 0x050D => (1, 0x87, true)
  | 0x050E => (1, 0x89, true)
  | 0x0510 => (1, 0x86, true)
  | 0x0511 => (1, 0x85, true)
  | 0x0701 => (0, 0x06, false)
  | _ => (0, 0x06, false)

/-- A queue of the fabric target. -/
def State.queue (s : State) (q : Nat) : Option NvQueue := s.nvf.queues.look q

/-- Replace a queue. -/
def State.setQueue (s : State) (q : Nat) (x : NvQueue) : State :=
  { s with nvf := { s.nvf with queues := s.nvf.queues.put q x } }

/-- What a queue sends leaves on its queue pair where it has one (R139); TCP connections keep their own sequence (R113). -/
def State.queueSend (s : State) (q bytes : Nat) : State :=
  match s.queue q with
  | some x => match x.trans with
    | .rdma p => s.roceSend p bytes
    | .tcp _ => s
  | none => s

/-- Send an NVMe completion for a status code (R130). -/
def State.nvmeCpl (s : State) (q cid status dw0 : Nat) : State :=
  let n := nvmeStatus status
  (s.emit (.nvmeCpl q cid status n.1 n.2.1 dw0 n.2.2)).queueSend q 16

/-- A command of a queue's window ends (R45): the status is stored with its entry, and the transfer's buffers are gone. -/
def State.nvmeStore (s : State) (q cid status : Nat) : State :=
  match s.queue q with
  | none => s
  | some x =>
    let win := x.win.map (fun w => if w.cid = cid ∧ w.st = .inProgress then
      { w with st := .completed status, order := x.orderNext, follow := 0, replayed := false } else w)
    let s := s.setQueue q { x with win := win, orderNext := x.orderNext + 1 }
    { s with nvf := { s.nvf with xfers := s.nvf.xfers.keep (fun _ t => !(t.queue == q && t.cid == cid)) } }

/-- The status an NVMe completion of a resend carries (R42). -/
def replayStatus (status : Nat) : Nat := if status = STS_OK then STS_DUPLICATE_REPLAYED else status

/-- An NVMe I/O command completes: stored in the window, and sent with its code in dword 0 (R45, R130), once for the command and
once for every resend that follows it (R41, R42). -/
def State.nvmeEnd (s : State) (q cid status : Nat) (dw0 : Nat := 0) : State :=
  match s.queue q with
  | none => s
  | some x =>
    match x.win.find? (fun w => w.cid == cid && w.st == SlotSt.inProgress) with
    | none => s
    | some w =>
      let say (s : State) (st : Nat) : State := s.nvmeCpl q cid st (if w.keepsDw0 && status == STS_OK then dw0 else st)
      let s := say (s.nvmeStore q cid status) (if w.replayed then replayStatus status else status)
      (List.range w.follow).foldl (fun s _ => say s (replayStatus status)) s

/-- An NVMe command completes and its window entry goes, so that a resend is new (R53). -/
def State.nvmeEndFree (s : State) (q cid status : Nat) : State :=
  match s.queue q with
  | none => s
  | some x =>
    let s := s.nvmeEnd q cid status
    s.setQueue q { x with win := x.win.filter (fun w => w.cid != cid) }

/-- An association. -/
def State.assoc (s : State) (a : Nat) : Option NvAssoc := s.nvf.assocs.look a

/-- Replace an association. -/
def State.setAssoc (s : State) (a : Nat) (x : NvAssoc) : State :=
  { s with nvf := { s.nvf with assocs := s.nvf.assocs.put a x } }

/-- Complete an association's oldest outstanding Asynchronous Event Request with an event, if there is one:
dword 0 holds type [2:0], information [15:8] and log page [23:16]. -/
def State.aerPost (s : State) (a typ info page : Nat) : State × Bool :=
  match s.assoc a with
  | none => (s, false)
  | some x =>
    match x.aers with
    | [] => (s, false)
    | c :: rest => ((s.setAssoc a { x with aers := rest }).emit
        (.nvmeCpl x.adminQ c STS_OK 0 0 (typ + info * 256 + page * 65536) false), true)

/-- Post the ANA change notice (R125): Notice (2h), Asymmetric Namespace Access Change (03h), log page 0Ch; an association
without an outstanding request takes it at its next. -/
def State.anaNoticeTo (s : State) (a : Nat) : State :=
  let r := s.aerPost a 2 3 0x0C
  if r.2 then r.1
  else match s.assoc a with
    | some x => s.setAssoc a { x with anaNotice := true }
    | none => s

/-- ANA states changed: the notice goes to every association while ANA_AEN is 1 (R125). -/
def State.anaNotices (s : State) : State :=
  if s.rdb Fld.NVF_ANA_CFG_ANA_AEN then (s.nvf.assocs.map (·.1)).foldl State.anaNoticeTo s else s

/-- The owner of a set changed: event 0x0006 to each function with an attached namespace of it (Table 04.12). -/
def State.ownerEvents (s : State) (o owner : Nat) : State :=
  (s.nsOfSet o).foldl (fun s n => s.eventToAll (s.nsFns n) Blk.OWN 0x0006 s.ctNs n owner) s

/-! ## Enore -/

/-- A session. -/
def State.sess (s : State) (k : Nat) : Option Sess := s.kvs.sessions.look k

/-- Replace a session. -/
def State.setSess (s : State) (k : Nat) (x : Sess) : State :=
  { s with kvs := { s.kvs with sessions := s.kvs.sessions.put k x } }

/-- A session command ends (R41 to R43, R342): its outcome is stored where it changes state, its response waits to be
written, and every resend that follows it ends with the same status, replayed. -/
def State.enoreEnd (s : State) (k n : Nat) (r : SessResp) : State :=
  match s.sess k with
  | none => s
  | some x =>
    match x.cmds.look n with
    | none => s
    | some c =>
      let s := if c.stores then s.modWin (winSession k) (fun w => w.complete c.e.seq r.status) else s
      let mk (c' : SessCmd) (rep : Bool) : SessResp :=
        { r with slot := c'.slot, seq := c'.e.seq, opcode := c'.e.opcode, replayed := rep
                 owner := if r.status = STS_MOVED ∧ r.owner = 0 then c'.owner else r.owner }
      let followers := x.cmds.keep (fun n' c' => n' != n && c'.follows && c'.e.seq == c.e.seq)
      s.setSess k { x with
        cmds := x.cmds.keep (fun n' c' => n' != n && !(c'.follows && c'.e.seq == c.e.seq))
        resps := x.resps ++ [mk c c.replayed] ++ followers.map (fun e => mk e.2 true)
        lastUse := s.now }

/-- A response with a status and nothing else. -/
def respOf (status : Nat) : SessResp :=
  { slot := 0, seq := 0, status := status, replayed := false, ending := false, opcode := 0, owner := 0, vlen := 0,
    written := 0, version := 0, tA := 0 }

/-- A session command ends and its slot stays free (R53). -/
def State.enoreEndFree (s : State) (k n : Nat) (r : SessResp) : State :=
  match s.sess k with
  | none => s
  | some x =>
    match x.cmds.look n with
    | none => s
    | some c =>
      let s := s.modWin (winSession k) (fun w => w.release c.e.seq)
      (s.setSess k { x with cmds := x.cmds.put n { c with stores := false } }).enoreEnd k n r

/-! ## The end of a write -/

/-- Put a write. -/
def State.setOp (s : State) (o : Nat) (x : WriteOp) : State := { s with ops := s.ops.put o x }

/-- A write is gone from the head. -/
def State.dropOp (s : State) (o : Nat) : State := { s with ops := s.ops.del o }

/-- Change a write, if it is there. -/
def State.modOp (s : State) (o : Nat) (f : WriteOp → WriteOp) : State := { s with ops := s.ops.modify o f }

/-- An answer with a status and nothing else. -/
def Answer.of (status : Nat) : Answer :=
  { status := status, version := 0, tA := 0, wseq := 0, vlen := 0, written := 0, ending := false, data := [] }

/-- RESULT0 and RESULT1 of a ring's completion (Table 04.7). -/
def ringResults (opcode : Nat) (a : Answer) : Nat × Nat :=
  if a.status != STS_OK then (0, 0)
  else if opcode = 0x02 then (4096 * a.data.length, 0)
  else if opcode = 0x11 then (a.vlen, a.written)
  else (a.tA, a.wseq)

/-- The array that a link's batches come from; 0 is the incoming Caravan (Table 18.4). -/
def State.batchArray (s : State) (link : Nat) : Nat :=
  if link = 0 then (s.kvs.inC.map (fun c => c.peer)).getD 0
  else ((s.snp.replicas.first? (fun _ r => r.link == link)).map (fun e => e.2.srcArray)).getD 0

/-- A batch is, or completes, the delta that a link's replica receives: its LAST batch and every earlier one are accepted (R411). -/
def State.lastBatch (s : State) (link q : Nat) : Bool :=
  match s.snp.replicas.first? (fun _ r => r.link == link && link != 0) with
  | some (_, r) =>
    match r.last with
    | some (n, _) => decide (q ≤ n) && (List.range (n - r.doneTo)).all (fun i => r.applied.mem (r.doneTo + 1 + i)) &&
        !s.ops.any (fun e => !e.2.released && (match e.2.src with | .batch k m => k == link && decide (m ≤ n) | _ => false))
    | none => false
  | none => false

/-- Steps 1 to 3 of R411: the pending epoch is frozen with its cut, a new one opens, the flush starts; the acknowledgement follows it. -/
def State.replicaFreeze (s : State) (link : Nat) : State :=
  match s.snp.replicas.first? (fun _ r => r.link == link) with
  | some (ns, r) =>
    match r.last with
    | some (_, cut) =>
      let e := s.snp.nextEpoch
      let close (v : Leaf) : Leaf := if v.stamp = openStamp then { v with stamp := cut } else v
      let closeKv (v : KvVer) : KvVer := if v.stamp = openStamp then { v with stamp := cut } else v
      let old := (s.snp.cat.first? (fun _ c => c.nsid == ns && c.state == epActive))
      let entry : CatEntry := { nsid := ns, cut := cut, pred := 0, srcNsid := 0, state := epReady, scheduled := false, sched := 0,
                                linkBase := false, cloneSrc := false, epsNs := 0, expose := 0, armed := true }
      let pred := ((s.snp.cat.filter (fun c => c.2.nsid == ns && c.2.state != epActive)).foldl (fun a c => max a c.1) 0)
      let cat := match old with
        | some (k, c) => (s.snp.cat.del k).put (e + 1) { c with pred := e }
        | none => s.snp.cat.put (e + 1) { entry with cut := 0, pred := e, state := epActive }
      { s with
        map := { s.map with
          leaves := s.map.leaves.mapVal (fun k vs => if leafNs k = ns then vs.map close else vs)
          kv := s.map.kv.mapVal (fun k vs => if kvNs k = ns then vs.map closeKv else vs) }
        snp := { s.snp with
          nextEpoch := e + 2
          cat := cat.put e { entry with pred := pred }
          flushes := s.snp.flushes ++ [.freeze ns e] } }
    | none => s
  | none => s

/-- A command of a source ends with an answer: data it read goes to where its command says, then its completion (Tables 04.7,
15.5).  Every write of a batch ends before the batch is acknowledged (R409, R411), every range of a deallocate before it
completes.  A holder's answer to a span message is its acknowledgement (R307). -/
def State.answer (s : State) (src : Src) (a : Answer) : State :=
  match src with
  | .ring r q =>
    match (s.ring r).subOf q with
    | none => s
    | some (_, u) =>
      let s := if a.data != [] && !s.ringStopped r then s.emit (.hostData ((s.ringFn r).getD 0) u.e.addr0 a.data) else s
      let z := ringResults u.e.opcode a
      s.endSub r q a.status z.1 z.2
  | .nvme q c =>
    if a.status = STS_OK ∧ s.ops.any (fun e => e.2.src == src && !e.2.released) = true then s
    else (if a.data != [] && (s.queue q).isSome then (s.emit (.nvmeData q c a.data)).queueSend q (a.data.length * 4096) else s).nvmeEnd q c a.status a.vlen
  | .enore k n =>
    let s := match s.sess k with
      | some x => match x.cmds.look n with
        | some c => if a.data != [] then (s.emit (.enoreData k c.e.addr a.data)).roceSend x.qp a.written else s
        | none => s
      | none => s
    s.enoreEnd k n { respOf a.status with version := a.version, tA := a.tA, vlen := a.vlen, written := a.written, ending := a.ending }
  | .partner t _ _ => s.isend 2 (.forwardDone t a)
  | .batch l q =>
    if a.status = STS_OK ∧ s.ops.any (fun e => e.2.src == src && !e.2.released) = true then s
    else if a.status = STS_OK ∧ s.lastBatch l q = true then s.replicaFreeze l
    else
      let b : Batch := { kind := 4, srcArray := s.arrayId, link := l, cut := 0, base := 0, seq := q, last := false, status := a.status,
                         crcOk := true, records := [] }
      s.emit (.batch (s.batchArray l) b)
  | .span k step =>
    match s.str.spanIn.look k with
    | none => s
    | some m =>
      let s := { s with str := { s.str with
        spanIn := s.str.spanIn.del k
        spanStep := if a.status = STS_OK then s.str.spanStep.put k step else s.str.spanStep } }
      s.emit (.span (m.initHead / 2) { m with op := 3, status := a.status, payload := 0 })
  | .own => s

/-- A command of a source ends with a status; a put or delete answers its version, t_a and write sequence. -/
def State.endSrc (s : State) (src : Src) (status version tA : Nat) (wseq : Nat := 0) : State :=
  s.answer src { Answer.of status with version := version, tA := tA, wseq := wseq }

/-- The same, with the replay slot left free (R53). -/
def State.endSrcFree (s : State) (src : Src) (status : Nat) (cause range : Nat) : State :=
  match src with
  | .ring r q => s.endSubFree r q status cause range
  | .nvme q c => s.nvmeEndFree q c status
  | .enore k n => s.enoreEndFree k n (respOf status)
  | _ => s.endSrc src status 0 0

/-! ## Acceptance -/

/-- The replication link that a namespace's writes wait for (R413, R415): one in SYNC, or in CATCHUP for writes after C_r. -/
def State.syncLink (s : State) (nsid tA : Nat) : Option Nat :=
  let l := (s.snpPolicy nsid).2
  let cr := match s.snp.links.look l with
    | some x => (match x.cr with | some c => decide (c < tA) | none => false)
    | none => false
  if l ≠ 0 ∧ (s.rd Fld.SNP_RLINK_STAT_STATE l = 3 ∨ (s.rd Fld.SNP_RLINK_STAT_STATE l = 2 ∧ cr = true)) then some l else none

/-- Commit-wait of R68: τ − ε(τ) > t_a + ε(t_a). -/
def State.waitOver (s : State) (o : WriteOp) : Bool :=
  ((Frac.int (o.tA : Nat)).add o.epsA).lt (s.ct.sub s.eps)

/-- A write's completion need not wait any longer (R30, R122, R413). -/
def State.mayRelease (s : State) (o : WriteOp) : Bool :=
  o.accepted && !o.released &&
    (!(match s.adm.nss.look o.nsid with | some n => n.cut | none => false) || s.waitOver o) &&
    (!o.fua || o.programmed) && (o.synced || (s.syncLink o.nsid o.tA).isNone)

/-- A write is carried no longer once its completion has left and its data is in flash, or in its spanning stripes. -/
def State.opDone (s : State) (o : Nat) : State :=
  match s.ops.look o with
  | some x => if x.released && x.programmed && !x.span && (s.map.destages.look o).isNone then s.dropOp o else s
  | none => s

/-- The completion of an accepted write leaves, when nothing holds it. -/
def State.tryRelease (s : State) (o : Nat) : State :=
  match s.ops.look o with
  | some x =>
    if s.mayRelease x then
      let s := s.setOp o { x with released := true }
      let s := if (match s.adm.nss.look x.nsid with | some n => n.cut | none => false) then
        s.wr Fld.SNP_STAT_CWAIT_NS (s.rd Fld.SNP_STAT_CWAIT_NS + (s.ctNs - x.tA)) else s
      (s.endSrc x.src STS_OK x.valueId x.tA x.wseq).opDone o
    else s
  | none => s

/-- The ranges of two writes overlap (R37): they share a block or name the same key. -/
def WriteOp.overlaps (a b : WriteOp) : Bool :=
  a.nsid == b.nsid &&
    (if a.keyLen = 0 ∧ b.keyLen = 0 then decide (a.lba < b.lba + b.blocks ∧ b.lba < a.lba + a.blocks)
     else a.keyLen == b.keyLen && a.key == b.key)

/-- The leaf entry a write gives block or chunk `i`, journal-resident (R249 KIND 2, R255). -/
def WriteOp.journalLeaf (o : WriteOp) (birth voff : Nat) : Leaf :=
  { kind := 2, voff := voff, birth := birth, addr := o.jseq, wseq := o.wseq, idx := none, stamp := o.tA }

/-- The stamp of a write: its t_a, or the open stamp of a replica's pending epoch (R395, R411). -/
def State.stampOf (s : State) (o : WriteOp) : Nat :=
  if s.snp.replicas.has o.nsid then openStamp else o.tA

/-- The offsets, lengths and contents of a value's chunks (R197, R346). -/
def WriteOp.pieces (o : WriteOp) : List (Nat × Nat × Nat) :=
  (o.cut.foldl (fun (a : Nat × List (Nat × Nat × Nat)) p => (a.1 + p.1, a.2 ++ [(a.1, p.1, p.2)])) (0, [])).2

/-- An accepted write enters the map (R255, R256, R398): journal-resident leaf entries, unmapped ones, or a key's
descriptor. -/
def State.enterMap (s : State) (o : WriteOp) : State :=
  let birth := s.epochOf o.nsid (s.stampOf o)
  let leaf := { o.journalLeaf birth 0 with stamp := s.stampOf o }
  match o.kind with
  | .block => (List.range o.blocks).foldl (fun s i => s.putLeaf (leafKey o.nsid 0 (o.lba + i)) leaf) s
  | .dealloc => (List.range o.blocks).foldl (fun s i =>
      s.putLeaf (leafKey o.nsid 0 (o.lba + i)) { leaf with kind := 0, addr := 0 }) s
  | .zeroes => (List.range o.blocks).foldl (fun s i =>
      s.putLeaf (leafKey o.nsid 0 (o.lba + i)) { leaf with kind := 0, addr := 0 }) s
  | .kvPut =>
    let parts := o.pieces
    let s := s.putKv (kvKey o.nsid o.pg o.key o.keyLen)
      { present := true, vlen := o.valueLen, valueId := o.valueId, chunks := parts.length, wseq := o.wseq,
        stamp := s.stampOf o }
    (List.range parts.length).foldl (fun s i =>
      s.putLeaf (leafKey o.nsid (o.pg + 1) (valueHandle o.valueId i))
        { leaf with voff := (parts.getD i (0, 0, 0)).1 }) s
  | .kvDelete => s.putKv (kvKey o.nsid o.pg o.key o.keyLen)
      { present := false, vlen := 0, valueId := 0, chunks := 0, wseq := o.wseq, stamp := s.stampOf o }

/-- A write's replay slot takes the outcome stored for it (R40, R43). -/
def State.slotDone (s : State) (src : Src) (status : Nat) : State :=
  match src with
  | .ring r q => s.modWin (winRing r) (fun w => w.complete q status)
  | .enore k n => match s.sess k with
    | some z => match z.cmds.look n with
      | some c => s.modWin (winSession k) (fun w => w.complete c.e.seq status)
      | none => s
    | none => s
  | _ => s

/-- A write becomes accepted at an instant with its uncertainty (R25, R27, R30): the map, a STAMP entry, its replay slot, the
PG, and its completion when nothing holds it; a silent one sends none. -/
def State.acceptAt (s : State) (o tA : Nat) (eps : Frac) (silent : Bool) : State :=
  match s.ops.look o with
  | none => s
  | some x =>
    if x.accepted then s
    else
      let x := { x with stage := .accepted, accepted := true, tA := tA, epsA := eps, released := x.released || silent }
      let s := s.setOp o x
      let s := (s.enterMap x).stampAdd x.jseq x.tA
      let s := { s with pgs := s.pgs.modify x.pg (fun p => { p with refusing := false, wseq := max p.wseq x.wseq }) }
      (s.slotDone x.src STS_OK).tryRelease o

/-- A write becomes accepted now: SNP reads cluster time into its t_a (R30).  Acceptance at or after E_h sends no completion
(R379); a namespace whose cut is unarmed at its instant holds acceptance (R404). -/
def State.accept (s : State) (o : Nat) : State :=
  if (match s.ops.look o with | some x => s.snp.heldNs.mem x.nsid | none => false) then s
  else s.acceptAt o s.ctNs s.eps (s.rdb Fld.OWN_CTRL_ENABLE && decide (s.rd Fld.OWN_EXPIRY_NS ≤ s.ctNs))

/-! ## Refusal -/

/-- A write's reserve is released (R35). -/
def State.unreserve (s : State) (o : WriteOp) : State :=
  { s with pgs := s.pgs.modify o.pg (fun p => { p with reserved := p.reserved - o.reserve }) }

/-- A write is refused (R31, R35, R43): its reserve is free again, and a SLOT record with the status is issued; the
completion follows its persistence.  A source without a replay slot in the PJM is answered at once. -/
def State.refuseOp (s : State) (o status : Nat) : State :=
  match s.ops.look o with
  | none => s
  | some x =>
    let s := s.unreserve x
    let sl := s.slotOf x.src
    let j := s.nextJseq
    let s := s.setOp o { x with stage := .refusing status, jseq := j, reserve := 0 }
    match x.src with
    | .own => s.dropOp o
    | _ => s.issue (.slot sl.1 sl.2 status) 2 (match s.adm.nss.look x.nsid with | some n => n.oset | none => 0)

/-- A batch that a replica's write refuses is not applied, so that a resend of it is new (R411). -/
def State.unapply (s : State) (x : WriteOp) : State :=
  match x.src with
  | .batch _ q =>
    let k := if x.keyLen = 0 then x.lba else 2 ^ 64 + kvKey 0 0 x.key x.keyLen
    { s with snp := { s.snp with replicas := s.snp.replicas.modify x.nsid (fun r =>
        { r with applied := r.applied.remove q, srcWseq := r.srcWseq.del k, last := if r.last.any (fun p => p.1 == q) then none else r.last }) } }
  | _ => s

/-- A refusal's record is persistent: the completion leaves and the write is gone. -/
def State.refuseEnd (s : State) (o : Nat) : State :=
  match s.ops.look o with
  | some x =>
    match x.stage with
    | .refusing st => ((s.dropOp o).unapply x).endSrc x.src st 0 0
    | _ => s
  | none => s

end Sys2Proof.Machine
end

