-- ==== Sys2Proof/Machine/DdpOps.lean ====
section
/-!
DEFINITION. Data reduction on the data path (R195 to R217): fingerprints and the lookup of Table 09.2, pins, the stored form
of a chunk, and the reduction of one write from its lookup to its map entries.
-/
namespace Sys2Proof.Machine

open Sys2Proof

/-! ## The index -/

/-- The index page of a fingerprint (R199). -/
def State.idxPage (s : State) (fp : Nat) : Nat := fp / 2 ^ 128 % 2 ^ s.rd Fld.DDP_IDX_CFG_PAGES_LOG2

/-- This head owns the half a page belongs to (R199, `DDP_STATUS.HALVES`). -/
def State.ownsHalf (s : State) (page : Nat) : Bool := bitAt (s.rd Fld.DDP_STATUS_HALVES) (page % 2)

/-- The handle of a page's slot. -/
def idxHandle (page slot : Nat) : Nat := page * 512 + slot

/-- An entry is live (R203): VALID, not DYING, REFCNT below 0xFFFF_FF00. -/
def IdxEntry.live (e : IdxEntry) : Bool := !e.dying && decide (e.refcnt < 0xFFFFFF00)

/-- A live entry of equal FP and DOMAIN in a page. -/
def State.idxFind (s : State) (page fp domain : Nat) : Option (Nat × IdxEntry) :=
  s.ddp.idx.first? (fun h e => h / 512 == page && e.live && e.fp == fp && e.domain == domain)

/-- The lowest free slot of a page (R200). -/
def State.idxFree (s : State) (page : Nat) : Option Nat :=
  (List.range 408).find? (fun k => !s.ddp.idx.has (idxHandle page k))

/-- The six filter bits of a fingerprint (R201). -/
def filterBits (fp : Nat) : List Nat := (List.range 6).map (fun i => fp / 2 ^ (12 * i) % 4096)

/-- The filter block does not show a fingerprint absent (R201). -/
def State.filterHas (s : State) (page fp : Nat) : Bool :=
  (filterBits fp).all (fun b => (s.ddp.filter.getD page []).mem b)

/-- The recent-table set of a fingerprint: FP[85:72] (R202). -/
def recentSet (fp : Nat) : Nat := fp / 2 ^ 72 % 2 ^ 14

/-- The page is in the index cache. -/
def State.idxCached (s : State) (page : Nat) : Bool := s.ddp.icache.contains page

/-- A page with an entry in the recent table stays resident (R202). -/
def State.pagePinned (s : State) (page : Nat) : Bool :=
  s.ddp.recent.any (fun e => e.2.any (fun h => h / 512 == page))

/-- Bring a page to the front of the index cache; the least recently used page that may go leaves when the cache is
full. -/
def State.idxTouch (s : State) (page : Nat) : State :=
  let l := page :: s.ddp.icache.filter (fun p => p != page)
  let l := if l.length ≤ 2 ^ s.rd Fld.DDP_IDX_CFG_ICACHE_LOG2 then l
    else match l.reverse.find? (fun p => p != page && !s.pagePinned p) with
      | some v => l.filter (fun p => p != v)
      | none => l
  { s with ddp := { s.ddp with icache := l } }

/-- Enter a handle in the recent table, most recent first, four to a set (R202). -/
def State.recentAdd (s : State) (fp h : Nat) : State :=
  let k := recentSet fp
  let l := (h :: (s.ddp.recent.getD k []).filter (fun x => x != h)).take 4
  { s with ddp := { s.ddp with recent := s.ddp.recent.put k l } }

/-- A handle leaves the recent table (R207). -/
def State.recentDrop (s : State) (h : Nat) : State :=
  { s with ddp := { s.ddp with recent := s.ddp.recent.mapVal (fun _ l => l.filter (fun x => x != h)) } }

/-- The recent table's live entry of equal FP and DOMAIN. -/
def State.recentFind (s : State) (fp domain : Nat) : Option (Nat × IdxEntry) :=
  ((s.ddp.recent.getD (recentSet fp) []).filterMap (fun h =>
    match s.ddp.idx.look h with
    | some e => if e.live && e.fp == fp && e.domain == domain then some (h, e) else none
    | none => none)).head?

/-- Pins held (`DDP_PINS`, R204). -/
def State.pins (s : State) : Nat := s.ddp.idx.foldl (fun a e => a + e.2.pins) 0

/-- Grant a pin. -/
def State.pin (s : State) (h : Nat) : State :=
  { s with ddp := { s.ddp with idx := s.ddp.idx.modify h (fun e => { e with pins := e.pins + 1 }) } }

/-- Release a pin; a reservation released with REFCNT 0 frees its slot, an entry with neither becomes DYING (R204, R207). -/
def State.unpin (s : State) (h : Nat) : State :=
  match s.ddp.idx.look h with
  | none => s
  | some e =>
    let e := { e with pins := e.pins - 1 }
    if e.pins = 0 ∧ e.refcnt = 0 then
      let s := s.recentDrop h
      { s with ddp := { s.ddp with idx := s.ddp.idx.del h } }
    else { s with ddp := { s.ddp with idx := s.ddp.idx.put h e } }

/-- Reserve and pin an entry in a page's free slot: the filter bits set at once (R201, R203, R204). -/
def State.reserveIdx (s : State) (page slot fp domain : Nat) : State :=
  let h := idxHandle page slot
  let bits := (filterBits fp).foldl (fun a b => NatSet.insert a b) (s.ddp.filter.getD page [])
  let s := { s with ddp := { s.ddp with
    idx := s.ddp.idx.put h { fp := fp, domain := domain, addr := 0, refcnt := 0, dying := false, pins := 1 }
    filter := s.ddp.filter.put page bits } }
  s.recentAdd fp h

/-- The answer of the owner of a half to a lookup with reservation (orders 4 to 9 of Table 09.2). -/
def State.idxLookup (s : State) (fp domain : Nat) : State × ChunkOut :=
  let page := s.idxPage fp
  match s.recentFind fp domain with
  | some (h, e) => ((s.pin h).recentAdd fp h, .matched h e.addr)
  | none =>
    if !s.idxCached page then (s, .deferred)
    else
      let s := s.idxTouch page
      match s.idxFind page fp domain with
      | some (h, e) => ((s.pin h).recentAdd fp h, .matched h e.addr)
      | none =>
        match s.idxFree page with
        | some slot => (s.reserveIdx page slot fp domain, .reserved (idxHandle page slot))
        | none => (s.raise Fld.DDP_ERR_PAGE_FULL, .plain)

/-- A recent, filter or page test finds the fingerprint (order 3). -/
def State.idxSeen (s : State) (fp domain : Nat) : Bool :=
  let page := s.idxPage fp
  (s.recentFind fp domain).isSome || s.filterHas page fp || (s.idxCached page && (s.idxFind page fp domain).isSome)

/-! ## The chunks of a write -/

/-- A chunk of a write: LADDR, length and content. -/
structure Part where
  laddr : Nat
  voff : Nat
  len : Nat
  data : Nat
deriving DecidableEq, Repr

/-- The chunks of a write (R197). -/
def WriteOp.parts (o : WriteOp) : List Part :=
  match o.kind with
  | .block => (List.range o.blocks).map (fun i => ⟨o.lba + i, 0, 4096, o.data.getD i 0⟩)
  | .kvPut =>
    let ps := o.pieces
    (List.range ps.length).map (fun i =>
      let p := ps.getD i (0, 0, 0)
      ⟨valueHandle o.valueId i, p.1, p.2.1, p.2.2⟩)
  | _ => []

/-- The tree a write's leaf entries belong to. -/
def WriteOp.tree (o : WriteOp) : Nat := if o.keyLen = 0 then 0 else o.pg + 1

/-- The domain of a namespace's chunks (R198). -/
def Ns.domain (n : Ns) : Nat := if n.enc then n.keySlot + 1 else 0

/-- The deferred queue takes an entry, or the drop is counted (R209). -/
def State.deferPush (s : State) (e : DeferEnt) : State :=
  if s.ddp.deferQ.length < 2 ^ s.rd Fld.DDP_IDX_CFG_DEFER_LOG2 then
    { s with ddp := { s.ddp with deferQ := s.ddp.deferQ ++ [e] } }
  else (s.bump Fld.DDP_DEFER_DROP_COUNT).raise Fld.DDP_ERR_DEFER_DROP

/-- The first outcome of Table 09.2 for a chunk; none while the partner's half is asked (R203). -/
def State.chunkLookup (s : State) (n : Ns) (p : Part) : State × Option ChunkOut :=
  let s := s.boundary Blk.DDP
  if s.rdb Fld.DDP_CTRL_ZERO_DETECT && p.data == 0 then (s.bump Fld.DDP_STAT_ZERO_COUNT, some .zero)
  else if !n.dedup || !s.rdb Fld.DDP_CTRL_ENABLE then (s.bump Fld.DDP_STAT_NEW_COUNT, some .plain)
  else if 65536 ≤ s.pins then ((s.bump Fld.DDP_STAT_NEW_COUNT).raise Fld.DDP_ERR_PIN_FULL, some .plain)
  else
    let fp := fingerprint (bytesLE p.data p.len)
    if s.ownsHalf (s.idxPage fp) then
      if s.rdb Fld.DDP_CTRL_VERIFY && s.idxSeen fp n.domain then (s.bump Fld.DDP_STAT_NEW_COUNT, some .deferred)
      else
        let r := s.idxLookup fp n.domain
        match r.2 with
        | .matched h a => (r.1.bump Fld.DDP_STAT_INLINE_COUNT, some (.matched h a))
        | out => (r.1.bump Fld.DDP_STAT_NEW_COUNT, some out)
    else if s.linkUp then (s.isend 2 (.indexQuery fp n.domain (!s.rdb Fld.DDP_CTRL_VERIFY)), none)
    else (s.bump Fld.DDP_STAT_NEW_COUNT, some .deferred)

/-! ## The stored form -/

/-- A slot of a chunk stored in line (R216). -/
def inlineSlot (stored : Nat) : Nat := ceilDiv (48 + ceilDiv stored 16 * 16) 64 * 64

/-- How a chunk is stored (R216, R217): format, stored bytes, slot bytes, sector-aligned. -/
structure Form where
  format : Nat
  stored : Nat
  slot : Nat
  aligned : Bool
deriving DecidableEq, Repr

/-- The raw form. -/
def rawForm (len : Nat) : Form :=
  if len % 4096 = 0 ∧ 0 < len then ⟨3, len, len, true⟩ else ⟨3, len, inlineSlot len, false⟩

/-- The form the compressor gives a chunk, and whether it fell back to raw (R217). -/
def State.formOf (s : State) (n : Ns) (p : Part) : Form × Bool :=
  let fmt := s.rd Fld.CMP_DP_CFG_FORMAT
  if !n.compress || fmt == 3 || !s.rdb Fld.CMP_CTRL_ENABLE then (rawForm p.len, false)
  else
    let c := Config.compLen fmt (s.rd Fld.CMP_DP_CFG_LEVEL) p.data p.len
    if p.len < c then (rawForm p.len, true)
    else if inlineSlot c + 64 * s.rd Fld.CMP_DP_CFG_MIN_SAVE_64 ≤ p.len then (⟨fmt, c, inlineSlot c, false⟩, false)
    else (rawForm p.len, true)

/-- A chunk address at a place, with LEN64 and ALIGNED as the form gives them (Table 11.1). -/
def placeAddr (addr : Nat) (f : Form) : Nat := putBits (putBits addr 52 11 (f.slot / 64)) 63 1 (b2n f.aligned)

/-- A chunk stored in a stripe at an address (R215): its compression is counted. -/
def State.storeChunk (s : State) (n : Ns) (o : WriteOp) (stripe addr : Nat) (p : Part) : State × Nat × Nat :=
  let s := s.boundary Blk.CMP
  let r := s.formOf n p
  let f := r.1
  let s := if r.2 then s.bump Fld.CMP_STAT_RAW_COUNT else s
  let s := if n.compress then (s.bump Fld.CMP_STAT_IN_BYTES p.len).bump Fld.CMP_STAT_OUT_BYTES f.slot else s
  let a := placeAddr addr f
  let c : Chunk := {
    data := p.data, origLen := p.len, storedLen := f.stored, format := f.format, enc := n.enc,
    cdc := decide (65536 ≤ o.valueLen) && o.kind == .kvPut, domain := n.domain,
    fp := if n.dedup then fingerprint (bytesLE p.data p.len) else 0, nsid := o.nsid,
    leaf := leafKey o.nsid o.tree p.laddr, wseq := o.wseq, pg := o.pg, stripe := stripe, readable := true, crcBad := false }
  ({ s with map := { s.map with chunks := s.map.chunks.put a c } }, a, f.slot)

/-! ## Reduction of a write -/

/-- The namespace of a write. -/
def State.nsOf (s : State) (o : WriteOp) : Ns :=
  (s.adm.nss.look o.nsid).getD {
    tenant := 0, kv := false, dedup := false, compress := false, enc := false, cut := false,
    keySlot := 0, oset := 0, pgFirst := 0, pgCount := 1, cwMaxNs := 0, size := 0, resReadKiops := 0, resWriteMbps := 0,
    readOnly := false }

/-- Start the reduction of a write into a stripe, its chunks to lie at the addresses given (R195, R203). -/
def State.reduceStart (s : State) (o : Nat) (x : WriteOp) (direct : Bool) (stripe : Nat) (addrs : List Nat) : State :=
  let n := s.nsOf x
  let r := x.parts.foldl (fun (a : State × List (Option ChunkOut)) p =>
    let q := a.1.chunkLookup n p
    (q.1, a.2 ++ [q.2])) (s, [])
  let d : Destage := {
    op := o, direct := direct, stripe := stripe, addrs := addrs, outs := r.2, since := s.now, jseq := none,
    mapped := [], bytes := 0, stored := false }
  { r.1 with map := { r.1.map with destages := r.1.map.destages.put o d } }

/-- Every lookup of a reduction is decided. -/
def Destage.decided (d : Destage) : Bool := d.outs.all (fun x => x.isSome)

/-- Store the chunks a decided reduction keeps, and say where each of the write's leaf entries leads; the slot bytes used
are counted. -/
def State.reduceStore (s : State) (x : WriteOp) (d : Destage) : State × List Mapped × Nat :=
  let n := s.nsOf x
  let ps := x.parts
  (List.range ps.length).foldl (fun (a : State × List Mapped × Nat) i =>
    let p := ps.getD i ⟨0, 0, 0, 0⟩
    let key := leafKey x.nsid x.tree p.laddr
    match (d.outs.getD i none).getD .plain with
    | .zero => (a.1, a.2.1 ++ [⟨key, 0, 0, none, p.voff⟩], a.2.2)
    | .matched h at_ => (a.1, a.2.1 ++ [⟨key, 1, at_, some h, p.voff⟩], a.2.2)
    | .reserved h =>
      let r := a.1.storeChunk n x d.stripe (d.addrs.getD i 0) p
      let s := { r.1 with ddp := { r.1.ddp with idx := r.1.ddp.idx.modify h (fun e => { e with addr := r.2.1 }) } }
      (s, a.2.1 ++ [⟨key, 1, r.2.1, some h, p.voff⟩], a.2.2 + r.2.2)
    | .deferred =>
      let r := a.1.storeChunk n x d.stripe (d.addrs.getD i 0) p
      (r.1.deferPush ⟨key, x.wseq, r.2.1⟩, a.2.1 ++ [⟨key, 1, r.2.1, none, p.voff⟩], a.2.2 + r.2.2)
    | .plain =>
      let r := a.1.storeChunk n x d.stripe (d.addrs.getD i 0) p
      (r.1, a.2.1 ++ [⟨key, 1, r.2.1, none, p.voff⟩], a.2.2 + r.2.2)) (s, [], 0)

/-- The map-delta entries of a reduction (R205, R255): the leaf entries, a +1 for each matched or reserved entry, and a −1
for each indexed chunk whose leaf entry the write drops. -/
def deltasOf (x : WriteOp) (ms : List Mapped) (dropped : List (Nat × Nat)) : List Delta :=
  ms.flatMap (fun m =>
    let d : Delta := { kind := if m.kind = 0 then 7 else if x.keyLen = 0 then 1 else 2, reloc := false, nsid := x.nsid,
                       laddr := m.leaf % 2 ^ 64, addr := m.addr, wseq := x.wseq, pg := x.pg }
    match m.idx with
    | some h => [d, { d with kind := 3, laddr := h }]
    | none => [d]) ++
  dropped.map (fun h => { kind := 4, reloc := false, nsid := x.nsid, laddr := h.1, addr := h.2, wseq := x.wseq, pg := x.pg })

/-- The references a write drops (R205, R208). -/
def State.dropsOf (s : State) (x : WriteOp) : List (Nat × Nat) :=
  if x.keyLen = 0 then (List.range x.blocks).flatMap (fun i => s.droppedRefs (leafKey x.nsid 0 (x.lba + i)))
  else s.kvDroppedRefs (kvKey x.nsid x.pg x.key x.keyLen)

/-- The leaf entries of a write lead where its reduction stored them (R256, R399), and versions no epoch holds go. -/
def State.reduceApply (s : State) (x : WriteOp) (ms : List Mapped) : State :=
  let s := ms.foldl (fun s m => s.moveLeaf m.leaf x.wseq (fun l => { l with kind := m.kind, addr := m.addr, idx := m.idx })) s
  if x.keyLen = 0 then
    (List.range x.blocks).foldl (fun s i => s.pruneLeaf (leafKey x.nsid 0 (x.lba + i))) s
  else s.pruneKv (kvKey x.nsid x.pg x.key x.keyLen)

/-- The PG is charged with the space the data uses, in sectors rounded up and with parity, and the reserve is released
(R35). -/
def State.charge (s : State) (x : WriteOp) (bytes : Nat) : State :=
  { s with pgs := s.pgs.modify x.pg (fun p =>
      let n := ceilDiv bytes 4096
      { p with reserved := p.reserved - x.reserve, free := p.free - (n + ceilDiv (n * p.p) p.d) }) }

end Sys2Proof.Machine
end

