-- ==== Sys2Proof/Machine/StrOps.lean ====
section
/-!
DEFINITION. Stripes and bands as the write path, reclamation and rebuild use them (R28, R293 to R303), PG space (R34 to R36,
R290, R326), and the marking of lost chunks (R308).
-/
namespace Sys2Proof.Machine

open Sys2Proof

/-! ## PG space -/

/-- A PG. -/
def State.pg (s : State) (g : Nat) : Pg :=
  s.pgs.getD g { oset := 0, home := .a, d := 24, p := 2, free := 0, reserved := 0, headroom := 2, blocks := 0, freeBlocks := 0,
                 wseq := 0, refusing := false, media := .normal, spares := 0, allotted := 0, nextValue := 1, nextStripe := 0,
                 groups := [] }

/-- Change a PG, if it is there. -/
def State.modPg (s : State) (g : Nat) (f : Pg → Pg) : State := { s with pgs := s.pgs.modify g f }

/-- Sectors of a block: four to a page. -/
def State.blockSectors (s : State) : Nat := s.rd Fld.FLC_GEOM_PAGES * 4

/-- Sectors a PG keeps for reclamation: its headroom bands (R326). -/
def State.pgKeep (s : State) (p : Pg) : Nat := p.headroom * (p.d + p.p) * s.blockSectors

/-- Sectors a destage reserve can be taken from (R34). -/
def State.pgRoom (s : State) (p : Pg) : Nat := p.free - s.pgKeep p - p.reserved

/-- The destage reserve of a write, in sectors (R34, R118, R340). -/
def WriteOp.reserveFor (o : WriteOp) (p : Pg) : Nat :=
  match o.kind with
  | .block => o.blocks + ceilDiv (o.blocks * p.p) p.d
  | .kvPut =>
    let c := if o.valueLen < 65536 then 1 else ceilDiv o.valueLen 4096
    let n := ceilDiv o.valueLen 4096 + ceilDiv (128 * c) 4096 + 1
    n + ceilDiv (n * p.p) p.d
  | .kvDelete => 1
  | .dealloc => 0
  | .zeroes => 0

/-- A PG first refuses with STS_CAPACITY_EXHAUSTED (R36): the MAP record, event 0x0005, and the alarm where enabled. -/
def State.capacityFirst (s : State) (g asked : Nat) : State :=
  let p := s.pg g
  if p.refusing then s
  else
    let s := s.modPg g (fun p => { p with refusing := true })
    let s := s.record Blk.MAP 0x1001 g asked (s.pgRoom p) (s.rdb Fld.MAP_CTRL_CAP_ALARM)
    let s := s.wr Fld.MAP_ERR_INFO_PG g
    let fns := (s.adm.nss.filter (fun e => e.2.pgFirst ≤ g && decide (g < e.2.pgFirst + e.2.pgCount))).flatMap (fun e => s.tenantFns e.2.tenant)
    s.eventToAll (fns.foldl (fun a n => NatSet.insert a n) s.globalFns) Blk.MAP 0x0005 s.ctNs g STS_CAPACITY_EXHAUSTED

/-! ## Stripes and bands -/

/-- The key of a stripe's band: PG + 65,536 × BAND. -/
def bandOf (stripe : Nat) : Nat := stripe % 2 ^ 48

/-- A stripe. -/
def State.stripe (s : State) (k : Nat) : Option Stripe := s.str.stripes.look k

/-- Replace a stripe. -/
def State.setStripe (s : State) (k : Nat) (x : Stripe) : State :=
  { s with str := { s.str with stripes := s.str.stripes.put k x } }

/-- Change a stripe, if it is there. -/
def State.modStripe (s : State) (k : Nat) (f : Stripe → Stripe) : State :=
  { s with str := { s.str with stripes := s.str.stripes.modify k f } }

/-- Change a band, if it is there. -/
def State.modBand (s : State) (k : Nat) (f : Band → Band) : State :=
  { s with str := { s.str with bands := s.str.bands.modify k f } }

/-- Members of a stripe. -/
def Stripe.members (x : Stripe) : List Nat := List.range (x.d + x.p)

/-- Every member has passed program, VOID ones aside. -/
def Stripe.allPassed (x : Stripe) : Bool := x.members.all (fun m => x.passed.mem m || x.void.mem m)

/-- Good blocks of the LUNs of the groups this head drives. -/
def State.drivenBlocks (s : State) : Nat :=
  let luns := s.rd Fld.FLC_GEOM_LUNS * s.rd Fld.FLC_GEOM_VOLUMES * 8 * s.aon.drivers.length
  luns * (s.rd Fld.FLC_GEOM_PLANES + 1) * s.rd Fld.FLC_GEOM_BLOCKS -
    s.flc.blocks.countP (fun b x => x.bad && s.aon.drivers.mem (b % 128 / 8))

/-- Blocks of the SLC buffer in use in the driven groups: those of one-bit-mode bands that are not metadata (R282, R283). -/
def State.slcUsed (s : State) : Nat :=
  s.str.bands.foldl (fun a e =>
    if e.2.slc && e.2.kind != .metadata then a + (e.2.members.filter (fun b => s.aon.drivers.mem (b % 128 / 8))).length else a) 0

/-- Free SLC blocks, per cent of the buffer share (Table 12.4); 0 where the head drives nothing. -/
def State.slcFree (s : State) : Nat :=
  let share := s.drivenBlocks * s.rd Fld.FLC_SLC_CFG_SLC_PCT / 100
  if share = 0 then 0 else (share - s.slcUsed) * 100 / share

/-- The mode of a buffer stripe (Table 12.4): native below SLC_MIN. -/
def State.bufferMode (s : State) (a : StripeAt) (kind : StripeKind) : State × StripeAt :=
  if kind = .buffer then
    if s.slcFree < s.rd Fld.FLC_SLC_CFG_SLC_MIN then (s.raise Fld.FLC_ERR_SLC_SHORT, { a with slc := false }) else (s, { a with slc := true })
  else (s, a)

/-- STR's boundary, the next stripe opened (R315); then the stripe opens, and with its first row its band, whose blocks
leave the PG's free blocks (R293, R294); its parity and summary pages take the PG's next write sequence
(R253). -/
def State.openStripe (s : State) (a : StripeAt) (kind : StripeKind) : State :=
  match s.stripe a.id with
  | some _ => s
  | none =>
    let q := s.bufferMode a kind
    let a := q.2
    let s := (q.1.boundary Blk.STR).modPg a.pg (fun p => { p with wseq := p.wseq + 1 })
    let p := s.pg a.pg
    let bk := bandOf a.id
    let s := if s.str.bands.has bk then s.modBand bk (fun b => { b with rows := max b.rows (a.row + 1) })
      else
        let b : Band := { d := p.d, p := p.p, kind := kind, slc := a.slc, short := false, members := a.members, rows := a.row + 1,
                          tClose := 0, st := .inUse, heldPass := 0, waits := [], eraseLeft := [], pins := [] }
        ({ s with str := { s.str with bands := s.str.bands.put bk b } }).modPg a.pg
          (fun p => { p with freeBlocks := p.freeBlocks - (p.d + p.p) })
    let g := (s.str.bands.look bk).getD { d := p.d, p := p.p, kind := kind, slc := a.slc, short := false, members := [], rows := 0,
                                          tClose := 0, st := .inUse, heldPass := 0, waits := [], eraseLeft := [], pins := [] }
    let x : Stripe := { kind := kind, st := .opened, d := g.d, p := g.p, ops := [], full := false, since := s.now, passed := [],
                        void := [], failed := [], lostPos := [], sif := none, step := 0, sectors := 0 }
    s.setStripe a.id x

/-- A write's data lies in a stripe: the sectors it takes, with parity (R35). -/
def State.joinStripe (s : State) (k o bytes : Nat) : State :=
  s.modStripe k (fun x =>
    let n := ceilDiv bytes 4096
    { x with ops := if x.ops.contains o then x.ops else x.ops ++ [o], sectors := x.sectors + n + ceilDiv (n * x.p) x.d })

/-- Every erase of a band has passed: its stripes are FREE, and its blocks and the space charged for them return to the PG (R322
step 5, R326). -/
def State.bandErased (s : State) (bk : Nat) : State :=
  match s.str.bands.look bk with
  | none => s
  | some b =>
    let back := (s.str.stripes.filter (fun e => bandOf e.1 == bk)).foldl (fun a e => a + e.2.sectors) 0
    let good := (b.members.filter (fun m => match s.flc.blocks.look (m % 2 ^ 32) with
      | some x => !x.bad
      | none => true)).length
    let s := s.modPg (bk % 65536) (fun p => { p with freeBlocks := p.freeBlocks + good, free := p.free + back })
    let s := s.bump Fld.GCX_STAT_FREED_COUNT
    { s with str := { s.str with bands := s.str.bands.del bk, stripes := s.str.stripes.filter (fun e => bandOf e.1 != bk)
                                 rebuild := s.str.rebuild.filter (fun x => x != bk) } }

/-- The delay of R28 in local units: the buffer-stripe close delay, 8 µs. -/
abbrev closeDelay : Nat := 8 * unitsPerUs

/-- A stripe closes: every parity member has passed program (Table 13.3). -/
def State.closeStripe (s : State) (k : Nat) : State :=
  let s := s.modStripe k (fun x => { x with st := if x.failed = [] then .closed else .degraded })
  s.modBand (bandOf k) (fun b => { b with tClose := s.ctNs })

/-- The parity and data of a stripe are in flash: every write in it that is accepted counts as programmed (R30, R122). -/
def State.programmedOps (s : State) (k : Nat) : State :=
  match s.stripe k with
  | some x => x.ops.foldl (fun s o => ((s.modOp o (fun w => { w with programmed := true })).tryRelease o).opDone o) s
  | none => s

/-! ## Members that fail -/

/-- Stripes of a band, by key. -/
def State.stripesOf (s : State) (bk : Nat) : List (Nat × Stripe) := s.str.stripes.filter (fun e => bandOf e.1 == bk)

/-- A band is queued for rebuild, once (R312). -/
def State.queueRebuild (s : State) (bk : Nat) : State :=
  if s.str.rebuild.contains bk then s else { s with str := { s.str with rebuild := s.str.rebuild ++ [bk] } }

/-- A member of a stripe has failed: a SEALED or CLOSED stripe is DEGRADED (Table 13.3); a VOID member counts as zeros and cannot
fail. -/
def Stripe.fail (x : Stripe) (m : Nat) : Stripe :=
  if x.void.mem m then x
  else
    { x with failed := x.failed.insert m, st := match x.st with
        | .sealed => .degraded
        | .closed => .degraded
        | st => st }

/-- The members whose block `p` names have failed (R312): in every stripe of their bands; the bands of PGs this head owns are queued
for rebuild. -/
def State.failMembers (s : State) (p : Nat → Bool) : State :=
  let hit := s.str.bands.filter (fun e => e.2.members.any p)
  hit.foldl (fun s e =>
    let ms := (List.range e.2.members.length).filter (fun m => p (e.2.members.getD m 0))
    let s := (s.stripesOf e.1).foldl (fun s x => s.setStripe x.1 (ms.foldl Stripe.fail x.2)) s
    if s.ownsPg (e.1 % 65536) then s.queueRebuild e.1 else s) s

/-! ## Lost chunks -/

/-- A lost-extent entry is added, or merged with its namespace's when the list is full (R309). -/
def State.lostAdd (s : State) (e : LostExt) : State :=
  let s := if s.str.lostExt.length < s.rd Fld.STR_LOST_MAX_COUNT then
      { s with str := { s.str with lostExt := s.str.lostExt ++ [e] } }
    else
      let merge (x : LostExt) : LostExt :=
        if x.nsid = e.nsid then
          let lo := min x.start e.start
          { x with start := lo, count := max (x.start + x.count) (e.start + e.count) - lo }
        else x
      { s with str := { s.str with lostExt := s.str.lostExt.map merge } }.raise Fld.STR_ERR_LOST_FULL
  s.wr Fld.STR_LOST_COUNT_COUNT s.str.lostExt.length

/-- A leaf entry that names a lost chunk becomes KIND 3, in every epoch that holds it (R308 step 3, R399). -/
def State.markLost (s : State) (key addr : Nat) : State :=
  let vs := s.map.leaves.getD key []
  let vs' := vs.map (fun (v : Leaf) => if v.kind = 1 ∧ v.addr = addr then { v with kind := 3, addr := 0, idx := none } else v)
  if vs' = vs then s else { s with map := { s.map with leaves := s.map.leaves.put key vs' } }.dirtyPage (pageOf key) (leafNs key)

/-- Leaf keys that name a chunk's address. -/
def State.leavesOf (s : State) (addr : Nat) : List Nat :=
  (s.map.leaves.filter (fun e => e.2.any (fun v => v.kind == 1 && v.addr == addr))).map (·.1)

end Sys2Proof.Machine
end

