-- ==== Sys2Proof/Machine/FlcOps.lean ====
section
/-!
DEFINITION. Blocks and PGs as media management sees them (R285 to R290): wear, refresh, retirement and the media states.
-/
namespace Sys2Proof.Machine

open Sys2Proof

/-- A block that nothing has been recorded of. -/
def BlockSt.init : BlockSt :=
  { wear := 0, reads := 0, slc := false, bad := false, step3 := 0, refreshQueued := false, firstProg := 0, pg := 0 }

/-- The block of a chunk address: bits [31:0]. -/
def blockAddr (addr : Nat) : Nat := addr % 2 ^ 32

/-- The LUN of a block, with its channel and volume. -/
def lunOf (addr : Nat) : Nat := addr % 2 ^ 14

/-- A block. -/
def State.block (s : State) (b : Nat) : BlockSt := s.flc.blocks.getD (blockAddr b) BlockSt.init

/-- Replace a block. -/
def State.setBlock (s : State) (b : Nat) (x : BlockSt) : State :=
  { s with flc := { s.flc with blocks := s.flc.blocks.put (blockAddr b) x } }

/-- The block of a stripe's member, as bits [31:0] of a chunk address (R296). -/
def blockOfMember (s : State) (k m : Nat) : Nat :=
  match s.str.bands.look (bandOf k) with
  | some b => b.members.getD m 0 % 2 ^ 32
  | none => 0

/-- The band a block belongs to. -/
def State.bandOfBlock (s : State) (b : Nat) : Option (Nat × Band) :=
  s.str.bands.first? (fun _ x => x.members.any (fun m => blockAddr m == blockAddr b))

/-- Latch an address in `FLC_ERR_INFO`. -/
def State.flcInfo (s : State) (b : Nat) : State :=
  let s := ((s.wr Fld.FLC_ERR_INFO_CH b).wr Fld.FLC_ERR_INFO_VOL (b / 128)).wr Fld.FLC_ERR_INFO_LUN (b / 2048)
  (s.wr Fld.FLC_ERR_INFO_PLANE (b / 16384)).wr Fld.FLC_ERR_INFO_BLOCK (b / 65536)

/-- Work for GCX joins its class (R318), unless the band is already there in that class. -/
def State.gcxWork (s : State) (cls band : Nat) : State :=
  let w : GcxWork := { cls := cls, band := band }
  if s.gcx.work.contains w then s else { s with gcx := { s.gcx with work := s.gcx.work ++ [w] } }

/-- A member's page has passed program: its block holds data from now on, in its band's mode (R282, R287). -/
def State.blockProgrammed (s : State) (k m : Nat) : State :=
  match s.str.bands.look (bandOf k) with
  | none => s
  | some b =>
    let a := b.members.getD m 0
    let x := s.block a
    s.setBlock a { x with slc := b.slc, pg := k % 65536, firstProg := if x.firstProg = 0 then s.ctNs else x.firstProg }

/-- A block is queued for refresh, once per queuing (R287): class 3 (Table 14.2). -/
def State.queueRefresh (s : State) (b : Nat) : State :=
  let x := s.block b
  if x.refreshQueued || x.bad then s
  else
    match s.bandOfBlock b with
    | some (bk, _) => (s.setBlock b { x with refreshQueued := true }).gcxWork 3 bk
    | none => s

/-- The low mark of a PG's spares (Table 12.5). -/
def State.spareLow (s : State) (p : Pg) : Nat := ceilDiv (p.allotted * s.rd Fld.FLC_SPARE_CFG_SPARE_LOW_PCT) 100

/-- A retirement in a PG (R36, R290): it takes a spare; at or below the low mark the PG is LOW_SPARE; with no spare left it is
READ_ONLY, and the block's space is gone from it. -/
def State.retireIn (s : State) (g : Nat) : State :=
  match s.pgs.look g with
  | none => s
  | some p =>
    let alarm := s.rdb Fld.FLC_SPARE_CFG_ALARM
    if p.spares = 0 then
      let s := s.modPg g (fun p => { p with media := .readOnly, blocks := p.blocks - 1, free := p.free - s.blockSectors })
      if p.media = .readOnly then s
      else
        let s := ((s.raise Fld.FLC_ERR_READ_ONLY).wr Fld.FLC_ERR_INFO_PG g).record Blk.FLC 0x3002 g 0 0 alarm
        let fns := (s.adm.nss.filter (fun e => e.2.pgFirst ≤ g && decide (g < e.2.pgFirst + e.2.pgCount))).flatMap (fun e => s.tenantFns e.2.tenant)
        s.eventToAll (fns.foldl (fun a n => NatSet.insert a n) s.globalFns) Blk.MAP 0x0005 s.ctNs g STS_WRITE_PROTECTED
    else
      let p' := { p with spares := p.spares - 1 }
      if p.media = .normal ∧ p'.spares ≤ s.spareLow p then
        let s := { s with pgs := s.pgs.put g { p' with media := .lowSpare } }
        ((s.raise Fld.FLC_ERR_SPARE_LOW).wr Fld.FLC_ERR_INFO_PG g).record Blk.FLC 0x1001 g 0 0 alarm
      else { s with pgs := s.pgs.put g p' }

/-- A LUN none of whose blocks is good is retired (R449). -/
def State.retireLun (s : State) (l : Nat) : State :=
  let total := (s.rd Fld.FLC_GEOM_PLANES + 1) * s.rd Fld.FLC_GEOM_BLOCKS
  if 0 < total ∧ total ≤ s.flc.blocks.countP (fun b x => x.bad && lunOf b == l) then
    { s with flc := { s.flc with lunsOut := s.flc.lunsOut.insert l } }
  else s

/-- A LUN has ended its program or erase. -/
def State.lunDone (s : State) (b : Nat) : State := { s with flc := { s.flc with luns := s.flc.luns.del (lunOf b) } }

/-- A grown bad block (R289): relocated by GCX first, marked bad and never allocated again; its member has failed (R312). -/
def State.retire (s : State) (b : Nat) : State :=
  let x := s.block b
  if x.bad then s
  else
    let s := (((s.setBlock b { x with bad := true }).bump Fld.FLC_STAT_RETIRED_COUNT).flcInfo b).retireLun (lunOf b)
    match s.bandOfBlock b with
    | some (bk, _) =>
      let s := (s.wr Fld.FLC_ERR_INFO_PG (bk % 65536)).gcxWork 1 bk
      (s.failMembers (fun m => blockAddr m == blockAddr b)).retireIn (bk % 65536)
    | none => (s.wr Fld.FLC_ERR_INFO_PG x.pg).retireIn x.pg

/-- A program of a member has failed (R289). -/
def State.programFailed (s : State) (k m : Nat) : State :=
  (s.raise Fld.FLC_ERR_PROG_FAIL).retire (blockOfMember s k m)

end Sys2Proof.Machine
end

