-- ==== Sys2Proof/Machine/Flow.lean ====
section
/-!
DEFINITION. How a write moves on: deferred errors (R51 to R53), the steps of a direct-path write and of a destage (R27, R195,
R300, R301), and what the persistence of each kind of journal record brings about (R25, R27, R43, R187, R255).
-/
namespace Sys2Proof.Machine

open Sys2Proof

/-! ## Deferred errors -/

/-- The host a source belongs to (R51). -/
def State.hostOf (s : State) (src : Src) : Option HostRef :=
  match src with
  | .ring r _ => (s.ringFn r).map HostRef.function
  | .nvme q _ =>
    match s.queue q with
    | some x => (s.assoc x.assoc).map (fun a => HostRef.nqn a.host)
    | none => none
  | .enore k _ => (s.sess k).map (fun x => HostRef.client x.client)
  | _ => none

/-- The pending entries of a host and namespace, oldest first. -/
def State.deferredOf (s : State) (h : HostRef) (nsid : Nat) : List Deferred :=
  ((s.nvf.deferred.find? (fun p => p.host == h && p.nsid == nsid)).map (·.entries)).getD []

/-- Replace the entries of a pair; a pair without entries is not listed. -/
def State.setDeferred (s : State) (h : HostRef) (nsid : Nat) (es : List Deferred) : State :=
  let rest := s.nvf.deferred.filter (fun p => !(p.host == h && p.nsid == nsid))
  { s with nvf := { s.nvf with deferred := if es = [] then rest else rest ++ [⟨h, nsid, es⟩] } }

/-- One entry that covers the ranges of several (R52). -/
def mergeDeferred (es : List Deferred) : Option Deferred :=
  match es with
  | [] => none
  | e :: rest =>
    some (rest.foldl (fun (a : Deferred) x =>
      let lo := min a.slba x.slba
      { a with
        cause := if a.cause = STS_LOST_EXTENT ∨ x.cause = STS_LOST_EXTENT then STS_LOST_EXTENT else STS_REPLICA_DROPPED
        overflow := true
        slba := lo
        nlb := max (a.slba + a.nlb) (x.slba + x.nlb) - lo
        time := min a.time x.time }) { e with overflow := true })

/-- Record an entry for a host and namespace (R51, R52): the seventeenth merges them all; the entry is mirrored by its PJM
record. -/
def State.deferTo (s : State) (h : HostRef) (e : Deferred) : State :=
  let es := s.deferredOf h e.nsid
  let es' := if es.length < 16 then es ++ [e] else (mergeDeferred (es ++ [e])).toList
  let s := s.setDeferred h e.nsid es'
  s.issue (.deferred h e false) 2 0

/-- The C0h event of R123 to one association: completed at an outstanding request; not a second time before the log page
has been read. -/
def State.c0Event (s : State) (host : Nat) : State :=
  let hs := s.nvf.hosts.getD host ⟨false, false⟩
  if hs.posted then s
  else
    let as := (s.nvf.assocs.filter (fun e => e.2.host == host)).map (·.1)
    let r := as.foldl (fun (a : State × Bool) n =>
      let q := a.1.aerPost n 7 0 0xC0
      (q.1, a.2 || q.2)) (s, false)
    { r.1 with nvf := { r.1.nvf with hosts := r.1.nvf.hosts.put host ⟨!r.2, r.2⟩ } }

/-- Tell a host of an entry recorded (R53, R123): an NVMe event, an event-ring entry or a session event. -/
def State.deferTell (s : State) (h : HostRef) (e : Deferred) : State :=
  match h with
  | .nqn n => s.c0Event n
  | .function n => s.eventFn n Blk.NVF 0x0001 e.nsid (if e.keyLen = 0 then e.slba else e.bucket)
  | .client c =>
    (s.kvs.sessions.filter (fun x => x.2.client == c && x.2.attached)).foldl (fun s x =>
      let s := s.setSess x.1 { x.2 with evtSeq := x.2.evtSeq + 1 }
      s.emit (.enoreEvent x.1 (x.2.evtSeq + 1) 1 e.cause e.nsid e.bucket e.time)) s

/-- The hosts that have a namespace attached: functions and NVMe hosts of its tenant, and clients with a session on it. -/
def State.hostsOf (s : State) (nsid : Nat) : List HostRef :=
  let t := (s.adm.nss.look nsid).map (·.tenant)
  (s.nsFns nsid).map HostRef.function ++
  ((s.nvf.assocs.filter (fun e => some e.2.tenant == t)).map (fun e => HostRef.nqn e.2.host)).dedup ++
  ((s.kvs.sessions.filter (fun e => e.2.nsid == nsid)).map (fun e => HostRef.client e.2.client)).dedup

/-- A condition after acceptance is recorded for every host of a namespace (R51). -/
def State.deferAll (s : State) (e : Deferred) : State :=
  (s.hostsOf e.nsid).foldl (fun s h => (s.deferTo h e).deferTell h e) s

/-- The next command of a host to a namespace delivers the oldest pending entry (R53): the entry goes, with its REMOVE
record. -/
def State.deferTake (s : State) (h : HostRef) (nsid : Nat) : Option (Deferred × State) :=
  match s.deferredOf h nsid with
  | [] => none
  | e :: rest => some (e, ((s.setDeferred h nsid rest).issue (.deferred h e true) 2 0).endLive (fun _ _ => false))

/-- The range a deferred entry reports in 64 bits: starting block and count, or the bucket. -/
def deferredRange (e : Deferred) : Nat := if e.keyLen = 0 then e.slba else e.bucket

/-- A command of a source to a namespace meets a pending entry: it is not executed and ends with STS_DEFERRED_ERROR, its
slot free (R53). -/
def State.deferGate (s : State) (src : Src) (nsid : Nat) : Option State :=
  match s.hostOf src with
  | none => none
  | some h =>
    match s.deferTake h nsid with
    | none => none
    | some (e, s) => some (s.endSrcFree src STS_DEFERRED_ERROR e.cause (deferredRange e))

/-! ## The direct path -/

/-- Store a decided reduction: its chunks lie in the stripe, its leaf entries are known. -/
def State.reduceDone (s : State) (o : Nat) (x : WriteOp) (d : Destage) : State :=
  let r := s.reduceStore x d
  let d' := { d with mapped := r.2.1, bytes := r.2.2, stored := true }
  let s := { r.1 with map := { r.1.map with destages := r.1.map.destages.put o d' } }
  if r.2.2 = 0 then s else s.joinStripe d.stripe o r.2.2

/-- The map-delta entries of a stored reduction. -/
def State.deltasNow (s : State) (x : WriteOp) (d : Destage) : List Delta :=
  deltasOf x d.mapped ((s.enterMap { x with tA := s.ctNs }).dropsOf x)

/-- A direct-path write whose reduction is stored issues its INTENT record (R27 step 1); the write is in its buffer stripe
whether or not its chunks share others'. -/
def State.intentIssue (s : State) (o : Nat) (x : WriteOp) (d : Destage) : State :=
  let j := s.nextJseq
  let ds := s.deltasNow x d
  let s := s.setOp o { x with stage := .direct, jseq := j, stripe := d.stripe }
  let s := s.modStripe d.stripe (fun y => { y with ops := if y.ops.contains o then y.ops else y.ops ++ [o] })
  let s := { s with map := { s.map with destages := s.map.destages.put o { d with jseq := some j } } }
  s.issue (.intent o d.stripe ds) (2 + ceilDiv x.keyLen 64 + ceilDiv ds.length 2) (s.nsOf x).oset

/-- A destage whose reduction is stored, once R301 allows its entries: the MAPDELTA record. -/
def State.deltaIssue (s : State) (o : Nat) (x : WriteOp) (d : Destage) : State :=
  let j := s.nextJseq
  let ds := deltasOf x d.mapped (s.dropsOf x)
  let s := { s with map := { s.map with
    destages := s.map.destages.put o { d with jseq := some j }
    sets := s.map.sets.modify (s.nsOf x).oset (fun m => { m with bytes := m.bytes + 32 * ds.length }) } }
  s.issue (.mapDelta ds) (1 + ceilDiv ds.length 2) (s.nsOf x).oset

/-- A reduction all of whose lookups are decided goes on: the direct path issues its INTENT; a destage that stored nothing
issues its MAPDELTA at once, another waits for its stripe (R301). -/
def State.reduceNext (s : State) (o : Nat) : State :=
  match s.ops.look o, s.map.destages.look o with
  | some x, some d =>
    if d.stored || !d.decided then s
    else
      let s := s.reduceDone o x d
      match s.map.destages.look o with
      | some d => if d.direct then s.intentIssue o x d else if d.bytes = 0 then s.deltaIssue o x d else s
      | none => s
  | _, _ => s

/-- A direct-path write is accepted once every member of its stripe has passed and its intent is persistent (R27). -/
def State.acceptDirect (s : State) (o : Nat) : State :=
  match s.ops.look o, s.map.destages.look o with
  | some x, some d =>
    match s.stripe x.stripe, s.recOf x.jseq with
    | some y, some r =>
      if !s.snp.heldNs.mem x.nsid ∧ x.stage = .direct ∧ d.jseq = some x.jseq ∧ y.full = true ∧ y.allPassed = true ∧ s.recPersistent r = true then
        let s := s.accept o
        match s.ops.look o with
        | some x =>
          let s := (s.reduceApply x d.mapped).charge x d.bytes
          let s := { s with map := { s.map with destages := s.map.destages.del o } }
          ((s.setOp o { x with programmed := true, reserve := 0 }).tryRelease o).opDone o
        | none => s
      else s
    | _, _ => s
  | _, _ => s

/-- The MAPDELTA of a destage is persistent (R35, R255): the map follows, the PG is charged, the ACCEPT record is live no
longer. -/
def State.destageEnd (s : State) (o : Nat) : State :=
  match s.ops.look o, s.map.destages.look o with
  | some x, some d =>
    let s := (s.reduceApply x d.mapped).charge x d.bytes
    let s := { s with map := { s.map with destages := s.map.destages.del o } }
    let x := { x with reserve := 0, programmed := x.programmed || d.bytes == 0 }
    let s := (s.setOp o x).endLive (fun _ r => r.orig == x.jseq && r.body.typ == 0x01)
    (s.tryRelease o).opDone o
  | _, _ => s

/-- R301 allows the entries of a stripe's destages: it is CLOSED, or a SIF record with every DONE bit is persistent. -/
def State.stripeDeltas (s : State) (k : Nat) : State :=
  match s.stripe k with
  | some y => y.ops.foldl (fun s o =>
      match s.ops.look o, s.map.destages.look o with
      | some x, some d => if d.stored && !d.direct && d.jseq.isNone then s.deltaIssue o x d else s
      | _, _ => s) s
  | none => s

/-! ## Persistence -/

/-- A band's relocation records are persistent: it may go to step 4 of R322. -/
def State.bandWaitDone (s : State) (j : Nat) : State :=
  { s with str := { s.str with bands := s.str.bands.mapVal (fun _ b => { b with waits := b.waits.remove j }) }
           gcx := { s.gcx with sweepRecs := s.gcx.sweepRecs.remove j } }

/-- A SIF record is persistent: a destage stripe whose every DONE bit it holds is SEALED (Table 13.3); an update of a
spanning stripe sends its messages (R307). -/
def State.sifDone (s : State) (k done : Nat) : State :=
  match s.stripe k with
  | some y =>
    if done = 2 ^ y.d - 1 ∧ y.st = .opened then (s.setStripe k { y with st := .sealed }).stripeDeltas k else s
  | none =>
    match s.str.spans.look k with
    | some u =>
      if u.sent then s
      else
        let s := u.msgs.foldl (fun s m => s.emit (.span m.1 m.2)) s
        { s with str := { s.str with spans := s.str.spans.put k { u with sent := true, since := s.now } } }
    | none => s

/-- A CANCEL record is persistent (R187): the write is processed again from its ACCEPT record as a new arrival on the direct
path, its replay slot still in progress, ahead of every write that waits on it. -/
def State.cancelDone (s : State) (orig : Nat) : State :=
  match s.ops.first? (fun _ o => o.jseq == orig && o.stage == .held) with
  | some (k, x) => s.setOp k { x with stage := .submitted }
  | none => s

/-- What a record's persistence brings about. -/
def State.onPersistent (s : State) (j : Nat) : State :=
  match s.pjm.recs.look j with
  | none => s
  | some r =>
    match r.body with
    | .accept o => if (match s.ops.look o with | some x => x.jseq == r.orig | none => false) then s.accept o else s
    | .intent o _ _ => s.acceptDirect o
    | .slot _ _ _ =>
      match s.ops.first? (fun _ o => o.jseq == r.orig && (match o.stage with | .refusing _ => true | _ => false)) with
      | some (o, _) => s.refuseEnd o
      | none => s
    | .cancel orig => s.cancelDone orig
    | .mapDelta _ =>
      let s := s.bandWaitDone r.orig
      match s.map.destages.first? (fun _ d => d.jseq == some r.orig && !d.direct) with
      | some (o, _) => s.destageEnd o
      | none => s
    | .sif k _ done => s.sifDone k done
    | _ => s

/-- Change what is known of a record's copies; what its persistence brings about follows once. -/
def State.recUpdate (s : State) (j : Nat) (f : PjmRec → PjmRec) : State :=
  match s.pjm.recs.look j with
  | none => s
  | some r =>
    let was := s.recPersistent r
    let s := { s with pjm := { s.pjm with recs := s.pjm.recs.put j (f r) } }
    if !was && s.recPersistent (f r) then s.onPersistent j else s

/-- The partner's PJM has become unreachable (R183, R187): records persistent locally count so at once; journal-path writes
without a mirror acknowledgement are cancelled while the partner is fenced, and held otherwise; a held record goes to the
local log alone. -/
def State.partnerLost (s : State) : State :=
  let js := (s.pjm.recs.filter (fun e => e.2.localOk && !e.2.mirrorOk && e.2.body.typ != 0x01)).map (·.1)
  let s := js.foldl State.onPersistent s
  let ops := s.ops.filter (fun e => e.2.stage == .journal &&
    (match s.recOf e.2.jseq with | some r => !r.mirrorOk | none => false))
  let s := ops.foldl (fun s e => s.setOp e.1 { e.2 with stage := .held }) s
  let s := if ops = [] then s else s.raise Fld.PJM_ERR_HELD
  let s := if s.aon.fenceOut then
      ops.foldl (fun s e => s.issue (.cancel e.2.jseq) 2 (s.nsOf e.2).oset) s else s
  (s.pjm.recs.filter (fun e => e.2.held && e.2.live)).foldl (fun s e =>
    match s.pickChan with
    | some c => s.place c e.1 e.2
    | none => s) s

/-- Held writes and records move on when the partner is fenced (R187). -/
def State.partnerFenced (s : State) : State :=
  (s.ops.filter (fun e => e.2.stage == .held)).foldl (fun s e =>
    if s.pjm.recs.any (fun r => r.2.body == .cancel e.2.jseq) then s
    else s.issue (.cancel e.2.jseq) 2 (s.nsOf e.2).oset) s

/-- A head that loses a set drops the writes of it that it holds, without a completion (R187). -/
def State.dropHeld (s : State) (o : Nat) : State :=
  (s.ops.filter (fun e => e.2.stage == .held && (s.nsOf e.2).oset == o)).foldl (fun s e => (s.unreserve e.2).dropOp e.1) s

end Sys2Proof.Machine
end

