-- ==== Sys2Proof/Machine/Mirror.lean ====
section
/-!
DEFINITION. What the partner's records bring to this head: the application of map-delta entries (R256), the mirror index and
its activation (R191, R192), catch-up copies and acknowledgements, and the rewriting of records whose copies failed (R184,
R190).
-/
namespace Sys2Proof.Machine

open Sys2Proof

/-! ## Map deltas -/

/-- The leaf key a map-delta entry of KIND 1, 2 or 7 names (Table 08.6). -/
def State.deltaLeaf (s : State) (d : Delta) : Nat :=
  let kv := match s.adm.nss.look d.nsid with
    | some n => n.kv
    | none => false
  leafKey d.nsid (if d.kind = 2 ∨ (d.kind = 7 ∧ kv = true) then d.pg + 1 else 0) d.laddr

/-- The highest write sequence a leaf entry holds; none for an entry never written. -/
def State.leafWseq (s : State) (key : Nat) : Option Nat := ((s.map.leaves.getD key []).head?).map (·.wseq)

/-- A RELOC entry moves the data of its write sequence, wherever an epoch holds it; one with address 0 makes KIND 3 of an
entry of KIND 1 that names the chunk lost (R256, R308); an entry that no leaf matches counts as a dead copy. -/
def State.relocDelta (s : State) (key wseq addr : Nat) (idx : Option Nat) : State :=
  let vs := s.map.leaves.getD key []
  if vs.any (fun v => v.wseq == wseq && v.kind == 1) then
    s.moveLeaf key wseq (fun v =>
      if v.kind = 1 then
        (if addr = 0 then { v with kind := 3, addr := 0, idx := none } else { v with addr := addr, idx := idx.or v.idx })
      else v)
  else s.bump Fld.GCX_STAT_DEAD_COPY_COUNT

/-- An entry without RELOC sets its leaf entry when its write sequence is at least the leaf's (R256). -/
def State.freshDelta (s : State) (d : Delta) (key : Nat) (idx : Option Nat) : State :=
  let vs := s.map.leaves.getD key []
  let kind := if d.kind = 7 then 0 else 1
  match vs.find? (fun v => v.wseq == d.wseq) with
  | some _ => s.moveLeaf key d.wseq (fun v => { v with kind := kind, addr := d.addr, idx := idx })
  | none =>
    match s.leafWseq key with
    | some w =>
      if w ≤ d.wseq then
        s.putLeaf key { kind := kind, voff := 0, birth := s.activeEpoch d.nsid, addr := d.addr, wseq := d.wseq, idx := idx,
                        stamp := s.ctNs }
      else s
    | none =>
      s.putLeaf key { kind := kind, voff := 0, birth := s.activeEpoch d.nsid, addr := d.addr, wseq := d.wseq, idx := idx,
                      stamp := s.ctNs }

/-- Apply one map-delta entry to the map (R256); `idx`: the handle that the +1 of the same record gives the chunk (R205, R209).
A relocated chunk's index entry takes its new address (R322 step 3); other entries of the index are applied by R206. -/
def State.applyDelta (s : State) (d : Delta) (idx : Option Nat) : State :=
  let key := s.deltaLeaf d
  if d.kind = 1 ∨ d.kind = 2 ∨ d.kind = 7 then
    if d.reloc then s.relocDelta key d.wseq d.addr idx else s.freshDelta d key idx
  else if d.kind = 5 ∧ d.reloc = true then
    { s with ddp := { s.ddp with idx := s.ddp.idx.modify d.laddr (fun e => { e with addr := d.addr }) } }
  else s

/-- Apply the leaf entries of one record. -/
def State.applyDeltas (s : State) (ds : List Delta) : State :=
  ds.foldl (fun s d => s.applyDelta d ((ds.find? (fun e => e.kind == 3 && e.addr == d.addr && d.addr != 0)).map (·.laddr))) s

/-! ## Deferred entries -/

/-- A DEFERRED record of the partner: the entry is pending here too, or is gone (R51, R53). -/
def State.deferMirror (s : State) (h : HostRef) (e : Deferred) (remove : Bool) : State :=
  let es := s.deferredOf h e.nsid
  if remove then s.setDeferred h e.nsid (es.filter (fun x => x != e))
  else if es.length < 16 then s.setDeferred h e.nsid (es ++ [e])
  else s.setDeferred h e.nsid (mergeDeferred (es ++ [e])).toList

/-! ## Mirror records -/

/-- A record of the partner becomes persistent in this head's PJM: the acknowledgement leaves, and the index of R192 follows. -/
def State.mirrorPersist (s : State) (j : Nat) : State :=
  match s.pjm.mirror.look j with
  | none => s
  | some m =>
    if m.persistent then s
    else
      let s := { s with pjm := { s.pjm with mirror := s.pjm.mirror.put j { m with persistent := true } } }
      let s := s.isend 1 (.mirrorAck j)
      match m.body with
      | .deferred h e r => s.deferMirror h e r
      | _ => s

/-- A record of the partner arrives (R183): it is written at the same channel and offset, or refused when this head refuses
mirror records (R379) or the channel is not in service (R184); `copy` marks a catch-up copy, which is not refused for a
channel being caught up. -/
def State.mirrorTake (s : State) (j : Nat) (m : MirrorRec) (copy : Bool) : State :=
  if s.pjm.refuseMirror || !(s.chanIn m.chan || (copy && s.pjm.repairing.mem m.chan)) then s.isend 1 (.mirrorRefuse j)
  else
    let keep := s.pjm.mirror.keep (fun _ x => !(x.chan == m.chan && decide (x.off < m.off + m.len64 ∧ m.off < x.off + x.len64)))
    { s with pjm := { s.pjm with mirror := keep.put j { m with persistent := false } } }

/-- The persistent records of the partner in ascending ORIG_JSEQ, one for each (R181, R191). -/
def State.mirrorLog (s : State) : List MirrorRec :=
  (s.pjm.mirror.foldl (fun (a : Assoc MirrorRec) e => if e.2.persistent then a.put e.2.orig e.2 else a) []).map (·.2)

/-- A record of the mirror is canceled by a CANCEL record. -/
def cancelledIn (log : List MirrorRec) (orig : Nat) : Bool := log.any (fun m => m.body == .cancel orig)

/-- A SLOT record, or a later INTENT of the same slot, supersedes an INTENT (R191). -/
def supersededIn (log : List MirrorRec) (m : MirrorRec) : Bool :=
  log.any (fun x => x.window == m.window && x.seq == m.seq && decide (m.orig < x.orig) &&
    (match x.body with
     | .slot _ => true
     | .intent _ _ _ => true
     | _ => false))

/-- t_a of a record: its STAMP entry, or T_ISSUE (R179). -/
def stampIn (log : List MirrorRec) (m : MirrorRec) : Nat :=
  (log.foldl (fun a x => match x.body with
    | .stamp es => ((es.find? (fun e => e.1 == m.orig)).map (·.2)).or a
    | _ => a) none).getD m.tIssue

/-- The status a mirror record stores in its replay slot; none while its outcome is open. -/
def mirOutcome (m : MirrorRec) : Option Nat :=
  match m.body with
  | .accept _ => some STS_OK
  | .slot st => some st
  | _ => none

/-- A replay slot of an Enore session moves to the new owner (R50). -/
def State.mirrorSlot (s : State) (window seq status : Nat) (bucket : Option Nat) : State :=
  if 65536 ≤ window ∧ window < 2 ^ 80 then
    let w := (s.wins.getD window (RWin.fresh 64 0 0)).complete seq status
    s.setWin window (match bucket with
      | some b => w.mark seq b
      | none => w)
  else s

/-- The bucket of the key a write of the partner names. -/
def State.mirBucket (s : State) (w : MirWrite) : Option Nat := if w.keyLen = 0 then none else some (s.bucketOf w.nsid w.key w.keyLen)

/-- The data of a write of the mirror has been destaged: a MAPDELTA record of the log holds its entries, and its ACCEPT record is live no
longer (Table 08.8). -/
def destagedIn (log : List MirrorRec) (w : MirWrite) : Bool :=
  log.any (fun m => match m.body with
    | .mapDelta ds => ds.any (fun d => !d.reloc && d.nsid == w.nsid && d.pg == w.pg && d.wseq == w.wseq)
    | _ => false)

/-- An accepted journal-path write of the partner goes on here: journal-resident, to be destaged unless that is done, its completion not
ours to send (R191, R192). -/
def State.adoptWrite (s : State) (w : MirWrite) (jseq tA : Nat) (destaged : Bool) : State :=
  let t := match s.adm.nss.look w.nsid with
    | some n => n.tenant
    | none => 0
  let p := s.pg w.pg
  let o := s.nextOp
  let x : WriteOp := {
    src := .own, kind := w.kind, nsid := w.nsid, tenant := t, lba := w.lba, blocks := w.blocks, key := w.key,
    keyLen := w.keyLen, valueLen := w.valueLen, data := w.data, ifAbsent := false, ifPresent := false, ifVersion := none,
    fua := w.fua, valueId := w.valueId, pg := w.pg, reserve := 0, stage := .journal, jseq := jseq, stripe := 0,
    wseq := w.wseq, tA := 0, epsA := Frac.zero, accepted := false, programmed := false, synced := false, released := true,
    arrival := o, span := s.spanPut w.kind w.nsid }
  let x := { x with reserve := if destaged then 0 else x.reserveFor p }
  let s := s.modPg w.pg (fun p => { p with reserved := p.reserved + x.reserve, nextValue := max p.nextValue (w.valueId + 1) })
  let s := ({ s with nextOp := o + 1 }.setOp o x).acceptAt o tA Frac.zero true
  if destaged then s.dropOp o else s

/-- The stripes of INTENT records in the mirror whose write no SLOT or later INTENT settles. -/
def State.openIntents (s : State) : List Nat :=
  let log := s.mirrorLog
  log.filterMap (fun m => match m.body with
    | .intent _ k _ => if supersededIn log m then none else some k
    | _ => none)

/-- The journal activation of a takeover or handover (R191, R192): records of the sets `ps` accepts are applied in ascending
ORIG_JSEQ; an INTENT without a superseding SLOT entry is kept when its stripe is among `whole`, every member of which carries a
valid tag (R33). -/
def State.activateMirror (s : State) (ps : Nat → Bool) (whole : List Nat) : State :=
  let log := s.mirrorLog
  log.foldl (fun s m =>
    if !ps m.oset then s
    else
      match m.body with
      | .accept w =>
        if cancelledIn log m.orig then s
        else (s.adoptWrite w m.orig (stampIn log m) (destagedIn log w)).mirrorSlot m.window m.seq STS_OK (s.mirBucket w)
      | .intent w k ds =>
        if supersededIn log m || !whole.contains k then s
        else
          let s := s.applyDeltas ds
          (s.modPg w.pg (fun p => { p with wseq := max p.wseq w.wseq, nextValue := max p.nextValue (w.valueId + 1) })).mirrorSlot
            m.window m.seq STS_OK (s.mirBucket w)
      | .slot st => s.mirrorSlot m.window m.seq st none
      | .mapDelta ds => s.applyDeltas ds
      | .sif k step _ =>
        if 2 ^ 63 ≤ k then { s with str := { s.str with initStep := s.str.initStep.put k ((step + 65535) % 65536) } } else s
      | .window b _ =>
        if 65536 ≤ m.window ∧ m.window < 2 ^ 80 then
          s.setWin m.window ((s.wins.getD m.window (RWin.fresh 64 b 0)).advanceTo b)
        else s
      | _ => s) s

/-- What the mirror says of a forwarded write's replay slot: the latest outcome a record of the owner stores for it (R128). -/
def State.mirrorOutcome (s : State) (window seq : Nat) : Option Nat :=
  let log := s.mirrorLog
  log.foldl (fun a m =>
    if m.window = window ∧ m.seq = seq ∧ !cancelledIn log m.orig then (mirOutcome m).or a else a) none

/-! ## Rewriting -/

/-- Write a record again on another channel with the same JSEQ, or hold it when no channel is in service on both heads
(R184). -/
def State.rewrite (s : State) (j : Nat) : State :=
  match s.pjm.recs.look j with
  | none => s
  | some r =>
    match s.pickChanBut (some r.chan) with
    | some c => s.place c j r
    | none =>
      let s := { s with pjm := { s.pjm with recs := s.pjm.recs.put j { r with held := true, localOk := false, mirrorOk := false, acked := false } } }
      let s := match r.body with
        | .accept o => s.modOp o (fun (x : WriteOp) => if x.stage = WStage.journal then { x with stage := WStage.held } else x)
        | _ => s
      s.raise Fld.PJM_ERR_HELD

/-- Held records are written once a channel is in service again (R184). -/
def State.releaseHeld (s : State) : State :=
  (s.pjm.recs.filter (fun e => e.2.held && e.2.live)).foldl (fun s e =>
    match s.pickChan with
    | some c =>
      let s := s.place c e.1 e.2
      match e.2.body with
      | .accept o => s.modOp o (fun (x : WriteOp) => if x.stage = WStage.held then { x with stage := WStage.journal } else x)
      | _ => s
    | none => s) s

/-- Append a copy of a live record with COPY set, a new JSEQ and the original ORIG_JSEQ; the older copy stops being live
(R181). -/
def State.copyForward (s : State) (j : Nat) : State :=
  match s.pjm.recs.look j with
  | none => s
  | some r =>
    match s.pickChan with
    | none => s
    | some c =>
      let n := s.nextJseq
      let s := s.wr Fld.PJM_JSEQ_NEXT (n + 1)
      (s.place c n { r with copy := true, live := true }).endLive (fun k _ => k == j)

/-- A local channel fails (R174, R190): records on it go to other channels, each still being written with its own JSEQ and
each persistent one as a copy; the direct path holds until the repair. -/
def State.channelFail (s : State) (c : Nat) : State :=
  let s := ((s.wr Fld.PJM_CH_STATUS_STATE chanFailed c).raise Fld.PJM_ERR_CH_FAIL).wr Fld.PJM_ERR_INFO_CHANNEL c
  let here := s.pjm.recs.filter (fun e => e.2.chan == c && e.2.live && !e.2.held)
  here.foldl (fun s e => if e.2.localOk || e.2.mirrorOk then s.copyForward e.1 else s.rewrite e.1) s

end Sys2Proof.Machine
end

