-- ==== Sys2Proof/Machine/Pjm.lean ====
section
/-!
DEFINITION. The write path and the journal (rows WRITE_ARRIVAL to DESTAGE; R24 to R38, R51 to R54, R173 to R193, R195).
-/
namespace Sys2Proof.Machine

open Sys2Proof

/-! ## Arrival -/

/-- The payload length that R24 compares with the journal threshold, bytes. -/
def WriteOp.payload (o : WriteOp) : Nat :=
  match o.kind with
  | .block => 4096 * o.blocks
  | .kvPut => o.valueLen
  | .kvDelete => 0
  | .dealloc => 0
  | .zeroes => 0

/-- Units of a write's ACCEPT record: header, descriptor, key and data, each padded to 64 bytes (Table 08.4). -/
def WriteOp.acceptUnits (o : WriteOp) : Nat := 2 + ceilDiv o.keyLen 64 + ceilDiv o.payload 64

/-- The command that carries a write to the owner (R126). -/
def State.forwarded (s : State) (o : WriteOp) : FwdCmd :=
  { write := some o.kind, nsid := o.nsid, lba := o.lba, blocks := o.blocks, key := o.key, keyLen := o.keyLen,
    valueLen := o.valueLen, data := o.data, ifAbsent := o.ifAbsent, ifPresent := o.ifPresent, ifVersion := o.ifVersion,
    fua := o.fua, list := none, window := (s.slotOf o.src).1,
    seq := (s.slotOf o.src).2 }

/-- A write goes to the owner over the Isaov link (R15, R126). -/
def State.forwardWrite (s : State) (o : Nat) (x : WriteOp) : State :=
  let s := if x.keyLen = 0 then s else s.bump Fld.KVS_STAT_FWD_COUNT
  let s := { s with nvf := { s.nvf with fwds := s.nvf.fwds.put o { src := x.src, op := some o, held := false } } }
  (s.setOp o { x with stage := .forwarded }).isend 2 (.forward o (s.forwarded x))

/-- A command that this head may not run for its ownership set ends so (Tables 05.6, 17.6); its slot stays free. -/
def State.pathRefuse (s : State) (o : Nat) (x : WriteOp) (status : Nat) : State :=
  ((s.unreserve x).dropOp o).endSrcFree x.src status 0 0

/-- An earlier write that overlaps is not yet accepted (R37). -/
def State.blockedBy (s : State) (o : Nat) (x : WriteOp) : Bool :=
  s.ops.any (fun e => e.1 != o && e.2.arrival != 0 && !e.2.accepted && e.2.overlaps x &&
    (x.arrival == 0 || decide (e.2.arrival < x.arrival)) &&
    (match e.2.stage with
     | .refusing _ => false
     | .forwarded => false
     | _ => true))

/-- The condition a key-value write carries, judged against what earlier writes left (R340): the status of a failure. -/
def State.kvCondition (s : State) (x : WriteOp) : Option Nat :=
  let cur := match s.kvAt x.nsid x.pg x.key x.keyLen none with
    | some v => if v.present then some v else none
    | none => none
  match x.kind, cur with
  | .kvPut, some v =>
    if x.ifAbsent then some STS_KEY_EXISTS
    else match x.ifVersion with
      | some n => if n = v.valueId then none else some STS_VERSION_MISMATCH
      | none => none
  | .kvPut, none => if x.ifPresent || x.ifVersion.isSome then some STS_KEY_ABSENT else none
  | .kvDelete, some v =>
    match x.ifVersion with
    | some n => if n = v.valueId then none else some STS_VERSION_MISMATCH
    | none => none
  | .kvDelete, none => match x.src with
    | .batch _ _ => none
    | _ => some STS_KEY_ABSENT
  | _, _ => none

/-- Writes to a namespace or PG that takes none (R36, R407, R411): only a batch writes a replica. -/
def State.writeProtected (s : State) (x : WriteOp) : Bool :=
  (s.nsOf x).readOnly || (s.pg x.pg).media == .readOnly ||
    (s.snp.replicas.has x.nsid && (match x.src with
      | .batch _ _ => false
      | _ => true))

/-- The owner fixes a write's write sequence, and a put's VALUE_ID above every earlier one of its PG (R38, R178, R341). -/
def State.sequence (s : State) (x : WriteOp) : State × WriteOp :=
  let p := s.pg x.pg
  let v := if x.kind = .kvPut ∧ x.valueId = 0 then p.nextValue else x.valueId
  let s := s.modPg x.pg (fun p => { p with wseq := p.wseq + 1, nextValue := max p.nextValue (v + 1) })
  (s, { x with wseq := p.wseq + 1, valueId := v })

/-- The journal path: the ACCEPT record is issued (R25, R178). -/
def State.journalWrite (s : State) (o : Nat) (x : WriteOp) : State :=
  let q := s.sequence x
  let s := q.1.setOp o { q.2 with stage := .journal, jseq := s.nextJseq }
  let s := s.issue (.accept o) x.acceptUnits (s.nsOf x).oset
  match s.recOf (s.nextJseq - 1) with
  | some r => if r.held then s.modOp o (fun (x : WriteOp) => { x with stage := .held }) else s
  | none => s

/-- The direct path: the write is reduced into an SLC buffer stripe, and its INTENT follows (R27). -/
def State.directWrite (s : State) (o : Nat) (x : WriteOp) (at_ : StripeAt) (addrs : List Nat) : State :=
  let q := s.sequence x
  let a := { at_ with pg := x.pg, slc := true }
  let s := (q.1.setOp o { q.2 with stage := .direct, stripe := a.id }).openStripe a .buffer
  (s.reduceStart o q.2 true a.id addrs).reduceNext o

/-- The path of R24; the choice does not change afterwards.  `again` marks a write that a CANCEL record sends to the direct
path (R187). -/
def State.choosePath (s : State) (o : Nat) (x : WriteOp) (again : Bool) (at_ : StripeAt) (addrs : List Nat) : State :=
  let small := decide (x.payload ≤ s.rd Fld.PJM_JCFG_THRESH_4K * 4096)
  if again || !small || !s.journalOpen then s.directWrite o x at_ addrs
  else if s.journalRoom x.acceptUnits then s.journalWrite o x
  else (s.raise Fld.PJM_ERR_LOG_FULL).directWrite o x at_ addrs

/-- A write this head owns arrives in its turn: its conditions, its reserve (R34, R36), and its path. -/
def State.admitWrite (s : State) (o : Nat) (x : WriteOp) (again : Bool) (at_ : StripeAt) (addrs : List Nat) : State :=
  if again then s.choosePath o x true at_ addrs
  else
    match s.kvCondition x with
    | some st => s.refuseOp o st
    | none =>
      let p := s.pg x.pg
      let need := x.reserveFor p
      if s.pgRoom p < need then (s.capacityFirst x.pg need).refuseOp o STS_CAPACITY_EXHAUSTED
      else
        let x := { x with reserve := need }
        let s := (s.setOp o x).modPg x.pg (fun p => { p with reserved := p.reserved + need })
        s.choosePath o x false at_ addrs

/-- WRITE_ARRIVAL: OWN confirms ownership for a write, or sends it to the owner, or ends it; it takes its place in the order of
R37 and goes on when its data has come and nothing earlier overlaps. -/
def State.writeArrival (s : State) (o : Nat) (at_ : StripeAt) (addrs : List Nat) : State :=
  match s.ops.look o with
  | none => s
  | some x =>
    if x.stage != .submitted && x.stage != .waiting then s
    else
      let st := s.setState (s.nsOf x).oset
      let first := x.arrival == 0
      let gate := if first then s.deferGate x.src x.nsid else none
      match gate with
      | some s => s.dropOp o
      | none =>
        let pend := s.nvf.xfers.any (fun e => e.2.op == o)
        if st = setPartner then
          match x.src with
          | .partner _ _ _ => s.pathRefuse o x STS_NOT_OWNER
          | _ =>
            if pend then
              let n := if first then s.nextOp else x.arrival
              { s with nextOp := s.nextOp + b2n first }.setOp o { x with arrival := n, stage := .waiting }
            else s.forwardWrite o x
        else if st = setMoving then s.pathRefuse o x STS_NOT_OWNER
        else if st != setOwned then s.pathRefuse o x STS_PATH_INACCESSIBLE
        else
          let again := x.stage == .submitted && !first
          let x := { x with arrival := if first then s.nextOp else x.arrival }
          let s := if first then { s with nextOp := s.nextOp + 1 } else s
          let s := s.setOp o x
          if s.writeProtected x then s.refuseOp o STS_WRITE_PROTECTED
          else if pend || s.blockedBy o x || s.snp.heldNs.mem x.nsid || (match s.map.sets.look (s.nsOf x).oset with
              | some m => m.recovering
              | none => false) then s.setOp o { x with stage := .waiting }
          else s.admitWrite o x again at_ addrs

/-! ## Records -/

/-- PJM_RECORD_PERSIST: a record's last burst has completed and the persistence delay has passed (R26): an own record, or one
of the partner's in the mirror log. -/
def State.pjmRecordPersist (s : State) (mirror : Bool) (j : Nat) : State :=
  if mirror then s.mirrorPersist j
  else
    match s.pjm.recs.look j with
    | some r => if r.held || r.localOk then s else s.recUpdate j (fun r => { r with localOk := true })
    | none => s

/-- MIRROR_RECORD_RECEIVE. -/
def State.mirrorRecordReceive (s : State) (j : Nat) (m : MirrorRec) : State := s.mirrorTake j m false

/-- MIRROR_ACK_RECEIVE (R25, R183); during a catch-up the acknowledgement counts from its end on (R189). -/
def State.mirrorAckReceive (s : State) (j : Nat) : State :=
  match s.pjm.recs.look j with
  | some r =>
    if !r.mirrorSent || r.mirrorOk then s
    else if s.partnerPjm then s.recUpdate j (fun r => { r with mirrorOk := true })
    else if s.mirroring then { s with pjm := { s.pjm with recs := s.pjm.recs.put j { r with acked := true } } }
    else s
  | none => s

/-- PJM_WRITE_FAIL: a record's write fails on this head (its channel is then failed, R174) or is refused by the partner
(R184). -/
def State.pjmWriteFail (s : State) (j : Nat) (local_ : Bool) : State :=
  match s.pjm.recs.look j with
  | none => s
  | some r =>
    if r.held || !r.live || s.recPersistent r then s
    else if local_ then s.channelFail r.chan
    else s.rewrite j

/-- STAMP_RECORD_TIMER (R179): 240 entries are pending, or 2 µs have passed since the oldest. -/
def State.stampRecordTimer (s : State) : State :=
  match s.pjm.stampSince with
  | none => s
  | some t => if 240 ≤ s.pjm.stamps.length then s.stampWrite else (s.advanceUs t 2).stampWrite

/-- Units of 1 MiB. -/
abbrev mibUnits : Nat := 16384

/-- ANCHOR_WRITE for a channel (R182): after 1 MiB of advance, or 1 ms after an advance; the anchors alternate, and the write
is mirrored. -/
def State.anchorWrite (s : State) (c : Nat) : State :=
  let x := s.chan c
  match x.tailMoved with
  | none => s
  | some t =>
    if !s.chanIn c then s
    else
      let s := if mibUnits ≤ x.tailUnits then s else s.advanceUs t 1000
      let seq := max x.anchor0.aseq x.anchor1.aseq + 1
      let a : Anchor := ⟨seq, x.tailCseq, x.tailOff, false⟩
      let x := if x.anchor0.aseq ≤ x.anchor1.aseq then { x with anchor0 := a } else { x with anchor1 := a }
      let s := s.setChan c { x with tailMoved := none, tailUnits := 0 }
      if s.mirroring then s.isend 1 (.anchor c a) else s

/-- RECORD_COPY_FORWARD (R181): a live record within the oldest eighth of its channel's log. -/
def State.recordCopyForward (s : State) (j : Nat) : State :=
  match s.pjm.recs.look j with
  | none => s
  | some r =>
    let x := s.chan r.chan
    let dist := if x.tailOff ≤ r.off then r.off - x.tailOff else s.logUnits - 64 - (x.tailOff - r.off)
    if r.live && !r.held && r.localOk && decide (dist * 8 < s.chanSpan r.chan) then s.copyForward j else s

/-- PJM_CHANNEL_FAIL: 16 uncorrectable errors within 1 s, a write that does not complete, or failed training (R174). -/
def State.pjmChannelFail (s : State) (c : Nat) : State :=
  if c < 8 ∧ s.rd Fld.PJM_CH_STATUS_STATE c != chanFailed ∧ s.rd Fld.PJM_CH_STATUS_STATE c != chanAbsent then s.channelFail c
  else s

/-- PJM_CH_CMD: a repaired channel is cleared and catches up with the partner (R190). -/
def State.pjmChCmd (s : State) (c : Nat) : State :=
  if s.rd Fld.PJM_CH_STATUS_STATE c = chanFailed then
    let s := s.wr Fld.PJM_CH_STATUS_STATE chanCatchUp c
    let s := s.setChan c { PjmChan.init with nextCseq := (s.chan c).nextCseq, tailCseq := (s.chan c).nextCseq }
    let s := { s with pjm := { s.pjm with
      mirror := s.pjm.mirror.keep (fun _ m => m.chan != c)
      recs := s.pjm.recs.keep (fun _ r => r.chan != c || r.held)
      repairing := s.pjm.repairing.insert c } }
    s.isend 0 (.catchupRequest (some c))
  else s

/-! ## Replay -/

/-- A record's two copies as replay finds them. -/
def replayCopies (localBad mirrorBad : List Nat) (j : Nat) (r : PjmRec) : Bool × Bool :=
  (r.localOk && !localBad.contains j, r.mirrorOk && !mirrorBad.contains j)

/-- A write whose record is in neither log, or whose stripe is not whole, is discarded; its replay slot is free (R33, R35). -/
def State.replayDrop (s : State) (o : Nat) (x : WriteOp) : State :=
  let s := (s.unreserve x).dropOp o
  match x.src with
  | .ring r q => s.modWin (winRing r) (fun w => w.release q)
  | .enore k n =>
    match (s.sess k).bind (fun z => z.cmds.look n) with
    | some c => s.modWin (winSession k) (fun w => w.release c.e.seq)
    | none => s
  | _ => s

/-- t_a that replay gives a write: its STAMP entry's, or T_ISSUE of its record (R179). -/
def State.replayStamp (s : State) (r : PjmRec) : Nat :=
  (s.pjm.recs.foldl (fun a e => match e.2.body with
    | .stamp es => ((es.find? (fun p => p.1 == r.orig)).map (·.2)).or a
    | _ => a) none).getD r.tIssue

/-- Replay of one write (R191): an ACCEPT that no CANCEL names is accepted; an INTENT is resolved by its stripe (R33). -/
def State.replayOne (s : State) (r : PjmRec) : State :=
  match r.body with
  | .accept o =>
    if s.pjm.recs.any (fun e => e.2.body == .cancel r.orig) then s
    else s.acceptAt o (s.replayStamp r) Frac.zero true
  | .intent o k _ =>
    match s.ops.look o with
    | none => s
    | some x =>
      if x.accepted then s
      else
        match s.stripe k, s.map.destages.look o with
        | some y, some d =>
          if y.allPassed then
            let s := (s.acceptAt o (s.replayStamp r) Frac.zero true).reduceApply { x with wseq := x.wseq } d.mapped
            let s := { s with map := { s.map with destages := s.map.destages.del o } }
            ((s.modOp o (fun (z : WriteOp) => { z with programmed := true, reserve := 0 })).charge x d.bytes).opDone o
          else s.replayDrop o x
        | _, _ => s.replayDrop o x
  | .slot _ _ _ =>
    match s.ops.first? (fun _ o => o.jseq == r.orig && (match o.stage with
      | .refusing _ => true
      | _ => false)) with
    | some (o, x) => match x.stage with
      | .refusing st => (s.slotDone x.src st).dropOp o
      | _ => s
    | none => s
  | _ => s

/-- A read of a record's own copy meets an uncorrectable error (R174): it is counted, with its time. -/
def State.ueRead (s : State) (r : PjmRec) : State :=
  let x := s.chan r.chan
  let s := s.setChan r.chan { x with ueTimes := s.now :: x.ueTimes.filter (fun t => decide (s.now < t + 1000000 * unitsPerUs)) }
  let s := (s.bump Fld.PJM_CH_ECC_UE 1 r.chan).raise Fld.PJM_ERR_UE
  (s.wr Fld.PJM_ERR_INFO_CHANNEL r.chan).wr Fld.PJM_ERR_INFO_ADDR64 r.off

/-- The channels with 16 uncorrectable errors within 1 s are declared failed (R174). -/
def State.ueChannels (s : State) : State :=
  (List.range 8).foldl (fun (s : State) c =>
    if decide (16 ≤ (s.chan c).ueTimes.length) && s.rd Fld.PJM_CH_STATUS_STATE c != chanFailed then s.channelFail c else s) s

/-- PJM_REPLAY (R191, Table 08.11).  `both`: both heads reset together; otherwise no record is used.  `localBad` and `mirrorBad`
name the records whose copy in the own log, or in the partner's mirror, fails its CRC or lies behind the end of its scan;
`badType`: a record of a reserved type was found. -/
def State.pjmReplay (s : State) (both : Bool) (localBad mirrorBad : List Nat) (badType : Bool) : State :=
  if !both then s
  else
    let s := if badType then s.raise Fld.PJM_ERR_BAD_TYPE else s
    let s := s.pjm.recs.foldl (fun (s : State) e => if e.2.localOk && localBad.contains e.1 then s.ueRead e.2 else s) s
    let valid := s.pjm.recs.keep (fun j r =>
      let c := replayCopies localBad mirrorBad j r
      c.1 || c.2)
    let recs := valid.mapVal (fun j r =>
      let c := replayCopies localBad mirrorBad j r
      { r with localOk := c.1, mirrorOk := c.2 })
    let s := { s with pjm := { s.pjm with recs := recs } }
    let gone := s.ops.filter (fun e => !e.2.accepted && (s.recOf e.2.jseq).isNone)
    let s := gone.foldl (fun s e => s.replayDrop e.1 e.2) s
    let log : Assoc PjmRec := s.pjm.recs.foldl (fun a e => a.put e.2.orig e.2) []
    let s := log.foldl (fun s e => s.replayOne e.2) s
    let s := (s.pjm.recs.filter (fun e => e.2.live && !e.2.mirrorOk)).foldl (fun s e =>
      if s.partnerPjm then s.isend 1 (.mirror e.1 (s.mirrorOf e.2)) else s) s
    s.ueChannels

/-! ## Buffer stripes -/

/-- A forwarded write of a stripe whose INTENT the forwarding head has not acknowledged (R127). -/
def State.awaitsIntent (s : State) (y : Stripe) : Bool :=
  y.ops.any (fun o => match s.ops.look o with
    | some x => (match x.src with | .partner _ _ _ => true | _ => false) &&
        (match s.recOf x.jseq with | some r => !r.mirrorOk | none => true)
    | none => false)

/-- BUFFER_STRIPE_CLOSE (R28): the stripe is full, or its oldest write has waited the close delay; all members are programmed
in one round, once the forwarding head has acknowledged the INTENT of every forwarded write in it (R127). -/
def State.bufferStripeClose (s : State) (k : Nat) (full : Bool) : State :=
  match s.stripe k with
  | none => s
  | some y =>
    if y.kind != .buffer || y.full || y.ops = [] || s.awaitsIntent y then s
    else
      let s := if full then s else s.advance (y.since + closeDelay)
      (s.setStripe k { y with full := true }).emit (.program k y.members)

/-- The chunks of a failed buffer stripe take new addresses in the next one, in order (R29). -/
def State.remap (s : State) (old new : Nat) (addrs : List Nat) (ms : List Mapped) : State × List Mapped × List Nat :=
  ms.foldl (fun (a : State × List Mapped × List Nat) m =>
    match a.1.map.chunks.look m.addr with
    | some c =>
      if m.kind = 1 ∧ c.stripe = old then
        let n := putBits (putBits (a.2.2.headD 0) 52 11 (bitsOf m.addr 52 11)) 63 1 (bitsOf m.addr 63 1)
        let st := { a.1 with map := { a.1.map with chunks := (a.1.map.chunks.del m.addr).put n { c with stripe := new } } }
        let st := match m.idx with
          | some h => { st with ddp := { st.ddp with idx := st.ddp.idx.modify h (fun e => if e.addr = m.addr then { e with addr := n } else e) } }
          | none => st
        (st, a.2.1 ++ [{ m with addr := n }], a.2.2.drop 1)
      else (a.1, a.2.1 ++ [m], a.2.2)
    | none => (a.1, a.2.1 ++ [m], a.2.2)) (s, [], addrs)

/-- A buffer-stripe member fails program (R29): every write of the stripe goes into a new buffer stripe with an INTENT record
of its own. -/
def State.bufferStripeFail (s : State) (k m : Nat) (y : Stripe) (at_ : StripeAt) (addrs : List Nat) : State :=
  let at_ := { at_ with slc := true }
  let s := (s.raise (if m < y.d then Fld.STR_ERR_PROG_FAIL_DATA else Fld.STR_ERR_PROG_FAIL_PARITY)).wr Fld.STR_ERR_INFO_STRIPE_ID k
  let s := s.setStripe k { y with failed := y.failed.insert m, ops := [] }
  let s := s.openStripe at_ .buffer
  let r := y.ops.foldl (fun (a : State × List Nat) o =>
    match a.1.ops.look o, a.1.map.destages.look o with
    | some x, some d =>
      let q := a.1.remap k at_.id a.2 d.mapped
      let d' := { d with stripe := at_.id, mapped := q.2.1 }
      ((q.1.joinStripe at_.id o d.bytes).intentIssue o x d', q.2.2)
    | _, _ => a) (s, addrs)
  r.1

/-- A data member of a destage stripe fails program (R300): VOID, its chunks destaged again, the band closed SHORT. -/
def State.dataMemberFail (s : State) (k m : Nat) (y : Stripe) : State :=
  let s := (s.raise Fld.STR_ERR_PROG_FAIL_DATA).wr Fld.STR_ERR_INFO_STRIPE_ID k
  let again := y.ops.filter (fun o => match s.map.destages.look o with
    | some d => !d.direct && d.jseq.isNone && d.mapped.any (fun p => p.kind == 1 && (match s.map.chunks.look p.addr with
        | some c => c.stripe == k && p.addr % 2 ^ 32 == blockOfMember s k m
        | none => false))
    | none => false)
  let s := { s with map := { s.map with destages := s.map.destages.keep (fun o _ => !again.contains o) } }
  let s := s.setStripe k { y with void := y.void.insert m, ops := y.ops.filter (fun o => !again.contains o) }
  s.modBand (bandOf k) (fun b => { b with short := true })

/-- SIF record of a stripe, superseding the one before it (R300, Table 08.8). -/
def State.sifWrite (s : State) (k : Nat) (y : Stripe) (done : Nat) : State :=
  let j := s.nextJseq
  let step := (y.step + 1) % 65536
  let s := s.issue (.sif k step done) (1 + ceilDiv (y.p * 16576) 64) (s.pg (k % 65536)).oset
  let s := s.modStripe k (fun y => { y with sif := some j, step := step })
  match y.sif with
  | some o => s.endLive (fun _ r => r.orig == o)
  | none => s

/-- DONE bits of the data members that have passed (Table 08.7). -/
def Stripe.doneBits (y : Stripe) : Nat := (y.passed.filter (fun m => m < y.d)).foldl (fun a m => a + 2 ^ m) 0

/-- Every data member up to `n` has passed, VOID ones aside. -/
def Stripe.passedTo (y : Stripe) (n : Nat) : Bool := (List.range n).all (fun m => y.passed.mem m || y.void.mem m)

/-- A member of a destage stripe has passed (R300, Table 13.3): the SIF records, and the close once parity is on flash. -/
def State.destageMemberPass (s : State) (k m : Nat) : State :=
  match s.stripe k with
  | none => s
  | some y =>
    let s := if m + 1 = y.d then s.sifWrite k y (2 ^ y.d - 1)
      else if m < y.d ∧ s.journalOpen = false then s.sifWrite k y y.doneBits
      else s
    match s.stripe k with
    | none => s
    | some y =>
      if y.allPassed then
        let s := (s.closeStripe k).programmedOps k
        let s := match y.sif with
          | some o => s.endLive (fun _ r => r.orig == o)
          | none => s
        s.stripeDeltas k
      else if m + 1 = y.d then s.emit (.program k ((List.range y.p).map (fun j => y.d + j)))
      else if m < y.d ∧ y.passedTo (y.d - 1) then s.emit (.program k [y.d - 1])
      else s

/-- A member of a buffer stripe has passed: with the last, each of its writes may be accepted (R27). -/
def State.bufferMemberPass (s : State) (k : Nat) : State :=
  match s.stripe k with
  | none => s
  | some y =>
    if y.allPassed then
      let s := (s.closeStripe k).programmedOps k
      y.ops.foldl State.acceptDirect s
    else s

/-- A member of a relocation, fold or metadata stripe has passed. -/
def State.otherMemberPass (s : State) (k : Nat) : State :=
  match s.stripe k with
  | some y => if y.allPassed then s.closeStripe k else s
  | none => s

/-- A parity member fails program or tears (Table 13.3): the stripe stays SEALED and its band is queued to GCX ahead of the
score. -/
def State.parityFail (s : State) (k m : Nat) (y : Stripe) : State :=
  let s := (s.raise Fld.STR_ERR_PROG_FAIL_PARITY).wr Fld.STR_ERR_INFO_STRIPE_ID k
  let s := s.setStripe k { y with st := .sealed, failed := y.failed.insert m }
  s.gcxWork 3 (bandOf k)

/-- PAGE_PROGRAM_DONE: a member's program ends.  After a buffer-stripe failure, `at_` and `addrs` place the new stripe and its
chunks. -/
def State.pageProgramDone (s : State) (k m : Nat) (pass : Bool) (at_ : StripeAt) (addrs : List Nat) : State :=
  match s.stripe k with
  | none => s
  | some y =>
    if y.passed.mem m || y.failed.mem m || y.void.mem m || decide (y.d + y.p ≤ m) || s.chanLooped (blockOfMember s k m % 128) then s
    else
    let s := s.lunDone (blockOfMember s k m)
    if pass then
      let s := (s.setStripe k { y with passed := y.passed.insert m }).blockProgrammed k m
      match y.kind with
      | .buffer => if y.full then s.bufferMemberPass k else s
      | .destage => s.destageMemberPass k m
      | .reloc => s.otherMemberPass k
      | .fold => s.otherMemberPass k
      | .metadata => s.otherMemberPass k
    else
      let s := match y.kind with
        | .buffer => s.bufferStripeFail k m y at_ addrs
        | _ => if m < y.d then s.dataMemberFail k m y else s.parityFail k m y
      s.programFailed k m

/-! ## Completions, deferred errors, destage -/

/-- COMMIT_WAIT_RELEASE (R68): the held completion of an accepted write leaves once the wait is over. -/
def State.commitWaitRelease (s : State) (o : Nat) : State :=
  match s.ops.look o with
  | some x => if s.mayRelease x then s.tryRelease o else s
  | none => s

/-- DEFERRED_ERROR_RECORD (R51, R52): a condition after acceptance is recorded for every host of a namespace. -/
def State.deferredErrorRecord (s : State) (dropped : Bool) (nsid slba nlb bucket key keyLen : Nat) : State :=
  s.deferAll { cause := if dropped then STS_REPLICA_DROPPED else STS_LOST_EXTENT, overflow := false, nsid := nsid, slba := slba,
               nlb := nlb, bucket := bucket, key := key, keyLen := keyLen, time := s.ctNs }

/-- DESTAGE: the data of an accepted journal-path write is reduced into a destage stripe (R195, R203). -/
def State.destage (s : State) (o : Nat) (at_ : StripeAt) (addrs : List Nat) : State :=
  match s.ops.look o with
  | none => s
  | some x =>
    if !x.accepted || x.programmed || x.span || s.map.destages.has o || s.setState (s.nsOf x).oset != setOwned then s
    else
      let a := { at_ with pg := x.pg, slc := x.fua }
      let s := s.openStripe a .destage
      (s.reduceStart o x false a.id addrs).reduceNext o

/-! ## The commands -/

def execWriteArrival (op : Nat) (at_ : StripeAt) (addrs : List Nat) (s : State) : Res := ended (s.writeArrival op at_ addrs)
def execPjmRecordPersist (mirror : Bool) (jseq : Nat) (s : State) : Res := ended (s.pjmRecordPersist mirror jseq)
def execMirrorRecordReceive (jseq : Nat) (m : MirrorRec) (s : State) : Res := ended (s.mirrorRecordReceive jseq m)
def execMirrorAckReceive (jseq : Nat) (s : State) : Res := ended (s.mirrorAckReceive jseq)
def execPjmWriteFail (jseq : Nat) (local_ : Bool) (s : State) : Res := ended (s.pjmWriteFail jseq local_)
def execStampRecordTimer (s : State) : Res := ended s.stampRecordTimer
def execAnchorWrite (chan : Nat) (s : State) : Res := ended (s.anchorWrite chan)
def execRecordCopyForward (jseq : Nat) (s : State) : Res := ended (s.recordCopyForward jseq)
def execPjmChannelFail (chan : Nat) (s : State) : Res := ended (s.pjmChannelFail chan)
def execPjmChCmd (chan : Nat) (s : State) : Res := ended (s.pjmChCmd chan)
def execPjmReplay (both : Bool) (localBad mirrorBad : List Nat) (badType : Bool) (s : State) : Res :=
  ended (s.pjmReplay both localBad mirrorBad badType)
def execBufferStripeClose (stripe : Nat) (full : Bool) (s : State) : Res := ended (s.bufferStripeClose stripe full)
def execPageProgramDone (stripe member : Nat) (pass : Bool) (at_ : StripeAt) (addrs : List Nat) (s : State) : Res :=
  ended (s.pageProgramDone stripe member pass at_ addrs)
def execCommitWaitRelease (op : Nat) (s : State) : Res := ended (s.commitWaitRelease op)
def execDeferredErrorRecord (dropped : Bool) (nsid slba nlb bucket key keyLen : Nat) (s : State) : Res :=
  ended (s.deferredErrorRecord dropped nsid slba nlb bucket key keyLen)
def execDestage (op : Nat) (at_ : StripeAt) (addrs : List Nat) (s : State) : Res := ended (s.destage op at_ addrs)

end Sys2Proof.Machine
end

