-- ==== Sys2Proof/Machine/Reads.lean ====
section
/-!
DEFINITION. Where a key lives (R329 to R334), what a read of any kind answers (R39, R340, R343), and the commands that travel between
the heads of an array (R126 to R128).
-/
namespace Sys2Proof.Machine

open Sys2Proof

/-! ## Placement of keys -/

/-- The PG of a bucket. -/
def State.bucketPg (s : State) (bucket : Nat) : Nat := s.kvs.pgmap.getD bucket 0

/-- An entry of the bucket table (R330). -/
def State.bucket (s : State) (b : Nat) : Bucket := s.kvs.buckets.getD b { array := 0, pinned := false, moving := false }

/-- The search key of an override (R331). -/
def overrideKey (tenant nsid key keyLen : Nat) : Nat :=
  let n := min keyLen 34
  tenant * 2 ^ 304 + nsid * 2 ^ 272 + key / 2 ^ (8 * (keyLen - n)) % 2 ^ (8 * n) * 2 ^ (8 * (34 - n))

/-- The array that a key's override names, if one applies (R331, R332); an empty set sets ASET_EMPTY. -/
def State.override (s : State) (tenant nsid key keyLen bucket : Nat) : State × Option Nat :=
  match s.mteTable Blk.KVS with
  | none => (s, none)
  | some t =>
    let q := s.mteSearch Blk.KVS t (overrideKey tenant nsid key keyLen)
    let r := q.2.result
    if q.2.off then (q.1, none)
    else if r / 2 ^ 30 = 1 then (q.1, some (r % 2 ^ 15))
    else if r / 2 ^ 30 = 2 then
      match q.1.adm.asets.look (r % 4096) with
      | some (a :: l) => (q.1, some ((a :: l).getD (bucket % (a :: l).length) 0))
      | _ => (q.1.raise Fld.KVS_ERR_ASET_EMPTY, none)
    else (q.1, none)

/-- The array that owns a key (R334 step 2): by scope, then by override, then by the bucket table. -/
def State.ownerArray (s : State) (tenant nsid key keyLen : Nat) : State × Nat :=
  let cluster := match s.kvs.ns.look nsid with | some a => a.cluster | none => false
  if !cluster then (s, s.arrayId)
  else
    let b := s.bucketOf nsid key keyLen
    let q := s.override tenant nsid key keyLen b
    (q.1, q.2.getD (q.1.bucket b).array)

/-- A request for a key counts in its bucket's heat (R349). -/
def State.kvHeat (s : State) (nsid key keyLen : Nat) : State :=
  let b := s.bucketOf nsid key keyLen
  { s with kvs := { s.kvs with heat := s.kvs.heat.put b (s.kvs.heat.getD b 0 + 1) } }

/-- Updates up to the highest epoch seen are in force or known (`KVS_STATUS.EPOCH_SYNCED`). -/
def State.epochsKnown (s : State) : Bool :=
  (List.range (s.kvs.seenEpoch - s.rd Fld.KVS_EPOCH_EPOCH)).all (fun i => s.kvs.updates.has (s.rd Fld.KVS_EPOCH_EPOCH + 1 + i))

/-- `EPOCH_SYNCED` follows what is known. -/
def State.epochSync (s : State) : State := s.wrb Fld.KVS_STATUS_EPOCH_SYNCED s.epochsKnown

/-- An epoch is seen in a request, a response or a drumbeat (R333). -/
def State.noteEpoch (s : State) (e : Nat) : State :=
  State.epochSync { s with kvs := { s.kvs with seenEpoch := max s.kvs.seenEpoch e } }

/-- A request for a key whose range this head is installing is held (R353). -/
def State.rangeHeld (s : State) (nsid key keyLen : Nat) : Bool :=
  match s.kvs.inC with
  | some c => decide (4 ≤ s.rd Fld.KVS_STATUS_IN_PHASE) && (match s.kvs.ns.look nsid with | some a => a.cluster | none => false) &&
      c.buckets.contains (s.bucketOf nsid key keyLen)
  | none => false

/-- Hold a request. -/
def State.holdReq (s : State) (src : Src) : State :=
  if s.kvs.held.any (fun h => h.src == src) then s
  else { s with kvs := { s.kvs with held := s.kvs.held ++ [{ src := src, since := s.now }] } }

/-! ## Reads -/

/-- The bytes of a listing entry (R343). -/
def listEntry (key keyLen : Nat) (v : KvVer) : List Nat :=
  let pad := ceilDiv keyLen 8 * 8 - keyLen
  [keyLen, 0, 0, 0] ++ bytesBE v.vlen 4 ++ bytesBE v.valueId 8 ++ bytesBE key keyLen ++ List.replicate pad 0

/-- The keys of a PG's tree from a listing's start, in key order: key, length, value. -/
def State.listFrom (s : State) (nsid pg : Nat) (r : ListReq) : List (Nat × Nat × KvVer) :=
  let view := s.readView nsid
  let start := kvKey view.1 pg r.key r.keyLen
  s.map.kv.filterMap (fun e =>
    let inTree := kvNs e.1 == view.1 && kvPg e.1 == pg
    let after := r.keyLen == 0 || decide (start < e.1) || (e.1 == start && !r.excl)
    match KvVer.at_ e.2 view.2 with
    | some v => if inTree && after && v.present then some (kvBytes e.1, kvLen e.1, v) else none
    | none => none)

/-- Take listing entries while they fit. -/
def takeFit (room : Nat) (l : List (Nat × Nat × KvVer)) : List (Nat × Nat × KvVer) :=
  match l with
  | [] => []
  | e :: t =>
    let n := (listEntry e.1 e.2.1 e.2.2).length
    if n ≤ room then e :: takeFit (room - n) t else []

/-- Insert into a list ordered by bucket, then key. -/
def insertKey (e : Nat × Nat × Nat × KvVer) (l : List (Nat × Nat × Nat × KvVer)) : List (Nat × Nat × Nat × KvVer) :=
  match l with
  | [] => [e]
  | x :: t => if x.1 < e.1 ∨ (x.1 = e.1 ∧ kvKey 0 0 x.2.1 x.2.2.1 ≤ kvKey 0 0 e.2.1 e.2.2.1) then x :: insertKey e t else e :: x :: t

/-- A listing over every bucket (R345): by bucket, then by key; from the start key on, when one is given. -/
def State.listAll (s : State) (nsid : Nat) (r : ListReq) : Answer :=
  let view := s.readView nsid
  let all := s.map.kv.filterMap (fun e =>
    match KvVer.at_ e.2 view.2 with
    | some v => if kvNs e.1 == view.1 && v.present then some (s.bucketOf nsid (kvBytes e.1) (kvLen e.1), kvBytes e.1, kvLen e.1, v) else none
    | none => none)
  let sorted := all.foldl (fun l e => insertKey e l) []
  let b := s.bucketOf nsid r.key r.keyLen
  let from_ := sorted.filter (fun e => r.keyLen == 0 || decide (b < e.1) ||
    (b == e.1 && decide (kvKey 0 0 r.key r.keyLen ≤ kvKey 0 0 e.2.1 e.2.2.1)))
  let fit := takeFit r.len (from_.map (·.2))
  let bytes := fit.flatMap (fun e => listEntry e.1 e.2.1 e.2.2)
  { Answer.of STS_OK with vlen := fit.length, written := bytes.length, data := if bytes = [] then [] else [natLE bytes],
                          ending := fit.length == from_.length }

/-- A listing (R343). -/
def State.listAnswer (s : State) (nsid : Nat) (r : ListReq) : Answer :=
  if r.all then s.listAll nsid r else
  let b := if r.keyLen = 0 then r.bucket else s.bucketOf nsid r.key r.keyLen
  let all := s.listFrom nsid (s.bucketPg b) r
  let seen := all.take 4096
  let h := s.hashLen nsid r.keyLen
  let hits := seen.filter (fun e => s.bucketOf nsid e.1 e.2.1 == b &&
    (r.keyLen == 0 || h == r.keyLen || (bytesBE e.1 e.2.1).take h == (bytesBE r.key r.keyLen).take h))
  let fit := takeFit r.len hits
  let bytes := fit.flatMap (fun e => listEntry e.1 e.2.1 e.2.2)
  { Answer.of STS_OK with vlen := fit.length, written := bytes.length, data := if bytes = [] then [] else [natLE bytes],
                          ending := decide (all.length ≤ 4096) && fit.length == hits.length }

/-- What a read answers at the owner (R39, R340). -/
def State.readNow (s : State) (nsid : Nat) (r : ReadOf) : Answer :=
  match r with
  | .blocks lba n =>
    let d := s.readBlocks nsid lba n
    { Answer.of d.2 with data := if d.2 = STS_OK then d.1 else [] }
  | .get key keyLen len =>
    let pg := s.bucketPg (s.bucketOf nsid key keyLen)
    match s.kvRead nsid pg key keyLen with
    | none => Answer.of STS_KEY_ABSENT
    | some v =>
      match s.valueOf nsid pg v with
      | .data x =>
        let n := min len v.vlen
        { Answer.of STS_OK with vlen := v.vlen, written := n, version := v.valueId,
                                data := if n = 0 then [] else [x % 2 ^ (8 * n)] }
      | .fail st => Answer.of st
  | .exist key keyLen =>
    match s.kvRead nsid (s.bucketPg (s.bucketOf nsid key keyLen)) key keyLen with
    | none => Answer.of STS_KEY_ABSENT
    | some v => { Answer.of STS_OK with vlen := v.vlen, version := v.valueId }
  | .list l => s.listAnswer nsid l

/-! ## Between the heads -/

/-- A read as a forwarded command (R126). -/
def readForward (nsid window seq : Nat) (r : ReadOf) : FwdCmd :=
  let base : FwdCmd :=
    { write := none, nsid := nsid, lba := 0, blocks := 0, key := 0, keyLen := 0, valueLen := 0, data := [], ifAbsent := false,
      ifPresent := false, ifVersion := none, fua := false, list := none, window := window, seq := seq }
  match r with
  | .blocks lba n => { base with lba := lba, blocks := n }
  | .get key keyLen len => { base with key := key, keyLen := keyLen, valueLen := len }
  | .exist key keyLen => { base with key := key, keyLen := keyLen, ifPresent := true }
  | .list l => { base with list := some l }

/-- The read that a forwarded command asks for. -/
def FwdCmdRead (c : FwdCmd) : ReadOf :=
  match c.list with
  | some l => .list l
  | none =>
    if c.keyLen = 0 then .blocks c.lba c.blocks
    else if c.ifPresent then .exist c.key c.keyLen
    else .get c.key c.keyLen c.valueLen

/-- Forward a read to the owner. -/
def State.forwardRead (s : State) (src : Src) (nsid : Nat) (r : ReadOf) : State :=
  let s := match r with
    | .blocks _ _ => s
    | _ => s.bump Fld.KVS_STAT_FWD_COUNT
  let tok := s.nextOp
  let sl := s.slotOf src
  let s := { s with nextOp := tok + 1
                    nvf := { s.nvf with fwds := s.nvf.fwds.put tok { src := src, op := none, held := false } } }
  s.isend 2 (.forward tok (readForward nsid sl.1 sl.2 r))

/-- The flash page of a chunk address, as a media read names it: channel, LUN with its volume, page with its plane and block. -/
def mediaPage (addr : Nat) : Nat × Nat × Nat := (addr % 128, addr / 128 % 128, addr / 2 ^ 14 % 2 ^ 30)

/-- The flash page of a leaf entry of KIND 1; one that leads to a spanning stripe has none (R348). -/
def Leaf.page (l : Option Leaf) : List (Nat × Nat × Nat) :=
  match l with
  | some v => if v.kind = 1 ∧ v.addr < 2 ^ 64 then [mediaPage v.addr] else []
  | none => []

/-- The flash pages a read needs. -/
def State.pagesOf (s : State) (nsid : Nat) (r : ReadOf) : List (Nat × Nat × Nat) :=
  match r with
  | .blocks lba n =>
    let view := s.readView nsid
    (List.range n).flatMap (fun i => Leaf.page (s.leafAt view.1 0 (lba + i) view.2))
  | .get key keyLen _ =>
    let pg := s.bucketPg (s.bucketOf nsid key keyLen)
    match s.kvRead nsid pg key keyLen with
    | some v => (List.range v.chunks).flatMap (fun i => Leaf.page (s.leafAt (s.readView nsid).1 (pg + 1) (valueHandle v.valueId i) none))
    | none => []
  | _ => []

/-- This head drives the group of a channel (R11). -/
def State.drives (s : State) (chan : Nat) : Bool := s.aon.drivers.mem (chan / 8)

/-- The owner serves a read: at once, or, when members lie in groups it does not hold, once the partner's codewords have come
(R14), and not before recovery has served the set (R260). -/
def State.serveRead (s : State) (w : WaitRead) : State :=
  let o := match s.adm.nss.look w.nsid with | some n => n.oset | none => 0
  let recovering := match s.map.sets.look o with | some m => m.recovering | none => false
  let left := ((s.pagesOf w.nsid w.read).filter (fun p => !s.drives p.1 && !w.got.contains p)).dedup
  if recovering then { s with flc := { s.flc with reads := s.flc.reads ++ [{ w with left := [] }] } }
  else if left != [] then
    let s := left.foldl (fun s p => s.isend 3 (.mediaRead p.1 p.2.1 p.2.2)) s
    { s with flc := { s.flc with reads := s.flc.reads ++ [{ w with left := left }] } }
  else
    let a := s.readNow w.nsid w.read
    let span := match s.kvs.ns.look w.nsid with | some k => k.span | none => false
    let a := if w.short && span && a.status == STS_OK && a.data != [] then Answer.of STS_SPAN_SHORT else a
    s.answer w.src (if a.status = STS_OK ∧ !w.xferOk ∧ a.data != [] then Answer.of STS_HOST_XFER_FAIL else a)

/-- A read goes by the state of its set: the owner serves it; the other head forwards it (R15, R126), or ends it (Tables 05.6,
17.6). -/
def State.routeRead (s : State) (w : WaitRead) : State :=
  let st := s.setState (match s.adm.nss.look w.nsid with | some n => n.oset | none => 0)
  if st = setOwned then s.serveRead w
  else if st = setPartner then
    match w.src with
    | .partner _ _ _ => s.answer w.src (Answer.of STS_NOT_OWNER)
    | _ => s.forwardRead w.src w.nsid w.read
  else if st = setMoving then s.answer w.src (Answer.of STS_NOT_OWNER)
  else s.answer w.src (Answer.of STS_PATH_INACCESSIBLE)

/-- A read reaches a head: a pending deferred error is delivered in its place (R53).  `xferOk` is clear where the transfer of its data
to the host fails (R97); `short` marks too few members of a span (R347). -/
def State.readCmd (s : State) (src : Src) (nsid : Nat) (r : ReadOf) (xferOk short : Bool) : State :=
  match s.deferGate src nsid with
  | some s => s
  | none => s.routeRead { src := src, nsid := nsid, read := r, xferOk := xferOk, short := short, got := [], left := [] }

/-- The waiting reads that `p` names go on. -/
def State.resumeReads (s : State) (p : WaitRead → Bool) : State :=
  let go := s.flc.reads.filter p
  go.foldl State.routeRead { s with flc := { s.flc with reads := s.flc.reads.filter (fun w => !p w) } }

/-- The codeword of a media read has come back (R14): reads that waited for it go on with what they still need. -/
def State.mediaBack (s : State) (page : Nat × Nat × Nat) : State :=
  let mark (w : WaitRead) : WaitRead :=
    if w.left.contains page then { w with got := w.got ++ [page], left := w.left.filter (fun p => p != page) } else w
  let hit := s.flc.reads.any (fun w => w.left.contains page)
  if !hit then s
  else
    let s := { s with flc := { s.flc with reads := s.flc.reads.map mark } }
    s.resumeReads (fun w => w.left == [] && w.got.contains page)

/-- The PG of a write: of its first block, or of its key's bucket (R329). -/
def State.pgFor (s : State) (nsid lba key keyLen : Nat) : Nat :=
  if keyLen = 0 then
    match s.adm.nss.look nsid with
    | some n => if n.pgCount = 0 then n.pgFirst else n.pgFirst + Config.pgIndex nsid lba % n.pgCount
    | none => 0
  else s.bucketPg (s.bucketOf nsid key keyLen)

/-- A write of the partner's as this head carries it. -/
def State.fwdWrite (s : State) (tok : Nat) (k : WKind) (c : FwdCmd) : WriteOp :=
  { src := .partner tok c.window c.seq, kind := k, nsid := c.nsid
    tenant := (match s.adm.nss.look c.nsid with | some n => n.tenant | none => 0)
    lba := c.lba, blocks := c.blocks, key := c.key, keyLen := c.keyLen, valueLen := c.valueLen, data := c.data
    ifAbsent := c.ifAbsent, ifPresent := c.ifPresent, ifVersion := c.ifVersion, fua := c.fua, valueId := 0
    pg := s.pgFor c.nsid c.lba c.key c.keyLen
    reserve := 0, stage := .submitted, jseq := 0, stripe := 0, wseq := 0, tA := 0, epsA := Frac.zero, accepted := false
    programmed := false, synced := false, released := false, arrival := 0, span := s.spanPut k c.nsid }

/-- A forwarded command arrives at the owner (R126): a write waits for WRITE_ARRIVAL, a read is answered. -/
def State.forwardTake (s : State) (tok : Nat) (c : FwdCmd) : State :=
  match c.write with
  | some k => { s with ops := s.ops.put s.nextOp (s.fwdWrite tok k c), nextOp := s.nextOp + 1 }
  | none => s.readCmd (.partner tok c.window c.seq) c.nsid (FwdCmdRead c) true false

/-- The owner's answer to a forwarded command: this head completes the command to its host (R126). -/
def State.forwardAnswer (s : State) (tok : Nat) (a : Answer) : State :=
  match s.nvf.fwds.look tok with
  | none => s
  | some f =>
    let s := { s with nvf := { s.nvf with fwds := s.nvf.fwds.del tok } }
    let s := match f.op with
      | some o => (s.slotDone f.src a.status).dropOp o
      | none => s
    s.answer f.src a

/-- The partner's log holds an intent of a forwarded write whose slot it leaves in progress. -/
def State.intentHeld (s : State) (sl : Nat × Nat) : Bool :=
  s.mirrorLog.any (fun m => m.window == sl.1 && m.seq == sl.2 && (match m.body with | .intent _ _ _ => true | _ => false) &&
    !supersededIn s.mirrorLog m)

/-- Resolve one forwarded command at a link loss (R128, Table 05.7): the stored status, held, or STS_PATH_INACCESSIBLE. -/
def State.fwdResolve (s : State) (tok : Nat) (f : Fwd) : State :=
  match f.op with
  | none => s.forwardAnswer tok (Answer.of STS_PATH_INACCESSIBLE)
  | some o =>
    let sl := s.slotOf f.src
    match s.mirrorOutcome sl.1 sl.2 with
    | some st => s.forwardAnswer tok (Answer.of st)
    | none =>
      if s.intentHeld sl then
        { s.raise Fld.NVF_ERR_FWD_HELD with nvf := { s.nvf with fwds := s.nvf.fwds.put tok { f with held := true } } }
      else
        let s := { s with nvf := { s.nvf with fwds := s.nvf.fwds.del tok } }
        (s.dropOp o).endSrcFree f.src STS_PATH_INACCESSIBLE 0 0

/-- Every forwarded command in flight is resolved. -/
def State.fwdResolveAll (s : State) : State := s.nvf.fwds.foldl (fun s e => s.fwdResolve e.1 e.2) s

/-- The partner's writes that this head, as owner, has not accepted are discarded when the link fails before their mirror is
acknowledged (R127). -/
def State.fwdDiscard (s : State) : State :=
  (s.ops.filter (fun e => !e.2.accepted && (match e.2.src with | .partner _ _ _ => true | _ => false) &&
    (e.2.stage == .submitted || e.2.stage == .waiting || (e.2.stage == .direct &&
      (match s.recOf e.2.jseq with | some r => !r.mirrorOk | none => true))))).foldl
      (fun s e => ((s.unreserve e.2).endLive (fun _ r => r.orig == e.2.jseq && e.2.stage == .direct)).dropOp e.1) s

end Sys2Proof.Machine
end

