-- ==== Sys2Proof/Machine/Lost.lean ====
section
/-!
DEFINITION. What the head does when data is lost (R308, R309): leaf entries marked, the lost-extent list, records and deferred
errors.
-/
namespace Sys2Proof.Machine

open Sys2Proof

/-- A range of leaf entries of one namespace: NSID, first LADDR, count; in a key-value namespace the bucket with the key
that holds the value. -/
structure LostRange where
  nsid : Nat
  start : Nat
  count : Nat
  addr : Nat
  bucket : Nat
  key : Nat
  keyLen : Nat
deriving DecidableEq, Repr

/-- The tree a leaf key belongs to. -/
def leafTree (k : Nat) : Nat := k / 2 ^ 64 % 131072

/-- The key whose value a leaf entry of a PG's tree belongs to, by its VALUE_ID. -/
def State.keyOfLeaf (s : State) (k : Nat) : Option (Nat × Nat) :=
  (s.map.kv.find? (fun e => kvNs e.1 == leafNs k && kvPg e.1 + 1 == leafTree k &&
    e.2.any (fun v => v.valueId == k % 2 ^ 64 / 65536))).map (fun e => (kvBytes e.1, kvLen e.1))

/-- The range of one leaf entry. -/
def State.rangeOf (s : State) (k addr : Nat) : LostRange :=
  if leafTree k = 0 then
    { nsid := leafNs k, start := k % 2 ^ 64, count := 1, addr := addr, bucket := 0, key := 0, keyLen := 0 }
  else
    let q := (s.keyOfLeaf k).getD (0, 0)
    let b := s.bucketOf (leafNs k) q.1 q.2
    { nsid := leafNs k, start := b, count := 0, addr := addr, bucket := b, key := q.1, keyLen := q.2 }

/-- Join the ranges of leaf entries given in rising order: neighbours of one block namespace make one range, entries of one
bucket one entry (R308 step 4). -/
def joinRanges (l : List LostRange) : List LostRange :=
  (l.foldl (fun (a : List LostRange) r =>
    match a with
    | [] => [r]
    | x :: t =>
      if x.nsid = r.nsid ∧ x.keyLen = 0 ∧ r.keyLen = 0 ∧ x.start + x.count = r.start then
        { x with count := x.count + r.count } :: t
      else if r.keyLen ≠ 0 ∧ a.any (fun y => y.nsid == r.nsid && y.keyLen != 0 && y.bucket == r.bucket) = true then a
      else r :: a) []).reverse

/-- The lost-extent entries of ranges, their records of code 0x2004 and the deferred errors of every host that has the namespace
(R308 steps 4 and 5). -/
def State.reportRanges (s : State) (rs : List LostRange) : State :=
  rs.foldl (fun s r =>
    let e : LostExt := { nsid := r.nsid, start := r.start, count := r.count, addr := r.addr }
    let s := (s.lostAdd e).record Blk.STR 0x2004 r.nsid r.start r.count
    s.deferAll { cause := STS_LOST_EXTENT, overflow := false, nsid := r.nsid, slba := if r.keyLen = 0 then r.start else 0,
                 nlb := r.count, bucket := r.bucket, key := r.key, keyLen := r.keyLen, time := s.ctNs }) s

/-- The record of a lost stripe and what follows it (R308 steps 4 to 6). -/
def State.reportStripe (s : State) (stripe positions : Nat) (rs : List LostRange) : State :=
  let s := ((s.raise Fld.STR_ERR_STRIPE_LOST).wr Fld.STR_ERR_INFO_STRIPE_ID stripe).record Blk.STR 0x3001 stripe rs.length
    positions (s.rdb Fld.STR_CTRL_LOST_ALARM)
  s.reportRanges rs

/-- The leaf entries of KIND 1 that name a chunk, in rising order: leaf key and write sequence. -/
def State.namers (s : State) (addr : Nat) : List (Nat × Nat) :=
  s.map.leaves.flatMap (fun e => (e.2.filter (fun v => v.kind == 1 && v.addr == addr)).map (fun v => (e.1, v.wseq)))

/-- The MAPDELTA entries of R308 step 3 for the leaf entries, of those that name the chunks, which `ok` accepts; and the marking they
do by R256. -/
def State.markChunks (s : State) (addrs : List Nat) (ok : Nat → Nat → Bool) : State × List LostRange :=
  let marks := addrs.flatMap (fun a => ((s.namers a).filter (fun q => ok q.1 a)).map (fun q => (q.1, q.2, a)))
  if marks = [] then (s, [])
  else
    let pgOf (a : Nat) : Nat := match s.map.chunks.look a with
      | some c => c.pg
      | none => 0
    let ds : List Delta := marks.map (fun m =>
      { kind := if leafTree m.1 = 0 then 1 else 2, reloc := true, nsid := leafNs m.1, laddr := m.1 % 2 ^ 64, addr := 0, wseq := m.2.1,
        pg := if leafTree m.1 = 0 then pgOf m.2.2 else leafTree m.1 - 1 })
    let oset := match s.adm.nss.look (leafNs (marks.headD (0, 0, 0)).1) with
      | some n => n.oset
      | none => 0
    let keys : Assoc Nat := marks.foldl (fun (a : Assoc Nat) m => a.put m.1 m.2.2) []
    let rs := joinRanges (keys.map (fun e => s.rangeOf e.1 e.2))
    let s := s.issue (.mapDelta ds) (1 + ceilDiv ds.length 2) oset
    (marks.foldl (fun s m => s.markLost m.1 m.2.2) s, rs)

end Sys2Proof.Machine
end

