-- ==== Sys2Proof/Machine/Isl.lean ====
section
/-!
DEFINITION. ISL: the link to the partner, its drumbeats, and the catch-up of the mirrors (R185 to R190).
-/
namespace Sys2Proof.Machine

open Sys2Proof

/-- Quads in service. -/
def State.quadsUp (s : State) : Nat := ((List.range 4).filter (fun q => bitAt (s.rd Fld.ISL_STATUS_QUADS_UP) q)).length

/-- MIN_QUADS; 0 means 4 (R185). -/
def State.minQuads (s : State) : Nat :=
  if s.rd Fld.ISL_CFG_MIN_QUADS = 0 then 4 else s.rd Fld.ISL_CFG_MIN_QUADS

/-- The link state. -/
def State.islState (s : State) : Nat := s.rd Fld.ISL_STATUS_STATE

/-- `PJM_LAYOUT` as a drumbeat carries it. -/
def State.layout (s : State) : Nat := s.rd Fld.PJM_LAYOUT_LOG_MIB

/-- Training starts (R185): the link begins anew with sequence 0. -/
def State.trainStart (s : State) : State :=
  let s := (s.wr Fld.ISL_STATUS_STATE islTraining).wr Fld.ISL_STATUS_QUADS_UP 0
  { s with isl := { s.isl with txSeq := 0, rxExpect := 0, unacked := [] } }

/-- TRAINING_END: the attempt ends within 5 ms, with the link UP on the quads trained, or failed and the next begun. -/
def State.trainingEnd (s : State) (quads : Nat) : State :=
  if s.islState != islTraining || !s.rdb Fld.ISL_CTRL_ENABLE then s
  else
    let n := ((List.range 4).filter (fun q => bitAt quads q)).length
    if s.minQuads ≤ n then
      let s := (s.wr Fld.ISL_STATUS_STATE islUp).wr Fld.ISL_STATUS_QUADS_UP (quads % 16)
      { s with isl := { s.isl with lastFlit := s.now }
               pjm := { s.pjm with refuseMirror := s.pjm.refuseMirror && s.own.takeSent.isSome } }
    else s

/-- Both directions of the mirror are in service: so is the link. -/
def State.islService (s : State) : State :=
  if s.islState = islCatchup ∧ s.rdb Fld.PJM_STATUS_MIRROR_HELD = true ∧ s.rdb Fld.PJM_STATUS_MIRROR_IN = true then
    s.wr Fld.ISL_STATUS_STATE islInService else s

/-- The link goes down (R187): the partner's PJM is unreachable, writes without a mirror are cancelled or held, forwarded commands
are resolved (R127, R128), and training begins while ENABLE is 1. -/
def State.linkDown (s : State) : State :=
  let catching := s.islState = islCatchup
  let s := s.raise Fld.ISL_ERR_LINK_DOWN
  let s := if catching then s.raise Fld.ISL_ERR_CATCHUP_FAIL else s
  let s := ((s.wr Fld.PJM_STATUS_MIRROR_IN 0).wr Fld.PJM_STATUS_MIRROR_HELD 0).wr Fld.ISL_PEER_MIRROR_READY 0
  let s := { s with isl := { s.isl with staleWritten := false, catchupAsked := false, serving := false, copied := false,
                                        mirrorReady := false, unacked := [], peerLayout := none } }
  let s := if s.rdb Fld.ISL_CTRL_ENABLE then s.trainStart
    else (s.wr Fld.ISL_STATUS_STATE islDown).wr Fld.ISL_STATUS_QUADS_UP 0
  (s.partnerLost.fwdDiscard).fwdResolveAll

/-- Why a link goes down (R187). -/
def State.downCause (s : State) (cause : DownCause) : Bool :=
  match cause with
  | .silence => true
  | .resends => s.isl.unacked.any (fun e => decide (s.rd Fld.ISL_CFG_RETRY_MAX ≤ e.2))
  | .quads => decide (s.quadsUp < s.minQuads)

/-- ISL_LINK_DOWN: silence for DOWN_US, a flit resent RETRY_MAX times, or too few quads. -/
def State.islLinkDown (s : State) (cause : DownCause) : State :=
  if !s.linkUp || !s.downCause cause then s
  else
    match cause with
    | .silence => (s.advanceUs s.isl.lastFlit (s.rd Fld.ISL_CFG_DOWN_US)).linkDown
    | .resends => (s.raise Fld.ISL_ERR_RETRY_EXC).linkDown
    | .quads => s.linkDown

/-- ISL_LANE_FAIL: the lane's quad leaves service; below MIN_QUADS the link goes down. -/
def State.laneFail (s : State) (lane : Nat) : State :=
  let s := s.wr Fld.ISL_STATUS_QUADS_UP (clrBit (s.rd Fld.ISL_STATUS_QUADS_UP) (lane / 4 % 4))
  if s.linkUp && decide (s.quadsUp < s.minQuads) then s.linkDown else s

/-- ISL_ENABLE_CLEAR: a link that is up goes down at once on this head; one that is not stops training. -/
def State.islEnableClear (s : State) : State :=
  let up := s.linkUp
  let s := s.wr Fld.ISL_CTRL_ENABLE 0
  if up then s.linkDown else (s.wr Fld.ISL_STATUS_STATE islDown).wr Fld.ISL_STATUS_QUADS_UP 0

/-- Request the catch-up once both layouts are known to agree and the mirror's anchors are STALE (R189). -/
def State.askCatchup (s : State) : State :=
  match s.isl.peerLayout with
  | none => s
  | some l =>
    if l != s.layout then s.raise Fld.ISL_ERR_LAYOUT
    else if s.isl.staleWritten && !s.isl.catchupAsked && s.islState == islUp then
      let s := (s.wr Fld.ISL_STATUS_STATE islCatchup).isend 0 (.catchupRequest none)
      { s with isl := { s.isl with catchupAsked := true, copied := false } }
    else s

/-- Set STALE in the mirror's anchors of some channels. -/
def State.markAnchors (s : State) (cs : List Nat) (stale : Bool) : State :=
  { s with pjm := { s.pjm with mirrorAnchors := cs.foldl (fun t c =>
      t.put c { (t.getD c ⟨0, 0, 0, true⟩) with stale := stale }) s.pjm.mirrorAnchors } }

/-- ISL_LINK_UP: STALE is set in the mirror's anchors and persistent; a catch-up is requested once the layouts agree; a head on trial
sends its DEADLINE (R471). -/
def State.islLinkUp (s : State) : State :=
  if s.islState != islUp || s.isl.staleWritten then s
  else
    let s := s.markAnchors (List.range 8) true
    let s := if s.rdb Fld.FWU_STATUS_TRIAL then s.isend 0 (.trial (some (s.rd Fld.FWU_DEADLINE_NS))) else s
    ({ s with isl := { s.isl with staleWritten := true } }).askCatchup

/-- The catch-up has nothing left to do: the last copied record arrived, and every record of the mirror is persistent. -/
def State.caughtUp (s : State) : Bool := s.isl.copied && s.pjm.mirror.all (fun e => e.2.persistent)

/-- CATCHUP_END (R189, R190): the partner's anchors are written clear; the next drumbeat reports MIRROR_READY; the mirror of the
partner's log, and the channels repaired, are in service.  The hold-off of R388 starts; a trial image asks for its home objects at
once. -/
def State.catchupEnd (s : State) : State :=
  if !s.linkUp || !s.caughtUp then s
  else if s.isl.catchupAsked && !s.rdb Fld.PJM_STATUS_MIRROR_HELD then
    let s := s.markAnchors (List.range 8) false
    let s := { s with isl := { s.isl with mirrorReady := true } }
    let s := (s.wr Fld.PJM_STATUS_MIRROR_HELD 1).islService
    let s := { s with own := { s.own with returnFrom := some s.now } }
    if s.rdb Fld.FWU_STATUS_TRIAL then s.askReturn else s
  else
    let cs := s.pjm.repairing
    let s := s.markAnchors cs false
    let s := cs.foldl (fun s c => s.wr Fld.PJM_CH_STATUS_STATE chanInService c) s
    ({ s with pjm := { s.pjm with repairing := [] } }).releaseHeld

/-- Send a copy of a live record of the own log over VC 3. -/
def State.sendCopy (s : State) (j : Nat) (r : PjmRec) : State :=
  let s := s.isend 3 (.copyRecord j (s.mirrorOf r))
  { s with pjm := { s.pjm with recs := s.pjm.recs.put j { r with mirrorSent := true, acked := true } } }

/-- CATCHUP_REQUEST_RECEIVE (R189, R190): every live record of the own log, or of one channel of it, goes to the partner, then the
end of the copy. -/
def State.catchupServe (s : State) (chan : Option Nat) : State :=
  if !s.linkUp then s
  else
    let live := s.pjm.recs.filter (fun e => e.2.live && !e.2.held && (match chan with | some c => e.2.chan == c | none => true))
    let s := live.foldl (fun s e => s.sendCopy e.1 e.2) s
    ({ s with isl := { s.isl with serving := true } }).isend 0 .catchupEnd

/-! ## Drumbeats -/

/-- The 5 µs grid, ns. -/
abbrev gridNs : Nat := 5000

/-- The number of the first grid instant at or after now. -/
def State.gridUp (s : State) : Nat := (s.ct.div (Frac.int gridNs)).ceil.toNat

/-- This head's drumbeat now (Table 08.10). -/
def State.drumbeat (s : State) : Drumbeat :=
  { head := s.headId, dseq := s.isl.dseq, tSend := s.ctNs, eps := s.epsNs, chOk := s.chOk, mirrorReady := s.isl.mirrorReady,
    fenced := s.aon.fenced || s.rd Fld.OWN_STATUS_LEASE == leaseSelfFenced, layout := s.layout, fwGen := s.rd Fld.FWU_SLOT_INFO_FW_GEN (s.rd Fld.FWU_STATUS_SLOT),
    epoch := s.rd Fld.KVS_EPOCH_EPOCH }

/-- DRUMBEAT_SEND: at the next instant of the grid. -/
def State.drumbeatSend (s : State) : State :=
  if !s.linkUp then s
  else
    let g := max (s.gridUp) (s.isl.sentGrid + 1)
    let s := s.advanceCt (Frac.int ((g * gridNs : Nat) : Int))
    let s := { s with isl := { s.isl with sentGrid := g, dseq := (s.isl.dseq + 1) % 2 ^ 32 } }
    s.isend 0 (.drumbeat s.drumbeat)

/-- Writes held for the partner's mirror go on when it is in service again: the catch-up has delivered their mirrors (R187), and those of
the records it acknowledged meanwhile. -/
def State.mirrorBack (s : State) : State :=
  (s.pjm.recs.filter (fun e => e.2.live && e.2.acked && !e.2.mirrorOk)).foldl
    (fun s e => s.recUpdate e.1 (fun r => { r with mirrorOk := true, acked := false })) s

/-- Forwarded writes that were held are resolved by the mirror (R128). -/
def State.fwdResolveAllHeld (s : State) : State :=
  (s.nvf.fwds.filter (fun e => e.2.held)).foldl (fun s e => s.fwdResolve e.1 e.2) s

/-- The partner's report of its mirror of this head's log (R189).  A degraded head that took over hands back at once (R388). -/
def State.peerMirror (s : State) (ready : Bool) : State :=
  let was := s.rdb Fld.PJM_STATUS_MIRROR_IN
  let s := (s.wrb Fld.ISL_PEER_MIRROR_READY ready).wrb Fld.PJM_STATUS_MIRROR_IN ready
  if ready && !was then
    let s := ((s.mirrorBack).fwdResolveAllHeld).islService
    if s.degraded && s.aon.fenceOut then s.returnServe else s
  else if was && !ready then s.partnerLost else s

/-- The partner's channels in service (R190): own records whose mirror lay on a lost channel are copied forward, and records that
waited for a channel are written. -/
def State.peerChannels (s : State) (chOk : Nat) : State :=
  let was := s.rd Fld.ISL_PEER_CH_OK
  let s := s.wr Fld.ISL_PEER_CH_OK chOk
  let lost := (List.range 8).filter (fun c => bitAt was c && !bitAt chOk c)
  let js := (s.pjm.recs.filter (fun e => e.2.live && !e.2.held && lost.contains e.2.chan)).map (·.1)
  let s := js.foldl State.copyForward s
  if (List.range 8).any (fun c => !bitAt was c && bitAt chOk c) then s.releaseHeld else s

/-- DRUMBEAT_RECEIVE (R125, R175, R188, R333). -/
def State.drumbeatReceive (s : State) (d : Drumbeat) : State :=
  if !s.linkUp then s
  else
    let t := s.gridUp - 1
    let s := { s with isl := { s.isl with lastFlit := s.now, lastGrid := max s.isl.lastGrid t, missRun := 0
                                          peerLayout := some d.layout, peerFwGen := d.fwGen, peerEpoch := d.epoch
                                          peerEps := d.eps } }
    let s := s.noteEpoch d.epoch
    let was := s.rdb Fld.ISL_STATUS_SUSPECT
    let s := s.wr Fld.ISL_STATUS_SUSPECT 0
    let s := if was then s.anaNotices else s
    let s := ((s.wr Fld.ISL_PEER_HEAD d.head).wr Fld.ISL_PEER_DSEQ d.dseq).wrb Fld.ISL_PEER_FENCED d.fenced
    let s := s.wr Fld.FWU_STATUS_PARTNER_GEN (d.fwGen % 2 ^ 30)
    let s := if d.layout != s.layout then s.raise Fld.ISL_ERR_LAYOUT else s.askCatchup
    (s.peerChannels d.chOk).peerMirror (d.mirrorReady && d.layout == s.layout)

/-- DRUMBEAT_ABSENT: the drumbeat of the next grid instant has not come by 5 µs after it. -/
def State.drumbeatAbsent (s : State) : State :=
  if !s.rdb Fld.ISL_CTRL_ENABLE then s
  else
    let t := s.isl.lastGrid + 1
    let s := s.advanceCt (Frac.int (((t + 1) * gridNs : Nat) : Int))
    let n := s.isl.missRun + 1
    let s := { s with isl := { s.isl with lastGrid := t, missRun := n } }
    let s := s.bump Fld.ISL_DRUM_MISSED_COUNT
    if n = s.rd Fld.ISL_CFG_SUSPECT_MISS then
      ((s.wr Fld.ISL_STATUS_SUSPECT 1).raise Fld.ISL_ERR_SUSPECT).anaNotices
    else s

/-- ISL_ENABLE (R185, R443). -/
def State.islEnable (s : State) : State :=
  if s.rdb Fld.ISL_CTRL_ENABLE then s
  else
    let r := s.tryEnable Fld.ISL_CTRL_ENABLE
    if r.2 then r.1.trainStart else r.1

def execIslEnable (s : State) : Res := ended s.islEnable
def execIslTrainingEnd (quads : Nat) (s : State) : Res := ended (s.trainingEnd quads)
def execIslLaneFail (lane : Nat) (s : State) : Res := ended (s.laneFail lane)
def execIslLinkDown (cause : DownCause) (s : State) : Res := ended (s.islLinkDown cause)
def execIslEnableClear (s : State) : Res := ended s.islEnableClear
def execIslLinkUp (s : State) : Res := ended s.islLinkUp
def execCatchupEnd (s : State) : Res := ended s.catchupEnd
def execDrumbeatSend (s : State) : Res := ended s.drumbeatSend
def execDrumbeatReceive (d : Drumbeat) (s : State) : Res := ended (s.drumbeatReceive d)
def execDrumbeatAbsent (s : State) : Res := ended s.drumbeatAbsent
def execCatchupRequestReceive (chan : Option Nat) (s : State) : Res := ended (s.catchupServe chan)

end Sys2Proof.Machine
end

