-- ==== Sys2Proof/Machine/Own.lean ====
section
/-!
DEFINITION. OWN: leases, the innkeeper protocol on both sides of it, claims and the fence, takeover, handing over and drills
(R11, R12, R369 to R394).
-/
namespace Sys2Proof.Machine

open Sys2Proof

/-! ## Claims and the fence -/

/-- FENCE_IN_ASSERTED (R12, R383): every driver off, every claim deasserted; the bit of the fence sets. -/
def State.fenceAsserted (s : State) : State :=
  ({ s with aon := { s.aon.dropAll with fenceIn := true, fenced := true } }).raise Fld.OWN_ERR_FENCED

/-- FENCE_TEST_PULSE: a low pulse of this many ns.  Below 0.5 µs only FENCE_PULSE sets; from 0.5 µs to 1 µs it may act either
way. -/
def State.fencePulse (s : State) (ns : Nat) : State :=
  if ns < 500 then s.raise Fld.OWN_STATUS_FENCE_PULSE
  else if ns ≤ 1000 then
    let asFence := Config.freeBool s.free
    if asFence then
      { s.draw with aon := { s.aon.dropAll with fenced := true }, regs := (s.raise Fld.OWN_ERR_FENCED).regs }
    else s.draw.raise Fld.OWN_STATUS_FENCE_PULSE
  else s

/-- FENCE_IN_RELEASE: the head may claim again by its own firmware (R12). -/
def State.fenceReleased (s : State) : State := { s with aon := { s.aon with fenceIn := false } }

/-- A level of `ILK_CLAIM_IN[g]` is taken (R11, R382). -/
def State.claimSeen (s : State) (g : Nat) (on : Bool) : State :=
  let a := s.aon
  if on then
    State.claimConflict { s with aon := ({ a with claimIn := a.claimIn.insert g }).gate } g
  else
    let a := { a with claimIn := a.claimIn.remove g }
    let settle := if a.claimOut.mem g && !a.drivers.mem g then a.settle.put g s.now else a.settle
    { s with aon := { a with settle := settle } }

/-- CLAIM_IN_CHANGE: a level held for this many ns; below 100 ns it is ignored, from 150 ns it is taken, between them either
(Table 24.8). -/
def State.claimInChange (s : State) (g : Nat) (on : Bool) (heldNs : Nat) : State :=
  if 16 ≤ g ∨ heldNs < 100 then s
  else if 150 ≤ heldNs then s.claimSeen g on
  else if Config.freeBool s.free then s.draw.claimSeen g on else s.draw

/-- GROUP_SETTLE_EXPIRY: 2 µs after the partner's claim was last seen fall, or the own claim rose, the drivers enable while R11
holds. -/
def State.settleExpiry (s : State) (g : Nat) : State :=
  match s.aon.settle.look g with
  | none => s
  | some t =>
    let s := s.advance (t + settleTime)
    if s.aon.settle.has g && s.aon.mayDrive g then
      { s with aon := { s.aon with drivers := s.aon.drivers.insert g, settle := s.aon.settle.del g } }
    else s

/-- GROUP_CLAIM: of a group assigned here, under a HELD lease (R370, R380). -/
def State.groupClaim (s : State) (g : Nat) : State :=
  if s.leaseIsHeld && s.ownGroups.contains g && !s.own.releasing.mem g then s.claimGroup g else s

/-- A LUN of the group is erasing, or a stripe has a member of it to program: its operations have not ended (R381). -/
def State.groupBusy (s : State) (g : Nat) : Bool :=
  s.flc.luns.any (fun e => e.2.erasing && e.1 % 128 / 8 == g) ||
  s.str.stripes.any (fun e => (e.2.st == .opened || e.2.st == .sealed) &&
    e.2.members.any (fun m => !e.2.passed.mem m && !e.2.void.mem m && !e.2.failed.mem m &&
      (match s.str.bands.look (bandOf e.1) with
       | some b => (b.members.getD m 0) % 128 / 8 == g
       | none => false)))

/-- GROUP_RELEASE (R381): no new stripe opens on the group; once its operations have ended, the claim falls and the mask bit
clears.  A group being handed over then has its HANDOVER sent. -/
def State.groupRelease (s : State) (g : Nat) : State :=
  if !s.aon.claimMask.mem g && !s.own.handing.mem (2000 + g) then s
  else
    let s := { s with own := { s.own with releasing := s.own.releasing.insert g } }
    if s.groupBusy g then s
    else
      let s := s.dropGroup g
      if s.own.handing.head? = some (2000 + g) then s.handoverSend 1 g 1
      else { s with own := { s.own with releasing := s.own.releasing.remove g } }

/-! ## The requester's side -/

/-- OWN_ENABLE (R371, R443, R447); setting the bit that is already set ends a self-fence (Table 17.1). -/
def State.ownEnable (s : State) : State :=
  if s.rdb Fld.OWN_CTRL_ENABLE then (if s.rd Fld.OWN_STATUS_LEASE = leaseSelfFenced then s.acquireSend else s)
  else
    let r := s.tryEnable Fld.OWN_CTRL_ENABLE
    if r.2 then r.1.boundNow.acquireSend else r.1

/-- RENEW_SEND: at the next quarter of L, OWN's boundary, and RENEW to all three innkeepers (R371, R394). -/
def State.renewSend (s : State) : State :=
  if !s.leaseIsHeld || !s.rdb Fld.OWN_CTRL_ENABLE then s
  else
    let s := s.advanceCt (Frac.int (s.own.nextRenew : Nat))
    if !s.leaseIsHeld then s
    else
      let s := s.boundary Blk.OWN
      let m := s.ikMsg .renew
      let s := s.ikSendAll m
      { s with own := { s.own with nextRenew := m.tSend + s.leaseNs / 4 } }

/-- The freshness of R373 for a message of a peer at this head: above the last T_SEND accepted, no older than L/4, no further ahead
than 2ε. -/
def State.freshMsg (s : State) (last leaseNs tSend : Nat) : Bool :=
  decide (last < tSend) && (Frac.int (s.ctNs : Nat)).le (Frac.of ((4 * tSend + leaseNs : Nat) : Int) 4) &&
    decide (tSend ≤ s.ctNs + 2 * s.epsNs)

/-- Load of the hardware lease timer (R378): floor((E_h − now) × (1 − 50 × 10^-6) ÷ 40 ns) ticks of the reference. -/
def State.loadTimer (s : State) (expiry : Nat) : State :=
  let left := ((Frac.int (expiry : Nat)).sub s.ct).mul (Frac.of 999950 1000000)
  let ticks := ((left.div (Frac.int 40)).floor).toNat
  { s with aon := { s.aon with leaseEnd := some (s.now + ticks * refTick) } }

/-- A lease runs to T_SEND + L of a request: E_h never moves earlier (R371). -/
def State.leaseTo (s : State) (m : IkMsg) : State :=
  let e := max (s.rd Fld.OWN_EXPIRY_NS) (m.tSend + m.leaseUs * 1000)
  (s.wr Fld.OWN_EXPIRY_NS e).loadTimer e

/-- Innkeepers that granted a request, as the bits of IK_OK. -/
def OwnReq.okBits (r : OwnReq) : Nat := r.grants.foldl (fun a g => setBit a g.1) 0

/-- A majority: two distinct innkeepers, for TAKE and HANDOVER with one resulting AGEN (R371, R375); the LGEN and AGEN granted. -/
def OwnReq.majority (r : OwnReq) : Option (Nat × Nat) :=
  let same := r.msg.op == .take || r.msg.op == .handover
  (r.grants.find? (fun g => decide (2 ≤ (r.grants.filter (fun h => !same || h.2.2 == g.2.2)).length))).map
    (fun g => (r.grants.foldl (fun a h => max a h.2.1) 0, g.2.2))

/-- Held forwarded writes at a takeover (R128): resolved by their tags as R33 does, since this head now holds the group. -/
def State.fwdSettle (s : State) (whole : List Nat) : State :=
  s.nvf.fwds.foldl (fun s e =>
    match e.2.op with
    | none => s.fwdResolve e.1 e.2
    | some _ =>
      let sl := s.slotOf e.2.src
      let kept := s.mirrorLog.any (fun m => m.window == sl.1 && m.seq == sl.2 &&
        (match m.body with | .intent _ k _ => whole.contains k | _ => false))
      if kept && (s.mirrorOutcome sl.1 sl.2).isNone then s.forwardAnswer e.1 (Answer.of STS_OK)
      else
        let s := s.fwdResolve e.1 e.2
        if s.nvf.fwds.has e.1 then s.forwardAnswer e.1 (Answer.of STS_PATH_INACCESSIBLE) else s) s

/-- The partner's addresses are announced (R129). -/
def State.announceAddrs (s : State) : State :=
  ((s.listed Fld.NET_IP_CFG_VALID).filter (fun e => e.2 == 1 &&
    s.rd Fld.NET_IP_CFG_HOME_SIDE e.1 != s.aon.side.code)).foldl (fun s e => s.emit (.announce e.1)) s

/-- The takeover of R385 after the majority grant of a TAKE: the fence, every object, the claims of the groups newly assigned,
journal activation from the mirror index, the reports, and the announcements.  `whole`: stripes every member of which carries a
valid tag (R33). -/
def State.takeover (s : State) (m : IkMsg) (agen : Nat) (whole : List Nat) : State :=
  let side := s.aon.side
  let newSets := (s.own.sets.filter (fun e => e.2 != side)).map (·.1)
  let newGroups := (List.range 16).filter (fun g => s.own.groups.look g != some side)
  let s := { s with aon := { s.aon with fenceOut := true }
                    own := { s.own with sets := s.own.sets.mapVal (fun _ _ => side), takeSent := none, takeAgain := none
                                        groups := (List.range 16).foldl (fun t g => t.put g side) s.own.groups } }
  let s := ((s.wr Fld.OWN_AGEN_AGEN agen).keepMsg m).wr Fld.DDP_STATUS_HALVES 3
  let s := newGroups.foldl State.claimGroup s
  let s := (s.fwdSettle whole).partnerFenced
  let s := s.activateMirror (fun o => newSets.contains o) whole
  let s := newSets.foldl (fun s o => s.ownerEvents o s.headId) s.anaNotices
  let s := s.announceAddrs
  (s.bump Fld.OWN_STAT_TAKEOVER_COUNT).wr Fld.OWN_LAST_OUTAGE_US_US ((s.now - s.own.outageFrom) / unitsPerUs)

/-- A command of `OWN_CMD` ends. -/
def State.ownCmdEnd (s : State) (status : Nat) : State :=
  if s.rdb Fld.OWN_CMD_RESULT_BUSY then
    ((s.wr Fld.OWN_CMD_RESULT_BUSY 0).wr Fld.OWN_CMD_RESULT_DONE 1).wr Fld.OWN_CMD_RESULT_STATUS status
  else s

/-- The head has handed an object over: halves of the index follow the last set and group; with nothing left the command ends. -/
def State.handNext (s : State) (key : Nat) : State :=
  let left := s.own.handing.remove key
  let halves := left.filter (fun k => decide (4000 ≤ k))
  if left.all (fun k => decide (4000 ≤ k)) then
    let s := halves.foldl (fun s k =>
      (s.wr Fld.DDP_STATUS_HALVES (clrBit (s.rd Fld.DDP_STATUS_HALVES) (k - 4000))).isend 0
        (.handover 2 (k - 4000) (s.rd Fld.OWN_AGEN_AGEN))) s
    ({ s with own := { s.own with handing := [] } }).ownCmdEnd STS_OK
  else { s with own := { s.own with handing := left } }

/-- The majority grant of a HANDOVER (R387 steps 3 and 4): the object is the other side's, the partner is signalled, and the
writes held for a set are dropped (R187). -/
def State.handedOver (s : State) (m : IkMsg) (agen : Nat) : State :=
  let key := objKey m.kind m.objFirst 0
  let s := ((s.wr Fld.OWN_AGEN_AGEN agen).keepMsg m).assign key s.aon.side.other
  let s := { s with own := { s.own with moving := s.own.moving.remove m.objFirst
                                        releasing := if m.kind = 1 then s.own.releasing.remove m.objFirst else s.own.releasing } }
  let s := s.isend 0 (.handover m.kind m.objFirst agen)
  let s := if m.kind = 0 then ((s.dropHeld m.objFirst).anaNotices).ownerEvents m.objFirst s.partnerId else s
  s.handNext key

/-- What a majority brings (R371, R375, R378, R385, R387). -/
def State.requestGranted (s : State) (r : OwnReq) (lgen agen : Nat) (whole : List Nat) : State :=
  match r.msg.op with
  | .renew => if s.leaseIsHeld then (s.leaseTo r.msg).wr Fld.OWN_STATUS_IK_OK r.okBits else s
  | .acquire =>
    if s.rd Fld.OWN_STATUS_LEASE != leaseAcquiring then s
    else
      let s := ((s.wr Fld.OWN_STATUS_LEASE leaseHeld).wr Fld.OWN_LGEN_LGEN lgen).leaseTo r.msg
      ({ s with own := { s.own with nextRenew := r.msg.tSend + r.msg.leaseUs * 250 } }).anaNotices
  | .take => if s.own.takeSent = some r.msg.tSend ∧ s.leaseIsHeld = true then s.takeover r.msg agen whole else s
  | .handover => s.handedOver r.msg agen
  | _ => s

/-- Two innkeepers have refused a request. -/
def State.requestRefused (s : State) (r : OwnReq) (m : IkMsg) : State :=
  match r.msg.op with
  | .take =>
    if m.status = STS_LEASE_HELD then
      let s := s.raise Fld.OWN_ERR_TAKE_REFUSED
      ({ s with own := { s.own with takeSent := none, takeAgain := some m.word }
                pjm := { s.pjm with refuseMirror := false } }).anaNotices
    else { s with own := { s.own with takeSent := none }, pjm := { s.pjm with refuseMirror := false } }
  | .handover =>
    let key := objKey r.msg.kind r.msg.objFirst 0
    let s := { s with own := { s.own with moving := s.own.moving.remove r.msg.objFirst, handing := s.own.handing.remove key
                                          releasing := s.own.releasing.remove r.msg.objFirst } }
    let s := if r.msg.kind = 1 then s.groupClaim r.msg.objFirst else s
    s.ownCmdEnd m.status
  | _ => s

/-- An innkeeper whose record is behind gets the kept HANDOVER and TAKE messages of the missing values of AGEN, in order, then a
RENEW (R375). -/
def State.bringUp (s : State) (innkeeper agen : Nat) : State :=
  let due := s.own.kept.filter (fun m => decide (agen ≤ m.agen)) ++ [s.ikMsg .renew]
  due.foldl (fun s m =>
    let m := { m with tSend := (s.ikMsg m.op).tSend, epsNs := s.epsNs }
    { s.emit (.ik innkeeper m) with own := { s.own with lastSend := m.tSend } }) s

/-- The assignment that two RECORD replies give (R375): the bits of the one of higher AGEN; a record of AGEN 0 leaves the home
sides (R369, R376). -/
def State.learnRecord (s : State) (kind first agen bits : Nat) : State :=
  if agen < s.rd Fld.OWN_AGEN_AGEN then s
  else
    let s := s.wr Fld.OWN_AGEN_AGEN agen
    let last := if kind = 0 then 1025 else 16
    let s := (List.range 64).foldl (fun s j =>
      if first + j < last then
        let home := if kind = 0 then s.homeOf (first + j) else s.groupHome (first + j)
        s.assign (objKey kind first j) (if agen = 0 then home else if bitAt bits j then .b else .a)
      else s) s
    if kind = 1 then
      let own := s.ownGroups
      let mine := own.any (fun g => s.groupHome g == s.aon.side)
      let all := (List.range 16).all (fun g => own.contains g)
      let c := s.aon.side.code
      s.wr Fld.DDP_STATUS_HALVES (if all then 3 else if mine then 2 ^ c else 0)
    else s

/-- A RECORD reply to a QUERY. -/
def State.recordReply (s : State) (r : OwnReq) (i : Nat) (m : IkMsg) : State :=
  let rs := r.records.filter (fun e => e.1 != i) ++ [(i, m.agen, m.objFirst, m.word)]
  let r' := { r with records := rs, done := decide (2 ≤ rs.length) }
  let s := { s with own := { s.own with reqs := s.own.reqs.put r.msg.tSend r' } }
  if r.done || rs.length < 2 then s
  else
    let best := rs.foldl (fun (a : Nat × Nat) e => if a.1 ≤ e.2.1 then (e.2.1, e.2.2.2) else a) (0, m.word)
    s.learnRecord r.msg.kind r.msg.objFirst best.1 best.2

/-- How long a request may still be answered, ns: L, and 2 L for a TAKE, which an innkeeper holds until the other side's lease has
expired (R374, R375). -/
def OwnReq.life (r : OwnReq) : Nat := if r.msg.op == .take then r.msg.leaseUs * 2000 else r.msg.leaseUs * 1000

/-- A fresh reply of innkeeper `i` to a request in flight. -/
def State.replyTo (s : State) (r : OwnReq) (i : Nat) (m : IkMsg) (whole : List Nat) : State :=
  if r.msg.tSend + OwnReq.life r ≤ s.ctNs then s
  else
    match m.op with
    | .grant =>
      let r1 := { r with grants := r.grants.filter (fun g => g.1 != i) ++ [(i, m.lgen, m.agen)] }
      let keep (s : State) (r : OwnReq) : State := { s with own := { s.own with reqs := s.own.reqs.put r.msg.tSend r } }
      if r.done then
        let s := keep s r1
        if r.msg.op == .renew then s.wr Fld.OWN_STATUS_IK_OK (OwnReq.okBits r1) else s
      else
        match OwnReq.majority r1 with
        | some (lgen, agen) => (keep s { r1 with done := true }).requestGranted r1 lgen agen whole
        | none => keep s r1
    | .refuse =>
      let s := if m.status = STS_LEASE_STALE ∧ m.agen < s.rd Fld.OWN_AGEN_AGEN then s.bringUp (s.ikId i) m.agen else s
      let r1 := { r with refused := r.refused.insert i }
      let fin := !r.done && r1.refused.length == 2
      let s := { s with own := { s.own with reqs := s.own.reqs.put r.msg.tSend { r1 with done := r.done || fin } } }
      if fin then s.requestRefused r1 m else s
    | .record => s.recordReply r i m
    | _ => s

/-- The round trip of a reply (`OWN_RTT`): the longest of the last second; that of a TAKE, which may be held, aside. -/
def State.noteRtt (s : State) (m : IkMsg) : State :=
  let rtt := s.ctNs - m.reqT
  let rs := (s.now, rtt) :: s.own.rtts.filter (fun e => decide (s.now < e.1 + 1000000 * unitsPerUs))
  ({ s with own := { s.own with rtts := rs } }).wr Fld.OWN_RTT_NS (rs.foldl (fun (a : Nat) (e : Nat × Nat) => max a e.2) 0)

/-- INNKEEPER_REPLY (R373, R375). -/
def State.innkeeperReply (s : State) (m : IkMsg) (whole : List Nat) : State :=
  match s.ikIndex m.sender with
  | none => if m.tagOk then s else { s.raise Fld.OWN_ERR_MAC_FAIL with own := { s.own with macFails := s.own.macFails + 1 } }
  | some i =>
    if !m.tagOk then
      ({ s.raise Fld.OWN_ERR_MAC_FAIL with own := { s.own with macFails := s.own.macFails + 1 } }).wr Fld.OWN_ERR_INFO_INNKEEPER i
    else if m.array != s.arrayId || !s.freshMsg (s.own.fromIk.getD i 0) s.leaseNs m.tSend then s
    else
      let s := { s with own := { s.own with fromIk := s.own.fromIk.put i m.tSend } }
      match s.own.reqs.look m.reqT with
      | none => s
      | some r => (if r.msg.op == .take then s else s.noteRtt m).replyTo r i m whole

/-- Renewals each innkeeper has missed in a row; the second sets IK_LOST (R375). -/
def State.countMisses (s : State) (r : OwnReq) : State :=
  [0, 1, 2].foldl (fun s i =>
    let answered := r.grants.any (fun g => g.1 == i) || r.refused.mem i
    let n := if answered then 0 else s.own.ikMiss.getD i 0 + 1
    let s := { s with own := { s.own with ikMiss := s.own.ikMiss.put i n } }
    if n = 2 then (s.raise Fld.OWN_ERR_IK_LOST).wr Fld.OWN_ERR_INFO_INNKEEPER i else s) s

/-- REQUEST_ABANDON: the request of this T_SEND is over at the end of its time; one without a majority is abandoned (R371,
R375). -/
def State.requestAbandon (s : State) (tSend : Nat) : State :=
  match s.own.reqs.look tSend with
  | none => s
  | some r =>
    let s := s.advanceCt (Frac.int ((tSend + OwnReq.life r : Nat) : Int))
    let s := { s with own := { s.own with reqs := s.own.reqs.del tSend } }
    match r.msg.op with
    | .renew =>
      let s := (s.countMisses r).wr Fld.OWN_STATUS_IK_OK (OwnReq.okBits r)
      if r.done && (OwnReq.majority r).isSome then s else s.raise Fld.OWN_ERR_RENEW_FAIL
    | .acquire => if !r.done && s.rd Fld.OWN_STATUS_LEASE == leaseAcquiring && s.rdb Fld.OWN_CTRL_ENABLE then s.acquireSend else s
    | .take =>
      if s.own.takeSent = some tSend then
        { s with own := { s.own with takeSent := none }, pjm := { s.pjm with refuseMirror := false } }
      else s
    | _ => s

/-- LEASE_TIMER_EXPIRY: local time passes to the end of the hardware lease timer, which reaches zero (R378). -/
def State.leaseExpiry (s : State) : State :=
  match s.aon.leaseEnd with
  | some e => s.advance (max e s.now)
  | none => s

/-- TAKE_SEND (R379, R384): under a HELD lease, on suspicion with the link down, on a drumbeat with FENCED, or at the EXP a
refusal carried. -/
def State.takeSend (s : State) : State :=
  let onSuspect := s.rdb Fld.ISL_STATUS_SUSPECT && !s.linkUp
  let due := onSuspect || s.rdb Fld.ISL_PEER_FENCED
  if !s.rdb Fld.OWN_CTRL_TAKE_EN || !s.leaseIsHeld || s.own.takeSent.isSome || !due || s.own.sets.all (fun (e : Nat × Side) => e.2 == s.aon.side) &&
      (List.range 16).all (fun g => s.own.groups.look g == some s.aon.side) then s
  else
    let s := match s.own.takeAgain with
      | some t => s.advanceCt (Frac.int (t : Nat))
      | none => s
    if !s.leaseIsHeld then s
    else
      let first := s.own.takeAgain.isNone
      let m := { s.ikMsg .take with side := s.aon.side }
      let s := s.ikSendAll m
      ({ s with own := { s.own with takeSent := some m.tSend, takeAgain := none, outageFrom := if first then s.now else s.own.outageFrom }
                pjm := { s.pjm with refuseMirror := true } }).anaNotices

/-! ## Handing over -/

/-- Nothing of a set is still on its way (R387 step 2): every command past R37 is accepted or refused, and every record of the
set has its mirror acknowledged. -/
def State.drained (s : State) (o : Nat) : Bool :=
  s.ops.all (fun e => !((s.nsOf e.2).oset == o) || e.2.accepted || e.2.arrival == 0) &&
  s.pjm.recs.all (fun e => !(e.2.oset == o && e.2.live) || e.2.mirrorOk || !s.partnerPjm)

/-- HANDOVER_SET: the set goes to MOVING; once drained its HANDOVER is sent. -/
def State.handoverSet (s : State) (o : Nat) : State :=
  let mine := s.leaseIsHeld && s.own.sets.look o == some s.aon.side
  let sent := s.own.reqs.any (fun e => !e.2.done && e.2.msg.op == .handover && e.2.msg.kind == 0 && e.2.msg.objFirst == o)
  if !mine || s.own.handing.head? != some o || sent then s
  else
    let s := if s.own.moving.mem o then s else ({ s with own := { s.own with moving := s.own.moving.insert o } }).anaNotices
    if s.drained o then s.handoverSend 0 o 1 else s

/-- HANDOVER_SIGNAL_RECEIVE: the object is this head's now: a set is activated from the mirror index, a group is claimed, a half of
the index served (R199, R387). -/
def State.handoverReceive (s : State) (kind object agen : Nat) (whole : List Nat) : State :=
  if !s.linkUp || !s.leaseIsHeld then s
  else if kind = 2 then s.wr Fld.DDP_STATUS_HALVES (setBit (s.rd Fld.DDP_STATUS_HALVES) object)
  else
    let s := (s.wr Fld.OWN_AGEN_AGEN (max (s.rd Fld.OWN_AGEN_AGEN) agen)).assign (objKey kind object 0) s.aon.side
    if kind = 0 then ((s.activateMirror (fun o => o == object) whole).anaNotices).ownerEvents object s.headId
    else s.claimGroup object

/-- RETURN_HOLD_EXPIRY (R388). -/
def State.returnHold (s : State) : State :=
  match s.own.returnFrom with
  | some t =>
    if s.rdb Fld.OWN_CTRL_RETURN_EN && s.rdb Fld.PJM_STATUS_MIRROR_HELD && s.leaseIsHeld then
      (s.advance (t + s.rd Fld.OWN_LEASE_RETURN_HOLD_S * 1000000 * unitsPerUs)).askReturn
    else s
  | none => s

/-- RETURN_REQUEST_RECEIVE (R388). -/
def State.returnReceive (s : State) : State := if s.linkUp then s.returnServe else s

/-! ## Drills -/

/-- Why a drill of group g by the side that holds it is skipped (R390). -/
def State.drillSkips (s : State) (h : Side) (partnerHeld partnerDegraded : Bool) : Bool :=
  let held := ((List.range 16).filter (fun g => s.own.groups.look g == some h)).length
  !partnerHeld || s.islState != islInService || s.ownershipMoving || s.degraded || partnerDegraded ||
    s.pgs.any (fun e => e.2.home == h && decide (8 * (held - 1) < e.2.d + e.2.p))

/-- The outcome of a drill in `OWN_DRILL_STATUS`. -/
def State.drillStatus (s : State) (g result step : Nat) : State :=
  ((s.wr Fld.OWN_DRILL_STATUS_GROUP g).wr Fld.OWN_DRILL_STATUS_RESULT result).wr Fld.OWN_DRILL_STATUS_STEP step

/-- A drill of group g (R389): `fail` is the step of R389 that fails, 0 when none does.  The group is handed to the partner side
and back, so that the holder ends with its claim asserted again; each handover counts one AGEN. -/
def State.drillRun (s : State) (g fail : Nat) : State :=
  let h := s.own.groups.look g
  let holder := h == some s.aon.side
  let reached (k : Nat) : Bool := fail = 0 || decide (k ≤ fail)
  let s := if holder then (s.dropGroup g).handoverSend 1 g 1 else s
  let s := if !holder && reached 2 then s.claimGroup g else s
  let s := if !holder && reached 3 then (List.range 8).foldl (fun s i => s.emit (.train (8 * g + i) (s.rd Fld.FLC_IF_CFG_RATE))) s else s
  let s := if reached 4 then s.emit (.fencePulse 200) else s
  let s := if fail = 0 || fail = 5 then s.raise Fld.OWN_STATUS_FENCE_PULSE else s
  let s := if !holder then s.dropGroup g else s
  let s := if !holder && reached 2 then s.handoverSend 1 g 1 else s
  let s := if reached 2 then s.wr Fld.OWN_AGEN_AGEN (s.rd Fld.OWN_AGEN_AGEN + 2) else s
  let s := if holder then s.claimGroup g else s
  if fail = 0 then (s.drillStatus g 1 0).bump Fld.OWN_DRILL_STATUS_PASSES
  else
    let s := (s.drillStatus g 2 fail).raise Fld.OWN_ERR_DRILL_FAIL
    s.record Blk.OWN 0x2002 g fail 0 (s.rdb Fld.OWN_CTRL_DRILL_ALARM)

/-- Run a drill of group g, or skip it (R390). -/
def State.drill (s : State) (g fail : Nat) (partnerHeld partnerDegraded : Bool) : State :=
  match s.own.groups.look g with
  | none => s
  | some h =>
    if s.drillSkips h partnerHeld partnerDegraded then (s.drillStatus g 3 0).raise Fld.OWN_ERR_DRILL_SKIPPED
    else s.drillRun g (if fail ≤ 5 then fail else 5)

/-- OWNERSHIP_DRILL: the group of the day (R389). -/
def State.dailyDrill (s : State) (fail : Nat) (partnerHeld partnerDegraded : Bool) : State :=
  if s.rdb Fld.OWN_DRILL_EN then s.drill (s.ctNs / 86400000000000 % 16) fail partnerHeld partnerDegraded else s

/-! ## Commands of `OWN_CMD` -/

/-- A command starts, unless one is in progress (R394). -/
def State.ownCmd (s : State) (run : State → State) : State :=
  if s.rdb Fld.OWN_CMD_RESULT_BUSY then s
  else
    let s := (s.wr Fld.OWN_CMD_RESULT_BUSY 1).wr Fld.OWN_CMD_RESULT_DONE 0
    run s

/-- Hand objects over; with nothing to hand over the command ends, one that names an object not held here with STS_LEASE_STALE. -/
def State.ownCmdHand (s : State) (objs : List Nat) (named : Bool) : State :=
  s.ownCmd (fun s => if objs = [] ∨ s.leaseIsHeld = false then s.ownCmdEnd (if named || !s.leaseIsHeld then STS_LEASE_STALE else STS_OK)
    else s.queueHand objs)

/-! ## The innkeeper's side -/

/-- An empty record. -/
def IkRecord.empty : IkRecord := { leaseA := none, leaseB := none, agen := 0, holders := [], heldTake := none }

/-- A side's lease. -/
def IkRecord.lease (r : IkRecord) (d : Side) : Option IkLease := match d with | .a => r.leaseA | .b => r.leaseB

/-- The record with a side's lease set. -/
def IkRecord.setLease (r : IkRecord) (d : Side) (l : IkLease) : IkRecord :=
  match d with
  | .a => { r with leaseA := some l }
  | .b => { r with leaseB := some l }

/-- An array's entry of `OWN_IK_ARRAY`. -/
def State.servesArray (s : State) (a : Nat) : Bool :=
  s.rdb Fld.OWN_IK_CFG_ENABLE &&
    (s.listed Fld.OWN_IK_ARRAY_VALID).any (fun e => e.2 == 1 && s.rd Fld.OWN_IK_ARRAY_ARRAY e.1 == a)

/-- An array's record. -/
def State.ikRecord (s : State) (a : Nat) : IkRecord := s.own.ikRecords.getD a IkRecord.empty

/-- Replace an array's record. -/
def State.setIkRecord (s : State) (a : Nat) (r : IkRecord) : State :=
  { s with own := { s.own with ikRecords := s.own.ikRecords.put a r } }

/-- A lease is not expired: cluster time is not past its EXP (R374). -/
def State.ikRuns (s : State) (l : Option IkLease) : Bool :=
  match l with
  | some x => decide (s.ctNs ≤ x.exp)
  | none => false

/-- Send a reply to a request. -/
def State.ikReply (s : State) (m : IkMsg) (op : IkOp) (status word : Nat) : State :=
  let r := s.ikRecord m.array
  let t := max s.ctNs (s.own.lastSend + 1)
  let lgen := match r.lease m.side with
    | some l => l.lgen
    | none => 0
  let a : IkMsg := { m with op := op, sender := s.headId, tSend := t, reqT := m.tSend, epsNs := s.epsNs, leaseUs := 0,
                            word := word, lgen := lgen, agen := r.agen, status := status, tagOk := true }
  { s.emit (.ik m.sender a) with own := { s.own with lastSend := t } }

/-- EXP of a grant: T_SEND + L + G (R370, R374). -/
def State.ikExp (s : State) (m : IkMsg) : Nat := m.tSend + m.leaseUs * 1000 + guardNs m.epsNs s.epsNs

/-- A request to an innkeeper that passes the tests of R373 and R376 is judged by `f`. -/
def State.ikJudge (s : State) (op : IkOp) (m : IkMsg) (f : State → State) : State :=
  if m.op != op || !s.servesArray m.array then s
  else if !m.tagOk then { s.raise Fld.OWN_ERR_MAC_FAIL with own := { s.own with macFails := s.own.macFails + 1 } }
  else
    let k := m.array * 65536 + m.sender
    if !s.freshMsg (s.own.ikLast.getD k 0) (m.leaseUs * 1000) m.tSend then s.ikReply m .refuse STS_LEASE_STALE 0
    else
      let s := { s with own := { s.own with ikLast := s.own.ikLast.put k m.tSend } }
      if s.own.ikRecovering.isSome then s.ikReply m .refuse STS_IK_RECOVERING 0 else f s

/-- IK_RENEW (Table 17.4, R376): an empty side record takes LGEN and AGEN from the request; a held TAKE of the other side is
refused with the new EXP. -/
def State.ikRenew (s : State) (m : IkMsg) : State :=
  s.ikJudge .renew m (fun s =>
    let r := s.ikRecord m.array
    let l := r.lease m.side
    let ok := match l with
      | some x => s.ikRuns l && x.lgen == m.lgen && r.agen == m.agen
      | none => true
    if !ok then s.ikReply m .refuse STS_LEASE_STALE 0
    else
      let e := s.ikExp m
      let agen := if l.isNone then m.agen else r.agen
      let s := s.setIkRecord m.array { (r.setLease m.side ⟨e, m.lgen⟩) with agen := agen }
      let s := s.ikReply m .grant STS_OK 0
      match r.heldTake with
      | some t =>
        if t.side = m.side.other then
          let q := s.ikRecord m.array
          (s.setIkRecord m.array { q with heldTake := none }).ikReply t .refuse STS_LEASE_HELD e
        else s
      | none => s)

/-- IK_ACQUIRE (Table 17.4). -/
def State.ikAcquire (s : State) (m : IkMsg) : State :=
  s.ikJudge .acquire m (fun s =>
    let r := s.ikRecord m.array
    let l := r.lease m.side
    match l with
    | some x =>
      if s.ikRuns l then s.ikReply m .refuse STS_LEASE_HELD x.exp
      else (s.setIkRecord m.array (r.setLease m.side ⟨s.ikExp m, x.lgen + 1⟩)).ikReply m .grant STS_OK 0
    | none => (s.setIkRecord m.array (r.setLease m.side ⟨s.ikExp m, m.lgen + 1⟩)).ikReply m .grant STS_OK 0)

/-- The grant of a TAKE: every holder bit is the requester's side, AGEN + 1. -/
def State.ikGrantTake (s : State) (m : IkMsg) : State :=
  let r := s.ikRecord m.array
  let objs := (List.range 1024).map (· + 1) ++ (List.range 16).map (· + 2000)
  (s.setIkRecord m.array { r with agen := r.agen + 1, heldTake := none, holders := objs.map (fun o => (o, m.side)) }).ikReply m
    .grant STS_OK 0

/-- IK_TAKE (Table 17.4): granted, held while the other side's EXP has not passed, or refused. -/
def State.ikTake (s : State) (m : IkMsg) : State :=
  s.ikJudge .take m (fun s =>
    let r := s.ikRecord m.array
    if !s.ikRuns (r.lease m.side) || r.agen != m.agen then s.ikReply m .refuse STS_LEASE_STALE 0
    else if s.ikRuns (r.lease m.side.other) then s.setIkRecord m.array { r with heldTake := some m }
    else s.ikGrantTake m)

/-- IK_HANDOVER (Table 17.4).  A holder bit still unknown stands for the requester's side. -/
def State.ikHandover (s : State) (m : IkMsg) : State :=
  s.ikJudge .handover m (fun s =>
    let r := s.ikRecord m.array
    let objs := (List.range m.objCount).map (objKey m.kind m.objFirst)
    if s.ikRuns (r.lease m.side) && r.agen == m.agen && objs.all (fun o => r.holders.getD o m.side == m.side) then
      (s.setIkRecord m.array { r with agen := r.agen + 1
                                      holders := objs.foldl (fun t o => t.put o m.side.other) r.holders }).ikReply m .grant STS_OK 0
    else s.ikReply m .refuse STS_LEASE_STALE 0)

/-- The 64 holder bits of a RECORD; a bit still unknown is a free value. -/
def State.holderBits (s : State) (r : IkRecord) (m : IkMsg) : Nat :=
  (List.range 64).foldl (fun a j =>
    match r.holders.look (objKey m.kind m.objFirst j) with
    | some .b => a + 2 ^ j
    | some .a => a
    | none => if Config.freeBool (s.free + j) then a + 2 ^ j else a) 0

/-- IK_QUERY (Table 17.4). -/
def State.ikQuery (s : State) (m : IkMsg) : State :=
  s.ikJudge .query m (fun s =>
    ({ s with free := s.free + 64 }).ikReply m .record STS_OK (s.holderBits (s.ikRecord m.array) m))

/-- IK_HELD_TAKE_EXPIRY: in the engine cycle after the other side's EXP passes, the held TAKE is granted, or refused against the
record as it then stands. -/
def State.ikHeldExpiry (s : State) (array : Nat) : State :=
  let r := s.ikRecord array
  match r.heldTake with
  | none => s
  | some m =>
    let e := match r.lease m.side.other with
      | some l => l.exp
      | none => 0
    let s := s.advanceCt (Frac.int ((e + 1 : Nat) : Int))
    let s := s.advance (s.now + s.cycle)
    if r.agen = m.agen then s.ikGrantTake m
    else (s.setIkRecord array { r with heldTake := none }).ikReply m .refuse STS_LEASE_STALE 0

/-- The restart wait of an innkeeper that has lost its records (R376): 20.1 ms. -/
def State.ikRestart (s : State) : State :=
  { s with own := { s.own with ikRecords := [], ikRecovering := some (s.now + 20100 * unitsPerUs) } }

/-- IK_RECOVERY_END. -/
def State.ikRecoveryEnd (s : State) : State :=
  match s.own.ikRecovering with
  | some t => let s := s.advance t
              { s with own := { s.own with ikRecords := [], ikRecovering := none } }
  | none => s

/-! ## Commands -/

def execFenceInAsserted (s : State) : Res := ended s.fenceAsserted
def execFenceTestPulse (ns : Nat) (s : State) : Res := ended (s.fencePulse ns)
def execFenceInRelease (s : State) : Res := ended s.fenceReleased
def execClaimInChange (group : Nat) (claimed : Bool) (heldNs : Nat) (s : State) : Res := ended (s.claimInChange group claimed heldNs)
def execGroupSettleExpiry (group : Nat) (s : State) : Res := ended (s.settleExpiry group)
def execOwnEnable (s : State) : Res := ended s.ownEnable
def execRenewSend (s : State) : Res := ended s.renewSend
def execInnkeeperReply (m : IkMsg) (whole : List Nat) (s : State) : Res := ended (s.innkeeperReply m whole)
def execRequestAbandon (tSend : Nat) (s : State) : Res := ended (s.requestAbandon tSend)
def execLeaseTimerExpiry (s : State) : Res := ended s.leaseExpiry
def execIkRenew (m : IkMsg) (s : State) : Res := ended (s.ikRenew m)
def execIkAcquire (m : IkMsg) (s : State) : Res := ended (s.ikAcquire m)
def execIkTake (m : IkMsg) (s : State) : Res := ended (s.ikTake m)
def execIkHandover (m : IkMsg) (s : State) : Res := ended (s.ikHandover m)
def execIkQuery (m : IkMsg) (s : State) : Res := ended (s.ikQuery m)
def execIkHeldTakeExpiry (array : Nat) (s : State) : Res := ended (s.ikHeldExpiry array)
def execIkRecoveryEnd (s : State) : Res := ended s.ikRecoveryEnd
def execTakeSend (s : State) : Res := ended s.takeSend
def execGroupClaim (group : Nat) (s : State) : Res := ended (s.groupClaim group)
def execGroupRelease (group : Nat) (s : State) : Res := ended (s.groupRelease group)
def execHandoverSet (oset : Nat) (s : State) : Res := ended (s.handoverSet oset)
def execHandoverSignalReceive (kind object agen : Nat) (whole : List Nat) (s : State) : Res :=
  ended (s.handoverReceive kind object agen whole)
def execReturnHoldExpiry (s : State) : Res := ended s.returnHold
def execReturnRequestReceive (s : State) : Res := ended s.returnReceive
def execOwnershipDrill (failStep : Nat) (partnerHeld partnerDegraded : Bool) (s : State) : Res :=
  ended (s.dailyDrill failStep partnerHeld partnerDegraded)
def execOwnHandOverAll (s : State) : Res := ended (s.ownCmdHand s.allHeld false)
def execOwnAskReturn (s : State) : Res := ended (s.ownCmd (fun s => s.askReturn.ownCmdEnd STS_OK))
def execOwnHandOverOset (oset : Nat) (s : State) : Res := ended (s.ownCmdHand (s.ownSets.filter (fun o => o == oset)) true)
def execOwnHandOverGroup (group : Nat) (s : State) : Res :=
  ended (s.ownCmdHand ((s.ownGroups.filter (fun g => g == group)).map (2000 + ·)) true)
def execOwnDrillNow (group failStep : Nat) (partnerHeld partnerDegraded : Bool) (s : State) : Res :=
  ended (s.ownCmd (fun s => (s.drill group failStep partnerHeld partnerDegraded).ownCmdEnd STS_OK))

end Sys2Proof.Machine
end

