-- ==== Sys2Proof/Machine/PolOps.lean ====
section
/-!
DEFINITION. Owners of POL's buffers as the blocks that create queues see them (R83, R160).
-/
namespace Sys2Proof.Machine

open Sys2Proof

/-- Kinds of an owner (`POL_OWNER_CFG.KIND`). -/
abbrev ownerEngine : Nat := 1
abbrev ownerTenant : Nat := 2
abbrev ownerQueue : Nat := 3

/-- The owners of a kind that name a tenant, by rising number. -/
def State.polOwners (s : State) (kind tenant : Nat) : List Nat :=
  ((s.listed Fld.POL_OWNER_CFG_KIND).filter (fun e => e.2 == kind && s.rd Fld.POL_OWNER_CFG_TENANT e.1 == tenant)).map (·.1)

/-- The tenant has buffer quota: an owner of kind tenant names it (R83, R160). -/
def State.hasQuota (s : State) (tenant : Nat) : Bool := s.polOwners ownerTenant tenant != []

/-- Queues in POL's numbering: rings, NVMe queues, Enore sessions. -/
def polRing (r : Nat) : Nat := 3 * r
def polNvme (q : Nat) : Nat := 3 * q + 1
def polSess (k : Nat) : Nat := 3 * k + 2

/-- A queue of a tenant is created: it is bound to the tenant's free owner of kind queue with the lowest number, if there is
one. -/
def State.polBind (s : State) (tenant queue : Nat) : State :=
  match (s.polOwners ownerQueue tenant).find? (fun o => !s.pol.bound.has o) with
  | some o => { s with pol := { s.pol with bound := s.pol.bound.put o (queue, false) } }
  | none => s

/-- An owner holds nothing in any pool. -/
def State.ownerEmpty (s : State) (o : Nat) : Bool := (List.range 16).all (fun p => s.rd Fld.POL_HELD_HELD o p == 0)

/-- Bindings whose queue has ended and whose owner holds nothing are over. -/
def State.polUnbind (s : State) : State :=
  { s with pol := { s.pol with bound := s.pol.bound.keep (fun o b => !(b.2 && s.ownerEmpty o)) } }

/-- A queue ends. -/
def State.polQueueEnd (s : State) (queue : Nat) : State :=
  State.polUnbind { s with pol := { s.pol with bound := s.pol.bound.mapVal (fun _ b => if b.1 = queue then (queue, true) else b) } }

/-- The owner that a queue's buffers are charged to: the one bound to it, or the tenant's. -/
def State.polOwnerFor (s : State) (tenant queue : Nat) : Option Nat :=
  match s.pol.bound.first? (fun _ b => b.1 == queue && !b.2) with
  | some e => some e.1
  | none => (s.polOwners ownerTenant tenant).head?

end Sys2Proof.Machine
end

