-- ==== Sys2Proof/Machine/Net.lean ====
section
/-!
DEFINITION. NET: ports, priority flow control and the TCP engine (R106 to R113).
-/
namespace Sys2Proof.Machine

open Sys2Proof

/-! ## Ports -/

/-- Lanes of a port in an octet mode (Table 05.1); 0 where the mode has no port. -/
def modeLanes (mode : Nat) : Nat :=
  match mode with
  | 1 => 8 | 2 => 4 | 3 => 2 | 4 => 1 | 5 => 1 | _ => 0

/-- A port number names a port: it is the first lane of a port in its octet's mode (R106). -/
def State.isPort (s : State) (n : Nat) : Bool :=
  let l := modeLanes (s.rd Fld.NET_OCTET_MODE_MODE (n / 8))
  decide (n < 32) && l != 0 && n % l == 0

/-- A port that is enabled. -/
def State.portOn (s : State) (n : Nat) : Bool := s.rdb Fld.NET_CTRL_ENABLE && s.isPort n && s.rdb Fld.NET_PORT_CFG_ENABLE n

/-- A port's state. -/
def State.port (s : State) (n : Nat) : Port := s.net.ports.getD n { occ := [], pauseSent := [], pausedSince := [], oversize := 0 }

/-- Replace a port's state. -/
def State.setPort (s : State) (n : Nat) (p : Port) : State := { s with net := { s.net with ports := s.net.ports.put n p } }

/-- The port of the last error. -/
def State.portError (s : State) (f : Field) (n : Nat) : State := (s.raise f).wr Fld.NET_ERR_PORT_PORT n

/-- The ingress occupancy of a priority changes to this many bytes: PFC frames by R109. -/
def State.occupancy (s : State) (n prio bytes : Nat) : State :=
  let p := s.port n
  let p := { p with occ := p.occ.put prio bytes }
  let xoff := s.rd Fld.NET_PFC_XOFF_KIB n * 1024
  if !bitAt (s.rd Fld.NET_PFC_EN_MASK n) prio then s.setPort n p
  else if xoff < bytes ∧ p.pauseSent.mem prio = false then
    (s.setPort n { p with pauseSent := p.pauseSent.insert prio }).emit (.pfc n prio true)
  else if 2 * bytes < xoff ∧ p.pauseSent.mem prio = true then
    (s.setPort n { p with pauseSent := p.pauseSent.remove prio }).emit (.pfc n prio false)
  else s.setPort n p

/-- NET_FRAME_RECEIVE: a frame of this length and priority, the ingress occupancy it leaves, a CE mark on RoCEv2 (R108, R109, R112),
and FEC codewords found uncorrectable since the last. -/
def State.frameReceive (s : State) (n bytes prio occ : Nat) (ce : Bool) (fecBad : Nat) : State :=
  if !s.portOn n then s
  else
    let s := s.boundary Blk.NET
    let s := s.bump Fld.NET_PORT_STATUS_FEC_UNCORR fecBad n
    if s.rd Fld.NET_PORT_CFG_MTU n < bytes then
      let p := s.port n
      (s.setPort n { p with oversize := p.oversize + 1 }).portError Fld.NET_ERR_OVERSIZE n
    else
      let s := if ce then s.bump Fld.NET_ECN_CE_COUNT 1 n else s
      if prio < 8 then s.occupancy n prio occ else s

/-- PFC_FRAME_RECEIVE: the link partner pauses or resumes a priority (R109). -/
def State.pfcReceive (s : State) (n prio : Nat) (pause : Bool) : State :=
  if !s.portOn n || !bitAt (s.rd Fld.NET_PFC_EN_MASK n) prio || !decide (prio < 8) then s
  else
    let m := s.rd Fld.NET_PORT_STATUS_PAUSED n
    let p := s.port n
    if pause then
      (s.wr Fld.NET_PORT_STATUS_PAUSED (setBit m prio) n).setPort n
        { p with pausedSince := if bitAt m prio then p.pausedSince else p.pausedSince.put prio s.now }
    else (s.wr Fld.NET_PORT_STATUS_PAUSED (clrBit m prio) n).setPort n { p with pausedSince := p.pausedSince.del prio }

/-- PFC_WATCHDOG_EXPIRY: once per pause; the priority stays paused (R110). -/
def State.pfcWatchdog (s : State) (n prio : Nat) : State :=
  let w := s.rd Fld.NET_PFC_WDOG_US n
  match (s.port n).pausedSince.look prio with
  | some t =>
    if w = 0 then s
    else
      let s := s.advanceUs t w
      let s := s.setPort n { s.port n with pausedSince := (s.port n).pausedSince.del prio }
      (s.portError Fld.NET_ERR_PFC_STORM n).record Blk.NET 0x1001 n prio
  | none => s

/-- PORT_LINK_CHANGE: a port's link comes up, or goes down (R107). -/
def State.portLink (s : State) (n : Nat) (up : Bool) : State :=
  let m := s.rd Fld.NET_STATUS_PORT_UP
  if up then
    if !s.portOn n then s
    else ((s.wr Fld.NET_STATUS_PORT_UP (setBit m n)).wr Fld.NET_PORT_STATUS_UP 1 n).wrb Fld.NET_PORT_STATUS_AN_DONE
      (s.rdb Fld.NET_PORT_CFG_AN n) n
  else if !bitAt m n then s
  else
    let s := (s.wr Fld.NET_STATUS_PORT_UP (clrBit m n)).wr Fld.NET_PORT_STATUS_UP 0 n
    let s := (s.wr Fld.NET_PORT_STATUS_AN_DONE 0 n).wr Fld.NET_PORT_STATUS_PAUSED 0 n
    (s.setPort n { s.port n with occ := [], pauseSent := [], pausedSince := [] }).portError Fld.NET_ERR_LINK_DOWN n

/-! ## The end of queues and associations -/

/-- A queue ends: its window goes (R117, R23), and so do writes whose data has not come. -/
def State.queueEnd (s : State) (q : Nat) : State :=
  let gone := (s.nvf.xfers.filter (fun e => e.2.queue == q)).map (fun e => e.2.op)
  let s := gone.foldl State.dropOp s
  let s := { s with nvf := { s.nvf with queues := s.nvf.queues.del q, xfers := s.nvf.xfers.keep (fun _ t => t.queue != q) } }
  s.polQueueEnd (polNvme q)

/-- An association ends with every queue of it (R117). -/
def State.assocEnd (s : State) (a : Nat) : State :=
  let qs := (s.nvf.queues.filter (fun e => e.2.assoc == a)).map (·.1)
  let s := qs.foldl State.queueEnd s
  { s with nvf := { s.nvf with assocs := s.nvf.assocs.del a } }

/-- A queue is lost: loss of the admin queue ends the association (R113). -/
def State.queueLost (s : State) (q : Nat) : State :=
  match s.queue q with
  | none => s
  | some x => if x.qid = 0 then s.assocEnd x.assoc else s.queueEnd q

/-- The queues on a transport. -/
def State.queuesOn (s : State) (t : QTrans) : List Nat := (s.nvf.queues.filter (fun e => e.2.trans == t)).map (·.1)

/-! ## TCP -/

/-- A connection is open no longer; its queue ends with it (R113). -/
def State.tcpDrop (s : State) (c : Nat) : State :=
  let s := (s.queuesOn (.tcp c)).foldl State.queueLost s
  let s := { s with net := { s.net with tcp := s.net.tcp.del c } }
  s.wr Fld.NET_TCP_CONN_IN_USE s.net.tcp.length

/-- Replace a connection. -/
def State.setTcp (s : State) (c : Nat) (x : Tcp) : State := { s with net := { s.net with tcp := s.net.tcp.put c x } }

/-- A listener that takes TCP connections: NVF enabled, transport TCP. -/
def State.listens (s : State) (l : Nat) : Bool :=
  s.rdb Fld.NET_CTRL_ENABLE && s.rdb Fld.NVF_CTRL_ENABLE && s.rd Fld.NVF_LISTEN_TRANSPORT l == 1

/-- TCP_SYN to a listener, with the options offered: the connection opens passively with the next free handle, or RST answers
(R113, Table 05.2). -/
def State.tcpSyn (s : State) (l isn : Nat) (ecn sack tsopt : Bool) (wscale mss : Nat) : State :=
  let h := s.net.tcp.fresh
  if !s.listens l then s.emit (.tcpRst h)
  else if s.rd Fld.NET_TCP_CFG_MAX_CONN ≤ s.net.tcp.length then (s.raise Fld.NET_ERR_TCP_FULL).emit (.tcpRst h)
  else
    let ecnOn := s.rdb Fld.NET_ECN_TCP_ECN (s.rd Fld.NET_IP_CFG_PORT (s.rd Fld.NVF_LISTEN_IP l))
    let iss := Config.freeNat s.free % 2 ^ 32
    let x : Tcp := { listener := l, st := .synReceived, sndUna := iss, sndNxt := (iss + 1) % 2 ^ 32, rcvNxt := (isn + 1) % 2 ^ 32,
                     retx := 0, ecn := ecn && ecnOn, sack := sack && s.rdb Fld.NET_TCP_CFG_SACK,
                     tsopt := tsopt && s.rdb Fld.NET_TCP_CFG_TSOPT, wscale := min wscale 14, mss := mss, ece := false, maxR2t := 0,
                     hdgst := false, ddgst := false, ready := false }
    let s := ((s.draw).setTcp h x).emit (.tcpSynAck h)
    s.wr Fld.NET_TCP_CONN_IN_USE s.net.tcp.length

/-- A segment as it arrives: sequence, payload bytes, acknowledgement number, flags, CE mark. -/
structure TcpSeg where
  seq : Nat
  len : Nat
  ack : Option Nat
  rst : Bool
  fin : Bool
  ce : Bool
deriving DecidableEq, Repr

/-- An acknowledgement is new: after SND.UNA, up to SND.NXT (RFC 9293). -/
def Tcp.ackNew (x : Tcp) (a : Nat) : Bool :=
  decide (serialDist 32 x.sndUna a ≠ 0 ∧ serialDist 32 x.sndUna a ≤ serialDist 32 x.sndUna x.sndNxt)

/-- TCP_SEGMENT_RECEIVE (R112, R113): acknowledgements advance SND.UNA and end the handshake; in-order data advances RCV.NXT and is
acknowledged, out-of-order data repeats the last acknowledgement; a CE mark is echoed where ECN is in use; RST at RCV.NXT drops the
connection; FIN in order closes it from the host's side, and the connection goes when the head's own FIN is acknowledged. -/
def State.tcpSegment (s : State) (c : Nat) (g : TcpSeg) : State :=
  match s.net.tcp.look c with
  | none => s.emit (.tcpRst c)
  | some x =>
    if g.rst then (if g.seq % 2 ^ 32 = x.rcvNxt then s.tcpDrop c else s)
    else
      let hits := match g.ack with
        | some a => x.ackNew a
        | none => false
      let x := if hits then { x with sndUna := g.ack.getD 0 % 2 ^ 32, retx := 0, st := if x.st = .synReceived then .established else x.st } else x
      let x := { x with ece := x.ecn && g.ce }
      if x.st = .closing ∧ x.sndUna = x.sndNxt then s.tcpDrop c
      else if g.len = 0 ∧ !g.fin then s.setTcp c x
      else if g.seq % 2 ^ 32 != x.rcvNxt then (s.setTcp c x).emit (.tcpAck c x.rcvNxt x.ece)
      else
        let x := { x with rcvNxt := (x.rcvNxt + g.len + b2n g.fin) % 2 ^ 32 }
        if g.fin then
          let s := (s.setTcp c { x with st := .closing, sndNxt := (x.sndNxt + 1) % 2 ^ 32 }).emit (.tcpAck c x.rcvNxt x.ece)
          (s.queuesOn (.tcp c)).foldl State.queueLost s
        else (s.setTcp c x).emit (.tcpAck c x.rcvNxt x.ece)

/-- TCP_RTO_EXPIRY: the oldest unacknowledged segment is resent; after 8 resends without acknowledgement the connection aborts
(Table 05.2). -/
def State.tcpRto (s : State) (c : Nat) : State :=
  match s.net.tcp.look c with
  | none => s
  | some x =>
    if x.sndUna = x.sndNxt then s
    else if 8 ≤ x.retx then (s.emit (.tcpRst c)).tcpDrop c
    else (s.setTcp c { x with retx := x.retx + 1 }).emit (.tcpResend c x.sndUna)

def execNetFrameReceive (port bytes prio occ : Nat) (ce : Bool) (fecBad : Nat) (s : State) : Res :=
  ended (s.frameReceive port bytes prio occ ce fecBad)
def execPfcFrameReceive (port prio : Nat) (pause : Bool) (s : State) : Res := ended (s.pfcReceive port prio pause)
def execPfcWatchdogExpiry (port prio : Nat) (s : State) : Res := ended (s.pfcWatchdog port prio)
def execPortLinkChange (port : Nat) (up : Bool) (s : State) : Res := ended (s.portLink port up)
def execTcpSyn (listener isn : Nat) (ecn sack tsopt : Bool) (wscale mss : Nat) (s : State) : Res :=
  ended (s.tcpSyn listener isn ecn sack tsopt wscale mss)
def execTcpSegmentReceive (conn seq len : Nat) (ack : Option Nat) (rst fin ce : Bool) (s : State) : Res :=
  ended (s.tcpSegment conn ⟨seq, len, ack, rst, fin, ce⟩)
def execTcpRtoExpiry (conn : Nat) (s : State) : Res := ended (s.tcpRto conn)

end Sys2Proof.Machine
end

