-- ==== Sys2Proof/Machine/Submit.lean ====
section
/-!
DEFINITION. What the host-facing blocks share when they take up a command: the checks of a namespace and a range, and the write a
command starts (R24, R83, R92, R115, R340).
-/
namespace Sys2Proof.Machine

open Sys2Proof

/-- Blocks of a block namespace. -/
def Ns.blocks (n : Ns) : Nat := n.size / 4096

/-- What a command writes. -/
structure WriteReq where
  kind : WKind
  nsid : Nat
  lba : Nat
  blocks : Nat
  key : Nat
  keyLen : Nat
  valueLen : Nat
  data : List Nat
  ifAbsent : Bool
  ifPresent : Bool
  ifVersion : Option Nat
  fua : Bool
deriving DecidableEq, Repr

/-- A request that names blocks. -/
def blockReq (kind : WKind) (nsid lba blocks : Nat) (data : List Nat) (fua : Bool) : WriteReq :=
  { kind := kind, nsid := nsid, lba := lba, blocks := blocks, key := 0, keyLen := 0, valueLen := 0, data := data, ifAbsent := false,
    ifPresent := false, ifVersion := none, fua := fua }

/-- A request that names a key. -/
def keyReq (kind : WKind) (nsid key keyLen valueLen : Nat) (data : List Nat) : WriteReq :=
  { kind := kind, nsid := nsid, lba := 0, blocks := 0, key := key, keyLen := keyLen, valueLen := valueLen, data := data,
    ifAbsent := false, ifPresent := false, ifVersion := none, fua := false }

/-- The write a command starts; WRITE_ARRIVAL takes it up. -/
def State.startWrite (s : State) (src : Src) (tenant : Nat) (r : WriteReq) : State :=
  let o : WriteOp :=
    { src := src, kind := r.kind, nsid := r.nsid, tenant := tenant, lba := r.lba, blocks := r.blocks, key := r.key,
      keyLen := r.keyLen, valueLen := r.valueLen, data := r.data, ifAbsent := r.ifAbsent, ifPresent := r.ifPresent,
      ifVersion := r.ifVersion, fua := r.fua, valueId := 0, pg := s.pgFor r.nsid r.lba r.key r.keyLen, reserve := 0,
      stage := .submitted, jseq := 0, stripe := 0, wseq := 0, tA := 0, epsA := Frac.zero, accepted := false, programmed := false,
      synced := false, released := false, arrival := 0, span := s.spanPut r.kind r.nsid }
  { s.setOp s.nextOp o with nextOp := s.nextOp + 1 }

/-- The blocks of a content of `n` blocks. -/
def blocksOf (v n : Nat) : List Nat := (List.range n).map (fun i => v / 2 ^ (32768 * i) % 2 ^ 32768)

/-- The status a block range gives: at least one block, at most `most`, within the namespace (R131). -/
def rangeStatus (n : Ns) (lba blocks most : Nat) : Option Nat :=
  if blocks = 0 ∨ most < blocks then some STS_BAD_DESCRIPTOR
  else if n.blocks < lba + blocks then some STS_LBA_RANGE
  else none

end Sys2Proof.Machine
end

