-- ==== Sys2Proof/Machine/Map.lean ====
section
/-!
DEFINITION. The commands of the translation map and the metadata cache (R256 to R269).
-/
namespace Sys2Proof.Machine

open Sys2Proof

/-! ## Checkpoints -/

/-- MAP's state of an ownership set before its first checkpoint. -/
def MapSet.init : MapSet :=
  { lastStart := none, bytes := 0, gen := 0, run := none, again := false, recovering := false, merging := false }

/-- An ownership set in MAP. -/
def State.mapSet (s : State) (o : Nat) : MapSet := s.map.sets.getD o MapSet.init

/-- Replace an ownership set in MAP. -/
def State.setMapSet (s : State) (o : Nat) (m : MapSet) : State :=
  { s with map := { s.map with sets := s.map.sets.put o m } }

/-- The dirty pages of an ownership set. -/
def State.dirtyOf (s : State) (o : Nat) : List Nat := (s.map.dirty.filter (fun e => e.2 == o)).map (·.1)

/-- The next JSEQ of the partner, as its mirror shows it. -/
def State.peerJseq (s : State) : Nat := s.pjm.mirror.foldl (fun a e => max a (e.1 + 1)) 0

/-- MAP checkpoints a set: MAP is enabled, this head owns the set, and recovery has served it (R257, R260). -/
def State.mapServes (s : State) (o : Nat) : Bool :=
  s.rdb Fld.MAP_CTRL_ENABLE && s.setState o == setOwned && !(s.mapSet o).recovering

/-- A checkpoint of a set is triggered (R257): it starts at MAP's boundary and fixes its fences (R258 step 1); while one runs the
next follows it, late. -/
def State.ckptTrigger (s : State) (o : Nat) : State :=
  if (s.mapSet o).run.isSome then
    ((s.setMapSet o { s.mapSet o with again := true }).raise Fld.MAP_ERR_CKPT_LATE).wr Fld.MAP_ERR_INFO_OSET o
  else
    let s := s.boundary Blk.MAP
    let own := s.nextJseq
    let peer := s.peerJseq
    let c : Ckpt := { fenceA := if s.aon.side = .a then own else peer, fenceB := if s.aon.side = .a then peer else own, t := s.ctNs,
                      pages := s.dirtyOf o, dir := false }
    s.setMapSet o { s.mapSet o with lastStart := some s.now, bytes := 0, run := some c, again := false }

/-- CHECKPOINT_START: the interval since the previous start, or the delta bytes since the fence, trigger a checkpoint (R257). -/
def State.checkpointStart (s : State) (o : Nat) : State :=
  if !s.mapServes o then s
  else
    let m := s.mapSet o
    if s.rd Fld.MAP_CKPT_MIB * 2 ^ 20 ≤ m.bytes then s.ckptTrigger o
    else
      match m.lastStart with
      | none => s.ckptTrigger o
      | some t => (s.advance (t + s.rd Fld.MAP_CKPT_INTERVAL_MS * 1000 * unitsPerUs)).ckptTrigger o

/-- CHECKPOINT_STRIPES_DONE: the metadata stripes of a set's PGs, in one-bit mode, have passed parity program; the directory is
written (R258 steps 2 and 3, R259). -/
def State.checkpointStripes (s : State) (o : Nat) (stripes : List StripeAt) : State :=
  match (s.mapSet o).run with
  | none => s
  | some c =>
    if c.dir then s
    else
      let mine := stripes.filter (fun a => (s.pg a.pg).oset == o)
      let s := mine.foldl (fun s a =>
        let a := { a with slc := true }
        let s := s.openStripe a .metadata
        let s := s.modStripe a.id (fun x => { x with passed := x.members })
        s.closeStripe a.id) s
      s.setMapSet o { s.mapSet o with run := some { c with dir := true } }

/-- A record of an ownership set that a checkpoint with this head's fence `f` lets stop being live (Table 08.8). -/
def State.ckptEnds (s : State) (o f j : Nat) (r : PjmRec) : Bool :=
  let later (op : Nat) : Bool :=
    match s.ops.look op with
    | some x =>
      let sl := s.slotOf x.src
      s.pjm.recs.any (fun e => decide (j < e.1) && (match e.2.body with
        | .slot w q _ => (w, q) == sl
        | .intent p _ _ => p == op
        | _ => false))
    | none => true
  decide (j < f) && (match r.body with
    | .mapDelta _ => r.oset == o
    | .intent p _ _ => r.oset == o && later p
    | .stamp es => es.all (fun e => !s.pjm.recs.any (fun q => q.2.live && q.2.orig == e.1 && (q.2.body.typ == 0x01 || q.2.body.typ == 0x02)))
    | _ => false)

/-- CHECKPOINT_DIRECTORY_DONE: the directory is persistent (R258 step 4): covered deltas stop being live, the pages written are
clean; `copyFailed`: one of its two copies failed program. -/
def State.checkpointDone (s : State) (o : Nat) (copyFailed : Bool) : State :=
  let m := s.mapSet o
  match m.run with
  | none => s
  | some c =>
    if !c.dir then s
    else
      let s := if copyFailed then (s.raise Fld.MAP_ERR_DIR_FAIL).wr Fld.MAP_ERR_INFO_OSET o else s
      let fence := if s.aon.side = .a then c.fenceA else c.fenceB
      let ends := s.ckptEnds o fence
      let s := s.endLive ends
      let s := { s with map := { s.map with dirty := s.map.dirty.keep (fun p _ => !c.pages.mem p) } }
      let gen := m.gen + 1
      let s := (s.wr Fld.MAP_CKPT_GEN_GEN (max gen (s.rd Fld.MAP_CKPT_GEN_GEN))).wr Fld.MAP_CKPT_LAST_NS c.t
      let s := s.setMapSet o { m with gen := gen, run := none, again := false, merging := false }
      if m.again && s.mapServes o then s.ckptTrigger o else s

/-- MAP_CKPT_CMD: a checkpoint of every set the head owns at once, subject to R257 (R268). -/
def State.ckptCmd (s : State) : State :=
  (s.ownSets.filter s.mapServes).foldl State.ckptTrigger s

/-- Frames of the map cache (R261). -/
def State.mapFrames (s : State) : Nat := 2 ^ s.rd Fld.MAP_CACHE_CFG_PAGES_LOG2

/-- The set with the most dirty frames, the lowest on a tie. -/
def State.dirtiest (s : State) : Option Nat :=
  (s.ownSets.filter s.mapServes).foldl (fun best o =>
    match best with
    | none => some o
    | some b => if (s.dirtyOf b).length < (s.dirtyOf o).length then some o else some b) none

/-- MAP_DIRTY_THRESHOLD: dirty frames reach DIRTY_PCT of the cache (R261). -/
def State.dirtyThreshold (s : State) : State :=
  if s.rd Fld.MAP_CACHE_CFG_DIRTY_PCT * s.mapFrames ≤ s.map.dirty.length * 100 then
    match s.dirtiest with
    | some o => s.ckptTrigger o
    | none => s
  else s

/-! ## Recovery -/

/-- MAP_ENABLE: recovery of the sets the head holds starts (R260); with none to recover, MAP serves at once.  Closed blocks start
with half the read limit (R288).  The checks of R443 come first. -/
def State.mapEnable (s : State) : State :=
  if s.rdb Fld.MAP_CTRL_ENABLE then s
  else
    let r := s.tryEnable Fld.MAP_CTRL_ENABLE
    if !r.2 then r.1 else
    let s := r.1
    let half (_ : Nat) (b : BlockSt) : BlockSt :=
      if b.firstProg = 0 then b else { b with reads := s.rd Fld.FLC_REFRESH_CFG_RD_LIMIT * 500 }
    let s := { s with flc := { s.flc with blocks := s.flc.blocks.mapVal half } }
    let os := if s.rdb Fld.PWR_STATUS_FIRST_BOOT then [] else s.ownSets.filter (fun o => s.setState o == setOwned)
    if os = [] then s.wr Fld.MAP_STATUS_STATE 2
    else
      let s := os.foldl (fun s o => s.setMapSet o { s.mapSet o with recovering := true }) s
      { s.wr Fld.MAP_STATUS_STATE 1 with map := { s.map with recoveryFrom := some s.now } }

/-- What step 5 of recovery finds in a set's PGs: the summary entries of each relocation stripe with whether any of its pages is torn,
the highest write sequence of each PG's tags, and whether any page was torn. -/
structure ScanFound where
  summaries : List (Bool × List Delta)
  wseqs : List (Nat × Nat)
  torn : Bool

/-- RECOVERY_SET_SERVE: step 5 ends for a set (Table 11.5): the summaries of whole relocation stripes apply by R256, each PG's write
sequence rises to the highest seen, and the set is served; the delta table is merged on first use, and a checkpoint starts. -/
def State.recoverySet (s : State) (o : Nat) (f : ScanFound) : State :=
  if !(s.mapSet o).recovering then s
  else
    let s := if f.torn then (s.raise Fld.MAP_ERR_TORN).wr Fld.MAP_ERR_INFO_OSET o else s
    let s := (f.summaries.filter (fun x => !x.1)).foldl (fun s x => s.applyDeltas x.2) s
    let s := f.wseqs.foldl (fun s p => s.modPg p.1 (fun g => if g.oset = o then { g with wseq := max g.wseq p.2 } else g)) s
    let s := s.setMapSet o { s.mapSet o with recovering := false, merging := true }
    let s := if s.map.sets.any (fun e => e.2.recovering) then s
      else
        let us := (s.now - s.map.recoveryFrom.getD s.now) / unitsPerUs
        if s.rd Fld.MAP_STATUS_STATE = 1 then (s.wr Fld.MAP_STATUS_STATE 2).wr Fld.MAP_RECOVERY_US_US us else s
    let s := s.resumeReads (fun w => w.left == [])
    if s.mapServes o then s.ckptTrigger o else s

/-- MAP_DELTA_APPLY: the entries of a persistent record, own or of the partner, apply to the map by R256. -/
def State.mapDeltaApply (s : State) (mirror : Bool) (orig : Nat) : State :=
  if mirror then
    match s.mirrorLog.find? (fun m => m.orig == orig) with
    | some m => match m.body with
      | .mapDelta ds => s.applyDeltas ds
      | .intent _ _ ds => s.applyDeltas ds
      | _ => s
    | none => s
  else
    match s.recOf orig with
    | some r => if s.recPersistent r then (match r.body with
        | .mapDelta ds => s.applyDeltas ds
        | .intent _ _ ds => s.applyDeltas ds
        | _ => s) else s
    | none => s

/-! ## The metadata cache -/

/-- A region of `MDC_REGION` that holds a DDR5 address. -/
def State.mdcRegion (s : State) (addr : Nat) : Option Nat :=
  (List.range 8).find? (fun r => s.rdb Fld.MDC_REGION_VALID r &&
    decide (s.rd Fld.MDC_REGION_BASE r ≤ addr ∧ addr < s.rd Fld.MDC_REGION_BASE r + s.rd Fld.MDC_REGION_SIZE_MIB r * 2 ^ 20))

/-- The state of a way group (Table 11.6): 0 ON, 1 CLEANING, 2 OFF, 3 WAKING. -/
def State.wayGroup (s : State) (g : Nat) : Nat := bitsOf (s.rd Fld.MDC_WAYGRP_STATE_STATE) (2 * g) 2

/-- Set the state of a way group. -/
def State.setWayGroup (s : State) (g st : Nat) : State :=
  s.wr Fld.MDC_WAYGRP_STATE_STATE (putBits (s.rd Fld.MDC_WAYGRP_STATE_STATE) (2 * g) 2 st)

/-- The key of a line: set × 16 + way. -/
def mdcKey (addr way : Nat) : Nat := addr / 128 % 65536 * 16 + way

/-- The way of a set that holds a line's address. -/
def State.mdcWay (s : State) (addr : Nat) : Option Nat :=
  (List.range 16).find? (fun w => match s.mdc.lines.look (mdcKey addr w) with
    | some l => l.addr == addr / 128
    | none => false)

/-- Put a line, or take one. -/
def State.setLine (s : State) (k : Nat) (l : MdcLine) : State := { s with mdc := { s.mdc with lines := s.mdc.lines.put k l } }
def State.dropLine (s : State) (k : Nat) : State := { s with mdc := { s.mdc with lines := s.mdc.lines.del k } }

/-- The age of a way's line in a set; an invalid line counts as age 0. -/
def State.lineAge (s : State) (k : Nat) : Nat := match s.mdc.lines.look k with
  | some l => l.age
  | none => 0

/-- The victim among the ways that take fills (R264): the lowest-numbered of age 0; else every one ages by 1 and the search
repeats, at most three times. -/
def State.mdcVictim (s : State) (addr : Nat) (ways : List Nat) (fuel : Nat) : State × Option Nat :=
  match ways.find? (fun w => s.lineAge (mdcKey addr w) == 0) with
  | some w => (s, some w)
  | none =>
    match fuel with
    | 0 => (s, none)
    | n + 1 =>
      let s := ways.foldl (fun (s : State) w =>
        { s with mdc := { s.mdc with lines := s.mdc.lines.modify (mdcKey addr w) (fun (l : MdcLine) => { l with age := l.age - 1 }) } }) s
      State.mdcVictim s addr ways n

/-- Lines that fall outside the regions are written back and invalidated when a commit takes effect (R269). -/
def State.mdcTrim (s : State) : State :=
  let out := s.mdc.lines.filter (fun e => (s.mdcRegion (e.2.addr * 128)).isNone)
  let s := s.bump Fld.MDC_STAT_WB_COUNT (out.filter (fun e => e.2.dirty)).length
  out.foldl (fun s e => s.dropLine e.1) s

/-- A fill of a line (R264), at MDC's boundary, the next fill (R269). -/
def State.mdcFill (s : State) (a : MdcAcc) : State :=
  let s := if s.admittedPend Blk.MDC then (s.boundary Blk.MDC).mdcTrim else s
  match s.mdcRegion a.addr with
  | none => s
  | some r =>
    let ways := (List.range 16).filter (fun w => s.wayGroup (w / 2) == 0)
    let q := s.mdcVictim a.addr ways 3
    match q.2 with
    | none => q.1
    | some w =>
      let s := q.1
      let k := mdcKey a.addr w
      let s := match s.mdc.lines.look k with
        | some l => if l.dirty then s.bump Fld.MDC_STAT_WB_COUNT else s
        | none => s
      s.setLine k { addr := a.addr / 128, dirty := a.write, age := if a.stream || s.rdb Fld.MDC_REGION_STREAM r then 0 else 2 }

/-- A DDR5 access (R263 to R265): outside the regions, or with MDC disabled, it bypasses; a hit in a CLEANING group serves reads, and
a write goes through to DDR5 and invalidates the line. -/
def State.mdcAccess (s : State) (a : MdcAcc) : State :=
  if !s.rdb Fld.MDC_CTRL_ENABLE || (s.mdcRegion a.addr).isNone then s
  else
    match s.mdcWay a.addr with
    | none => (s.bump Fld.MDC_STAT_MISS_COUNT).mdcFill a
    | some w =>
      let k := mdcKey a.addr w
      let s := s.bump Fld.MDC_STAT_HIT_COUNT
      if s.wayGroup (w / 2) = 1 ∧ a.write = true then s.dropLine k
      else
        match s.mdc.lines.look k with
        | some l => s.setLine k { l with age := 3, dirty := l.dirty || a.write }
        | none => s

/-! ## Map pages -/

/-- The leaf keys beneath a map page: 512 beneath a leaf page (level 0), 1,024 times as many for each level above, within the
namespace; of a PG's tree, those present. -/
def State.keysBeneath (s : State) (page level : Nat) : List Nat :=
  let n := 512 * 1024 ^ level
  let base := page * 512 / n * n
  if leafTree base = 0 then
    let room := match s.adm.nss.look (leafNs base) with
      | some x => x.blocks - base % 2 ^ 64
      | none => 0
    (List.range (min n room)).map (base + ·)
  else (s.map.leaves.filter (fun e => decide (base ≤ e.1 ∧ e.1 < base + n))).map (·.1)

/-- A leaf entry whose page is lost (R262): KIND 3, but for one that is journal-resident. -/
def State.loseLeaf (s : State) (k : Nat) : State :=
  match s.map.leaves.getD k [] with
  | [] => s.putLeaf k { kind := 3, voff := 0, birth := s.activeEpoch (leafNs k), addr := 0, wseq := 0, idx := none, stamp := 0 }
  | vs =>
    let lose (v : Leaf) : Leaf := if v.kind = 2 then v else { v with kind := 3, addr := 0, idx := none }
    { s with map := { s.map with leaves := s.map.leaves.put k (vs.map lose) } }.dirtyPage (pageOf k) (leafNs k)

/-- A map page that cannot be reconstructed (R262): its leaf entries are lost, and the head goes on as for a lost stripe (R308). -/
def State.losePage (s : State) (page level stripe : Nat) : State :=
  let keys := (s.keysBeneath page level).filter (fun k => match s.map.leaves.getD k [] with
    | v :: _ => v.kind != 2
    | [] => true)
  let rs := joinRanges (keys.map (fun k => s.rangeOf k 0))
  (keys.foldl State.loseLeaf s).reportStripe stripe 1 rs

/-- What a map page's read brings (R262). -/
def State.pageGot (s : State) (page level stripe : Nat) (got : PageGot) : State :=
  match got with
  | .whole => s
  | .rebuilt => s.bump Fld.STR_STAT_RECON_COUNT 4
  | .lost => s.losePage page level stripe

/-- Frames in use: pages in the cache, and dirty pages. -/
def State.framesUsed (s : State) : Nat :=
  s.map.cached.length + (s.map.dirty.filter (fun e => !s.map.cached.contains e.1)).length

/-- Put a page at the front of the map cache. -/
def State.cacheFront (s : State) (page : Nat) : State :=
  { s with map := { s.map with cached := page :: s.map.cached.filter (fun p => p != page)
                               fetchWait := s.map.fetchWait.filter (fun p => p != page) } }

/-- MAP_PAGE_FETCH: a page is read from flash into a clean frame, the least recently used, or waits for a checkpoint when none is
clean (R261, R262); `accs`: the DDR5 accesses it makes, through MDC (R263, R264). -/
def State.pageFetch (s : State) (page level stripe : Nat) (got : PageGot) (accs : List MdcAcc) : State :=
  if !s.rdb Fld.MAP_CTRL_ENABLE || (s.rdb Fld.MDC_CTRL_ENABLE && !s.rdb Fld.MDC_STATUS_READY) then s
  else if s.map.cached.contains page then accs.foldl State.mdcAccess (s.cacheFront page)
  else
    let take (s : State) : State :=
      accs.foldl State.mdcAccess (((s.bump Fld.MAP_STAT_FETCH_COUNT).cacheFront page).pageGot page level stripe got)
    if s.framesUsed < s.mapFrames then take s
    else
      match s.map.cached.reverse.find? (fun p => !s.map.dirty.has p) with
      | some v => take { s with map := { s.map with cached := s.map.cached.filter (fun p => p != v) } }
      | none =>
        let s := s.raise Fld.MAP_ERR_CACHE_FULL
        { s with map := { s.map with fetchWait := s.map.fetchWait.filter (fun p => p != page) ++ [page] } }

/-- MDC_UNCORRECTABLE (R267): a clean line is invalidated and refetched; a dirty one is invalidated and reported, and MAP rebuilds
the page whose copy it held from its last flash copy and the live deltas (R262). -/
def State.mdcUncorrectable (s : State) (line page level stripe : Nat) (got : PageGot) : State :=
  match s.mdc.lines.look line with
  | none => s
  | some l =>
    let s := (s.dropLine line).bump Fld.MDC_ECC_UE
    if l.dirty then
      let s := (s.raise Fld.MDC_ERR_UE_DIRTY).raise Fld.MAP_ERR_PAGE_REBUILT
      (s.bump Fld.MAP_STAT_FETCH_COUNT).pageGot page level stripe got
    else (s.raise Fld.MDC_ERR_UE_CLEAN).mdcFill { addr := l.addr * 128, write := false, stream := false }

/-! ## Way groups -/

/-- A way-group command that is ignored. -/
def State.groupCmdBad (s : State) : State := s.raise Fld.MDC_ERR_GROUP_CMD

/-- MDC_WAYGRP_POWER_DOWN (R265): at least one group stays ON. -/
def State.wayDown (s : State) (g : Nat) : State :=
  let g := g % 8
  if s.wayGroup g = 0 ∧ ((List.range 8).any (fun h => h != g && s.wayGroup h == 0)) = true then s.setWayGroup g 1
  else s.groupCmdBad

/-- MDC_WAYGRP_POWER_UP (R265): PWR powers the group's domain (R481). -/
def State.wayUp (s : State) (g : Nat) : State :=
  let g := g % 8
  if s.wayGroup g = 2 then (s.setWayGroup g 3).domRequest (37 + g) true false else s.groupCmdBad

/-- The lines of a way group. -/
def State.groupLines (s : State) (g : Nat) : Assoc MdcLine := s.mdc.lines.filter (fun e => e.1 % 16 / 2 == g)

/-- MDC_CLEAN_SWEEP_END (R265): dirty lines are written back and every line is invalid; PWR switches the domain off. -/
def State.sweepEnd (s : State) (g : Nat) : State :=
  let g := g % 8
  if s.wayGroup g != 1 || s.pwr.queue.any (fun r => r.domain == 37 + g) || (s.pwr.switching.map (·.domain)) == some (37 + g) then s
  else
    let s := s.bump Fld.MDC_STAT_WB_COUNT ((s.groupLines g).filter (fun e => e.2.dirty)).length
    let s := (s.groupLines g).foldl (fun s e => s.dropLine e.1) s
    s.domRequest (37 + g) false false

/-- MDC_WAKE_END (R265): the domain is up and the group is ON, every line invalid. -/
def State.wakeEnd (s : State) (g : Nat) : State :=
  let g := g % 8
  if s.wayGroup g = 3 ∧ s.domainOn (37 + g) = true then
    (((s.groupLines g).foldl (fun s e => s.dropLine e.1) s)).setWayGroup g 0
  else s

/-- MDC_INVALIDATION_END (R266): 32,768 engine cycles after the reset of the main domain every line is invalid and MDC is ready. -/
def State.mdcReady (s : State) : State :=
  if s.rdb Fld.MDC_STATUS_READY || s.aon.mainReset && !s.domainOn 37 then s
  else
    let s := s.advance (s.now + 32768 * s.cycle)
    { s.wr Fld.MDC_STATUS_READY 1 with mdc := { s.mdc with lines := [] } }

/-! ## The commands -/

def execCheckpointStart (oset : Nat) (s : State) : Res := ended (s.checkpointStart oset)
def execCheckpointStripesDone (oset : Nat) (stripes : List StripeAt) (s : State) : Res := ended (s.checkpointStripes oset stripes)
def execCheckpointDirectoryDone (oset : Nat) (copyFailed : Bool) (s : State) : Res := ended (s.checkpointDone oset copyFailed)
def execMapCkptCmd (s : State) : Res := ended s.ckptCmd
def execMapDirtyThreshold (s : State) : Res := ended s.dirtyThreshold
def execMapEnable (s : State) : Res := ended s.mapEnable
def execRecoverySetServe (oset : Nat) (summaries : List (Bool × List Delta)) (wseqs : List (Nat × Nat)) (torn : Bool) (s : State) : Res :=
  ended (s.recoverySet oset ⟨summaries, wseqs, torn⟩)
def execMapDeltaApply (mirror : Bool) (jseq : Nat) (s : State) : Res := ended (s.mapDeltaApply mirror jseq)
def execMapPageFetch (page level stripe : Nat) (got : PageGot) (accs : List MdcAcc) (s : State) : Res :=
  ended (s.pageFetch page level stripe got accs)
def execMdcUncorrectable (line page level stripe : Nat) (got : PageGot) (s : State) : Res :=
  ended (s.mdcUncorrectable line page level stripe got)
def execMdcWaygrpPowerDown (group : Nat) (s : State) : Res := ended (s.wayDown group)
def execMdcWaygrpPowerUp (group : Nat) (s : State) : Res := ended (s.wayUp group)
def execMdcCleanSweepEnd (group : Nat) (s : State) : Res := ended (s.sweepEnd group)
def execMdcWakeEnd (group : Nat) (s : State) : Res := ended (s.wakeEnd group)
def execMdcInvalidationEnd (s : State) : Res := ended s.mdcReady

end Sys2Proof.Machine
end

