-- ==== Sys2Proof/Machine/Str.lean ====
section
/-!
DEFINITION. The commands of stripes (R300 to R313): programming and completing a stripe, reconstruction, spanning stripes, lost
stripes, patrol and rebuild.
-/
namespace Sys2Proof.Machine

open Sys2Proof

/-! ## Programming -/

/-- DESTAGE_STRIPE_PROGRAM: data members 0 to D − 2 of a destage stripe are programmed; the others follow as members pass (R300).
Relocation, fold and metadata stripes program all their members. -/
def State.stripeProgram (s : State) (k : Nat) : State :=
  match s.stripe k with
  | none => s
  | some y =>
    if y.st != .opened || y.full || y.kind == .buffer then s
    else
      let ms := if y.kind = .destage then List.range (y.d - 1) else y.members
      (s.setStripe k { y with full := true }).emit (.program k ms)

/-! ## Completing an open stripe -/

/-- What Table 13.4 does with one member of the stripe: kept or programmed, VOID, or a parity member that keeps the stripe SEALED. -/
def State.completeMember (s : State) (k m : Nat) (f : Found) : State :=
  match s.stripe k with
  | none => s
  | some y =>
    let pass (s : State) : State := s.setStripe k { y with passed := y.passed.insert m, failed := y.failed.remove m }
    match f with
    | .valid => pass s
    | .erased => (pass s).emit (.program k [m])
    | .torn =>
      if m < y.d then s.dataMemberFail k m { y with failed := y.failed.remove m }
      else s.parityFail k m { y with passed := y.passed.remove m }
    | .unequal => if m < y.d then pass s else s.parityFail k m { y with passed := y.passed.remove m }

/-- OPEN_STRIPE_COMPLETE: the new holder completes an OPEN or SEALED destage stripe of a set it holds by what it finds of each
member (R303, Table 13.4).  A stripe this head did not open itself is known by its place. -/
def State.stripeComplete (s : State) (a : StripeAt) (found : List Found) : State :=
  if !s.ownsPg a.pg then s
  else
    let s := if (s.stripe a.id).isNone then s.openStripe a .destage else s
    match s.stripe a.id with
    | none => s
    | some y =>
      if y.kind != .destage || !(y.st == .opened || y.st == .sealed) || decide (found.length < y.d + y.p) then s
      else
        let k := a.id
        let s := y.members.foldl (fun s m => s.completeMember k m (found.getD m .valid)) s
        match s.stripe k with
        | none => s
        | some y =>
          if y.allPassed then
            let s := (s.closeStripe k).programmedOps k
            let s := match y.sif with
              | some o => s.endLive (fun _ r => r.orig == o)
              | none => s
            s.stripeDeltas k
          else s

/-! ## Reconstruction -/

/-- Members of a stripe that cannot be read at a codeword position: those failed, and those found unreadable; VOID members count as
zeros, and the parity of a SEALED stripe is taken from its SIF record (R304, Table 13.3). -/
def Stripe.missing (y : Stripe) (unread : List Nat) : List Nat :=
  y.members.filter (fun m => !y.void.mem m && (unread.contains m || y.failed.mem m) && !(y.st == .sealed && decide (y.d ≤ m)))

/-- A position can be reconstructed. -/
def Stripe.solvable (y : Stripe) (unread : List Nat) : Bool := decide ((y.missing unread).length ≤ y.p)

/-- RECONSTRUCT: a member is restored at codeword positions, `bad` giving the unreadable members of each (R304).  A position with
too few readable members is left to STRIPE_LOST. -/
def State.reconstruct (s : State) (k : Nat) (bad : List (Nat × List Nat)) : State :=
  match s.stripe k with
  | none => s
  | some y => s.bump Fld.STR_STAT_RECON_COUNT (bad.filter (fun b => y.solvable b.2)).length

/-! ## Spanning stripes -/

/-- The STRIPE_ID of a spanning stripe (Table 13.1). -/
def spanId (pg band row : Nat) : Nat := pg % 2 ^ 16 + band % 2 ^ 32 * 2 ^ 16 + row % 2 ^ 12 * 2 ^ 48 + 2 ^ 63

/-- The holder of a member: entry (b + r + j) mod n of the span set (R346). -/
def spanHolder (set : List Nat) (band row j : Nat) : Nat :=
  if set = [] then 0 else set.getD ((band + row + j) % set.length) 0

/-- The address by which a leaf entry leads to a member of a spanning stripe: the STRIPE_ID, with the member that follows from the
chunk's number kept above its 64 bits (R348). -/
def spanAddr (stripe j : Nat) : Nat := stripe + 2 ^ 64 * (j + 1)

/-- What the initiator has written into a data member. -/
def State.putSpanMember (s : State) (k j : Nat) (o : WriteOp) (v len : Nat) : State :=
  let c : Chunk := {
    data := v, origLen := len, storedLen := len, format := 3, enc := false, cdc := false, domain := 0, fp := 0,
    nsid := o.nsid, leaf := 0, wseq := o.wseq, pg := o.pg, stripe := k, readable := true, crcBad := false }
  { s with map := { s.map with chunks := s.map.chunks.put (spanAddr k j) c } }

/-- A head-to-head span message of this head (Table 13.5). -/
def State.spanMsg (s : State) (k member op step kk m payload : Nat) : SpanMsg :=
  { initHead := s.headId, stripe := k, member := member, op := op, step := step, status := STS_OK, k := kk, m := m,
    payload := payload, crcOk := true }

/-- SPAN_UPDATE: the initiator writes a SIF record for one row of an accepted put's value, and once it is persistent sends the members
to their holders (R305, R307, R346).  `change`: a data member that changes by read-modify-write, with its old content, read from
its holder, and its new one. -/
def State.spanUpdate (s : State) (o band row : Nat) (change : Option (Nat × Nat × Nat)) : State :=
  match s.ops.look o with
  | none => s
  | some x =>
    match s.kvs.ns.look x.nsid with
    | none => s
    | some a =>
      let k := spanId x.pg band row
      if !x.accepted || !x.span || !a.span || s.str.spans.has k then s
      else
        let step := (s.str.initStep.getD k 0 + 1) % 65536
        let pieces := x.cut
        let data := (List.range a.k).map (fun j => (pieces.getD (row * a.k + j) (0, 0)).2)
        let holder (j : Nat) : Nat := spanHolder a.set band row j
        let msgs : List (Nat × SpanMsg) := match change with
          | none =>
            (List.range a.k).map (fun j => (holder j, s.spanMsg k j 2 step a.k a.m (data.getD j 0))) ++
            (List.range a.m).map (fun j => (holder (a.k + j), s.spanMsg k (a.k + j) 2 step a.k a.m (parityOf j data 65536)))
          | some (i, old, new) =>
            (holder i, s.spanMsg k i 0 step a.k a.m new) ::
            (List.range a.m).map (fun j => (holder (a.k + j), s.spanMsg k (a.k + j) 1 step a.k a.m (parityDelta j i old new 65536)))
        let s := match change with
          | none => (List.range a.k).foldl (fun (s : State) j =>
              if row * a.k + j < pieces.length then s.putSpanMember k j x (data.getD j 0) (pieces.getD (row * a.k + j) (0, 0)).1 else s) s
          | some (i, _, new) => s.putSpanMember k i x new 65536
        let j := s.nextJseq
        let done := match change with
          | none => 2 ^ a.k - 1
          | some (i, _, _) => 2 ^ i
        let u : SpanUpd := { step := step, sif := j, acked := [], failed := [], members := msgs.foldl (fun c m => NatSet.insert c m.2.member) [],
                             k := a.k, m := a.m, tries := 0, since := s.now, sent := false, op := o, msgs := msgs }
        let s := { s with str := { s.str with spans := s.str.spans.put k u, initStep := s.str.initStep.put k step } }
        s.issue (.sif k step done) (1 + ceilDiv (a.m * 65536) 64) (s.nsOf x).oset

/-- The leaf entries of a row lead to the spanning stripe (R348); a value all of whose rows do is in flash, and its ACCEPT record is
live no longer. -/
def State.spanPlaced (s : State) (k : Nat) (u : SpanUpd) : State :=
  match s.ops.look u.op with
  | none => s
  | some x =>
    let row := k / 2 ^ 48 % 2 ^ 12
    let n := x.cut.length
    let leaf (c : Nat) : Nat := leafKey x.nsid (x.pg + 1) (valueHandle x.valueId c)
    let cs := ((List.range u.k).map (fun j => (j, row * u.k + j))).filter (fun e => decide (e.2 < n))
    let s := cs.foldl (fun s e => s.moveLeaf (leaf e.2) x.wseq (fun v => { v with kind := 1, addr := spanAddr k e.1, idx := none })) s
    let all := (List.range n).all (fun c => (s.map.leaves.getD (leaf c) []).all (fun v =>
      v.wseq != x.wseq || (v.kind == 1 && decide (2 ^ 64 ≤ v.addr))))
    if all then
      let s := (s.unreserve x).setOp u.op { x with span := false, programmed := true, reserve := 0 }
      let s := s.endLive (fun _ r => r.orig == x.jseq && r.body.typ == 0x01)
      (s.tryRelease u.op).opDone u.op
    else s

/-- An update is complete once every holder that is not marked failed has acknowledged, and no more than m members have failed
(R307): its SIF record is live no longer. -/
def State.spanCheck (s : State) (k : Nat) : State :=
  match s.str.spans.look k with
  | none => s
  | some u =>
    if u.members.all (fun m => u.acked.mem m || u.failed.mem m) && decide (u.failed.length ≤ u.m) then
      let s := { s with str := { s.str with spans := s.str.spans.del k } }
      (s.endLive (fun _ r => r.orig == u.sif)).spanPlaced k u
    else s

/-- SPAN_ACK_RECEIVE: an OP 3 acknowledgement, or a refusal, of the update in flight (R307). -/
def State.spanAck (s : State) (m : SpanMsg) : State :=
  match s.str.spans.look m.stripe with
  | none => s
  | some u =>
    if !m.crcOk || m.op != 3 || m.step != u.step || !u.members.mem m.member then s
    else
      let u := if m.status = STS_OK then { u with acked := u.acked.insert m.member, failed := u.failed.remove m.member }
        else { u with failed := u.failed.insert m.member }
      { s with str := { s.str with spans := s.str.spans.put m.stripe u } }.spanCheck m.stripe

/-- SPAN_ACK_TIMEOUT: ACK_TMO_US have passed (R307): the message is sent again, up to RETRIES times; then the silent members are marked
failed, unless more than m would be: then the update is retried without end. -/
def State.spanTimeout (s : State) (k : Nat) : State :=
  match s.str.spans.look k with
  | none => s
  | some u =>
    let silent := u.members.filter (fun m => !u.acked.mem m && !u.failed.mem m)
    if !u.sent || silent = [] then s
    else
      let s := s.advanceUs u.since (s.rd Fld.STR_SPAN_CFG_ACK_TMO_US)
      let again := u.msgs.filter (fun m => silent.contains m.2.member)
      let resend (s : State) : State :=
        let s := again.foldl (fun s m => s.emit (.span m.1 m.2)) s
        { s with str := { s.str with spans := s.str.spans.put k { u with tries := u.tries + 1, since := s.now } } }
      if u.tries < s.rd Fld.STR_SPAN_CFG_RETRIES then resend s
      else if u.failed.length + silent.length ≤ u.m then
        let u := { u with failed := silent.foldl NatSet.insert u.failed }
        State.spanCheck { s with str := { s.str with spans := s.str.spans.put k u } } k
      else resend ((s.raise Fld.STR_ERR_SPAN_TIMEOUT).wr Fld.STR_ERR_INFO_STRIPE_ID k)

/-- The span-holder namespace and the tenant that alone reaches it (R347). -/
abbrev spanNs : Nat := 0xFFFFFFFE
abbrev spanTenant : Nat := 0xFFFF

/-- The key a holder keeps a member under (R347): the initiator's array, the STRIPE_ID, the member and a zero, 12 bytes. -/
def spanKey (m : SpanMsg) : Nat := m.initHead / 2 * 2 ^ 80 + m.stripe * 2 ^ 16 + m.member * 2 ^ 8

/-- The content of a member that this head holds. -/
def State.spanHeld (s : State) (m : SpanMsg) : Nat :=
  let pg := s.bucketPg (s.bucketOf spanNs (spanKey m) 12)
  match s.kvRead spanNs pg (spanKey m) 12 with
  | some v => match s.valueOf spanNs pg v with
    | .data x => x
    | .fail _ => 0
  | none => 0

/-- SPAN_MESSAGE_RECEIVE: a holder applies an OP 0 or OP 1 message of the next STEP of that member, or an OP 2 message, through its own
acceptance; a duplicate is acknowledged without it, and any other STEP refused (R307, R347). -/
def State.spanReceive (s : State) (m : SpanMsg) : State :=
  if !m.crcOk || decide (3 ≤ m.op) then s
  else
    let k := m.stripe * 32 + m.member
    let back (s : State) (st : Nat) : State := s.emit (.span (m.initHead / 2) { m with op := 3, status := st, payload := 0 })
    let last := s.str.spanStep.look k
    if last = some m.step then back s STS_OK
    else if m.op != 2 && last != some ((m.step + 65535) % 65536) then
      back (((s.wr Fld.STR_ERR_INFO_STRIPE_ID m.stripe).record Blk.STR 0x2003 m.stripe)) STS_SEQ_STALE
    else if s.str.spanIn.has k then s
    else if !s.adm.nss.has spanNs then back s STS_INVALID_NAMESPACE
    else
      let v := if m.op = 1 then Nat.xor (s.spanHeld m) m.payload else m.payload
      let s := { s with str := { s.str with spanIn := s.str.spanIn.put k m } }
      s.startWrite (.span k m.step) spanTenant (keyReq .kvPut spanNs (spanKey m) 12 65536 [v])

/-! ## Lost stripes -/

/-- The codewords that hold a chunk's slot: member and codeword position, running on into the next data members of the stripe
(R245). -/
def chunkWords (members : List Nat) (addr : Nat) : List (Nat × Nat) :=
  match (List.range members.length).find? (fun m => members.getD m 0 % 2 ^ 32 == addr % 2 ^ 32) with
  | none => []
  | some m =>
    let off := bitsOf addr 44 8 * 64
    let len := bitsOf addr 52 11 * 64
    let first := off / 4096
    let last := (off + len - 1) / 4096
    ((List.range (last + 1 - first)).map (fun i => (m + (first + i) / 4, (first + i) % 4)))

/-- STRIPE_LOST: more than P members fail at some codeword position, `bad` giving the unreadable members of each (R308). -/
def State.stripeLost (s : State) (k : Nat) (bad : List (Nat × List Nat)) : State :=
  match s.stripe k, s.str.bands.look (bandOf k) with
  | some y, some b =>
    let lost := bad.filter (fun x => !y.solvable x.2)
    if lost = [] then s
    else
      let words := lost.flatMap (fun x => (y.missing x.2).map (fun m => (m, x.1)))
      let pos := lost.foldl (fun (a : NatSet) x => a.insert x.1) y.lostPos
      let gone := s.map.chunks.filter (fun e => e.2.stripe == k && (chunkWords b.members e.1).any (fun w => words.contains w))
      let s := s.setStripe k { y with st := .lost, lostPos := pos }
      let chunks := gone.foldl (fun (a : Assoc Chunk) e => a.put e.1 { e.2 with readable := false }) s.map.chunks
      let shared := (gone.filter (fun e => s.ddp.idx.any (fun i => i.2.addr == e.1) || s.map.leaves.any (fun l =>
        l.2.any (fun v => v.addr == e.1 && v.idx.isSome)))).map (·.1)
      let s := { s with map := { s.map with chunks := chunks }
                        str := { s.str with lostTable := shared.foldl NatSet.insert s.str.lostTable } }
      let q := s.markChunks (gone.map (·.1)) (fun leaf a => match s.map.chunks.look a with
        | some c => c.leaf == leaf
        | none => false)
      q.1.reportStripe k lost.length q.2
  | _, _ => s

/-- LOST_CHUNK_SWEEP: MAP sweeps the leaf entries of every deduplicating namespace of the sets the head owns for the lost chunks, and
marks those that carry a lost handle (R309). -/
def State.lostSweep (s : State) : State :=
  let ok (leaf _ : Nat) : Bool := match s.adm.nss.look (leafNs leaf) with
    | some n => n.dedup && s.setState n.oset == setOwned
    | none => false
  let q := s.markChunks s.str.lostTable ok
  let s := q.1.reportRanges q.2
  { s with str := { s.str with lostTable := [] } }

/-! ## Patrol -/

/-- PATROL_TRIGGER: trigger 0 of STR lets patrol run to the budget its loop sets (R310). -/
def State.patrolTrigger (s : State) : State :=
  if s.rdb Fld.STR_CTRL_ENABLE && s.rdb Fld.STR_CTRL_PATROL_EN then s.wr Fld.STR_STATUS_PATROLLING 1 else s

/-- The stripes patrol reads (R310), and those of bands no younger than a stripe's. -/
def State.patrolled (s : State) : List (Nat × Stripe) :=
  s.str.stripes.filter (fun e => (e.2.st == .closed || e.2.st == .degraded) && s.ownsPg (e.1 % 65536))

/-- What a patrol read of a stripe finds (R311). -/
structure PatrolFound where
  erasures : List (Nat × Nat)
  differs : Bool
  culprits : List Nat
  budgetEnds : Bool
  passEnds : Bool

/-- Parity that no single member explains: the band is queued, so that its chunks are judged by their own CRC (R311). -/
def State.patrolBad (s : State) (k : Nat) : State :=
  let s := ((s.raise Fld.STR_ERR_PATROL_MISMATCH).wr Fld.STR_ERR_INFO_STRIPE_ID k).bump Fld.STR_STAT_MISMATCH_COUNT
  (s.record Blk.STR 0x2002 k).gcxWork 3 (bandOf k)

/-- The finding of a patrol read on a stripe (R311): erasures that can be solved are reconstructed, and the band is queued. -/
def State.patrolFinding (s : State) (k : Nat) (y : Stripe) (f : PatrolFound) : State :=
  let at_ (pos : Nat) : List Nat := (f.erasures.filter (fun x => x.2 == pos)).map (·.1)
  if f.erasures = [] then
    if f.differs then
      match f.culprits with
      | [m] =>
        if 2 ≤ y.p then
          ((s.modStripe k (fun x => x.fail m)).bump Fld.STR_STAT_PATROL_FIXED_COUNT).gcxWork 3 (bandOf k)
        else s.patrolBad k
      | _ => s.patrolBad k
    else s
  else
    (s.bump Fld.STR_STAT_RECON_COUNT (f.erasures.filter (fun e => y.solvable (at_ e.2))).length).gcxWork 3 (bandOf k)

/-- PATROL_STRIPE_CHECK: patrol checks one stripe (R310, R311); the result for a band that reclamation has claimed or erases is
discarded. -/
def State.patrolCheck (s : State) (k : Nat) (f : PatrolFound) : State :=
  if !s.rdb Fld.STR_STATUS_PATROLLING then s
  else
    match s.patrolled.find? (fun e => e.1 == k), s.str.bands.look (bandOf k) with
    | some (_, y), some b =>
      let s := if b.st = .inUse then s.patrolFinding k y f else s
      let s := { s with str := { s.str with patrolCursor := k } }
      let all := s.patrolled
      let done := all.filter (fun e => match s.str.bands.look (bandOf e.1) with
        | some x => decide (x.tClose ≤ b.tClose)
        | none => false)
      let s := if f.passEnds then
          (s.bump Fld.STR_PATROL_PROGRESS_PASSES).wr Fld.STR_PATROL_PROGRESS_PCT 0
        else s.wr Fld.STR_PATROL_PROGRESS_PCT (done.length * 100 / max 1 all.length)
      if f.budgetEnds then s.wr Fld.STR_STATUS_PATROLLING 0 else s
    | _, _ => s

/-! ## Rebuild -/

/-- The members to spare in the stripe of a band that has fewest (R312). -/
def State.bandSpare (s : State) (bk : Nat) : Nat :=
  (s.stripesOf bk).foldl (fun a e => min a (e.2.p - e.2.failed.length)) 256

/-- REBUILD_BAND: the band that comes first, by members to spare and then by age, is reconstructed and goes to GCX for relocation; a band
GCX has already claimed keeps that claim and moves to the front (R312). -/
def State.rebuildBand (s : State) : State :=
  if !(s.rdb Fld.STR_CTRL_ENABLE && s.rdb Fld.STR_CTRL_REBUILD_EN) then s
  else
    let age (bk : Nat) : Nat := match s.str.bands.look bk with
      | some b => b.tClose
      | none => 0
    let waiting := s.str.rebuild.filter (fun bk => !s.gcx.work.any (fun w => w.cls == 1 && w.band == bk))
    let first (a b : Nat) : Bool :=
      decide (s.bandSpare a < s.bandSpare b) || (s.bandSpare a == s.bandSpare b && decide (age a ≤ age b))
    match waiting with
    | [] => s
    | x :: rest =>
      let bk := rest.foldl (fun a b => if first a b then a else b) x
      let n := (s.stripesOf bk).foldl (fun a e => a + e.2.failed.length * 4) 0
      let s := s.bump Fld.STR_STAT_RECON_COUNT n
      match s.str.bands.look bk with
      | some b =>
        if b.st = .inUse then s.gcxWork 1 bk
        else
          let w : GcxWork := { cls := 1, band := bk }
          { s with gcx := { s.gcx with work := w :: s.gcx.work } }
      | none => s

/-! ## The commands -/

def execDestageStripeProgram (stripe : Nat) (s : State) : Res := ended (s.stripeProgram stripe)
def execOpenStripeComplete (at_ : StripeAt) (found : List Found) (s : State) : Res := ended (s.stripeComplete at_ found)
def execReconstruct (stripe : Nat) (bad : List (Nat × List Nat)) (s : State) : Res := ended (s.reconstruct stripe bad)
def execSpanUpdate (op band row : Nat) (change : Option (Nat × Nat × Nat)) (s : State) : Res :=
  ended (s.spanUpdate op band row change)
def execSpanMessageReceive (m : SpanMsg) (s : State) : Res := ended (s.spanReceive m)
def execSpanAckReceive (m : SpanMsg) (s : State) : Res := ended (s.spanAck m)
def execSpanAckTimeout (stripe : Nat) (s : State) : Res := ended (s.spanTimeout stripe)
def execStripeLost (stripe : Nat) (bad : List (Nat × List Nat)) (s : State) : Res := ended (s.stripeLost stripe bad)
def execLostChunkSweep (s : State) : Res := ended s.lostSweep
def execPatrolTrigger (s : State) : Res := ended s.patrolTrigger
def execPatrolStripeCheck (stripe : Nat) (erasures : List (Nat × Nat)) (differs : Bool) (culprits : List Nat)
    (budgetEnds passEnds : Bool) (s : State) : Res :=
  ended (s.patrolCheck stripe ⟨erasures, differs, culprits, budgetEnds, passEnds⟩)
def execRebuildBand (s : State) : Res := ended s.rebuildBand

end Sys2Proof.Machine
end

