-- ==== Sys2Proof/Machine/Gcx.lean ====
section
/-!
DEFINITION. The commands of space reclamation (R316 to R327): victim choice and its score, relocation and its order, erase, the
reference sweep and the fold.
-/
namespace Sys2Proof.Machine

open Sys2Proof

/-! ## Live chunks -/

/-- The index entry of a chunk that this head's halves hold. -/
def State.idxOfChunk (s : State) (addr : Nat) : Option (Nat × IdxEntry) := s.ddp.idx.first? (fun _ e => e.addr == addr)

/-- A chunk is valid by R321: its index entry is not DYING, or, where it has none, a version that an epoch holds names it. -/
def State.chunkValid (s : State) (addr : Nat) : Bool :=
  match s.idxOfChunk addr with
  | some (_, e) => !e.dying
  | none => s.namers addr != []

/-- The chunks of a band; those of spanning stripes lie in no band. -/
def State.bandChunks (s : State) (bk : Nat) : Assoc Chunk :=
  s.map.chunks.filter (fun e => decide (e.1 < 2 ^ 64) && bandOf e.2.stripe == bk)

/-- The valid chunks of a band (R321). -/
def State.liveChunks (s : State) (bk : Nat) : Assoc Chunk := (s.bandChunks bk).filter (fun e => s.chunkValid e.1)

/-- Bytes of a chunk's slot, as its address gives them (R245). -/
def slotBytes (addr : Nat) : Nat := bitsOf addr 52 11 * 64

/-- Valid chunk bytes of a band. -/
def State.liveBytes (s : State) (bk : Nat) : Nat := (s.liveChunks bk).foldl (fun a e => a + slotBytes e.1) 0

/-- A relocation is shared when the chunk is indexed or a retained epoch holds it (R323). -/
def State.chunkShared (s : State) (addr : Nat) : Bool :=
  (s.idxOfChunk addr).isSome ||
  s.map.leaves.any (fun l =>
    (s.holdingCuts (leafNs l.1)).any (fun c => match Leaf.at_ l.2 (some c) with
      | some v => v.kind == 1 && v.addr == addr
      | none => false))

/-! ## Victims -/

/-- A band may become a victim: it is IN_USE and every stripe of it is CLOSED, DEGRADED, SEALED or LOST (R316). -/
def State.eligible (s : State) (bk : Nat) : Bool :=
  match s.str.bands.look bk with
  | some b => b.st == .inUse && s.ownsPg (bk % 65536) && (s.stripesOf bk).all (fun e => e.2.st != .opened)
  | none => false

/-- The score of R317 in Q1.16, saturating: `vNum`/`vDen` the share u, `age` in ns, `wear` in eighths of an erase. -/
def gcxScore (wV wA wW ageSatH peMax vNum vDen age wear : Nat) : Int :=
  let sat := ageSatH * 3600000000000
  let v := if vDen = 0 then 0 else wV * (vDen - vNum) / vDen
  let a := if sat = 0 then wA else wA * min age sat / sat
  let w := wW * wear / (8 * max 1 peMax)
  max (-131072) (min 131071 ((v : Int) + a - w))

/-- Space a band's programmed rows hold (R317). -/
def Band.span (b : Band) : Nat := b.d * 16384 * b.rows

/-- A band's score; none where u is at or above U_MAX. -/
def State.scoreOf (s : State) (bk : Nat) : Option Int :=
  match s.str.bands.look bk with
  | none => none
  | some b =>
    let v := s.liveBytes bk
    if b.span * s.rd Fld.GCX_SCORE2_U_MAX ≤ v * 65536 then none
    else
      let wear := b.members.foldl (fun a m => max a (s.block m).wear) 0
      some (gcxScore (s.rd Fld.GCX_SCORE0_W_V) (s.rd Fld.GCX_SCORE0_W_A) (s.rd Fld.GCX_SCORE1_W_W) (s.rd Fld.GCX_SCORE1_AGE_SAT_H)
        (s.rd Fld.FLC_WEAR_CFG_PE_MAX) v b.span (s.ctNs - b.tClose) wear)

/-- Candidates in falling order of preference: `better a b` when a comes before b. -/
def insertBy {α : Type} (better : α → α → Bool) (x : α) : List α → List α
  | [] => [x]
  | y :: t => if better x y then x :: y :: t else y :: insertBy better x t

/-- The time at which a band's last stripe closed. -/
def State.closedAt (s : State) (bk : Nat) : Nat := match s.str.bands.look bk with
  | some b => b.tClose
  | none => 0

/-- Earlier t_close first, then the lower band number (R317). -/
def State.olderBand (s : State) (a b : Nat) : Bool :=
  decide (s.closedAt a < s.closedAt b) || (s.closedAt a == s.closedAt b && decide (a / 65536 ≤ b / 65536))

/-- The higher score comes first; equal scores go by age. -/
def State.betterVictim (s : State) (a b : Nat × Int) : Bool := decide (b.2 < a.2) || (a.2 == b.2 && s.olderBand a.1 b.1)

/-- Score victims of the PGs that `p` accepts, best first (R317). -/
def State.scoreVictims (s : State) (p : Nat → Bool) : List Nat :=
  let c := s.str.bands.filter (fun e => e.2.kind != .metadata && !(e.2.slc && e.2.kind == .buffer) && p (e.1 % 65536) && s.eligible e.1)
  let sc : List (Nat × Int) := c.filterMap (fun e => (s.scoreOf e.1).map (fun x => (e.1, x)))
  (sc.foldl (fun (l : List (Nat × Int)) e => insertBy s.betterVictim e l) []).map (·.1)

/-- SLC buffer bands that may fold, oldest first (R325). -/
def State.foldVictims (s : State) : List Nat :=
  let c := s.str.bands.filter (fun e => e.2.kind == .buffer && e.2.slc && s.eligible e.1)
  (c.map (·.1)).foldl (fun l k => insertBy s.olderBand k l) []

/-- Free share of a PG, per cent: free blocks of its blocks, spares excluded (R319). -/
def Pg.freePct (p : Pg) : Nat := if p.blocks - p.spares = 0 then 0 else (p.freeBlocks - p.spares) * 100 / (p.blocks - p.spares)

/-- The victims of a class of Table 14.2, in the order in which they are taken; the fold comes before score victims. -/
def State.classVictims (s : State) (cls : Nat) : List Nat :=
  let asked := (s.gcx.work.filter (fun w => w.cls == cls && s.eligible w.band)).map (·.band)
  if cls = 2 then
    asked ++ (if s.slcFree < s.rd Fld.FLC_SLC_CFG_SLC_LOW then s.foldVictims else []) ++
      s.scoreVictims (fun g => decide ((s.pg g).freePct < s.rd Fld.GCX_PACE_URGENT_PCT))
  else if cls = 5 then
    asked ++ (if s.slcFree < s.rd Fld.FLC_SLC_CFG_FOLD_START then s.foldVictims else []) ++
      (if s.rdb Fld.GCX_CTRL_SCORE_EN then s.scoreVictims (fun _ => true) else [])
  else asked

/-- The space a victim's valid chunks take with parity, in sectors, against what R326 lets relocation use. -/
def State.victimFits (s : State) (bk : Nat) : Bool :=
  let p := s.pg (bk % 65536)
  let n := (s.liveChunks bk).foldl (fun a e => a + ceilDiv (slotBytes e.1) 4096) 0
  decide (n + ceilDiv (n * p.p) p.d ≤ p.free - p.reserved)

/-- The relocation table is full (R323). -/
def State.tableFull (s : State) : Bool := decide (2 ^ s.rd Fld.GCX_SWEEP_TABLE_LOG2 ≤ s.gcx.table.length)

/-- Whether a victim may start: the errors of R323 and R326 are set where it is deferred. -/
def State.tryVictim (s : State) (bk : Nat) : State × Bool :=
  let err (f : Field) : State := (s.raise f).wr Fld.GCX_ERR_INFO_PG bk
  if s.tableFull && (s.liveChunks bk).any (fun e => s.chunkShared e.1) then (err Fld.GCX_ERR_TABLE_FULL, false)
  else if s.victimFits bk then (s, true)
  else (err Fld.GCX_ERR_NO_HEADROOM, false)

/-- Take the first victim that may start. -/
def State.takeVictim (s : State) : List Nat → State
  | [] => s
  | bk :: rest =>
    let q := s.tryVictim bk
    if q.2 then
      { q.1.modBand bk (fun b => { b with st := .claimed }) with
        gcx := { q.1.gcx with work := q.1.gcx.work.filter (fun w => w.band != bk) } }
    else q.1.takeVictim rest

/-- GCX_VICTIM_CHOICE: the block's boundary (R327); then the lowest class that has work waiting is served (R318). -/
def State.victimChoice (s : State) : State :=
  let s := s.boundary Blk.GCX
  if !s.rdb Fld.GCX_CTRL_ENABLE then s
  else
    let known := s.gcx.work.filter (fun w => match s.str.bands.look w.band with
      | some b => b.st == .inUse
      | none => false)
    let s := { s with gcx := { s.gcx with work := known } }
    match [1, 2, 3, 4, 5].find? (fun c => s.classVictims c != []) with
    | some c => s.takeVictim (s.classVictims c)
    | none => s

/-! ## Relocation -/

/-- Copy one valid chunk into a relocation or fold stripe of the same PG, as stored (R322 step 2). -/
def State.copyChunk (s : State) (bk : Nat) (kind : StripeKind) (m : Nat × StripeAt × Nat) : State :=
  let src := m.1
  let at_ := m.2.1
  match (s.liveChunks bk).look src with
  | none => s
  | some c =>
    let dst := putBits (putBits m.2.2 52 11 (bitsOf src 52 11)) 63 1 (bitsOf src 63 1)
    if s.gcx.moves.any (fun x => x.src == src) || s.map.chunks.has dst || at_.pg != bk % 65536 || bandOf at_.id == bk then s
    else
      let s := s.openStripe at_ kind
      match s.stripe at_.id with
      | none => s
      | some y =>
        if y.kind != kind || y.st != .opened || y.full then s
        else
          let n := ceilDiv (slotBytes src) 4096
          let all := n + ceilDiv (n * y.p) y.d
          let s := (s.setStripe at_.id { y with sectors := y.sectors + all }).modPg at_.pg (fun p => { p with free := p.free - all })
          let shared := s.chunkShared src
          let idx := s.idxOfChunk src
          let s := match idx with
            | some (h, _) => (s.pin h).modBand bk (fun b => { b with pins := h :: b.pins })
            | none => s
          let mv : GcxMove := { src := src, dst := dst, stripe := at_.id, recorded := false }
          let s := { s with map := { s.map with chunks := s.map.chunks.put dst { c with stripe := at_.id } }
                            gcx := { s.gcx with moves := s.gcx.moves ++ [mv]
                                                table := if shared then s.gcx.table.put src dst else s.gcx.table } }
          let s := s.bump Fld.GCX_STAT_RELOC_BYTES (slotBytes src)
          let dedup := match s.adm.nss.look c.nsid with
            | some x => x.dedup
            | none => false
          if idx.isNone && dedup && decide (s.ddp.deferQ.length * 2 < 2 ^ s.rd Fld.DDP_IDX_CFG_DEFER_LOG2) then
            let e : DeferEnt := { leaf := c.leaf, wseq := c.wseq, addr := dst }
            s.deferPush e
          else s

/-- Steps 1 and 2 of R322 on a claimed band: once every valid chunk is copied the band is COPIED. -/
def State.relocate (s : State) (bk : Nat) (kind : StripeKind) (moves : List (Nat × StripeAt × Nat)) : State :=
  let s := moves.foldl (fun s m => s.copyChunk bk kind m) s
  if (s.liveChunks bk).all (fun e => s.gcx.moves.any (fun x => x.src == e.1)) then s.modBand bk (fun b => { b with st := .copied }) else s

/-- RELOCATION_CLAIM: steps 1 and 2 of R322 on the victim chosen. -/
def State.relocationClaim (s : State) (bk : Nat) (moves : List (Nat × StripeAt × Nat)) : State :=
  match s.str.bands.look bk with
  | some b => if b.st = .claimed && s.ownsPg (bk % 65536) then s.relocate bk .reloc moves else s
  | none => s

/-- FOLD_BAND: the oldest SLC buffer band is folded into native-mode fold stripes (R325), when the victim choice has taken it or the
share free is below FOLD_START. -/
def State.foldBand (s : State) (moves : List (Nat × StripeAt × Nat)) : State :=
  let native := moves.map (fun m => (m.1, { m.2.1 with slc := false }, m.2.2))
  match s.str.bands.first? (fun k b => b.st == .claimed && b.slc && b.kind == .buffer && s.ownsPg (k % 65536)) with
  | some (bk, _) => s.relocate bk .fold native
  | none =>
    if s.rdb Fld.GCX_CTRL_ENABLE && decide (s.slcFree < s.rd Fld.FLC_SLC_CFG_FOLD_START) then
      match s.foldVictims with
      | [] => s
      | bk :: _ =>
        let q := s.tryVictim bk
        if q.2 then (q.1.modBand bk (fun b => { b with st := .claimed })).relocate bk .fold native else q.1
    else s

/-- The summary entries of a copied chunk: the index entry's where it is indexed, otherwise its leaf entry's (R320, R321). -/
def State.moveDeltas (s : State) (m : GcxMove) : List Delta :=
  match s.idxOfChunk m.src, s.map.chunks.look m.src with
  | some (h, _), some c =>
    [{ kind := 5, reloc := true, nsid := c.nsid, laddr := h, addr := m.dst, wseq := c.wseq, pg := c.pg }]
  | none, some c =>
    (s.namers m.src).map (fun q =>
      { kind := if leafTree q.1 = 0 then 1 else 2, reloc := true, nsid := leafNs q.1, laddr := q.1 % 2 ^ 64, addr := m.dst, wseq := q.2,
        pg := c.pg })
  | _, none => []

/-- The band a move's source lies in. -/
def State.moveBand (s : State) (m : GcxMove) : Nat := match s.map.chunks.look m.src with
  | some c => bandOf c.stripe
  | none => 2 ^ 48

/-- RELOCATION_BATCH_RECORD: the parity of a relocation or fold stripe has passed program: the batched MAPDELTA record of its summary
entries is written (R255, R322 step 3). -/
def State.relocRecord (s : State) (k : Nat) : State :=
  match s.stripe k with
  | none => s
  | some y =>
    let ms := s.gcx.moves.filter (fun m => m.stripe == k && !m.recorded)
    if !(y.kind == .reloc || y.kind == .fold) || !(y.st == .closed || y.st == .degraded) || ms == [] then s
    else
      let ds := ms.flatMap s.moveDeltas
      let bands := ms.foldl (fun (a : NatSet) m => a.insert (s.moveBand m)) []
      let mark (m : GcxMove) : GcxMove := if m.stripe = k then { m with recorded := true } else m
      let s := { s with gcx := { s.gcx with moves := s.gcx.moves.map mark } }
      if ds = [] then s
      else
        let j := s.nextJseq
        let s := bands.foldl (fun (s : State) bk => s.modBand bk (fun b => { b with waits := b.waits.insert j })) s
        s.issue (.mapDelta ds) (1 + ceilDiv ds.length 2) (s.pg (k % 65536)).oset

/-- RELOCATION_RECORDS_PERSIST: every batched record of the band's chunks is persistent: its pins are released, and it is free to erase,
or HELD with shared chunks (R322 step 4, R323). -/
def State.relocPersist (s : State) (bk : Nat) : State :=
  match s.str.bands.look bk with
  | none => s
  | some b =>
    let mine := s.gcx.moves.filter (fun m => s.moveBand m == bk)
    if b.st != .copied || b.waits != [] || mine.any (fun m => !m.recorded) then s
    else
      let held := mine.any (fun m => s.gcx.table.has m.src)
      let s := b.pins.foldl State.unpin s
      let b' : Band := { b with st := if held then .held else .erasable, heldPass := s.gcx.passes, pins := [] }
      { s with str := { s.str with bands := s.str.bands.put bk b' }
               gcx := { s.gcx with moves := s.gcx.moves.filter (fun m => s.moveBand m != bk) } }

/-- Step 5 of R322 begins, or begins again for the members whose erase has not passed: the erases go out, and the band's chunks are
gone; retired blocks are not erased. -/
def State.eraseBand (s : State) (bk : Nat) : State :=
  match s.str.bands.look bk with
  | none => s
  | some b =>
    let left := if b.st = .erasing then b.eraseLeft
      else (List.range b.members.length).foldl (fun (a : NatSet) i => if (s.block (b.members.getD i 0)).bad then a else a.insert i) []
    let s := { s with map := { s.map with chunks := s.map.chunks.filter (fun e => 2 ^ 64 ≤ e.1 || bandOf e.2.stripe != bk) } }
    let s := s.modBand bk (fun b => { b with st := .erasing, eraseLeft := left })
    let s := left.foldl (fun (s : State) i =>
      let a := b.members.getD i 0
      let l : LunSt := { erasing := true, suspended := 0, reads := 0, foreign := false }
      { s with flc := { s.flc with luns := s.flc.luns.put (lunOf a) l } }.emit (.erase (blockAddr a))) s
    if left = [] then s.bandErased bk else s

/-- BAND_ERASE: a band that is free to erase, and holds no valid chunk, is erased (R322 step 5). -/
def State.bandErase (s : State) (bk : Nat) : State :=
  match s.str.bands.look bk with
  | some b =>
    if (b.st == .erasable || b.st == .erasing) && s.ownsPg (bk % 65536) && s.liveChunks bk == [] then s.eraseBand bk else s
  | none => s

/-! ## The reference sweep -/

/-- The leaf entries the table says to rewrite: leaf key, write sequence, new address (R323). -/
def State.sweepMarks (s : State) : List (Nat × Nat × Nat) :=
  s.map.leaves.flatMap (fun l => l.2.filterMap (fun v =>
    if v.kind = 1 then (s.gcx.table.look v.addr).map (fun d => (l.1, v.wseq, d)) else none))

/-- REFERENCE_SWEEP: the sweep of R323 reads every leaf page of the sets this head owns, and writes a RELOC entry with the new address
for each leaf entry that names a relocated chunk, a record for each ownership set. -/
def State.refSweep (s : State) : State :=
  if !s.rdb Fld.GCX_CTRL_ENABLE || s.gcx.sweeping then s
  else
    let s := { s with gcx := { s.gcx with passes := s.gcx.passes + 1, sweeping := true, sweepRecs := [] } }
    let oset (leaf : Nat) : Nat := match s.adm.nss.look (leafNs leaf) with
      | some n => n.oset
      | none => 0
    let marks := s.sweepMarks.filter (fun m => s.setState (oset m.1) == setOwned)
    let sets := marks.foldl (fun (a : NatSet) m => a.insert (oset m.1)) []
    sets.foldl (fun (s : State) o =>
      let ds : List Delta := (marks.filter (fun m => oset m.1 == o)).map (fun m =>
        { kind := if leafTree m.1 = 0 then 1 else 2, reloc := true, nsid := leafNs m.1, laddr := m.1 % 2 ^ 64, addr := m.2.2, wseq := m.2.1,
          pg := leafTree m.1 - 1 })
      let j := s.nextJseq
      let s := { s with gcx := { s.gcx with sweepRecs := s.gcx.sweepRecs.insert j } }
      s.issue (.mapDelta ds) (1 + ceilDiv ds.length 2) o) s

/-- REFERENCE_SWEEP_END: a pass ends when every record it wrote is persistent: the bands that were HELD before it began are free to
erase, and their table entries go (R323). -/
def State.refSweepEnd (s : State) : State :=
  if !s.gcx.sweeping || s.gcx.sweepRecs != [] then s
  else
    let s := s.bump Fld.GCX_SWEEP_PASSES_COUNT
    let done := (s.str.bands.filter (fun e => e.2.st == .held && decide (e.2.heldPass < s.gcx.passes))).map (·.1)
    let s := done.foldl (fun (s : State) bk => s.modBand bk (fun b => { b with st := .erasable })) s
    let gone (src : Nat) : Bool := match s.map.chunks.look src with
      | some c => done.contains (bandOf c.stripe)
      | none => true
    { s with gcx := { s.gcx with sweeping := false, table := s.gcx.table.filter (fun e => !gone e.1) } }

/-- GCX_RESCORE: u is computed afresh for every band of the PGs held, and a band with u = 0 is erased at once (R324). -/
def State.rescore (s : State) : State :=
  if !s.rdb Fld.GCX_CTRL_ENABLE then s
  else
    let dead := (s.str.bands.filter (fun e =>
      e.2.kind != .metadata && s.eligible e.1 && (s.stripesOf e.1) != [] && s.liveChunks e.1 == [])).map (·.1)
    dead.foldl State.eraseBand s

/-! ## The commands -/

def execGcxVictimChoice (s : State) : Res := ended s.victimChoice
def execRelocationClaim (band : Nat) (moves : List (Nat × StripeAt × Nat)) (s : State) : Res := ended (s.relocationClaim band moves)
def execRelocationBatchRecord (stripe : Nat) (s : State) : Res := ended (s.relocRecord stripe)
def execRelocationRecordsPersist (band : Nat) (s : State) : Res := ended (s.relocPersist band)
def execBandErase (band : Nat) (s : State) : Res := ended (s.bandErase band)
def execReferenceSweep (s : State) : Res := ended s.refSweep
def execReferenceSweepEnd (s : State) : Res := ended s.refSweepEnd
def execGcxRescore (s : State) : Res := ended s.rescore
def execFoldBand (moves : List (Nat × StripeAt × Nat)) (s : State) : Res := ended (s.foldBand moves)

end Sys2Proof.Machine
end

