-- ==== Sys2Proof/Machine/Rdm.lean ====
section
/-!
DEFINITION. RDM: queue pairs and their reliability and rates (R134 to R143), memory windows (R144 to R151), on-demand paging (R152 to
R154) and the translation caches (R155).
-/
namespace Sys2Proof.Machine

open Sys2Proof

/-! ## Queue pairs -/

/-- `RDM_QP_INUSE`: queue pairs not in RESET. -/
def State.countQps (s : State) : State := s.wr Fld.RDM_QP_INUSE_COUNT s.rdm.qps.length

/-- A message that is being received ends undrained with its queue pair (R151). -/
def State.dropMsg (s : State) (x : Qp) : State :=
  match x.msg with
  | some m => match m.window with
    | some i => s.putWin i { s.win i with outstanding := (s.win i).outstanding - 1 }
    | none => s
  | none => s

/-- A queue pair enters ERROR: its outstanding work ends with STS_QP_FAILED, and its consumer ends what it carries (R137). -/
def State.qpError (s : State) (q : Nat) : State :=
  match s.rdm.qps.look q with
  | none => s
  | some x =>
    if x.st = .error then s
    else
      let s := (s.dropMsg x).setQp q { x with st := .error, msg := none, timer := none, probe := none, una := x.nxt, missing := none,
                                              faultAt := none }
      let s := { s with rdm := { s.rdm with faults := s.rdm.faults.filter (fun f => f.qp != q) } }
      let s := s.emit (.qpEnded x.consumer q STS_QP_FAILED)
      if x.consumer = 1 then (s.queuesOn (.rdma q)).foldl State.queueLost s
      else if x.consumer = 2 then
        { s with kvs := { s.kvs with sessions := s.kvs.sessions.mapVal (fun _ k =>
            if k.qp = q ∧ k.attached = true then { k with attached := false } else k) } }
      else s

/-- A queue pair fails with a register error (R139). -/
def State.qpFails (s : State) (q : Nat) (f : Field) : State := ((s.raise f).wr Fld.RDM_ERR_QP_QP q).qpError q

/-- The rate a queue pair starts at (R140). -/
def State.initRate (s : State) (line : Nat) : Frac :=
  let r := s.rd Fld.RDM_CC2_INIT_RATE
  Frac.int (if r = 0 then line else r)

/-- A queue pair as its consumer creates it, in INIT: the defaults of `RDM_QP_TIMER` and `RDM_RNR` (R139, R157). -/
def State.newQp (s : State) (consumer tenant engine line : Nat) : Qp :=
  { st := .init, consumer := consumer, tenant := tenant, engine := engine, expPsn := 0, nakSent := false, msg := none, una := 0, nxt := 0,
    retries := 0, rnrs := 0, ackTimeout := s.rd Fld.RDM_QP_TIMER_ACK_TIMEOUT, retryCnt := s.rd Fld.RDM_QP_TIMER_RETRY_CNT,
    rnrRetry := s.rd Fld.RDM_RNR_RNR_RETRY, timer := none, rate := s.initRate line, line := line, probe := none, probeAt := s.now,
    lastSend := s.now, missing := none, faultAt := none, rnrWait := false }

/-- A further queue pair fits the head, and an engine (R134). -/
def State.qpRoom (s : State) (engine : Nat) : Bool :=
  decide (s.rdm.qps.length < s.rd Fld.RDM_LIMITS_MAX_QP ∧ s.rdm.qps.countP (fun _ x => x.engine == engine) < 65536)

/-- QP_MODIFY: a consumer block moves a queue pair on by Table 06.2: to INIT (1), with its consumer, tenant, engine and line rate; to
RTR (2), with the remote PSN; to RTS (3), with its own; to ERROR (4); to RESET (0). -/
def State.qpModify (s : State) (q target consumer tenant engine line psn : Nat) : State :=
  if !s.rdb Fld.RDM_CTRL_ENABLE || decide (262144 ≤ q) then s
  else
    match target, s.rdm.qps.look q with
    | 0, some x =>
      let s := if x.st = .error then s else s.dropMsg x
      { s with rdm := { s.rdm with qps := s.rdm.qps.del q, faults := s.rdm.faults.filter (fun f => f.qp != q) } }.countQps
    | 1, none => if s.qpRoom engine ∧ engine < 8 then (s.setQp q (s.newQp consumer tenant engine line)).countQps else s
    | 2, some x => if x.st = .init then s.setQp q { x with st := .rtr, expPsn := psn % 2 ^ 24 } else s
    | 3, some x => if x.st = .rtr then s.setQp q { x with st := .rts, una := psn % 2 ^ 24, nxt := psn % 2 ^ 24 } else s
    | 4, some _ => s.qpError q
    | _, _ => s

/-- RDMA_CM_REQUEST: a connection request on queue pair 1 of a port, in Unreliable Datagram, for the service of a port number: NVMe/RDMA on
a listener's port, Enore on `KVS_ENORE.PORT` (R134, R135).  It is classified to a tenant, and a Reliable Connected queue pair is set
up in RTS with the lowest free index; its engine is that of the port's first lane. -/
def State.cmRequest (s : State) (lane port tenant line remotePsn ownPsn : Nat) : State :=
  let nvme := s.rdb Fld.NVF_CTRL_ENABLE &&
    (List.range 64).any (fun l => s.rd Fld.NVF_LISTEN_TRANSPORT l == 2 && s.rd Fld.NVF_LISTEN_PORT l == port)
  let enore := s.rdb Fld.KVS_CTRL_ENABLE && s.rd Fld.KVS_ENORE_PORT == port
  let engine := lane / 4
  if !s.rdb Fld.RDM_CTRL_ENABLE || !(nvme || enore) || !s.qpRoom engine || decide (8 ≤ engine) then s
  else
    match (List.range (s.rdm.qps.length + 1)).find? (fun q => !s.rdm.qps.has q) with
    | some q =>
      let x := s.newQp (if nvme then 1 else 2) tenant engine line
      (s.setQp q { x with st := .rts, expPsn := remotePsn % 2 ^ 24, una := ownPsn % 2 ^ 24, nxt := ownPsn % 2 ^ 24 }).countQps
    | none => s

/-! ## The requester -/

/-- PSN distance from a to b. -/
def psnDist (a b : Nat) : Nat := (b + 2 ^ 24 - a % 2 ^ 24) % 2 ^ 24

/-- A PSN acknowledges packets of a queue pair: it lies among those outstanding. -/
def Qp.covers (x : Qp) (psn : Nat) : Bool := decide (psnDist x.una psn < psnDist x.una x.nxt)

/-- Every packet before `psn` is acknowledged: progress, which ends the counts of R139. -/
def State.qpProgress (s : State) (q psn : Nat) : State :=
  match s.rdm.qps.look q with
  | none => s
  | some x =>
    if x.una = psn % 2 ^ 24 then s
    else
      s.setQp q { x with una := psn % 2 ^ 24, retries := 0, rnrs := 0, rnrWait := false
                         timer := if psn % 2 ^ 24 = x.nxt then none else some (s.now + ackPeriod x.ackTimeout) }

/-- ROCE_ACK_RECEIVE: an acknowledgement frees the packets it covers (R139). -/
def State.ackReceive (s : State) (q psn : Nat) : State :=
  match s.rdm.qps.look q with
  | some x => if x.st = .rts ∧ x.covers psn = true then s.qpProgress q (psn + 1) else s
  | none => s

/-- Resend from the oldest unacknowledged PSN, or fail once RETRY_CNT resends in a row have brought no progress; the resend that follows
an RNR NAK counts against RNR_RETRY only (R139). -/
def State.goBack (s : State) (q : Nat) : State :=
  match s.rdm.qps.look q with
  | none => s
  | some x =>
    if !x.rnrWait && decide (x.retryCnt ≤ x.retries) then s.qpFails q Fld.RDM_ERR_RETRY_EXC
    else
      let s := s.setQp q { x with retries := if x.rnrWait then x.retries else x.retries + 1, rnrWait := false, timer := some (s.now + ackPeriod x.ackTimeout), lastSend := s.now }
      (s.bump Fld.RDM_ENG_STAT_RETRANS 1 x.engine).emit (.roceResend q x.una)

/-- ROCE_NAK_SEQ_RECEIVE: a NAK Sequence Error names the PSN the peer expects (R139). -/
def State.nakSeqReceive (s : State) (q psn : Nat) : State :=
  match s.rdm.qps.look q with
  | some x => if x.st = .rts ∧ x.covers psn = true then (s.qpProgress q psn).goBack q else s
  | none => s

/-- The IBTA RNR timer values, in ns, by code. -/
def rnrNs (code : Nat) : Nat :=
  [655360000, 10000, 20000, 30000, 40000, 60000, 80000, 120000, 160000, 240000, 320000, 480000, 640000, 960000, 1280000, 1920000,
   2560000, 3840000, 5120000, 7680000, 10240000, 15360000, 20480000, 30720000, 40960000, 61440000, 81920000, 122880000, 163840000,
   245760000, 327680000, 491520000].getD (code % 32) 0

/-- ROCE_RNR_NAK_RECEIVE: the timer restarts with the value the NAK carries, and the NAK counts against RNR_RETRY; 7 is unlimited
(R139). -/
def State.rnrReceive (s : State) (q psn code : Nat) : State :=
  match s.rdm.qps.look q with
  | some x =>
    if x.st = .rts ∧ x.covers psn = true then
      let s := s.qpProgress q psn
      match s.rdm.qps.look q with
      | some x =>
        if x.rnrRetry ≠ 7 ∧ x.rnrRetry ≤ x.rnrs then s.qpFails q Fld.RDM_ERR_RETRY_EXC
        else s.setQp q { x with rnrs := x.rnrs + 1, rnrWait := true, timer := some (s.now + rnrNs code * unitsPerNs) }
      | none => s
    else s
  | none => s

/-- ROCE_RETRANSMIT_EXPIRY (R139). -/
def State.retransmit (s : State) (q : Nat) : State :=
  match s.rdm.qps.look q with
  | some x => match x.timer with
    | some t => if x.st = .rts then (s.advance t).goBack q else s
    | none => s
  | none => s

/-! ## Rates -/

/-- CC_PROBE_SEND: once per probe interval an outgoing packet is marked and timed; the fields of `RDM_CC0` to `RDM_CC2` take effect here
(R140, R157). -/
def State.probeSend (s : State) (q : Nat) : State :=
  match s.rdm.qps.look q with
  | none => s
  | some x =>
    if x.st != .rts || !s.rdb Fld.RDM_CTRL_CC_EN then s
    else
      let s := (s.advanceUs x.probeAt (s.rd Fld.RDM_CC2_PROBE_US)).boundary Blk.RDM
      let s := s.roceSend q 0
      match s.rdm.qps.look q with
      | some y => (s.setQp q { y with probe := some (x.nxt, s.now), probeAt := s.now }).emit (.roceProbe q x.nxt)
      | none => s

/-- The rate after a probe's round trip (R140). -/
def State.rateAfter (s : State) (x : Qp) (rtt : Nat) : Frac :=
  let target := s.rd Fld.RDM_CC0_TARGET_US * 1000
  if rtt ≤ target then
    let r := x.rate.add (Frac.int (s.rd Fld.RDM_CC1_AI_STEP))
    if r.le (Frac.int x.line) then r else Frac.int x.line
  else
    let cut := (x.rate.mul (Frac.of (s.rd Fld.RDM_CC0_GAIN) 65536)).mul (Frac.of ((rtt : Int) - target) rtt)
    let r := x.rate.sub cut
    let low := Frac.int (s.rd Fld.RDM_CC1_MIN_RATE)
    if low.le r then r else low

/-- CC_PROBE_ACK: the acknowledgement that covers the probe arrives so many ns after it left (R140). -/
def State.probeAck (s : State) (q rttNs : Nat) : State :=
  match s.rdm.qps.look q with
  | none => s
  | some x =>
    match x.probe with
    | none => s
    | some (psn, at_) =>
      let s := (s.advance (at_ + rttNs * unitsPerNs)).ackReceive q psn
      match s.rdm.qps.look q with
      | some y => s.setQp q { y with probe := none, rate := if s.rdb Fld.RDM_CTRL_CC_EN then s.rateAfter y rttNs else y.rate }
      | none => s

/-- CC_IDLE_EXPIRY: a queue pair that has sent nothing for 1 ms returns to its initial rate (R140). -/
def State.ccIdle (s : State) (q : Nat) : State :=
  match s.rdm.qps.look q with
  | some x => if x.st = .rts then (s.advanceUs x.lastSend 1000).setQp q { x with rate := s.initRate x.line } else s
  | none => s

/-! ## The responder -/

/-- A sequence-error NAK for the gap, or the fault, at a PSN (R138, R152). -/
def State.nakSeq (s : State) (q : Nat) (x : Qp) (psn : Nat) : State :=
  ((s.setQp q { x with nakSent := true }).bump Fld.RDM_ENG_STAT_NAK_SEQ 1 x.engine).emit (.roceNak q psn 0)

/-- An RNR NAK with a timer code. -/
def State.rnrSend (s : State) (q : Nat) (x : Qp) (code : Nat) : State :=
  (s.bump Fld.RDM_ENG_STAT_RNR_SENT 1 x.engine).emit (.roceRnr q code)

/-- NAK Remote Access Error, with a refusal record to a consumer where the window names one (R149, R150). -/
def State.accNak (s : State) (q : Nat) (x : Qp) (psn : Nat) (refusal : Option (Nat × Nat × Nat)) : State :=
  let s := (s.bump Fld.RDM_ENG_STAT_ACC_NAK 1 x.engine).emit (.roceNak q psn 2)
  match refusal with
  | some (consumer, status, i) => s.emit (.roceRefusal consumer status q psn i)
  | none => s

/-- How R149 ends for a message that names a window. -/
inductive Valid where
  | ok
  /-- Steps 1 to 5 with STS_ACCESS_DENIED; clear where the index names no window. -/
  | denied (known : Bool)
  /-- R150. -/
  | revoked
deriving DecidableEq, Repr

/-- Steps 1 to 5 of R149. -/
def State.validate (s : State) (x : Qp) (q : Nat) (op : RdmaOp) (rkey off len : Nat) : Valid :=
  let i := rkey / 4096
  let w := s.win i
  if s.winCount ≤ i then .denied false
  else if w.gen ≠ rkey % 4096 ∨ w.st = winOpening then .denied true
  else if w.st ≠ winOpen then .revoked
  else
    let right := match op with
      | .read => w.d.rd
      | .write => w.d.wr
      | .writeImm => w.d.imm
      | _ => true
    if x.tenant ≠ w.d.tenant ∨ (w.d.qpBind = true ∧ w.d.qp ≠ q) ∨ right = false ∨ w.d.len < off + len then .denied true else .ok

/-- A message is refused by its validation. -/
def State.refuseMsg (s : State) (q : Nat) (x : Qp) (psn i : Nat) (v : Valid) : State :=
  let w := s.win i
  match v with
  | .ok => s
  | .denied false => s.accNak q x psn none
  | .denied true => s.accNak q x psn (some (w.d.consumer, STS_ACCESS_DENIED, i))
  | .revoked => (s.putWin i { w with refused := w.refused + 1 }).accNak q x psn (some (w.d.consumer, STS_WINDOW_REVOKED, i))

/-- The smallest RNR timer at or above a time and not below MIN_RNR_TIMER (R152). -/
def State.rnrCode (s : State) (ns : Nat) : Nat :=
  let least := rnrNs (s.rd Fld.RDM_RNR_MIN_RNR_TIMER)
  (([1, 2, 3, 4, 5, 6, 7, 8, 9, 10, 11, 12, 13, 14, 15, 16, 17, 18, 19, 20, 21, 22, 23, 24, 25, 26, 27, 28, 29, 30, 31]).find? (fun c =>
    decide (ns ≤ rnrNs c ∧ least ≤ rnrNs c))).getD 0

/-- An adapter fault (R152 to R154): a stall, a held READ, which the responder moves past, or a resend. -/
def State.adapterFault (s : State) (q : Nat) (x : Qp) (p : RocePacket) (i : Nat) : State :=
  let w := s.win i
  if !w.d.pageable then s.record Blk.RDM 0x2001 q i p.page
  else
    let s := s.bump Fld.RDM_ODP_FAULTS_COUNT
    let since := x.faultAt.getD s.now
    let x := { x with faultAt := some since }
    let s := s.setQp q x
    let soon := decide ((s.now - since) + p.resident * unitsPerNs ≤ w.d.deadlineUs * unitsPerUs)
    let held := soon && p.op == .read
    let f : RdmFault := { engine := x.engine, qp := q, window := i, page := p.page, held := held, off := if held then p.off else 0,
                          len := if held then p.len else 0, psn := if held then p.psn else 0 }
    let known := s.rdm.faults.contains f
    if !known && decide (512 ≤ (s.rdm.faults.filter (fun f => f.engine == x.engine)).length) then
      ((s.raise Fld.RDM_ERR_ODP_OVF).wr Fld.RDM_ERR_QP_QP q).nakSeq q x p.psn
    else
      let s := if known then s else { s with rdm := { s.rdm with faults := s.rdm.faults ++ [f] } }
      if held then
        if x.expPsn = p.psn then s.setQp q { x with expPsn := (x.expPsn + s.packets p.len) % 2 ^ 24, nakSent := false, faultAt := none } else s
      else if soon then s.rnrSend q x (s.rnrCode p.resident)
      else s.nakSeq q x p.psn

/-- A translation is looked up in its engine's cache: a hit moves to the front; a miss stalls the queue pair for the walk (R155). -/
def State.translate (s : State) (q : Nat) (x : Qp) (key : Nat) : State :=
  let c := s.rdm.wtc.getD x.engine []
  if c.contains key then
    { s.bump Fld.RDM_ENG_STAT_WTC_HIT 1 x.engine with
      rdm := { s.rdm with wtc := s.rdm.wtc.put x.engine (key :: c.filter (fun k => k != key)) } }
  else (s.bump Fld.RDM_ENG_STAT_WTC_MISS 1 x.engine).setQp q { x with missing := some key }

/-- WTC_MISS_WALK_DONE: the walk of about 250 ns ends: the entry is the most recent of 48, and the queue pair goes on (R155). -/
def State.walkDone (s : State) (q : Nat) : State :=
  match s.rdm.qps.look q with
  | none => s
  | some x =>
    match x.missing with
    | none => s
    | some key =>
      let c := (s.rdm.wtc.getD x.engine []).filter (fun k => k != key)
      { s.setQp q { x with missing := none } with rdm := { (s.setQp q { x with missing := none }).rdm with
          wtc := s.rdm.wtc.put x.engine ((key :: c).take 48) } }

/-- PSNs a message takes at this head as responder: a READ request takes those of its response. -/
def State.psnsOf (s : State) (p : RocePacket) : Nat := if p.op = .read then s.packets p.len else 1

/-- The responder moves on past a packet that it has processed. -/
def State.packetTaken (s : State) (q : Nat) (p : RocePacket) : State :=
  match s.rdm.qps.look q with
  | some x => s.setQp q { x with expPsn := (x.expPsn + s.psnsOf p) % 2 ^ 24, nakSent := false, faultAt := none }
  | none => s

/-- A validated message is counted in OUTSTANDING, and drains (R149, R151). -/
def State.winCountMsg (s : State) (i : Nat) : State := s.putWin i { s.win i with outstanding := (s.win i).outstanding + 1 }
def State.winDrainMsg (s : State) (i : Nat) : State := s.putWin i { s.win i with outstanding := (s.win i).outstanding - 1 }

/-- The last packet of a message has been placed: it is acknowledged, drains, and is delivered where its operation asks for it (R142,
R151). -/
def State.messageEnd (s : State) (q : Nat) (psn : Nat) : State :=
  match s.rdm.qps.look q with
  | none => s
  | some x =>
    match x.msg with
    | none => s
    | some m =>
      let s := (s.setQp q { x with msg := none }).emit (.roceAck q psn)
      let s := match m.window with
        | some i => s.winDrainMsg i
        | none => s
      match m.op with
      | .send => s.emit (.roceDeliver x.consumer q none none 0 m.len)
      | .sendImm => s.emit (.roceDeliver x.consumer q m.imm none 0 m.len)
      | .writeImm => s.emit (.roceDeliver x.consumer q m.imm m.window m.off m.len)
      | _ => s

/-- An RDMA READ is answered: validated, executed, its response sent (R138, R149, R153). -/
def State.readServe (s : State) (q : Nat) (x : Qp) (psn rkey off len : Nat) : State × Bool :=
  let i := rkey / 4096
  match s.validate x q .read rkey off len with
  | .ok => ((((s.winCountMsg i).emit (.roceRead q i off len)).winDrainMsg i), true)
  | v => (s.refuseMsg q x psn i v, false)

/-- The first packet of a message is validated, once (R149); `true` where the message goes on. -/
def State.firstPacket (s : State) (q : Nat) (x : Qp) (p : RocePacket) : State × Bool :=
  let i := p.rkey / 4096
  let needs := p.op == .send || p.op == .sendImm || p.op == .writeImm
  let start (w : Option Nat) : RdmMsg := { op := p.op, window := w, off := p.off, len := p.len, imm := p.imm }
  match p.op with
  | .unsupported => (s.emit (.roceNak q p.psn 1), false)
  | .read =>
    match s.validate x q .read p.rkey p.off p.len with
    | .ok =>
      if p.resident ≠ 0 then (s.adapterFault q x p i, false)
      else
        let s := s.translate q x (i * 16384 + p.page)
        let r := s.readServe q x p.psn p.rkey p.off p.len
        (r.1, r.2)
    | v => (s.refuseMsg q x p.psn i v, false)
  | .write | .writeImm =>
    match s.validate x q p.op p.rkey p.off p.len with
    | .ok =>
      if needs && !p.slotFree then (s.rnrSend q x (s.rd Fld.RDM_RNR_MIN_RNR_TIMER), false)
      else if p.resident ≠ 0 then (s.adapterFault q x p i, false)
      else
        let s := (s.setQp q { x with msg := some (start (some i)) }).winCountMsg i
        match s.rdm.qps.look q with
        | some y => (s.translate q y (i * 16384 + p.page), true)
        | none => (s, true)
    | v => (s.refuseMsg q x p.psn i v, false)
  | .send | .sendImm =>
    if p.slotFree then (s.setQp q { x with msg := some (start none) }, true)
    else (s.rnrSend q x (s.rd Fld.RDM_RNR_MIN_RNR_TIMER), false)

/-- A later packet of a validated message: placed, or a fault of its page (R149, R152). -/
def State.laterPacket (s : State) (q : Nat) (x : Qp) (p : RocePacket) : State × Bool :=
  match x.msg with
  | none => (s.emit (.roceNak q p.psn 1), false)
  | some m =>
    match m.window with
    | some i =>
      if p.resident ≠ 0 then (s.adapterFault q x p i, false) else (s.translate q x (i * 16384 + p.page), true)
    | none => (s, true)

/-- ROCE_PACKET_RECEIVE: a packet for a queue pair in RTR or RTS, by its PSN (R138).  A packet for one stalled by a miss waits for the
walk. -/
def State.packetReceive (s : State) (q : Nat) (p : RocePacket) : State :=
  let s := if p.first then s.boundary Blk.RDM else s
  let s := s.walkDone q
  match s.rdm.qps.look q with
  | none => s
  | some x =>
    if !s.rdb Fld.RDM_CTRL_ENABLE || !(x.st == .rtr || x.st == .rts) then s
    else
      let d := psnDist x.expPsn p.psn
      if d = 0 then
        let r := if p.first then s.firstPacket q x p else s.laterPacket q x p
        if r.2 then
          let s := r.1.packetTaken q p
          if p.last then s.messageEnd q p.psn else s
        else r.1
      else if d < 2 ^ 23 then (if x.nakSent then s else s.nakSeq q x x.expPsn)
      else if p.op == .read && p.first then
        if s.rdm.faults.any (fun f => f.qp == q && f.held && f.psn == p.psn) then s
        else if p.resident ≠ 0 ∧ s.validate x q .read p.rkey p.off p.len = .ok then s.adapterFault q x p (p.rkey / 4096)
        else (s.readServe q x p.psn p.rkey p.off p.len).1
      else s.emit (.roceAck q ((x.expPsn + 2 ^ 24 - 1) % 2 ^ 24))

/-- ODP_PAGE_RESIDENT: a faulted page has become resident: its faults are over, and a READ held for it is answered, validated by
R149 as its first fault left it (R153). -/
def State.pageResident (s : State) (window page : Nat) : State :=
  let mine := s.rdm.faults.filter (fun f => f.window == window && f.page == page)
  let s := { s with rdm := { s.rdm with faults := s.rdm.faults.filter (fun f => !(f.window == window && f.page == page)) } }
  mine.foldl (fun (s : State) f =>
    match s.rdm.qps.look f.qp with
    | some x => if f.held then (s.readServe f.qp x f.psn (rkeyOf window (s.win window).gen) f.off f.len).1 else s
    | none => s) s

/-! ## Windows -/

/-- The S fields staged in `RDM_WIN_STAGE` (Table 06.4). -/
def State.stagedWin (s : State) : WinDesc :=
  { base := s.rd Fld.RDM_WIN_STAGE_BASE_VA, len := s.rd Fld.RDM_WIN_STAGE_LENGTH, qp := s.rd Fld.RDM_WIN_STAGE_QP
    qpBind := s.rdb Fld.RDM_WIN_STAGE_QP_BIND, rd := s.rdb Fld.RDM_WIN_STAGE_RD, wr := s.rdb Fld.RDM_WIN_STAGE_WR
    imm := s.rdb Fld.RDM_WIN_STAGE_IMM, pageable := s.rdb Fld.RDM_WIN_STAGE_PAGEABLE
    consumer := s.rd Fld.RDM_WIN_STAGE_CONSUMER, tenant := s.rd Fld.RDM_WIN_STAGE_TENANT
    deadlineUs := s.rd Fld.RDM_WIN_STAGE_DEADLINE_US }

/-- A write to `RDM_WIN_CMD` takes the block's one BAR0 command, or is ignored while it is busy (R157). -/
def State.winCmdBegin (s : State) (i : Nat) : State × Bool :=
  if s.rdb Fld.RDM_WIN_RESULT_BUSY then (s.raise Fld.RDM_ERR_WIN_BUSY, false)
  else
    (((s.wr Fld.RDM_WIN_RESULT_BUSY 1).wr Fld.RDM_WIN_RESULT_DONE 0).wr Fld.RDM_WIN_RESULT_INDEX i, true)

/-- WINDOW_OPEN: from a consumer's port with its descriptor, or from `RDM_WIN_CMD` with the staged one; `inArea`: the range lies in the
tenant's allotted area (R147). -/
def State.windowOpen (s : State) (i : Nat) (d : Option WinDesc) (inArea : Bool) : State :=
  match d with
  | some d => s.winOpenCmd i d inArea false
  | none =>
    let q := s.winCmdBegin i
    if q.2 then q.1.winOpenCmd i s.stagedWin inArea true else q.1

/-- WINDOW_TRANSLATIONS_LOADED (R147). -/
def State.windowLoaded (s : State) (i : Nat) : State :=
  let w := s.win i
  if w.st = winOpening then (s.putWin i { w with st := winOpen }).winResults i STS_OK false else s

/-- WINDOW_REVOKE (R148). -/
def State.windowRevoke (s : State) (i : Nat) (bar0 : Bool) : State :=
  if bar0 then
    let q := s.winCmdBegin i
    if q.2 then q.1.winRevokeCmd i true else q.1
  else s.winRevokeCmd i false

/-- WINDOW_READ_ENTRY: OP 3 reads an entry into `RDM_WIN_STAGE` (R157). -/
def State.windowRead (s : State) (i : Nat) : State :=
  let q := s.winCmdBegin i
  if !q.2 then q.1
  else if s.winCount ≤ i then q.1.winResult i true STS_BAD_DESCRIPTOR false
  else
    let s := q.1
    let w := s.win i
    let s := ((s.wr Fld.RDM_WIN_STAGE_BASE_VA w.d.base).wr Fld.RDM_WIN_STAGE_LENGTH w.d.len).wr Fld.RDM_WIN_STAGE_QP w.d.qp
    let s := ((s.wrb Fld.RDM_WIN_STAGE_QP_BIND w.d.qpBind).wrb Fld.RDM_WIN_STAGE_RD w.d.rd).wrb Fld.RDM_WIN_STAGE_WR w.d.wr
    let s := (s.wrb Fld.RDM_WIN_STAGE_IMM w.d.imm).wrb Fld.RDM_WIN_STAGE_PAGEABLE w.d.pageable
    let s := (s.wr Fld.RDM_WIN_STAGE_CONSUMER w.d.consumer).wr Fld.RDM_WIN_STAGE_TENANT w.d.tenant
    let s := ((s.wr Fld.RDM_WIN_STAGE_DEADLINE_US w.d.deadlineUs).wr Fld.RDM_WIN_STAGE_GEN w.gen).wr Fld.RDM_WIN_STAGE_STATE w.st
    let s := (s.wr Fld.RDM_WIN_STAGE_OUTSTANDING w.outstanding).wr Fld.RDM_WIN_STAGE_REFUSED w.refused
    s.winResult i true STS_OK false

/-- Steps 1 to 3 of R151. -/
def State.windowFree (s : State) (i : Nat) (timeout : Bool) : State :=
  let w := s.win i
  let s := { s with rdm := { s.rdm with wtc := s.rdm.wtc.mapVal (fun _ l => l.filter (fun k => k / 16384 != i))
                                        faults := s.rdm.faults.filter (fun f => f.window != i) } }
  (s.putWin i { w with st := winFree, outstanding := 0 }).winResults i STS_OK timeout

/-- WINDOW_DRAIN_END: OUTSTANDING of a CLOSING window is 0 (R151). -/
def State.windowDrained (s : State) (i : Nat) : State :=
  if (s.win i).st = winClosing ∧ (s.win i).outstanding = 0 then s.windowFree i false else s

/-- REVOKE_TIMEOUT: OUTSTANDING has stayed above 0 for `RDM_REVOKE_TMO`: the queue pairs that carry its messages enter ERROR (R151). -/
def State.revokeTimeout (s : State) (i : Nat) : State :=
  let w := s.win i
  if w.st = winClosing ∧ 0 < w.outstanding then
    let s := s.advanceUs w.revokedAt (s.rd Fld.RDM_REVOKE_TMO_US)
    let qs := (s.rdm.qps.filter (fun e => match e.2.msg with
      | some m => m.window == some i
      | none => false)).map (·.1)
    let s := qs.foldl (fun s q => (s.wr Fld.RDM_ERR_QP_QP q).qpError q) s
    (s.raise Fld.RDM_ERR_REVOKE_TMO).windowFree i true
  else s

/-! ## The commands -/

def execRocePacketReceive (qp : Nat) (p : RocePacket) (s : State) : Res := ended (s.packetReceive qp p)
def execOdpPageResident (window page : Nat) (s : State) : Res := ended (s.pageResident window page)
def execRoceAckReceive (qp psn : Nat) (s : State) : Res := ended (s.ackReceive qp psn)
def execRoceNakSeqReceive (qp psn : Nat) (s : State) : Res := ended (s.nakSeqReceive qp psn)
def execRoceRnrNakReceive (qp psn timer : Nat) (s : State) : Res := ended (s.rnrReceive qp psn timer)
def execRoceRetransmitExpiry (qp : Nat) (s : State) : Res := ended (s.retransmit qp)
def execCcProbeSend (qp : Nat) (s : State) : Res := ended (s.probeSend qp)
def execCcProbeAck (qp rttNs : Nat) (s : State) : Res := ended (s.probeAck qp rttNs)
def execCcIdleExpiry (qp : Nat) (s : State) : Res := ended (s.ccIdle qp)
def execQpModify (qp target consumer tenant engine line psn : Nat) (s : State) : Res :=
  ended (s.qpModify qp target consumer tenant engine line psn)
def execQpErrorEntry (qp : Nat) (s : State) : Res := ended (s.qpError qp)
def execWindowOpen (index : Nat) (d : Option WinDesc) (inArea : Bool) (s : State) : Res := ended (s.windowOpen index d inArea)
def execWindowTranslationsLoaded (index : Nat) (s : State) : Res := ended (s.windowLoaded index)
def execWindowRevoke (index : Nat) (bar0 : Bool) (s : State) : Res := ended (s.windowRevoke index bar0)
def execWindowReadEntry (index : Nat) (s : State) : Res := ended (s.windowRead index)
def execWindowDrainEnd (index : Nat) (s : State) : Res := ended (s.windowDrained index)
def execRevokeTimeout (index : Nat) (s : State) : Res := ended (s.revokeTimeout index)
def execWtcMissWalkDone (qp : Nat) (s : State) : Res := ended (s.walkDone qp)
def execRdmaCmRequest (lane port tenant line remotePsn ownPsn : Nat) (s : State) : Res :=
  ended (s.cmRequest lane port tenant line remotePsn ownPsn)

end Sys2Proof.Machine
end

