-- ==== Sys2Proof/Machine/Pol.lean ====
section
/-!
DEFINITION. POL: allocation under reserve and cap (R161 to R164), the free store (R165, R166), frees and their refusal (R168, R169), and
the states of a pool (R170, R172).
-/
namespace Sys2Proof.Machine

open Sys2Proof

/-! ## Accounts -/

abbrev poolDisabled : Nat := 0
abbrev poolFilling : Nat := 1
abbrev poolActive : Nat := 2
abbrev poolDraining : Nat := 3

def Pool.init : Pool := { cache := [], lo := 0, ring := [], taken := [] }
def State.pool (s : State) (p : Nat) : Pool := s.pol.pools.getD p Pool.init
def State.setPool (s : State) (p : Nat) (x : Pool) : State := { s with pol := { s.pol with pools := s.pol.pools.put p x } }
def State.poolSt (s : State) (p : Nat) : Nat := s.rd Fld.POL_POOL_STAT_STATE p

/-- Free buffers: COUNT less the state bits set (R166). -/
def State.poolFree (s : State) (p : Nat) : Nat := s.rd Fld.POL_POOL_CFG_COUNT p - (s.pool p).taken.length

/-- The owners whose field of pool `p` is not at its reset value, with the values. -/
def State.ownersOf (s : State) (f : Field) (p : Nat) : List (Nat × Nat) :=
  s.regs.filterMap (fun e =>
    let base := f.key 0 p
    if base ≤ e.1 ∧ (e.1 - base) % f.stride = 0 ∧ (e.1 - base) / f.stride < f.first + f.count
    then some ((e.1 - base) / f.stride, e.2) else none)

/-- Buffers an owner holds in a pool. -/
def State.held (s : State) (o p : Nat) : Nat := s.rd Fld.POL_HELD_HELD o p

/-- unmet(x) of R161. -/
def State.unmet (s : State) (o p : Nat) : Nat := s.rd Fld.POL_LIMIT_MIN o p - s.held o p

/-- U of R161. -/
def State.unmetAll (s : State) (p : Nat) : Nat :=
  (s.ownersOf Fld.POL_LIMIT_MIN p).foldl (fun a e => a + (e.2 - s.held e.1 p)) 0

/-- The test of R161. -/
def State.grants (s : State) (p o n : Nat) : Bool :=
  decide (s.held o p + n ≤ s.rd Fld.POL_LIMIT_MAX o p ∧ n ≤ s.poolFree p ∧
    s.unmetAll p - min n (s.unmet o p) ≤ s.poolFree p - n)

/-! ## The free store -/

/-- Take up to `n` indices from the ring: those no refill has taken yet, then those spilled. -/
def Pool.fromRing (x : Pool) (count : Nat) : Nat → Pool × List Nat
  | 0 => (x, [])
  | n + 1 =>
    if x.lo < count then
      let q := Pool.fromRing { x with lo := x.lo + 1 } count n
      (q.1, x.lo :: q.2)
    else match x.ring with
      | [] => (x, [])
      | i :: t =>
        let q := Pool.fromRing { x with ring := t } count n
        (q.1, i :: q.2)

/-- The cache is refilled from the ring below 64 indices and spills 64 above 192 (R165). -/
def Pool.balance (x : Pool) (count : Nat) : Pool :=
  if x.cache.length < 64 then
    let q := x.fromRing count 64
    { q.1 with cache := x.cache ++ q.2 }
  else if 192 < x.cache.length then
    { x with cache := x.cache.take (x.cache.length - 64), ring := x.ring ++ x.cache.drop (x.cache.length - 64) }
  else x

/-- Take `n` buffers: from the top of the cache (R165); their state bits are set (R166). -/
def Pool.take (x : Pool) (count : Nat) : Nat → Pool × List Nat
  | 0 => (x, [])
  | n + 1 =>
    match (x.balance count).cache with
    | [] => (x, [])
    | i :: t =>
      let y := x.balance count
      let q := Pool.take { y with cache := t, taken := y.taken.insert i } count n
      (q.1, i :: q.2)

/-- A grant: HELD rises, and the buffers go to the block (R161). -/
def State.polGrant (s : State) (p o n : Nat) : State × List Nat :=
  let q := (s.pool p).take (s.rd Fld.POL_POOL_CFG_COUNT p) n
  ((s.setPool p q.1).wr Fld.POL_HELD_HELD (s.held o p + n) o p, q.2)

/-! ## Allocation -/

/-- `POL_POOL_STAT[p].WAITING`. -/
def State.countWaits (s : State) (p : Nat) : State :=
  s.wr Fld.POL_POOL_STAT_WAITING (s.pol.waits.filter (fun w => w.pool == p)).length p

/-- A waiting request ends without a grant. -/
def State.waitFails (s : State) (p : PolWait → Bool) : State :=
  let gone := s.pol.waits.filter p
  let s := { s with pol := { s.pol with waits := s.pol.waits.filter (fun w => !p w) } }
  let s := gone.foldl (fun (s : State) w => s.emit (.polAnswer w.block w.pool w.owner STS_NO_BUFFER [])) s
  (List.range 16).foldl State.countWaits s

/-- POL_ALLOCATE: a request of a block for `n` buffers of an owner in a pool (R161 to R163). -/
def State.polAllocate (s : State) (block p o n : Nat) (wait : Bool) : State :=
  let s := s.boundary Blk.POL
  let no (s : State) : State := s.emit (.polAnswer block p o STS_NO_BUFFER [])
  let join : State :=
    if 8192 ≤ s.pol.waits.length then no (s.raise Fld.POL_ERR_WAIT_FULL)
    else
      let w : PolWait := { block := block, pool := p, owner := o, n := n }
      { s with pol := { s.pol with waits := s.pol.waits ++ [w] } }.countWaits p
  if !s.rdb Fld.POL_CTRL_ENABLE || s.poolSt p == poolDisabled || s.poolSt p == poolDraining then no s
  else if s.poolSt p = poolFilling then (if wait then join else no s)
  else if wait && s.pol.waits.any (fun w => w.pool == p && w.owner == o) then join
  else if s.grants p o n then
    let q := s.polGrant p o n
    q.1.emit (.polAnswer block p o STS_OK q.2)
  else if wait then join
  else no s

/-- The owners with waiting requests in a pool, in rising order. -/
def State.waiters (s : State) (p : Nat) : List Nat :=
  (s.pol.waits.filter (fun w => w.pool == p)).foldl (fun (a : NatSet) w => a.insert w.owner) []

/-- The owner after the one served last (R162). -/
def rotate (l : List Nat) (last : Nat) : List Nat := l.filter (fun o => decide (last < o)) ++ l.filter (fun o => decide (o ≤ last))

/-- One offer: the first owner of the round robin whose oldest request passes the test is granted it. -/
def State.offerOne (s : State) (p : Nat) : Option State :=
  let oldest (o : Nat) : Option PolWait := s.pol.waits.find? (fun w => w.pool == p && w.owner == o)
  match (rotate (s.waiters p) (s.pol.rr.getD p 1024)).find? (fun o => match oldest o with
    | some w => s.grants p o w.n
    | none => false) with
  | none => none
  | some o =>
    match oldest o with
    | none => none
    | some w =>
      let q := s.polGrant p o w.n
      let s := { q.1 with pol := { q.1.pol with waits := q.1.pol.waits.erase w, rr := q.1.pol.rr.put p o } }
      some ((s.countWaits p).emit (.polAnswer w.block p o STS_OK q.2))

/-- Offers go on while a request passes. -/
def State.offer (s : State) (p : Nat) : Nat → State
  | 0 => s
  | fuel + 1 => match s.offerOne p with
    | some t => t.offer p fuel
    | none => s

/-- Waiting requests of an ACTIVE pool are offered its free buffers. -/
def State.offerAll (s : State) (p : Nat) : State :=
  if s.rdb Fld.POL_CTRL_ENABLE ∧ s.poolSt p = poolActive then s.offer p s.pol.waits.length else s

/-! ## Frees -/

/-- A free that R168 accepts. -/
def State.freeOk (s : State) (p i o : Nat) : Bool :=
  decide (i < s.rd Fld.POL_POOL_CFG_COUNT p) && (s.pool p).taken.mem i && decide (0 < s.held o p) && s.poolSt p != poolDisabled

/-- A free is refused (R169). -/
def State.freeRefused (s : State) (block p i o : Nat) : State :=
  let twice := decide (i < s.rd Fld.POL_POOL_CFG_COUNT p) && !(s.pool p).taken.mem i
  let s := s.bump Fld.POL_DF_COUNT_COUNT
  let s := ((s.wr Fld.POL_ERR_INFO_POOL p).wr Fld.POL_ERR_INFO_INDEX i).wr Fld.POL_ERR_INFO_OWNER o
  let s := (s.wr Fld.POL_ERR_INFO_BLOCK block).raise (if twice then Fld.POL_ERR_DOUBLE_FREE else Fld.POL_ERR_BAD_FREE)
  s.record Blk.POL (if twice then 0x2001 else 0x2002) i p (o % 1024 + block % 32 * 65536)

/-- A free that is accepted: the bit, HELD, the cache, and then the offers (R162, R168). -/
def State.freeTaken (s : State) (p i o : Nat) : State :=
  let x := s.pool p
  let y : Pool := { x with cache := i :: x.cache, taken := x.taken.remove i }
  let s := (s.setPool p (y.balance (s.rd Fld.POL_POOL_CFG_COUNT p))).wr Fld.POL_HELD_HELD (s.held o p - 1) o p
  s.polUnbind.offerAll p

/-- POL_FREE: a block frees a buffer for an owner (R168, R169). -/
def State.polFree (s : State) (block p i o : Nat) : State :=
  if s.freeOk p i o then (s.freeTaken p i o).emit (.polAnswer block p o STS_OK [i])
  else (s.freeRefused block p i o).emit (.polAnswer block p o STS_BUFFER_STATE [i])

/-! ## POL_OP -/

/-- A result in `POL_OP_RESULT`. -/
def State.polOpResult (s : State) (status : Nat) : State := (s.wr Fld.POL_OP_RESULT_STATUS status).wr Fld.POL_OP_RESULT_BUSY 0

/-- POL_OP_ALLOCATE: one buffer in immediate mode; `POL_OP_ADDR` returns it (R172). -/
def State.polOpAllocate (s : State) (p o : Nat) : State :=
  if s.rdb Fld.POL_OP_RESULT_BUSY then s
  else
    let s := s.boundary Blk.POL
    if s.rdb Fld.POL_CTRL_ENABLE && s.poolSt p == poolActive && s.grants p o 1 then
      let q := s.polGrant p o 1
      match q.2 with
      | i :: _ => (q.1.wr Fld.POL_OP_ADDR_INDEX i).polOpResult STS_OK
      | [] => s.polOpResult STS_NO_BUFFER
    else s.polOpResult STS_NO_BUFFER

/-- POL_OP_FREE: the buffer in `POL_OP_ADDR`, through POL's own port, 6 (R169, R172). -/
def State.polOpFree (s : State) (p o : Nat) : State :=
  if s.rdb Fld.POL_OP_RESULT_BUSY then s
  else
    let i := s.rd Fld.POL_OP_ADDR_INDEX
    if s.freeOk p i o then (s.freeTaken p i o).polOpResult STS_OK else (s.freeRefused 6 p i o).polOpResult STS_BUFFER_STATE

/-- POL_OP_RESERVED: OP 3 completes at once with STS_BAD_DESCRIPTOR (R172). -/
def State.polOpReserved (s : State) : State := if s.rdb Fld.POL_OP_RESULT_BUSY then s else s.polOpResult STS_BAD_DESCRIPTOR

/-! ## Pool states -/

/-- `POL_STATUS.ACTIVE` and the pool's state. -/
def State.setPoolSt (s : State) (p st : Nat) : State :=
  let a := s.rd Fld.POL_STATUS_ACTIVE
  (s.wr Fld.POL_STATUS_ACTIVE (if st = poolActive then setBit a p else clrBit a p)).wr Fld.POL_POOL_STAT_STATE st p

/-- POOL_ENABLE: ENABLE set; a DISABLED pool starts FILLING after the checks of R159, a DRAINING one goes on draining (R170). -/
def State.poolEnable (s : State) (p : Nat) : State :=
  if s.rdb Fld.POL_POOL_CFG_ENABLE p then s
  else if s.poolSt p = poolDisabled then
    let q := s.tryEnable Fld.POL_POOL_CFG_ENABLE p
    if q.2 then q.1.setPoolSt p poolFilling else q.1
  else s.wr Fld.POL_POOL_CFG_ENABLE 1 p

/-- POOL_FILL_END: every index in ascending order, every state bit clear: ACTIVE (R170). -/
def State.poolFillEnd (s : State) (p : Nat) : State :=
  if s.poolSt p = poolFilling then
    ((s.setPool p (Pool.init.balance (s.rd Fld.POL_POOL_CFG_COUNT p))).setPoolSt p poolActive).offerAll p
  else s

/-- A pool that holds every one of its buffers is DISABLED (Table 07.3). -/
def State.poolEmptied (s : State) (p : Nat) : State := (s.setPool p Pool.init).setPoolSt p poolDisabled

/-- POOL_DRAIN_END: FREE has reached COUNT: DISABLED, and FILLING at once if ENABLE is 1 and the checks of R159 pass (R170). -/
def State.poolDrainEnd (s : State) (p : Nat) : State :=
  if s.poolSt p = poolDraining ∧ (s.pool p).taken = [] then
    let s := s.poolEmptied p
    if s.rdb Fld.POL_POOL_CFG_ENABLE p then (s.wr Fld.POL_POOL_CFG_ENABLE 0 p).poolEnable p else s
  else s

/-- POOL_DISABLE: ENABLE cleared: the pool drains while buffers are held, and its waiting requests complete (Table 07.3). -/
def State.poolDisable (s : State) (p : Nat) : State :=
  if !s.rdb Fld.POL_POOL_CFG_ENABLE p then s
  else
    let s := s.wr Fld.POL_POOL_CFG_ENABLE 0 p
    if s.poolSt p = poolActive ∨ s.poolSt p = poolFilling then
      let s := (s.setPoolSt p poolDraining).waitFails (fun w => w.pool == p)
      if (s.pool p).taken = [] then s.poolEmptied p else s
    else s

/-- POL_DISABLE: `POL_CTRL.ENABLE` is cleared: every waiting allocation completes (R162). -/
def State.polDisable (s : State) : State :=
  if s.rdb Fld.POL_CTRL_ENABLE then (s.wr Fld.POL_CTRL_ENABLE 0).waitFails (fun _ => true) else s

/-! ## The commands -/

def execPolAllocate (block pool owner n : Nat) (wait : Bool) (s : State) : Res := ended (s.polAllocate block pool owner n wait)
def execPolFree (block pool index owner : Nat) (s : State) : Res := ended (s.polFree block pool index owner)
def execPolOpAllocate (pool owner : Nat) (s : State) : Res := ended (s.polOpAllocate pool owner)
def execPolOpFree (pool owner : Nat) (s : State) : Res := ended (s.polOpFree pool owner)
def execPolOpReserved (s : State) : Res := ended s.polOpReserved
def execPoolEnable (pool : Nat) (s : State) : Res := ended (s.poolEnable pool)
def execPoolFillEnd (pool : Nat) (s : State) : Res := ended (s.poolFillEnd pool)
def execPoolDisable (pool : Nat) (s : State) : Res := ended (s.poolDisable pool)
def execPoolDrainEnd (pool : Nat) (s : State) : Res := ended (s.poolDrainEnd pool)
def execPolDisable (s : State) : Res := ended s.polDisable

end Sys2Proof.Machine
end

