-- ==== Sys2Proof/Machine/Hri.lean ====
section
/-!
DEFINITION. HRI: ring set-up and states (R84 to R87), consumption (R88, R89), completions (R94 to R100), RESYNC (R101), events (R103,
R104), and the block and key-value opcodes of Table 04.5 (R92).
-/
namespace Sys2Proof.Machine

open Sys2Proof

/-! ## Ring set-up -/

/-- A ring's configuration is well formed (R84). -/
def State.ringCfgOk (s : State) (r : Nat) : Bool :=
  let sq := s.rd Fld.HRI_RING_CFG_SQ_LOG2 r
  let cq := s.rd Fld.HRI_RING_CFG_CQ_LOG2 r
  decide (4 ≤ sq ∧ sq ≤ cq ∧ cq ≤ 16) && s.rd Fld.HRI_RING_SQ_ADDR_ADDR r % 4096 == 0 && s.rd Fld.HRI_RING_CQ_ADDR_ADDR r % 4096 == 0 &&
    s.rd Fld.HRI_RING_SB_ADDR_ADDR r % 64 == 0 && s.rd Fld.HRI_RING_RS_ADDR_ADDR r % 64 == 0 && (s.ringFn r).isSome

/-- An error of a ring that stays DISABLED (R85). -/
def State.ringRefused (s : State) (r : Nat) (f : Field) : State := (s.raise f).wr Fld.HRI_ERR_RING_RING r

/-- A WINDOW image of a replay window is written to the PJM (Table 08.4). -/
def State.windowImage (s : State) (w : Nat) : State :=
  match s.wins.look w with
  | some x => s.issue (.window w x.b x.h) 65 0
  | none => s

/-- The rings of a function. -/
def State.fnRingsOf (s : State) (n : Nat) : List Nat :=
  (List.range (s.rd Fld.HRI_FN_RINGS_COUNT n)).map (fun i => s.rd Fld.HRI_FN_RINGS_BASE n + i)

/-- The PCIe link that carries a function (R78): virtual functions follow the physical function they are allotted to, by TotalVFs. -/
def State.fnLink (s : State) (n : Nat) : Nat :=
  if !s.rdb Fld.HRI_STATUS_BIF then 0
  else
    let vfs (pf : Nat) : Nat := s.aon.totalVfs / 2 ^ (16 * pf) % 65536
    let pf := if n < 4 then n else if n - 4 < vfs 0 + vfs 1 then 0 else 2
    pf / 2

/-- A stopped function whose link is up and whose rings are all DISABLED is stopped no longer (R79). -/
def State.fnRestart (s : State) (n : Nat) : State :=
  if (s.fn n).stopped && bitAt (s.rd Fld.HRI_STATUS_LINK_UP) (s.fnLink n) && (s.fnRingsOf n).all (fun r => s.ringSt r == ringDisabled) then
    s.setFn n { s.fn n with stopped := false }
  else s

/-- RING_ENABLE (R85). -/
def State.ringEnable (s : State) (r : Nat) : State :=
  if s.ringSt r ≠ ringDisabled then s
  else if !s.ringCfgOk r then s.ringRefused r Fld.HRI_ERR_RING_CFG
  else
    let fn := (s.ringFn r).getD 0
    let s := s.fnRestart fn
    if (s.fn fn).stopped then s
    else if s.rdb Fld.HRI_RING_CFG_KEEP_REPLAY r then
      match s.wins.look (winRing r) with
      | some w =>
        if w.owner ≠ fn then s.ringRefused r Fld.HRI_ERR_NO_WINDOW
        else
          let c := match s.hri.rings.look r with
            | some x => x.c
            | none => (w.slots.map (·.1)).foldl (serialMax 32) w.h
          let s := s.setRing r { Ring.init with c := c, resync := true }
          let s := ((s.wr Fld.HRI_RING_CFG_ENABLE 1 r).wr Fld.HRI_RING_STATE_STATE ringResyncing r).wr Fld.HRI_RING_STATE_KEPT 0 r
          (s.polBind (s.ringTenant r) (polRing r)).touchStatus r
      | none => s.ringRefused r Fld.HRI_ERR_NO_WINDOW
    else
      let b := s.rd Fld.HRI_RING_SEQ_BASE_SEQ r
      let s := (s.setWin (winRing r) (RWin.fresh 32 b fn)).setRing r { Ring.init with c := (b + 2 ^ 32 - 1) % 2 ^ 32 }
      let s := ((s.wr Fld.HRI_RING_CFG_ENABLE 1 r).wr Fld.HRI_RING_STATE_STATE ringActive r).wr Fld.HRI_RING_STATE_KEPT 0 r
      ((s.polBind (s.ringTenant r) (polRing r)).windowImage (winRing r)).touchStatus r

/-- RING_DISABLE: ENABLE cleared (Table 04.3). -/
def State.ringDisable (s : State) (r : Nat) : State :=
  if !s.rdb Fld.HRI_RING_CFG_ENABLE r then s
  else
    let s := s.wr Fld.HRI_RING_CFG_ENABLE 0 r
    if s.ringSt r = ringDisabled then s
    else
      ((s.wr Fld.HRI_RING_STATE_STATE ringDraining r).setRing r { s.ring r with fetched := [], fetching := 0, resync := false }).touchStatus r

/-- RING_DRAIN_END: the last consumed submission of a draining or stopped ring has completed: DISABLED, its window kept (R79, R86);
the queue has ended for POL (R160). -/
def State.ringDrainEnd (s : State) (r : Nat) : State :=
  let t := s.drainCheck r
  if s.ringSt r = ringDraining ∧ t.ringSt r = ringDisabled then t.polQueueEnd (polRing r) else t

/-- RING_RELEASE: a disabled ring's kept window goes (R86). -/
def State.ringRelease (s : State) (r : Nat) : State :=
  if s.ringSt r = ringDisabled then ((s.dropWin (winRing r)).wr Fld.HRI_RING_STATE_KEPT 0 r).endLive (fun _ _ => false) else s

/-! ## Doorbells -/

/-- An SQ tail takes effect. -/
def State.sqTailSet (s : State) (r v : Nat) : State := s.setRing r { s.ring r with sqTail := v, sqRecorded := none }

/-! ## Consumption -/

/-- Opcodes of Table 04.5. -/
def ringOpcode (c : Nat) : Bool := [0x00, 0x01, 0x02, 0x03, 0x04, 0x10, 0x11, 0x12, 0x20, 0x21, 0x22, 0x23].contains c

/-- Submissions that change state, so that a resend is not executed again (R44). -/
def ringChanges (c : Nat) : Bool := [0x01, 0x04, 0x10, 0x12].contains c

/-- A submission refused before it becomes a write (R43): where it changes state its SLOT record is written first. -/
def State.ringRefuse (s : State) (r q status : Nat) : State :=
  match (s.ring r).subOf q with
  | none => s
  | some (_, u) =>
    if ringChanges u.e.opcode then
      let o := s.nextOp
      (s.startWrite (.ring r q) (s.ringTenant r) (blockReq .dealloc u.e.nsid 0 0 [] false)).refuseOp o status
    else s.endSub r q status 0 0

/-- One entry is consumed: checked by R41, in ring order (R88). -/
def State.consumeOne (s : State) (r : Nat) (e : SubEntry) : State :=
  let x := s.ring r
  let w := s.wins.getD (winRing r) (RWin.fresh 32 0 0)
  let k := x.subs.fresh
  let j := w.judge e.seq
  let u (stores follows replayed : Bool) : Sub := { e := e, started := false, replayed := replayed, follows := follows, stores := stores }
  let x := { x with sqHead := (x.sqHead + 1) % s.sqSize r, c := serialMax 32 x.c e.seq, sbDirty := some s.now }
  let add (v : Sub) : State := s.setRing r { x with subs := x.subs.put k v }
  let quick (status : Nat) (rep : Bool) : State :=
    let y : Ready := { sub := e.seq, opcode := e.opcode, tag := e.tag, irq := e.irq, status := status, replayed := rep, result0 := 0, result1 := 0 }
    s.setRing r { x with ready := x.ready ++ [y] }
  match j with
  | .stale => quick STS_SEQ_STALE false
  | .ahead => quick STS_SEQ_AHEAD false
  | .done st => if ringChanges e.opcode then quick st true else add (u false false true)
  | .busy => add (u false true true)
  | .free | .advance =>
    let s' := (add (u true false false)).setWin (winRing r) (w.take e.seq)
    if ringOpcode e.opcode then s' else s'.ringRefuse r e.seq STS_BAD_DESCRIPTOR

/-- Fetched entries are consumed while the CQ has room for their completions (R88); those fetched before a fault as usual (R93). -/
def State.consume (s : State) (r : Nat) : Nat → State
  | 0 => s
  | fuel + 1 =>
    let x := s.ring r
    match x.fetched with
    | [] => s
    | e :: t =>
      let st := s.ringSt r
      if (st = ringActive ∨ st = ringError) ∧ s.cqLoad r < s.cqSize r ∧ s.ringStopped r = false then
        ((s.setRing r { x with fetched := t }).consumeOne r e).consume r fuel
      else s

/-- Consume what is fetched. -/
def State.consumeAll (s : State) (r : Nat) : State := s.consume r (s.ring r).fetched.length

/-- SQ_TAIL_DOORBELL (R87, R93). -/
def State.sqDoorbell (s : State) (fn i v : Nat) : State :=
  match s.localRing fn i with
  | none => s
  | some r =>
    let st := s.ringSt r
    if st = ringDisabled ∨ (s.fn fn).stopped = true then s
    else if s.sqSize r ≤ v then s.ringFault r Fld.HRI_ERR_DB_BAD
    else if st = ringActive then s.sqTailSet r v
    else s.setRing r { s.ring r with sqRecorded := some v }

/-- A CQ head takes effect: the entries before it are free, and held event entries may be written (R87, R99). -/
def State.cqHeadSet (s : State) (r v : Nat) : State :=
  let x := s.ring r
  let n := (v + s.cqSize r - x.cqHead) % s.cqSize r
  let s := s.setRing r { x with cqHead := v, cqRecorded := none, cqUsed := x.cqUsed - n }
  (s.flushEvents r 16).consumeAll r

/-- CQ_HEAD_DOORBELL (R87, R93). -/
def State.cqDoorbell (s : State) (fn i v : Nat) : State :=
  match s.localRing fn i with
  | none => s
  | some r =>
    let st := s.ringSt r
    if st = ringDisabled ∨ (s.fn fn).stopped = true then s
    else if s.cqSize r ≤ v then s.ringFault r Fld.HRI_ERR_DB_BAD
    else if st = ringActive then s.cqHeadSet r v
    else s.setRing r { s.ring r with cqRecorded := some v }

/-- A ring becomes ACTIVE: recorded doorbells act (R87), and consumption goes on. -/
def State.ringActivate (s : State) (r : Nat) : State :=
  let s := (s.wr Fld.HRI_RING_STATE_STATE ringActive r).touchStatus r
  let s := match (s.ring r).sqRecorded with
    | some v => s.sqTailSet r v
    | none => s
  let s := match (s.ring r).cqRecorded with
    | some v => s.cqHeadSet r v
    | none => s
  s.consumeAll r

/-! ## Descriptor fetch -/

/-- Entries a ring has published and not fetched. -/
def State.unfetched (s : State) (r : Nat) : Nat :=
  let x := s.ring r
  (x.sqTail + 2 * s.sqSize r - x.sqHead - x.fetched.length) % s.sqSize r

/-- Rings that compete for a fetch: ACTIVE, with entries published and none fetched. -/
def State.fetchable (s : State) (r : Nat) : Bool :=
  s.ringSt r == ringActive && !s.ringStopped r && (s.ring r).fetching == 0 && (s.ring r).fetched == [] && decide (0 < s.unfetched r)

/-- One fetch: up to 8 descriptors, never across the end of the ring (R89). -/
def State.fetchFrom (s : State) (r most : Nat) : State × Nat :=
  let x := s.ring r
  let at_ := (x.sqHead + x.fetched.length) % s.sqSize r
  let n := min (min 8 most) (min (s.unfetched r) (s.sqSize r - at_))
  ((s.setRing r { x with fetching := n }).emit (.fetch r at_ n), n)

/-- DESCRIPTOR_FETCH: HRI's boundary; class 0 in round robin, then classes 1 to 3 in weighted round robin, each up to WEIGHT descriptors a
round (R89). -/
def State.descriptorFetch (s : State) : State :=
  let s := s.boundary Blk.HRI
  if !s.rdb Fld.HRI_CTRL_ENABLE then s
  else
    let ready := (s.hri.rings.map (·.1)).filter s.fetchable
    let zero := ready.filter (fun r => s.rd Fld.HRI_RING_ARB_PRIO r == 0)
    match rotate zero s.hri.rr with
    | r :: _ => { (s.fetchFrom r 8).1 with hri := { (s.fetchFrom r 8).1.hri with rr := r } }
    | [] =>
      let same := ready.contains s.hri.wrr && decide (0 < s.hri.wrrLeft)
      let pick := if same then some s.hri.wrr else (rotate ready s.hri.wrr).head?
      match pick with
      | some r =>
        let left := if same then s.hri.wrrLeft else max 1 (s.rd Fld.HRI_RING_ARB_WEIGHT r)
        let q := s.fetchFrom r left
        { q.1 with hri := { q.1.hri with wrr := r, wrrLeft := left - q.2 } }
      | none => s

/-- DESCRIPTOR_FETCH_DONE: the entries arrive and are consumed, or the fetch has failed (R88, R93). -/
def State.fetchDone (s : State) (r : Nat) (fe : FetchEnd) (es : List SubEntry) : State :=
  let x := s.ring r
  if x.fetching = 0 then s
  else
    match fe with
    | .ok => (s.setRing r { x with fetched := x.fetched ++ es.take x.fetching, fetching := 0 }).consumeAll r
    | _ => (s.setRing r { x with fetching := 0 }).ringFault r Fld.HRI_ERR_FETCH_FAIL

/-! ## Completions and the status block -/

/-- A failed write of the status block (R93). -/
def State.statusWritten (s : State) (r : Nat) (ok : Bool) : State := if ok then s else s.ringFault r Fld.HRI_ERR_SB_FAIL

/-- COMPLETION_WRITE: the oldest completion that waits is written; nothing is written for a stopped function (R79, R96). -/
def State.completionWrite (s : State) (r : Nat) (sbOk : Bool) : State :=
  let x := s.ring r
  match x.ready with
  | [] => s
  | c :: t =>
    let s := s.setRing r { x with ready := t }
    if s.ringStopped r ∨ s.ringSt r = ringDisabled then s
    else
      let n := (s.ring r).updates
      let e : ComplEntry := { subSeq := c.sub, cplSeq := 0, status := c.status, phase := false, replayed := c.replayed, event := false, late := false,
                              opcode := c.opcode, tag := c.tag, tagHigh := 0, result0 := c.result0, result1 := c.result1 }
      let s := s.cqWrite r e c.irq
      if (s.ring r).updates = n then s else s.statusWritten r sbOk

/-- STATUS_BLOCK_TIMER: 2 µs after the last change (R100). -/
def State.statusTimer (s : State) (r : Nat) (ok : Bool) : State :=
  match (s.ring r).sbDirty with
  | some t => if s.ringStopped r then s else ((s.advanceUs t 2).writeStatus r).statusWritten r ok
  | none => s

/-- COALESCE_TIMER: COAL_US after the first unsignalled entry (R102). -/
def State.coalesceTimer (s : State) (r : Nat) : State :=
  match (s.ring r).firstUnsignalled with
  | some t => if s.ringStopped r then s else ((s.advanceUs t (s.rd Fld.HRI_RING_CFG_COAL_US r)).writeStatus r).ringSignal r
  | none => s

/-! ## RESYNC -/

/-- RESYNC: by global ring index, or by a function's local one through its alias (R82, R101). -/
def State.resyncStart (s : State) (fn : Option Nat) (i : Nat) : State :=
  match (match fn with | some n => s.localRing n i | none => some i) with
  | none => s
  | some r =>
    if s.ringSt r = ringActive ∨ s.ringSt r = ringError then
      ((s.wr Fld.HRI_RING_STATE_STATE ringResyncing r).setRing r { s.ring r with resync := true }).touchStatus r
    else s

/-- The write of a ring's submission. -/
def State.opOfRing (s : State) (r q : Nat) : List WriteOp := (s.ops.filter (fun e => e.2.src == .ring r q)).map (·.2)

/-- A consumed submission is decided: accepted or refused; a command that changes no state, once it is taken up (R49). -/
def State.subDecided (s : State) (r : Nat) (u : Sub) : Bool :=
  u.follows || (u.started && (s.opOfRing r u.e.seq).all (fun o => o.accepted))

/-- RESYNC_RECORD_WRITE: every consumed submission is decided, and every completion written: the record, DONE, event 0x0003, ACTIVE
(R101). -/
def State.resyncWrite (s : State) (r : Nat) : State :=
  let x := s.ring r
  if s.ringSt r ≠ ringResyncing ∨ x.ready ≠ [] ∨ !x.subs.all (fun e => s.subDecided r e.2) then s
  else
    let w := s.wins.getD (winRing r) (RWin.fresh 32 0 0)
    let m := ((x.subs.filter (fun e => !e.2.follows)).map (fun e => serialDist 32 w.b e.2.e.seq)).filter (fun d => decide (d ≤ 1023))
    let map := m.foldl (fun (a : NatSet) d => a.insert d) []
    let rec_ : ResyncRec := { c := x.c, k := (x.cplSeq + 2 ^ 32 - 1) % 2 ^ 32, b := w.b, h := w.h, sqHead := x.sqHead, marked := map.length, map := map }
    let s := s.setRing r { x with resync := false }
    let s := if s.ringStopped r then s
      else ((s.emit (.resync r rec_)).emit (.resyncDone r)).eventFn ((s.ringFn r).getD 0) Blk.HRI 0x0003 r x.c
    s.ringActivate r

/-! ## Events -/

/-- EVQ_HEAD_DOORBELL: every entry before the index is free (R103). -/
def State.evqDoorbell (s : State) (fn v : Nat) : State :=
  let f := s.fn fn
  if s.evqSize fn ≤ v ∨ f.stopped = true then s
  else s.setFn fn { f with evqHead := v, used := f.used - (v + s.evqSize fn - f.evqHead) % s.evqSize fn }

/-- EVENT_POST: an event goes to the functions of Table 04.12: the one it concerns, those of a namespace, and all for a global one. -/
def State.eventPost (s : State) (src code fn nsid arg0 arg1 : Nat) : State :=
  let own := if code = 0x0001 ∨ code = 0x0002 ∨ code = 0x0003 then [fn] else []
  let ns := if code = 0x0005 ∨ code = 0x0006 ∨ code = 0x0007 then s.nsFns nsid else []
  let glob := if code = 0x0004 ∨ code = 0x0005 then s.globalFns else []
  s.eventToAll ((own ++ ns ++ glob).foldl (fun (a : NatSet) n => a.insert n) []) src code s.ctNs arg0 arg1

/-! ## Opcodes -/

/-- A consumed submission of the opcode may start: under ORDER, once every earlier one has completed (Table 04.4). -/
def State.subFor (s : State) (r q opcode : Nat) : Option SubEntry :=
  let x := s.ring r
  match x.subs.first? (fun _ u => u.e.seq == q && !u.follows) with
  | some (k, u) =>
    if u.started || u.e.opcode != opcode || (u.e.order && x.subs.any (fun e => decide (e.1 < k))) then none else some u.e
  | none => none

/-- Mark a submission started, or not started when it is held. -/
def State.subStart (s : State) (r q : Nat) (on : Bool := true) : State :=
  let x := s.ring r
  s.setRing r { x with subs := x.subs.mapVal (fun _ u => if u.e.seq = q ∧ u.follows = false then { u with started := on } else u) }

/-- Run an opcode on a submission that may start. -/
def State.ringRun (s : State) (r q opcode : Nat) (run : State → SubEntry → State) : State :=
  match s.subFor r q opcode with
  | some e => run (s.subStart r q) e
  | none => s

/-- Fields an opcode does not use are 0 (R92): `a0`, `a1`: the addresses are used; `off`, `len`, `dw3`: the other fields; `spec`: bits of
SPEC that may be set; `fua`. -/
def fieldsOk (e : SubEntry) (a0 a1 off len dw3 fua : Bool) (spec : Nat) : Bool :=
  (a0 || (e.addr0 == 0 && !e.sgl0)) && (a1 || (e.addr1 == 0 && !e.sgl1)) && (off || e.offset == 0) && (len || e.len == 0) &&
  (dw3 || e.dw3 == 0) && (fua || !e.fua) && decide (Nat.land e.spec spec = e.spec) && (!e.sgl0 || e.sgl0Ok) && (!e.sgl1 || e.sgl1Ok)

/-- The namespace of a submission, when it is attached to the function's tenant, which has buffer quota (R83). -/
def State.ringNs (s : State) (r nsid : Nat) (kv : Bool) : Nat ⊕ Ns :=
  match s.adm.nss.look nsid with
  | none => .inl STS_ACCESS_DENIED
  | some n =>
    if n.tenant ≠ s.ringTenant r ∨ !s.hasQuota n.tenant then .inl STS_ACCESS_DENIED
    else if n.kv != kv then .inl STS_BAD_DESCRIPTOR
    else .inr n

/-- A block opcode over a range: its fields, its namespace, its range; then the command. -/
def State.ringBlocks (s : State) (r q : Nat) (e : SubEntry) (ok : Bool) (most : Nat) (run : State → Ns → State) : State :=
  if !ok then s.ringRefuse r q STS_BAD_DESCRIPTOR
  else
    match s.ringNs r e.nsid false with
    | .inl st => s.ringRefuse r q st
    | .inr n =>
      match rangeStatus n e.offset (e.len + 1) most with
      | some st => s.ringRefuse r q st
      | none => run s n

/-- NOP. -/
def State.ringNop (s : State) (r q : Nat) : State :=
  s.ringRun r q 0x00 (fun s e =>
    s.endSub r q (if fieldsOk e false false false false false false 0 then STS_OK else STS_BAD_DESCRIPTOR) 0 0)

/-- BLK_WRITE: its data, or none where the transfer from host memory failed (R97). -/
def State.blkWrite (s : State) (r q : Nat) (data : Option Nat) : State :=
  s.ringRun r q 0x01 (fun s e =>
    s.ringBlocks r q e (fieldsOk e true false true true false true 0) 1024 (fun s n =>
      match data with
      | none => s.ringRefuse r q STS_HOST_XFER_FAIL
      | some d => s.startWrite (.ring r q) n.tenant (blockReq .block e.nsid e.offset (e.len + 1) (blocksOf d (e.len + 1)) e.fua)))

/-- BLK_READ; `xferOk` is clear where the transfer to host memory fails (R97). -/
def State.blkRead (s : State) (r q : Nat) (xferOk : Bool) : State :=
  s.ringRun r q 0x02 (fun s e =>
    s.ringBlocks r q e (fieldsOk e true false true true false false 0) 1024 (fun s _ =>
      s.readCmd (.ring r q) e.nsid (.blocks e.offset (e.len + 1)) xferOk false))

/-- FLUSH: every write completed before it is accepted already (R31, R32). -/
def State.ringFlush (s : State) (r q : Nat) : State :=
  s.ringRun r q 0x03 (fun s e =>
    if !fieldsOk e false false false false false false 0 then s.ringRefuse r q STS_BAD_DESCRIPTOR
    else if e.nsid = 0 then s.endSub r q STS_OK 0 0
    else
      match s.adm.nss.look e.nsid with
      | none => s.ringRefuse r q STS_ACCESS_DENIED
      | some n =>
        if n.tenant ≠ s.ringTenant r then s.ringRefuse r q STS_ACCESS_DENIED
        else
          match s.deferGate (.ring r q) e.nsid with
          | some t => t
          | none => s.endSub r q STS_OK 0 0)

/-- DEALLOCATE (R118). -/
def State.ringDealloc (s : State) (r q : Nat) : State :=
  s.ringRun r q 0x04 (fun s e =>
    s.ringBlocks r q e (fieldsOk e false false true true false false 0) (2 ^ 32) (fun s n =>
      s.startWrite (.ring r q) n.tenant (blockReq .dealloc e.nsid e.offset (e.len + 1) [] false)))

/-- KEY_LEN of a key-value opcode. -/
def subKeyLen (e : SubEntry) : Nat := e.spec % 256

/-- The key of a key-value opcode: in SPEC where it has up to 16 bytes, otherwise read from ADDR1 (Table 04.5). -/
def subKey (e : SubEntry) (long : Nat) : Nat :=
  if (subKeyLen e) ≤ 16 then natBE ((bytesLE (bitsOf e.spec 32 128) 16).take (subKeyLen e)) else long % 2 ^ (8 * (subKeyLen e))

/-- Bits of SPEC a key-value opcode may set: KEY_LEN, the condition flags of `flags`, and a key of up to 16 bytes. -/
def subKvSpec (e : SubEntry) (flags : Nat) : Nat :=
  255 + flags * 256 + (if (subKeyLen e) ≤ 16 then (2 ^ (8 * (subKeyLen e)) - 1) * 2 ^ 32 else 0)

/-- A key-value opcode: its fields and key, its namespace, and the array its key lives on (R334); then the command with its key. -/
def State.ringKey (s : State) (r q : Nat) (e : SubEntry) (ok : Bool) (long : Option Nat) (run : State → Ns → Nat → State) : State :=
  if !ok || ((subKeyLen e) ≤ 16 && (e.addr1 != 0 || e.sgl1)) then s.ringRefuse r q STS_BAD_DESCRIPTOR
  else if (subKeyLen e) = 0 then s.ringRefuse r q STS_KEY_SIZE
  else
    match s.ringNs r e.nsid true with
    | .inl st => s.ringRefuse r q st
    | .inr n =>
      match long with
      | none => s.ringRefuse r q STS_HOST_XFER_FAIL
      | some l =>
        let key := subKey e l
        let a := s.ownerArray n.tenant e.nsid key (subKeyLen e)
        if a.2 ≠ a.1.arrayId then (a.1.bump Fld.KVS_STAT_MOVED_COUNT).ringRefuse r q STS_MOVED
        else if a.1.rangeHeld e.nsid key (subKeyLen e) then (a.1.subStart r q false).holdReq (.ring r q)
        else
          let s := { a.1 with kvs := { a.1.kvs with held := a.1.kvs.held.filter (fun h => h.src != Src.ring r q) } }
          run (s.kvHeat e.nsid key (subKeyLen e)) n key

/-- KV_PUT: `long` the key read from ADDR1, `value` the value; none where the transfer failed. -/
def State.ringPut (s : State) (r q : Nat) (long value : Option Nat) : State :=
  s.ringRun r q 0x10 (fun s e =>
    if 33554432 < e.len then s.ringRefuse r q STS_VALUE_SIZE
    else
      let absent := bitAt e.spec 8
      let present := bitAt e.spec 9
      s.ringKey r q e (fieldsOk e true true false true false true (subKvSpec e 3) && !(absent && present)) long (fun s n key =>
        match value with
        | none => s.ringRefuse r q STS_HOST_XFER_FAIL
        | some v =>
          let w := keyReq .kvPut e.nsid key (subKeyLen e) e.len [v % 2 ^ (8 * e.len)]
          s.startWrite (.ring r q) n.tenant { w with ifAbsent := absent, ifPresent := present, fua := e.fua }))

/-- KV_GET; `short` marks too few members of a span (R347). -/
def State.ringGet (s : State) (r q : Nat) (long : Option Nat) (xferOk short : Bool) : State :=
  s.ringRun r q 0x11 (fun s e =>
    s.ringKey r q e (fieldsOk e true true false true false false (subKvSpec e 0)) long (fun s _ key =>
      s.readCmd (.ring r q) e.nsid (.get key (subKeyLen e) e.len) xferOk short))

/-- KV_DELETE. -/
def State.ringDelete (s : State) (r q : Nat) (long : Option Nat) : State :=
  s.ringRun r q 0x12 (fun s e =>
    s.ringKey r q e (fieldsOk e false true false false false false (subKvSpec e 2)) long (fun s n key =>
      let w := keyReq .kvDelete e.nsid key (subKeyLen e) 0 []
      s.startWrite (.ring r q) n.tenant { w with ifPresent := bitAt e.spec 9 }))

/-! ## The commands -/

def execRingEnable (ring : Nat) (s : State) : Res := ended (s.ringEnable ring)
def execRingDisable (ring : Nat) (s : State) : Res := ended (s.ringDisable ring)
def execRingDrainEnd (ring : Nat) (s : State) : Res := ended (s.ringDrainEnd ring)
def execRingRelease (ring : Nat) (s : State) : Res := ended (s.ringRelease ring)
def execSqTailDoorbell (fn index value : Nat) (s : State) : Res := ended (s.sqDoorbell fn index value)
def execCqHeadDoorbell (fn index value : Nat) (s : State) : Res := ended (s.cqDoorbell fn index value)
def execDescriptorFetch (s : State) : Res := ended s.descriptorFetch
def execDescriptorFetchDone (ring : Nat) (fe : FetchEnd) (entries : List SubEntry) (s : State) : Res := ended (s.fetchDone ring fe entries)
def execCompletionWrite (ring : Nat) (sbOk : Bool) (s : State) : Res := ended (s.completionWrite ring sbOk)
def execStatusBlockTimer (ring : Nat) (ok : Bool) (s : State) : Res := ended (s.statusTimer ring ok)
def execCoalesceTimer (ring : Nat) (s : State) : Res := ended (s.coalesceTimer ring)
def execResync (fn : Option Nat) (index : Nat) (s : State) : Res := ended (s.resyncStart fn index)
def execResyncRecordWrite (ring : Nat) (s : State) : Res := ended (s.resyncWrite ring)
def execEvqHeadDoorbell (fn value : Nat) (s : State) : Res := ended (s.evqDoorbell fn value)
def execEventPost (source code fn nsid arg0 arg1 : Nat) (s : State) : Res := ended (s.eventPost source code fn nsid arg0 arg1)
def execNop (ring seq : Nat) (s : State) : Res := ended (s.ringNop ring seq)
def execBlkWrite (ring seq : Nat) (data : Option Nat) (s : State) : Res := ended (s.blkWrite ring seq data)
def execBlkRead (ring seq : Nat) (xferOk : Bool) (s : State) : Res := ended (s.blkRead ring seq xferOk)
def execFlush (ring seq : Nat) (s : State) : Res := ended (s.ringFlush ring seq)
def execDeallocate (ring seq : Nat) (s : State) : Res := ended (s.ringDealloc ring seq)
def execKvPut (ring seq : Nat) (key value : Option Nat) (s : State) : Res := ended (s.ringPut ring seq key value)
def execKvGet (ring seq : Nat) (key : Option Nat) (xferOk short : Bool) (s : State) : Res := ended (s.ringGet ring seq key xferOk short)
def execKvDelete (ring seq : Nat) (key : Option Nat) (s : State) : Res := ended (s.ringDelete ring seq key)

end Sys2Proof.Machine
end

