-- ==== Sys2Proof/Machine/Kvs.lean ====
section
/-!
DEFINITION. KVS: Enore sessions and commands (R334 to R344), placement epochs (R330 to R333), and Caravan (R349 to R354).
-/
namespace Sys2Proof.Machine

open Sys2Proof

/-- An error of KVS with the session it concerns. -/
def State.kvsError (s : State) (f : Field) (k : Nat) : State := (s.raise f).wr Fld.KVS_ERR_INFO_SESSION k

/-- A key-value namespace of CLUSTER scope (Table 15.1). -/
def State.clusterNs (s : State) (nsid : Nat) : Bool := match s.kvs.ns.look nsid with | some a => a.cluster | none => false

/-! ## Sessions -/

/-- Enore opcodes (Table 15.4). -/
abbrev opPut : Nat := 0x10
abbrev opGet : Nat := 0x11
abbrev opDelete : Nat := 0x12
abbrev opList : Nat := 0x13
abbrev opExist : Nat := 0x14
abbrev opState : Nat := 0x1E
abbrev opClose : Nat := 0x1F

/-- Operations that change state (R44). -/
def enoreChanges (c : Nat) : Bool := c == opPut || c == opDelete

/-- Sessions attached. -/
def State.attachedCount (s : State) : Nat := s.kvs.sessions.countP (fun _ x => x.attached)

/-- A queue pair in RTS. -/
def State.qpReady (s : State) (q : Nat) : Option Qp :=
  match s.rdm.qps.look q with
  | some x => if x.st = .rts then some x else none
  | none => none

/-- A key-value namespace attached to a tenant that has buffer quota (R83, R335). -/
def State.kvNsOf (s : State) (tenant nsid : Nat) : Bool :=
  match s.adm.nss.look nsid with
  | some n => n.kv && n.tenant == tenant && s.hasQuota tenant
  | none => false

/-- Bytes of a session window: command slots, then the value area (R336). -/
def sessBytes (r : SessReq) : Nat := 64 * 2 ^ r.slotsLog2 + r.vareaKib * 1024

/-- Why an open or attach is refused (R335). -/
def State.sessRefusal (s : State) (r : SessReq) (tenant : Nat) : Option Nat :=
  if !s.kvNsOf tenant r.nsid then some STS_ACCESS_DENIED
  else if s.rd Fld.KVS_LIMITS_MAX_SESS ≤ s.attachedCount then some STS_NO_BUFFER
  else if r.slotsLog2 < 4 ∨ 12 < r.slotsLog2 ∨ r.evtLog2 < 4 ∨ 12 < r.evtLog2 ∨ 2 ^ 30 < sessBytes r then some STS_BAD_DESCRIPTOR
  else none

/-- The reply to an open or attach (Table 15.2) leaves as a SEND. -/
def State.sessAnswer (s : State) (qp op status k rkey b h : Nat) : State :=
  (s.emit (.sessReply qp op status k rkey (s.rd Fld.KVS_EPOCH_EPOCH) b h)).roceSend qp 64

/-- The lowest FREE window of RDM. -/
def State.freeWin (s : State) : Option Nat := (List.range (s.rdm.wins.fresh + 1)).find? (fun i => (s.win i).st == winFree && decide (i < s.winCount))

/-- A session is set up on a queue pair: its window opens pinned, with CONSUMER 2, QP_BIND, WR and IMM (R336); its area in HBM is the
head's own choice, a free value. -/
def State.sessStart (s : State) (r : SessReq) (op k tenant : Nat) (old : Option Sess) : State :=
  match s.freeWin with
  | none => s.sessAnswer r.qp op STS_NO_BUFFER 0 0 0 0
  | some i =>
    let d : WinDesc := { base := Config.freeNat s.free, len := sessBytes r, qp := r.qp, qpBind := true, rd := false, wr := true, imm := true,
                         pageable := false, consumer := 2, tenant := tenant, deadlineUs := 100 }
    let s := s.draw.winOpenCmd i d true false
    let keep : Assoc SessCmd := (match old with
      | some x => x.cmds
      | none => []).mapVal (fun _ c => { c with slot := 2 ^ 13 })
    let x : Sess := { client := r.client, nsid := r.nsid, tenant := tenant, qp := r.qp, slotsLog2 := r.slotsLog2, evtLog2 := r.evtLog2,
                      respImm := r.respImm, respAddr := r.respAddr, window := i, attached := true, cmds := keep,
                      nextCmd := (match old with
                        | some x => x.nextCmd
                        | none => 0), resps := [], evtSeq := 0, lastUse := s.now, closedAt := none }
    let s := (s.setSess k x).polBind tenant (polSess k)
    match s.wins.look (winSession k) with
    | some w => s.sessAnswer r.qp op STS_OK k (rkeyOf i (s.win i).gen) w.b w.h
    | none => s

/-- ENORE_SESSION_OPEN (R335): a new session under the head's persistent counter, B = 0. -/
def State.sessionOpen (s : State) (r : SessReq) : State :=
  if !s.enabled Blk.KVS then s
  else
    match s.qpReady r.qp with
    | none => s
    | some q =>
      match s.sessRefusal r q.tenant with
      | some st => s.sessAnswer r.qp 0x81 st 0 0 0 0
      | none =>
        let k := s.headId * 2 ^ 48 + s.kvs.nextSession % 2 ^ 48
        let s := { s with kvs := { s.kvs with nextSession := s.kvs.nextSession + 1 } }
        ((s.setWin (winSession k) (RWin.fresh 64 0 r.client)).windowImage (winSession k)).sessStart r 0x81 k q.tenant none

/-- The window of a session as the partner's records in the mirror hold it (R50). -/
def State.mirrorWindow (s : State) (k : Nat) : Option RWin :=
  s.mirrorLog.foldl (fun (a : Option RWin) m =>
    if m.window = winSession k ∧ !cancelledIn s.mirrorLog m.orig then
      let w := a.getD (RWin.fresh 64 0 0)
      match m.body with
      | .window b _ => some (w.advanceTo b)
      | .accept x => some (match s.mirBucket x with
          | some b => (w.complete m.seq STS_OK).mark m.seq b
          | none => w.complete m.seq STS_OK)
      | .slot st => some (w.complete m.seq st)
      | _ => a
    else a) none

/-- A session is attached no longer: its window in RDM closes, its queue has ended for POL (R160). -/
def State.sessDetach (s : State) (k : Nat) : State :=
  match s.sess k with
  | some x => ((s.setSess k { x with attached := false, resps := [] }).winRevokeCmd x.window false).polQueueEnd (polSess k)
  | none => s

/-- ENORE_SESSION_ATTACH (R50, R335): the array's window of the session is resumed; otherwise a fresh one, B = 0, for the same ID. -/
def State.sessionAttach (s : State) (r : SessReq) : State :=
  if !s.enabled Blk.KVS then s
  else
    match s.qpReady r.qp with
    | none => s
    | some q =>
      let k := r.session
      let old := s.sess k
      let s := match old with
        | some x => if x.attached then s.sessDetach k else s
        | none => s
      match s.sessRefusal r q.tenant with
      | some st => s.sessAnswer r.qp 0x82 st 0 0 0 0
      | none =>
        let s := if s.wins.has (winSession k) then s
          else (s.setWin (winSession k) ((s.mirrorWindow k).getD (RWin.fresh 64 0 r.client))).windowImage (winSession k)
        s.sessStart r 0x82 k q.tenant old

/-- CLOSE, or an idle session: it ends; its window is kept for KEEP_S. -/
def State.sessClose (s : State) (k : Nat) : State :=
  match s.sess k with
  | some x => (s.setSess k { x with closedAt := some s.now }).sessDetach k
  | none => s

/-! ## Commands -/

/-- A session command of a number. -/
def State.sessCmd (s : State) (k n : Nat) : Option (Sess × SessCmd) :=
  match s.sess k with
  | some x => (x.cmds.look n).map (fun c => (x, c))
  | none => none

/-- Change a session command. -/
def State.modCmd (s : State) (k n : Nat) (f : SessCmd → SessCmd) : State :=
  match s.sess k with
  | some x => s.setSess k { x with cmds := x.cmds.modify n f }
  | none => s

/-- A command ends before it runs, nothing stored for it (R334 steps 1 to 5). -/
def State.enoreQuick (s : State) (k n status owner : Nat) : State := s.enoreEnd k n { respOf status with owner := owner }

/-- What R334 step 1 and Table 15.4 find wrong with a record. -/
def State.recordStatus (s : State) (x : Sess) (e : EnoreRec) : Option Nat :=
  if !([opPut, opGet, opDelete, opList, opExist].contains e.opcode) ∨ e.rsvd = true then some STS_BAD_DESCRIPTOR
  else if (e.ifAbsent && (e.ifPresent || e.ifVersion)) || ((e.ifAbsent || e.ifPresent || e.ifVersion) && !enoreChanges e.opcode) then
    some STS_BAD_DESCRIPTOR
  else if (e.keyLen = 0 ∧ e.opcode ≠ opList) ∨ 255 < e.keyLen then some STS_KEY_SIZE
  else if e.opcode = opPut ∧ 33554432 < e.len then some STS_VALUE_SIZE
  else if !e.areaOk then some STS_BAD_DESCRIPTOR
  else
    match s.adm.nss.look e.nsid with
    | none => some STS_ACCESS_DENIED
    | some m => if m.tenant ≠ x.tenant ∨ !s.hasQuota m.tenant then some STS_ACCESS_DENIED else if !m.kv then some STS_BAD_DESCRIPTOR else none

/-- The array that owns what a command names (R334 step 2, R343): its key's, or for a listing of a bucket, the bucket's. -/
def State.cmdOwner (s : State) (x : Sess) (e : EnoreRec) : State × Nat :=
  if e.keyLen = 0 then (s, if s.clusterNs e.nsid then (s.bucket (e.arg % 2 ^ 20)).array else s.arrayId)
  else s.ownerArray x.tenant e.nsid e.key e.keyLen

/-- The range a command names is being installed (R353). -/
def State.cmdHeld (s : State) (e : EnoreRec) : Bool :=
  if e.keyLen = 0 then
    decide (4 ≤ s.rd Fld.KVS_STATUS_IN_PHASE) && s.clusterNs e.nsid &&
      (match s.kvs.inC with | some c => c.buckets.contains (e.arg % 2 ^ 20) | none => false)
  else s.rangeHeld e.nsid e.key e.keyLen

/-- A command refused before it becomes a write; where it changes state its SLOT record is written first (R43). -/
def State.enoreRefuse (s : State) (k n status : Nat) : State :=
  match s.sessCmd k n with
  | some (x, c) =>
    if c.stores && enoreChanges c.e.opcode then
      (s.startWrite (.enore k n) x.tenant (keyReq .kvDelete c.e.nsid c.e.key c.e.keyLen 0 [])).refuseOp s.nextOp status
    else s.enoreEnd k n (respOf status)
  | none => s

/-- Judge a command's sequence (R41, R334 step 5); one that is taken may run. -/
def State.enoreJudge (s : State) (k n : Nat) (c : SessCmd) : State :=
  let w := s.wins.getD (winSession k) (RWin.fresh 64 0 0)
  let e := c.e
  let pass (stores replayed : Bool) (s : State) : State :=
    s.modCmd k n (fun c => { c with routed := true, stores := stores, replayed := replayed })
  match w.judge e.seq with
  | .stale => s.enoreQuick k n STS_SEQ_STALE 0
  | .ahead => s.enoreQuick k n STS_SEQ_AHEAD 0
  | .done st => if enoreChanges e.opcode then s.enoreEnd k n { respOf st with replayed := true } else pass false true s
  | .busy => s.modCmd k n (fun c => { c with follows := true, routed := true, replayed := true })
  | .free | .advance =>
    let w := w.take e.seq
    let w := if enoreChanges e.opcode then w.mark e.seq (s.bucketOf e.nsid e.key e.keyLen) else w
    pass true false (s.setWin (winSession k) w)

/-- Route a command (R334); one whose epoch's updates are not all known waits for them (R333). -/
def State.enoreRoute (s : State) (k n : Nat) : State :=
  match s.sessCmd k n with
  | none => s
  | some (x, c) =>
    let e := c.e
    if c.routed || (decide (s.rd Fld.KVS_EPOCH_EPOCH < e.epoch) && !s.epochsKnown) then s
    else if e.opcode = opState ∨ e.opcode = opClose then s.modCmd k n (fun c => { c with routed := true })
    else
      match s.recordStatus x e with
      | some st => s.enoreQuick k n st 0
      | none =>
        let q := s.cmdOwner x e
        if q.2 ≠ q.1.arrayId then (q.1.bump Fld.KVS_STAT_MOVED_COUNT).enoreQuick k n STS_MOVED q.2
        else if q.1.cmdHeld e then q.1.holdReq (.enore k n)
        else (if e.keyLen = 0 then q.1 else q.1.kvHeat e.nsid e.key e.keyLen).enoreJudge k n c

/-- Route every command that waits. -/
def State.enoreRouteAll (s : State) : State :=
  s.kvs.sessions.foldl (fun s e => (e.2.cmds.map (·.1)).foldl (fun s n => s.enoreRoute e.1 n) s) s

/-- A slot's command has not written its response. -/
def Sess.busy (x : Sess) (slot : Nat) : Bool := x.cmds.any (fun e => e.2.slot == slot) || x.resps.any (fun r => r.slot == slot)

/-- ENORE_COMMAND_IMMEDIATE (R337, R338): the records are read and routed in order; a busy slot fails the queue pair. -/
def State.commandImmediate (s : State) (k imm : Nat) (rs : List EnoreRec) : State :=
  match s.sess k with
  | none => s
  | some x =>
    if !s.enabled Blk.KVS || !x.attached then s
    else
      let s := s.boundary Blk.KVS
      let count := imm / 65536 % 256 + 1
      let slots := (List.range count).map (fun i => (imm % 4096 + i) % 2 ^ x.slotsLog2)
      if slots.any x.busy || decide (2 ^ x.slotsLog2 < count) then (s.kvsError Fld.KVS_ERR_SLOT_BUSY k).qpError x.qp
      else
        let cmds : List SessCmd := (slots.zip rs).map (fun p =>
          { slot := p.1, e := p.2, replayed := false, follows := false, stores := false, routed := false, started := false, owner := 0 })
        let x := { x with cmds := (cmds.zipIdx).foldl (fun (a : Assoc SessCmd) p => a.put (x.nextCmd + p.2) p.1) x.cmds
                          nextCmd := x.nextCmd + cmds.length
                          lastUse := s.now }
        let s := (rs.take count).foldl (fun s e => s.noteEpoch e.epoch) (s.setSess k x)
        (List.range cmds.length).foldl (fun s i => s.enoreRoute k (x.nextCmd - cmds.length + i)) s

/-- Run an operation on a routed command that has not started. -/
def State.enoreRun (s : State) (k n opcode : Nat) (run : State → Sess → EnoreRec → State) : State :=
  match s.sessCmd k n with
  | some (x, c) =>
    if !c.routed || c.follows || c.started || c.e.opcode != opcode then s
    else run (s.modCmd k n (fun c => { c with started := true })) x c.e
  | none => s

/-- PUT; no value where the transfer of a remote one failed (R339). -/
def State.enorePut (s : State) (k n : Nat) (value : Option Nat) : State :=
  s.enoreRun k n opPut (fun s x e =>
    match value with
    | none => s.enoreRefuse k n STS_HOST_XFER_FAIL
    | some v =>
      let w := keyReq .kvPut e.nsid e.key e.keyLen e.len [v % 2 ^ (8 * e.len)]
      s.startWrite (.enore k n) x.tenant { w with ifAbsent := e.ifAbsent, ifPresent := e.ifPresent, fua := e.fua,
                                                  ifVersion := if e.ifVersion then some e.arg else none })

/-- GET. -/
def State.enoreGet (s : State) (k n : Nat) (xferOk short : Bool) : State :=
  s.enoreRun k n opGet (fun s _ e => s.readCmd (.enore k n) e.nsid (.get e.key e.keyLen e.len) xferOk short)

/-- DELETE. -/
def State.enoreDelete (s : State) (k n : Nat) : State :=
  s.enoreRun k n opDelete (fun s x e =>
    let w := keyReq .kvDelete e.nsid e.key e.keyLen 0 []
    s.startWrite (.enore k n) x.tenant { w with ifAbsent := e.ifAbsent, ifPresent := e.ifPresent, fua := e.fua,
                                                ifVersion := if e.ifVersion then some e.arg else none })

/-- LIST (R343). -/
def State.enoreList (s : State) (k n : Nat) (xferOk : Bool) : State :=
  s.enoreRun k n opList (fun s _ e =>
    let r : ListReq := { bucket := e.arg % 2 ^ 20, key := e.key, keyLen := e.keyLen, excl := e.excl, all := false, len := e.len }
    s.readCmd (.enore k n) e.nsid (.list r) xferOk false)

/-- EXIST. -/
def State.enoreExist (s : State) (k n : Nat) : State :=
  s.enoreRun k n opExist (fun s _ e => s.readCmd (.enore k n) e.nsid (.exist e.key e.keyLen) true false)

/-- A command read is decided: accepted or refused; one that changes no state, once it is taken up (R49, R344). -/
def State.cmdDecided (s : State) (k n : Nat) (c : SessCmd) : Bool :=
  c.e.opcode == opState || c.e.opcode == opClose || c.follows ||
    (c.started && (s.ops.filter (fun e => e.2.src == .enore k n)).all (fun e => e.2.accepted))

/-- The record of STATE (R344), as one number whose byte 0 is lowest. -/
def stateRecord (w : RWin) (marks : NatSet) : Nat :=
  natLE (bytesBE w.b 8 ++ bytesBE w.h 8 ++ bytesBE marks.length 4) + (marks.map (fun i => 2 ^ (256 + i))).sum

/-- STATE (R344): waits until every command read is decided. -/
def State.enoreState (s : State) (k n : Nat) (xferOk : Bool) : State :=
  match s.sessCmd k n with
  | none => s
  | some (x, _) =>
    if !x.cmds.all (fun e => s.cmdDecided k e.1 e.2) then s
    else
      s.enoreRun k n opState (fun s _ e =>
        if e.len < 160 then s.enoreEnd k n (respOf STS_BAD_DESCRIPTOR)
        else if !xferOk then s.enoreEnd k n (respOf STS_HOST_XFER_FAIL)
        else
          let w := s.wins.getD (winSession k) (RWin.fresh 64 0 0)
          let live := (x.cmds.filter (fun c => c.2.routed && !c.2.follows && c.2.e.opcode != opState && c.2.e.opcode != opClose)).map
            (fun c => serialDist 64 w.b c.2.e.seq)
          let marks := (live.filter (fun d => decide (d ≤ 1023))).foldl (fun (a : NatSet) d => a.insert d) []
          let s := (s.emit (.enoreData k e.addr [stateRecord w marks])).roceSend x.qp 160
          s.enoreEnd k n { respOf STS_OK with vlen := 160, written := 160 })

/-- CLOSE: its response is the session's last. -/
def State.enoreClose (s : State) (k n : Nat) : State :=
  s.enoreRun k n opClose (fun s _ _ => s.enoreEnd k n (respOf STS_OK))

/-- ENORE_RESPONSE_WRITE (R342): a response that waits leaves, with an immediate where the session asked for one; that of CLOSE ends the
session. -/
def State.responseWrite (s : State) (k i : Nat) : State :=
  match s.sess k with
  | none => s
  | some x =>
    match x.resps[i]? with
    | none => s
    | some r =>
      let s := s.setSess k { x with resps := x.resps.eraseIdx i }
      let s := if x.attached && decide (r.slot < 2 ^ 13) && (s.qpReady x.qp).isSome then
        (s.emit (.enoreResp k (s.rd Fld.KVS_EPOCH_EPOCH) r x.respImm)).roceSend x.qp 64 else s
      if r.opcode = opClose ∧ r.status = STS_OK then s.sessClose k else s

/-- SESSION_IDLE_EXPIRY: a session idle for IDLE_S is closed, with a session event (Table 15.5). -/
def State.idleExpiry (s : State) (k : Nat) : State :=
  match s.sess k with
  | none => s
  | some x =>
    let t := s.rd Fld.KVS_ENORE_IDLE_S
    if t = 0 ∨ x.closedAt.isSome = true ∨ x.cmds ≠ [] ∨ x.resps ≠ [] then s
    else
      let s := s.advanceUs x.lastUse (t * 1000000)
      let x := { x with evtSeq := x.evtSeq + 1 }
      let s := s.setSess k x
      let s := if x.attached then s.emit (.enoreEvent k x.evtSeq 2 0 x.nsid 0 s.ctNs) else s
      s.sessClose k

/-- SESSION_KEEP_EXPIRY: KEEP_S after the close the session's window is dropped. -/
def State.keepExpiry (s : State) (k : Nat) : State :=
  match s.sess k with
  | none => s
  | some x =>
    match x.closedAt with
    | none => s
    | some t =>
      if x.cmds ≠ [] then s
      else
        let s := (s.advanceUs t (s.rd Fld.KVS_LIMITS_KEEP_S * 1000000)).dropWin (winSession k)
        State.endLive { s with kvs := { s.kvs with sessions := s.kvs.sessions.del k } } (fun _ _ => false)

/-! ## Placement epochs -/

/-- This head's array is one of the placement authority (R333). -/
def State.isAuthority (s : State) : Bool :=
  s.arrayId == s.rd Fld.KVS_AUTH_A0 || s.arrayId == s.rd Fld.KVS_AUTH_A1 || s.arrayId == s.rd Fld.KVS_AUTH_A2

/-- A granted update is known: it waits for its T_EFF; an array of the authority also keeps it for later fetches. -/
def State.updateKnown (s : State) (e tEff : Nat) (cs : List PlaceChange) : State :=
  if e ≤ s.rd Fld.KVS_EPOCH_EPOCH then s
  else
    let u : EpochUpd := { tEff := tEff, changes := cs }
    let k := { s.kvs with updates := s.kvs.updates.put e u
                          granted := if s.isAuthority then s.kvs.granted.put e u else s.kvs.granted }
    State.noteEpoch { s with kvs := k } e

/-- Apply one change (R330, R332). -/
def State.placeChange (s : State) (c : PlaceChange) : State :=
  match c with
  | .bucket b a p =>
    let v : Bucket := { array := a % 2 ^ 15, pinned := p, moving := false }
    { s with kvs := { s.kvs with buckets := s.kvs.buckets.put (b % 2 ^ 20) v } }
  | .aset n l => { s with adm := { s.adm with asets := if l = [] then s.adm.asets.del n else s.adm.asets.put n l } }

/-- A write that a range takes out of this array is not accepted yet (R351). -/
def State.rangeWrite (s : State) (c : Caravan) (x : WriteOp) : Bool :=
  x.keyLen != 0 && s.clusterNs x.nsid && c.buckets.contains (s.bucketOf x.nsid x.key x.keyLen) &&
    (match x.src with
     | .own => false
     | .batch _ _ => false
     | _ => true)

/-- From T_c the source accepts no write of the range: those not accepted are refused with STS_MOVED (R351). -/
def State.stopRange (s : State) (c : Caravan) : State :=
  let s := s.wr Fld.KVS_STATUS_OUT_PHASE 4
  (s.ops.filter (fun e => !e.2.accepted && s.rangeWrite c e.2 && (match e.2.stage with | .refusing _ => false | .forwarded => false | _ => true))).foldl
    (fun s e =>
      let s := { s with map := { s.map with destages := s.map.destages.del e.1 } }
      let s := s.endLive (fun _ r => r.orig == e.2.jseq && (e.2.stage == .journal || e.2.stage == .direct || e.2.stage == .held))
      let s := s.bump Fld.KVS_STAT_MOVED_COUNT
      let s := match e.2.src with
        | .enore k n => s.modCmd k n (fun x => { x with owner := c.peer })
        | _ => s
      s.refuseOp e.1 STS_MOVED) s

/-- EPOCH_UPDATE_APPLY (R333): the next update takes effect at its T_EFF; a Caravan's source stops at T_c, its target holds the range. -/
def State.epochApply (s : State) : State :=
  let e := s.rd Fld.KVS_EPOCH_EPOCH + 1
  match s.kvs.updates.look e with
  | none => s
  | some u =>
    let s := s.advanceCt (Frac.int (u.tEff : Nat))
    let s := u.changes.foldl State.placeChange s
    let s := State.wr { s with kvs := { s.kvs with updates := s.kvs.updates.del e } } Fld.KVS_EPOCH_EPOCH e
    let s := s.epochSync
    let s := match s.kvs.outC with
      | some c => if s.rd Fld.KVS_STATUS_OUT_PHASE = 3 ∧ c.epoch = e then s.stopRange c else s
      | none => s
    match s.kvs.inC with
    | some c =>
      let mine := u.changes.any (fun x => match x with
        | .bucket b a _ => a == s.arrayId && c.buckets.contains b
        | _ => false)
      if mine ∧ s.rd Fld.KVS_STATUS_IN_PHASE = 2 then
        State.wr { s with kvs := { s.kvs with inC := some { c with epoch := e, tc := u.tEff } } } Fld.KVS_STATUS_IN_PHASE 4
      else s
    | none => s

/-- EPOCH_FETCH (R333): the missing updates arrive, or the authority cannot be reached; commands that waited are then routed. -/
def State.epochFetch (s : State) (us : Option (List (Nat × Nat × List PlaceChange))) : State :=
  if s.epochsKnown then s
  else
    match us with
    | none => s.raise Fld.KVS_ERR_EPOCH_FETCH
    | some l => ((l.foldl (fun s u => s.updateKnown u.1 u.2.1 u.2.2) s).epochSync).enoreRouteAll

/-- The epoch an array of the authority may grant next. -/
def State.nextGrant (s : State) : Nat :=
  max (s.rd Fld.KVS_EPOCH_EPOCH) (max (s.kvs.updates.fresh - 1) (s.kvs.granted.fresh - 1)) + 1

/-- Mean of a list of figures. -/
def meanOf (l : List Nat) : Nat := if l = [] then 0 else l.sum / l.length

/-- The array of the lowest figure, the lowest array where they are equal. -/
def lowestOf (l : List (Nat × Nat)) : Nat :=
  (l.foldl (fun (a : Option (Nat × Nat)) e => match a with
    | some b => if e.2 < b.2 then some e else some b
    | none => some e) none).elim 0 (·.1)

/-- AUTHORITY_REQUEST_RECEIVE (R333, R349): a head of an authority array grants the next epoch while its T_EFF lies far enough ahead,
answers a report, or returns the updates a head misses.  kind 1: grant; 2: refusal, naming the epoch known; 3: a returned update. -/
def State.authority (s : State) (array : Nat) (q : AuthReq) : State :=
  if !s.enabled Blk.KVS || !s.isAuthority then s
  else
    match q with
    | .update e t cs =>
      let u : EpochUpd := { tEff := t, changes := cs }
      let again := s.kvs.granted.look e == some u
      if again || (e == s.nextGrant && decide (s.ctNs + s.rd Fld.KVS_CARAVAN_LEAD_MS * 1000000 ≤ t)) then
        State.emit { s with kvs := { s.kvs with granted := s.kvs.granted.put e u } } (.placeMsg array 1 e t [])
      else s.emit (.placeMsg array 2 (s.nextGrant - 1) t [])
    | .report f h =>
      let s := { s with kvs := { s.kvs with fills := s.kvs.fills.put array (f, h) } }
      let l := s.kvs.fills
      s.emit (.fillAnswer array (meanOf (l.map (fun e => e.2.1))) (meanOf (l.map (fun e => e.2.2)))
        (lowestOf (l.map (fun e => (e.1, e.2.1)))) (lowestOf (l.map (fun e => (e.1, e.2.2)))))
    | .fetch e =>
      (s.kvs.granted.filter (fun u => decide (e < u.1))).foldl (fun s u => s.emit (.placeMsg array 3 u.1 u.2.tEff u.2.changes)) s

/-! ## Caravan -/

/-- Used bytes over usable bytes of the array's PGs, ppm (R349). -/
def State.fillPpm (s : State) : Nat :=
  let usable := (s.pgs.map (fun e => e.2.blocks * s.blockSectors)).sum
  let free := (s.pgs.map (fun e => min e.2.free (e.2.blocks * s.blockSectors))).sum
  if usable = 0 then 0 else (usable - free) * 1000000 / usable

/-- The newest present values of the keys of CLUSTER namespaces in PGs this head owns: bucket, NSID, key, key length, value. -/
def State.clusterKeys (s : State) : List (Nat × Nat × Nat × Nat × KvVer) :=
  s.map.kv.filterMap (fun e =>
    match e.2.head? with
    | some v =>
      if v.present && s.clusterNs (kvNs e.1) && s.setState (s.pg (kvPg e.1)).oset == setOwned then
        some (s.bucketOf (kvNs e.1) (kvBytes e.1) (kvLen e.1), kvNs e.1, kvBytes e.1, kvLen e.1, v)
      else none
    | none => none)

/-- A key's placement is by an override (R331). -/
def State.overridden (s : State) (nsid key keyLen : Nat) : Bool :=
  match s.adm.nss.look nsid with
  | some n => (s.override n.tenant nsid key keyLen (s.bucketOf nsid key keyLen)).2.isSome
  | none => false

/-- Put a bucket with its figure among the others, highest figure first. -/
def insertRank (e : Nat × Nat) (l : List (Nat × Nat)) : List (Nat × Nat) :=
  match l with
  | [] => [e]
  | x :: t => if x.2 < e.2 then e :: x :: t else x :: insertRank e t

/-- The buckets of highest figure that a Caravan may move: this array's, not PINNED, in PGs this head owns. -/
def State.rankBuckets (s : State) (figs : Assoc Nat) : List Nat :=
  let ok := figs.filter (fun e => decide (0 < e.2) && (s.bucket e.1).array == s.arrayId && !(s.bucket e.1).pinned &&
    s.setState (s.pg (s.bucketPg e.1)).oset == setOwned)
  ((ok.foldl (fun l e => insertRank e l) []).map (·.1)).take (s.rd Fld.KVS_BAL_MAX_BUCKETS)

/-- Value bytes of each bucket that its override leaves to the table. -/
def State.bucketBytes (s : State) : Assoc Nat :=
  s.clusterKeys.foldl (fun (a : Assoc Nat) k =>
    if s.overridden k.2.1 k.2.2.1 k.2.2.2.1 then a else a.put k.1 (a.getD k.1 0 + k.2.2.2.2.vlen)) []

/-- An outgoing Caravan starts: the proposal leaves (Table 15.6). -/
def State.caravanStart (s : State) (peer : Nat) (bs : List Nat) : State :=
  if bs = [] ∨ peer = s.arrayId then s
  else
    let bytes := s.bucketBytes
    let c : Caravan := { peer := peer, buckets := bs, epoch := 0, tc := 0, since := 0, reserve := [], batch := 0, keys := [] }
    let s := { s with kvs := { s.kvs with outC := some c } }
    let s := (s.wr Fld.KVS_STATUS_OUT_PHASE 1).wr Fld.KVS_CARAVAN_STATE_PEER peer
    let s := (s.wr Fld.KVS_CARAVAN_STATE_BUCKETS bs.length).wr Fld.KVS_CARAVAN_STATE_EPOCH 0
    s.emit (.caravanMsg peer 1 bs (bs.map (fun b => bytes.getD b 0)).sum)

/-- BALANCING_ROUND (R349): `answer` is what the authority returned: mean fill, ppm, mean heat, and the arrays of lowest fill and heat. -/
def State.balancingRound (s : State) (answer : Option (Nat × Nat × Nat × Nat)) : State :=
  if !s.enabled Blk.KVS || (s.aon.side == .b && s.linkUp) then s
  else
    let f := s.fillPpm
    let h := (s.kvs.heat.map (·.2)).sum
    let hot := s.rankBuckets s.kvs.heat
    let s := { s with kvs := { s.kvs with heat := [] } }
    match answer with
    | none => s
    | some (mf, mh, lf, lh) =>
      if !s.rdb Fld.KVS_CTRL_BAL_EN || s.kvs.outC.isSome then s
      else if mf + s.rd Fld.KVS_BAL_SKEW_PCT * 10000 < f then s.caravanStart lf (s.rankBuckets s.bucketBytes)
      else if mh * (100 + s.rd Fld.KVS_BAL_HEAT_PCT) < h * 100 then s.caravanStart lh hot
      else s

/-- Sectors of destage reserve that so many value bytes in one PG need (R34). -/
def reserveOf (p : Pg) (bytes : Nat) : Nat :=
  let n := ceilDiv bytes 4096
  n + ceilDiv (n * p.p) p.d

/-- What a proposal reserves in each PG: its estimate shared evenly over the buckets. -/
def State.proposalNeed (s : State) (bs : List Nat) (bytes : Nat) : Assoc Nat :=
  let n := bs.foldl (fun (a : Assoc Nat) b => a.put (s.bucketPg b) (a.getD (s.bucketPg b) 0 + 1)) []
  n.mapVal (fun g k => reserveOf (s.pg g) (ceilDiv (bytes * k) bs.length))

/-- Give a Caravan's reserves back. -/
def State.caravanUnreserve (s : State) (r : Assoc Nat) : State :=
  r.foldl (fun s e => s.modPg e.1 (fun p => { p with reserved := p.reserved - e.2 })) s

/-- Records that carry the values of a range as they stand: those of stamp at or after `since`, deletes among them once values have been
shipped. -/
def State.rangeRecords (s : State) (c : Caravan) (since : Nat) : List BatchRec :=
  s.map.kv.filterMap (fun e =>
    let ns := kvNs e.1
    let key := kvBytes e.1
    let len := kvLen e.1
    match e.2.head? with
    | some v =>
      if s.clusterNs ns && c.buckets.contains (s.bucketOf ns key len) && !s.overridden ns key len && decide (since ≤ v.stamp) then
        let r : BatchRec := { kind := 4, nsid := ns, laddr := 0, len := v.vlen, key := key, keyLen := len, data := [], srcWseq := v.wseq,
                              tA := v.stamp, version := v.valueId }
        if v.present then
          match s.valueOf ns (kvPg e.1) v with
          | .data x => some { r with data := [x] }
          | .fail _ => none
        else if since = 0 then none else some { r with kind := 5, len := 0 }
      else none
    | none => none)

/-- Ship a batch of the range to the target; `last` marks the final delta. -/
def State.shipBatch (s : State) (c : Caravan) (rs : List BatchRec) (last : Bool) : State :=
  let n := c.batch + 1
  let b : Batch := { kind := 1, srcArray := s.arrayId, link := 0, cut := 0, base := 0, seq := n, last := last, status := 0, crcOk := true,
                     records := rs }
  State.emit { s with kvs := { s.kvs with outC := some { c with batch := n, since := s.ctNs } } } (.batch c.peer b)

/-- Mark the buckets of a range MOVING, or not. -/
def State.setMovingRange (s : State) (bs : List Nat) (on : Bool) : State :=
  bs.foldl (fun (s : State) b =>
    let v : Bucket := { s.bucket b with moving := on }
    { s with kvs := { s.kvs with buckets := s.kvs.buckets.put b v } }) s

/-- An outgoing Caravan is over. -/
def State.outEnd (s : State) : State :=
  let s := { s with kvs := { s.kvs with outC := none } }
  ((s.wr Fld.KVS_STATUS_OUT_PHASE 0).wr Fld.KVS_CARAVAN_STATE_BUCKETS 0).wr Fld.KVS_CARAVAN_STATE_PEER 0

/-- CARAVAN_PROPOSE: as target (`answer` none), a proposal is accepted with its reserve, or refused; as source, the target's answer starts
COPY or ends the round (Table 15.6).  Phases sent: 2 accepted, 0 refused. -/
def State.caravanPropose (s : State) (peer : Nat) (bs : List Nat) (bytes : Nat) (answer : Option Bool) : State :=
  match answer with
  | none =>
    if !s.enabled Blk.KVS then s
    else
      let need := s.proposalNeed bs bytes
      let fits := need.all (fun e => decide (e.2 ≤ s.pgRoom (s.pg e.1)) && s.setState (s.pg e.1).oset == setOwned)
      if !s.rdb Fld.KVS_CTRL_CARAVAN_IN || s.kvs.inC.isSome || bs == [] || !fits then s.emit (.caravanMsg peer 0 bs bytes)
      else
        let c : Caravan := { peer := peer, buckets := bs, epoch := 0, tc := 0, since := 0, reserve := need, batch := 0, keys := [] }
        let s := need.foldl (fun s e => s.modPg e.1 (fun p => { p with reserved := p.reserved + e.2 })) s
        (State.wr { s with kvs := { s.kvs with inC := some c } } Fld.KVS_STATUS_IN_PHASE 2).emit (.caravanMsg peer 2 bs bytes)
  | some ok =>
    match s.kvs.outC with
    | some c =>
      if s.rd Fld.KVS_STATUS_OUT_PHASE ≠ 1 ∨ c.peer ≠ peer then s
      else if !ok then s.outEnd
      else
        let s := (s.setMovingRange c.buckets true).wr Fld.KVS_STATUS_OUT_PHASE 2
        s.shipBatch c (s.rangeRecords c 0) false
    | none => s

/-- Start the writes of a batch at the target, their VALUE_IDs kept (R354); each takes its share of the proposal's reserve. -/
def State.batchWrites (s : State) (b : Batch) : State :=
  b.records.foldl (fun s r =>
    let tenant := match s.adm.nss.look r.nsid with
      | some n => n.tenant
      | none => 0
    let w := keyReq (if r.kind = 4 then .kvPut else .kvDelete) r.nsid r.key r.keyLen r.len r.data
    let g := s.pgFor r.nsid 0 r.key r.keyLen
    let o := s.nextOp
    let s := (s.startWrite (.batch 0 b.seq) tenant w).modOp o (fun x => { x with valueId := r.version })
    match s.kvs.inC with
    | some c =>
      let share := min (c.reserve.getD g 0) (reserveOf (s.pg g) r.len)
      let c := { c with reserve := c.reserve.modify g (fun n => n - share)
                        keys := if c.keys.contains (r.nsid, r.key, r.keyLen) then c.keys else c.keys ++ [(r.nsid, r.key, r.keyLen)] }
      State.modPg { s with kvs := { s.kvs with inC := some c } } g (fun p => { p with reserved := p.reserved - share })
    | none => s) s

/-- Take a batch of the incoming Caravan: one already applied is acknowledged again without being applied (R409). -/
def State.caravanBatch (s : State) (b : Batch) : State :=
  match s.kvs.inC with
  | none => s
  | some c =>
    if !b.crcOk || b.srcArray != c.peer || b.kind != 1 then s
    else if b.seq ≤ c.batch ∨ b.records = [] then
      State.answer { s with kvs := { s.kvs with inC := some { c with batch := max c.batch b.seq } } } (.batch 0 b.seq) (Answer.of STS_OK)
    else State.batchWrites { s with kvs := { s.kvs with inC := some { c with batch := b.seq } } } b

/-- CARAVAN_COPY_BATCH. -/
def State.caravanCopy (s : State) (b : Batch) : State :=
  if s.rd Fld.KVS_STATUS_IN_PHASE = 2 ∨ s.rd Fld.KVS_STATUS_IN_PHASE = 4 then s.caravanBatch b else s

/-- CARAVAN_GRANT (R350): a delta of DELTA_MIB or more is shipped first; below it, the authority's grant of an epoch with its T_EFF fixes
T_c, and the update goes to every head. -/
def State.caravanGrant (s : State) (grant : Option (Nat × Nat)) : State :=
  match s.kvs.outC with
  | none => s
  | some c =>
    if s.rd Fld.KVS_STATUS_OUT_PHASE ≠ 2 then s
    else
      let rs := s.rangeRecords c (max 1 c.since)
      if s.rd Fld.KVS_CARAVAN_DELTA_MIB * 1048576 ≤ (rs.map (fun r => r.len)).sum then s.shipBatch c rs false
      else
        match grant with
        | none => s
        | some (e, t) =>
          if e ≤ s.rd Fld.KVS_EPOCH_EPOCH ∨ t < s.ctNs + s.rd Fld.KVS_CARAVAN_LEAD_MS * 1000000 then s
          else
            let cs := c.buckets.map (fun b => PlaceChange.bucket b c.peer (s.bucket b).pinned)
            let s := { s with kvs := { s.kvs with outC := some { c with epoch := e, tc := t } } }
            let s := (s.wr Fld.KVS_STATUS_OUT_PHASE 3).wr Fld.KVS_CARAVAN_STATE_EPOCH e
            (s.updateKnown e t cs).emit (.placeMsg 0x7FFF 3 e t cs)

/-- Slots of a session whose writes fall in the range, but for those that completed with STS_MOVED (R352). -/
def RWin.slotsIn (w : RWin) (bs : List Nat) : List (Nat × Nat) :=
  w.slots.filterMap (fun e => match e.2, w.marks.look e.1 with
    | .completed st, some b => if bs.contains b && st != STS_MOVED then some (e.1, st) else none
    | _, _ => none)

/-- CARAVAN_CUTOVER (R351, R352): at T_c the source stops; once no write of the range is open, the final delta and the slots leave. -/
def State.caravanCutover (s : State) : State :=
  match s.kvs.outC with
  | none => s
  | some c =>
    let s := if s.rd Fld.KVS_STATUS_OUT_PHASE = 3 then
      (List.range (c.epoch - s.rd Fld.KVS_EPOCH_EPOCH)).foldl (fun s _ => s.epochApply) s else s
    if s.rd Fld.KVS_STATUS_OUT_PHASE ≠ 4 ∨ s.ops.any (fun e => !e.2.accepted && s.rangeWrite c e.2) = true then s
    else
      let s := s.shipBatch c (s.rangeRecords c (max 1 c.since)) true
      s.wins.foldl (fun s e =>
        if e.1 < 65536 ∨ 2 ^ 80 ≤ e.1 then s
        else
          let l := e.2.slotsIn c.buckets
          if l = [] then s else s.emit (.caravanSlots c.peer (e.1 - 65536) e.2.b l)) s

/-- Merge the slots of a session into its window, made where there is none (R352). -/
def State.mergeSlots (s : State) (k : Nat) (b : Nat) (l : List (Nat × Nat)) : State :=
  let w := s.wins.getD (winSession k) (RWin.fresh 64 b 0)
  s.setWin (winSession k) (l.foldl (fun (w : RWin) e => if serialLt w.bits e.1 w.b then w else w.complete e.1 e.2) w)

/-- Requests held for the range go on (R353). -/
def State.releaseHolds (s : State) : State :=
  let hs := s.kvs.held
  hs.foldl (fun s h => match h.src with
    | .enore k n => s.enoreRoute k n
    | _ => s) { s with kvs := { s.kvs with held := [] } }

/-- CARAVAN_INSTALL (R352, R354): the final delta's writes start; once they are accepted, slots merge, counters stand above the VALUE_IDs
received, the range is served, and the acknowledgement leaves. -/
def State.caravanInstall (s : State) (final : Batch) (slots : List (Nat × Nat × List (Nat × Nat))) : State :=
  match s.kvs.inC with
  | none => s
  | some c =>
    let ph := s.rd Fld.KVS_STATUS_IN_PHASE
    if ph = 4 then
      if final.crcOk && final.srcArray == c.peer && final.last then
        (State.batchWrites { s with kvs := { s.kvs with inC := some { c with batch := max c.batch final.seq } } } final).wr
          Fld.KVS_STATUS_IN_PHASE 5
      else s
    else if ph ≠ 5 ∨ s.ops.any (fun e => !e.2.accepted && (match e.2.src with | .batch 0 _ => true | _ => false)) = true then s
    else
      let s := slots.foldl (fun s x => (s.mergeSlots x.1 x.2.1 x.2.2).windowImage (winSession x.1)) s
      let s := final.records.foldl (fun s r =>
        s.modPg (s.pgFor r.nsid 0 r.key r.keyLen) (fun p => { p with nextValue := max p.nextValue (r.version + 1) })) s
      let s := s.caravanUnreserve c.reserve
      let s := State.wr { s with kvs := { s.kvs with inC := none } } Fld.KVS_STATUS_IN_PHASE 0
      (s.emit (.caravanMsg c.peer 5 c.buckets 0)).releaseHolds

/-- Delete keys by the head's own writes. -/
def State.ownDeletes (s : State) (ks : List (Nat × Nat × Nat)) : State :=
  ks.foldl (fun s k => s.startWrite .own 0xFFFF (keyReq .kvDelete k.1 k.2.1 k.2.2 0 [])) s

/-- CARAVAN_RELEASE: the target has acknowledged: the source deletes its copy of the range, and the Caravan ends once that is done. -/
def State.caravanRelease (s : State) : State :=
  match s.kvs.outC with
  | none => s
  | some c =>
    let mine := (s.clusterKeys.filter (fun k => c.buckets.contains k.1 && !s.overridden k.2.1 k.2.2.1 k.2.2.2.1)).map
      (fun k => (k.2.1, k.2.2.1, k.2.2.2.1))
    if s.rd Fld.KVS_STATUS_OUT_PHASE = 4 then
      if s.ops.any (fun e => !e.2.accepted && s.rangeWrite c e.2) then s
      else (s.ownDeletes mine).wr Fld.KVS_STATUS_OUT_PHASE 5
    else if s.rd Fld.KVS_STATUS_OUT_PHASE = 5 ∧ mine = [] then s.outEnd
    else s

/-- CARAVAN_ABORT (R350): before GRANT either side ends the Caravan; the target discards its copies. -/
def State.caravanAbort (s : State) (out : Bool) : State :=
  if out then
    match s.kvs.outC with
    | some c =>
      if s.rd Fld.KVS_STATUS_OUT_PHASE = 1 ∨ s.rd Fld.KVS_STATUS_OUT_PHASE = 2 then
        (((s.setMovingRange c.buckets false).outEnd).raise Fld.KVS_ERR_CARAVAN_ABORT).emit (.caravanMsg c.peer 0 c.buckets 0)
      else s
    | none => s
  else
    match s.kvs.inC with
    | some c =>
      if s.rd Fld.KVS_STATUS_IN_PHASE = 1 ∨ s.rd Fld.KVS_STATUS_IN_PHASE = 2 then
        let s := (s.ownDeletes c.keys).caravanUnreserve c.reserve
        let s := State.wr { s with kvs := { s.kvs with inC := none } } Fld.KVS_STATUS_IN_PHASE 0
        (s.raise Fld.KVS_ERR_CARAVAN_ABORT).emit (.caravanMsg c.peer 0 c.buckets 0)
      else s
    | none => s

/-- CARAVAN_HOLD_EXPIRY (R353): the oldest request held for HOLD_US completes with STS_NOT_OWNER. -/
def State.holdExpiry (s : State) : State :=
  match s.kvs.held with
  | [] => s
  | h :: t =>
    let s := State.advanceUs { s with kvs := { s.kvs with held := t } } h.since (s.rd Fld.KVS_CARAVAN_HOLD_US)
    match h.src with
    | .enore k n => (s.kvsError Fld.KVS_ERR_HOLD_EXPIRED k).enoreQuick k n STS_NOT_OWNER 0
    | .ring r q => (s.raise Fld.KVS_ERR_HOLD_EXPIRED).endSubFree r q STS_NOT_OWNER 0 0
    | _ => s.raise Fld.KVS_ERR_HOLD_EXPIRED

/-! ## The commands -/

def execEnoreSessionOpen (r : SessReq) (s : State) : Res := ended (s.sessionOpen r)
def execEnoreSessionAttach (r : SessReq) (s : State) : Res := ended (s.sessionAttach r)
def execEnoreCommandImmediate (session imm : Nat) (records : List EnoreRec) (s : State) : Res := ended (s.commandImmediate session imm records)
def execPut (session cmd : Nat) (value : Option Nat) (s : State) : Res := ended (s.enorePut session cmd value)
def execGet (session cmd : Nat) (xferOk short : Bool) (s : State) : Res := ended (s.enoreGet session cmd xferOk short)
def execDelete (session cmd : Nat) (s : State) : Res := ended (s.enoreDelete session cmd)
def execList (session cmd : Nat) (xferOk : Bool) (s : State) : Res := ended (s.enoreList session cmd xferOk)
def execExist (session cmd : Nat) (s : State) : Res := ended (s.enoreExist session cmd)
def execState (session cmd : Nat) (xferOk : Bool) (s : State) : Res := ended (s.enoreState session cmd xferOk)
def execClose (session cmd : Nat) (s : State) : Res := ended (s.enoreClose session cmd)
def execEnoreResponseWrite (session index : Nat) (s : State) : Res := ended (s.responseWrite session index)
def execSessionIdleExpiry (session : Nat) (s : State) : Res := ended (s.idleExpiry session)
def execSessionKeepExpiry (session : Nat) (s : State) : Res := ended (s.keepExpiry session)
def execEpochUpdateReceive (epoch tEff : Nat) (changes : List PlaceChange) (s : State) : Res := ended (s.updateKnown epoch tEff changes)
def execEpochUpdateApply (s : State) : Res := ended s.epochApply
def execEpochFetch (updates : Option (List (Nat × Nat × List PlaceChange))) (s : State) : Res := ended (s.epochFetch updates)
def execAuthorityRequestReceive (array : Nat) (q : AuthReq) (s : State) : Res := ended (s.authority array q)
def execBalancingRound (answer : Option (Nat × Nat × Nat × Nat)) (s : State) : Res := ended (s.balancingRound answer)
def execCaravanPropose (peer : Nat) (buckets : List Nat) (bytes : Nat) (answer : Option Bool) (s : State) : Res :=
  ended (s.caravanPropose peer buckets bytes answer)
def execCaravanCopyBatch (b : Batch) (s : State) : Res := ended (s.caravanCopy b)
def execCaravanGrant (grant : Option (Nat × Nat)) (s : State) : Res := ended (s.caravanGrant grant)
def execCaravanCutover (s : State) : Res := ended s.caravanCutover
def execCaravanInstall (final : Batch) (slots : List (Nat × Nat × List (Nat × Nat))) (s : State) : Res := ended (s.caravanInstall final slots)
def execCaravanRelease (s : State) : Res := ended s.caravanRelease
def execCaravanAbort (out : Bool) (s : State) : Res := ended (s.caravanAbort out)
def execCaravanHoldExpiry (s : State) : Res := ended s.holdExpiry

end Sys2Proof.Machine
end

