-- ==== Sys2Proof/Machine/Snp.lean ====
section
/-!
DEFINITION. SNP: snapshots, clones and attached epochs (R402 to R408), and replication links (R409 to R416).
-/
namespace Sys2Proof.Machine

open Sys2Proof

/-! ## Commands and the catalogue -/

/-- An error of SNP with the namespace and link it concerns. -/
def State.snpError (s : State) (f : Field) (nsid link : Nat) : State :=
  ((s.raise f).wr Fld.SNP_ERR_INFO_NSID nsid).wr Fld.SNP_ERR_INFO_LINK link

/-- A command of `SNP_CMD` completes. -/
def State.snpDone (s : State) (status epoch : Nat) : State :=
  let s := (s.wr Fld.SNP_CMD_RESULT_STATUS status).wr Fld.SNP_CMD_RESULT_EPOCH epoch
  (s.wr Fld.SNP_CMD_RESULT_DONE 1).wr Fld.SNP_CMD_RESULT_BUSY 0

/-- A command of `SNP_CMD` runs, unless one is in progress or SNP is disabled (R418). -/
def State.snpCmd (s : State) (run : State → State) : State :=
  if !s.enabled Blk.SNP || s.rdb Fld.SNP_CMD_RESULT_BUSY then s
  else run ((s.wr Fld.SNP_CMD_RESULT_BUSY 1).wr Fld.SNP_CMD_RESULT_DONE 0)

/-- A catalogue entry. -/
def State.cat (s : State) (e : Nat) : Option CatEntry := s.snp.cat.look e

/-- Replace a catalogue entry. -/
def State.setCat (s : State) (e : Nat) (c : CatEntry) : State := { s with snp := { s.snp with cat := s.snp.cat.put e c } }

/-- Start a catalogue flush (R403). -/
def State.flush (s : State) (f : FlushOf) : State := { s with snp := { s.snp with flushes := s.snp.flushes ++ [f] } }

/-- One more epoch would pass a limit of R397, in the array or in a line. -/
def State.epochLimit (s : State) (nsid : Nat) : Bool :=
  decide (1048576 ≤ s.snp.cat.length) || decide (65536 ≤ s.snp.cat.countP (fun _ c => c.nsid == nsid))

/-- The ownership set of a namespace. -/
def State.osetOf (s : State) (nsid : Nat) : Nat := match s.adm.nss.look nsid with | some n => n.oset | none => 0

/-- This head owns a namespace's set. -/
def State.ownsNs (s : State) (nsid : Nat) : Bool := (s.adm.nss.has nsid) && s.setState (s.osetOf nsid) == setOwned

/-- A namespace of class SPAN (Table 15.1). -/
def State.spanNs (s : State) (nsid : Nat) : Bool := match s.kvs.ns.look nsid with | some k => k.span | none => false

/-- The newest frozen epoch of a line; 0 for none. -/
def State.lastFrozen (s : State) (nsid : Nat) : Nat :=
  (s.snp.cat.filter (fun e => e.2.nsid == nsid && e.2.state != epActive)).foldl (fun a e => max a e.1) 0

/-- The entry of a cut that is not frozen. -/
def CatEntry.cutAt (nsid cut pred : Nat) (armed : Bool) : CatEntry :=
  { nsid := nsid, cut := cut, pred := pred, srcNsid := 0, state := epPending, scheduled := false, sched := 0, linkBase := false,
    cloneSrc := false, epsNs := 0, expose := 0, armed := armed }

/-- A new epoch takes the next number of the array's counter (R395). -/
def State.newEpoch (s : State) (c : CatEntry) : State × Nat :=
  let e := s.snp.nextEpoch
  ({ s with snp := { s.snp with nextEpoch := e + 1, cat := s.snp.cat.put e c } }, e)

/-- What a command on an epoch of another head's set, or of no namespace, completes with. -/
def State.nsRefusal (s : State) (nsid : Nat) : Option Nat :=
  if !s.adm.nss.has nsid then some STS_INVALID_NAMESPACE
  else if !s.ownsNs nsid then some STS_NOT_OWNER
  else none

/-- SNAP_CREATE: `SNP_CMD` OP 1 (R402, R403). -/
def State.snapCreate (s : State) : State :=
  s.snpCmd (fun s =>
    let nsid := s.rd Fld.SNP_CMD_ARG_NSID
    let t := s.rd Fld.SNP_CMD_ARG_T
    match s.nsRefusal nsid with
    | some st => s.snpDone st 0
    | none =>
      if s.spanNs nsid then s.snpDone STS_ADM_REFUSED 0
      else if s.snp.replicas.has nsid then s.snpDone STS_WRITE_PROTECTED 0
      else if t < s.ctNs + s.rd Fld.SNP_CFG_LEAD_MS * 1000000 then (s.snpError Fld.SNP_ERR_CUT_LATE nsid 0).snpDone STS_CUT_TOO_LATE 0
      else if s.epochLimit nsid then (s.snpError Fld.SNP_ERR_LIMIT nsid 0).snpDone STS_SNAP_LIMIT 0
      else
        let q := s.newEpoch (CatEntry.cutAt nsid t (s.lastFrozen nsid) false)
        (q.1.wr Fld.SNP_CMD_RESULT_EPOCH q.2).flush (.create q.2))

/-- The keys of the map that hold versions of a namespace, and of the sources its line shares pages with. -/
def State.leafKeys (s : State) (nsid : Nat) : List Nat := (s.map.leaves.filter (fun e => leafNs e.1 == nsid)).map (·.1)

/-- The same for descriptors. -/
def State.kvKeys (s : State) (nsid : Nat) : List Nat := (s.map.kv.filter (fun e => kvNs e.1 == nsid)).map (·.1)

/-- Merge a deleted epoch into its successor (R408 steps 2 and 3): the −1 of each indexed chunk that no epoch holds any more, and the
versions gone. -/
def State.mergeEpoch (s : State) (nsid : Nat) : State :=
  let refs := ((s.leafKeys nsid).filter (fun k => k / 2 ^ 64 % 131072 == 0)).flatMap s.droppedRefs ++ (s.kvKeys nsid).flatMap s.kvDroppedRefs
  let ds : List Delta := refs.map (fun h =>
    { kind := 4, reloc := false, nsid := nsid, laddr := h.1, addr := h.2, wseq := 0, pg := 0 })
  let s := ((s.leafKeys nsid).filter (fun k => k / 2 ^ 64 % 131072 == 0)).foldl State.pruneLeaf s
  let s := (s.kvKeys nsid).foldl State.pruneKv s
  if ds = [] then s else s.issue (.mapDelta ds) (1 + ceilDiv ds.length 2) (s.osetOf nsid)

/-- Delete a frozen epoch, or the status that refuses it (R408). -/
def State.deleteEpoch (s : State) (e : Nat) (cmd : Bool) : State × Nat :=
  match s.cat e with
  | none => (s, STS_BAD_DESCRIPTOR)
  | some c =>
    if c.cloneSrc || c.linkBase || c.expose != 0 || c.state == epActive then (s, STS_SNAP_IN_USE)
    else if c.state != epReady then (s, STS_BAD_DESCRIPTOR)
    else (((s.setCat e { c with state := epDeleting }).mergeEpoch c.nsid).flush (.remove e cmd), STS_OK)

/-- SNAP_DELETE: OP 2. -/
def State.snapDelete (s : State) : State :=
  s.snpCmd (fun s =>
    let nsid := s.rd Fld.SNP_CMD_ARG_NSID
    let e := s.rd Fld.SNP_CMD_ARG_EPOCH
    match s.nsRefusal nsid with
    | some st => s.snpDone st 0
    | none =>
      if !((s.cat e).any (fun c => c.nsid == nsid)) then s.snpDone STS_BAD_DESCRIPTOR e
      else
        let q := s.deleteEpoch e true
        if q.2 = STS_OK then q.1 else q.1.snpDone q.2 e)

/-- A READY epoch of the namespace a command names. -/
def State.readyArg (s : State) : Option CatEntry :=
  match s.cat (s.rd Fld.SNP_CMD_ARG_EPOCH) with
  | some c => if c.nsid = s.rd Fld.SNP_CMD_ARG_NSID ∧ c.state = epReady then some c else none
  | none => none

/-- SNAP_CLONE: OP 3 (R407). -/
def State.snapClone (s : State) : State :=
  s.snpCmd (fun s =>
    let nsid := s.rd Fld.SNP_CMD_ARG_NSID
    let new := s.rd Fld.SNP_CMD_ARG_NEW_NSID
    let e := s.rd Fld.SNP_CMD_ARG_EPOCH
    match s.nsRefusal nsid, s.readyArg with
    | some st, _ => s.snpDone st 0
    | none, none => s.snpDone STS_BAD_DESCRIPTOR e
    | none, some c =>
      if s.adm.nss.has new ∨ new = 0 then s.snpDone STS_BAD_DESCRIPTOR e
      else if s.epochLimit new then (s.snpError Fld.SNP_ERR_LIMIT nsid 0).snpDone STS_SNAP_LIMIT e
      else
        let entry : CatEntry := { CatEntry.cutAt new 0 e true with state := epActive, srcNsid := nsid }
        let q := (s.setCat e { c with cloneSrc := true }).newEpoch entry
        (q.1.wr Fld.SNP_CMD_RESULT_EPOCH q.2).flush (.clone new e))

/-- REPLICA_PROMOTE: OP 4 (R411). -/
def State.replicaPromote (s : State) : State :=
  s.snpCmd (fun s =>
    let nsid := s.rd Fld.SNP_CMD_ARG_NSID
    match s.nsRefusal nsid with
    | some st => s.snpDone st 0
    | none => if s.snp.replicas.has nsid then s.flush (.promote nsid) else s.snpDone STS_BAD_DESCRIPTOR 0)

/-- SNAP_ATTACH: OP 5 (R407). -/
def State.snapAttach (s : State) : State :=
  s.snpCmd (fun s =>
    let nsid := s.rd Fld.SNP_CMD_ARG_NSID
    let new := s.rd Fld.SNP_CMD_ARG_NEW_NSID
    let e := s.rd Fld.SNP_CMD_ARG_EPOCH
    match s.nsRefusal nsid, s.readyArg with
    | some st, _ => s.snpDone st 0
    | none, none => s.snpDone STS_BAD_DESCRIPTOR e
    | none, some c =>
      if c.expose ≠ 0 then s.snpDone STS_SNAP_IN_USE e
      else if s.adm.nss.has new ∨ new = 0 then s.snpDone STS_BAD_DESCRIPTOR e
      else (s.setCat e { c with expose := new }).flush (.attach e))

/-! ## Cuts -/

/-- Held writes of a namespace go on, with t_a above T (R404). -/
def State.releaseNs (s : State) (nsid t : Nat) : State :=
  if !s.snp.heldNs.mem nsid then s
  else
    let s := State.advanceCt { s with snp := { s.snp with heldNs := s.snp.heldNs.remove nsid } } (Frac.int ((t + 1 : Nat)))
    (s.ops.filter (fun e => e.2.nsid == nsid && !e.2.accepted)).foldl (fun s e =>
      match e.2.stage with
      | .journal => match s.recOf e.2.jseq with
        | some r => if s.recPersistent r then s.accept e.1 else s
        | none => s
      | .direct => s.acceptDirect e.1
      | _ => s) s

/-- An armed cut is passed: SEALING, ε recorded, and a new active epoch opens (R405). -/
def State.seal (s : State) (e : Nat) (c : CatEntry) : State :=
  let old := s.snp.cat.first? (fun _ a => a.nsid == c.nsid && a.state == epActive)
  let s := match old with
    | some (k, _) => { s with snp := { s.snp with cat := s.snp.cat.del k } }
    | none => s
  let s := s.setCat e { c with state := epSealing, epsNs := s.epsNs }
  let entry : CatEntry := match old with
    | some (_, a) => { a with pred := e }
    | none => { CatEntry.cutAt c.nsid 0 e true with state := epActive }
  (s.newEpoch entry).1

/-- CUT_INSTANT: the owner's clock reaches a cut's instant (R404, R405). -/
def State.cutInstant (s : State) (e : Nat) : State :=
  match s.cat e with
  | none => s
  | some c =>
    if c.state != epPending || !s.ownsNs c.nsid then s
    else
      let s := s.advanceCt (Frac.int (c.cut : Nat))
      if c.armed then s.seal e c
      else if s.snp.heldNs.mem c.nsid then s
      else State.snpError { s with snp := { s.snp with heldNs := s.snp.heldNs.insert c.nsid } } Fld.SNP_ERR_CUT_HELD c.nsid 0

/-- A write of the namespace issued at or before the cut has not got its STAMP entry persistent in both places (R405). -/
def State.stampOpen (s : State) (c : CatEntry) : Bool :=
  let ws := s.ops.filter (fun e => e.2.nsid == c.nsid && (match s.recOf e.2.jseq with
    | some r => decide (r.tIssue ≤ c.cut)
    | none => false))
  let stamps := s.pjm.recs.filter (fun e => e.2.live && (match e.2.body with
    | .stamp _ => true
    | _ => false))
  ws.any (fun e => !e.2.accepted || s.pjm.stamps.any (fun p => p.1 == e.2.jseq) ||
    stamps.any (fun r => !s.recPersistent r.2 && (match r.2.body with
      | .stamp es => es.any (fun p => p.1 == e.2.jseq)
      | _ => false)))

/-- CUT_READY (R405): the change is made visible by a flush. -/
def State.cutReady (s : State) (e : Nat) : State :=
  match s.cat e with
  | none => s
  | some c =>
    if c.state != epSealing || !s.ownsNs c.nsid || s.stampOpen c || s.snp.flushes.any (fun f => f == .ready e) then s
    else s.flush (.ready e)

/-- READY cuts of a schedule, oldest first. -/
def State.readyOf (s : State) (nsid k : Nat) : List Nat :=
  (s.snp.cat.filter (fun e => e.2.nsid == nsid && e.2.scheduled && e.2.sched == k && e.2.state == epReady)).map (·.1)

/-- Delete the oldest READY cut of a schedule beyond KEEP; one that R408 refuses stays (R406). -/
def State.keepSched (s : State) (nsid k : Nat) : State :=
  let l := s.readyOf nsid k
  if k = 0 ∨ l.length ≤ s.rd Fld.SNP_SCHED_KEEP k then s
  else match l with
    | e :: _ => (s.deleteEpoch e false).1
    | [] => s

/-- Take one namespace's scheduled cuts that are due. -/
def State.schedCut (s : State) (k nsid : Nat) : State :=
  if (s.snpPolicy nsid).1 ≠ k ∨ s.ownsNs nsid = false ∨ s.spanNs nsid = true ∨ s.snp.replicas.has nsid = true then s
  else
    let s := (s.schedDue nsid).foldl (fun s t =>
      if s.epochLimit nsid then s.snpError Fld.SNP_ERR_LIMIT nsid 0
      else
        let c : CatEntry := { CatEntry.cutAt nsid t (s.lastFrozen nsid) true with scheduled := true, sched := k }
        let q := s.newEpoch c
        (q.1.seal q.2 c).flush (.create q.2)) s
    s.keepSched nsid k

/-- SCHEDULE_CUT_TRIGGER (R406). -/
def State.schedTrigger (s : State) (k : Nat) : State :=
  if !s.enabled Blk.SNP || k = 0 || 32 ≤ k then s
  else
    let s := s.boundary Blk.SNP
    (s.adm.nss.map (·.1)).foldl (fun s n => s.schedCut k n) s

/-! ## Flushes -/

/-- A promoted replica is writable at its last frozen epoch, or with the pending one when its link is in SYNC (R411). -/
def State.promoteNow (s : State) (ns : Nat) (r : Replica) : State :=
  let all := r.sync && !r.partial_
  let close (v : Leaf) : Leaf := if v.stamp = openStamp then { v with stamp := s.ctNs } else v
  let closeKv (v : KvVer) : KvVer := if v.stamp = openStamp then { v with stamp := s.ctNs } else v
  let f (vs : List Leaf) : List Leaf := if all then vs.map close else vs.filter (fun v => v.stamp != openStamp)
  let g (vs : List KvVer) : List KvVer := if all then vs.map closeKv else vs.filter (fun v => v.stamp != openStamp)
  { s with
    map := { s.map with leaves := s.map.leaves.mapVal (fun k vs => if leafNs k = ns then f vs else vs)
                        kv := s.map.kv.mapVal (fun k vs => if kvNs k = ns then g vs else vs) }
    snp := { s.snp with replicas := s.snp.replicas.del ns } }

/-- The namespace that a clone or an attachment makes: the source's, under its own NSID (R407). -/
def State.copyNs (s : State) (nsid new : Nat) (ro : Bool) : State :=
  match s.adm.nss.look nsid with
  | none => s
  | some n =>
    let s := { s with adm := { s.adm with nss := s.adm.nss.put new { n with readOnly := ro } } }
    match s.kvs.ns.look nsid with
    | some k => { s with kvs := { s.kvs with ns := s.kvs.ns.put new k } }
    | none => s

/-- What the persistence of a flush brings about (R403 to R408, R411, R415). -/
def State.flushed (s : State) (f : FlushOf) : State :=
  match f with
  | .create e =>
    match s.cat e with
    | none => s
    | some c =>
      if c.scheduled then s
      else
        let s := s.setCat e { c with armed := true }
        let s := s.snpDone STS_OK e
        if s.snp.heldNs.mem c.nsid then (s.seal e { c with armed := true }).releaseNs c.nsid c.cut else s
  | .withdraw e =>
    match s.cat e with
    | none => s
    | some c =>
      let s := { s with snp := { s.snp with cat := s.snp.cat.del e } }
      ((s.snpError Fld.SNP_ERR_CUT_LATE c.nsid 0).snpDone STS_CUT_TOO_LATE e).releaseNs c.nsid c.cut
  | .ready e =>
    match s.cat e with
    | none => s
    | some c =>
      let s := s.setCat e { c with state := epReady }
      (s.eventToAll (s.nsFns c.nsid) Blk.SNP 0x0007 s.ctNs c.nsid e).keepSched c.nsid c.sched
  | .remove e cmd =>
    let s := { s with snp := { s.snp with cat := s.snp.cat.del e } }
    if cmd then s.snpDone STS_OK e else s
  | .clone new e =>
    match s.cat e with
    | none => s
    | some c =>
      let s := s.copyNs c.nsid new false
      let s := { s with snp := { s.snp with clones := s.snp.clones.put new (c.nsid, c.cut) } }
      s.snpDone STS_OK (s.rd Fld.SNP_CMD_RESULT_EPOCH)
  | .attach e =>
    match s.cat e with
    | none => s
    | some c => (s.copyNs c.nsid c.expose true).snpDone STS_OK e
  | .promote ns =>
    match s.snp.replicas.look ns with
    | some r => (s.promoteNow ns r).snpDone STS_OK 0
    | none => s.snpDone STS_OK 0
  | .freeze ns e =>
    match s.snp.replicas.look ns, s.cat e with
    | some r, some c =>
      let n := match r.last with
        | some p => p.1
        | none => r.doneTo
      let r := { r with lastCut := c.cut, doneTo := n, last := none, partial_ := false, sync := false }
      let s := { s with snp := { s.snp with replicas := s.snp.replicas.put ns r } }
      let b : Batch := { kind := 4, srcArray := s.arrayId, link := r.link, cut := 0, base := 0, seq := n, last := false, status := STS_OK,
                         crcOk := true, records := [] }
      s.emit (.batch r.srcArray b)
    | _, _ => s
  | .internal l e =>
    match s.cat e with
    | none => s
    | some c =>
      let s := s.setCat e { c with armed := true }
      let s := { s with snp := { s.snp with links := s.snp.links.modify l (fun x => { x with cr := some c.cut }) } }
      if s.snp.heldNs.mem c.nsid then (s.seal e { c with armed := true }).releaseNs c.nsid c.cut else s

/-- CATALOGUE_FLUSH_DONE: the oldest flush has become persistent; or it has failed: a create or an internal cut is withdrawn by a flush
of its own (R404), every other is written again. -/
def State.flushDone (s : State) (ok : Bool) : State :=
  match s.snp.flushes with
  | [] => s
  | f :: t =>
    if ok then State.flushed { s with snp := { s.snp with flushes := t } } f
    else
      match f with
      | .create e =>
        if (s.cat e).any (fun c => c.scheduled) then s else { s with snp := { s.snp with flushes := .withdraw e :: t } }
      | .internal _ e =>
        match s.cat e with
        | some c => State.releaseNs { s with snp := { s.snp with flushes := t, cat := s.snp.cat.del e } } c.nsid c.cut
        | none => { s with snp := { s.snp with flushes := t } }
      | _ => s

/-! ## Links: the source -/

abbrev linkOff : Nat := 0
abbrev linkAsync : Nat := 1
abbrev linkCatchup : Nat := 2
abbrev linkSync : Nat := 3
abbrev linkSuspended : Nat := 4

/-- `SNP_RLINK_STAT.STATE`. -/
def State.linkState (s : State) (l : Nat) : Nat := s.rd Fld.SNP_RLINK_STAT_STATE l

/-- Change a link. -/
def State.modLink (s : State) (l : Nat) (f : Link → Link) : State :=
  { s with snp := { s.snp with links := s.snp.links.modify l f } }

/-- The namespace a link replicates from this head (R409). -/
def State.linkNs (s : State) (l : Nat) : Option Nat := ((s.linkNss l).map (·.1)).find? (fun n => s.ownsNs n && !s.snp.replicas.has n)

/-- The record of a block whose content differs between two cuts (R410). -/
def State.blockRec (s : State) (nsid lba : Nat) (base : Option Nat) (cut : Nat) : Option BatchRec :=
  let new := s.leafAt nsid 0 lba (some cut)
  let old := match base with
    | some b => s.leafAt nsid 0 lba (some b)
    | none => none
  match new with
  | none => none
  | some v =>
    if old.any (fun o => o.wseq == v.wseq) ∨ (base = none ∧ v.kind = 0) then none
    else
      let r : BatchRec := { kind := 1, nsid := 0, laddr := lba, len := 1, key := 0, keyLen := 0, data := [], srcWseq := v.wseq, tA := v.stamp,
                            version := 0 }
      if v.kind = 0 then some { r with kind := 3 }
      else match s.contentOf lba (some v) with
        | .data d => some { r with data := [d] }
        | .fail _ => none

/-- The record of a key whose value differs between two cuts; buckets that live on another array are left out (R416). -/
def State.kvRec (s : State) (nsid k : Nat) (base : Option Nat) (cut : Nat) : Option BatchRec :=
  let pg := kvPg k
  let key := kvBytes k
  let len := kvLen k
  let old := match base with
    | some b => s.kvAt nsid pg key len (some b)
    | none => none
  match s.kvAt nsid pg key len (some cut) with
  | none => none
  | some v =>
    if old.any (fun o => o.wseq == v.wseq) ∨ (base = none ∧ v.present = false) ∨
        (s.clusterNs nsid = true ∧ (s.bucket (s.bucketOf nsid key len)).array ≠ s.arrayId) then none
    else
      let r : BatchRec := { kind := 4, nsid := 0, laddr := 0, len := v.vlen, key := key, keyLen := len, data := [], srcWseq := v.wseq,
                            tA := v.stamp, version := v.valueId }
      if !v.present then some { r with kind := 5, len := 0 }
      else match s.valueOf nsid pg v with
        | .data d => some { r with data := [d] }
        | .fail _ => none

/-- The delta of a namespace between a base cut and a cut (R410). -/
def State.deltaRecs (s : State) (nsid : Nat) (base : Option Nat) (cut : Nat) : List BatchRec :=
  ((s.leafKeys nsid).filter (fun k => k / 2 ^ 64 % 131072 == 0)).filterMap (fun k => s.blockRec nsid (k % 2 ^ 64) base cut) ++
    (s.kvKeys nsid).filterMap (fun k => s.kvRec nsid k base cut)

/-- Bytes of a record's data. -/
def recBytes (r : BatchRec) : Nat := if r.kind = 4 then r.len else if r.kind = 1 then 4096 * r.len else 0

/-- Send a batch on a link, taking the link's next number. -/
def State.sendBatch (s : State) (l kind cut base : Nat) (last : Bool) (rs : List BatchRec) (op : Option Nat) : State :=
  match s.snp.links.look l with
  | none => s
  | some x =>
    let b : Batch := { kind := kind, srcArray := s.arrayId, link := l, cut := cut, base := base, seq := x.nextBatch, last := last, status := 0,
                       crcOk := true, records := rs }
    let sb : SentBatch := { b := b, at_ := s.now, firstAt := s.now, op := op }
    (s.modLink l (fun x => { x with nextBatch := x.nextBatch + 1, sent := x.sent.put b.seq sb })).emit
      (.batch (s.rd Fld.SNP_RLINK_ARRAY l) b)

/-- The base cut a link's next delta starts from: none for a full copy. -/
def State.baseCut (s : State) (x : Link) : Option Nat := if x.base = 0 ∨ s.snp.cat.has x.baseEpoch = false then none else some x.base

/-- REPLICATION_DELTA_SHIP (R410): a READY cut after the base, on a link in ASYNC or CATCHUP with no delta under way. -/
def State.deltaShip (s : State) (l e : Nat) : State :=
  let s := s.boundary Blk.SNP
  match s.snp.links.look l, s.linkNs l, s.cat e with
  | some x, some ns, some c =>
    if !s.enabled Blk.SNP || !(s.linkState l == linkAsync || s.linkState l == linkCatchup) || c.nsid != ns || c.state != epReady ||
        x.shipping.isSome || decide (c.cut ≤ x.base) then s
    else
      let base := s.baseCut x
      let s := s.modLink l (fun x => { x with shipping := some (c.cut, e) })
      s.sendBatch l 2 c.cut (base.getD 0) true (s.deltaRecs ns base c.cut) none
  | _, _, _ => s

/-- The write of a synchronous batch needs wait for the target no longer. -/
def State.syncDone (s : State) (o : Option Nat) : State :=
  match o with
  | some o => (s.modOp o (fun x => { x with synced := true })).tryRelease o
  | none => s

/-- A synchronous write is dropped (R54, R413): local status, CATCHUP, STS_REPLICA_DROPPED for the hosts. -/
def State.syncDrop (s : State) (l : Nat) (o : Option Nat) : State :=
  let s := if s.linkState l = linkSync ∨ s.linkState l = linkCatchup then s.wr Fld.SNP_RLINK_STAT_STATE linkCatchup l else s
  let s := s.modLink l (fun x => { x with cr := none, sent := x.sent.keep (fun _ b => b.op != o || o.isNone) })
  match o with
  | none => s
  | some k =>
    match s.ops.look k with
    | none => s
    | some x =>
      let s := s.snpError Fld.SNP_ERR_SYNC_DROP x.nsid l
      let s := s.deferAll { cause := STS_REPLICA_DROPPED, overflow := false, nsid := x.nsid, slba := x.lba, nlb := x.blocks,
                            bucket := if x.keyLen = 0 then 0 else s.bucketOf x.nsid x.key x.keyLen, key := x.key, keyLen := x.keyLen,
                            time := s.ctNs }
      s.syncDone (some k)

/-- An acknowledged delta: the base pin moves, the old base goes unless a schedule retains it, CATCHUP up to C_r becomes SYNC (R414 to
R416). -/
def State.deltaAcked (s : State) (l cut e : Nat) : State :=
  match s.snp.links.look l with
  | none => s
  | some x =>
    let old := x.baseEpoch
    let s := match s.cat e with
      | some c => s.setCat e { c with linkBase := true }
      | none => s
    let s := s.modLink l (fun x => { x with base := cut, baseEpoch := e, shipping := none })
    let s := if old = e then s
      else match s.cat old with
        | some c =>
          let s := s.setCat old { c with linkBase := false }
          if c.scheduled then s else (s.deleteEpoch old false).1
        | none => s
    let s := (s.wr Fld.SNP_RLINK_STAT_LAST_CUT cut l).wr Fld.SNP_RLINK_STAT_LAG_MS (min ((s.ctNs - cut) / 1000000) 0xFFFFFFFF) l
    match x.cr with
    | some c => if c ≤ cut ∧ s.linkState l = linkCatchup then
        (s.wr Fld.SNP_RLINK_STAT_STATE linkSync l).modLink l (fun x => { x with cr := none }) else s
    | none => s

/-- A reply shows that a SUSPENDED link's target is back (Table 18.5). -/
def State.linkBack (s : State) (l : Nat) : State :=
  if s.linkState l = linkSuspended then
    s.wr Fld.SNP_RLINK_STAT_STATE (if s.rd Fld.SNP_RLINK_MODE l = 2 then linkCatchup else linkAsync) l else s

/-- REPLICATION_ACK_RECEIVE (R409, R413, R416): a KIND 4 batch for a batch that is out. -/
def State.ackBatch (s : State) (l seq status : Nat) : State :=
  match s.snp.links.look l with
  | none => s
  | some x =>
    match x.sent.look seq with
    | none => s
    | some b =>
      let s := s.modLink l (fun x => { x with sent := x.sent.del seq, lastReply := s.now, rttNs := (s.now - b.at_) / unitsPerNs })
      let s := s.linkBack l
      if b.b.kind = 3 then (if status = STS_OK then s.syncDone b.op else s.syncDrop l b.op)
      else if status ≠ STS_OK then
        s.modLink l (fun x => { x with shipping := none, base := if status = STS_SNAP_IN_USE then 0 else x.base })
      else
        match x.shipping with
        | some (cut, e) => if b.b.last then s.deltaAcked l cut e else s
        | none => s

/-- REPLICATION_BATCH_TIMEOUT (R409): a batch without a reply is sent again. -/
def State.batchTimeout (s : State) (l seq : Nat) : State :=
  match s.snp.links.look l with
  | none => s
  | some x =>
    match x.sent.look seq with
    | none => s
    | some b =>
      let s := s.advanceUs b.at_ (s.rd Fld.SNP_RLINK_SYNC_TMO_US l)
      (s.modLink l (fun x => { x with sent := x.sent.modify seq (fun b => { b with at_ := s.now }) })).emit
        (.batch (s.rd Fld.SNP_RLINK_ARRAY l) b.b)

/-- The record of a synchronous write. -/
def syncRecs (x : WriteOp) : List BatchRec :=
  let base : BatchRec := { kind := 1, nsid := 0, laddr := x.lba, len := x.blocks, key := x.key, keyLen := x.keyLen, data := x.data,
                           srcWseq := x.wseq, tA := x.tA, version := x.valueId }
  match x.kind with
  | .block => [base]
  | .zeroes => [{ base with kind := 2, data := [] }]
  | .dealloc => [{ base with kind := 3, data := [] }]
  | .kvPut => [{ base with kind := 4, laddr := 0, len := x.valueLen }]
  | .kvDelete => [{ base with kind := 5, laddr := 0, len := 0, data := [] }]

/-- SYNC_WRITE_SEND (R413): an accepted write that waits for its link goes out as a KIND 3 batch. -/
def State.syncSend (s : State) (o : Nat) : State :=
  match s.ops.look o with
  | none => s
  | some x =>
    match s.syncLink x.nsid x.tA with
    | none => s
    | some l =>
      if !x.accepted || x.synced || (match s.snp.links.look l with | some k => k.sent.any (fun e => e.2.op == some o) | none => true) then s
      else s.sendBatch l 3 x.tA 0 false (syncRecs x) (some o)

/-- SYNC_WRITE_TIMEOUT (R413). -/
def State.syncTimeout (s : State) (l seq : Nat) : State :=
  match s.snp.links.look l with
  | none => s
  | some x =>
    match x.sent.look seq with
    | none => s
    | some b =>
      if b.b.kind ≠ 3 then s
      else (s.advanceUs b.firstAt (4 * s.rd Fld.SNP_RLINK_SYNC_TMO_US l)).syncDrop l b.op

/-- Bytes of the delta that the target has not acknowledged. -/
def State.pendingBytes (s : State) (l ns : Nat) (x : Link) : Nat :=
  match x.shipping with
  | some _ => ((x.sent.filter (fun e => e.2.b.kind == 2)).map (fun e => (e.2.b.records.map recBytes).sum)).sum
  | none => ((s.deltaRecs ns (s.baseCut x) s.ctNs).map recBytes).sum + 0 * l

/-- CATCHUP_CUT_ARM (R415). -/
def State.catchupCut (s : State) (l : Nat) : State :=
  match s.snp.links.look l, s.linkNs l with
  | some x, some ns =>
    let armed := s.snp.flushes.any (fun f => match f with
      | .internal k _ => k == l
      | _ => false)
    if s.linkState l ≠ linkCatchup ∨ x.cr.isSome = true ∨ armed = true ∨ 67108864 ≤ s.pendingBytes l ns x then s
    else if s.epochLimit ns then s.snpError Fld.SNP_ERR_LIMIT ns l
    else
      let q := s.newEpoch (CatEntry.cutAt ns (s.ctNs + s.rd Fld.SNP_CFG_LEAD_MS * 1000000) (s.lastFrozen ns) false)
      q.1.flush (.internal l q.2)
  | _, _ => s

/-- LINK_SUSPEND (R414): no reply for 1 s while a batch is out; writes that waited complete locally and are recorded as dropped. -/
def State.linkSuspend (s : State) (l : Nat) : State :=
  match s.snp.links.look l with
  | none => s
  | some x =>
    if s.linkState l = linkOff ∨ s.linkState l = linkSuspended ∨ x.sent = [] then s
    else
      let first := (x.sent.map (fun e => e.2.firstAt)).foldl min s.now
      let s := s.advanceUs (max x.lastReply first) 1000000
      let ops := (x.sent.filterMap (fun e => e.2.op))
      let s := s.wr Fld.SNP_RLINK_STAT_STATE linkSuspended l
      ops.foldl (fun s o => s.syncDrop l (some o)) s

/-- RPO_MISS (R412): the lag passes RPO_MS. -/
def State.rpoMiss (s : State) (l : Nat) : State :=
  match s.snp.links.look l, s.linkNs l with
  | some _, some ns =>
    let last := s.rd Fld.SNP_RLINK_STAT_LAST_CUT l
    let s := s.advanceCt (Frac.int ((last + (s.rd Fld.SNP_RLINK_RPO_MS l + 1) * 1000000 : Nat)))
    let s := s.wr Fld.SNP_RLINK_STAT_LAG_MS (min ((s.ctNs - last) / 1000000) 0xFFFFFFFF) l
    (s.snpError Fld.SNP_ERR_RPO_MISS ns l).record Blk.SNP 0x2001 l 0 0 (s.rdb Fld.SNP_CTRL_REPL_ALARM)
  | _, _ => s

/-! ## Links: the target -/

/-- The key under which a replica holds the source write sequence of a block or key. -/
def srcKey (r : BatchRec) (i : Nat) : Nat := if r.kind ≤ 3 then r.laddr + i else 2 ^ 64 + kvKey 0 0 r.key r.keyLen

/-- The one-block parts of a record, or the record itself. -/
def recParts (r : BatchRec) : List (BatchRec × Nat) :=
  if r.kind ≤ 3 then
    (List.range r.len).map (fun i => ({ r with laddr := r.laddr + i, len := 1, data := (r.data.drop i).take 1 }, srcKey r i))
  else [(r, srcKey r 0)]

/-- Start the write of one part, when its source write sequence is above the one held (R411). -/
def State.replicaWrite (s : State) (ns tenant link seq : Nat) (p : BatchRec × Nat) : State :=
  match s.snp.replicas.look ns with
  | none => s
  | some r =>
    let b := p.1
    if (match r.srcWseq.look p.2 with | some w => decide (b.srcWseq ≤ w) | none => false) then s
    else
      let s := { s with snp := { s.snp with replicas := s.snp.replicas.put ns { r with srcWseq := r.srcWseq.put p.2 b.srcWseq } } }
      let w : WriteReq :=
        if b.kind = 1 then blockReq .block ns b.laddr 1 b.data false
        else if b.kind = 2 then blockReq .zeroes ns b.laddr 1 [] false
        else if b.kind = 3 then blockReq .dealloc ns b.laddr 1 [] false
        else if b.kind = 4 then keyReq .kvPut ns b.key b.keyLen b.len b.data
        else keyReq .kvDelete ns b.key b.keyLen 0 []
      s.startWrite (.batch link seq) tenant w

/-- A replica before its first batch. -/
def Replica.init (src link : Nat) : Replica :=
  { srcArray := src, link := link, applied := [], doneTo := 0, last := none, partial_ := false, sync := false, srcWseq := [], lastCut := 0 }

/-- Answer a batch with a status. -/
def State.batchReply (s : State) (src link seq status : Nat) : State :=
  let b : Batch := { kind := 4, srcArray := s.arrayId, link := link, cut := 0, base := 0, seq := seq, last := false, status := status, crcOk := true,
                     records := [] }
  s.emit (.batch src b)

/-- REPLICATION_BATCH_RECEIVE (R409, R411, R416): a batch for the replica namespace that the link's queue pair serves. -/
def State.batchReceive (s : State) (ns : Nat) (b : Batch) : State :=
  if !s.enabled Blk.SNP || !b.crcOk || !s.ownsNs ns || !(b.kind == 2 || b.kind == 3) then s
  else
    let r := s.snp.replicas.getD ns (Replica.init b.srcArray b.link)
    let tenant := match s.adm.nss.look ns with
      | some n => n.tenant
      | none => 0
    if r.applied.mem b.seq then
      (if b.last ∧ r.last.isSome = true then s else if s.ops.any (fun e => e.2.src == .batch b.link b.seq) then s
       else s.batchReply b.srcArray b.link b.seq STS_OK)
    else if b.kind = 2 ∧ b.base ≠ 0 ∧ s.snp.cat.any (fun e => e.2.nsid == ns && e.2.cut == b.base && e.2.state == epReady) = false then
      s.batchReply b.srcArray b.link b.seq STS_SNAP_IN_USE
    else
      let r := { r with
        applied := r.applied.insert b.seq
        partial_ := r.partial_ || b.kind == 2
        sync := r.sync || b.kind == 3
        last := if b.kind = 2 ∧ b.last = true then some (b.seq, b.cut) else r.last }
      let s := { s with snp := { s.snp with replicas := s.snp.replicas.put ns r } }
      let n := s.nextOp
      let s : State := (b.records.flatMap recParts).foldl (fun (s : State) p => s.replicaWrite ns tenant b.link b.seq p) s
      if s.nextOp = n then s.answer (.batch b.link b.seq) (Answer.of STS_OK) else s

/-! ## The commands -/

def execSnapCreate (s : State) : Res := ended s.snapCreate
def execSnapDelete (s : State) : Res := ended s.snapDelete
def execSnapClone (s : State) : Res := ended s.snapClone
def execReplicaPromote (s : State) : Res := ended s.replicaPromote
def execSnapAttach (s : State) : Res := ended s.snapAttach
def execCatalogueFlushDone (ok : Bool) (s : State) : Res := ended (s.flushDone ok)
def execCutInstant (epoch : Nat) (s : State) : Res := ended (s.cutInstant epoch)
def execCutReady (epoch : Nat) (s : State) : Res := ended (s.cutReady epoch)
def execScheduleCutTrigger (sched : Nat) (s : State) : Res := ended (s.schedTrigger sched)
def execReplicationDeltaShip (link epoch : Nat) (s : State) : Res := ended (s.deltaShip link epoch)
def execReplicationBatchReceive (nsid : Nat) (b : Batch) (s : State) : Res := ended (s.batchReceive nsid b)
def execReplicationAckReceive (link seq status : Nat) (s : State) : Res := ended (s.ackBatch link seq status)
def execReplicationBatchTimeout (link seq : Nat) (s : State) : Res := ended (s.batchTimeout link seq)
def execSyncWriteSend (op : Nat) (s : State) : Res := ended (s.syncSend op)
def execSyncWriteTimeout (link seq : Nat) (s : State) : Res := ended (s.syncTimeout link seq)
def execCatchupCutArm (link : Nat) (s : State) : Res := ended (s.catchupCut link)
def execLinkSuspend (link : Nat) (s : State) : Res := ended (s.linkSuspend link)
def execRpoMiss (link : Nat) (s : State) : Res := ended (s.rpoMiss link)

end Sys2Proof.Machine
end

