-- ==== Sys2Proof/Machine/Power.lean ====
section
/-!
DEFINITION. PCIe link events (R79, R492), power-domain commands (R480, R481), regulator chains (R483, R484, R392) and core VDD
(R485).
-/
namespace Sys2Proof.Machine

open Sys2Proof

/-! ## PCIe -/

/-- A function stops (R79): its rings stop consuming at once, and nothing more is written to its host memory. -/
def State.fnStop (s : State) (n : Nat) : State :=
  let s := s.setFn n { s.fn n with stopped := true }
  (s.fnRingsOf n).foldl (fun (s : State) r =>
    if s.ringSt r = ringDisabled then s else (s.ringDisable r).ringDrainEnd r) s

/-- Every function of a list stops. -/
def State.fnStopAll (s : State) (l : List Nat) : State := l.foldl (fun (s : State) n => s.fnStop n) s

/-- The functions of the head (R79). -/
def allFns : List Nat := List.range 256

/-- No link is trained: domain 28 is reset or off. -/
def State.linksDown (s : State) : State :=
  let s := (s.wr Fld.HRI_STATUS_LINK_UP 0).fnStopAll allFns
  let s := ((s.wr Fld.HRI_STATUS_WIDTH0 0).wr Fld.HRI_STATUS_SPEED0 0).wr Fld.HRI_STATUS_FLIT0 0
  ((s.wr Fld.HRI_STATUS_WIDTH1 0).wr Fld.HRI_STATUS_SPEED1 0).wr Fld.HRI_STATUS_FLIT1 0

/-- PERST_N_ASSERT (R79, Table 23.3): every function stops and domain 28 is reset; the always-on state is kept. -/
def State.perstAssert (s : State) : State := State.linksDown { s with aon := { s.aon with perst := true } }

/-- FUNCTION_LEVEL_RESET and D3HOT_ENTRY (R79). -/
def State.fnReset (s : State) (n : Nat) : State := if n < 256 then s.fnStop n else s

/-- PCIE_LINK_LOSS (R79): every function on the link stops. -/
def State.linkLoss (s : State) (link : Nat) : State :=
  let fns := allFns.filter (fun n => s.fnLink n == link)
  let s := s.wr Fld.HRI_STATUS_LINK_UP (clrBit (s.rd Fld.HRI_STATUS_LINK_UP) link)
  s.fnStopAll fns

/-- PCIE_LINK_TRAIN (R492): with `SYS_RST_N` and `PERST_N` released and domain 28 powered, a link trains to a width and a speed; link
1 only of two ×8 links (R78). -/
def State.linkTrain (s : State) (link : Nat) (l : PcieLink) : State :=
  if s.aon.sysRst || !s.domainOn 28 || decide (1 < link) || (link == 1 && !s.rdb Fld.HRI_STATUS_BIF) then s
  else
    let s := { s with aon := { s.aon with perst := false } }
    let s := s.wr Fld.HRI_STATUS_LINK_UP (setBit (s.rd Fld.HRI_STATUS_LINK_UP) link)
    if link = 0 then
      ((s.wr Fld.HRI_STATUS_WIDTH0 l.width).wr Fld.HRI_STATUS_SPEED0 l.speed).wrb Fld.HRI_STATUS_FLIT0 l.flit
    else ((s.wr Fld.HRI_STATUS_WIDTH1 l.width).wr Fld.HRI_STATUS_SPEED1 l.speed).wrb Fld.HRI_STATUS_FLIT1 l.flit

/-! ## Regulator chains -/

/-- Chain 0 is A, any other B. -/
def State.chain (s : State) (c : Nat) : Chain := if c = 0 then s.pwr.chainA else s.pwr.chainB

/-- Replace a chain's state. -/
def State.setChain (s : State) (c : Nat) (x : Chain) : State :=
  if c = 0 then { s with pwr := { s.pwr with chainA := x } } else { s with pwr := { s.pwr with chainB := x } }

/-- The causes of a chain fault (Table 21.2). -/
abbrev causePwrgd : Nat := 1
abbrev causeStatus : Nat := 2
abbrev causeSilent : Nat := 3

/-- A chain fault is found: the first cause stands until it is declared. -/
def State.chainDue (s : State) (c cause status dev : Nat) : State :=
  let x := s.chain c
  s.setChain c { x with dirtyAt := s.now, due := if x.faulted || x.due.isSome then x.due else some (cause, status, dev) }

/-- The devices of `PWR_PMB_DEV` in use. -/
def State.pmbDevs (s : State) : List Nat := (List.range 16).filter (fun d => s.rdb Fld.PWR_PMB_DEV_VALID d)

/-- A transaction of a device ends, acknowledged or not: three in a row without an answer are a fault of its chain. -/
def State.pmbAck (s : State) (d : Nat) (ok : Bool) : State :=
  if ok then { s with pwr := { s.pwr with misses := s.pwr.misses.del d } }
  else
    let n := s.pwr.misses.getD d 0 + 1
    let s := { s with pwr := { s.pwr with misses := s.pwr.misses.put d n } }
    let s := (s.raise Fld.PWR_ERR_PMB_NAK).wr Fld.PWR_ERR_INFO_DEV d
    if n < 3 then s else s.chainDue (s.rd Fld.PWR_PMB_DEV_CHAIN d) causeSilent 0 d

/-- STATUS_WORD reports a fault of R483, as PMBus lays the word out: VOUT (bit 15), POWER_GOOD# (11), IOUT_OC_FAULT (4) or
TEMPERATURE (2).  PRESUMED: the spec names the faults and not their bits. -/
def statusFault (w : Nat) : Bool := bitAt w 15 || bitAt w 11 || bitAt w 4 || bitAt w 2

/-- A device's STATUS_WORD is read. -/
def State.pmbStatus (s : State) (d : Nat) (w : Option Nat) : State :=
  let s := s.pmbAck d w.isSome
  match w with
  | some v =>
    if statusFault v then
      let c := s.rd Fld.PWR_PMB_DEV_CHAIN d
      (s.wr Fld.PWR_CHAIN_STATUS v c).chainDue c causeStatus v d
    else s
  | none => s

/-- The answer of a device; one not listed does not acknowledge. -/
def pmbOf (answers : List PmbAnswer) (d : Nat) : PmbAnswer :=
  (answers.find? (fun a => a.dev == d)).getD { dev := d, status := none, pout := none }

/-- PMBUS_POLL (R483, R495): at PWR's boundary each regulator listed is read; power is summed for each chain, and READ_VOUT gives
the voltage. -/
def State.pmbPoll (s : State) (answers : List PmbAnswer) (measMv : Option Nat) : State :=
  if !s.rdb Fld.PWR_CTRL_ENABLE then s
  else
    let s := s.boundary Blk.PWR
    let s := s.pmbDevs.foldl (fun (s : State) d =>
      let a := pmbOf answers d
      ((s.emit (.pmbusRead d)).pmbStatus d a.status).pmbAck d a.pout.isSome) s
    let watts (c : Nat) : Nat := s.pmbDevs.foldl (fun n d =>
      if s.rd Fld.PWR_PMB_DEV_CHAIN d = c then n + (pmbOf answers d).pout.getD 0 else n) 0
    let s := (s.wr Fld.PWR_CHAIN_POWER_W (watts 0) 0).wr Fld.PWR_CHAIN_POWER_W (watts 1) 1
    match measMv with
    | some v => s.wr Fld.PWR_VDD_MEAS_MV v
    | none => s

/-- PMB_ALERT (R483): `PMB_ALERT_N` falls and STATUS_WORD is read at once. -/
def State.pmbAlert (s : State) (answers : List PmbAnswer) : State :=
  if !s.rdb Fld.PWR_CTRL_ENABLE then s
  else s.pmbDevs.foldl (fun (s : State) d => (s.emit (.pmbusRead d)).pmbStatus d (pmbOf answers d).status) s

/-- PWRGD_LOW (R483): a chain's power-good input has been low for 2 µs. -/
def State.pwrgdLow (s : State) (c : Nat) : State :=
  if 1 < c then s else (s.setChain c { s.chain c with pwrgd := false }).chainDue c causePwrgd 0 0xFF

/-- What PWR and OWN show of a chain: its good bits. -/
def State.chainBits (s : State) (c : Nat) (good : Bool) : State :=
  if c = 0 then (s.wrb Fld.PWR_STATUS_CHAIN_A_GOOD good).wrb Fld.OWN_STATUS_CHAIN_A good
  else (s.wrb Fld.PWR_STATUS_CHAIN_B_GOOD good).wrb Fld.OWN_STATUS_CHAIN_B good

/-- OWN acts on a chain fault (R392): the clock ceiling, DEGRADED, and the handover of every object where it is configured and the
partner is not degraded. -/
def State.degrade (s : State) (partnerDegraded : Bool) : State :=
  if s.degraded then s
  else
    let s := s.wr Fld.OWN_STATUS_DEGRADED 1
    let s := s.wr Fld.AGE_CEIL_MHZ s.clockMhz
    if s.rdb Fld.OWN_CTRL_DEGRADED_HANDOFF && !partnerDegraded then s.queueHand s.allHeld else s

/-- CHAIN_FAULT (R483, R484, Table 21.2). -/
def State.chainFault (s : State) (c : Nat) (partnerDegraded : Bool) : State :=
  if 1 < c then s
  else
    match (s.chain c).due with
    | none => s
    | some (cause, status, dev) =>
      let s := s.setChain c { s.chain c with faulted := true, due := none }
      let s := s.chainBits c false
      let s := (s.raise (if c = 0 then Fld.PWR_ERR_CHAIN_A_FAULT else Fld.PWR_ERR_CHAIN_B_FAULT)).bump Fld.PWR_CHAIN_FAULTS 1 c
      let s := if dev < 16 then s.wr Fld.PWR_ERR_INFO_DEV dev else s
      (s.record Blk.PWR (0x2001 + c) cause status dev).degrade partnerDegraded

/-- CHAIN_GOOD (R483, R392): power-good and every STATUS_WORD of the chain have been clean for 1 s; with both chains good the clock
ceiling is lifted and the objects are asked back. -/
def State.chainGood (s : State) (c : Nat) : State :=
  if 1 < c then s
  else
    let x := s.chain c
    let silent := s.pmbDevs.any (fun d => s.rd Fld.PWR_PMB_DEV_CHAIN d == c && decide (3 ≤ s.pwr.misses.getD d 0))
    if x.due.isSome || silent then s
    else
      let s := s.advanceUs x.dirtyAt 1000000
      let s := s.setChain c { x with pwrgd := true, faulted := false }
      let s := (s.wr Fld.PWR_CHAIN_STATUS 0 c).chainBits c true
      if s.degraded && !s.pwr.chainA.faulted && !s.pwr.chainB.faulted then
        let s := s.wr Fld.OWN_STATUS_DEGRADED 0
        let s := s.wr Fld.AGE_CEIL_MHZ s.clockMhz
        if s.rdb Fld.OWN_CTRL_ENABLE && s.rdb Fld.OWN_CTRL_DEGRADED_HANDOFF then s.askReturn else s
      else s

/-! ## Core VDD -/

/-- The VDD that R485 asks for, mV. -/
def State.vddTarget (s : State) : Nat :=
  if s.rdb Fld.PWR_CTRL_AVS_EN && s.rdb Fld.LPE_LOOP_CTRL_ENABLE 0 then
    max 650 (min (s.rd Fld.AGE_CFG_VMAX_MV) (Frac.of (s.destOf 256) 65536).ceil.toNat)
  else s.rd Fld.PWR_AVS_FIXED_MV

/-- The regulators of core VDD on one chain, which takes writes while it is not in fault. -/
def State.vddDevs (s : State) (c : Nat) : List Nat :=
  if (s.chain c).faulted then []
  else s.pmbDevs.filter (fun d => s.rdb Fld.PWR_PMB_DEV_VDD d && s.rd Fld.PWR_PMB_DEV_CHAIN d == c)

/-- AVS_VOUT_WRITE (R485): one VOUT_COMMAND step toward the target, chain A first; `naks` are the devices that acknowledged neither the
write nor its two retries. -/
def State.avsWrite (s : State) (naks : List Nat) : State :=
  let cur := s.rd Fld.PWR_VDD_SET_MV
  let target := s.vddTarget
  if !s.rdb Fld.PWR_CTRL_ENABLE || target == cur then s
  else
    let step := min (s.rd Fld.PWR_AVS_STEP_MV) (if cur < target then target - cur else cur - target)
    let mv := if cur < target then cur + step else cur - step
    let s := (s.vddDevs 0 ++ s.vddDevs 1).foldl (fun (s : State) d => (s.emit (.vout d mv)).pmbAck d (!naks.contains d)) s
    (s.wr Fld.PWR_VDD_SET_MV mv).advance (s.now + step * unitsPerUs)

/-! ## The meanings -/

/-- PERST_N_ASSERT. -/
def execPerstNAssert (s : State) : Res := ended s.perstAssert
/-- FUNCTION_LEVEL_RESET. -/
def execFunctionLevelReset (fn : Nat) (s : State) : Res := ended (s.fnReset fn)
/-- D3HOT_ENTRY. -/
def execD3hotEntry (fn : Nat) (s : State) : Res := ended (s.fnReset fn)
/-- PCIE_LINK_LOSS. -/
def execPcieLinkLoss (link : Nat) (s : State) : Res := ended (s.linkLoss link)
/-- PCIE_LINK_TRAIN. -/
def execPcieLinkTrain (link : Nat) (l : PcieLink) (s : State) : Res := ended (s.linkTrain link l)
/-- PWR_DOMAIN_OFF (R480, R481). -/
def execPwrDomainOff (domain : Nat) (s : State) : Res := ended (s.domRequest domain false true)
/-- PWR_DOMAIN_ON (R481). -/
def execPwrDomainOn (domain : Nat) (s : State) : Res := ended (s.domRequest domain true true)
/-- PMBUS_POLL. -/
def execPmbusPoll (answers : List PmbAnswer) (measMv : Option Nat) (s : State) : Res := ended (s.pmbPoll answers measMv)
/-- PMB_ALERT. -/
def execPmbAlert (answers : List PmbAnswer) (s : State) : Res := ended (s.pmbAlert answers)
/-- PWRGD_LOW. -/
def execPwrgdLow (chain : Nat) (s : State) : Res := ended (s.pwrgdLow chain)
/-- CHAIN_FAULT. -/
def execChainFault (chain : Nat) (partnerDegraded : Bool) (s : State) : Res := ended (s.chainFault chain partnerDegraded)
/-- CHAIN_GOOD. -/
def execChainGood (chain : Nat) (s : State) : Res := ended (s.chainGood chain)
/-- AVS_VOUT_WRITE. -/
def execAvsVoutWrite (naks : List Nat) (s : State) : Res := ended (s.avsWrite naks)

end Sys2Proof.Machine
end

