-- ==== Sys2Proof/Machine/Offload.lean ====
section
/-!
DEFINITION. The offload jobs of CMP and of the hash units: COMPRESS, DECOMPRESS and HASH (R213, R219 to R222).  The compressed bytes are
no part of the contract (R213): they, and what a stream decodes to, are free functions of the operands.
-/
namespace Sys2Proof.Machine

open Sys2Proof

/-- The formats of an offload job (Table 04.5). -/
abbrev fmtLz4 : Nat := 0
abbrev fmtZstd : Nat := 1
abbrev fmtDeflate : Nat := 2

/-- A job of a ring on a block: it waits while the block is disabled; its NSID is 0 and its fields are well formed (R92); its input is
read from host memory (R97). -/
def State.job (s : State) (r q opcode block : Nat) (ok : SubEntry → Bool) (input : Option Nat) (run : State → SubEntry → Nat → State) : State :=
  if !s.enabled block then s
  else
    s.ringRun r q opcode (fun s e =>
      if e.nsid ≠ 0 ∨ !ok e then s.endSub r q STS_BAD_DESCRIPTOR 0 0
      else
        match input with
        | none => s.endSub r q STS_HOST_XFER_FAIL 0 0
        | some v => run s e v)

/-- A job ends: its output is written to ADDR1, and its status and results go to the completion. -/
def State.jobEnd (s : State) (r q : Nat) (e : SubEntry) (out : List Nat) (outOk : Bool) (status r0 r1 : Nat) : State :=
  let fn := (s.ringFn r).getD 0
  let s := if out != [] && !s.ringStopped r then s.emit (.hostData fn e.addr1 out) else s
  s.endSub r q (if out != [] && !outOk then STS_HOST_XFER_FAIL else status) r0 r1

/-! ## COMPRESS -/

/-- FORMAT, LEVEL, CONTINUE and OUTPUT_DONE of a job. -/
def jobFormat (e : SubEntry) : Nat := bitsOf e.spec 0 2
def jobLevel (e : SubEntry) : Nat := bitsOf e.spec 2 4
def jobContinue (e : SubEntry) : Bool := bitAt e.spec 6
def jobOutputDone (e : SubEntry) : Nat := bitsOf e.spec 32 32

/-- SPEC bits of the OUTPUT_DONE field. -/
abbrev specOutputDone : Nat := 0xFFFFFFFF * 2 ^ 32

/-- The fields of a COMPRESS job are within the limits of Tables 04.5 and 09.4 and of R219 and R220. -/
def compressOk (e : SubEntry) : Bool :=
  fieldsOk e true true true true true false (0x7F + specOutputDone) && decide (jobFormat e < 3) &&
  decide (1 ≤ jobLevel e ∧ jobLevel e ≤ 9) && (jobFormat e != fmtLz4 || decide (e.len ≤ 65536)) &&
  (if jobContinue e then e.offset % 65536 == 0 && decide (e.offset < e.len) else e.offset == 0 && jobOutputDone e == 0)

/-- The frame header of a new stream: for Zstandard a Window_Descriptor of 256 KiB and no Frame_Content_Size (Table 09.4), six
bytes. -/
def frameHeader (fmt : Nat) : List Nat := if fmt = fmtZstd then [0x28, 0xB5, 0x2F, 0xFD, 0x00, 0x40] else []

/-- The worst case of a segment (R219). -/
abbrev segWorst : Nat := 65794

/-- Segments `k` on, while they fit: bytes consumed and the output so far; the last component tells whether the stream ended. -/
def compressRun (fuel k : Nat) (e : SubEntry) (input done : Nat) (out : List Nat) : Nat × List Nat × Bool :=
  match fuel with
  | 0 => (done, out, decide (e.len ≤ done))
  | n + 1 =>
    let head := if k = 0 then frameHeader (jobFormat e) else []
    let seg := head ++ (Config.compSeg (jobFormat e) (jobLevel e) input e.len k).take (segWorst - head.length)
    if e.dw3 < out.length + seg.length then (done, out, false)
    else
      let done := min e.len (65536 * (k + 1))
      if e.len ≤ done then (done, out ++ seg, true) else compressRun n (k + 1) e input done (out ++ seg)

/-- COMPRESS (R219, R220). -/
def State.compress (s : State) (r q : Nat) (input : Option Nat) (outOk : Bool) : State :=
  s.job r q 0x20 Blk.CMP compressOk input (fun s e v =>
    let x := compressRun (e.len / 65536 + 1) (e.offset / 65536) e (v % 2 ^ (8 * e.len)) e.offset []
    s.jobEnd r q e x.2.1 outOk (if x.2.2 then STS_OK else STS_OUTPUT_EXHAUSTED) x.1 (jobOutputDone e + x.2.1.length))

/-! ## DECOMPRESS -/

/-- HEADER of a job. -/
def jobHeader (e : SubEntry) : Bool := bitAt e.spec 7

/-- The fields of a DECOMPRESS job are well formed. -/
def decompressOk (e : SubEntry) : Bool :=
  fieldsOk e true true true true true false (0xFF + specOutputDone) && jobLevel e == 0 &&
  (jobHeader e || decide (jobFormat e < 3)) && !(jobHeader e && jobContinue e) && (!jobHeader e || decide (48 ≤ e.len)) &&
  (jobContinue e || (e.offset == 0 && jobOutputDone e == 0))

/-- A stream is invalid (R221). -/
def State.streamInvalid (s : State) : State := s.raise Fld.CMP_ERR_STREAM_INVALID

/-- A stream without a chunk header (R221). -/
def State.decompressStream (s : State) (r q : Nat) (e : SubEntry) (v : Nat) (outOk : Bool) : State :=
  let fmt := jobFormat e
  let whole := Config.decoded fmt v e.len
  let ok := Config.decodedOk fmt v e.len
  let past := jobOutputDone e
  if whole.length < past then
    if ok then s.endSub r q STS_BAD_DESCRIPTOR 0 0
    else s.streamInvalid.endSub r q STS_STREAM_INVALID (Config.decodedAt fmt v e.len whole.length) whole.length
  else if jobContinue e && Config.decodedAt fmt v e.len past != e.offset then s.endSub r q STS_BAD_DESCRIPTOR 0 0
  else
    let out := (whole.drop past).take e.dw3
    let total := past + out.length
    let at_ := Config.decodedAt fmt v e.len total
    if total < whole.length then s.jobEnd r q e out outOk STS_OUTPUT_EXHAUSTED at_ total
    else if ok then s.jobEnd r q e out outOk STS_OK at_ total
    else s.streamInvalid.jobEnd r q e out outOk STS_STREAM_INVALID at_ total

/-- A chunk with its header (R222, Table 09.5): nothing is written unless the CRC checks. -/
def State.decompressChunk (s : State) (r q : Nat) (e : SubEntry) (v : Nat) (outOk : Bool) : State :=
  let head := bytesLE v 48
  let h := natLE head
  let fmt := bitsOf h 16 2
  let orig := bitsOf h 32 32
  let stored := bitsOf h 64 32
  let crcFail (s : State) : State := (s.bump Fld.CMP_CRC_FAIL_COUNT).endSub r q STS_CHUNK_CRC 0 0
  if bitsOf h 0 16 ≠ 0xC4B7 ∨ crc32c (head.take 44) ≠ bitsOf h 352 32 then crcFail s
  else if e.dw3 < orig then s.endSub r q STS_BAD_DESCRIPTOR 0 0
  else if e.len < 48 + stored then s.streamInvalid.endSub r q STS_STREAM_INVALID 0 0
  else
    let p := v / 2 ^ 384 % 2 ^ (8 * stored)
    let raw := fmt == 3
    let out := if raw then bytesLE p stored else Config.decoded fmt p stored
    if !raw && !Config.decodedOk fmt p stored then s.streamInvalid.endSub r q STS_STREAM_INVALID 0 0
    else if out.length ≠ orig ∨ crc32c out ≠ bitsOf h 96 32 then crcFail s
    else s.jobEnd r q e out outOk STS_OK (48 + stored) orig

/-- DECOMPRESS (R221, R222). -/
def State.decompress (s : State) (r q : Nat) (input : Option Nat) (outOk : Bool) : State :=
  s.job r q 0x21 Blk.CMP decompressOk input (fun s e v =>
    let v := v % 2 ^ (8 * e.len)
    if jobHeader e then s.decompressChunk r q e v outOk else s.decompressStream r q e v outOk)

/-! ## HASH -/

/-- HASH (R222): the SHA-256 digest to ADDR1, or CRC-32C in RESULT0. -/
def State.hashJob (s : State) (r q : Nat) (input : Option Nat) (outOk : Bool) : State :=
  s.job r q 0x23 Blk.DDP (fun e => fieldsOk e true (!bitAt e.spec 0) false true false false 1) input (fun s e v =>
    let bs := bytesLE v e.len
    if bitAt e.spec 0 then s.jobEnd r q e [] true STS_OK (crc32c bs) 0
    else s.jobEnd r q e (sha256 bs) outOk STS_OK 0 0)

/-! ## The meanings -/

/-- COMPRESS. -/
def execCompress (ring seq : Nat) (input : Option Nat) (outOk : Bool) (s : State) : Res := ended (s.compress ring seq input outOk)
/-- DECOMPRESS. -/
def execDecompress (ring seq : Nat) (input : Option Nat) (outOk : Bool) (s : State) : Res := ended (s.decompress ring seq input outOk)
/-- HASH. -/
def execHash (ring seq : Nat) (input : Option Nat) (outOk : Bool) (s : State) : Res := ended (s.hashJob ring seq input outOk)

end Sys2Proof.Machine
end

