-- ==== Sys2Proof/Machine/Cip.lean ====
section
/-!
DEFINITION. CIP: key slots and KEKs (R233 to R239), CIPHER jobs (R227 to R232, R240).
-/
namespace Sys2Proof.Machine

open Sys2Proof

/-! ## Key slots -/

/-- Slot states (Table 10.6). -/
abbrev keyEmpty : Nat := 0
abbrev keyLoaded : Nat := 1
abbrev keyErasing : Nat := 2

/-- Bytes of the key of a KIND; none where the KIND is undefined (Table 10.5). -/
def kindBytes (kind : Nat) : Option Nat :=
  if kind = 1 ∨ kind = 6 then some 16
  else if kind = 2 then some 24
  else if kind = 3 ∨ kind = 4 ∨ kind = 7 then some 32
  else if kind = 5 then some 64
  else none

/-- A slot is bound while a namespace's configuration, OWN or GBK names it (R236). -/
def State.keyBound (s : State) (slot : Nat) : Bool :=
  s.adm.nss.any (fun e => e.2.enc && e.2.keySlot == slot) || s.rd Fld.OWN_KEY_SLOT == slot || s.rd Fld.GBK_KEY_SLOT == slot ||
  (s.listed Fld.OWN_IK_ARRAY_VALID).any (fun e => s.rd Fld.OWN_IK_ARRAY_KEY_SLOT e.1 == slot)

/-- A key slot becomes EMPTY: its store entry and its cache entry are zeroed. -/
def State.keySlotEmpty (s : State) (slot : Nat) : State :=
  let n := if s.rd Fld.CIP_SLOT_STATE_STATE slot = keyLoaded then 1 else 0
  let s := { s with cip := { s.cip with slots := s.cip.slots.del slot, kcache := s.cip.kcache.mapVal (fun _ l => l.filter (fun x => x != slot)) } }
  let s := ((s.wr Fld.CIP_SLOT_STATE_STATE keyEmpty slot).wr Fld.CIP_SLOT_STATE_KIND 0 slot).wr Fld.CIP_SLOT_STATE_USAGE 0 slot
  let s := s.wr Fld.CIP_SLOT_STATE_TENANT 0 slot
  s.wr Fld.CIP_SLOTS_LOADED_COUNT (s.rd Fld.CIP_SLOTS_LOADED_COUNT - n)

/-- A key is loaded into a slot. -/
def State.keySlotLoad (s : State) (slot : Nat) (k : CipKey) : State :=
  let s := { s with cip := { s.cip with slots := s.cip.slots.put slot k } }
  let s := ((s.wr Fld.CIP_SLOT_STATE_STATE keyLoaded slot).wr Fld.CIP_SLOT_STATE_KIND k.kind slot).wr Fld.CIP_SLOT_STATE_USAGE k.usage slot
  (s.wr Fld.CIP_SLOT_STATE_TENANT k.tenant slot).wr Fld.CIP_SLOTS_LOADED_COUNT (s.rd Fld.CIP_SLOTS_LOADED_COUNT + 1)

/-- A KEK slot is loaded, or emptied. -/
def State.kekSet (s : State) (k : Nat) (x : Option CipKey) : State :=
  match x with
  | some c =>
    let s := { s with cip := { s.cip with keks := s.cip.keks.put k c } }
    ((s.wr Fld.CIP_KEK_STATE_STATE 1 k).wr Fld.CIP_KEK_STATE_KIND c.kind k).wr Fld.CIP_KEK_STATE_TENANT c.tenant k
  | none =>
    let s := { s with cip := { s.cip with keks := s.cip.keks.del k } }
    ((s.wr Fld.CIP_KEK_STATE_STATE 0 k).wr Fld.CIP_KEK_STATE_KIND 0 k).wr Fld.CIP_KEK_STATE_TENANT 0 k

/-- KEK 0 is loaded from the root key that the fuses gave at the last power-on or system reset, or stays EMPTY (R234, R493). -/
def State.kekZero (s : State) : State :=
  match s.aon.rootKey with
  | some v =>
    let c : CipKey := { kind := 7, usage := 0, tenant := 0xFFFF, key := v }
    s.kekSet 0 (some c)
  | none => (s.kekSet 0 none).raise Fld.CIP_ERR_FUSE_BLANK

/-! ## Key commands -/

/-- A key command is accepted unless one is in progress (R236). -/
def State.keyCmd (s : State) (run : State → State) : State :=
  if s.rdb Fld.CIP_KEY_RESULT_BUSY then s.raise Fld.CIP_ERR_CMD_BUSY else run s

/-- A key command completes. -/
def State.keyEnd (s : State) (status : Nat) : State :=
  ((s.wr Fld.CIP_KEY_RESULT_STATUS status).wr Fld.CIP_KEY_RESULT_DONE 1).wr Fld.CIP_KEY_RESULT_BUSY 0

/-- A refused key command that leaves the target in use (R234, R236). -/
def State.keyInUse (s : State) (target : Nat) : State := (s.wr Fld.CIP_ERR_INFO_SLOT target).keyEnd STS_KEY_IN_USE

/-- What a blob unwraps to under a KEK, or the status of R235.  An EMPTY KEK opens no blob. -/
def State.unwrap (s : State) (intoKek : Bool) (kek : Nat) (pad : Bool) (len blob : Nat) : Nat ⊕ CipKey :=
  match s.cip.keks.look kek with
  | none => .inl STS_UNWRAP_FAIL
  | some k =>
    match keyUnwrap (bytesLE k.key (if k.kind = 6 then 16 else 32)) pad (bytesLE blob len) with
    | none => .inl STS_UNWRAP_FAIL
    | some p =>
      let kind := p.getD 0 0
      let tenant := natBE ((p.drop 2).take 2)
      let key := p.drop 16
      let half := key.length / 2
      if p.length < 16 ∨ p.getD 1 0 ≠ 1 ∨ kindBytes kind ≠ some key.length ∨ ((kind = 4 ∨ kind = 5) ∧ key.take half = key.drop half) ∨
          ((decide (6 ≤ kind)) != intoKek) = true ∨ (tenant ≠ k.tenant ∧ k.tenant ≠ 0xFFFF) then .inl STS_KEY_KIND
      else .inr { kind := kind, usage := p.getD 4 0 % 16, tenant := tenant, key := natLE key }

/-- A failed unwrap (R235): the bit, the target latched, and the record that names it. -/
def State.unwrapFail (s : State) (target : Nat) : State :=
  ((s.raise Fld.CIP_ERR_UNWRAP_FAIL).wr Fld.CIP_ERR_INFO_SLOT target).record Blk.CIP 0x2001 target

/-- Unwrap a blob into a key slot: the status. -/
def State.unwrapSlot (s : State) (target kek : Nat) (pad : Bool) (len blob : Nat) : State × Nat :=
  if s.rd Fld.CIP_SLOT_STATE_STATE target ≠ keyEmpty then (s.wr Fld.CIP_ERR_INFO_SLOT target, STS_KEY_IN_USE)
  else
    match s.unwrap false kek pad len blob with
    | .inl st => (s.unwrapFail target, st)
    | .inr k => (s.keySlotLoad target k, STS_OK)

/-- Unwrap a blob into a KEK slot: the status; KEK 0 takes none (R234). -/
def State.unwrapKek (s : State) (target kek : Nat) (pad : Bool) (len blob : Nat) : State × Nat :=
  if target = 0 ∨ s.cip.keks.has target = true then (s.wr Fld.CIP_ERR_INFO_SLOT target, STS_KEY_IN_USE)
  else
    match s.unwrap true kek pad len blob with
    | .inl st => (s.unwrapFail target, st)
    | .inr k => (s.kekSet target (some k), STS_OK)

/-- KEY_UNWRAP_SLOT: OP 1 with the blob that `CIP_KEY_BLOB` holds. -/
def State.keyUnwrapSlot (s : State) (target kek : Nat) (pad : Bool) (len : Nat) : State :=
  s.keyCmd (fun s => let x := s.unwrapSlot (target % 16384) (kek % 64) pad len (s.rd Fld.CIP_KEY_BLOB); x.1.keyEnd x.2)

/-- KEY_UNWRAP_KEK: OP 2. -/
def State.keyUnwrapKek (s : State) (target kek : Nat) (pad : Bool) (len : Nat) : State :=
  s.keyCmd (fun s => let x := s.unwrapKek (target % 64) (kek % 64) pad len (s.rd Fld.CIP_KEY_BLOB); x.1.keyEnd x.2)

/-- KEY_ERASE_SLOT (R236, R237): a LOADED slot that nothing binds is ERASING at once. -/
def State.keyEraseSlot (s : State) (target : Nat) : State :=
  s.keyCmd (fun s =>
    let t := target % 16384
    if s.rd Fld.CIP_SLOT_STATE_STATE t ≠ keyLoaded then s.keyEnd STS_OK
    else if s.keyBound t then s.keyInUse t
    else
      let s := s.wr Fld.CIP_SLOTS_LOADED_COUNT (s.rd Fld.CIP_SLOTS_LOADED_COUNT - 1)
      ((s.wr Fld.CIP_SLOT_STATE_STATE keyErasing t).wr Fld.CIP_KEY_RESULT_DONE 0).wr Fld.CIP_KEY_RESULT_BUSY 1)

/-- KEY_ERASE_END (R237): the last job bound to an ERASING slot has completed. -/
def State.keyEraseEnd (s : State) (slot : Nat) : State :=
  if s.rd Fld.CIP_SLOT_STATE_STATE slot = keyErasing then (s.keySlotEmpty slot).keyEnd STS_OK else s

/-- KEY_ERASE_KEK (R234, R236): at once; keys unwrapped under it stay. -/
def State.keyEraseKek (s : State) (target : Nat) : State :=
  s.keyCmd (fun s => if target % 64 = 0 then s.keyInUse 0 else (s.kekSet (target % 64) none).keyEnd STS_OK)

/-- KEY_STORE_FAULT (R239): a store entry fails its tag on a fill. -/
def State.keyStoreFault (s : State) (slot : Nat) : State :=
  if s.rd Fld.CIP_SLOT_STATE_STATE slot = keyLoaded then
    (((s.keySlotEmpty slot).raise Fld.CIP_ERR_STORE_FAIL).wr Fld.CIP_ERR_INFO_SLOT slot).record Blk.CIP 0x2002 slot
  else s

/-! ## CIPHER -/

/-- The modes of Table 10.2. -/
abbrev modeXts : Nat := 4
abbrev modeGcm : Nat := 5
abbrev modeCmac : Nat := 6

/-- MODE, DIR, SEGMENTED, PRIORITY, AAD bytes, IV and key slot of a job (Table 04.5, R228). -/
def cipMode (e : SubEntry) : Nat := bitsOf e.spec 0 4
def cipDir (e : SubEntry) : Bool := bitAt e.spec 4
def cipSegmented (e : SubEntry) : Bool := bitAt e.spec 5
def cipPriority (e : SubEntry) : Nat := bitsOf e.spec 8 3
def cipAad (e : SubEntry) : Nat := bitsOf e.spec 32 32
def cipIv (e : SubEntry) : Nat := e.offset % 2 ^ 64 + bitsOf e.spec 64 64 * 2 ^ 64
def cipSlot (e : SubEntry) : Nat := e.dw3 % 16384

/-- The limits of Table 10.2. -/
def cipherLimits (e : SubEntry) : Bool :=
  let m := cipMode e
  let n := e.len
  (m == modeGcm || (cipAad e == 0 && !cipSegmented e)) &&
  (if m = 0 then decide (16 ≤ n ∧ n ≤ 2 ^ 30) && n % 16 == 0
   else if m ≤ 3 then decide (1 ≤ n ∧ n ≤ 2 ^ 30)
   else if m = modeXts then decide (16 ≤ n ∧ n ≤ 16777216)
   else if m = modeGcm then
     (if cipSegmented e then decide (1 ≤ n ∧ n ≤ 2 ^ 30) && cipIv e % 2 ^ 32 == 0 else decide (n ≤ 65536)) &&
     decide (cipAad e ≤ 65536) && decide (cipIv e < 2 ^ 96)
   else if m = modeCmac then decide (n ≤ 2 ^ 30) && cipIv e == 0
   else false)

/-- The fields of a CIPHER job are well formed (R92, R227). -/
def cipherOk (e : SubEntry) : Bool :=
  let spec := 0x73F + 0xFFFFFFFF * 2 ^ 32 + 0xFFFFFFFFFFFFFFFF * 2 ^ 64
  fieldsOk e true (!(cipMode e == modeCmac && cipDir e)) true true true false spec && decide (e.dw3 < 16384) && cipherLimits e

/-- A slot may not be used by a job of a tenant, or of the head's own blocks, in a mode and direction: the status of R233. -/
def State.keyRefuses (s : State) (slot : Nat) (tenant : Option Nat) (mode : Nat) (dir : Bool) : Option Nat :=
  match s.cip.slots.look slot with
  | none => some STS_KEY_EMPTY
  | some k =>
    let small := decide (1 ≤ k.kind ∧ k.kind ≤ 3)
    let fits :=
      if mode ≤ 3 then small && bitAt k.usage 0
      else if mode = modeGcm then small && bitAt k.usage 1
      else if mode = modeCmac then small && bitAt k.usage (if dir then 3 else 2)
      else k.kind == 4 || k.kind == 5
    if s.rd Fld.CIP_SLOT_STATE_STATE slot ≠ keyLoaded then some STS_KEY_EMPTY
    else if tenant.getD 0xFFFF ≠ k.tenant then some STS_ACCESS_DENIED
    else if fits then none
    else some STS_KEY_KIND

/-- The key of a slot, byte by byte. -/
def State.keyOf (s : State) (slot : Nat) : List Nat :=
  match s.cip.slots.look slot with
  | some k => bytesLE k.key ((kindBytes k.kind).getD 0)
  | none => []

/-- A job takes its key through the key-slot cache (R239): 128 sets of 8, the least recently used leaves. -/
def State.keyCache (s : State) (slot : Nat) : State :=
  let set := slot % 128
  let l := s.cip.kcache.getD set []
  let s := if l.contains slot then s.bump Fld.CIP_KCACHE_HIT_COUNT else s.bump Fld.CIP_KCACHE_MISS_COUNT
  { s with cip := { s.cip with kcache := s.cip.kcache.put set ((slot :: l.filter (fun x => x != slot)).take 8) } }

/-- Modes 0 to 4 over the payload. -/
def plainMode (key : List Nat) (mode : Nat) (dec : Bool) (iv : Nat) (bs : List Nat) : List Nat :=
  let ks := aesKeys key
  let p := parts 16 bs
  if mode = 0 then (if dec then cbcDec ks (bytesBE iv 16) p else cbcEnc ks (bytesBE iv 16) p)
  else if mode = 1 then ctrRun ks 128 iv p
  else if mode = 2 then cfbRun ks dec (bytesBE iv 16) p
  else if mode = 3 then ofbRun ks (bytesBE iv 16) p
  else xtsRun key dec (bytesLE iv 16) bs

/-- The IV and the AAD of segment `i` of `n` (R230). -/
def segIv (iv i : Nat) : List Nat := bytesBE (iv / 2 ^ 32) 8 ++ bytesBE i 4
def segAad (aad : List Nat) (len i n : Nat) : List Nat := aad ++ bytesBE len 8 ++ bytesBE i 4 ++ bytesBE n 4

/-- Segmented encryption: each segment and its tag. -/
def segEncrypt (ks : List (List Nat)) (iv : Nat) (aad : List Nat) (len n i : Nat) (segs : List (List Nat)) : List Nat :=
  match segs with
  | [] => []
  | b :: t =>
    let x := gcmRun ks false (segIv iv i) (segAad aad len i n) b
    x.1 ++ x.2 ++ segEncrypt ks iv aad len n (i + 1) t

/-- Segmented decryption: what passed before the first failing tag, and whether all passed (R231). -/
def segDecrypt (ks : List (List Nat)) (iv : Nat) (aad : List Nat) (len n i : Nat) (segs : List (List Nat)) : List Nat × Bool :=
  match segs with
  | [] => ([], true)
  | b :: t =>
    let c := b.take (b.length - 16)
    let x := gcmRun ks true (segIv iv i) (segAad aad len i n) c
    if x.2 = b.drop (b.length - 16) then
      let y := segDecrypt ks iv aad len n (i + 1) t
      (x.1 ++ y.1, y.2)
    else ([], false)

/-- Input bytes of a job: the AAD, the payload, and the tags of a decryption or of a verification (R229, R230, R232). -/
def cipherInput (e : SubEntry) : Nat :=
  let n := ceilDiv e.len 65536
  cipAad e + e.len +
    (if !cipDir e then 0 else if cipMode e = modeCmac then 16 else if cipMode e ≠ modeGcm then 0 else if cipSegmented e then 16 * n else 16)

/-- The output of a job, and whether its tags match. -/
def cipherRun (key : List Nat) (e : SubEntry) (bs : List Nat) : List Nat × Bool :=
  let aad := bs.take (cipAad e)
  let body := bs.drop (cipAad e)
  let iv := cipIv e
  if cipMode e = modeCmac then
    let tag := cmac (aesKeys key) (body.take e.len)
    if cipDir e then ([], decide (tag = body.drop e.len)) else (tag, true)
  else if cipMode e ≠ modeGcm then (plainMode key (cipMode e) (cipDir e) iv body, true)
  else if cipSegmented e then
    let n := ceilDiv e.len 65536
    if cipDir e then segDecrypt (aesKeys key) iv aad e.len n 0 (parts 65552 body)
    else (segEncrypt (aesKeys key) iv aad e.len n 0 (parts 65536 body), true)
  else
    let x := gcmRun (aesKeys key) (cipDir e) (bytesBE iv 12) aad (body.take e.len)
    if !cipDir e then (x.1 ++ x.2, true)
    else if x.2 = body.drop e.len then (x.1, true)
    else ([], false)

/-- CIPHER (R227 to R233, R240): `suspends` is how often work of a higher priority suspended the job, none at priority 7; its output
is the same. -/
def State.cipher (s : State) (r q : Nat) (input : Option Nat) (outOk : Bool) (suspends : Nat) : State :=
  if !s.enabled Blk.CIP then s
  else
    let s := s.boundary Blk.CIP
    s.ringRun r q 0x22 (fun s e =>
      if e.nsid ≠ 0 ∨ !cipherOk e then s.endSub r q STS_BAD_DESCRIPTOR 0 0
      else
        match s.keyRefuses (cipSlot e) (some (s.ringTenant r)) (cipMode e) (cipDir e) with
        | some st => s.endSub r q st 0 0
        | none =>
          let s := s.keyCache (cipSlot e)
          match input with
          | none => s.endSub r q STS_HOST_XFER_FAIL 0 0
          | some v =>
            let p := min (cipPriority e) (s.rd Fld.CIP_PRIO_OFFLOAD_MAX)
            let s := if p < 7 then s.bump Fld.CIP_SUSPENDS_COUNT suspends else s
            let x := cipherRun (s.keyOf (cipSlot e)) e (bytesLE v (cipherInput e))
            let s := if x.2 then s else s.bump Fld.CIP_AUTH_FAIL_COUNT
            s.jobEnd r q e x.1 outOk (if x.2 then STS_OK else STS_AUTH_FAIL) x.1.length 0)

/-! ## The meanings -/

/-- CIPHER. -/
def execCipher (ring seq : Nat) (input : Option Nat) (outOk : Bool) (suspends : Nat) (s : State) : Res :=
  ended (s.cipher ring seq input outOk suspends)
/-- KEY_UNWRAP_SLOT. -/
def execKeyUnwrapSlot (target kek : Nat) (pad : Bool) (blobLen : Nat) (s : State) : Res := ended (s.keyUnwrapSlot target kek pad blobLen)
/-- KEY_UNWRAP_KEK. -/
def execKeyUnwrapKek (target kek : Nat) (pad : Bool) (blobLen : Nat) (s : State) : Res := ended (s.keyUnwrapKek target kek pad blobLen)
/-- KEY_ERASE_SLOT. -/
def execKeyEraseSlot (target : Nat) (s : State) : Res := ended (s.keyEraseSlot target)
/-- KEY_ERASE_KEK. -/
def execKeyEraseKek (target : Nat) (s : State) : Res := ended (s.keyEraseKek target)
/-- KEY_ERASE_END. -/
def execKeyEraseEnd (slot : Nat) (s : State) : Res := ended (s.keyEraseEnd slot)
/-- KEY_STORE_FAULT. -/
def execKeyStoreFault (slot : Nat) (s : State) : Res := ended (s.keyStoreFault slot)

end Sys2Proof.Machine
end

