-- ==== Sys2Proof/Machine/Gbk.lean ====
section
/-!
DEFINITION. The Guestbook in the PJM (R458 to R462) and the end of a leap second (R456).  Records, staging and alarms are in
Machine/Ops.lean.
-/
namespace Sys2Proof.Machine

open Sys2Proof

/-- Slots of a ring (R458). -/
abbrev gbkSlots : Nat := 1048576

/-- A slot whose copy is not valid, as it reads. -/
def GbkRec.blank : GbkRec :=
  { seq := 0, tCt := 0, utcSec := 0, utcNs := 0, leap := false, timeValid := false, utcOffset := 0, source := 0, code := 0, alarm := false,
    lost := 0, head := 0, arg0 := 0, arg1 := 0, arg2 := 0 }

/-- GBK_RECORD_STAGE (R457, R463): a source delivers a record. -/
def State.gbkDeliver (s : State) (source code arg0 arg1 arg2 : Nat) (alarm : Bool) : State :=
  s.record source code arg0 arg1 arg2 alarm

/-- GBK_RECORD_WRITE (R458, R459, R464): the oldest staged record is written to its slot and mirrored; a record whose own channel has
failed goes to the partner's mirror only (R190). -/
def State.gbkWrite (s : State) : State :=
  match s.gbk.staging with
  | [] => s
  | r :: rest =>
    if s.rdb Fld.PJM_CTRL_ENABLE && s.rdb Fld.GBK_CTRL_ENABLE && s.gbk.scanned then
      let s := s.boundary Blk.GBK
      let slot := r.seq % gbkSlots
      let s := { s with gbk := { s.gbk with staging := rest } }
      let s :=
        if s.chanIn (r.seq % 8) then
          let s := { s with gbk := { s.gbk with ring := s.gbk.ring.put slot r } }
          s.wr Fld.GBK_HEAD_SEQ_SEQ (max r.seq (s.rd Fld.GBK_HEAD_SEQ_SEQ))
        else s
      s.isend 1 (.gbkMirror slot r)
    else s

/-- The valid records of a scan: this head's copies, and the partner's copies of the slots that have none here. -/
def State.gbkFound (s : State) (partner : List GbkRec) : List GbkRec :=
  let own := (s.gbk.ring.map (·.2)).filter (fun r => s.chanIn (r.seq % 8))
  own ++ partner.filter (fun r => r.seq != 0 && !own.any (fun o => o.seq % gbkSlots == r.seq % gbkSlots))

/-- GBK_RESET_SCAN (R459, R462): SEQ resumes above the highest valid one; FLOOR and the last T_ISSUE come from the newest clear
record.  Records staged before the scan take their SEQ from where it resumes. -/
def State.gbkScan (s : State) (partner : List GbkRec) : State :=
  if s.rdb Fld.PJM_CTRL_ENABLE && s.rdb Fld.GBK_CTRL_ENABLE && !s.gbk.scanned then
    let found := s.gbkFound partner
    let top := found.foldl (fun m r => max m r.seq) 0
    let clear := (found.filter (fun r => r.source == Blk.GBK && r.code == 0x0001)).foldl
      (fun (b : Option GbkRec) r => match b with
        | some c => if c.seq < r.seq then some r else b
        | none => some r) none
    let low := found.foldl (fun m r => min m r.seq) (if found = [] then 1 else top)
    let staged := s.gbk.staging.mapIdx (fun i (r : GbkRec) => { r with seq := top + 1 + i })
    let last := match clear with
      | some c => c.arg1
      | none => 0
    let s := { s with gbk := { s.gbk with staging := staged, nextSeq := top + 1 + staged.length, lastIssue := last, scanned := true } }
    let s := (s.wr Fld.GBK_HEAD_SEQ_SEQ top).wr Fld.GBK_STATUS_SCANNING 0
    s.wr Fld.GBK_FLOOR_SEQ (match clear with
      | some c => c.arg0 + 1
      | none => low)
  else s

/-- What a copy reads of a sequence: the slot of the own ring, or of the partner's ring in the mirror region; a slot on a failed
channel comes from the other side over VC 3. -/
def State.gbkRead (s : State) (partner : Bool) (other : List GbkRec) (seq : Nat) : GbkRec :=
  let here := if partner then s.gbk.mirror else s.gbk.ring
  if s.chanIn (seq % 8) then here.getD (seq % gbkSlots) GbkRec.blank
  else (other.find? (fun r => r.seq % gbkSlots == seq % gbkSlots)).getD GbkRec.blank

/-- A copy command completes. -/
def State.gbkCopyEnd (s : State) (status : Nat) : State :=
  ((s.wr Fld.GBK_COPY_RESULT_STATUS status).wr Fld.GBK_COPY_RESULT_DONE 1).wr Fld.GBK_COPY_RESULT_BUSY 0

/-- GBK_COPY (R460): `dst` 0 is PF0 host memory, 1 DDR5; `other` holds what VC 3 brings for slots on failed channels; `xferOk` is clear
where the transfer to host memory fails. -/
def State.gbkCopy (s : State) (count dst : Nat) (partner : Bool) (other : List GbkRec) (xferOk : Bool) : State :=
  if s.rdb Fld.GBK_COPY_RESULT_BUSY then s.raise Fld.GBK_ERR_CMD_BUSY
  else if count = 0 ∨ 65536 < count then s.gbkCopyEnd STS_BAD_DESCRIPTOR
  else
    let first := s.rd Fld.GBK_COPY_FIRST_SEQ
    let rs := (List.range count).map (fun i => s.gbkRead partner other (first + i))
    if dst = 0 ∧ (!xferOk || (s.fn 0).stopped) = true then s.gbkCopyEnd STS_HOST_XFER_FAIL
    else (s.emit (.gbkCopy dst (s.rd Fld.GBK_COPY_ADDR_ADDR) rs)).gbkCopyEnd STS_OK

/-- The status with which a clear token is refused, in the order of R461; its tag is checked as CIP verifies a CMAC (R232, R233). -/
def State.tokenRefuses (s : State) (token : Nat) : Option Nat :=
  let slot := s.rd Fld.GBK_KEY_SLOT
  let upTo := bitsOf token 0 64
  let tIssue := bitsOf token 64 64
  let tag := cmac (aesKeys (s.keyOf slot)) (bytesLE token 32)
  match s.keyRefuses slot none modeCmac true with
  | some st => some st
  | none =>
    if tag ≠ bytesLE (token / 2 ^ 256) 16 then some STS_AUTH_FAIL
    else if bitsOf token 128 16 ≠ s.headId ∨ upTo < s.rd Fld.GBK_FLOOR_SEQ ∨ s.rd Fld.GBK_HEAD_SEQ_SEQ < upTo then some STS_BAD_DESCRIPTOR
    else if s.ctNs + 10000000000 < tIssue ∨ tIssue + 10000000000 < s.ctNs ∨ tIssue ≤ s.gbk.lastIssue then some STS_SEQ_STALE
    else none

/-- A clear command completes. -/
def State.gbkClearEnd (s : State) (status : Nat) : State :=
  ((s.wr Fld.GBK_CLEAR_RESULT_STATUS status).wr Fld.GBK_CLEAR_RESULT_DONE 1).wr Fld.GBK_CLEAR_RESULT_BUSY 0

/-- GBK_CLEAR (R461, R462). -/
def State.gbkClear (s : State) : State :=
  if s.rdb Fld.GBK_CLEAR_RESULT_BUSY then s.raise Fld.GBK_ERR_CMD_BUSY
  else
    let token := s.rd Fld.GBK_CLEAR_TOKEN
    let upTo := bitsOf token 0 64
    let tIssue := bitsOf token 64 64
    match s.tokenRefuses token with
    | some st => ((s.raise Fld.GBK_ERR_CLEAR_REFUSED).record Blk.GBK 0x2002 upTo tIssue st).gbkClearEnd st
    | none =>
      let floor := s.rd Fld.GBK_FLOOR_SEQ
      let gone (r : GbkRec) : Bool := decide (floor ≤ r.seq ∧ r.seq ≤ upTo)
      let n := s.gbk.ring.countP (fun _ r => gone r)
      let s := { s with gbk := { s.gbk with ring := s.gbk.ring.keep (fun _ r => !gone r), lastIssue := tIssue } }
      let s := (s.isend 1 (.gbkZero upTo)).wr Fld.GBK_FLOOR_SEQ (upTo + 1)
      (s.record Blk.GBK 0x0001 upTo tIssue n).gbkClearEnd STS_OK

/-- The partner mirrors a record, or zeroes its ring up to a sequence (R458, R462). -/
def State.gbkMirrorTake (s : State) (slot : Nat) (r : GbkRec) : State :=
  { s with gbk := { s.gbk with mirror := s.gbk.mirror.put (slot % gbkSlots) r } }
def State.gbkMirrorZero (s : State) (upTo : Nat) : State :=
  { s with gbk := { s.gbk with mirror := s.gbk.mirror.keep (fun _ r => decide (upTo < r.seq)) } }

/-- LEAP_SECOND_ADJUST (R456): at day_end + 1 s of an inserted second, or at day_end − 1 s of an omitted one, the offset is adjusted and
the announcement cleared. -/
def State.leapAdjust (s : State) : State :=
  match s.car.dayEnd with
  | none => s
  | some d =>
    let up := s.rdb Fld.CAR_UTC_LEAP61
    if !up && !s.rdb Fld.CAR_UTC_LEAP59 then s
    else
      let off := s.rd Fld.CAR_UTC_UTC_OFFSET
      let utc : Int := (d : Int) + (if up then 1 else -1)
      let ct : Int := (utc + (off : Int) - (s.rd Fld.CAR_EPOCH_TAI_SEC : Int)) * 1000000000 - (s.rd Fld.CAR_EPOCH_TAI_NS : Int)
      let s := s.advanceCt (Frac.int ct)
      let s := s.wr Fld.CAR_UTC_UTC_OFFSET (if up then off + 1 else off - 1)
      let s := (s.wr Fld.CAR_UTC_LEAP61 0).wr Fld.CAR_UTC_LEAP59 0
      { s with car := { s.car with dayEnd := none } }

/-! ## The meanings -/

/-- GBK_RECORD_STAGE. -/
def execGbkRecordStage (source code arg0 arg1 arg2 : Nat) (alarm : Bool) (s : State) : Res :=
  ended (s.gbkDeliver source code arg0 arg1 arg2 alarm)
/-- GBK_RECORD_WRITE. -/
def execGbkRecordWrite (s : State) : Res := ended s.gbkWrite
/-- GBK_RESET_SCAN. -/
def execGbkResetScan (partner : List GbkRec) (s : State) : Res := ended (s.gbkScan partner)
/-- GBK_COPY. -/
def execGbkCopy (count dst : Nat) (partner : Bool) (other : List GbkRec) (xferOk : Bool) (s : State) : Res :=
  ended (s.gbkCopy count dst partner other xferOk)
/-- GBK_CLEAR. -/
def execGbkClear (s : State) : Res := ended s.gbkClear
/-- LEAP_SECOND_ADJUST. -/
def execLeapSecondAdjust (s : State) : Res := ended s.leapAdjust

end Sys2Proof.Machine
end

