-- ==== Sys2Proof/Machine/Dbg.lean ====
section
/-!
DEFINITION. Debug and test access (R526 to R536): the TAP's instructions but REG_ACCESS (Machine/Tap.lean), fuse provisioning, and
loopback.
-/
namespace Sys2Proof.Machine

open Sys2Proof

/-! ## TAP -/

/-- Opcodes of Table 26.1. -/
abbrev irBypass : Nat := 0xFF
abbrev irIdcode : Nat := 0x01
abbrev irSample : Nat := 0x02
abbrev irExtest : Nat := 0x03
abbrev irExtestPulse : Nat := 0x04
abbrev irExtestTrain : Nat := 0x05
abbrev irClamp : Nat := 0x06
abbrev irHighz : Nat := 0x07
abbrev irRegAccess : Nat := 0x10
abbrev irFuseProg : Nat := 0x11

/-- Load the instruction register; no driving instruction is in force under another instruction. -/
def State.loadIr (s : State) (op : Nat) : State :=
  { s with dbg := { s.dbg with ir := op } }.wr Fld.DBG_STATUS_SCAN 0

/-- JTAG_TAP_RESET (R526): only the TAP and the boundary-scan cells are reset. -/
def State.tapReset (s : State) : State :=
  State.loadIr { s with dbg := { s.dbg with preload := 0, dr := 0 } } irIdcode

/-- The value of IDCODE (R526). -/
def State.idcode (s : State) : Nat :=
  (s.rd Fld.GLB_REV_MAJOR * 4 + s.rd Fld.GLB_REV_MINOR) % 16 * 2 ^ 28 + 0x8128 * 2 ^ 12 + 0x5A7 * 2 + 1

/-- The JTAG_LOCK fuse is programmed: a locked instruction acts as BYPASS (R530). -/
def State.tapLocked (s : State) : Bool := s.dbg.fuses.lock

/-- A locked instruction of Table 26.1 acts as BYPASS. -/
def State.unlessLocked (s : State) (run : State → State) : State :=
  if s.tapLocked then (s.loadIr irBypass).wr Fld.DBG_STATUS_LOCKED 1 else run s

/-- A driving instruction may take effect (R528). -/
def State.mayScan (s : State) : Bool :=
  s.aon.sysRst || (s.rdb Fld.PWR_STATUS_FIRST_BOOT && s.aon.claimOut == [])

/-- A driving instruction at Update-IR (R528): in force, or BYPASS with SCAN_REFUSED. -/
def State.drivingIr (s : State) (op : Nat) : State :=
  s.unlessLocked (fun s =>
    if s.mayScan then (s.loadIr op).wr Fld.DBG_STATUS_SCAN 1
    else ((s.loadIr irBypass).raise Fld.DBG_ERR_SCAN_REFUSED).wr Fld.DBG_ERR_INFO_OPCODE op)

/-- The FLx cells of group g drive: under a driving instruction other than HIGHZ, while the partner does not claim g (R528). -/
def State.scanDrives (s : State) (g : Nat) : Bool :=
  s.rdb Fld.DBG_STATUS_SCAN && s.dbg.ir != irHighz && !s.aon.claimIn.mem g

/-- SAMPLE_PRELOAD: what the cells capture is shifted out, and the preload goes in (R526). -/
def State.samplePreload (s : State) (captured preload : Nat) : State :=
  let s := s.loadIr irSample
  { s with dbg := { s.dbg with preload := preload } }.emit (.tap captured)

/-! ## Fuses -/

/-- The rollback floor: the value of the highest word programmed, or 0 (R531). -/
def Fuses.floor (f : Fuses) : Nat := f.roll.getLastD 0

/-- FW_GEN of the RUNNING image (Table 22.4). -/
def State.runningGen (s : State) : Option Nat :=
  ([0, 1].find? (fun k => s.rd Fld.FWU_SLOT_INFO_STATE k == 4)).map (fun k => s.rd Fld.FWU_SLOT_INFO_FW_GEN k)

/-- A fuse command completes. -/
def State.fuseEnd (s : State) (status : Nat) : State :=
  ((s.wr Fld.DBG_FUSE_RESULT_STATUS status).wr Fld.DBG_FUSE_RESULT_DONE 1).wr Fld.DBG_FUSE_RESULT_BUSY 0

/-- The fuses after a command, or the status that refuses it (R531, Table 26.2). -/
def State.fuseNext (s : State) (field value : Nat) : Fuses ⊕ Nat :=
  let f := s.dbg.fuses
  let first := s.rdb Fld.PWR_STATUS_FIRST_BOOT
  if field = 0 then (if f.root.isSome || !first then .inr STS_WRITE_PROTECTED else .inl { f with root := some (value % 2 ^ 256) })
  else if field = 1 then (if f.pub.isSome || !first then .inr STS_WRITE_PROTECTED else .inl { f with pub := some (value % 2 ^ 384) })
  else if field ≤ 17 then
    let w := field - 2
    let v := value % 2 ^ 32
    if w < f.roll.length then .inr STS_WRITE_PROTECTED
    else
      match s.runningGen with
      | some g => if w = f.roll.length ∧ f.floor < v ∧ v ≤ g then .inl { f with roll := f.roll ++ [v] } else .inr STS_BAD_DESCRIPTOR
      | none => .inr STS_BAD_DESCRIPTOR
  else if field = 18 then (if f.lock then .inr STS_WRITE_PROTECTED else .inl { f with lock := true })
  else .inr STS_BAD_DESCRIPTOR

/-- Fuse bits of a field. -/
def fuseBits (field : Nat) : Nat := if field = 0 then 256 else if field = 1 then 384 else if field ≤ 17 then 32 else 1

/-- FUSE_PROG (R531): one field is programmed from `value`, in 100 µs for each 32 fuse bits, and read back.  What the fuses show in
registers follows. -/
def State.fuseProg (s : State) (field value : Nat) : State :=
  if s.rdb Fld.DBG_FUSE_RESULT_BUSY then s.raise Fld.DBG_ERR_FUSE_BUSY
  else
    match s.fuseNext field value with
    | .inr st => s.fuseEnd st
    | .inl f =>
      let s := s.advance (s.now + 100 * ceilDiv (fuseBits field) 32 * unitsPerUs)
      let s := { s with dbg := { s.dbg with fuses := f } }
      let s := (s.wrb Fld.GLB_FUSE_KEY f.root.isSome).wrb Fld.GLB_FUSE_PUBKEY f.pub.isSome
      ((s.wr Fld.GLB_FUSE_ROLLBACK f.floor).wrb Fld.DBG_STATUS_LOCKED f.lock).fuseEnd STS_OK

/-- The row: a write to `DBG_FUSE_CMD`, with the value of `DBG_FUSE_DATA`, or FUSE_PROG over JTAG with its own. -/
def State.fuseCmd (s : State) (field : Nat) (jtag : Option Nat) : State :=
  match jtag with
  | none => s.fuseProg field (s.rd Fld.DBG_FUSE_DATA)
  | some v => s.unlessLocked (fun s => (s.loadIr irFuseProg).fuseProg field v)

/-! ## Loopback -/

/-- The enabled port of a network lane. -/
def State.laneBusy (s : State) (lane : Nat) : Bool :=
  (List.range 32).any (fun n => s.isPort n && decide (n ≤ lane ∧ lane < n + modeLanes (s.rd Fld.NET_OCTET_MODE_MODE (n / 8))) &&
    s.rdb Fld.NET_PORT_CFG_ENABLE n)

/-- A loopback is allowed (Table 26.3); the Isaov link has 16 lanes. -/
def State.loopAllowed (s : State) (kind target : Nat) : Bool :=
  if kind = 1 ∨ kind = 2 then decide (target < 32) && !s.laneBusy target
  else if kind = 3 then decide (target < 16) && !s.rdb Fld.ISL_CTRL_ENABLE
  else if kind = 4 then decide (target < 128) && s.aon.drivers.mem (target / 8)
  else false

/-- A loopback ends with a status. -/
def State.loopEnd (s : State) (status : Nat) : State :=
  let s := { s with dbg := { s.dbg with loop := none } }
  let s := ((s.wr Fld.DBG_LOOP_STAT_STATUS status).wr Fld.DBG_LOOP_STAT_DONE 1).wr Fld.DBG_LOOP_STAT_BUSY 0
  s.wr Fld.DBG_STATUS_LOOPING 0

/-- LOOPBACK_START (R534, R536). -/
def State.loopBegin (s : State) (kind target ms : Nat) : State :=
  if s.rdb Fld.DBG_LOOP_STAT_BUSY then s.raise Fld.DBG_ERR_LOOP_BUSY
  else if !s.loopAllowed kind target then s.loopEnd STS_DOMAIN_IN_USE
  else
    let s := { s with dbg := { s.dbg with loop := some (kind, target, s.now + ms * 1000 * unitsPerUs) } }
    ((s.wr Fld.DBG_LOOP_STAT_DONE 0).wr Fld.DBG_LOOP_STAT_BUSY 1).wr Fld.DBG_STATUS_LOOPING 1

/-- LOOPBACK_END (R534): after MS, with the bit errors counted; early when the drivers of a flash channel's group are disabled. -/
def State.loopDone (s : State) (errors : Nat) : State :=
  match s.dbg.loop with
  | none => s
  | some (kind, target, due) =>
    if kind = 4 ∧ s.aon.drivers.mem (target / 8) = false then (s.bump Fld.DBG_LOOP_STAT_ERRORS errors).loopEnd STS_HOST_XFER_FAIL
    else
      let s := (s.advance due).bump Fld.DBG_LOOP_STAT_ERRORS errors
      s.loopEnd (if kind = 4 ∧ s.aon.drivers.mem (target / 8) = false then STS_HOST_XFER_FAIL else STS_OK)

/-! ## The meanings -/

/-- JTAG_TAP_RESET. -/
def execJtagTapReset (s : State) : Res := ended s.tapReset
/-- BYPASS (R526). -/
def execBypass (s : State) : Res := ended (s.loadIr irBypass)
/-- IDCODE (R526). -/
def execIdcode (s : State) : Res := ended ((s.loadIr irIdcode).emit (.tap s.idcode))
/-- SAMPLE_PRELOAD. -/
def execSamplePreload (captured preload : Nat) (s : State) : Res := ended (s.samplePreload captured preload)
/-- EXTEST. -/
def execExtest (s : State) : Res := ended (s.drivingIr irExtest)
/-- EXTEST_PULSE. -/
def execExtestPulse (s : State) : Res := ended (s.drivingIr irExtestPulse)
/-- EXTEST_TRAIN. -/
def execExtestTrain (s : State) : Res := ended (s.drivingIr irExtestTrain)
/-- CLAMP. -/
def execClamp (s : State) : Res := ended (s.drivingIr irClamp)
/-- HIGHZ. -/
def execHighz (s : State) : Res := ended (s.drivingIr irHighz)
/-- FUSE_PROG. -/
def execFuseProg (field : Nat) (jtag : Option Nat) (s : State) : Res := ended (s.fuseCmd field jtag)
/-- LOOPBACK_START. -/
def execLoopbackStart (kind target ms : Nat) (s : State) : Res := ended (s.loopBegin kind target ms)
/-- LOOPBACK_END. -/
def execLoopbackEnd (errors : Nat) (s : State) : Res := ended (s.loopDone errors)

end Sys2Proof.Machine
end

