-- ==== Sys2Proof/Machine/Car.lean ====
section
/-!
DEFINITION. CAR: cluster time and the Carillon (R57 to R76).
-/
namespace Sys2Proof.Machine

open Sys2Proof

/-- States of Table 03.1. -/
abbrev carUnsynced : Nat := 0
abbrev carAcquiring : Nat := 1
abbrev carLocked : Nat := 2
abbrev carHoldover : Nat := 3

/-- Slot states (Table 03.4). -/
abbrev slotIdle : Nat := 0
abbrev slotArmed : Nat := 1
abbrev slotHeld : Nat := 2

/-- ±100 ppm (R60). -/
def ppm100 : Frac := ⟨1, 10000⟩

/-- One µs, in ns. -/
def oneUs : Frac := ⟨1000, 1⟩

/-- The expected interval between measurements, ns: 2^logMessageInterval s (R60). -/
def Car.intervalNs (c : Car) : Frac :=
  if 0 ≤ c.logInterval then Frac.int (1000000000 * (2 : Int) ^ c.logInterval.toNat)
  else Frac.of 1000000000 (2 ^ c.logInterval.natAbs)

/-- Δ_k in ns: local time since the previous accepted measurement, or one expected interval for the first (R60). -/
def State.delta (s : State) : Frac :=
  match s.car.lastMeas with
  | some t => Frac.of ((s.now : Int) - (t : Int)) unitsPerNs
  | none => s.car.intervalNs

/-- A Q16.16 gain as a fraction. -/
def gain (v : Nat) : Frac := Frac.of v 65536

/-- The law of R60 at a measurement θ: the new y and s, y clamped at ±100 ppm with the integral then held. -/
def State.servoLaw (s : State) (theta : Frac) : Frac × Frac :=
  let s1 := s.car.integ.add theta
  let num := ((gain (s.rd Fld.CAR_SERVO_KP)).mul theta).add ((gain (s.rd Fld.CAR_SERVO_KI)).mul s1)
  let y := (num.div s.delta).neg
  if ppm100.lt y.abs then (y.clamp ppm100.neg ppm100, s.car.integ) else (y, s1)

/-- The frequency and the integral after a step of an ACQUIRING that has stepped before (R60): y takes up the drift
accrued since that step, inside ±100 ppm, and s is set so that the law gives that y with θ = 0. -/
def State.stepLaw (s : State) (theta : Frac) : Frac × Frac :=
  if s.car.stepped then
    let y := (s.car.y.add (theta.div s.delta).neg).clamp ppm100.neg ppm100
    let ki := gain (s.rd Fld.CAR_SERVO_KI)
    (y, if ki.num = 0 then s.car.integ else ((y.mul s.delta).div ki).neg)
  else (s.car.y, s.car.integ)

/-- Every slot in one state goes to another: HELD to ARMED at LOCKED, ARMED to HELD when time stops being valid
(Table 03.1, R70). -/
def State.slotsFromTo (s : State) (a b : Nat) : State :=
  ((s.listed Fld.CAR_SLOT_STATE).filter (fun e => e.2 == a)).foldl
    (fun s e => s.wr Fld.CAR_SLOT_STATE b e.1) s

/-- ε is at or below 7/8 of its bound (R67). -/
def State.epsLow (s : State) : Bool :=
  s.timeValid && ((s.eps.mul (Frac.int 8)).le (Frac.int (7 * (s.rd Fld.CAR_EPS_BOUND_BOUND : Nat))))

/-- Keep the instant since which ε has stayed at or below 7/8 of the bound, counted in LOCKED and HOLDOVER only. -/
def State.epsTrack (s : State) : State :=
  let since := if s.epsLow = true then some (s.car.epsLowSince.getD s.now) else none
  { s with car := { s.car with epsLowSince := since } }

/-- CAR's boundary, the servo step (R76): an admitted commit takes effect, and with it a bound ADM has committed. -/
def State.servoBoundary (s : State) : State :=
  let s := s.boundary Blk.CAR
  let s := match s.adm.boundNext with
    | some b => { s.wr Fld.CAR_EPS_BOUND_BOUND b with adm := { s.adm with boundNext := none } }
    | none => s
  { s with car := { s.car with lastStep := s.now } }

/-- `CAR_LAST_THETA` of an offset: whole ns rounded down, signed 32 bits, saturating (Table 03.6). -/
def thetaField (theta : Frac) : Nat :=
  unsignedOf 32 (max (-2147483648) (min 2147483647 theta.floor))

/-- Does the measurement θ step time?  Only in ACQUIRING, at 1 µs or more, and only forward once ACQUIRING has been left
since the reset (R60). -/
def State.stepsAt (s : State) (theta : Frac) : Bool :=
  s.rd Fld.CAR_STATUS_STATE == carAcquiring && oneUs.le theta.abs && !(s.car.leftAcq && Frac.zero.lt theta)

/-- Entry to LOCKED after sixteen measurements in a row under 1 µs (Table 03.1): HELD slots become ARMED. -/
def State.lockEntry (s : State) : State :=
  if s.rd Fld.CAR_STATUS_STATE = carAcquiring ∧ 16 ≤ s.car.lockRun then
    let s := (s.wr Fld.CAR_STATUS_STATE carLocked).slotsFromTo slotHeld slotArmed
    { s with car := { s.car with leftAcq := true, secondsKnown := s.car.secondsKnown ||
                                   s.rd Fld.CAR_CTRL_SOURCE != 2 } }
  else s

/-- An accepted measurement with offset θ (R60, R65): the servo or a step, ε, the states of Table 03.1, and the servo step
that takes up admitted commits. -/
def State.measure (s : State) (theta : Frac) : State :=
  let s := s.epsTrack
  let st := s.rd Fld.CAR_STATUS_STATE
  let s := if st = carUnsynced then
      { s.wr Fld.CAR_STATUS_STATE carAcquiring with car := { s.car with lockRun := 0, stepped := false } }
    else s
  let steps := s.stepsAt theta
  let here := s.ct
  let law := if steps then s.stepLaw theta else s.servoLaw theta
  let epsK := ((theta.abs.add (Frac.int (s.rd Fld.CAR_ASYM_ASYM_NS : Nat))).add
    (Frac.int (s.rd Fld.CAR_ASYM_GM_EPS_NS : Nat))).add (Frac.int 4)
  let s := { s with car := { s.car with
      base := if steps then here.sub theta else here
      baseAt := s.now
      y := law.1
      integ := law.2
      lastMeas := some s.now
      stepped := s.car.stepped || steps
      lockRun := if theta.abs.lt oneUs then s.car.lockRun + 1 else 0
      epsK := epsK } }
  let s := s.wr Fld.CAR_LAST_THETA_THETA (thetaField theta)
  let s := s.lockEntry
  let s := if s.rd Fld.CAR_STATUS_STATE = carHoldover then s.wr Fld.CAR_STATUS_STATE carLocked else s
  s.servoBoundary.epsTrack

/-- The fraction of a CT64 or PTP instant given in 2^-16 ns. -/
def ofCt (t : Int) : Frac := Frac.of t 65536

/-- The cluster epoch in ns (R63). -/
def State.epochNs (s : State) : Nat := s.rd Fld.CAR_EPOCH_TAI_SEC * 1000000000 + s.rd Fld.CAR_EPOCH_TAI_NS

/-- What the latencies of a port add to an offset (R58): the receive and the transmit latency, in 2^-8 ns, enter the two timestamps the
head takes, and each moves the offset by half of itself, under either delay mechanism of R57. -/
def State.portLatency (s : State) (port : Nat) : Frac :=
  Frac.of ((s.rd Fld.CAR_PORT_LAT_RX port + s.rd Fld.CAR_PORT_LAT_TX port : Nat) : Int) 512

/-- PTP_MEASUREMENT (R58 to R60, R65): `dt` local units after the last command the port followed yields the source's time, in 2^-16 ns of
TAI, at the head's local instant, as the timestamps without the port's latencies give it.  With PPS_IN as phase it gives seconds only. -/
def ptpMeasurement (port dt srcTai : Nat) (logInterval : Int) (s : State) : State :=
  let s := s.advance (s.now + dt)
  if !s.rdb Fld.CAR_CTRL_ENABLE || s.rd Fld.CAR_STATUS_PORT_ACTIVE != port || s.rd Fld.CAR_CTRL_SOURCE == 2 then s
  else
    let s := { s with car := { s.car with logInterval := logInterval } }
    let theta := (s.ct.sub ((ofCt srcTai).sub (Frac.int (s.epochNs : Nat)))).add (s.portLatency port)
    if s.rd Fld.CAR_CTRL_SOURCE = 0 then s.measure theta
    else { s with car := { s.car with ptpTheta := some theta } }

/-- PTP_ANNOUNCE (R64, R456): with UTC_FROM_PTP the offset and the leap flags of the port followed are copied; an
announcement that becomes set fixes its day end. -/
def ptpAnnounce (port utcOffset : Nat) (leap61 leap59 : Bool) (s : State) : State :=
  if s.rd Fld.CAR_STATUS_PORT_ACTIVE != port || !s.rdb Fld.CAR_CTRL_UTC_FROM_PTP then s
  else
    let was := s.rdb Fld.CAR_UTC_LEAP61 || s.rdb Fld.CAR_UTC_LEAP59
    let s := ((s.wr Fld.CAR_UTC_UTC_OFFSET utcOffset).wrb Fld.CAR_UTC_LEAP61 leap61).wrb Fld.CAR_UTC_LEAP59 leap59
    let s := s.wrb Fld.CAR_STATUS_LEAP_PENDING (leap61 || leap59)
    let utc : Int := ((s.epochNs + s.ctNs : Nat) : Int) / 1000000000 - (utcOffset : Int)
    let dayEnd := if !(leap61 || leap59) then none
      else if was then s.car.dayEnd else some (nextMidnight utc).toNat
    { s with car := { s.car with dayEnd := dayEnd } }

/-- The whole second nearest to an instant in ns. -/
def nearestSecond (t : Frac) : Frac :=
  Frac.int ((((t.add (Frac.int 500000000)).div (Frac.int 1000000000)).floor) * 1000000000)

/-- PPS_IN_EDGE (R59): an edge that marks the second is the phase of a whole second of cluster time. -/
def ppsInEdge (dt : Nat) (falling : Bool) (s : State) : State :=
  let s := s.advance (s.now + dt)
  if !s.rdb Fld.CAR_PPS_IN_EN || s.rdb Fld.CAR_PPS_IN_EDGE != falling then s
  else
    let s := { s with car := { s.car with ppsInAt := some s.now } }
    let src := s.rd Fld.CAR_CTRL_SOURCE
    if !s.rdb Fld.CAR_CTRL_ENABLE then s
    else if src = 1 then
      match s.car.ptpTheta with
      | some p =>
        let theta := s.ct.sub (nearestSecond (s.ct.sub p))
        let stepped := s.stepsAt theta
        let s := s.measure theta
        { s with car := { s.car with ptpTheta := some (if stepped then p.sub theta else p) } }
      | none => s
    else if src = 2 then
      if s.car.secondsKnown then s.measure (s.ct.sub (nearestSecond s.ct))
      else if s.rd Fld.CAR_STATUS_STATE = carUnsynced then s.wr Fld.CAR_STATUS_STATE carAcquiring
      else s
    else s

/-- The local instant at which `n` expected intervals have passed since the last accepted measurement. -/
def State.missedAt (s : State) (n : Nat) : Nat :=
  (s.car.lastMeas.getD s.now) + ((s.car.intervalNs.mul (Frac.int (n : Nat))).mul (Frac.int unitsPerNs)).ceil.toNat

/-- HOLDOVER_ENTRY (R60, Table 03.1): four expected intervals without a measurement while LOCKED. -/
def holdoverEntry (s : State) : State :=
  if s.rd Fld.CAR_STATUS_STATE = carLocked then
    ((s.advance (s.missedAt 4)).wr Fld.CAR_STATUS_STATE carHoldover).raise Fld.CAR_ERR_SOURCE_LOST
  else s

/-- BACKUP_PORT_FALLOVER (R57, R60): after 4 missed intervals with BACKUP_EN the head follows its backup port. -/
def backupPortFallover (s : State) : State :=
  if s.rdb Fld.CAR_CTRL_ENABLE && s.rdb Fld.CAR_CTRL_BACKUP_EN && !s.rdb Fld.CAR_STATUS_ON_BACKUP &&
      s.car.lastMeas.isSome then
    let s := s.advance (s.missedAt 4)
    (s.wr Fld.CAR_STATUS_PORT_ACTIVE (s.rd Fld.CAR_CTRL_BACKUP_PORT)).wr Fld.CAR_STATUS_ON_BACKUP 1
  else s

/-- SERVO_STEP_1MS (R76): without a measurement a servo step comes 1 ms of cluster time after the last; it takes up
admitted commits and leaves y as it is. -/
def servoStep1ms (s : State) : State :=
  if s.rdb Fld.CAR_CTRL_ENABLE then
    (s.advanceCt ((s.ctAt s.car.lastStep).add (Frac.int 1000000))).servoBoundary.epsTrack
  else s

/-- The local instant after which ε exceeds its bound, as it grows since the last measurement (R65). -/
def State.epsOverAt (s : State) : Nat :=
  let room := (Frac.int (s.rd Fld.CAR_EPS_BOUND_BOUND : Nat)).sub s.car.epsK
  if room.num < 0 then s.now
  else (s.car.lastMeas.getD s.now) +
    ((room.mul (Frac.int (1000000000 * unitsPerNs))).div (Frac.int (s.rd Fld.CAR_DRIFT_BOUND_RHO : Nat))).floor.toNat
    + s.cycle

/-- EPS_OVER_SET (R67): ε exceeds `CAR_EPS_BOUND` while time is valid: the flag, the record, the global event, and the
alarm where enabled.  With nothing assumed the bound is 0xFFFF_FFFF and the flag cannot set (R447). -/
def epsOverSet (s : State) : State :=
  if s.timeValid && !s.rdb Fld.CAR_STATUS_EPS_OVER && decide (s.rd Fld.CAR_EPS_BOUND_BOUND < 0xFFFFFFFF) then
    let s := s.advance s.epsOverAt
    let s := { s.raise Fld.CAR_STATUS_EPS_OVER with car := { s.car with epsLowSince := none } }
    let s := s.record Blk.CAR 0x1001 0 0 0 (s.rdb Fld.CAR_CTRL_EPS_ALARM)
    s.eventGlobal Blk.CAR 0x0004 s.epsNs (s.rd Fld.CAR_EPS_BOUND_BOUND)
  else s

/-- EPS_OVER_CLEAR (R67): ε has stayed at or below 7/8 of the bound for 1 s in LOCKED or HOLDOVER. -/
def epsOverClear (s : State) : State :=
  match s.car.epsLowSince with
  | some t =>
    let u := s.advance (t + 1000000 * unitsPerUs)
    if s.rdb Fld.CAR_STATUS_EPS_OVER && u.epsLow then u.wr Fld.CAR_STATUS_EPS_OVER 0 else s
  | none => s

/-- The period of `CAR_PPS.OUT_PERIOD` in ns (Table 03.6). -/
def ppsPeriod (code : Nat) : Nat :=
  match code with
  | 0 => 1000000000
  | 1 => 100000000
  | 2 => 10000000
  | _ => 1000000

/-- PPS_OUT_EDGE (R61): the next whole multiple of OUT_PERIOD of cluster time; driven in LOCKED and HOLDOVER only. -/
def ppsOutEdge (s : State) : State :=
  if s.timeValid && s.rdb Fld.CAR_PPS_OUT_EN then
    let p := ppsPeriod (s.rd Fld.CAR_PPS_OUT_PERIOD)
    let inst := (s.ctNs / p + 1) * p
    let w := s.rd Fld.CAR_PPS_OUT_WIDTH
    let s := s.advanceCt (Frac.int (inst : Nat))
    { s with car := { s.car with ppsOutUntil := some ((inst + w * 1000) * 65536) } }.emit (.ppsOut w)
  else s

/-- CAR_ENABLE_CLEAR (R60, Table 03.1): the time service enters UNSYNCED and armed slots are held; an ACQUIRING it ends has been left. -/
def carEnableClear (s : State) : State :=
  let left := s.car.leftAcq || s.rd Fld.CAR_STATUS_STATE != carUnsynced
  let s := ((s.wr Fld.CAR_CTRL_ENABLE 0).wr Fld.CAR_STATUS_STATE carUnsynced).slotsFromTo slotArmed slotHeld
  { s with car := { s.car with leftAcq := left, lockRun := 0, stepped := false, epsLowSince := none } }

/-- A read of `CAR_NOW_NS_LO` latches the high word, the fraction and ε of the same engine cycle (R76). -/
def carNowLatch (s : State) : State :=
  let t := s.ct16
  ((s.wr Fld.CAR_NOW_NS_HI (t / 65536 / 2 ^ 32)).wr Fld.CAR_NOW_FRAC_FRAC (t % 65536)).wr Fld.CAR_NOW_EPS s.epsNs

/-- CAR_NOW_READ (R76): the value read is the low word. -/
def carNowRead (s : State) : State :=
  (carNowLatch s).emit (.regValue (Blk.CAR * 1048576 + 0x10) (s.ct16 / 65536 % 2 ^ 32))

/-! ## The Carillon -/

/-- Slots of the head's firmware (R69). -/
def firmwareSlot (i : Nat) : Bool := decide (i < 4096)

/-- The fields of a slot that a write may change (Table 03.4). -/
def slotFields : List Field :=
  [Fld.CAR_SLOT_INSTANT_NS, Fld.CAR_SLOT_INSTANT_FRAC, Fld.CAR_SLOT_COORD, Fld.CAR_SLOT_LOG_LATE, Fld.CAR_SLOT_ARG,
   Fld.CAR_SLOT_PERIOD_NS, Fld.CAR_SLOT_ACTION, Fld.CAR_SLOT_BLOCK, Fld.CAR_SLOT_TRIGGER, Fld.CAR_SLOT_RING]

/-- A field's value once the `n` bits at bit `at_` of its register take those of `v`. -/
def mergeBits (f : Field) (cur at_ n v : Nat) : Nat :=
  (List.range f.width).foldl (fun a k =>
    let b := f.lo + k
    if at_ ≤ b ∧ b < at_ + n then putBits a k 1 (v / 2 ^ (b - at_)) else a) cur

/-- CAR_SLOT_WRITE (R69, R70): a 32-bit write at byte `off` of a slot; `fw` marks the head's own firmware. -/
def carSlotWrite (i off v : Nat) (fw : Bool) (s : State) : State :=
  if firmwareSlot i && !fw then s.raise Fld.CAR_ERR_SLOT_RSVD
  else if s.rd Fld.CAR_SLOT_STATE i != slotIdle then s.raise Fld.CAR_ERR_SLOT_LIVE
  else slotFields.foldl (fun s f => s.wr f (mergeBits f (s.rd f i) (off * 8) 32 v) i) s

/-- The arm of a slot is malformed (R70): a reserved action, a period between 1 and 999 ns, or a block outside Table 03.3. -/
def State.slotBad (s : State) (i : Nat) : Bool :=
  let p := s.rd Fld.CAR_SLOT_PERIOD_NS i
  let a := s.rd Fld.CAR_SLOT_ACTION i
  decide (5 ≤ a) || (decide (1 ≤ p) && decide (p ≤ 999)) || (a == 3 && decide (27 < s.rd Fld.CAR_SLOT_BLOCK i))

/-- The arm of a coordinated slot is refused by R67 or R448. -/
def State.slotEpsRefused (s : State) (i : Nat) : Bool :=
  s.rdb Fld.CAR_SLOT_COORD i &&
    (s.rdb Fld.CAR_STATUS_EPS_OVER || !s.epsWithin (min s.leastBound (s.rd Fld.ADM_TIME_SLOT_EPS_NS)))

/-- CAR_SLOT_ARM (R69, R70, R67, R448). -/
def carSlotArm (i : Nat) (fw : Bool) (s : State) : State :=
  if firmwareSlot i && !fw then s.raise Fld.CAR_ERR_SLOT_RSVD
  else if s.rd Fld.CAR_SLOT_STATE i != slotIdle then s.raise Fld.CAR_ERR_SLOT_LIVE
  else if s.slotBad i then s.raise Fld.CAR_ERR_SLOT_BAD
  else if s.slotEpsRefused i then s.raise Fld.CAR_ERR_EPS_REFUSED
  else
    let s := s.wr Fld.CAR_SLOT_STATE (if s.timeValid then slotArmed else slotHeld) i
    if s.rdb Fld.CAR_SLOT_COORD i then s.boundNow else s

/-- CAR_SLOT_DISARM (R69, R70): the slot is IDLE at the next engine cycle. -/
def carSlotDisarm (i : Nat) (fw : Bool) (s : State) : State :=
  if firmwareSlot i && !fw then s.raise Fld.CAR_ERR_SLOT_RSVD
  else
    let was := s.rd Fld.CAR_SLOT_STATE i
    let s := (s.advance (s.now + s.cycle)).wr Fld.CAR_SLOT_STATE slotIdle i
    if s.rdb Fld.CAR_SLOT_COORD i && was != slotIdle then s.boundNow else s

/-- A slot's instant, ns. -/
def State.slotInstant (s : State) (i : Nat) : Frac :=
  (Frac.int (s.rd Fld.CAR_SLOT_INSTANT_NS i : Nat)).add (Frac.of (s.rd Fld.CAR_SLOT_INSTANT_FRAC i) 65536)

/-- The block an action is delivered to (Table 03.3); none where the action reaches no other block. -/
def State.slotTarget (s : State) (i : Nat) : Option Nat :=
  match s.rd Fld.CAR_SLOT_ACTION i with
  | 2 => some Blk.HRI
  | 3 => some (s.rd Fld.CAR_SLOT_BLOCK i)
  | 4 => some Blk.LPE
  | _ => none

/-- Issue a slot's action with its lateness (R73, R74, Table 03.3). -/
def State.slotIssue (s : State) (i lateness : Nat) (late : Bool) : State :=
  let arg := s.rd Fld.CAR_SLOT_ARG i
  let instant := s.rd Fld.CAR_SLOT_INSTANT_NS i
  match s.rd Fld.CAR_SLOT_ACTION i with
  | 1 =>
    let n := arg / 32 % 64
    s.wr Fld.CAR_FLAG_FLAG (setBit (s.rd Fld.CAR_FLAG_FLAG n) (arg % 32)) n
  | 2 => s.ringEvent (s.rd Fld.CAR_SLOT_RING i)
      { arg := arg, late := late, instant := instant, lateness := lateness, eps := s.epsNs }
  | 3 => s.emit (.trigger (s.rd Fld.CAR_SLOT_BLOCK i) (s.rd Fld.CAR_SLOT_TRIGGER i) arg instant lateness s.epsNs late)
  | 4 => s.emit (.trigger Blk.LPE (s.rd Fld.CAR_SLOT_TRIGGER i % 64) arg instant lateness s.epsNs late)
  | _ => s

/-- A slot after a firing at `issued` ns (R72): one-shot slots become IDLE; a periodic slot takes the smallest instant of
its grid after the issue time, and each occurrence passed over counts in MISSED. -/
def State.slotNext (s : State) (i : Nat) (issued : Frac) : State :=
  let p := s.rd Fld.CAR_SLOT_PERIOD_NS i
  let s := s.wr Fld.CAR_SLOT_FIRE_COUNT (s.rd Fld.CAR_SLOT_FIRE_COUNT i + 1) i
  if p = 0 then
    let s := s.wr Fld.CAR_SLOT_STATE slotIdle i
    if s.rdb Fld.CAR_SLOT_COORD i then s.boundNow else s
  else
    let k := ((issued.sub (s.slotInstant i)).div (Frac.int (p : Nat))).floor.toNat
    let s := s.wr Fld.CAR_SLOT_INSTANT_NS (s.rd Fld.CAR_SLOT_INSTANT_NS i + (k + 1) * p) i
    s.bump Fld.CAR_SLOT_MISSED k i

/-- Slot i is the next of the armed slots to issue: none has an earlier instant, or the same instant and a lower index (R71). -/
def State.slotNextDue (s : State) (i : Nat) : Bool :=
  (s.listed Fld.CAR_SLOT_STATE).all (fun e =>
    e.2 != slotArmed || e.1 == i ||
      (s.slotInstant i).lt (s.slotInstant e.1) || ((s.slotInstant i).le (s.slotInstant e.1) && decide (i < e.1)))

/-- CARILLON_FIRE (R71 to R74): cluster time reaches the slot's instant; one engine cycle issues the action.  A slot whose turn has not come
waits. -/
def carillonFire (i : Nat) (s : State) : State :=
  if s.rd Fld.CAR_SLOT_STATE i != slotArmed || !s.timeValid || !s.slotNextDue i then s
  else
    let s := s.advanceCt (s.slotInstant i)
    let issued := s.ct
    let lateness := (issued.sub (s.slotInstant i)).floor.toNat
    let late := (Frac.int (s.rd Fld.CAR_LATE_THRESH_NS : Nat)).lt (issued.sub (s.slotInstant i)) ||
      s.rdb Fld.CAR_STATUS_EPS_OVER
    let off := match s.slotTarget i with
      | some b => !s.enabled b
      | none => false
    let s := if off then s.raise Fld.CAR_ERR_TARGET_OFF else s.slotIssue i lateness late
    let s := if late && s.rdb Fld.CAR_SLOT_LOG_LATE i then s.record Blk.CAR 0x0002 i else s
    let s := s.slotNext i issued
    s.advance (s.now + s.cycle)

/-- PTP_DELAY_REQ_SEND (R57): every 2^DELAY_REQ_LOG s the head sends a Delay_Req, or a Pdelay_Req under peer-to-peer, on
the port it follows and timestamps it. -/
def ptpDelayReqSend (s : State) : State :=
  if s.rdb Fld.CAR_CTRL_ENABLE && s.rd Fld.CAR_CTRL_SOURCE != 2 then
    let l := signedOf 4 (s.rd Fld.CAR_CTRL_DELAY_REQ_LOG)
    let step := if 0 ≤ l then 1000000 * unitsPerUs * 2 ^ l.toNat else 1000000 * unitsPerUs / 2 ^ l.natAbs
    let s := match s.car.delayReqAt with
      | some t => s.advance (t + step)
      | none => s
    { s with car := { s.car with delayReqAt := some s.now } }.emit
      (.delayReq (s.rd Fld.CAR_STATUS_PORT_ACTIVE) (s.rdb Fld.CAR_CTRL_P2P))
  else s

/-! ## The meanings -/


def execPtpMeasurement (port dt srcTai : Nat) (logInterval : Int) (s : State) : Res :=
  ended (ptpMeasurement port dt srcTai logInterval s)
def execPtpAnnounce (port utcOffset : Nat) (leap61 leap59 : Bool) (s : State) : Res :=
  ended (ptpAnnounce port utcOffset leap61 leap59 s)
def execPpsInEdge (dt : Nat) (falling : Bool) (s : State) : Res := ended (ppsInEdge dt falling s)
def execHoldoverEntry (s : State) : Res := ended (holdoverEntry s)
def execBackupPortFallover (s : State) : Res := ended (backupPortFallover s)
def execServoStep1ms (s : State) : Res := ended (servoStep1ms s)
def execEpsOverSet (s : State) : Res := ended (epsOverSet s)
def execEpsOverClear (s : State) : Res := ended (epsOverClear s)
def execPpsOutEdge (s : State) : Res := ended (ppsOutEdge s)
def execCarEnableClear (s : State) : Res := ended (carEnableClear s)
def execCarNowRead (s : State) : Res := ended (carNowRead s)
def execCarSlotWrite (slot off value : Nat) (fw : Bool) (s : State) : Res := ended (carSlotWrite slot off value fw s)
def execCarSlotArm (slot : Nat) (fw : Bool) (s : State) : Res := ended (carSlotArm slot fw s)
def execCarSlotDisarm (slot : Nat) (fw : Bool) (s : State) : Res := ended (carSlotDisarm slot fw s)
def execCarillonFire (slot : Nat) (s : State) : Res := ended (carillonFire slot s)
def execPtpDelayReqSend (s : State) : Res := ended (ptpDelayReqSend s)

end Sys2Proof.Machine
end

