-- ==== Sys2Proof/Machine/Flc.lean ====
section
/-!
DEFINITION. The commands of the flash channels (R270 to R292, R14).
-/
namespace Sys2Proof.Machine

open Sys2Proof

/-- FLC's states of a channel (`FLC_CH_STATUS`). -/
abbrev flcNotHeld : Nat := 0
abbrev flcInit : Nat := 1
abbrev flcInService : Nat := 2
abbrev flcFailed : Nat := 3

/-- The channels of a group. -/
def chansOf (g : Nat) : List Nat := (List.range 8).map (8 * g + ·)

/-- The channels of the groups this head drives. -/
def State.heldChans (s : State) : List Nat := s.aon.drivers.flatMap chansOf

/-! ## Enable and training -/

/-- A parameter page FLC can use (R272). -/
def State.paramOk (s : State) (p : ParamPage) : Bool :=
  (p.cell == 2 || p.cell == 3) && p.pageSize == 16384 && decide (320 + 4 * (256 + 128 * s.rd Fld.FLC_LDPC_CFG_PARITY) ≤ p.spare)

/-- Report the geometry in force (`FLC_GEOM`). -/
def State.setGeom (s : State) (p : ParamPage) : State :=
  let s := ((s.wr Fld.FLC_GEOM_CELL p.cell).wr Fld.FLC_GEOM_PLANES (p.planes - 1)).wr Fld.FLC_GEOM_BLOCKS p.blocks
  let s := ((s.wr Fld.FLC_GEOM_PAGES p.pages).wr Fld.FLC_GEOM_SPARE p.spare).wr Fld.FLC_GEOM_LUNS p.luns
  let s := { s.wr Fld.FLC_GEOM_VOLUMES p.volumes with flc := { s.flc with geom := some p } }
  { s with pgs := s.pgs.mapVal (fun g (x : Pg) =>
      if s.str.bands.any (fun e => e.1 % 65536 == g) then x else { x with free := (x.freeBlocks - x.spares) * (p.pages * 4) }) }

/-- FLC_ENABLE: FLC reads the parameter page of every LUN it holds, `pages` by LUN; one that differs or falls short stops it (R270,
R272).  A register write may have set the bit before.  `bads`: the factory-marked blocks of blank media, read at the first boot (R289). -/
def State.flcEnable (s : State) (pages : List (Nat × ParamPage)) (bads : List Nat) : State :=
  if s.rdb Fld.FLC_CTRL_ENABLE && (s.flc.geom.isSome || pages = []) then s
  else
    let r := if s.rdb Fld.FLC_CTRL_ENABLE then (s, true) else s.tryEnable Fld.FLC_CTRL_ENABLE
    if !r.2 then r.1 else
    let s := r.1
    let s := bads.foldl (fun s b => s.setBlock b { s.block b with bad := true }) s
    match pages with
    | [] => s
    | (_, first) :: _ =>
      let ref := s.flc.geom.getD first
      match pages.find? (fun p => !s.paramOk p.2 || p.2 != ref) with
      | some (l, _) =>
        let s := (s.raise Fld.FLC_ERR_GEOMETRY).flcInfo l
        { s with flc := { s.flc with geomBad := true } }
      | none =>
        let s := s.setGeom ref
        s.heldChans.foldl (fun s c => s.wr Fld.FLC_CH_STATUS_STATE flcInit c) s

/-- FLC serves channels: enabled, with one geometry (R272). -/
def State.flcRuns (s : State) : Bool := s.rdb Fld.FLC_CTRL_ENABLE && !s.flc.geomBad

/-- The next lower rate of a rate's interface (Table 12.1, R273). -/
def lowerRate (r : Nat) : Option Nat :=
  if r = 1 then some 0 else if r = 3 ∨ r = 4 ∨ r = 5 then some (r - 1) else none

/-- A channel is trained at a rate, with an eye of `ps`. -/
def State.trained (s : State) (c rate ps : Nat) : State :=
  let s := ((s.wr Fld.FLC_CH_STATUS_STATE flcInService c).wr Fld.FLC_CH_STATUS_RATE rate c).wr Fld.FLC_CH_STATUS_MARGIN_PS ps c
  { s with flc := { s.flc with marginOk := s.flc.marginOk.insert c } }

/-- CHANNEL_TRAINING: at the configured rate, then at the next lower one of its interface; a second failure fails the channel, and
every member on it (R273).  A rate without a lower one fails at once. -/
def State.chanTraining (s : State) (c : Nat) (ok okLower : Bool) (ps : Nat) : State :=
  if !s.flcRuns || !s.drives c || s.chanLooped c then s
  else
    let rate := s.rd Fld.FLC_IF_CFG_RATE
    let s := s.emit (.train c rate)
    if ok then s.trained c rate ps
    else
      let lower := lowerRate rate
      let s := match lower with
        | some r => s.emit (.train c r)
        | none => s
      match lower, okLower with
      | some r, true => s.trained c r ps
      | _, _ =>
        let s := ((s.wr Fld.FLC_CH_STATUS_STATE flcFailed c).raise Fld.FLC_ERR_TRAIN_FAIL).wr Fld.FLC_ERR_INFO_CH c
        s.failMembers (fun m => m % 128 == c)

/-! ## Groups -/

/-- GROUP_TAKE_UP: the drivers of a group are enabled (R277).  Stored training applies; `busy` names the LUNs that report busy.
Commands go on as LUNs are ready, and so do reads that waited for the group and forwarded writes that were held (R128). -/
def State.groupTakeUp (s : State) (g : Nat) (busy : List Nat) : State :=
  if !s.flcRuns || !s.aon.drivers.mem g || s.flc.takenUp.mem g then s
  else
    let s := (chansOf g).foldl (fun s c => s.wr Fld.FLC_CH_STATUS_STATE flcInService c) s
    let mine := busy.filter (fun l => l % 128 / 8 == g)
    let luns := mine.foldl (fun (a : Assoc LunSt) l => a.put l { erasing := false, suspended := 0, reads := 0, foreign := true }) s.flc.luns
    let s := { s with flc := { s.flc with luns := luns, takenUp := s.flc.takenUp.insert g
                                          marginOk := s.flc.marginOk.filter (fun c => c / 8 != g) } }
    let s := (s.emit (.takeUp g)).fwdResolveAllHeld
    s.resumeReads (fun w => w.left.any (fun p => p.1 / 8 == g))

/-- BUSY_LUN_TIMEOUT: a LUN still busy after the longest program or erase receives RESET (R277). -/
def State.busyLun (s : State) (l : Nat) : State :=
  match s.flc.luns.look (lunOf l) with
  | some x =>
    if x.foreign then ((s.lunDone l).bump Fld.FLC_CH_STATUS_RESETS 1 (l % 128)).emit (.lunReset l) else s
  | none => s

/-- GROUP_LOST: the drivers of a group are disabled (R278): erases are dropped, programs in flight are reported failed to STR, and the
group's channels are not held. -/
def State.groupLost (s : State) (g : Nat) : State :=
  if s.aon.drivers.mem g || !s.flc.takenUp.mem g then s
  else
    let s := s.raise Fld.FLC_ERR_GROUP_LOST
    let s := (chansOf g).foldl (fun s c => s.wr Fld.FLC_CH_STATUS_STATE flcNotHeld c) s
    let inG (a : Nat) : Bool := a % 128 / 8 == g
    let s := { s with flc := { s.flc with luns := s.flc.luns.keep (fun l _ => !inG l), takenUp := s.flc.takenUp.remove g
                                          marginOk := s.flc.marginOk.filter (fun c => c / 8 != g) } }
    let open_ := s.str.stripes.filter (fun e => e.2.st == .opened && (e.2.full || e.2.kind != .buffer))
    open_.foldl (fun s e =>
      let ms := match s.str.bands.look (bandOf e.1) with
        | some b => (List.range b.members.length).filter (fun m => inG (b.members.getD m 0))
        | none => []
      s.modStripe e.1 (fun x => { x with failed := (ms.filter (fun m => !x.passed.mem m && !x.void.mem m)).foldl NatSet.insert x.failed })) s

/-! ## Reads -/

/-- The window of a block's family (R281): when its band closed. -/
def State.familyWindow (s : State) (b : Nat) : Nat :=
  let t := match s.bandOfBlock b with
    | some (_, x) => x.tClose
    | none => 0
  let w := s.rd Fld.FLC_TRACK_CFG_FAMILY_MIN * 60000000000
  if w = 0 then 0 else t / w

/-- A family's tracked offsets become `offs` (R280, R281).  A LUN holds 256 families: beyond that the oldest merges into the
second-oldest, whose table the new family takes over. -/
def State.setFamily (s : State) (lun window : Nat) (offs : List Int) : State :=
  let fs := s.flc.families
  let f : Family := { lun := lun, window := window, offsets := offs }
  if fs.any (fun x => x.lun == lun && x.window == window) then
    { s with flc := { s.flc with families := fs.map (fun x => if x.lun = lun ∧ x.window = window then f else x) } }
  else
    let mine := fs.filter (fun x => x.lun == lun)
    let fs := if mine.length < 256 then fs
      else
        let oldest := mine.foldl (fun a x => min a x.window) ((mine.headD f).window)
        fs.filter (fun x => !(x.lun == lun && x.window == oldest))
    { s with flc := { s.flc with families := fs ++ [f] } }

/-- The step of Table 12.2 at which a codeword ends, with the senses and soft decode configured. -/
def State.readStep (s : State) (c : CwRead) : Nat :=
  if c.step = 1 ∧ s.rd Fld.FLC_RETRY_CFG_RETRY_N = 0 then 3
  else if c.step = 2 ∧ s.rdb Fld.FLC_RETRY_CFG_SOFT_EN = false then 3
  else c.step

/-- One codeword of a sense is decoded (R280, R287, R289). -/
def State.codeword (s : State) (addr : Nat) (c : CwRead) : State :=
  let ch := addr % 128
  let step := s.readStep c
  let s := if 0 < step then s.bump Fld.FLC_CH_ECC_HARD_FAIL 1 ch else s
  if step = 0 then s.bump Fld.FLC_CH_ECC_BITS_CORR c.bits ch
  else if step ≤ 2 then
    let s := (s.bump Fld.FLC_CH_ECC_BITS_CORR c.bits ch).bump
      (if step = 1 then Fld.FLC_STAT_RETRY_COUNT else Fld.FLC_STAT_SOFT_COUNT)
    (s.setFamily (lunOf addr) (s.familyWindow addr) c.offsets).queueRefresh addr
  else
    let s := ((s.bump Fld.FLC_STAT_SOFT_FAIL_COUNT).raise Fld.FLC_ERR_READ_FAIL).flcInfo addr
    let x := s.block addr
    let s := s.setBlock addr { x with step3 := x.step3 + 1 }
    if 1 ≤ x.step3 then s.retire addr else s

/-- The block's read count rises, and at its limit it is queued for refresh (R287). -/
def State.countRead (s : State) (addr : Nat) : State :=
  let x := s.block addr
  let s := s.setBlock addr { x with reads := x.reads + 1 }
  if s.rd Fld.FLC_REFRESH_CFG_RD_LIMIT * 1000 ≤ x.reads + 1 then s.queueRefresh addr else s

/-- The eye margin is checked on the first read of a channel taken up (R277): below MARGIN_PS the channel is trained again before it
gets any more commands. -/
def State.marginCheck (s : State) (c ps : Nat) : State :=
  if s.flc.marginOk.mem c then s
  else
    let s := s.wr Fld.FLC_CH_STATUS_MARGIN_PS ps c
    if ps < s.rd Fld.FLC_IF_CFG_MARGIN_PS then
      (s.wr Fld.FLC_CH_STATUS_STATE flcInit c).emit (.train c (s.rd Fld.FLC_CH_STATUS_RATE c))
    else { s with flc := { s.flc with marginOk := s.flc.marginOk.insert c } }

/-- A channel can take a sense. -/
def State.chanServes (s : State) (c : Nat) : Bool :=
  s.flcRuns && s.drives c && s.rd Fld.FLC_CH_STATUS_STATE c == flcInService && !s.chanLooped c

/-- A sense completes and its codewords are decoded (R279, R280).  The LUN is ready then. -/
def State.pageRead (s : State) (addr ps : Nat) (cws : List CwRead) : State :=
  let c := addr % 128
  if !s.chanServes c then s
  else
    let s := match s.flc.luns.look (lunOf addr) with
      | some x => if x.foreign then s.lunDone addr else s
      | none => s
    let s := cws.foldl (fun s w => s.codeword addr w) (s.countRead addr)
    s.marginCheck c ps

/-- The chunk address of a media read's page. -/
def mediaAddr (chan lun page : Nat) : Nat := chan % 128 + 128 * (lun % 128) + 16384 * (page % 2 ^ 30)

/-- MEDIA_READ_REQUEST: the head that holds the group reads, decodes and returns the codeword (R14). -/
def State.mediaRequest (s : State) (chan lun page ps : Nat) (cws : List CwRead) : State :=
  if !s.chanServes (chan % 128) then s
  else
    let ok := cws.all (fun c => decide (s.readStep c ≤ 2))
    (s.pageRead (mediaAddr chan lun page) ps cws).isend 3 (.mediaData chan lun page ok)

/-- OPERATION_SUSPEND: a program or an erase is suspended for up to 4 reads and resumes, at most 8 times (R275). -/
def State.suspend (s : State) (l reads : Nat) (erase : Bool) : State :=
  let x := s.flc.luns.getD (lunOf l) { erasing := erase, suspended := 0, reads := 0, foreign := false }
  if 8 ≤ x.suspended || reads == 0 || !s.chanServes (l % 128) then s
  else { s with flc := { s.flc with luns := s.flc.luns.put (lunOf l) { x with suspended := x.suspended + 1, reads := min reads 4 } } }

/-! ## Media management -/

/-- ERASE_DONE: a block's erase ends (R285, R289).  A band all of whose erases have passed returns to free space (R322). -/
def State.eraseDone (s : State) (b : Nat) (ok : Bool) : State :=
  let b := blockAddr b
  let x := s.block b
  match s.bandOfBlock b with
  | none => s
  | some (bk, band) =>
    if band.st != .erasing || !s.drives (b % 128) || s.chanLooped (b % 128) then s
    else
      let s := s.lunDone b
      let m := (List.range band.members.length).find? (fun i => blockAddr (band.members.getD i 0) == b)
      let s := if ok then
          s.setBlock b { x with wear := x.wear + (if x.slc then 1 else 8), reads := 0, step3 := 0, refreshQueued := false, firstProg := 0 }
        else
          ((s.raise Fld.FLC_ERR_ERASE_FAIL).raise Fld.GCX_ERR_ERASE_FAIL).retire b
      let s := s.modBand bk (fun y => { y with eraseLeft := match m with
        | some i => y.eraseLeft.remove i
        | none => y.eraseLeft })
      match s.str.bands.look bk with
      | some y => if y.eraseLeft = [] then s.bandErased bk else s
      | none => s

/-- REFRESH_QUEUE: by the age of its oldest page, or by its read count (R287); reads that needed more than step 0 queue it as they
complete. -/
def State.refresh (s : State) (b : Nat) : State :=
  let x := s.block b
  if s.rd Fld.FLC_REFRESH_CFG_RD_LIMIT * 1000 ≤ x.reads then s.queueRefresh b
  else if x.firstProg = 0 then s
  else (s.advanceCt (Frac.int ((x.firstProg + s.rd Fld.FLC_REFRESH_CFG_RETENTION_D * 86400000000000 + 1 : Nat)))).queueRefresh b

/-- VALLEY_SEARCH: the offsets with the fewest corrected bits become the family's (R281). -/
def State.valley (s : State) (lun window : Nat) (offs : List Int) : State :=
  if s.chanServes (lun % 128) then s.setFamily lun window offs else s

/-- TRACKING_SWEEP: the sweep reaches each family, and the tables are saved in the metadata reserve (R281). -/
def State.trackSweep (s : State) (found : List Family) : State :=
  let s := found.foldl (fun s f => s.valley f.lun f.window f.offsets) s
  { s with flc := { s.flc with saved := s.flc.families } }

/-- WEAR_LEVEL_OFFER: the least-worn data block of a LUN is offered to GCX when the spread exceeds WL_DELTA, one at a time (R286). -/
def State.wearOffer (s : State) (lun : Nat) : State :=
  let good := s.flc.blocks.filter (fun e => lunOf e.1 == lun && !e.2.bad)
  let most := good.foldl (fun a e => max a e.2.wear) 0
  let data := good.filter (fun e => match s.bandOfBlock e.1 with
    | some (_, b) => b.st == .inUse
    | none => false)
  let least := data.foldl (fun (a : Option (Nat × Nat)) e =>
    match a with
    | none => some (e.1, e.2.wear)
    | some x => if e.2.wear < x.2 then some (e.1, e.2.wear) else a) none
  match least with
  | none => s
  | some (b, w) =>
    let busy := s.gcx.work.any (fun x => x.cls == 4 && (match s.str.bands.look x.band with
      | some y => y.members.any (fun m => lunOf m == lun)
      | none => false))
    if w + 8 * s.rd Fld.FLC_WEAR_CFG_WL_DELTA < most ∧ busy = false then
      match s.bandOfBlock b with
      | some (bk, _) => s.gcxWork 4 bk
      | none => s
    else s

/-! ## The commands -/

def execFlcEnable (pages : List (Nat × ParamPage)) (bads : List Nat) (s : State) : Res := ended (s.flcEnable pages bads)
def execChannelTraining (chan : Nat) (ok okLower : Bool) (marginPs : Nat) (s : State) : Res :=
  ended (s.chanTraining chan ok okLower marginPs)
def execGroupTakeUp (group : Nat) (busy : List Nat) (s : State) : Res := ended (s.groupTakeUp group busy)
def execBusyLunTimeout (lun : Nat) (s : State) : Res := ended (s.busyLun lun)
def execGroupLost (group : Nat) (s : State) : Res := ended (s.groupLost group)
def execMediaReadRequest (chan lun page marginPs : Nat) (cws : List CwRead) (s : State) : Res :=
  ended (s.mediaRequest chan lun page marginPs cws)
def execPageReadDone (addr marginPs : Nat) (cws : List CwRead) (s : State) : Res := ended (s.pageRead addr marginPs cws)
def execOperationSuspend (lun reads : Nat) (erase : Bool) (s : State) : Res := ended (s.suspend lun reads erase)
def execEraseDone (block : Nat) (ok : Bool) (s : State) : Res := ended (s.eraseDone block ok)
def execBlockRetire (block : Nat) (s : State) : Res := ended (s.retire block)
def execRefreshQueue (block : Nat) (s : State) : Res := ended (s.refresh block)
def execValleySearch (lun window : Nat) (offsets : List Int) (s : State) : Res := ended (s.valley lun window offsets)
def execTrackingSweep (found : List (Nat × Nat × List Int)) (s : State) : Res :=
  ended (s.trackSweep (found.map (fun f => ⟨f.1, f.2.1, f.2.2⟩)))
def execWearLevelOffer (lun : Nat) (s : State) : Res := ended (s.wearOffer lun)
def execMediaReadResponseReceive (chan lun page : Nat) (s : State) : Res := ended (s.mediaBack (chan, lun, page))

end Sys2Proof.Machine
end

