-- ==== Sys2Proof/Machine/Nvf.lean ====
section
/-!
DEFINITION. NVF: the NVMe over Fabrics target (R114 to R131, R345).
-/
namespace Sys2Proof.Machine

open Sys2Proof

/-! ## Queues -/

/-- A transport can carry a new queue: a connection set up by an ICReq, or a queue pair in RTS, with no queue on it. -/
def State.transFree (s : State) (t : QTrans) : Bool :=
  (s.queuesOn t == []) &&
    (match t with
     | .tcp c => match s.net.tcp.look c with
       | some x => x.ready && x.st == .established
       | none => false
     | .rdma q => match s.rdm.qps.look q with
       | some x => x.st == .rts
       | none => false)

/-- The Connect status Controller Busy, 81h (R116). -/
def State.connectBusy (s : State) (h cid : Nat) : State :=
  (s.raise Fld.NVF_ERR_CONN_REFUSED).emit (.nvmeCpl h cid STS_OK 1 0x81 0 false)

/-- A new queue with the next free handle. -/
def State.addQueue (s : State) (a qid : Nat) (t : QTrans) (size : Nat) : State :=
  s.setQueue s.nvf.queues.fresh { assoc := a, qid := qid, trans := t, qsize := size, win := [], orderNext := 0 }

/-- Entries a Connect may ask for: 16 to 2^QSIZE_LOG2 (Table 05.3). -/
def State.queueSizeOk (s : State) (n : Nat) : Bool := decide (16 ≤ n ∧ n ≤ 2 ^ s.rd Fld.NVF_LIMITS_QSIZE_LOG2)

/-- The end of a keep-alive period that starts now. -/
def State.kaFrom (s : State) (kato : Nat) : Option Nat := if kato = 0 then none else some (s.now + kato * 1000 * unitsPerUs)

/-- NVME_CONNECT: an admin queue, which makes an association of a host, classified to a tenant, with its Keep Alive Timeout; or a
further I/O queue of an association (R114, R116, R160). -/
def State.connect (s : State) (t : QTrans) (assoc : Option Nat) (host tenant qsize kato cid : Nat) : State :=
  let s := s.boundary Blk.NVF
  let h := s.nvf.queues.fresh
  if !s.rdb Fld.NVF_CTRL_ENABLE || !s.transFree t then s.connectBusy h cid
  else if !s.queueSizeOk qsize then (s.raise Fld.NVF_ERR_CONN_REFUSED).emit (.nvmeCpl h cid STS_OK 1 0x82 0 true)
  else
    match assoc with
    | none =>
      if s.rd Fld.NVF_LIMITS_MAX_ASSOC ≤ s.nvf.assocs.length then s.connectBusy h cid
      else
        let a := s.nvf.assocs.fresh
        let s := s.setAssoc a { host := host, tenant := tenant, adminQ := h, kato := kato, kaEnd := s.kaFrom kato, aers := [], cc := 0,
                                features := [], anaNotice := false }
        (s.addQueue a 0 t qsize).nvmeCpl h cid STS_OK 0
    | some a =>
      match s.assoc a with
      | none => s.connectBusy h cid
      | some x =>
        let ioqs := (s.nvf.queues.filter (fun e => e.2.assoc == a && e.2.qid != 0)).length
        if s.rd Fld.NVF_LIMITS_MAX_IOQ ≤ ioqs then s.connectBusy h cid
        else ((s.addQueue a (ioqs + 1) t qsize).polBind x.tenant (polNvme h)).nvmeCpl h cid STS_OK 0

/-- NVME_DISCONNECT: the queue ends; the admin queue's end is the association's. -/
def State.disconnect (s : State) (q cid : Nat) : State :=
  if (s.queue q).isSome then (s.nvmeCpl q cid STS_OK 0).queueLost q else s

/-! ## Admin and Fabrics commands -/

/-- An admin command of an association's admin queue: NVF's boundary, then the command; on another queue its opcode is outside
Table 05.3 (R115, R133). -/
def State.adminCmd (s : State) (q cid : Nat) (run : State → Nat → NvAssoc → State) : State :=
  match s.queue q with
  | none => s
  | some x =>
    let s := s.boundary Blk.NVF
    match s.assoc x.assoc with
    | none => s
    | some a => if x.qid = 0 then run s x.assoc a else s.nvmeCpl q cid STS_INVALID_OPCODE STS_INVALID_OPCODE

/-- A controller property: CC as set, CSTS.RDY following CC.EN, CAP.MQES; other bits are open. -/
def State.property (s : State) (a : NvAssoc) (off : Nat) : Nat :=
  if off = 0x14 then a.cc
  else if off = 0x1C then a.cc % 2 + (if bitsOf a.cc 14 2 = 0 then 0 else 8)
  else if off = 0x00 then putBits (Config.nvmeProperty off) 0 16 (2 ^ s.rd Fld.NVF_LIMITS_QSIZE_LOG2 - 1)
  else Config.nvmeProperty off

/-- NVME_PROPERTY_GET. -/
def State.propertyGet (s : State) (q cid off : Nat) : State :=
  s.adminCmd q cid (fun s _ a => (s.emit (.nvmeData q cid [s.property a off])).nvmeCpl q cid STS_OK (s.property a off % 2 ^ 32))

/-- NVME_PROPERTY_SET: Controller Configuration is the one writable property. -/
def State.propertySet (s : State) (q cid off v : Nat) : State :=
  s.adminCmd q cid (fun s n a =>
    if off = 0x14 then (s.setAssoc n { a with cc := v % 2 ^ 32 }).nvmeCpl q cid STS_OK 0
    else s.nvmeCpl q cid STS_BAD_DESCRIPTOR STS_BAD_DESCRIPTOR)

/-- Identify data: what the chapter fixes (Table 05.3, R118, R125), over data it leaves open. -/
def State.identifyData (s : State) (cns nsid : Nat) : Nat :=
  let v := Config.nvmeIdentify cns nsid % 2 ^ 32768
  if cns = 1 then
    let v := putBits v (8 * 77) 8 10
    let v := putBits v (8 * 342) 8 (s.rd Fld.NVF_ANA_CFG_ANATT_S)
    putBits v (8 * 768) 2048 (s.rd Fld.NVF_SUBNQN_NQN)
  else if cns = 0 then
    match s.adm.nss.look nsid with
    | some n =>
      let v := putBits v 0 64 n.blocks
      let v := putBits v (8 * 33) 3 1
      putBits v (8 * 92) 32 n.oset
    | none => 0
  else v

/-- NVME_IDENTIFY. -/
def State.identify (s : State) (q cid cns nsid : Nat) : State :=
  s.adminCmd q cid (fun s _ _ => (s.emit (.nvmeData q cid [s.identifyData cns nsid])).nvmeCpl q cid STS_OK 0)

/-- Bytes of log page C0h for a host and namespace (Table 05.5). -/
def deferredPage (nsid : Nat) (es : List Deferred) : Nat :=
  let entry (e : Deferred) : Nat :=
    e.cause + b2n e.overflow * 2 ^ 16 + e.nsid * 2 ^ 32 + e.slba * 2 ^ 64 + e.nlb * 2 ^ 128 + e.bucket * 2 ^ 160 + e.time * 2 ^ 192 +
      natLE (bytesBE e.key e.keyLen) * 2 ^ 256 + e.keyLen * 2 ^ 384
  es.length + nsid * 2 ^ 32 + ((es.zipIdx).map (fun p => entry p.1 * 2 ^ (512 * (p.2 + 1)))).sum

/-- The ANA state code of a set's group (Table 05.6). -/
def anaLogCode (st : Nat) : Nat :=
  if st = setOwned then 1 else if st = setPartner then 2 else if st = setMoving then 0xF else 3

/-- Log page 0Ch: the groups with their states and namespaces (R125). -/
def State.anaPage (s : State) : Nat :=
  let gs := s.own.sets.map (·.1)
  let desc (o : Nat) : List Nat :=
    let ns := s.nsOfSet o
    bytesLE o 4 ++ bytesLE ns.length 4 ++ bytesLE (Config.nvmeLog 0x0C o) 8 ++ [anaLogCode (s.setState o)] ++ List.replicate 15 0 ++
      ns.flatMap (fun n => bytesLE n 4)
  natLE (bytesLE (Config.nvmeLog 0x0C 0) 8 ++ bytesLE gs.length 2 ++ List.replicate 6 0 ++ gs.flatMap desc)

/-- NVME_GET_LOG_PAGE: 0Ch, C0h (R123 to R125), or another page; `rae`: Retain Asynchronous Event. -/
def State.getLogPage (s : State) (q cid lid nsid : Nat) (rae : Bool) : State :=
  s.adminCmd q cid (fun s _ a =>
    let data := if lid = 0x0C then s.anaPage
      else if lid = 0xC0 then deferredPage nsid (s.deferredOf (.nqn a.host) nsid)
      else Config.nvmeLog lid nsid
    let hs := s.nvf.hosts.getD a.host ⟨false, false⟩
    let s := if lid = 0xC0 ∧ !rae then { s with nvf := { s.nvf with hosts := s.nvf.hosts.put a.host { hs with posted := false } } } else s
    (s.emit (.nvmeData q cid [data])).nvmeCpl q cid STS_OK 0)

/-- NVME_SET_FEATURES: the value is kept; the Keep Alive Timer (0Fh) takes its time-out, ms. -/
def State.setFeatures (s : State) (q cid fid v : Nat) : State :=
  s.adminCmd q cid (fun s n a =>
    let a := { a with features := a.features.put fid v }
    let a := if fid = 0x0F then { a with kato := v, kaEnd := s.kaFrom v } else a
    (s.setAssoc n a).nvmeCpl q cid STS_OK (if fid = 0x07 then (s.rd Fld.NVF_LIMITS_MAX_IOQ - 1) * 65537 else 0))

/-- NVME_GET_FEATURES. -/
def State.getFeatures (s : State) (q cid fid : Nat) : State :=
  s.adminCmd q cid (fun s _ a =>
    let v := if fid = 0x0F then a.kato
      else if fid = 0x07 then (s.rd Fld.NVF_LIMITS_MAX_IOQ - 1) * 65537
      else a.features.getD fid (Config.nvmeFeature fid)
    s.nvmeCpl q cid STS_OK v)

/-- NVME_ASYNC_EVENT_REQUEST: held, unless an event waits for it (R123, R125). -/
def State.asyncEvent (s : State) (q cid : Nat) : State :=
  s.adminCmd q cid (fun s n a =>
    let s := s.setAssoc n { a with aers := a.aers ++ [cid] }
    let hs := s.nvf.hosts.getD a.host ⟨false, false⟩
    if hs.pendingEvent && !hs.posted then
      { (s.aerPost n 7 0 0xC0).1 with nvf := { (s.aerPost n 7 0 0xC0).1.nvf with hosts := s.nvf.hosts.put a.host ⟨false, true⟩ } }
    else if a.anaNotice then
      let r := s.aerPost n 2 3 0x0C
      match r.1.assoc n with
      | some y => r.1.setAssoc n { y with anaNotice := false }
      | none => r.1
    else s)

/-- NVME_KEEP_ALIVE: the timer restarts (R117). -/
def State.keepAlive (s : State) (q cid : Nat) : State :=
  s.adminCmd q cid (fun s n a => (s.setAssoc n { a with kaEnd := s.kaFrom a.kato }).nvmeCpl q cid STS_OK 0)

/-- NVME_ABORT: completes with the command not aborted (R128). -/
def State.nvmeAbort (s : State) (q cid : Nat) : State := s.adminCmd q cid (fun s _ _ => s.nvmeCpl q cid STS_OK 1)

/-- KEEP_ALIVE_EXPIRY: the association ends, its replay windows with it (R117). -/
def State.katoExpiry (s : State) (a : Nat) : State :=
  match s.assoc a with
  | some x =>
    match x.kaEnd with
    | some t => ((s.advance t).raise Fld.NVF_ERR_KATO_EXPIRED).assocEnd a
    | none => s
  | none => s

/-! ## I/O commands -/

/-- The window of R45 takes up a command, or answers a resend (R41, R42, R44): the state, and whether the command is to be executed. -/
def State.winTake (s : State) (q : Nat) (x : NvQueue) (cid dw : Nat) (changes keeps : Bool) : State × Bool :=
  let fresh : NvWin := { cid := cid, dwords := dw, st := .inProgress, order := 0, follow := 0, replayed := false, keepsDw0 := keeps }
  match x.win.find? (fun w => w.cid == cid) with
  | some w =>
    let put (n : NvWin) : State := s.setQueue q { x with win := x.win.map (fun v => if v.cid = cid then n else v) }
    if w.dwords = dw then
      match w.st with
      | .inProgress => (put { w with follow := w.follow + 1 }, false)
      | .completed st =>
        if changes then (s.nvmeCpl q cid (replayStatus st) (replayStatus st), false)
        else (put { fresh with replayed := true }, true)
    else if w.st = .inProgress then (s.emit (.nvmeCpl q cid STS_BAD_DESCRIPTOR 0 0x03 STS_BAD_DESCRIPTOR true), false)
    else (put fresh, true)
  | none =>
    let win := if x.win.length < 1024 then x.win
      else
        let done := x.win.filter (fun w => w.st != SlotSt.inProgress)
        match done.foldl (fun (a : Option NvWin) w => match a with
            | some b => if w.order < b.order then some w else some b
            | none => some w) none with
        | some old => x.win.filter (fun w => w.cid != old.cid)
        | none => x.win
    (s.setQueue q { x with win := win ++ [fresh] }, true)

/-- An I/O command (R45, R115, R131): the window, the namespace attached to the host, its command set, the tenant's quota; then the
command. -/
def State.ioCmd (s : State) (q cid dw nsid : Nat) (kv changes keeps : Bool) (run : State → NvAssoc → Ns → State) : State :=
  match s.queue q with
  | none => s
  | some x =>
    let s := s.boundary Blk.NVF
    match s.assoc x.assoc with
    | none => s
    | some a =>
      if x.qid = 0 then s.nvmeCpl q cid STS_INVALID_OPCODE STS_INVALID_OPCODE
      else
        let w := s.winTake q x cid dw changes keeps
        if !w.2 then w.1
        else
          match s.adm.nss.look nsid with
          | none => w.1.nvmeEndFree q cid STS_INVALID_NAMESPACE
          | some n =>
            if n.tenant != a.tenant then w.1.nvmeEndFree q cid STS_INVALID_NAMESPACE
            else if !s.hasQuota a.tenant then w.1.nvmeEndFree q cid STS_ACCESS_DENIED
            else if n.kv != kv then w.1.nvmeEndFree q cid STS_INVALID_OPCODE
            else run w.1 a n

/-- Blocks of the largest transfer, MDTS 10 (Table 05.3). -/
abbrev mdtsBlocks : Nat := 1024

/-- A write whose data comes with its capsule (`icd` bytes of it, `data`) and in later transfers (R119): it starts, and what the
capsule does not hold is to be granted and transferred. -/
def State.nvmeWriteStart (s : State) (q cid tenant bytes icd data : Nat) (r : WriteReq) : State :=
  let o := s.nextOp
  let have_ := min icd bytes
  let acc := data % 2 ^ (8 * have_)
  let body := if r.keyLen = 0 then blocksOf acc r.blocks else [acc]
  let s := s.startWrite (.nvme q cid) tenant { r with data := if have_ = bytes then body else [] }
  if have_ = bytes then s
  else
    let t : NvXfer := { queue := q, cid := cid, bytes := bytes, requested := have_, received := have_, r2t := [], op := o, acc := acc }
    { s with nvf := { s.nvf with xfers := s.nvf.xfers.put o t } }

/-- NVME_READ. -/
def State.nvmeRead (s : State) (q cid dw nsid lba blocks : Nat) (xferOk : Bool) : State :=
  s.ioCmd q cid dw nsid false false false (fun s _ n =>
    match rangeStatus n lba blocks mdtsBlocks with
    | some st => s.nvmeEndFree q cid st
    | none => s.readCmd (.nvme q cid) nsid (.blocks lba blocks) xferOk false)

/-- NVME_WRITE. -/
def State.nvmeWrite (s : State) (q cid dw nsid lba blocks : Nat) (fua : Bool) (icd data : Nat) : State :=
  s.ioCmd q cid dw nsid false true false (fun s a n =>
    match rangeStatus n lba blocks mdtsBlocks with
    | some st => s.nvmeEndFree q cid st
    | none => s.nvmeWriteStart q cid a.tenant (4096 * blocks) icd data (blockReq .block nsid lba blocks [] fua))

/-- NVME_FLUSH (R32): NSID 0xFFFF_FFFF names no one namespace. -/
def State.nvmeFlush (s : State) (q cid dw nsid : Nat) : State :=
  if nsid = 0xFFFFFFFF then
    match s.queue q with
    | none => s
    | some x =>
      let w := (s.boundary Blk.NVF).winTake q x cid dw false false
      if w.2 then w.1.nvmeEnd q cid STS_OK else w.1
  else s.ioCmd q cid dw nsid false false false (fun s _ _ => s.readCmd (.nvme q cid) nsid (.blocks 0 0) true false)

/-- NVME_WRITE_ZEROES (R118). -/
def State.nvmeWriteZeroes (s : State) (q cid dw nsid lba blocks : Nat) : State :=
  s.ioCmd q cid dw nsid false true false (fun s a n =>
    match rangeStatus n lba blocks 65536 with
    | some st => s.nvmeEndFree q cid st
    | none => s.startWrite (.nvme q cid) a.tenant (blockReq .zeroes nsid lba blocks [] false))

/-- NVME_DSM_DEALLOCATE (R118): one write per range; without the deallocate attribute, or with no range, it completes at once. -/
def State.nvmeDsm (s : State) (q cid dw nsid : Nat) (deallocate : Bool) (ranges : List (Nat × Nat)) : State :=
  s.ioCmd q cid dw nsid false true false (fun s a n =>
    match ranges.findSome? (fun r => rangeStatus n r.1 r.2 (2 ^ 32)) with
    | some st => s.nvmeEndFree q cid st
    | none =>
      if 256 < ranges.length then s.nvmeEndFree q cid STS_BAD_DESCRIPTOR
      else if !deallocate || ranges == [] then s.nvmeEnd q cid STS_OK
      else ranges.foldl (fun s r => s.startWrite (.nvme q cid) a.tenant (blockReq .dealloc nsid r.1 r.2 [] false)) s)

/-- The status a key of an NVMe KV command gives: 1 to 16 bytes. -/
def keyStatus (keyLen : Nat) : Option Nat := if keyLen = 0 ∨ 16 < keyLen then some STS_KEY_SIZE else none

/-- NVME_KV_STORE: PUT with Must Exist as IF_PRESENT and Must Not Exist as IF_ABSENT (R345). -/
def State.kvStore (s : State) (q cid dw nsid key keyLen valueLen : Nat) (mustExist mustNot append : Bool) (icd data : Nat) : State :=
  s.ioCmd q cid dw nsid true true false (fun s a _ =>
    match keyStatus keyLen with
    | some st => s.nvmeEndFree q cid st
    | none =>
      if 4194304 < valueLen then s.nvmeEndFree q cid STS_VALUE_SIZE
      else if append || (mustExist && mustNot) then s.nvmeEndFree q cid STS_BAD_DESCRIPTOR
      else
        let r := keyReq .kvPut nsid key keyLen valueLen []
        (s.kvHeat nsid key keyLen).nvmeWriteStart q cid a.tenant valueLen icd data { r with ifPresent := mustExist, ifAbsent := mustNot })

/-- A key-value read. -/
def State.kvReadCmd (s : State) (q cid dw nsid keyLen : Nat) (r : ReadOf) (xferOk : Bool) : State :=
  s.ioCmd q cid dw nsid true false true (fun s _ _ =>
    match keyStatus keyLen with
    | some st => s.nvmeEndFree q cid st
    | none =>
      let s := match r with
        | .get key keyLen _ => s.kvHeat nsid key keyLen
        | .exist key keyLen => s.kvHeat nsid key keyLen
        | _ => s
      s.readCmd (.nvme q cid) nsid r xferOk false)

/-- NVME_KV_DELETE. -/
def State.kvDeleteCmd (s : State) (q cid dw nsid key keyLen : Nat) : State :=
  s.ioCmd q cid dw nsid true true false (fun s a _ =>
    match keyStatus keyLen with
    | some st => s.nvmeEndFree q cid st
    | none => (s.kvHeat nsid key keyLen).startWrite (.nvme q cid) a.tenant (keyReq .kvDelete nsid key keyLen 0 []))

/-- NVME_KV_LIST (R345): from a key on, or from the start with KEY_LEN 0. -/
def State.kvListCmd (s : State) (q cid dw nsid key keyLen len : Nat) (xferOk : Bool) : State :=
  s.ioCmd q cid dw nsid true false true (fun s _ _ =>
    if 16 < keyLen then s.nvmeEndFree q cid STS_KEY_SIZE
    else s.readCmd (.nvme q cid) nsid (.list { bucket := 0, key := key, keyLen := keyLen, excl := false, all := true, len := len })
      xferOk false)

/-- NVME_INVALID_OPCODE (R115). -/
def State.invalidOpcode (s : State) (q cid : Nat) : State :=
  if (s.queue q).isSome then (s.boundary Blk.NVF).nvmeCpl q cid STS_INVALID_OPCODE STS_INVALID_OPCODE else s

/-! ## Transfers -/

/-- NVME_TCP_ICREQ: digests both sides offer, and the transfer-ready PDUs the host takes per command (R120). -/
def State.icReq (s : State) (c maxR2t : Nat) (hdgst ddgst : Bool) : State :=
  match s.net.tcp.look c with
  | some x =>
    if x.st != .established then s
    else
      let h := hdgst && s.rdb Fld.NVF_TCP_OPT_HDGST
      let d := ddgst && s.rdb Fld.NVF_TCP_OPT_DDGST
      (s.setTcp c { x with maxR2t := maxR2t, hdgst := h, ddgst := d, ready := true }).emit (.icResp c h d)
  | none => s

/-- Arrival order of a transfer's write; 0 while its ownership is not confirmed. -/
def State.xferArrival (s : State) (t : NvXfer) : Nat :=
  match s.ops.look t.op with
  | some o => o.arrival
  | none => 0

/-- The tenant of a transfer's write. -/
def State.xferTenant (s : State) (t : NvXfer) : Nat :=
  match s.ops.look t.op with
  | some o => o.tenant
  | none => 0

/-- Buffers are granted in the order of ownership confirmations within a tenant (R120). -/
def State.xferTurn (s : State) (t : NvXfer) : Bool :=
  let a := s.xferArrival t
  a != 0 && s.nvf.xfers.all (fun e =>
    let b := s.xferArrival e.2
    !(decide (e.2.requested < e.2.bytes) && s.xferTenant e.2 == s.xferTenant t && b != 0 && decide (b < a)))

/-- Transfer-ready PDUs a queue's host takes per command, and the longest range of one (R120); an RDMA READ has neither limit. -/
def State.xferLimits (s : State) (q : Nat) : Option (Nat × Nat) :=
  match s.queue q with
  | some x =>
    match x.trans with
    | .tcp c => (s.net.tcp.look c).map (fun y => (y.maxR2t, s.rd Fld.NVF_TCP_OPT_MAXH2C_KIB * 1024))
    | .rdma _ => some (2 ^ 32, 2 ^ 32)
  | none => none

/-- The transfer of a command. -/
def State.xferOf (s : State) (q cid : Nat) : Option NvXfer :=
  (s.nvf.xfers.first? (fun _ t => t.queue == q && t.cid == cid)).map (·.2)

/-- Replace a transfer. -/
def State.setXfer (s : State) (t : NvXfer) : State := { s with nvf := { s.nvf with xfers := s.nvf.xfers.put t.op t } }

/-- BUFFER_GRANT_TRANSFER: POL has granted the buffers of this many bytes, the next of a command; its transfer-ready PDU or RDMA
READ leaves (R119, R120). -/
def State.grantTransfer (s : State) (q cid bytes : Nat) : State :=
  match s.xferOf q cid, s.xferLimits q with
  | some t, some l =>
    let n := min bytes (min l.2 (t.bytes - t.requested))
    if n = 0 ∨ l.1 ≤ t.r2t.length ∨ !s.xferTurn t then s
    else
      let s := s.setXfer { t with requested := t.requested + n, r2t := t.r2t ++ [(t.requested, n)] }
      (s.emit (.grantData q cid t.requested n (s.polOwnerFor (s.xferTenant t) (polNvme q)))).queueSend q n
  | _, _ => s

/-- Data of a range lands in staging buffers; with the last of it the write has its data. -/
def State.dataLands (s : State) (t : NvXfer) (off n data : Nat) : State :=
  let r2t := (t.r2t.map (fun (r : Nat × Nat) => if r.1 = off then (r.1 + n, r.2 - n) else r)).filter (fun r => r.2 != 0)
  let t := { t with acc := putBits t.acc (8 * off) (8 * n) data, received := t.received + n, r2t := r2t }
  if t.received < t.bytes then s.setXfer t
  else
    let s := { s with nvf := { s.nvf with xfers := s.nvf.xfers.del t.op } }
    s.modOp t.op (fun (o : WriteOp) => { o with data := if o.keyLen = 0 then blocksOf t.acc o.blocks else [t.acc] })

/-- A connection ends with a fatal transport error: the command it carried is not accepted (R120). -/
def State.fatalTransport (s : State) (q : Nat) (f : Field) : State :=
  let s := s.raise f
  match s.queue q with
  | some x =>
    match x.trans with
    | .tcp c => (s.emit (.termReq c)).tcpDrop c
    | .rdma _ => s.queueLost q
  | none => s

/-- H2C_DATA_RECEIVE: data of a command at an offset; its digests check or not (R120). -/
def State.h2cData (s : State) (q cid off bytes data : Nat) (digestOk : Bool) : State :=
  if (s.queue q).isNone then s
  else if !digestOk then s.fatalTransport q Fld.NVF_ERR_DIGEST
  else
    match s.xferOf q cid with
    | none => s.fatalTransport q Fld.NVF_ERR_UNSOLICITED
    | some t =>
      match t.r2t.find? (fun r => r.1 == off && decide (bytes ≤ r.2)) with
      | none => s.fatalTransport q Fld.NVF_ERR_UNSOLICITED
      | some _ => if bytes = 0 then s else s.dataLands t off bytes data

/-- WRITE_DATA_READ_DONE: the oldest outstanding RDMA READ of a command completes, or fails and the write with it (R119, R120). -/
def State.writeDataRead (s : State) (q cid : Nat) (ok : Bool) (data : Nat) : State :=
  match s.xferOf q cid with
  | none => s
  | some t =>
    match t.r2t with
    | [] => s
    | r :: _ =>
      if ok then s.dataLands t r.1 r.2 data
      else { s with nvf := { s.nvf with xfers := s.nvf.xfers.del t.op } }.refuseOp t.op STS_HOST_XFER_FAIL

/-! ## Commands -/

def execNvmeConnect (trans : QTrans) (assoc : Option Nat) (host tenant qsize kato cid : Nat) (s : State) : Res :=
  ended (s.connect trans assoc host tenant qsize kato cid)
def execNvmeDisconnect (q cid : Nat) (s : State) : Res := ended (s.disconnect q cid)
def execNvmePropertyGet (q cid off : Nat) (s : State) : Res := ended (s.propertyGet q cid off)
def execNvmePropertySet (q cid off value : Nat) (s : State) : Res := ended (s.propertySet q cid off value)
def execNvmeIdentify (q cid cns nsid : Nat) (s : State) : Res := ended (s.identify q cid cns nsid)
def execNvmeGetLogPage (q cid lid nsid : Nat) (rae : Bool) (s : State) : Res := ended (s.getLogPage q cid lid nsid rae)
def execNvmeSetFeatures (q cid fid value : Nat) (s : State) : Res := ended (s.setFeatures q cid fid value)
def execNvmeGetFeatures (q cid fid : Nat) (s : State) : Res := ended (s.getFeatures q cid fid)
def execNvmeAsyncEventRequest (q cid : Nat) (s : State) : Res := ended (s.asyncEvent q cid)
def execNvmeKeepAlive (q cid : Nat) (s : State) : Res := ended (s.keepAlive q cid)
def execNvmeAbort (q cid : Nat) (s : State) : Res := ended (s.nvmeAbort q cid)
def execKeepAliveExpiry (assoc : Nat) (s : State) : Res := ended (s.katoExpiry assoc)
def execNvmeRead (q cid dw nsid lba blocks : Nat) (xferOk : Bool) (s : State) : Res := ended (s.nvmeRead q cid dw nsid lba blocks xferOk)
def execNvmeWrite (q cid dw nsid lba blocks : Nat) (fua : Bool) (icd data : Nat) (s : State) : Res :=
  ended (s.nvmeWrite q cid dw nsid lba blocks fua icd data)
def execNvmeFlush (q cid dw nsid : Nat) (s : State) : Res := ended (s.nvmeFlush q cid dw nsid)
def execNvmeWriteZeroes (q cid dw nsid lba blocks : Nat) (s : State) : Res := ended (s.nvmeWriteZeroes q cid dw nsid lba blocks)
def execNvmeDsmDeallocate (q cid dw nsid : Nat) (deallocate : Bool) (ranges : List (Nat × Nat)) (s : State) : Res :=
  ended (s.nvmeDsm q cid dw nsid deallocate ranges)
def execNvmeKvStore (q cid dw nsid key keyLen valueLen : Nat) (mustExist mustNot append : Bool) (icd data : Nat) (s : State) : Res :=
  ended (s.kvStore q cid dw nsid key keyLen valueLen mustExist mustNot append icd data)
def execNvmeKvRetrieve (q cid dw nsid key keyLen len : Nat) (xferOk : Bool) (s : State) : Res :=
  ended (s.kvReadCmd q cid dw nsid keyLen (.get key keyLen len) xferOk)
def execNvmeKvDelete (q cid dw nsid key keyLen : Nat) (s : State) : Res := ended (s.kvDeleteCmd q cid dw nsid key keyLen)
def execNvmeKvExist (q cid dw nsid key keyLen : Nat) (s : State) : Res :=
  ended (s.kvReadCmd q cid dw nsid keyLen (.exist key keyLen) true)
def execNvmeKvList (q cid dw nsid key keyLen len : Nat) (xferOk : Bool) (s : State) : Res :=
  ended (s.kvListCmd q cid dw nsid key keyLen len xferOk)
def execNvmeInvalidOpcode (q cid : Nat) (s : State) : Res := ended (s.invalidOpcode q cid)
def execNvmeTcpIcreq (conn maxR2t : Nat) (hdgst ddgst : Bool) (s : State) : Res := ended (s.icReq conn maxR2t hdgst ddgst)
def execBufferGrantTransfer (q cid bytes : Nat) (s : State) : Res := ended (s.grantTransfer q cid bytes)
def execH2cDataReceive (q cid off bytes data : Nat) (digestOk : Bool) (s : State) : Res := ended (s.h2cData q cid off bytes data digestOk)
def execWriteDataReadDone (q cid : Nat) (ok : Bool) (data : Nat) (s : State) : Res := ended (s.writeDataRead q cid ok data)
def execForwardedCompletionReceive (token : Nat) (a : Answer) (s : State) : Res := ended (s.forwardAnswer token a)
def execAnaStateChange (s : State) : Res := ended s.anaNotices

end Sys2Proof.Machine
end

