-- ==== Sys2Proof/Machine/Ddp.lean ====
section
/-!
DEFINITION. DDP: index messages between the heads, references, deferred deduplication (R199 to R211), and a chunk whose CRC fails
(R218).
-/
namespace Sys2Proof.Machine

open Sys2Proof

/-! ## Index messages -/

/-- INDEX_MESSAGE: the partner asks for an entry of this head's half; under VERIFY it asks only whether one is there (orders 3 to 9
of Table 09.2). -/
def State.indexMessage (s : State) (fp domain : Nat) (reserve : Bool) : State :=
  if !s.ownsHalf (s.idxPage fp) || !s.linkUp then s
  else if 65536 ≤ s.pins then (s.raise Fld.DDP_ERR_PIN_FULL).isend 2 (.indexAnswer fp domain .plain)
  else if !reserve && s.idxSeen fp domain then s.isend 2 (.indexAnswer fp domain .deferred)
  else
    let r := s.idxLookup fp domain
    r.1.isend 2 (.indexAnswer fp domain r.2)

/-- Count an outcome that the partner's half gave. -/
def State.countOut (s : State) (out : ChunkOut) : State :=
  match out with
  | .matched _ _ => s.bump Fld.DDP_STAT_INLINE_COUNT
  | _ => s.bump Fld.DDP_STAT_NEW_COUNT

/-- The first open lookup of a write for a fingerprint and domain. -/
def State.openLookup (s : State) (x : WriteOp) (d : Destage) (fp domain : Nat) : Option Nat :=
  let ps := x.parts
  (List.range d.outs.length).find? (fun i =>
    d.outs.getD i (some .plain) == none && (s.nsOf x).domain == domain &&
      (match ps[i]? with
       | some p => fingerprint (bytesLE p.data p.len) == fp
       | none => false))

/-- Open lookups of a write take an outcome, and its reduction goes on when all are decided. -/
def State.decideLookups (s : State) (o : Nat) (d : Destage) (outs : List (Option ChunkOut)) : State :=
  ({ s with map := { s.map with destages := s.map.destages.put o { d with outs := outs } } }).reduceNext o

/-- INDEX_QUERY_TIMEOUT: INLINE_NS after a write's queries the unanswered ones count as a page that is not cached (R203). -/
def State.indexTimeout (s : State) (o : Nat) : State :=
  match s.map.destages.look o with
  | none => s
  | some d =>
    if d.decided then s
    else
      let s := s.advance (d.since + s.rd Fld.DDP_CFG_INLINE_NS * unitsPerNs)
      let n := (d.outs.filter (fun x => x.isNone)).length
      (s.bump Fld.DDP_STAT_NEW_COUNT n).decideLookups o d (d.outs.map (fun x => some (x.getD .deferred)))

/-- A pin on an entry of either half is released: here, or by a message to the owner of the half (R204). -/
def State.cancelPin (s : State) (h : Nat) : State :=
  if s.ownsHalf (h / 512) then s.unpin h else s.isend 2 (.pinRelease h)

/-- PIN_RELEASE. -/
def State.pinRelease (s : State) (h : Nat) : State :=
  if s.ownsHalf (h / 512) then
    match s.ddp.idx.look h with
    | some e => if e.pins = 0 then s else s.unpin h
    | none => s
  else s

/-! ## References -/

/-- The reference entries of a record's deltas that concern this head's half. -/
def State.refsOf (s : State) (ds : List Delta) : List Delta :=
  ds.filter (fun d => (d.kind == 3 || d.kind == 4) && s.ownsHalf (d.laddr / 512))

/-- The map-delta entries of an own record. -/
def RecBody.deltas (b : RecBody) : List Delta :=
  match b with
  | .intent _ _ ds => ds
  | .mapDelta ds => ds
  | _ => []

/-- The map-delta entries of a record of the partner. -/
def MirDeltas (b : MirBody) : List Delta :=
  match b with
  | .intent _ _ ds => ds
  | .mapDelta ds => ds
  | _ => []

/-- A writer's records with their deltas, those persistent in both places or in the mirror, by original JSEQ (R206). -/
def State.refRecords (s : State) (mirror : Bool) : List (Nat × List Delta) :=
  if mirror then (s.mirrorLog.map (fun m => (m.orig, MirDeltas m.body)))
  else (s.pjm.recs.filter (fun e => s.recPersistent e.2)).map (fun e => (e.2.orig, e.2.body.deltas))

/-- The side whose APPLIED field a writer has. -/
def State.writerSide (s : State) (mirror : Bool) : Side := if mirror then s.aon.side.other else s.aon.side

/-- APPLIED of a page for a side. -/
def State.appliedOf (s : State) (page : Nat) (d : Side) : Nat :=
  let a := s.ddp.applied.getD page (0, 0)
  match d with
  | .a => a.1
  | .b => a.2

/-- Set APPLIED of a page for a side. -/
def State.setApplied (s : State) (page : Nat) (d : Side) (j : Nat) : State :=
  let a := s.ddp.applied.getD page (0, 0)
  let a := match d with
    | .a => (j, a.2)
    | .b => (a.1, j)
  { s with ddp := { s.ddp with applied := s.ddp.applied.put page a } }

/-- Apply one reference entry: +1, which ends the requester's pin and at replay creates the entry from the chunk's header, or −1,
which makes an entry without references or pins DYING (R204, R206, R207). -/
def State.applyRef (s : State) (d : Delta) : State :=
  let h := d.laddr
  if d.kind = 3 then
    match s.ddp.idx.look h with
    | some e =>
      let n := e.refcnt + 1
      let s := if 0xFFFFFF00 ≤ n then s.raise Fld.DDP_ERR_REF_SAT else s
      let e := { e with refcnt := n, pins := e.pins - 1, addr := if e.addr = 0 then d.addr else e.addr }
      { s with ddp := { s.ddp with idx := s.ddp.idx.put h e } }
    | none =>
      match s.map.chunks.look d.addr with
      | some c =>
        let e : IdxEntry := { fp := c.fp, domain := c.domain, addr := d.addr, refcnt := 1, dying := false, pins := 0 }
        { s with ddp := { s.ddp with idx := s.ddp.idx.put h e } }
      | none =>
        let e : IdxEntry := { fp := Config.flashChunk d.addr % 2 ^ 192, domain := Config.flashChunk d.addr / 2 ^ 192 % 65536,
                              addr := d.addr, refcnt := 1, dying := false, pins := 0 }
        { s with ddp := { s.ddp with idx := s.ddp.idx.put h e } }
  else
    match s.ddp.idx.look h with
    | some e =>
      let e := { e with refcnt := e.refcnt - 1 }
      if e.refcnt = 0 ∧ e.pins = 0 then
        let s := { s with ddp := { s.ddp with idx := s.ddp.idx.put h { e with dying := true } } }
        s.recentDrop h
      else { s with ddp := { s.ddp with idx := s.ddp.idx.put h e } }
    | none => s

/-- REFERENCE_APPLY: the reference entries of one record, own (`mirror` clear) or the partner's, in JSEQ order of the writer; an entry
at or below its page's APPLIED is skipped (R206). -/
def State.referenceApply (s : State) (mirror : Bool) (orig : Nat) : State :=
  let side := s.writerSide mirror
  let rs := s.refRecords mirror
  match rs.find? (fun r => r.1 == orig) with
  | none => s
  | some r =>
    let todo := (s.refsOf r.2).filter (fun d => decide (s.appliedOf (d.laddr / 512) side < orig))
    let earlier := rs.any (fun q => decide (q.1 < orig) && (s.refsOf q.2).any (fun d =>
      todo.any (fun e => e.laddr / 512 == d.laddr / 512) && decide (s.appliedOf (d.laddr / 512) side < q.1)))
    if earlier then s
    else
      let s := todo.foldl State.applyRef s
      todo.foldl (fun s d => s.setApplied (d.laddr / 512) side orig) s

/-- INDEX_ENTRY_RELEASE: the checkpoint with DYING set is persistent: the chunk's space is released, and VALID clears (R207); the
filter block is made anew from the page's entries (R201). -/
def State.indexRelease (s : State) (h : Nat) : State :=
  match s.ddp.idx.look h with
  | none => s
  | some e =>
    if !e.dying then s
    else
      let idx := s.ddp.idx.del h
      let page := h / 512
      let bits := (idx.filter (fun x => x.1 / 512 == page)).foldl (fun (a : NatSet) x =>
        (filterBits x.2.fp).foldl (fun a b => NatSet.insert a b) a) []
      { s with ddp := { s.ddp with idx := idx, filter := s.ddp.filter.put page bits }
               map := { s.map with chunks := s.map.chunks.del e.addr } }

/-! ## Deferred deduplication -/

/-- The entry at the head of the deferred queue is done. -/
def State.deferPop (s : State) : State := { s with ddp := { s.ddp with deferQ := s.ddp.deferQ.tail } }

/-- The content of a chunk by its address. -/
def State.chunkData (s : State) (a : Nat) : Nat :=
  match s.map.chunks.look a with
  | some c => c.data
  | none => Config.flashChunk a

/-- The leaf entry still refers to the queued chunk (R209 case 3). -/
def State.deferLive (s : State) (e : DeferEnt) : Bool :=
  (s.map.leaves.getD e.leaf []).any (fun v => v.wseq == e.wseq && v.kind == 1 && v.addr == e.addr)

/-- The map-delta entry that moves a leaf entry, RELOC set. -/
def relocOf (leaf wseq addr pg : Nat) : Delta :=
  let tree := leaf / 2 ^ 64 % 131072
  { kind := if tree = 0 then 1 else 2, reloc := true, nsid := leafNs leaf, laddr := leaf % 2 ^ 64, addr := addr, wseq := wseq,
    pg := if tree = 0 then pg else tree - 1 }

/-- The deferred engine has its answer for the entry at the head of the queue (R209, R210). -/
def State.deferApply (s : State) (e : DeferEnt) (out : ChunkOut) : State :=
  let s := s.deferPop
  let pg := match s.map.chunks.look e.addr with
    | some c => c.pg
    | none => 0
  let oset := match s.adm.nss.look (leafNs e.leaf) with
    | some n => n.oset
    | none => 0
  let fp := match s.map.chunks.look e.addr with
    | some c => c.fp
    | none => 0
  match out with
  | .matched h a =>
    if !s.deferLive e || a == e.addr then s.cancelPin h
    else if s.rdb Fld.DDP_CTRL_VERIFY && s.chunkData a != s.chunkData e.addr then
      let s := (s.bump Fld.DDP_VERIFY_MISMATCH_COUNT).raise Fld.DDP_ERR_VERIFY_MISMATCH
      (s.record Blk.DDP 0x2001 a e.addr (fp % 2 ^ 32)).cancelPin h
    else
      let d := relocOf e.leaf e.wseq a pg
      (s.bump Fld.DDP_STAT_DEFER_MATCH_COUNT).issue (.mapDelta [d, { d with kind := 3, laddr := h }]) 2 oset
  | .reserved h =>
    if !s.deferLive e then s.cancelPin h
    else
      let d := relocOf e.leaf e.wseq e.addr pg
      let s := if s.ownsHalf (h / 512) then
          { s with ddp := { s.ddp with idx := s.ddp.idx.modify h (fun x => { x with addr := e.addr }) } } else s
      s.issue (.mapDelta [d, { d with kind := 3, laddr := h }]) 2 oset
  | _ => s

/-- DEFERRED_DEDUP_ENTRY: the engine takes the oldest entry and loads its page; a page of the other half is asked for (R209). -/
def State.deferredEntry (s : State) : State :=
  match s.ddp.deferQ with
  | [] => s
  | e :: _ =>
    if !s.deferLive e then s.deferPop
    else
      match s.map.chunks.look e.addr with
      | none => s.deferPop
      | some c =>
        let page := s.idxPage c.fp
        if s.ownsHalf page then
          if 65536 ≤ s.pins then (s.raise Fld.DDP_ERR_PIN_FULL).deferPop
          else
            let r := (s.idxTouch page).idxLookup c.fp c.domain
            r.1.deferApply e r.2
        else if s.linkUp then s.isend 2 (.indexQuery c.fp c.domain true)
        else s.deferPop

/-- INDEX_ANSWER_RECEIVE: the open lookup it answers is decided, or the deferred entry that asked goes on; an answer nobody waits for
gives its pin back. -/
def State.indexAnswer (s : State) (fp domain : Nat) (out : ChunkOut) : State :=
  let open_ := s.map.destages.findSome? (fun e =>
    match s.ops.look e.1 with
    | some x => (s.openLookup x e.2 fp domain).map (fun i => (e.1, e.2, i))
    | none => none)
  match open_ with
  | some (o, d, i) => (s.countOut out).decideLookups o d (d.outs.set i (some out))
  | none =>
    let head := match s.ddp.deferQ with
      | e :: _ => (match s.map.chunks.look e.addr with
        | some c => if c.fp = fp ∧ c.domain = domain then some e else none
        | none => none)
      | [] => none
    match head with
    | some e => s.deferApply e out
    | none =>
      match out with
      | .matched h _ => s.cancelPin h
      | .reserved h => s.cancelPin h
      | _ => s

/-! ## Chunk checks -/

/-- CHUNK_CRC_FAIL: a restored chunk fails its CRC; `persists`: also after STR has reconstructed its pages (R218). -/
def State.chunkCrcFail (s : State) (addr : Nat) (persists : Bool) : State :=
  let s := s.bump Fld.CMP_CRC_FAIL_COUNT
  if persists then
    let s := { s with map := { s.map with chunks := s.map.chunks.modify addr (fun c => { c with crcBad := true }) } }
    (s.raise Fld.CMP_ERR_CRC_FAIL).record Blk.CMP 0x3001 addr
  else s

def execIndexMessage (fp domain : Nat) (reserve : Bool) (s : State) : Res := ended (s.indexMessage fp domain reserve)
def execIndexQueryTimeout (op : Nat) (s : State) : Res := ended (s.indexTimeout op)
def execPinRelease (handle : Nat) (s : State) : Res := ended (s.pinRelease handle)
def execReferenceApply (mirror : Bool) (jseq : Nat) (s : State) : Res := ended (s.referenceApply mirror jseq)
def execIndexEntryRelease (handle : Nat) (s : State) : Res := ended (s.indexRelease handle)
def execDeferredDedupEntry (s : State) : Res := ended s.deferredEntry
def execChunkCrcFail (addr : Nat) (persists : Bool) (s : State) : Res := ended (s.chunkCrcFail addr persists)
def execIndexAnswerReceive (fp domain : Nat) (out : ChunkOut) (s : State) : Res := ended (s.indexAnswer fp domain out)

end Sys2Proof.Machine
end

