-- ==== Sys2Proof/Machine/Flit.lean ====
section
/-!
DEFINITION. Flits of the Isaov link (R185, R186): acknowledgement, NAK and resend, and the delivery of the messages they carry (Table
08.9).
-/
namespace Sys2Proof.Machine

open Sys2Proof

/-- The distance from one 16-bit sequence to another, forward. -/
def flitDist (a b : Nat) : Nat := (b + 65536 - a) % 65536

/-- The partner acknowledges every flit up to `ack`, cumulatively. -/
def State.flitAcked (s : State) (ack : Nat) : State :=
  { s with isl := { s.isl with unacked := s.isl.unacked.keep (fun q _ => !decide (flitDist q ack < 32768)) } }

/-- A NAK names the FSEQ the partner expects: every flit from there on is sent again. -/
def State.flitNaked (s : State) (fseq : Nat) : State :=
  let again (q : Nat) : Bool := decide (flitDist fseq q < 32768)
  let n := s.isl.unacked.countP (fun q _ => again q)
  let s := s.isl.unacked.foldl (fun (s : State) e => if again e.1 then s.emit (.flitResend e.1) else s) s
  let s := { s with isl := { s.isl with unacked := s.isl.unacked.mapVal (fun q k => if again q then k + 1 else k) } }
  s.bump Fld.ISL_RETRY_COUNT n

/-- A message is delivered.  A media read is answered by MEDIA_READ_REQUEST, a drill's steps are the drill's own; a handover takes
`whole`, the stripes found whole, as HANDOVER_SIGNAL_RECEIVE does. -/
def State.islDeliver (s : State) (whole : List Nat) (m : IslMsg) : State :=
  match m with
  | .drumbeat d => s.drumbeatReceive d
  | .catchupRequest chan => s.catchupServe chan
  | .catchupEnd => { s with isl := { s.isl with copied := true } }
  | .mirror j r => s.mirrorTake j r false
  | .copyRecord j r => s.mirrorTake j r true
  | .anchor chan a => { s with pjm := { s.pjm with mirrorAnchors := s.pjm.mirrorAnchors.put chan a } }
  | .mirrorAck j => s.mirrorAckReceive j
  | .mirrorRefuse j => s.pjmWriteFail j false
  | .gbkMirror slot r => s.gbkMirrorTake slot r
  | .gbkZero upTo => s.gbkMirrorZero upTo
  | .forward token cmd => s.forwardTake token cmd
  | .forwardDone token a => s.forwardAnswer token a
  | .indexQuery fp domain reserve => s.indexMessage fp domain reserve
  | .indexAnswer fp domain out => s.indexAnswer fp domain out
  | .pinRelease handle => s.pinRelease handle
  | .mediaRead _ _ _ => s
  | .mediaData chan lun page _ => s.mediaBack (chan, lun, page)
  | .returnRequest _ => s.returnReceive
  | .handover kind object agen => s.handoverReceive kind object agen whole
  | .drill _ _ => s
  | .trial deadline => { s with fwu := { s.fwu with partnerDeadline := deadline } }

/-- ISL_FLIT_RECEIVE (R186): a flit whose CRC fails, or that leaves a gap, is answered with a NAK that names the expected FSEQ; the
expected one is acknowledged and its messages delivered in order; one received before is acknowledged again. -/
def State.flitReceive (s : State) (fseq : Nat) (crcOk : Bool) (ack : Nat) (nak : Option Nat) (msgs : List IslMsg) (whole : List Nat) : State :=
  if !s.linkUp then s
  else if !crcOk then s.emit (.flitNak s.isl.rxExpect)
  else
    let s := { s with isl := { s.isl with lastFlit := s.now } }
    let s := s.flitAcked ack
    let s := match nak with
      | some q => s.flitNaked q
      | none => s
    let d := flitDist s.isl.rxExpect fseq
    if d = 0 then
      let s := { s with isl := { s.isl with rxExpect := (fseq + 1) % 65536 } }.emit (.flitAck fseq)
      msgs.foldl (fun (s : State) m => s.islDeliver whole m) s
    else if d < 32768 then s.emit (.flitNak s.isl.rxExpect)
    else s.emit (.flitAck ((s.isl.rxExpect + 65535) % 65536))

/-- ISL_FLIT_RECEIVE. -/
def execIslFlitReceive (fseq : Nat) (crcOk : Bool) (ack : Nat) (nak : Option Nat) (msgs : List IslMsg) (whole : List Nat) (s : State) : Res :=
  ended (s.flitReceive fseq crcOk ack nak msgs whole)

end Sys2Proof.Machine
end

