-- ==== Sys2Proof/Machine/RegMap.lean ====
section
/-!
DEFINITION. The register map of every block (the map tables of spec/, Table 25.1): where each register lies in its window and how
many instances it has.  The fields themselves are in Machine/RegTable.lean.
-/
namespace Sys2Proof.Machine

/-- A row of a map table: byte offset, bytes, and the instances `first` to `first + count - 1`, `stride` bytes apart; for a doubly
indexed one `count2` columns `stride2` bytes apart. -/
structure Reg where
  off : Nat
  bytes : Nat
  first : Nat
  count : Nat
  stride : Nat
  count2 : Nat
  stride2 : Nat
deriving DecidableEq, Repr

/-- The registers of GLB, by rising offset: GLB_ID, GLB_REV, GLB_HEAD, GLB_STATUS, GLB_FUSE, GLB_UID, GLB_ERR, GLB_BLK_EN, GLB_ERR_INFO, GLB_INT_STATUS, GLB_INT_MASK, GLB_INT_CFG, GLB_INT_ACK, GLB_SCRATCH. -/
def regsGLB : List Reg := [
  ⟨0x0, 4, 0, 1, 0, 1, 0⟩, ⟨0x4, 4, 0, 1, 0, 1, 0⟩, ⟨0x8, 4, 0, 1, 0, 1, 0⟩, ⟨0xC, 4, 0, 1, 0, 1, 0⟩,
  ⟨0x10, 8, 0, 1, 0, 1, 0⟩, ⟨0x18, 8, 0, 1, 0, 1, 0⟩, ⟨0x20, 4, 0, 1, 0, 1, 0⟩, ⟨0x24, 4, 0, 1, 0, 1, 0⟩,
  ⟨0x28, 8, 0, 1, 0, 1, 0⟩, ⟨0x30, 4, 0, 1, 0, 1, 0⟩, ⟨0x34, 4, 0, 1, 0, 1, 0⟩, ⟨0x38, 4, 0, 1, 0, 1, 0⟩,
  ⟨0x3C, 4, 0, 1, 0, 1, 0⟩, ⟨0x40, 4, 0, 1, 0, 1, 0⟩]

/-- The registers of CAR, by rising offset: CAR_CTRL, CAR_STATUS, CAR_NOW_NS_LO, CAR_NOW_NS_HI, CAR_NOW_FRAC, CAR_NOW_EPS, CAR_EPS, CAR_EPS_BOUND, CAR_DRIFT_BOUND, CAR_ASYM, CAR_EPOCH_TAI, CAR_UTC, CAR_SERVO, CAR_PPS, CAR_LATE_THRESH, CAR_SLOT_ARM, CAR_SLOT_DISARM, CAR_ERR, CAR_LAST_THETA, CAR_COMMIT, CAR_ACTIVE_GEN, CAR_PORT_LAT, CAR_FLAG, CAR_SLOT. -/
def regsCAR : List Reg := [
  ⟨0x0, 4, 0, 1, 0, 1, 0⟩, ⟨0x8, 4, 0, 1, 0, 1, 0⟩, ⟨0x10, 4, 0, 1, 0, 1, 0⟩, ⟨0x14, 4, 0, 1, 0, 1, 0⟩,
  ⟨0x18, 4, 0, 1, 0, 1, 0⟩, ⟨0x1C, 4, 0, 1, 0, 1, 0⟩, ⟨0x20, 4, 0, 1, 0, 1, 0⟩, ⟨0x24, 4, 0, 1, 0, 1, 0⟩,
  ⟨0x28, 4, 0, 1, 0, 1, 0⟩, ⟨0x2C, 4, 0, 1, 0, 1, 0⟩, ⟨0x30, 12, 0, 1, 0, 1, 0⟩, ⟨0x3C, 4, 0, 1, 0, 1, 0⟩,
  ⟨0x40, 8, 0, 1, 0, 1, 0⟩, ⟨0x48, 4, 0, 1, 0, 1, 0⟩, ⟨0x4C, 4, 0, 1, 0, 1, 0⟩, ⟨0x50, 4, 0, 1, 0, 1, 0⟩,
  ⟨0x54, 4, 0, 1, 0, 1, 0⟩, ⟨0x58, 4, 0, 1, 0, 1, 0⟩, ⟨0x5C, 4, 0, 1, 0, 1, 0⟩, ⟨0x60, 4, 0, 1, 0, 1, 0⟩,
  ⟨0x64, 4, 0, 1, 0, 1, 0⟩, ⟨0x100, 8, 0, 32, 8, 1, 0⟩, ⟨0x400, 4, 0, 64, 4, 1, 0⟩, ⟨0x80000, 32, 0, 16384, 32, 1, 0⟩]

/-- The registers of HRI, by rising offset: HRI_CTRL, HRI_STATUS, HRI_ERR, HRI_ERR_RING, HRI_RESYNC, HRI_RING_RELEASE, HRI_COMMIT, HRI_ACTIVE_GEN, HRI_FN_RINGS, HRI_FN_MSIX, HRI_FN_TENANT, HRI_FN_EVQ_CFG, HRI_FN_EVQ_ADDR, HRI_FN_EVQ_LOST, HRI_RING_SQ_ADDR, HRI_RING_CQ_ADDR, HRI_RING_SB_ADDR, HRI_RING_RS_ADDR, HRI_RING_CFG, HRI_RING_SEQ_BASE, HRI_RING_STATE, HRI_RING_EVDROP, HRI_RING_ARB. -/
def regsHRI : List Reg := [
  ⟨0x0, 4, 0, 1, 0, 1, 0⟩, ⟨0x4, 4, 0, 1, 0, 1, 0⟩, ⟨0x8, 4, 0, 1, 0, 1, 0⟩, ⟨0xC, 4, 0, 1, 0, 1, 0⟩,
  ⟨0x10, 4, 0, 1, 0, 1, 0⟩, ⟨0x14, 4, 0, 1, 0, 1, 0⟩, ⟨0x18, 4, 0, 1, 0, 1, 0⟩, ⟨0x1C, 4, 0, 1, 0, 1, 0⟩,
  ⟨0x1000, 4, 0, 256, 32, 1, 0⟩, ⟨0x1004, 4, 0, 256, 32, 1, 0⟩, ⟨0x1008, 4, 0, 256, 32, 1, 0⟩, ⟨0x100C, 4, 0, 256, 32, 1, 0⟩,
  ⟨0x1010, 8, 0, 256, 32, 1, 0⟩, ⟨0x1018, 4, 0, 256, 32, 1, 0⟩, ⟨0x40000, 8, 0, 4096, 64, 1, 0⟩, ⟨0x40008, 8, 0, 4096, 64, 1, 0⟩,
  ⟨0x40010, 8, 0, 4096, 64, 1, 0⟩, ⟨0x40018, 8, 0, 4096, 64, 1, 0⟩, ⟨0x40020, 8, 0, 4096, 64, 1, 0⟩, ⟨0x40028, 4, 0, 4096, 64, 1, 0⟩,
  ⟨0x4002C, 4, 0, 4096, 64, 1, 0⟩, ⟨0x40030, 4, 0, 4096, 64, 1, 0⟩, ⟨0x40034, 4, 0, 4096, 64, 1, 0⟩]

/-- The registers of NET, by rising offset: NET_CTRL, NET_STATUS, NET_ERR, NET_ERR_PORT, NET_COMMIT, NET_ACTIVE_GEN, NET_OCTET_MODE, NET_TCP_CFG, NET_TCP_RTO, NET_TCP_CONN, NET_PORT_CFG, NET_PORT_STATUS, NET_PFC, NET_ETS_MAP, NET_ETS_BW, NET_ECN, NET_ECN_CE, NET_IP, NET_IP_CFG. -/
def regsNET : List Reg := [
  ⟨0x0, 4, 0, 1, 0, 1, 0⟩, ⟨0x4, 4, 0, 1, 0, 1, 0⟩, ⟨0x8, 4, 0, 1, 0, 1, 0⟩, ⟨0xC, 4, 0, 1, 0, 1, 0⟩,
  ⟨0x10, 4, 0, 1, 0, 1, 0⟩, ⟨0x14, 4, 0, 1, 0, 1, 0⟩, ⟨0x20, 4, 0, 4, 4, 1, 0⟩, ⟨0x40, 4, 0, 1, 0, 1, 0⟩,
  ⟨0x44, 4, 0, 1, 0, 1, 0⟩, ⟨0x48, 4, 0, 1, 0, 1, 0⟩, ⟨0x1000, 8, 0, 32, 64, 1, 0⟩, ⟨0x1008, 8, 0, 32, 64, 1, 0⟩,
  ⟨0x1010, 8, 0, 32, 64, 1, 0⟩, ⟨0x1018, 4, 0, 32, 64, 1, 0⟩, ⟨0x1020, 8, 0, 32, 64, 1, 0⟩, ⟨0x1028, 4, 0, 32, 64, 1, 0⟩,
  ⟨0x102C, 4, 0, 32, 64, 1, 0⟩, ⟨0x2000, 16, 0, 256, 32, 1, 0⟩, ⟨0x2010, 4, 0, 256, 32, 1, 0⟩]

/-- The registers of NVF, by rising offset: NVF_CTRL, NVF_STATUS, NVF_ERR, NVF_COMMIT, NVF_ACTIVE_GEN, NVF_LIMITS, NVF_TCP_OPT, NVF_ANA_CFG, NVF_ASSOC_COUNT, NVF_DEFERRED_COUNT, NVF_SUBNQN, NVF_LISTEN, NVF_ANA_GRP. -/
def regsNVF : List Reg := [
  ⟨0x0, 4, 0, 1, 0, 1, 0⟩, ⟨0x4, 4, 0, 1, 0, 1, 0⟩, ⟨0x8, 4, 0, 1, 0, 1, 0⟩, ⟨0xC, 4, 0, 1, 0, 1, 0⟩,
  ⟨0x10, 4, 0, 1, 0, 1, 0⟩, ⟨0x14, 4, 0, 1, 0, 1, 0⟩, ⟨0x18, 4, 0, 1, 0, 1, 0⟩, ⟨0x1C, 4, 0, 1, 0, 1, 0⟩,
  ⟨0x20, 4, 0, 1, 0, 1, 0⟩, ⟨0x24, 4, 0, 1, 0, 1, 0⟩, ⟨0x100, 256, 0, 1, 0, 1, 0⟩, ⟨0x1000, 4, 0, 64, 8, 1, 0⟩,
  ⟨0x2000, 4, 1, 1024, 4, 1, 0⟩]

/-- The registers of RDM, by rising offset: RDM_CTRL, RDM_STATUS, RDM_ERR, RDM_ERR_QP, RDM_COMMIT, RDM_ACTIVE_GEN, RDM_CFG, RDM_LIMITS, RDM_QP_TIMER, RDM_RNR, RDM_CC0, RDM_CC1, RDM_CC2, RDM_WIN_CMD, RDM_WIN_RESULT, RDM_WIN_STAGE, RDM_QP_INUSE, RDM_WIN_OPEN_COUNT, RDM_ODP_FAULTS, RDM_REVOKE_TMO, RDM_ENG_STAT. -/
def regsRDM : List Reg := [
  ⟨0x0, 4, 0, 1, 0, 1, 0⟩, ⟨0x4, 4, 0, 1, 0, 1, 0⟩, ⟨0x8, 4, 0, 1, 0, 1, 0⟩, ⟨0xC, 4, 0, 1, 0, 1, 0⟩,
  ⟨0x10, 4, 0, 1, 0, 1, 0⟩, ⟨0x14, 4, 0, 1, 0, 1, 0⟩, ⟨0x18, 4, 0, 1, 0, 1, 0⟩, ⟨0x1C, 4, 0, 1, 0, 1, 0⟩,
  ⟨0x20, 4, 0, 1, 0, 1, 0⟩, ⟨0x24, 4, 0, 1, 0, 1, 0⟩, ⟨0x28, 4, 0, 1, 0, 1, 0⟩, ⟨0x2C, 4, 0, 1, 0, 1, 0⟩,
  ⟨0x30, 4, 0, 1, 0, 1, 0⟩, ⟨0x34, 4, 0, 1, 0, 1, 0⟩, ⟨0x38, 8, 0, 1, 0, 1, 0⟩, ⟨0x40, 32, 0, 1, 0, 1, 0⟩,
  ⟨0x60, 4, 0, 1, 0, 1, 0⟩, ⟨0x64, 4, 0, 1, 0, 1, 0⟩, ⟨0x68, 4, 0, 1, 0, 1, 0⟩, ⟨0x6C, 4, 0, 1, 0, 1, 0⟩,
  ⟨0x1000, 24, 0, 8, 32, 1, 0⟩]

/-- The registers of POL, by rising offset: POL_CTRL, POL_STATUS, POL_ERR, POL_ERR_INFO, POL_COMMIT, POL_ACTIVE_GEN, POL_REGION, POL_OP, POL_OP_ADDR, POL_OP_RESULT, POL_DF_COUNT, POL_POOL_CFG, POL_POOL_BASE, POL_POOL_STAT, POL_OWNER_CFG, POL_LIMIT, POL_HELD. -/
def regsPOL : List Reg := [
  ⟨0x0, 4, 0, 1, 0, 1, 0⟩, ⟨0x4, 4, 0, 1, 0, 1, 0⟩, ⟨0x8, 4, 0, 1, 0, 1, 0⟩, ⟨0x10, 8, 0, 1, 0, 1, 0⟩,
  ⟨0x18, 4, 0, 1, 0, 1, 0⟩, ⟨0x1C, 4, 0, 1, 0, 1, 0⟩, ⟨0x20, 16, 0, 1, 0, 1, 0⟩, ⟨0x30, 4, 0, 1, 0, 1, 0⟩,
  ⟨0x38, 8, 0, 1, 0, 1, 0⟩, ⟨0x40, 4, 0, 1, 0, 1, 0⟩, ⟨0x44, 4, 0, 1, 0, 1, 0⟩, ⟨0x100, 4, 0, 16, 32, 1, 0⟩,
  ⟨0x108, 8, 0, 16, 32, 1, 0⟩, ⟨0x110, 8, 0, 16, 32, 1, 0⟩, ⟨0x1000, 4, 0, 1024, 16, 1, 0⟩, ⟨0x10000, 8, 0, 1024, 128, 16, 8⟩,
  ⟨0x40000, 4, 0, 1024, 64, 16, 4⟩]

/-- The registers of PJM, by rising offset: PJM_CTRL, PJM_STATUS, PJM_ERR, PJM_ERR_INFO, PJM_COMMIT, PJM_ACTIVE_GEN, PJM_TIMING, PJM_LAYOUT, PJM_JCFG, PJM_CH_CMD, PJM_JSEQ, PJM_LOG_USED, PJM_CH_STATUS, PJM_CH_ECC. -/
def regsPJM : List Reg := [
  ⟨0x0, 4, 0, 1, 0, 1, 0⟩, ⟨0x4, 4, 0, 1, 0, 1, 0⟩, ⟨0x8, 4, 0, 1, 0, 1, 0⟩, ⟨0xC, 4, 0, 1, 0, 1, 0⟩,
  ⟨0x10, 4, 0, 1, 0, 1, 0⟩, ⟨0x14, 4, 0, 1, 0, 1, 0⟩, ⟨0x18, 4, 0, 1, 0, 1, 0⟩, ⟨0x1C, 4, 0, 1, 0, 1, 0⟩,
  ⟨0x20, 4, 0, 1, 0, 1, 0⟩, ⟨0x24, 4, 0, 1, 0, 1, 0⟩, ⟨0x28, 8, 0, 1, 0, 1, 0⟩, ⟨0x30, 4, 0, 1, 0, 1, 0⟩,
  ⟨0x100, 8, 0, 8, 16, 1, 0⟩, ⟨0x108, 4, 0, 8, 16, 1, 0⟩]

/-- The registers of ISL, by rising offset: ISL_CTRL, ISL_STATUS, ISL_ERR, ISL_COMMIT, ISL_ACTIVE_GEN, ISL_CFG, ISL_VC_WEIGHT, ISL_PEER, ISL_RETRY, ISL_DRUM_MISSED. -/
def regsISL : List Reg := [
  ⟨0x0, 4, 0, 1, 0, 1, 0⟩, ⟨0x4, 4, 0, 1, 0, 1, 0⟩, ⟨0x8, 4, 0, 1, 0, 1, 0⟩, ⟨0xC, 4, 0, 1, 0, 1, 0⟩,
  ⟨0x10, 4, 0, 1, 0, 1, 0⟩, ⟨0x14, 4, 0, 1, 0, 1, 0⟩, ⟨0x18, 4, 0, 1, 0, 1, 0⟩, ⟨0x20, 8, 0, 1, 0, 1, 0⟩,
  ⟨0x28, 4, 0, 1, 0, 1, 0⟩, ⟨0x2C, 4, 0, 1, 0, 1, 0⟩]

/-- The registers of DDP, by rising offset: DDP_CTRL, DDP_STATUS, DDP_ERR, DDP_COMMIT, DDP_ACTIVE_GEN, DDP_CFG, DDP_IDX_CFG, DDP_FILTER_BASE, DDP_ICACHE_BASE, DDP_DEFER_BASE, DDP_STAT_INLINE, DDP_STAT_NEW, DDP_STAT_DEFER_MATCH, DDP_STAT_ZERO, DDP_DEFER_DROP, DDP_DEFER_DEPTH, DDP_VERIFY_MISMATCH, DDP_PINS. -/
def regsDDP : List Reg := [
  ⟨0x0, 4, 0, 1, 0, 1, 0⟩, ⟨0x4, 4, 0, 1, 0, 1, 0⟩, ⟨0x8, 4, 0, 1, 0, 1, 0⟩, ⟨0xC, 4, 0, 1, 0, 1, 0⟩,
  ⟨0x10, 4, 0, 1, 0, 1, 0⟩, ⟨0x14, 4, 0, 1, 0, 1, 0⟩, ⟨0x18, 4, 0, 1, 0, 1, 0⟩, ⟨0x20, 8, 0, 1, 0, 1, 0⟩,
  ⟨0x28, 8, 0, 1, 0, 1, 0⟩, ⟨0x30, 8, 0, 1, 0, 1, 0⟩, ⟨0x40, 8, 0, 1, 0, 1, 0⟩, ⟨0x48, 8, 0, 1, 0, 1, 0⟩,
  ⟨0x50, 8, 0, 1, 0, 1, 0⟩, ⟨0x58, 8, 0, 1, 0, 1, 0⟩, ⟨0x60, 4, 0, 1, 0, 1, 0⟩, ⟨0x64, 4, 0, 1, 0, 1, 0⟩,
  ⟨0x68, 4, 0, 1, 0, 1, 0⟩, ⟨0x6C, 4, 0, 1, 0, 1, 0⟩]

/-- The registers of CMP, by rising offset: CMP_CTRL, CMP_STATUS, CMP_ERR, CMP_COMMIT, CMP_ACTIVE_GEN, CMP_DP_CFG, CMP_SHARE, CMP_STAT_IN, CMP_STAT_OUT, CMP_STAT_RAW, CMP_CRC_FAIL, CMP_JOBS_WAITING. -/
def regsCMP : List Reg := [
  ⟨0x0, 4, 0, 1, 0, 1, 0⟩, ⟨0x4, 4, 0, 1, 0, 1, 0⟩, ⟨0x8, 4, 0, 1, 0, 1, 0⟩, ⟨0xC, 4, 0, 1, 0, 1, 0⟩,
  ⟨0x10, 4, 0, 1, 0, 1, 0⟩, ⟨0x14, 4, 0, 1, 0, 1, 0⟩, ⟨0x18, 4, 0, 1, 0, 1, 0⟩, ⟨0x20, 8, 0, 1, 0, 1, 0⟩,
  ⟨0x28, 8, 0, 1, 0, 1, 0⟩, ⟨0x30, 8, 0, 1, 0, 1, 0⟩, ⟨0x38, 4, 0, 1, 0, 1, 0⟩, ⟨0x3C, 4, 0, 1, 0, 1, 0⟩]

/-- The registers of CIP, by rising offset: CIP_CTRL, CIP_STATUS, CIP_ERR, CIP_ERR_INFO, CIP_COMMIT, CIP_ACTIVE_GEN, CIP_PRIO, CIP_KEY_CMD, CIP_KEY_RESULT, CIP_KEY_BLOB, CIP_KEY_STORE, CIP_SLOTS_LOADED, CIP_KCACHE_HIT, CIP_KCACHE_MISS, CIP_AUTH_FAIL, CIP_SUSPENDS, CIP_KEK_STATE, CIP_SLOT_STATE. -/
def regsCIP : List Reg := [
  ⟨0x0, 4, 0, 1, 0, 1, 0⟩, ⟨0x4, 4, 0, 1, 0, 1, 0⟩, ⟨0x8, 4, 0, 1, 0, 1, 0⟩, ⟨0xC, 4, 0, 1, 0, 1, 0⟩,
  ⟨0x10, 4, 0, 1, 0, 1, 0⟩, ⟨0x14, 4, 0, 1, 0, 1, 0⟩, ⟨0x18, 4, 0, 1, 0, 1, 0⟩, ⟨0x1C, 4, 0, 1, 0, 1, 0⟩,
  ⟨0x20, 4, 0, 1, 0, 1, 0⟩, ⟨0x40, 96, 0, 1, 0, 1, 0⟩, ⟨0xA0, 8, 0, 1, 0, 1, 0⟩, ⟨0xA8, 4, 0, 1, 0, 1, 0⟩,
  ⟨0xAC, 4, 0, 1, 0, 1, 0⟩, ⟨0xB0, 4, 0, 1, 0, 1, 0⟩, ⟨0xB4, 4, 0, 1, 0, 1, 0⟩, ⟨0xB8, 4, 0, 1, 0, 1, 0⟩,
  ⟨0x1000, 4, 0, 64, 4, 1, 0⟩, ⟨0x10000, 4, 0, 16384, 4, 1, 0⟩]

/-- The registers of MAP, by rising offset: MAP_CTRL, MAP_STATUS, MAP_ERR, MAP_ERR_INFO, MAP_COMMIT, MAP_ACTIVE_GEN, MAP_CKPT, MAP_CKPT_CMD, MAP_CACHE_BASE, MAP_CACHE_CFG, MAP_DIR_CFG, MAP_CKPT_GEN, MAP_CKPT_LAST, MAP_DELTA_PENDING, MAP_DIRTY_PAGES, MAP_RECOVERY_US, MAP_STAT_FETCH. -/
def regsMAP : List Reg := [
  ⟨0x0, 4, 0, 1, 0, 1, 0⟩, ⟨0x4, 4, 0, 1, 0, 1, 0⟩, ⟨0x8, 4, 0, 1, 0, 1, 0⟩, ⟨0xC, 4, 0, 1, 0, 1, 0⟩,
  ⟨0x10, 4, 0, 1, 0, 1, 0⟩, ⟨0x14, 4, 0, 1, 0, 1, 0⟩, ⟨0x18, 4, 0, 1, 0, 1, 0⟩, ⟨0x1C, 4, 0, 1, 0, 1, 0⟩,
  ⟨0x20, 8, 0, 1, 0, 1, 0⟩, ⟨0x28, 4, 0, 1, 0, 1, 0⟩, ⟨0x2C, 4, 0, 1, 0, 1, 0⟩, ⟨0x30, 8, 0, 1, 0, 1, 0⟩,
  ⟨0x38, 8, 0, 1, 0, 1, 0⟩, ⟨0x40, 4, 0, 1, 0, 1, 0⟩, ⟨0x44, 4, 0, 1, 0, 1, 0⟩, ⟨0x48, 4, 0, 1, 0, 1, 0⟩,
  ⟨0x50, 8, 0, 1, 0, 1, 0⟩]

/-- The registers of MDC, by rising offset: MDC_CTRL, MDC_STATUS, MDC_ERR, MDC_COMMIT, MDC_ACTIVE_GEN, MDC_WAYGRP_CMD, MDC_WAYGRP_STATE, MDC_REGION, MDC_STAT_HIT, MDC_STAT_MISS, MDC_STAT_WB, MDC_ECC. -/
def regsMDC : List Reg := [
  ⟨0x0, 4, 0, 1, 0, 1, 0⟩, ⟨0x4, 4, 0, 1, 0, 1, 0⟩, ⟨0x8, 4, 0, 1, 0, 1, 0⟩, ⟨0xC, 4, 0, 1, 0, 1, 0⟩,
  ⟨0x10, 4, 0, 1, 0, 1, 0⟩, ⟨0x14, 4, 0, 1, 0, 1, 0⟩, ⟨0x18, 4, 0, 1, 0, 1, 0⟩, ⟨0x20, 16, 0, 8, 16, 1, 0⟩,
  ⟨0x100, 8, 0, 1, 0, 1, 0⟩, ⟨0x108, 8, 0, 1, 0, 1, 0⟩, ⟨0x110, 8, 0, 1, 0, 1, 0⟩, ⟨0x118, 4, 0, 1, 0, 1, 0⟩]

/-- The registers of FLC, by rising offset: FLC_CTRL, FLC_STATUS, FLC_ERR, FLC_ERR_INFO, FLC_COMMIT, FLC_ACTIVE_GEN, FLC_IF_CFG, FLC_LDPC_CFG, FLC_RETRY_CFG, FLC_TRACK_CFG, FLC_SLC_CFG, FLC_WEAR_CFG, FLC_REFRESH_CFG, FLC_SPARE_CFG, FLC_GEOM, FLC_PG_SEL, FLC_PG_MEDIA, FLC_STAT_RETRY, FLC_STAT_SOFT, FLC_STAT_SOFT_FAIL, FLC_STAT_RETIRED, FLC_SLC_FREE, FLC_CH_STATUS, FLC_CH_ECC, FLC_GRP_STATUS. -/
def regsFLC : List Reg := [
  ⟨0x0, 4, 0, 1, 0, 1, 0⟩, ⟨0x4, 4, 0, 1, 0, 1, 0⟩, ⟨0x8, 4, 0, 1, 0, 1, 0⟩, ⟨0x10, 8, 0, 1, 0, 1, 0⟩,
  ⟨0x18, 4, 0, 1, 0, 1, 0⟩, ⟨0x1C, 4, 0, 1, 0, 1, 0⟩, ⟨0x20, 4, 0, 1, 0, 1, 0⟩, ⟨0x24, 4, 0, 1, 0, 1, 0⟩,
  ⟨0x28, 4, 0, 1, 0, 1, 0⟩, ⟨0x2C, 4, 0, 1, 0, 1, 0⟩, ⟨0x30, 4, 0, 1, 0, 1, 0⟩, ⟨0x34, 4, 0, 1, 0, 1, 0⟩,
  ⟨0x38, 4, 0, 1, 0, 1, 0⟩, ⟨0x3C, 4, 0, 1, 0, 1, 0⟩, ⟨0x40, 8, 0, 1, 0, 1, 0⟩, ⟨0x48, 4, 0, 1, 0, 1, 0⟩,
  ⟨0x50, 8, 0, 1, 0, 1, 0⟩, ⟨0x58, 4, 0, 1, 0, 1, 0⟩, ⟨0x5C, 4, 0, 1, 0, 1, 0⟩, ⟨0x60, 4, 0, 1, 0, 1, 0⟩,
  ⟨0x64, 4, 0, 1, 0, 1, 0⟩, ⟨0x68, 4, 0, 1, 0, 1, 0⟩, ⟨0x1000, 8, 0, 128, 16, 1, 0⟩, ⟨0x1008, 8, 0, 128, 16, 1, 0⟩,
  ⟨0x2000, 4, 0, 16, 4, 1, 0⟩]

/-- The registers of STR, by rising offset: STR_CTRL, STR_STATUS, STR_ERR, STR_ERR_INFO, STR_COMMIT, STR_ACTIVE_GEN, STR_PATROL, STR_PATROL_PROGRESS, STR_REBUILD, STR_REBUILD_STATUS, STR_SPAN_CFG, STR_LOST_COUNT, STR_LOST_MAX, STR_STAT_RECON, STR_STAT_PATROL_FIXED, STR_STAT_MISMATCH, STR_PG_SEL, STR_PG_GEOM, STR_PG_INFO. -/
def regsSTR : List Reg := [
  ⟨0x0, 4, 0, 1, 0, 1, 0⟩, ⟨0x4, 4, 0, 1, 0, 1, 0⟩, ⟨0x8, 4, 0, 1, 0, 1, 0⟩, ⟨0x10, 8, 0, 1, 0, 1, 0⟩,
  ⟨0x18, 4, 0, 1, 0, 1, 0⟩, ⟨0x1C, 4, 0, 1, 0, 1, 0⟩, ⟨0x20, 4, 0, 1, 0, 1, 0⟩, ⟨0x24, 4, 0, 1, 0, 1, 0⟩,
  ⟨0x28, 4, 0, 1, 0, 1, 0⟩, ⟨0x2C, 4, 0, 1, 0, 1, 0⟩, ⟨0x30, 4, 0, 1, 0, 1, 0⟩, ⟨0x34, 4, 0, 1, 0, 1, 0⟩,
  ⟨0x38, 4, 0, 1, 0, 1, 0⟩, ⟨0x40, 8, 0, 1, 0, 1, 0⟩, ⟨0x48, 4, 0, 1, 0, 1, 0⟩, ⟨0x4C, 4, 0, 1, 0, 1, 0⟩,
  ⟨0x50, 4, 0, 1, 0, 1, 0⟩, ⟨0x54, 4, 0, 1, 0, 1, 0⟩, ⟨0x58, 8, 0, 1, 0, 1, 0⟩]

/-- The registers of GCX, by rising offset: GCX_CTRL, GCX_STATUS, GCX_ERR, GCX_ERR_INFO, GCX_COMMIT, GCX_ACTIVE_GEN, GCX_SCORE0, GCX_SCORE1, GCX_SCORE2, GCX_PACE, GCX_SWEEP, GCX_TABLE_BASE, GCX_TABLE_USED, GCX_PG_SEL, GCX_PG_CFG, GCX_PG_INFO, GCX_STAT_RELOC, GCX_STAT_FREED, GCX_STAT_DEAD_COPY, GCX_SWEEP_PASSES. -/
def regsGCX : List Reg := [
  ⟨0x0, 4, 0, 1, 0, 1, 0⟩, ⟨0x4, 4, 0, 1, 0, 1, 0⟩, ⟨0x8, 4, 0, 1, 0, 1, 0⟩, ⟨0xC, 4, 0, 1, 0, 1, 0⟩,
  ⟨0x10, 4, 0, 1, 0, 1, 0⟩, ⟨0x14, 4, 0, 1, 0, 1, 0⟩, ⟨0x18, 4, 0, 1, 0, 1, 0⟩, ⟨0x1C, 4, 0, 1, 0, 1, 0⟩,
  ⟨0x20, 4, 0, 1, 0, 1, 0⟩, ⟨0x24, 4, 0, 1, 0, 1, 0⟩, ⟨0x28, 4, 0, 1, 0, 1, 0⟩, ⟨0x30, 8, 0, 1, 0, 1, 0⟩,
  ⟨0x38, 4, 0, 1, 0, 1, 0⟩, ⟨0x40, 4, 0, 1, 0, 1, 0⟩, ⟨0x44, 4, 0, 1, 0, 1, 0⟩, ⟨0x48, 8, 0, 1, 0, 1, 0⟩,
  ⟨0x50, 8, 0, 1, 0, 1, 0⟩, ⟨0x58, 4, 0, 1, 0, 1, 0⟩, ⟨0x5C, 4, 0, 1, 0, 1, 0⟩, ⟨0x60, 4, 0, 1, 0, 1, 0⟩]

/-- The registers of KVS, by rising offset: KVS_CTRL, KVS_STATUS, KVS_ERR, KVS_COMMIT, KVS_ACTIVE_GEN, KVS_LIMITS, KVS_ENORE, KVS_EPOCH, KVS_ASET_BASE, KVS_BUCKET_BASE, KVS_PGMAP_BASE, KVS_HEAT_BASE, KVS_AUTH, KVS_BAL, KVS_CARAVAN, KVS_CARAVAN_STATE, KVS_SESSIONS, KVS_STAT_MOVED, KVS_STAT_FWD, KVS_NS_SEL, KVS_NS_CFG, KVS_ERR_INFO, KVS_SPAN_SET. -/
def regsKVS : List Reg := [
  ⟨0x0, 4, 0, 1, 0, 1, 0⟩, ⟨0x4, 4, 0, 1, 0, 1, 0⟩, ⟨0x8, 4, 0, 1, 0, 1, 0⟩, ⟨0x10, 4, 0, 1, 0, 1, 0⟩,
  ⟨0x14, 4, 0, 1, 0, 1, 0⟩, ⟨0x18, 4, 0, 1, 0, 1, 0⟩, ⟨0x1C, 4, 0, 1, 0, 1, 0⟩, ⟨0x20, 4, 0, 1, 0, 1, 0⟩,
  ⟨0x28, 8, 0, 1, 0, 1, 0⟩, ⟨0x30, 8, 0, 1, 0, 1, 0⟩, ⟨0x38, 8, 0, 1, 0, 1, 0⟩, ⟨0x40, 8, 0, 1, 0, 1, 0⟩,
  ⟨0x48, 8, 0, 1, 0, 1, 0⟩, ⟨0x50, 4, 0, 1, 0, 1, 0⟩, ⟨0x54, 4, 0, 1, 0, 1, 0⟩, ⟨0x58, 8, 0, 1, 0, 1, 0⟩,
  ⟨0x60, 4, 0, 1, 0, 1, 0⟩, ⟨0x64, 4, 0, 1, 0, 1, 0⟩, ⟨0x68, 4, 0, 1, 0, 1, 0⟩, ⟨0x70, 4, 0, 1, 0, 1, 0⟩,
  ⟨0x74, 4, 0, 1, 0, 1, 0⟩, ⟨0x78, 8, 0, 1, 0, 1, 0⟩, ⟨0x80, 4, 0, 32, 4, 1, 0⟩]

/-- The registers of MTE, by rising offset: MTE_CTRL, MTE_STATUS, MTE_ERR, MTE_ERR_INFO, MTE_COMMIT, MTE_ACTIVE_GEN, MTE_BANK_CMD, MTE_BANK_STATE, MTE_STAT_SEARCH, MTE_STAT_MULTI, MTE_STAT_UPD, MTE_ENTRY_STAGE, MTE_UPD_CMD, MTE_UPD_RESULT, MTE_BULK_SRC, MTE_BULK_CMD, MTE_SEARCH_KEY, MTE_SEARCH_CMD, MTE_SEARCH_RESULT, MTE_TBL_CFG, MTE_TBL_DEFAULT. -/
def regsMTE : List Reg := [
  ⟨0x0, 4, 0, 1, 0, 1, 0⟩, ⟨0x4, 4, 0, 1, 0, 1, 0⟩, ⟨0x8, 4, 0, 1, 0, 1, 0⟩, ⟨0xC, 4, 0, 1, 0, 1, 0⟩,
  ⟨0x10, 4, 0, 1, 0, 1, 0⟩, ⟨0x14, 4, 0, 1, 0, 1, 0⟩, ⟨0x18, 4, 0, 1, 0, 1, 0⟩, ⟨0x1C, 4, 0, 1, 0, 1, 0⟩,
  ⟨0x20, 8, 0, 1, 0, 1, 0⟩, ⟨0x28, 8, 0, 1, 0, 1, 0⟩, ⟨0x30, 8, 0, 1, 0, 1, 0⟩, ⟨0x40, 96, 0, 1, 0, 1, 0⟩,
  ⟨0xA0, 4, 0, 1, 0, 1, 0⟩, ⟨0xA4, 4, 0, 1, 0, 1, 0⟩, ⟨0xA8, 8, 0, 1, 0, 1, 0⟩, ⟨0xB0, 4, 0, 1, 0, 1, 0⟩,
  ⟨0xC0, 40, 0, 1, 0, 1, 0⟩, ⟨0xE8, 4, 0, 1, 0, 1, 0⟩, ⟨0xF0, 16, 0, 1, 0, 1, 0⟩, ⟨0x100, 4, 0, 16, 8, 1, 0⟩,
  ⟨0x104, 4, 0, 16, 8, 1, 0⟩]

/-- The registers of OWN, by rising offset: OWN_CTRL, OWN_STATUS, OWN_ERR, OWN_ERR_INFO, OWN_COMMIT, OWN_ACTIVE_GEN, OWN_LEASE, OWN_KEY, OWN_LGEN, OWN_AGEN, OWN_EXPIRY, OWN_RTT, OWN_GRP, OWN_CMD, OWN_CMD_RESULT, OWN_DRILL, OWN_DRILL_STATUS, OWN_IK_CFG, OWN_STAT_TAKEOVER, OWN_LAST_OUTAGE_US, OWN_SET_SEL, OWN_SET_STATE, OWN_IK, OWN_IK_ARRAY, OWN_HOME. -/
def regsOWN : List Reg := [
  ⟨0x0, 4, 0, 1, 0, 1, 0⟩, ⟨0x4, 4, 0, 1, 0, 1, 0⟩, ⟨0x8, 4, 0, 1, 0, 1, 0⟩, ⟨0xC, 4, 0, 1, 0, 1, 0⟩,
  ⟨0x10, 4, 0, 1, 0, 1, 0⟩, ⟨0x14, 4, 0, 1, 0, 1, 0⟩, ⟨0x18, 4, 0, 1, 0, 1, 0⟩, ⟨0x1C, 4, 0, 1, 0, 1, 0⟩,
  ⟨0x20, 4, 0, 1, 0, 1, 0⟩, ⟨0x24, 4, 0, 1, 0, 1, 0⟩, ⟨0x28, 8, 0, 1, 0, 1, 0⟩, ⟨0x30, 4, 0, 1, 0, 1, 0⟩,
  ⟨0x34, 4, 0, 1, 0, 1, 0⟩, ⟨0x38, 4, 0, 1, 0, 1, 0⟩, ⟨0x3C, 4, 0, 1, 0, 1, 0⟩, ⟨0x40, 4, 0, 1, 0, 1, 0⟩,
  ⟨0x44, 4, 0, 1, 0, 1, 0⟩, ⟨0x48, 4, 0, 1, 0, 1, 0⟩, ⟨0x4C, 4, 0, 1, 0, 1, 0⟩, ⟨0x50, 4, 0, 1, 0, 1, 0⟩,
  ⟨0x54, 4, 0, 1, 0, 1, 0⟩, ⟨0x58, 4, 0, 1, 0, 1, 0⟩, ⟨0x60, 16, 0, 3, 16, 1, 0⟩, ⟨0x1000, 8, 0, 512, 8, 1, 0⟩,
  ⟨0x2000, 4, 0, 32, 4, 1, 0⟩]

/-- The registers of SNP, by rising offset: SNP_CTRL, SNP_STATUS, SNP_ERR, SNP_ERR_INFO, SNP_COMMIT, SNP_ACTIVE_GEN, SNP_CFG, SNP_CMD, SNP_CMD_RESULT, SNP_CMD_ARG, SNP_EPOCHS, SNP_STAT_CWAIT, SNP_SCHED, SNP_RLINK, SNP_RLINK_STAT. -/
def regsSNP : List Reg := [
  ⟨0x0, 4, 0, 1, 0, 1, 0⟩, ⟨0x4, 4, 0, 1, 0, 1, 0⟩, ⟨0x8, 4, 0, 1, 0, 1, 0⟩, ⟨0x10, 8, 0, 1, 0, 1, 0⟩,
  ⟨0x18, 4, 0, 1, 0, 1, 0⟩, ⟨0x1C, 4, 0, 1, 0, 1, 0⟩, ⟨0x20, 4, 0, 1, 0, 1, 0⟩, ⟨0x24, 4, 0, 1, 0, 1, 0⟩,
  ⟨0x28, 8, 0, 1, 0, 1, 0⟩, ⟨0x40, 32, 0, 1, 0, 1, 0⟩, ⟨0x60, 4, 0, 1, 0, 1, 0⟩, ⟨0x68, 8, 0, 1, 0, 1, 0⟩,
  ⟨0x1000, 32, 1, 31, 32, 1, 0⟩, ⟨0x2000, 32, 1, 31, 32, 1, 0⟩, ⟨0x3000, 16, 1, 31, 16, 1, 0⟩]

/-- The registers of LPE, by rising offset: LPE_CTRL, LPE_ERR, LPE_ERR_INFO, LPE_COMMIT, LPE_ACTIVE_GEN, LPE_RUN, LPE_TRIPPED, LPE_DELAY_MAX, LPE_LOOP_CFG, LPE_LOOP_CTRL, LPE_LOOP_SP, LPE_LOOP_RAMP, LPE_LOOP_LIM, LPE_LOOP_SAFE, LPE_LOOP_FB, LPE_COEF, LPE_MODEL, LPE_SUP, LPE_LOOP_FLAGS, LPE_LOOP_STATE, LPE_LOOP_STAT. -/
def regsLPE : List Reg := [
  ⟨0x0, 4, 0, 1, 0, 1, 0⟩, ⟨0x4, 4, 0, 1, 0, 1, 0⟩, ⟨0x8, 4, 0, 1, 0, 1, 0⟩, ⟨0xC, 4, 0, 1, 0, 1, 0⟩,
  ⟨0x10, 4, 0, 1, 0, 1, 0⟩, ⟨0x18, 8, 0, 1, 0, 1, 0⟩, ⟨0x20, 8, 0, 1, 0, 1, 0⟩, ⟨0x28, 4, 0, 1, 0, 1, 0⟩,
  ⟨0x1000, 4, 0, 64, 128, 1, 0⟩, ⟨0x1004, 4, 0, 64, 128, 1, 0⟩, ⟨0x1008, 4, 0, 64, 128, 1, 0⟩, ⟨0x100C, 4, 0, 64, 128, 1, 0⟩,
  ⟨0x1010, 8, 0, 64, 128, 1, 0⟩, ⟨0x1018, 4, 0, 64, 128, 1, 0⟩, ⟨0x101C, 4, 0, 64, 128, 1, 0⟩, ⟨0x1020, 16, 0, 64, 128, 2, 16⟩,
  ⟨0x1040, 16, 0, 64, 128, 1, 0⟩, ⟨0x1050, 4, 0, 64, 128, 1, 0⟩, ⟨0x1058, 4, 0, 64, 128, 1, 0⟩, ⟨0x1060, 20, 0, 64, 128, 1, 0⟩,
  ⟨0x1078, 8, 0, 64, 128, 1, 0⟩]

/-- The registers of AGE, by rising offset: AGE_CTRL, AGE_STATUS, AGE_ERR, AGE_COMMIT, AGE_ACTIVE_GEN, AGE_CFG, AGE_GB, AGE_WARN, AGE_LAST, AGE_SLACK, AGE_DEGRADE, AGE_GUARD, AGE_CEIL, AGE_MARGIN, AGE_EYE, AGE_FLASH, AGE_TEMP, AGE_FUSE, AGE_PDM, AGE_RO, AGE_TS. -/
def regsAGE : List Reg := [
  ⟨0x0, 4, 0, 1, 0, 1, 0⟩, ⟨0x4, 4, 0, 1, 0, 1, 0⟩, ⟨0x8, 4, 0, 1, 0, 1, 0⟩, ⟨0xC, 4, 0, 1, 0, 1, 0⟩,
  ⟨0x10, 4, 0, 1, 0, 1, 0⟩, ⟨0x14, 4, 0, 1, 0, 1, 0⟩, ⟨0x18, 8, 0, 1, 0, 1, 0⟩, ⟨0x20, 4, 0, 1, 0, 1, 0⟩,
  ⟨0x28, 8, 0, 1, 0, 1, 0⟩, ⟨0x30, 4, 0, 1, 0, 1, 0⟩, ⟨0x38, 8, 0, 1, 0, 1, 0⟩, ⟨0x40, 4, 0, 1, 0, 1, 0⟩,
  ⟨0x44, 4, 0, 1, 0, 1, 0⟩, ⟨0x48, 8, 0, 1, 0, 1, 0⟩, ⟨0x50, 8, 0, 1, 0, 1, 0⟩, ⟨0x58, 4, 0, 1, 0, 1, 0⟩,
  ⟨0x5C, 4, 0, 1, 0, 1, 0⟩, ⟨0x60, 4, 0, 1, 0, 1, 0⟩, ⟨0x1000, 4, 0, 512, 4, 1, 0⟩, ⟨0x2000, 4, 0, 64, 4, 1, 0⟩,
  ⟨0x2100, 4, 0, 128, 4, 1, 0⟩]

/-- The registers of ADM, by rising offset: ADM_STATUS, ADM_ERR, ADM_PENDING, ADM_COMMIT, ADM_ACTIVE_GEN, ADM_CMD, ADM_IMG_ADDR, ADM_IMG_LEN, ADM_IMG_GEN, ADM_RESULT, ADM_REQUIRED, ADM_OFFERED, ADM_TIME, ADM_QOS, ADM_STAT_REFUSED. -/
def regsADM : List Reg := [
  ⟨0x0, 4, 0, 1, 0, 1, 0⟩, ⟨0x4, 4, 0, 1, 0, 1, 0⟩, ⟨0x8, 4, 0, 1, 0, 1, 0⟩, ⟨0x10, 4, 0, 1, 0, 1, 0⟩,
  ⟨0x14, 4, 0, 1, 0, 1, 0⟩, ⟨0x18, 4, 0, 1, 0, 1, 0⟩, ⟨0x20, 8, 0, 1, 0, 1, 0⟩, ⟨0x28, 4, 0, 1, 0, 1, 0⟩,
  ⟨0x2C, 4, 0, 1, 0, 1, 0⟩, ⟨0x30, 8, 0, 1, 0, 1, 0⟩, ⟨0x38, 8, 0, 1, 0, 1, 0⟩, ⟨0x40, 8, 0, 1, 0, 1, 0⟩,
  ⟨0x48, 16, 0, 1, 0, 1, 0⟩, ⟨0x58, 4, 0, 1, 0, 1, 0⟩, ⟨0x5C, 4, 0, 1, 0, 1, 0⟩]

/-- The registers of GBK, by rising offset: GBK_CTRL, GBK_STATUS, GBK_ERR, GBK_COMMIT, GBK_ACTIVE_GEN, GBK_KEY, GBK_HEAD_SEQ, GBK_FLOOR, GBK_LOST, GBK_ALARM, GBK_ALARM_MASK, GBK_COPY_ADDR, GBK_COPY_FIRST, GBK_COPY_CMD, GBK_COPY_RESULT, GBK_CLEAR_TOKEN, GBK_CLEAR_CMD, GBK_CLEAR_RESULT, GBK_STAGE_DEPTH. -/
def regsGBK : List Reg := [
  ⟨0x0, 4, 0, 1, 0, 1, 0⟩, ⟨0x4, 4, 0, 1, 0, 1, 0⟩, ⟨0x8, 4, 0, 1, 0, 1, 0⟩, ⟨0xC, 4, 0, 1, 0, 1, 0⟩,
  ⟨0x10, 4, 0, 1, 0, 1, 0⟩, ⟨0x14, 4, 0, 1, 0, 1, 0⟩, ⟨0x18, 8, 0, 1, 0, 1, 0⟩, ⟨0x20, 8, 0, 1, 0, 1, 0⟩,
  ⟨0x28, 4, 0, 1, 0, 1, 0⟩, ⟨0x2C, 4, 0, 1, 0, 1, 0⟩, ⟨0x30, 4, 0, 1, 0, 1, 0⟩, ⟨0x38, 8, 0, 1, 0, 1, 0⟩,
  ⟨0x40, 8, 0, 1, 0, 1, 0⟩, ⟨0x48, 4, 0, 1, 0, 1, 0⟩, ⟨0x4C, 4, 0, 1, 0, 1, 0⟩, ⟨0x50, 48, 0, 1, 0, 1, 0⟩,
  ⟨0x80, 4, 0, 1, 0, 1, 0⟩, ⟨0x84, 4, 0, 1, 0, 1, 0⟩, ⟨0x88, 4, 0, 1, 0, 1, 0⟩]

/-- The registers of FWU, by rising offset: FWU_CTRL, FWU_STATUS, FWU_ERR, FWU_COMMIT, FWU_ACTIVE_GEN, FWU_DEADLINE, FWU_ACT, FWU_STAGE_ADDR, FWU_STAGE_LEN, FWU_CMD, FWU_CMD_RESULT, FWU_CONFIRM, FWU_CFG, FWU_SLOT_INFO. -/
def regsFWU : List Reg := [
  ⟨0x0, 4, 0, 1, 0, 1, 0⟩, ⟨0x4, 4, 0, 1, 0, 1, 0⟩, ⟨0x8, 4, 0, 1, 0, 1, 0⟩, ⟨0xC, 4, 0, 1, 0, 1, 0⟩,
  ⟨0x10, 4, 0, 1, 0, 1, 0⟩, ⟨0x18, 8, 0, 1, 0, 1, 0⟩, ⟨0x20, 16, 0, 1, 0, 1, 0⟩, ⟨0x30, 8, 0, 1, 0, 1, 0⟩,
  ⟨0x38, 4, 0, 1, 0, 1, 0⟩, ⟨0x3C, 4, 0, 1, 0, 1, 0⟩, ⟨0x40, 4, 0, 1, 0, 1, 0⟩, ⟨0x44, 4, 0, 1, 0, 1, 0⟩,
  ⟨0x48, 8, 0, 1, 0, 1, 0⟩, ⟨0x50, 16, 0, 2, 16, 1, 0⟩]

/-- The registers of PWR, by rising offset: PWR_CTRL, PWR_STATUS, PWR_ERR, PWR_ERR_INFO, PWR_COMMIT, PWR_ACTIVE_GEN, PWR_DOM_CMD, PWR_DOM_RESULT, PWR_DOM_STATE, PWR_AVS, PWR_POLL, PWR_RST_CMD, PWR_RST_CAUSE, PWR_BOOT_US, PWR_VDD, PWR_CHAIN, PWR_PMB_DEV. -/
def regsPWR : List Reg := [
  ⟨0x0, 4, 0, 1, 0, 1, 0⟩, ⟨0x4, 4, 0, 1, 0, 1, 0⟩, ⟨0x8, 4, 0, 1, 0, 1, 0⟩, ⟨0xC, 4, 0, 1, 0, 1, 0⟩,
  ⟨0x10, 4, 0, 1, 0, 1, 0⟩, ⟨0x14, 4, 0, 1, 0, 1, 0⟩, ⟨0x18, 4, 0, 1, 0, 1, 0⟩, ⟨0x1C, 4, 0, 1, 0, 1, 0⟩,
  ⟨0x20, 8, 0, 1, 0, 1, 0⟩, ⟨0x28, 4, 0, 1, 0, 1, 0⟩, ⟨0x2C, 4, 0, 1, 0, 1, 0⟩, ⟨0x30, 4, 0, 1, 0, 1, 0⟩,
  ⟨0x34, 4, 0, 1, 0, 1, 0⟩, ⟨0x38, 4, 0, 1, 0, 1, 0⟩, ⟨0x3C, 4, 0, 1, 0, 1, 0⟩, ⟨0x40, 8, 0, 2, 8, 1, 0⟩,
  ⟨0x80, 4, 0, 16, 4, 1, 0⟩]

/-- The registers of DBG, by rising offset: DBG_CTRL, DBG_STATUS, DBG_ERR, DBG_ERR_INFO, DBG_COMMIT, DBG_ACTIVE_GEN, DBG_MUX, DBG_LOOP, DBG_LOOP_STAT, DBG_FUSE_CMD, DBG_FUSE_DATA, DBG_FUSE_RESULT. -/
def regsDBG : List Reg := [
  ⟨0x0, 4, 0, 1, 0, 1, 0⟩, ⟨0x4, 4, 0, 1, 0, 1, 0⟩, ⟨0x8, 4, 0, 1, 0, 1, 0⟩, ⟨0xC, 4, 0, 1, 0, 1, 0⟩,
  ⟨0x10, 4, 0, 1, 0, 1, 0⟩, ⟨0x14, 4, 0, 1, 0, 1, 0⟩, ⟨0x20, 4, 0, 2, 4, 1, 0⟩, ⟨0x28, 4, 0, 1, 0, 1, 0⟩,
  ⟨0x30, 8, 0, 1, 0, 1, 0⟩, ⟨0x38, 4, 0, 1, 0, 1, 0⟩, ⟨0x40, 48, 0, 1, 0, 1, 0⟩, ⟨0x70, 4, 0, 1, 0, 1, 0⟩]

/-- The registers of a block, by its index (Table 25.1). -/
def blockRegs (b : Nat) : List Reg :=
  match b with
  | 0 => regsGLB
  | 1 => regsCAR
  | 2 => regsHRI
  | 3 => regsNET
  | 4 => regsNVF
  | 5 => regsRDM
  | 6 => regsPOL
  | 7 => regsPJM
  | 8 => regsISL
  | 9 => regsDDP
  | 10 => regsCMP
  | 11 => regsCIP
  | 12 => regsMAP
  | 13 => regsMDC
  | 14 => regsFLC
  | 15 => regsSTR
  | 16 => regsGCX
  | 17 => regsKVS
  | 18 => regsMTE
  | 19 => regsOWN
  | 20 => regsSNP
  | 21 => regsLPE
  | 22 => regsAGE
  | 23 => regsADM
  | 24 => regsGBK
  | 25 => regsFWU
  | 26 => regsPWR
  | 27 => regsDBG
  | _ => []

end Sys2Proof.Machine
end

