-- ==== Sys2Proof/Machine/Regio.lean ====
section
/-!
DEFINITION. Accesses to BAR0 (R2 to R4, R518 to R524): where an access lands, what a field reads as, and what a write does to a
field by its access type and change class.  Enables and commands are added in Machine/Enable.lean and Machine/Bar0.lean.
-/
namespace Sys2Proof.Machine

open Sys2Proof

/-! ## The map -/

/-- Bytes `o` to `o + n - 1` of a window lie in one instance of a register (R518). -/
def Reg.covers (r : Reg) (o n : Nat) : Bool :=
  (List.range r.count2).any (fun j =>
    let base := r.off + j * r.stride2
    let i := if r.stride = 0 then 0 else (o - base) / r.stride
    decide (base ≤ o) && decide (r.first ≤ i) && decide (i < r.first + r.count) && decide (o - base - i * r.stride + n ≤ r.bytes))

/-- The register whose instance holds those bytes. -/
def regAt (b o n : Nat) : Option Reg := (blockRegs b).find? (fun r => r.covers o n)

/-- An instance of a field. -/
structure Hit where
  f : Field
  i : Nat
  j : Nat
deriving DecidableEq, Repr

/-- The bit address of an instance within its block's window. -/
def Hit.place (h : Hit) : Nat := h.f.reg * 8 + h.f.lo + h.i * h.f.stride + h.j * h.f.stride2

/-- The instances of a field that an access to bits `a` to `a + n - 1` of the window touches. -/
def hitsOf (f : Field) (a n : Nat) : List Hit :=
  (List.range f.count2).flatMap (fun j =>
    let q := if f.stride = 0 then 0 else (a - (f.reg * 8 + f.lo + j * f.stride2)) / f.stride
    ([q, q + 1].map (fun i => Hit.mk f i j)).filter (fun h =>
      decide (f.first ≤ h.i ∧ h.i < f.first + f.count ∧ h.place < a + n ∧ a < h.place + f.width)))

/-- The instances an access touches, in the order of the block's table. -/
def hitsAt (b a n : Nat) : List Hit := (blockFields b).flatMap (fun f => hitsOf f a n)

/-! ## What fields read as -/

/-- The number with the bits `p` selects among the first `n`. -/
def maskOf (n : Nat) (p : Nat → Bool) : Nat := (List.range n).foldl (fun a k => if p k then a + 2 ^ k else a) 0

/-- A count in a field of `w` bits: it stops at all ones. -/
def capped (w v : Nat) : Nat := min v (2 ^ w - 1)

/-- The stage of the head (`GLB_STATUS.STAGE`). -/
def State.stageOf (s : State) : Nat :=
  if s.aon.mainReset then 0
  else if !s.rdb Fld.GLB_HEAD_ID_VALID then 1
  else if s.leaseIsHeld && (s.rdb Fld.NVF_CTRL_ENABLE || s.rdb Fld.KVS_CTRL_ENABLE || s.rdb Fld.HRI_CTRL_ENABLE) then 3
  else 2

/-- Stripes of a PG in one of the states `p` accepts. -/
def State.pgStripes (s : State) (g : Nat) (p : StripeSt → Bool) : Nat :=
  s.str.stripes.countP (fun k x => bandOf k % 65536 == g && p x.st)

/-- The queue pairs of OWN, by rising index: the i-th serves innkeeper i. -/
def State.ikQp (s : State) (i : Nat) : Option (Nat × Qp) := (s.rdm.qps.filter (fun e => e.2.consumer == Blk.OWN))[i]?

/-- Sensors that pass their self-check, with their readings as signed Q8.8. -/
def State.sensors (s : State) : List (Nat × Int) :=
  ((List.range 128).filter (fun n => Config.sensorOk n s.now)).map (fun n => (n, signedOf 16 (Config.sensorC n s.now % 65536)))

/-- The hottest sensor. -/
def State.hottest (s : State) : Option (Nat × Int) :=
  s.sensors.foldl (fun a e => match a with
    | some x => if x.2 < e.2 then some e else a
    | none => some e) none

/-- The attributes of the key-value namespace that `KVS_NS_SEL` names. -/
def State.kvSel (s : State) : NsKv :=
  s.kvs.ns.getD (s.rd Fld.KVS_NS_SEL_NSID) { cluster := false, span := false, hashLen := 0, k := 0, m := 0, nset := 0, entries := [] }

/-- Fields of the always-on domain, GLB, CAR, HRI and NVF that show state kept elsewhere. -/
def State.shownFront (s : State) : List (Field × (Nat → Nat)) :=
  [(Fld.GLB_HEAD_SIDE, fun _ => s.aon.side.code), (Fld.GLB_HEAD_BIF, fun _ => s.rd Fld.HRI_STATUS_BIF),
   (Fld.GLB_STATUS_STAGE, fun _ => s.stageOf), (Fld.GLB_STATUS_TOCSIN, fun _ => b2n s.tocsin),
   (Fld.GLB_STATUS_TIME_VALID, fun _ => b2n s.timeValid), (Fld.GLB_BLK_EN_MASK, fun _ => maskOf 28 s.enabled),
   (Fld.GLB_INT_STATUS_BLOCKS, fun _ => s.errSummary),
   (Fld.CAR_STATUS_PPS_SEEN, fun _ => b2n (match s.car.ppsInAt with
     | some t => decide (s.now < t + 1500000 * unitsPerUs)
     | none => false)),
   (Fld.CAR_STATUS_LEAP_PENDING, fun _ => b2n (s.rdb Fld.CAR_UTC_LEAP61 || s.rdb Fld.CAR_UTC_LEAP59)),
   (Fld.CAR_NOW_NS_LO, fun _ => s.ct16 / 65536 % 2 ^ 32), (Fld.CAR_EPS, fun _ => s.epsNs),
   (Fld.NVF_STATUS_ACCEPTING, fun _ => b2n (s.rdb Fld.NVF_CTRL_ENABLE && (List.range 64).any s.listens)),
   (Fld.NVF_STATUS_FWD_UP, fun _ => b2n (s.linkUp && !s.rdb Fld.ISL_STATUS_SUSPECT)),
   (Fld.NVF_ASSOC_COUNT_COUNT, fun _ => s.nvf.assocs.length),
   (Fld.NVF_DEFERRED_COUNT_COUNT, fun _ => s.nvf.deferred.foldl (fun a p => a + p.entries.length) 0),
   (Fld.NVF_ANA_GRP_STATE, fun i => anaCode (s.setState i))]

/-- Fields of RDM, POL, PJM, DDP, CMP and CIP that show state kept elsewhere. -/
def State.shownData (s : State) : List (Field × (Nat → Nat)) :=
  [(Fld.RDM_STATUS_ENG_UP, fun _ => maskOf 8 (fun e => s.rdb Fld.RDM_CTRL_ENABLE && s.domainOn (16 + e))),
   (Fld.POL_POOL_STAT_FREE, fun p => s.poolFree p),
   (Fld.PJM_STATUS_CH_OK, fun _ => s.chOk), (Fld.PJM_STATUS_JOURNAL_OPEN, fun _ => b2n s.journalOpen),
   (Fld.PJM_LOG_USED_MIB, fun _ => (List.range 8).foldl (fun a c => a + s.chanLive c) 0 / 16384),
   (Fld.PJM_CH_STATUS_SIZE_MIB, fun _ => Config.pjmMib), (Fld.PJM_CH_STATUS_LIVE_KIB, fun c => s.chanLive c / 16),
   (Fld.DDP_DEFER_DEPTH_COUNT, fun _ => s.ddp.deferQ.length),
   (Fld.DDP_PINS_COUNT, fun _ => s.ddp.idx.foldl (fun a e => a + e.2.pins) 0),
   (Fld.CMP_STATUS_CLUSTER_UP, fun _ => maskOf 16 (fun k => s.rdb Fld.CMP_CTRL_ENABLE && s.domainOn (45 + k / 4))),
   (Fld.CMP_JOBS_WAITING_COUNT, fun _ => capped 16 (s.hri.rings.foldl (fun a e =>
     a + e.2.subs.countP (fun _ u => !u.started && (u.e.opcode == 0x20 || u.e.opcode == 0x21))) 0)),
   (Fld.CIP_STATUS_PIPE_UP, fun _ => maskOf 32 (fun k => s.rdb Fld.CIP_CTRL_ENABLE && s.domainOn (49 + k / 16))),
   (Fld.CIP_SLOT_STATE_BOUND, fun k => b2n (s.keyBound k))]

/-- Fields of MAP, FLC, STR and GCX that show state kept elsewhere. -/
def State.shownMedia (s : State) : List (Field × (Nat → Nat)) :=
  let fp := s.pg (s.rd Fld.FLC_PG_SEL_PG)
  let sg := s.rd Fld.STR_PG_SEL_PG
  let gg := s.rd Fld.GCX_PG_SEL_PG
  [(Fld.MAP_STATUS_CKPT_ACTIVE, fun _ => b2n (s.map.sets.any (fun e => e.2.run.isSome))),
   (Fld.MAP_STATUS_MERGING, fun _ => b2n (s.map.sets.any (fun e => e.2.merging))),
   (Fld.MAP_DELTA_PENDING_MIB, fun _ => s.map.sets.foldl (fun a e => a + e.2.bytes) 0 / 1048576),
   (Fld.MAP_DIRTY_PAGES_COUNT, fun _ => s.map.dirty.length),
   (Fld.FLC_STATUS_GRP_DRIVEN, fun _ => maskOf 16 s.aon.drivers.mem),
   (Fld.FLC_STATUS_READY, fun _ => b2n (s.heldChans.all (fun c =>
     s.rd Fld.FLC_CH_STATUS_STATE c == flcInService || s.rd Fld.FLC_CH_STATUS_STATE c == flcFailed))),
   (Fld.FLC_SLC_FREE_PCT, fun _ => s.slcFree),
   (Fld.FLC_PG_MEDIA_STATE, fun _ => match fp.media with
     | .normal => 0
     | .lowSpare => 1
     | .readOnly => 2),
   (Fld.FLC_PG_MEDIA_FREE_BLOCKS, fun _ => fp.freeBlocks - fp.spares), (Fld.FLC_PG_MEDIA_SPARES, fun _ => fp.spares),
   (Fld.FLC_GRP_STATUS_CLAIM_OUT, fun g => b2n (s.aon.claimOut.mem g)), (Fld.FLC_GRP_STATUS_CLAIM_IN, fun g => b2n (s.aon.claimIn.mem g)),
   (Fld.FLC_GRP_STATUS_LEASE_RUN, fun _ => b2n s.aon.timerRuns), (Fld.FLC_GRP_STATUS_DRIVEN, fun g => b2n (s.aon.drivers.mem g)),
   (Fld.FLC_GRP_STATUS_TAKING_UP, fun g => b2n (s.aon.drivers.mem g && !s.flc.takenUp.mem g)),
   (Fld.STR_STATUS_REBUILDING, fun _ => b2n (s.str.rebuild != [])),
   (Fld.STR_STATUS_DEGRADED, fun _ => b2n (s.str.stripes.any (fun e => e.2.st == .degraded || e.2.st == .sealed))),
   (Fld.STR_REBUILD_STATUS_REMAIN_GIB, fun _ => s.str.rebuild.foldl (fun a k => a + (match s.str.bands.look k with
     | some b => b.span
     | none => 0)) 0 / 2 ^ 30),
   (Fld.STR_PG_INFO_OPEN, fun _ => capped 16 (s.pgStripes sg (fun t => t == .opened || t == .sealed))),
   (Fld.STR_PG_INFO_DEGRADED, fun _ => capped 16 (s.pgStripes sg (fun t => t == .degraded))),
   (Fld.STR_PG_INFO_LOST, fun _ => capped 16 (s.pgStripes sg (fun t => t == .lost))),
   (Fld.STR_PG_GEOM_D, fun _ => match s.pgs.look sg with
     | some p => p.d
     | none => s.rd Fld.STR_PG_GEOM_D),
   (Fld.STR_PG_GEOM_P, fun _ => match s.pgs.look sg with
     | some p => p.p
     | none => s.rd Fld.STR_PG_GEOM_P),
   (Fld.GCX_STATUS_ACTIVE, fun _ => b2n (s.str.bands.any (fun e => e.2.st == .claimed || e.2.st == .copied))),
   (Fld.GCX_STATUS_SWEEPING, fun _ => b2n s.gcx.sweeping), (Fld.GCX_TABLE_USED_COUNT, fun _ => s.gcx.table.length),
   (Fld.GCX_PG_INFO_FREE_PCT, fun _ => (s.pg gg).freePct),
   (Fld.GCX_PG_INFO_HELD, fun _ => s.str.bands.countP (fun k b => k % 65536 == gg && b.st == .held)),
   (Fld.GCX_PG_CFG_HEADROOM_BANDS, fun _ => match s.pgs.look gg with
     | some p => p.headroom
     | none => s.rd Fld.GCX_PG_CFG_HEADROOM_BANDS)]

/-- Fields of KVS, MTE, OWN, SNP, AGE, GBK and PWR that show state kept elsewhere. -/
def State.shownService (s : State) : List (Field × (Nat → Nat)) :=
  let o := s.rd Fld.OWN_SET_SEL_OSET
  let kv := s.kvSel
  [(Fld.KVS_SESSIONS_COUNT, fun _ => s.attachedCount), (Fld.KVS_NS_CFG_SCOPE, fun _ => b2n kv.cluster),
   (Fld.KVS_NS_CFG_CLASS, fun _ => b2n kv.span), (Fld.KVS_NS_CFG_HASH_LEN, fun _ => kv.hashLen), (Fld.KVS_NS_CFG_K, fun _ => kv.k),
   (Fld.KVS_NS_CFG_M, fun _ => kv.m), (Fld.KVS_NS_CFG_NSET, fun _ => kv.nset), (Fld.KVS_SPAN_SET_ARRAY, fun j => kv.entries.getD j 0),
   (Fld.MTE_STATUS_BANK_UP, fun _ => maskOf 8 (fun k => s.domainOn (53 + k / 2))),
   (Fld.MTE_STATUS_UPD_FULL, fun _ => b2n (decide (256 ≤ s.mte.queue.length))),
   (Fld.OWN_STATUS_FENCE_IN, fun _ => b2n s.aon.fenceIn), (Fld.OWN_STATUS_FENCE_OUT, fun _ => b2n s.aon.fenceOut),
   (Fld.OWN_GRP_HELD_MASK, fun _ => maskOf 16 s.aon.claimMask.mem), (Fld.OWN_SET_STATE_STATE, fun _ => s.setState o),
   (Fld.OWN_SET_STATE_HOLDER, fun _ => (s.own.sets.getD o .a).code), (Fld.OWN_SET_STATE_HOME, fun _ => (s.homeOf o).code),
   (Fld.OWN_IK_QP, fun i => match s.ikQp i with
     | some e => e.1
     | none => 0),
   (Fld.OWN_IK_UP, fun i => match s.ikQp i with
     | some e => b2n (e.2.st == .rts)
     | none => 0),
   (Fld.SNP_STATUS_SEALING, fun _ => b2n (s.snp.cat.any (fun e => e.2.state == epSealing))),
   (Fld.SNP_STATUS_DELETING, fun _ => b2n (s.snp.cat.any (fun e => e.2.state == epDeleting))),
   (Fld.SNP_STATUS_FLUSHING, fun _ => b2n (s.snp.flushes != [])), (Fld.SNP_EPOCHS_COUNT, fun _ => s.snp.cat.length),
   (Fld.AGE_TEMP_MAX_C, fun _ => match s.hottest with
     | some e => unsignedOf 16 e.2
     | none => 0),
   (Fld.AGE_TEMP_SENSOR, fun _ => match s.hottest with
     | some e => e.1
     | none => 0),
   (Fld.AGE_TS_TEMP, fun n => Config.sensorC n s.now % 65536), (Fld.AGE_TS_VALID, fun n => b2n (Config.sensorOk n s.now)),
   (Fld.GBK_STAGE_DEPTH_COUNT, fun _ => s.gbk.staging.length), (Fld.PWR_STATUS_QUEUED, fun _ => capped 5 s.pwr.queue.length)]

/-- Fields that show state kept elsewhere, by block. -/
def State.shown (s : State) (b : Nat) : List (Field × (Nat → Nat)) :=
  if b ≤ 4 then s.shownFront else if b ≤ 11 then s.shownData else if b ≤ 16 then s.shownMedia else s.shownService

/-- A field of a Carillon slot of the head's firmware, which reads as zero through BAR0 (R75). -/
def hiddenSlot (f : Field) (i : Nat) : Bool := f.blk == Blk.CAR && decide (0x80000 ≤ f.reg) && firmwareSlot i

/-- What a field reads as: 0 for WO (R2), state kept elsewhere where the field shows it, else its value in force. -/
def State.readField (s : State) (f : Field) (i j : Nat) : Nat :=
  if f.acc = .wo ∨ hiddenSlot f i = true then 0
  else
    match (s.shown f.blk).find? (fun e => e.1 == f) with
    | some e => e.2 i % 2 ^ f.width
    | none => s.rd f i j

/-- The value of bits `a` to `a + n - 1` of a window. -/
def State.readBits (s : State) (b a n : Nat) : Nat :=
  (hitsAt b a n).foldl (fun v h =>
    let lo := max h.place a
    let hi := min (h.place + h.f.width) (a + n)
    v + bitsOf (s.readField h.f h.i h.j) (lo - h.place) (hi - lo) * 2 ^ (lo - a)) 0

/-! ## Errors of an access -/

/-- An access sets a bit of `GLB_ERR` (R524): KIND 1 CFG_LIVE, 2 BAD_OFFSET, 3 BAD_SIZE. -/
def State.glbErr (s : State) (kind off : Nat) (write : Bool) : State :=
  let s := s.raise (if kind = 1 then Fld.GLB_ERR_CFG_LIVE else if kind = 2 then Fld.GLB_ERR_BAD_OFFSET else Fld.GLB_ERR_BAD_SIZE)
  ((s.wr Fld.GLB_ERR_INFO_OFFSET off).wrb Fld.GLB_ERR_INFO_WRITE write).wr Fld.GLB_ERR_INFO_KIND kind

/-- The power domains without which a block's registers cannot be reached (R482, Table 23.1); a block with none is always powered. -/
def domainsOf (b : Nat) : List Nat :=
  if b = Blk.HRI then [28] else if b = Blk.RDM then (List.range 8).map (16 + ·) else if b = Blk.PJM then [62]
  else if b = Blk.ISL then [24, 25, 26, 27] else if b = Blk.DDP then [51, 52] else if b = Blk.CMP then [45, 46, 47, 48]
  else if b = Blk.CIP then [49, 50] else if b = Blk.MDC then (List.range 8).map (37 + ·) else if b = Blk.FLC then List.range 16
  else if b = Blk.MTE then [53, 54, 55, 56] else if b = Blk.LPE then [61] else []

/-- The domains of a block are all off (R482). -/
def State.blockOff (s : State) (b : Nat) : Bool := domainsOf b != [] && (domainsOf b).all (fun d => !s.domainOn d)

/-! ## Writes -/

/-- The owner of an S field is disabled, so that a write is accepted (R4): a ring, a port, the ports of an octet, a pool, a loop, a
key-value namespace, or the block. -/
def State.staticOpen (s : State) (f : Field) (i : Nat) : Bool :=
  if f.blk = Blk.HRI ∧ 0x40000 ≤ f.reg then s.ringSt i == ringDisabled
  else if f = Fld.NET_OCTET_MODE_MODE then (List.range 8).all (fun k => !s.rdb Fld.NET_PORT_CFG_ENABLE (8 * i + k))
  else if f.blk = Blk.NET ∧ 0x1000 ≤ f.reg ∧ f.reg < 0x2000 then !s.rdb Fld.NET_PORT_CFG_ENABLE i
  else if f.blk = Blk.POL ∧ 0x100 ≤ f.reg ∧ f.reg < 0x300 then s.poolSt i == poolDisabled
  else if f.blk = Blk.LPE ∧ 0x1000 ≤ f.reg then !s.rdb Fld.LPE_LOOP_CTRL_ENABLE i
  else if f.blk = Blk.KVS ∧ 0x74 ≤ f.reg ∧ f.reg < 0x100 then
    !(s.rdb Fld.KVS_CTRL_ENABLE && s.adm.nss.has (s.rd Fld.KVS_NS_SEL_NSID))
  else !s.enabled f.blk

/-- A write that names a port that is none is ignored (R106). -/
def State.noPort (s : State) (f : Field) (i : Nat) : Bool :=
  ((f.blk == Blk.NET && decide (0x1000 ≤ f.reg ∧ f.reg < 0x2000)) || f == Fld.CAR_PORT_LAT_RX || f == Fld.CAR_PORT_LAT_TX) && !s.isPort i

/-- An attribute of the key-value namespace that `KVS_NS_SEL` names. -/
def State.kvAttr (s : State) (f : Field) (i v : Nat) : State :=
  let a := s.kvSel
  let a : NsKv :=
    if f = Fld.KVS_NS_CFG_SCOPE then { a with cluster := v == 1 }
    else if f = Fld.KVS_NS_CFG_CLASS then { a with span := v == 1 }
    else if f = Fld.KVS_NS_CFG_HASH_LEN then { a with hashLen := v }
    else if f = Fld.KVS_NS_CFG_K then { a with k := v }
    else if f = Fld.KVS_NS_CFG_M then { a with m := v }
    else if f = Fld.KVS_NS_CFG_NSET then { a with nset := v }
    else { a with entries := (List.range (max a.entries.length (i + 1))).map (fun j => if j = i then v else a.entries.getD j 0) }
  { s with kvs := { s.kvs with ns := s.kvs.ns.put (s.rd Fld.KVS_NS_SEL_NSID) a } }

/-- A change of `NET_OCTET_MODE` switches the quads of the octet (R106, Table 23.1). -/
def State.octetQuads (s : State) (k : Nat) : State :=
  [2 * k, 2 * k + 1].foldl (fun (s : State) q =>
    let on := s.rd Fld.NET_OCTET_MODE_MODE k != 0
    if s.domainOn (16 + q) != on then s.domRequest (16 + q) on false else s) s

/-- A write to an S field of a disabled owner. -/
def State.staticWrite (s : State) (f : Field) (v i j : Nat) : State :=
  if f.blk = Blk.KVS ∧ 0x74 ≤ f.reg ∧ f.reg < 0x100 then s.kvAttr f i v
  else if f = Fld.NET_OCTET_MODE_MODE then (s.wr f v i j).octetQuads i
  else if f = Fld.OWN_IK_CFG_ENABLE then (if v = 1 && !s.rdb f then (s.wr f 1).ikRestart else s.wr f v)
  else s.wr f v i j

/-- A write to an L field. -/
def State.liveWrite (s : State) (f : Field) (v i j : Nat) : State :=
  if (f.blk = Blk.LPE ∧ (f = Fld.LPE_COEF_KP ∨ f = Fld.LPE_COEF_KI ∨ f = Fld.LPE_COEF_KD ∨ f = Fld.LPE_COEF_BIAS)) then
    (if j = s.rd Fld.LPE_LOOP_STATE_BANK i then s.raise Fld.LPE_ERR_BANK_ACTIVE else s.wr f v i j)
  else if f = Fld.CAR_UTC_LEAP61 ∨ f = Fld.CAR_UTC_LEAP59 then
    let was := s.rdb f
    let s := s.wr f v
    let utc := (s.utcOf s.ctNs).1
    { s with car := { s.car with
        dayEnd := if v = 1 ∧ was = false then some (nextMidnight utc).toNat
                  else if s.rdb Fld.CAR_UTC_LEAP61 || s.rdb Fld.CAR_UTC_LEAP59 then s.car.dayEnd else none } }
  else if f = Fld.GLB_INT_CFG_EN then
    let s := if v = 1 && !s.rdb f && s.maskedErr != 0 then { s with glb := { s.glb with armed := false } } else s
    s.wr f v
  else s.wr f v i j

/-- Fields of loops 0 to 16 that a write does not change (R420). -/
def rsvdLoop (f : Field) (i : Nat) : Bool :=
  (f == Fld.LPE_LOOP_CFG_SRC || f == Fld.LPE_LOOP_CFG_DEST || f == Fld.LPE_LOOP_CFG_ARG) && decide (i ≤ 16)

/-- The staging registers wider than 8 bytes, whose WO field keeps what is written to it until a command uses it (R519). -/
def wideStage (f : Field) : Bool := f == Fld.CIP_KEY_BLOB || f == Fld.GBK_CLEAR_TOKEN || f == Fld.DBG_FUSE_DATA

/-- Write a value to one field, by its access type and change class (R2, R4).  `old` is the value the bits outside the access keep. -/
def State.fieldWrite (s : State) (off : Nat) (h : Hit) (o len x : Nat) : State :=
  let f := h.f
  if s.noPort f h.i then s
  else
    match f.acc with
    | .ro => s
    | .rc => s
    | .w1c => let c := s.rd f h.i h.j
              s.wr f (c - (c &&& x * 2 ^ o)) h.i h.j
    | .w1s => if x = 1 then s.loopSwap h.i else s
    | .wo => if wideStage f then s.wr f (putBits (s.rd f) o len x) else s
    | .rw =>
      match f.cls with
      | .l => s.liveWrite f (putBits (s.rd f h.i h.j) o len x) h.i h.j
      | .g =>
        if f.blk = Blk.POL ∧ (f = Fld.POL_OWNER_CFG_KIND ∨ f = Fld.POL_OWNER_CFG_TENANT) ∧ h.i < 64 then s
        else s.stage f (putBits (s.shadow.getD (f.key h.i h.j) (s.readField f h.i h.j)) o len x) h.i h.j
      | .s =>
        if rsvdLoop f h.i then s.raise Fld.LPE_ERR_RSVD_LOOP
        else if s.staticOpen f h.i then s.staticWrite f (putBits (s.readField f h.i h.j) o len x) h.i h.j
        else s.glbErr 1 off true
      | .fixed => s

/-- ENABLE fields, which act after the other fields of the same write (R443). -/
def isEnable (f : Field) : Bool :=
  enableField f.blk == some f || f == Fld.HRI_RING_CFG_ENABLE || f == Fld.POL_POOL_CFG_ENABLE || f == Fld.LPE_LOOP_CTRL_ENABLE

/-- The bits of a field that an access covers: their place in the field, their number, and their value in `v`. -/
def Hit.part (h : Hit) (a n v : Nat) : Nat × Nat × Nat :=
  let lo := max h.place a
  let hi := min (h.place + h.f.width) (a + n)
  (lo - h.place, hi - lo, bitsOf v (lo - a) (hi - lo))

/-- Every field of an access but the enables. -/
def State.plainWrite (s : State) (b a n v : Nat) : State :=
  ((hitsAt b a n).filter (fun h => !isEnable h.f)).foldl (fun (s : State) h =>
    let p := h.part a n v
    s.fieldWrite (b * 1048576 + a / 8) h p.1 p.2.1 p.2.2) s

/-! ## Reads with side effects -/

/-- A read of RC fields clears them (R2, R519): a field of a register of 8 bytes or more only by an 8-byte read. -/
def State.clearRc (s : State) (b a n bytes : Nat) : State :=
  (hitsAt b a n).foldl (fun (s : State) h =>
    if h.f.acc = .rc ∧ (n = 64 ∨ bytes = 4) ∧ a ≤ h.place ∧ h.place + h.f.width ≤ a + n then s.wr h.f h.f.reset h.i h.j else s) s

/-- One read of 4 or 8 bytes inside a register. -/
def State.regRead (s : State) (b a n bytes : Nat) : State × Nat :=
  let v := s.readBits b a n
  let s := if b = Blk.CAR ∧ a = 0x10 * 8 then carNowLatch s else s
  (s.clearRc b a n bytes, v)

end Sys2Proof.Machine
end

