-- ==== Sys2Proof/Machine/Enable.lean ====
section
/-!
DEFINITION. The enables (R443): BLOCK_ENABLE_SET, the clearing of an ENABLE, and register writes with the enables of rings, pools and
loops.
-/
namespace Sys2Proof.Machine

open Sys2Proof

/-- Setting a block's ENABLE (R443): its checks, and what the block then starts. FLC reads its parameter pages at FLC_ENABLE.  In
the first-boot state the head enables no block but GBK, ADM and HRI (R493). -/
def State.blockEnable (s : State) (b : Nat) : State :=
  if s.rdb Fld.PWR_STATUS_FIRST_BOOT && b != Blk.GBK && b != Blk.HRI then s
  else if b = Blk.ISL then s.islEnable
  else if b = Blk.OWN then s.ownEnable
  else if b = Blk.MAP then s.mapEnable
  else if b = Blk.FLC then s.flcEnable [] []
  else
    match enableField b with
    | none => s
    | some f =>
      if s.rdb f then s
      else
        let r := s.tryEnable f
        if b = Blk.CAR ∧ r.2 = true then
          (r.1.wr Fld.CAR_STATUS_PORT_ACTIVE (s.rd Fld.CAR_CTRL_PTP_PORT)).wr Fld.CAR_STATUS_ON_BACKUP 0
        else if b = Blk.PJM ∧ r.2 = true then
          (List.range 8).foldl (fun (s : State) c =>
            if s.rd Fld.PJM_CH_STATUS_STATE c = chanAbsent ∨ s.rd Fld.PJM_CH_STATUS_STATE c = Sys2Proof.Machine.chanTraining then
              s.wr Fld.PJM_CH_STATUS_STATE chanInService c else s) r.1
        else r.1

/-- Clearing a block's ENABLE: an admitted commit takes effect at once, because a disabled block has no boundary (R442). -/
def State.blockDisable (s : State) (b : Nat) : State :=
  match enableField b with
  | none => s
  | some f =>
    if !s.rdb f then s
    else
      let s := if b = Blk.CAR then carEnableClear s
        else if b = Blk.ISL then s.islEnableClear
        else if b = Blk.POL then s.polDisable
        else if b = Blk.OWN then (s.wr f 0).boundNow
        else s.wr f 0
      s.boundary b

/-- A write to an ENABLE field. -/
def State.enableWrite (s : State) (f : Field) (i : Nat) (on : Bool) : State :=
  if enableField f.blk = some f then (if on then s.blockEnable f.blk else s.blockDisable f.blk)
  else if f = Fld.HRI_RING_CFG_ENABLE then (if on then s.ringEnable i else s.ringDisable i)
  else if f = Fld.POL_POOL_CFG_ENABLE then (if on then s.poolEnable i else s.poolDisable i)
  else if f = Fld.LPE_LOOP_CTRL_ENABLE then (if on then s.loopEnable i else s.loopDisable i)
  else s

/-- With the masked error summary at 0, its next change to non-zero may signal (R525). -/
def State.irqIdle (s : State) : State := if s.maskedErr = 0 then { s with glb := { s.glb with armed := true } } else s

/-- A write of bits `a` to `a + n - 1` of a window: the fields, then the enables. -/
def State.regWrite (s : State) (b a n v : Nat) : State :=
  let s := s.plainWrite b a n v
  let s := ((hitsAt b a n).filter (fun h => isEnable h.f)).foldl (fun (s : State) h =>
    s.enableWrite h.f h.i ((h.part a n v).2.2 == 1)) s
  s.irqIdle

/-- BLOCK_ENABLE_SET. -/
def execBlockEnableSet (block : Nat) (s : State) : Res := ended (s.blockEnable block)

end Sys2Proof.Machine
end

