-- ==== Sys2Proof/Machine/Image.lean ====
section
/-!
DEFINITION. Configuration images (R450 to R452): parsing, the check of every constraint against the states the records pass through, and
the application of the records in order.
-/
namespace Sys2Proof.Machine

open Sys2Proof

/-! ## Parsing -/

/-- A refusal whose constraint the spec does not number: the index is a free value. -/
def State.unnamed (s : State) : Violation := violOpen (Config.freeNat s.free % 65536)

/-- A record is well formed (Table 20.3). -/
def recOk (r : ImgRec) : Bool :=
  match r with
  | .reg b off ws => decide (b < 28 ∧ off % 4 = 0) && (List.range ws.length).all (fun k => (regAt b (off + 4 * k) 4).isSome)
  | .commit b => (commitField b).isSome
  | .key target kek _ intoKek len _ => decide (kek < 64 ∧ target < (if intoKek then 64 else 16384) ∧ 40 ≤ len ∧ len ≤ 96)
  | .ns r => decide (1 ≤ r.oset ∧ r.oset ≤ 1024 ∧ 1 ≤ r.pgCount)
  | .aset set arrays => decide (set < 4096 ∧ arrays.length ≤ 31)
  | .reserved _ => false

/-- What phase 1 finds wrong, with the record it names (R9, R450, Table 20.1). -/
def State.imgParse (s : State) (img : Image) : Option (Violation × Nat) :=
  let rec0 := Config.freeNat (s.free + 4) % 2 ^ 24
  let gen := s.rd Fld.ADM_IMG_GEN_GEN
  let fw := s.rd Fld.FWU_SLOT_INFO_FW_GEN (s.rd Fld.FWU_STATUS_SLOT)
  if img.magic ≠ 0x5A0C1A3E ∨ img.ver ≠ 1 ∨ img.nrec ≠ img.records.length then some (s.unnamed, rec0)
  else if img.crcOk = false ∨ img.headId % 2 ≠ s.aon.side.code then some (violOpen 0x170B, rec0)
  else if img.imgGen ≤ gen then some (viol 0x170A unitCount (gen + 1) img.imgGen, rec0)
  else if fw < img.fwGen then some (s.unnamed, rec0)
  else (img.records.findIdx? (fun r => !recOk r)).map (fun k => (s.unnamed, k))

/-! ## One record -/

/-- One 32-bit word of a REG record: firmware writes, arms and disarms Carillon slots by it too (R69, R70). -/
def State.recWord (s : State) (b o v : Nat) : State :=
  if b = Blk.CAR ∧ 0x80000 ≤ o then carSlotWrite ((o - 0x80000) / 32) ((o - 0x80000) % 32) v true s
  else if b = Blk.CAR ∧ o = 0x50 then carSlotArm (bitsOf v 0 14) true s
  else if b = Blk.CAR ∧ o = 0x54 then carSlotDisarm (bitsOf v 0 14) true s
  else s.regWrite b (o * 8) 32 v

/-- The 32-bit words of a REG record are written from OFFSET on (Table 20.3). -/
def State.recReg (s : State) (b off : Nat) (ws : List Nat) : State :=
  (List.range ws.length).foldl (fun (s : State) k => s.recWord b (off + 4 * k) (ws.getD k 0 % 2 ^ 32)) s

/-- A namespace may be removed (constraint 0x170E): no association of its tenant, no session, no ring of its tenant's functions, no epoch
exposed or retained. -/
def State.nsFree (s : State) (nsid : Nat) : Bool :=
  match s.adm.nss.look nsid with
  | none => true
  | some n =>
    !s.nvf.assocs.any (fun e => e.2.tenant == n.tenant) && !s.kvs.sessions.any (fun e => e.2.nsid == nsid) &&
      !(s.tenantFns n.tenant).any (fun f => (s.fnRingsOf f).any (fun r => s.ringSt r != ringDisabled)) &&
      !s.snp.cat.any (fun e => e.2.nsid == nsid && e.2.state != epActive)

/-- A namespace is gone, with its attributes, its catalogue entry and its map. -/
def State.nsRemove (s : State) (nsid : Nat) : State :=
  { s with
    adm := { s.adm with nss := s.adm.nss.del nsid }
    kvs := { s.kvs with ns := s.kvs.ns.del nsid }
    snp := { s.snp with cat := s.snp.cat.keep (fun _ c => c.nsid != nsid) }
    map := { s.map with leaves := s.map.leaves.keep (fun k _ => leafNs k != nsid), kv := s.map.kv.keep (fun k _ => kvNs k != nsid) } }

/-- A PG that an image names: it is made with the geometry in force, or kept, and takes the blocks the image grants it (R290); blocks that
lift its spares above the low mark make it NORMAL (Table 12.5).  A stored image that a boot applies again grants nothing: `imgGen` none. -/
def State.pgGrant (s : State) (g oset : Nat) (imgGen : Option Nat) : State :=
  let home := s.homeOf oset
  let p : Pg := s.pgs.getD g { s.pg g with
    d := s.rd Fld.STR_PG_GEOM_D, p := s.rd Fld.STR_PG_GEOM_P, headroom := s.rd Fld.GCX_PG_CFG_HEADROOM_BANDS,
    groups := (List.range 16).filter (fun k => s.groupHome k == home) }
  let n := match imgGen with
    | some k => Config.pgGrant g k
    | none => 0
  let sp := n * s.rd Fld.FLC_SPARE_CFG_SPARE_PM / 1000
  let p := { p with
    oset := oset, home := home, blocks := p.blocks + n, freeBlocks := p.freeBlocks + n, spares := p.spares + sp,
    allotted := p.allotted + sp, free := p.free + (n - sp) * s.blockSectors }
  let p := if 0 < n ∧ s.spareLow p < p.spares then { p with media := .normal } else p
  { s with pgs := s.pgs.put g p }

/-- A namespace comes into force or changes (Table 20.4); a new one opens its ACTIVE epoch (R395). -/
def State.nsPut (s : State) (r : NsRec) (imgGen : Option Nat) : State :=
  let n : Ns := { tenant := r.tenant, kv := r.kv, dedup := r.dedup, compress := r.compress, enc := r.enc, cut := r.cut, keySlot := r.keySlot,
                  oset := r.oset, pgFirst := r.pgFirst, pgCount := r.pgCount, cwMaxNs := r.cwMaxNs, size := r.size,
                  resReadKiops := r.resReadKiops, resWriteMbps := r.resWriteMbps, readOnly := false }
  let new := !s.snp.cat.any (fun e => e.2.nsid == r.nsid && e.2.state == epActive)
  let s := { s with adm := { s.adm with nss := s.adm.nss.put r.nsid n } }
  let s := (List.range r.pgCount).foldl (fun (s : State) k => s.pgGrant (r.pgFirst + k) r.oset imgGen) s
  if new then
    let c : CatEntry := { nsid := r.nsid, cut := 0, pred := 0, srcNsid := 0, state := epActive, scheduled := false, sched := 0,
                          linkBase := false, cloneSrc := false, epsNs := 0, expose := 0, armed := true }
    { s with snp := { s.snp with cat := s.snp.cat.put s.snp.nextEpoch c, nextEpoch := s.snp.nextEpoch + 1 } }
  else s

/-- A COMMIT record: a commit of the block still pending takes effect first; then this one is latched, already admitted. -/
def State.recCommit (s : State) (b : Nat) : State :=
  let s := if s.adm.pend.has b then s.applyCommit b else s
  match activeGenField b with
  | none => s
  | some g =>
    let s := s.latch b ((s.rd g + 1) % 2 ^ 32)
    { s with adm := { s.adm with pend := s.adm.pend.modify b (fun p => { p with admitted := true }) } }

/-- Write one record. -/
def State.recWrite (s : State) (imgGen : Option Nat) (r : ImgRec) : State :=
  match r with
  | .reg b off ws => s.recReg b off ws
  | .commit b =>
    let s := s.recCommit b
    if s.enabled b && b != Blk.ADM then s else s.applyCommit b
  | .key target kek pad intoKek len blob => (if intoKek then s.unwrapKek target kek pad len blob else s.unwrapSlot target kek pad len blob).1
  | .ns r => if r.delete then s.nsRemove r.nsid else s.nsPut r imgGen
  | .aset set arrays =>
    { s with adm := { s.adm with asets := if arrays = [] then s.adm.asets.del set else s.adm.asets.put set arrays } }
  | .reserved _ => s

/-! ## The check -/

/-- What one record breaks, judged on the state the records before it leave (R451 phase 2): an enable that fails its checks, a commit, an
unwrap, a removal. -/
def State.recCheck (s : State) (r : ImgRec) : Option Violation :=
  match r with
  | .reg b off ws =>
    let s := s.wr Fld.ADM_STAT_REFUSED_COUNT 0
    let t := s.recReg b off ws
    if t.rd Fld.ADM_STAT_REFUSED_COUNT = 0 then none
    else some (viol (t.rd Fld.ADM_RESULT_CONSTRAINT) (t.rd Fld.ADM_RESULT_UNIT) (t.rd Fld.ADM_REQUIRED_VALUE) (t.rd Fld.ADM_OFFERED_VALUE))
  | .commit b =>
    let t := s.recCommit b
    (violations b s t.proposed).head?
  | .key target kek pad intoKek len blob =>
    if (if intoKek then s.unwrapKek target kek pad len blob else s.unwrapSlot target kek pad len blob).2 = STS_OK then none else some s.unnamed
  | .ns r => if r.delete && !s.nsFree r.nsid then some (violOpen 0x170E) else none
  | .aset _ _ => none
  | .reserved _ => none

/-- The state a record leaves in the check, where every commit is in force at once. -/
def State.recTrial (s : State) (imgGen : Nat) (r : ImgRec) : State :=
  match r with
  | .commit b => (s.recCommit b).applyCommit b
  | _ => s.recWrite (some imgGen) r

/-- The records in order: what the first failing one breaks with its number, or the state they leave. -/
def State.checkFrom (s : State) (imgGen k : Nat) (rs : List ImgRec) : (Violation × Nat) ⊕ State :=
  match rs with
  | [] => .inr s
  | r :: t =>
    match s.recCheck r with
    | some v => .inl (v, k)
    | none => State.checkFrom (s.recTrial imgGen r) imgGen (k + 1) t

/-- The bits of a field instance lie in a word that a REG record of the image writes. -/
def imgWrites (img : Image) (b key : Nat) : Bool :=
  img.records.any (fun r => match r with
    | .reg b' off ws => b' == b && decide (off * 8 ≤ key - b * 8388608 ∧ key - b * 8388608 < (off + 4 * ws.length) * 8)
    | _ => false)

/-- The field of a listed value. -/
def fieldOfKey (b key : Nat) : Option Hit := (hitsAt b (key - b * 8388608) 1).find? (fun h => h.f.key h.i h.j == key)

/-- A FULL image first stages every G field it does not write at its reset value (R451); sets of arrays and namespaces it does not name
go with the rest of the old configuration. -/
def State.fullBase (s : State) (img : Image) : State :=
  let keys := (s.regs ++ s.shadow).map (·.1)
  let s := { s with adm := { s.adm with asets := [] } }
  keys.foldl (fun (s : State) key =>
    let b := key / 8388608
    if imgWrites img b key then s
    else
      match fieldOfKey b key with
      | some h => if h.f.acc = .rw ∧ h.f.cls = .g then { s with shadow := s.shadow.put key h.f.reset } else s
      | none => s) s

/-- Namespaces in force that a FULL image does not define. -/
def State.absentNs (s : State) (img : Image) : List Nat :=
  (s.adm.nss.map (·.1)).filter (fun n => !img.records.any (fun r => match r with
    | .ns x => x.nsid == n && !x.delete
    | _ => false))

/-- The cluster epoch the image would set differs from the one in force while a time-dependent configuration is (R63). -/
def State.imgEpochMoves (s : State) (img : Image) : List Violation :=
  let t := img.records.foldl (fun (t : State) r => match r with
    | .reg b off ws => if b = Blk.CAR then
        (List.range ws.length).foldl (fun (t : State) k => t.plainWrite b ((off + 4 * k) * 8) 32 (ws.getD k 0)) t
      else t
    | _ => t) (s.wr Fld.CAR_CTRL_ENABLE 0)
  s.epochMoves t

/-- The image commits a block. -/
def imgCommits (img : Image) (b : Nat) : Bool := img.records.any (fun r => r == .commit b)

/-- Phases 1 and 2 (R451): the first failure with its record, or none.  The final state is held to the constraints of the blocks that the
image commits or that are enabled. -/
def State.imgCheck (s : State) (img : Image) : Option (Violation × Nat) :=
  match s.imgParse img with
  | some x => some x
  | none =>
    let last := img.records.length - 1
    let t := if img.full then (s.wr Fld.PWR_STATUS_FIRST_BOOT 0).fullBase img else s
    match t.checkFrom img.imgGen 0 img.records with
    | .inl x => some x
    | .inr t =>
      let absent := if img.full then s.absentNs img else []
      let t := absent.foldl (fun (t : State) n => t.nsRemove n) t
      let vs := s.imgEpochMoves img ++ (if absent.all s.nsFree then [] else [violOpen 0x170E]) ++
        ((List.range 28).filter (fun b => imgCommits img b || t.enabled b)).flatMap (fun b => violations b s t)
      vs.head?.map (fun v => (v, last))

/-! ## The commands -/

/-- A check or an apply ends with STS_OK. -/
def State.imgOk (s : State) : State :=
  let s := ((s.wr Fld.ADM_RESULT_STATUS STS_OK).wr Fld.ADM_RESULT_CONSTRAINT 0).wr Fld.ADM_RESULT_UNIT 0
  let s := (s.wr Fld.ADM_REQUIRED_VALUE 0).wr Fld.ADM_OFFERED_VALUE 0
  ((s.wr Fld.ADM_RESULT_RECORD 0).wr Fld.ADM_RESULT_DONE 1).wr Fld.ADM_RESULT_BUSY 0

/-- A refusal of an image (R452). -/
def State.imgRefused (s : State) (x : Violation × Nat) : State :=
  let s := s.admRefuse x.1 x.2
  { s with free := s.free + 2 }

/-- ADM_CHECK_IMAGE (R451, OP 1): nothing is staged. -/
def State.admCheckImage (s : State) (img : Image) : State :=
  let s := s.boundary Blk.ADM
  match s.imgCheck img with
  | some x => s.imgRefused x
  | none => s.imgOk

/-- The slot of the configuration store in use (R476). -/
def State.cfgSlot (s : State) : Nat := ((max? s.fwu.copy0 s.fwu.copy1).map (·.cfgActive)).getD 0
where
  /-- The copy of the higher RSEQ (R466). -/
  max? (a b : Option BootRec) : Option BootRec :=
    match a, b with
    | some x, some y => if x.rseq < y.rseq then some y else some x
    | some x, none => some x
    | none, y => y

/-- The configuration store after an image: a FULL image as it is, another added to what is stored (R476, R493). -/
def State.storeImage (s : State) (img : Image) : State :=
  let k := s.cfgSlot
  let fmt := s.rd Fld.FWU_SLOT_INFO_CFG_FMT (s.rd Fld.FWU_STATUS_SLOT)
  let x : Image := match s.fwu.stores.look k with
    | some (_, old) =>
      if img.full then img
      else { old with imgGen := img.imgGen, nrec := old.records.length + img.records.length, records := old.records ++ img.records }
    | none => img
  if img.full || s.fwu.stores.has k then { s with fwu := { s.fwu with stores := s.fwu.stores.put k (fmt, x) } } else s

/-- TotalVFs of the four physical functions as a configuration sets them: 63 each (R81). -/
def totalVfsDefault : Nat := 63 * (1 + 2 ^ 16 + 2 ^ 32 + 2 ^ 48)

/-- Phase 3 (R451): the records in order; then ADM_IMG_GEN, and what a configuration in force means elsewhere (R9, R272, R447, R492,
R493).  `boot`: a stored image, applied again at a boot. -/
def State.imgApply (s : State) (img : Image) (boot : Bool) : State :=
  let absent := if img.full && !boot then s.absentNs img else []
  let old := s
  let s := if img.full then s.fullBase img else s
  let s := img.records.foldl (fun (s : State) r => s.recWrite (if boot then none else some img.imgGen) r) s
  let s := absent.foldl (fun (s : State) n => s.nsRemove n) s
  let s := if old.timeMoved s.proposed then
      (if s.enabled Blk.CAR then { s with adm := { s.adm with boundNext := some s.proposed.leastBound } }
       else s.wr Fld.CAR_EPS_BOUND_BOUND s.proposed.leastBound)
    else s
  let s := (s.wr Fld.ADM_IMG_GEN_GEN img.imgGen).wr Fld.GLB_HEAD_HEAD_ID img.headId
  let s := s.wr Fld.GLB_HEAD_ID_VALID 1
  { s with flc := { s.flc with geomBad := false }, aon := { s.aon with totalVfsCfg := totalVfsDefault } }

/-- ADM_APPLY_IMAGE (R451, OP 2): checked, then applied; the store keeps it, and a FULL image ends the first-boot state (R493). -/
def State.admApplyImage (s : State) (img : Image) : State :=
  let s := s.boundary Blk.ADM
  match s.imgCheck img with
  | some x => s.imgRefused x
  | none =>
    let s := if img.full then s.wr Fld.PWR_STATUS_FIRST_BOOT 0 else s
    ((s.imgApply img false).storeImage img).imgOk

/-- ADM_CHECK_IMAGE. -/
def execAdmCheckImage (img : Image) (s : State) : Res := ended (s.admCheckImage img)
/-- ADM_APPLY_IMAGE. -/
def execAdmApplyImage (img : Image) (s : State) : Res := ended (s.admApplyImage img)

end Sys2Proof.Machine
end

