-- ==== Sys2Proof/Machine/Mte.lean ====
section
/-!
DEFINITION. The commands of the match engine (R361 to R368).
-/
namespace Sys2Proof.Machine

open Sys2Proof

/-- MTE_SEARCH: a search of one table by a block. -/
def State.mteSearchCmd (s : State) (blk t key : Nat) : State := (s.mteSearch blk (t % 16) key).1

/-- Carry out one update (R363), counted; an entry index has 17 bits. -/
def State.mteApply (s : State) (u : MteUpd) : State :=
  let i := u.index % 131072
  let e := s.mteEntry i
  let e' := match u.op with
    | 1 => mteOfImage (mteImage u.image)
    | 2 => { e with valid := false }
    | 3 => { e with result := u.image.result % 2 ^ 32 }
    | _ => e
  (s.setMte i e').bump Fld.MTE_STAT_UPD_COUNT

/-- A consumer's update of one operation; the search slot it takes is MTE's boundary (R366). -/
def State.mteDirect (s : State) (u : MteUpd) : State := (s.boundary Blk.MTE).mteApply u

/-- The update at the head of the queue is written when it is of operation `op`; its completion goes to `MTE_UPD_RESULT`. -/
def State.mteQueued (s : State) (op : Nat) : State :=
  match s.mte.queue with
  | [] => s
  | u :: rest =>
    if u.op = op then
      let s := { s.boundary Blk.MTE with mte := { (s.boundary Blk.MTE).mte with queue := rest } }
      ((s.mteApply u).wr Fld.MTE_UPD_RESULT_DONE 1).wrb Fld.MTE_UPD_RESULT_BUSY (rest != [])
    else s

/-- A write to `MTE_UPD_CMD` (R363, R368): the update takes its image from `MTE_ENTRY_STAGE` and waits in the queue. -/
def State.mteUpdCmd (s : State) (v : Nat) : State :=
  if s.rdb Fld.MTE_UPD_RESULT_BUSY then (s.raise Fld.MTE_ERR_UPD_BUSY).wr Fld.MTE_ERR_INFO_INDEX (bitsOf v 0 17)
  else
    let op := bitsOf v 17 2
    if op = 0 then s
    else
      let u : MteUpd := { index := bitsOf v 0 17, op := op, image := mteOfImage (s.rd Fld.MTE_ENTRY_STAGE) }
      let s := { s with mte := { s.mte with queue := s.mte.queue ++ [u] } }
      (s.wr Fld.MTE_UPD_RESULT_BUSY 1).wr Fld.MTE_UPD_RESULT_DONE 0

/-- MTE_UPDATE_WRITE: `fromQueue` names the update that `MTE_UPD_CMD` has queued, otherwise a block's own. -/
def State.mteUpdateWrite (s : State) (fromQueue : Bool) (index : Nat) (image : MteEntry) : State :=
  if fromQueue then s.mteQueued 1 else s.mteDirect { index := index, op := 1, image := image }

/-- MTE_UPDATE_INVALIDATE. -/
def State.mteUpdateInvalidate (s : State) (fromQueue : Bool) (index : Nat) : State :=
  if fromQueue then s.mteQueued 2 else s.mteDirect { index := index, op := 2, image := mteZero }

/-- MTE_UPDATE_RESULT. -/
def State.mteUpdateResult (s : State) (fromQueue : Bool) (index result : Nat) : State :=
  if fromQueue then s.mteQueued 3
  else s.mteDirect { index := index, op := 3, image := { mteZero with result := result } }

/-- MTE_BULK_ENTER (R365): an uncovered bank goes to bulk-load mode. -/
def State.mteBulkEnter (s : State) (k : Nat) : State :=
  let k := k % 8
  if s.bankCovered k then (s.raise Fld.MTE_ERR_BULK_LIVE).wr Fld.MTE_ERR_INFO_INDEX (16384 * k)
  else if s.bankState k = 0 then s.setBank k 1 else s

/-- MTE_BULK_LEAVE (R365). -/
def State.mteBulkLeave (s : State) (k : Nat) : State :=
  let k := k % 8
  if s.bankCovered k then (s.raise Fld.MTE_ERR_BULK_LIVE).wr Fld.MTE_ERR_INFO_INDEX (16384 * k)
  else if s.bankState k = 1 then s.setBank k 0 else s

/-- A bank's entries are lost. -/
def State.mteWipe (s : State) (k : Nat) : State :=
  { s with mte := { s.mte with entries := s.mte.entries.filter (fun e => e.1 / 16384 != k) } }

/-- MTE_BANK_POWER_DOWN (R367): pair p holds banks 2p and 2p + 1; the command names it in BANK [2:1]. -/
def State.mteBankPowerDown (s : State) (bank : Nat) : State :=
  let p := bank % 8 / 2
  if s.bankCovered (2 * p) || s.bankCovered (2 * p + 1) then
    (s.raise Fld.MTE_ERR_POWER_LIVE).wr Fld.MTE_ERR_INFO_INDEX (32768 * p)
  else if s.bankState (2 * p) = 2 then s
  else ((((s.mteWipe (2 * p)).mteWipe (2 * p + 1)).setBank (2 * p) 2).setBank (2 * p + 1) 2).domRequest (53 + p) false false

/-- MTE_BANK_POWER_UP: PWR powers the pair's domain (R481); its entries then read with VALID 0. -/
def State.mteBankPowerUp (s : State) (bank : Nat) : State :=
  let p := bank % 8 / 2
  if s.bankState (2 * p) = 2 then s.domRequest (53 + p) true false else s

/-- MTE_BULK_LOAD (R365): entry images from DDR5 go into a bank in bulk-load mode; `images` is what the read returns, none
where it fails, and then the bank stays in bulk-load mode. -/
def State.mteBulkLoad (s : State) (bank first count : Nat) (images : Option (List MteEntry)) : State :=
  let k := bank % 8
  if s.bankCovered k then (s.raise Fld.MTE_ERR_BULK_LIVE).wr Fld.MTE_ERR_INFO_INDEX (16384 * k)
  else if s.bankState k != 1 then s
  else
    match images with
    | none => (s.raise Fld.MTE_ERR_BULK_SRC).wr Fld.MTE_ERR_INFO_INDEX (16384 * k + first)
    | some es =>
      let n := min count es.length
      (List.range n).foldl (fun s i =>
        if first + i < 16384 then s.setMte (16384 * k + first + i) (mteOfImage (mteImage (es.getD i mteZero))) else s) s

/-- MTE_SEARCH_CMD: one test search from BAR0 with the key of `MTE_SEARCH_KEY` (R368). -/
def State.mteSearchTest (s : State) (t : Nat) : State :=
  let s := s.boundary Blk.MTE
  let r := s.mteFind (t % 16) (s.rd Fld.MTE_SEARCH_KEY_KEY)
  let s := s.bump Fld.MTE_STAT_SEARCH_COUNT
  let s := if r.multi then s.bump Fld.MTE_STAT_MULTI_COUNT else s
  let s := ((s.wrb Fld.MTE_SEARCH_RESULT_HIT r.hit).wrb Fld.MTE_SEARCH_RESULT_MULTI r.multi).wrb Fld.MTE_SEARCH_RESULT_TIE r.tie
  let s := ((s.wrb Fld.MTE_SEARCH_RESULT_OFF r.off).wr Fld.MTE_SEARCH_RESULT_INDEX r.index).wr Fld.MTE_SEARCH_RESULT_PRIO r.prio
  (s.wr Fld.MTE_SEARCH_RESULT_RESULT r.result).wr Fld.MTE_SEARCH_RESULT_DONE 1

def execMteSearch (blk table key : Nat) (s : State) : Res := ended (s.mteSearchCmd blk table key)
def execMteUpdateWrite (fromQueue : Bool) (index : Nat) (image : MteEntry) (s : State) : Res :=
  ended (s.mteUpdateWrite fromQueue index image)
def execMteUpdateInvalidate (fromQueue : Bool) (index : Nat) (s : State) : Res := ended (s.mteUpdateInvalidate fromQueue index)
def execMteUpdateResult (fromQueue : Bool) (index result : Nat) (s : State) : Res :=
  ended (s.mteUpdateResult fromQueue index result)
def execMteBulkEnter (bank : Nat) (s : State) : Res := ended (s.mteBulkEnter bank)
def execMteBulkLeave (bank : Nat) (s : State) : Res := ended (s.mteBulkLeave bank)
def execMteBankPowerDown (bank : Nat) (s : State) : Res := ended (s.mteBankPowerDown bank)
def execMteBankPowerUp (bank : Nat) (s : State) : Res := ended (s.mteBankPowerUp bank)
def execMteBulkLoad (bank first count : Nat) (images : Option (List MteEntry)) (s : State) : Res :=
  ended (s.mteBulkLoad bank first count images)
def execMteSearchCmd (table : Nat) (s : State) : Res := ended (s.mteSearchTest table)

end Sys2Proof.Machine
end

