-- ==== Sys2Proof/Machine/Boot.lean ====
section
/-!
DEFINITION. Resets and boot (Tables 23.3 and 23.5): what a reset of the main domain leaves, the choice of the image (R467, R468), and what
the firmware brings up.
-/
namespace Sys2Proof.Machine

open Sys2Proof

/-! ## What a reset of the main domain leaves -/

/-- The record a write waits for is issued, so that replay decides it (R33). -/
def State.opKept (s : State) (x : WriteOp) : Bool := x.accepted || (s.recOf x.jseq).isSome

/-- The writes with no record yet are gone, and their replay slots are free (R33). -/
def State.dropOps (s : State) : State :=
  s.ops.foldl (fun (s : State) e => if s.opKept e.2 then s else s.replayDrop e.1 e.2) s

/-- A slot in progress stays only while a write that replay decides holds it (R33, R41). -/
def State.winKept (s : State) (w : Nat) (x : RWin) : RWin :=
  let live (q : Nat) : Bool := s.ops.any (fun e => match e.2.src with
    | .ring r k => winRing r == w && k == q
    | .enore k n => winSession k == w && (((s.sess k).bind (fun z => z.cmds.look n)).map (·.e.seq)) == some q
    | _ => true)
  { x with slots := x.slots.keep (fun q st => st != .inProgress || live q) }

/-- A session over a reset (R335, R337): it is attached again by its client. -/
def State.sessKept (s : State) (k : Nat) (z : Sess) : Sess :=
  { z with attached := false, resps := [], cmds := z.cmds.keep (fun n _ => s.ops.any (fun e => e.2.src == .enore k n)) }

/-- The registers after a reset of the main domain (R522): reset values, but for the fields that read Fused or Strap, the alarm latch
(R463), and the windows that the PJM keeps of rings (R86). -/
def State.regsKept (s : State) : Assoc Nat :=
  let base := keptFields.foldl (fun (t : Assoc Nat) f => putField t f (s.rd f) 0 0) resetRegs
  let base := putField base Fld.GBK_ALARM_SOURCE (s.rd Fld.GBK_ALARM_SOURCE) 0 0
  let base := if s.aon.side = .b then putField base Fld.OWN_GRP_HOME_MASK 0xFF00 0 0 else base
  (s.wins.filter (fun e => decide (e.1 < 4096))).foldl (fun t e => putField t Fld.HRI_RING_STATE_KEPT 1 e.1 0) base

/-- A channel of the journal over a reset: what lies in it. -/
def PjmChan.kept (x : PjmChan) : PjmChan := { x with tailMoved := none, tailUnits := 0, ueTimes := [] }

/-- A chain over a reset: its power-good input. -/
def Chain.kept (x : Chain) (now : Nat) : Chain := { x with faulted := false, dirtyAt := now, due := none }

/-- Everything in the main domain is reset (R488); what lies in the flash, the PJM, the boot flash and the fuses stays, and so does the
always-on state. -/
def State.cleared (s : State) : State :=
  let s := s.dropOps
  { State.reset with
    regs := s.regsKept, now := s.now, free := s.free, out := s.out, pending := s.pending
    wins := s.wins.mapVal (fun w x => s.winKept w x), ops := s.ops, nextOp := s.nextOp
    aon := { s.aon with totalVfs := s.aon.totalVfsCfg }
    pwr := { State.reset.pwr with chainA := s.pwr.chainA.kept s.now, chainB := s.pwr.chainB.kept s.now }
    gbk := { State.reset.gbk with ring := s.gbk.ring, mirror := s.gbk.mirror, lastIssue := s.gbk.lastIssue }
    pjm := { State.reset.pjm with
      recs := s.pjm.recs.mapVal (fun _ r => { r with held := false }), chans := s.pjm.chans.mapVal (fun _ c => c.kept)
      mirror := s.pjm.mirror, mirrorAnchors := s.pjm.mirrorAnchors }
    flc := { State.reset.flc with blocks := s.flc.blocks, families := s.flc.saved, saved := s.flc.saved, lunsOut := s.flc.lunsOut }
    pgs := s.pgs, str := s.str
    gcx := { s.gcx with sweeping := false }
    ddp := { s.ddp with recent := [], icache := [] }
    map := { s.map with sets := s.map.sets.mapVal (fun _ x => { x with run := none, again := false }), cached := s.map.dirty.map (·.1),
                        fetchWait := [], recoveryFrom := none }
    kvs := { State.reset.kvs with
      nextSession := s.kvs.nextSession, pgmap := s.kvs.pgmap, ns := s.kvs.ns, buckets := s.kvs.buckets, updates := s.kvs.updates,
      granted := s.kvs.granted, sessions := s.kvs.sessions.mapVal (fun k z => s.sessKept k z) }
    snp := { State.reset.snp with cat := s.snp.cat, nextEpoch := s.snp.nextEpoch, replicas := s.snp.replicas, clones := s.snp.clones }
    adm := { State.reset.adm with nss := s.adm.nss.keep (fun n _ => s.snp.clones.has n) }
    age := { State.reset.age with history := s.age.history }
    fwu := { s.fwu with activating := false, partnerDeadline := none, booting := none }
    dbg := { s.dbg with loop := none } }

/-! ## Boot records and images -/

/-- The governing boot record (R466). -/
def State.bootRec (s : State) : Option BootRec := State.cfgSlot.max? s.fwu.copy0 s.fwu.copy1

/-- What governs where no copy is valid: slot 0, confirmed (the model's choice, see the log). -/
def BootRec.blank : BootRec :=
  { rseq := 0, active := 0, trial := false, tries := 0, prevValid := false, cfgActive := 0, cfgPrev := 0, deadline := 0 }

/-- The governing record, or a blank one. -/
def State.bootRecD (s : State) : BootRec := s.bootRec.getD BootRec.blank

/-- FWU writes a record into the copy that does not govern, with RSEQ + 1 (R466). -/
def State.putRec (s : State) (r : BootRec) : State :=
  let r := { r with rseq := s.bootRecD.rseq + 1 }
  if s.fwu.copy0.isSome && s.bootRec == s.fwu.copy0 then { s with fwu := { s.fwu with copy1 := some r } }
  else { s with fwu := { s.fwu with copy0 := some r } }

/-- How an image fails R467. -/
inductive ImgFail where
  | invalid | sig
deriving DecidableEq, Repr

/-- The first condition of R467 that an image fails; with the public-key fuses blank there is no hash to compare. -/
def State.fwFails (s : State) (x : FwImage) : Option ImgFail :=
  if !x.magicOk || decide (24 * 1048576 < x.len + 512) || !x.bodyOk then some .invalid
  else if s.dbg.fuses.pub.isSome && s.dbg.fuses.pub != some x.pubHash || !x.sigOk then some .sig
  else if x.fwGen < s.rd Fld.GLB_FUSE_ROLLBACK then some .invalid
  else none

/-- A slot holds an image that is valid by R467. -/
def State.slotOk (s : State) (k : Nat) : Bool :=
  match s.fwu.slots.look k with
  | some x => (s.fwFails x).isNone
  | none => false

/-- The image of a slot, where its check does not end in time (R491). -/
def State.slotSlow (s : State) (k : Nat) : Bool :=
  match s.fwu.slots.look k with
  | some x => x.slow
  | none => false

/-! ## Firmware entry -/

/-- What `FWU_SLOT_INFO` shows of a slot's image. -/
def State.slotInfo (s : State) (k st : Nat) : State :=
  let s := s.wr Fld.FWU_SLOT_INFO_STATE st k
  match (if st = 0 then none else s.fwu.slots.look k) with
  | some x =>
    ((s.wr Fld.FWU_SLOT_INFO_FW_GEN x.fwGen k).wr Fld.FWU_SLOT_INFO_COMPAT_MIN x.compatMin k).wr Fld.FWU_SLOT_INFO_CFG_FMT x.cfgFmt k
  | none => ((s.wr Fld.FWU_SLOT_INFO_FW_GEN 0 k).wr Fld.FWU_SLOT_INFO_COMPAT_MIN 0 k).wr Fld.FWU_SLOT_INFO_CFG_FMT 0 k

/-- The states of the slots after a boot from slot k (Table 22.4), and what the boot record says of the trial. -/
def State.slotsBooted (s : State) (k : Nat) : State :=
  let r := s.bootRecD
  let other := if !s.slotOk (1 - k) then 0 else if r.trial then 5 else 1
  let s := (s.slotInfo k (if r.trial then 3 else 4)).slotInfo (1 - k) other
  let s := (s.wr Fld.FWU_STATUS_SLOT k).wrb Fld.FWU_STATUS_TRIAL r.trial
  let s := s.wr Fld.FWU_DEADLINE_NS (if r.trial then r.deadline else 0)
  if r.trial then s else { s with aon := { s.aon with backstop := none } }

/-- The domains that firmware powers (Table 23.5): all that `PWR_DOM_CMD` switches, and the DDR5 pairs with an RDIMM. -/
def fwDomains : List Nat :=
  List.range 16 ++ [24, 25, 26, 27] ++
    ((List.range 6).map (31 + ·)).filter (fun d => Config.rdimmFitted (2 * (d - 31)) || Config.rdimmFitted (2 * (d - 31) + 1)) ++
    (List.range 8).map (45 + ·) ++ [58, 59, 60, 61, 62]

/-- The domains that the boot ROM powers (Table 23.5, R266, R367). -/
def romDomains : List Nat := [57, 29, 30] ++ (List.range 8).map (37 + ·) ++ (List.range 4).map (53 + ·) ++ [28]

/-- A list of domains is powered, one at a time (R481). -/
def State.powerAll (s : State) (l : List Nat) : State := l.foldl (fun (s : State) d => s.setDomain d true) s

/-- Q16.16 of a whole number. -/
def fix16 (n : Nat) : Nat := n * 65536

/-- A firmware loop's place and limits (Tables 19.1, 19.2): source, ARG, destination, set-point, OUT_MIN, OUT_MAX, safe output, local
period; Q16.16. -/
structure FwLoop where
  src : Nat
  arg : Nat
  dest : Nat
  sp : Nat
  lo : Nat
  hi : Nat
  safe : Nat
  us : Nat
deriving DecidableEq, Repr

/-- Table 19.2 with the values in force (R420). -/
def State.fwLoop (s : State) (n : Nat) : FwLoop :=
  let rate := s.rd Fld.GCX_PACE_MAX_GBPS
  let patrol := s.rd Fld.STR_PATROL_MAX_GBPS
  if n = 0 then
    { src := 1, arg := 0, dest := 1, sp := 0, lo := fix16 650, hi := fix16 (s.rd Fld.AGE_CFG_VMAX_MV), safe := fix16 850, us := 100 }
  else if n = 1 then { src := 4, arg := 0, dest := 4, sp := 0, lo := 0, hi := fix16 patrol, safe := fix16 patrol, us := 0 }
  else if n < 8 then
    { src := 2, arg := n - 2, dest := 2, sp := fix16 95, lo := 16384, hi := fix16 1, safe := 32768, us := 1000 }
  else if n < 16 then
    { src := 3, arg := n - 8, dest := 3, sp := fix16 (s.rd Fld.GCX_PACE_FREE_TARGET_PCT), lo := 0, hi := fix16 rate, safe := fix16 rate / 4,
      us := 0 }
  else { src := 5, arg := 0, dest := 5, sp := fix16 (s.rd Fld.FLC_SLC_CFG_FOLD_START), lo := 0, hi := fix16 rate, safe := fix16 rate, us := 0 }

/-- Firmware sets loop n at reset (R420); its coefficients, model, ramp and supervision are its own values. -/
def State.setFwLoop (s : State) (n : Nat) : State :=
  let x := s.fwLoop n
  let s := ((s.wr Fld.LPE_LOOP_CFG_SRC x.src n).wr Fld.LPE_LOOP_CFG_ARG x.arg n).wr Fld.LPE_LOOP_CFG_DEST x.dest n
  let s := (s.wrb Fld.LPE_LOOP_CFG_LOCAL (x.us != 0) n).wr Fld.LPE_LOOP_CFG_LOCAL_PERIOD_US x.us n
  let s := (s.wr Fld.LPE_LOOP_SP_SP x.sp n).wr Fld.LPE_LOOP_SAFE_OUT x.safe n
  let s := (s.wr Fld.LPE_LOOP_LIM_OUT_MIN x.lo n).wr Fld.LPE_LOOP_LIM_OUT_MAX x.hi n
  let s := (s.wr Fld.LPE_LOOP_RAMP_STEP (Config.fwLoop n 0) n).wr Fld.LPE_SUP_N (Config.fwLoop n 1) n
  let s := (s.wr Fld.LPE_MODEL_A (Config.fwLoop n 2) n).wr Fld.LPE_MODEL_G (Config.fwLoop n 3) n
  let s := (s.wr Fld.LPE_MODEL_Y0 (Config.fwLoop n 4) n).wr Fld.LPE_MODEL_RBOUND (Config.fwLoop n 5) n
  [0, 1].foldl (fun (s : State) b =>
    let s := (s.wr Fld.LPE_COEF_KP (Config.fwLoop n (6 + 4 * b)) n b).wr Fld.LPE_COEF_KI (Config.fwLoop n (7 + 4 * b)) n b
    (s.wr Fld.LPE_COEF_KD (Config.fwLoop n (8 + 4 * b)) n b).wr Fld.LPE_COEF_BIAS (Config.fwLoop n (9 + 4 * b)) n b) s

/-- Loops 0 to 16. -/
def State.setFwLoops (s : State) : State := (List.range 17).foldl (fun (s : State) n => s.setFwLoop n) s

/-- PWR shows a chain good, or reports it in fault (R483, R487). -/
def State.chainBoot (s : State) (c : Nat) : State :=
  if (s.chain c).pwrgd then s.chainBits c true else (s.chainDue c causePwrgd 0 0xFF).chainFault c true

/-- The configuration store that the boot record names, where it holds a store of the running image's CFG_FMT (R476, R493). -/
def State.bootStore (s : State) : Option Image :=
  match s.fwu.stores.look s.bootRecD.cfgActive with
  | some (fmt, img) => if fmt = s.rd Fld.FWU_SLOT_INFO_CFG_FMT (s.rd Fld.FWU_STATUS_SLOT) then some img else none
  | none => none

/-- The stored configuration is applied through ADM (R491), or the head boots into the first-boot state (R493). -/
def State.bootConfig (s : State) : State :=
  match s.bootStore with
  | none => s.wr Fld.PWR_STATUS_FIRST_BOOT 1
  | some img =>
    let s := s.wr Fld.PWR_CTRL_ENABLE 1
    match s.imgCheck img with
    | some x => s.imgRefused x
    | none => (s.imgApply img true).imgOk

/-- The second record of a fall-back (R474), with `FWU_ERR.FALLBACK`. -/
def State.bootFellBack (s : State) : State :=
  match s.fwu.fellBack with
  | some (gen, cause) =>
    (State.record { s with fwu := { s.fwu with fellBack := none } } Blk.FWU 0x2004 gen cause).raise Fld.FWU_ERR_FALLBACK
  | none => s

/-- The firmware of slot k is entered (Table 23.5). -/
def State.firmwareEntry (s : State) (k : Nat) : State :=
  let s := { s with aon := { s.aon with mainReset := false }, fwu := { s.fwu with booting := none }, free := s.free + 1 }
  let s := (s.wr Fld.PWR_BOOT_US_US (Config.freeNat s.free)).slotsBooted k
  let s := (s.powerAll fwDomains).setFwLoops
  ((s.chainBoot 0).chainBoot 1).bootConfig.bootFellBack

/-! ## The boot ROM -/

/-- The chosen slot fails R467: the other slot boots if it is valid, with a record naming it and one for the Guestbook; with neither valid,
the head stays in reset and the boot-failure latch is set (R463, R468). -/
def State.bootOther (s : State) (k : Nat) : State :=
  let s := { s with fwu := { s.fwu with booting := none } }
  let o := 1 - k
  if s.slotOk o && !s.slotSlow o then
    let r := s.bootRecD
    let cfg := if r.trial || r.prevValid then r.cfgPrev else r.cfgActive
    let s := s.putRec { r with active := o, trial := false, tries := 0, prevValid := false, cfgActive := cfg, deadline := 0 }
    let s := { s with free := s.free + 1 }
    (s.record Blk.FWU 0x2005 k (Config.freeNat s.free)).firmwareEntry o
  else { s with aon := { s.aon with bootFail := true } }

/-- The slot that R468 chooses, with the record it writes; a trial that ends leaves its fall-back to be reported. -/
def State.chooseSlot (s : State) : State × Nat :=
  let r := s.bootRecD
  if !r.trial then (s, r.active)
  else if r.tries = 0 then (s.putRec { r with tries := 1 }, r.active)
  else
    let gen := match s.fwu.slots.look r.active with
      | some x => x.fwGen
      | none => 0
    let cause := if s.aon.resetCause = 4 then 0 else if s.aon.resetCause = 5 then 1 else 2
    let s := s.putRec { r with active := 1 - r.active, trial := false, prevValid := false, cfgActive := r.cfgPrev, deadline := 0 }
    ({ s with fwu := { s.fwu with fellBack := some (gen, cause) } }, 1 - r.active)

/-- The boot ROM starts (R491): its domains, KEK 0, the links' bifurcation, then the slot.  An image whose check does not end is read until
BOOT_IMAGE_TIMEOUT. -/
def State.boot (s : State) : State :=
  let s := (s.wr Fld.PWR_RST_CAUSE_CAUSE s.aon.resetCause).wr Fld.HRI_STATUS_BIF (s.rd Fld.GLB_HEAD_BIF)
  let s := (s.powerAll romDomains).kekZero
  let (s, k) := s.chooseSlot
  if s.slotSlow k then { s with fwu := { s.fwu with booting := some (k, s.now) } }
  else if s.slotOk k then s.firmwareEntry k
  else s.bootOther k

/-- BOOT_IMAGE_TIMEOUT (R491): 5 s after the read began. -/
def State.bootTimeout (s : State) : State :=
  match s.fwu.booting with
  | none => s
  | some (k, t) => (s.advanceUs t 5000000).bootOther k

/-! ## Resets -/

/-- Straps and fuses are read at the release of a system or power-on reset (R9, R78, R234). -/
def State.sampleStraps (s : State) (side : Side) (twoLinks : Bool) : State :=
  let s := { s with aon := { s.aon with side := side, sidePin := side, bifPin := twoLinks, rootKey := s.dbg.fuses.root } }
  let s := (s.wr Fld.GLB_HEAD_SIDE side.code).wrb Fld.GLB_HEAD_BIF twoLinks
  s.wr Fld.OWN_GRP_HOME_MASK (if side = .b then 0xFF00 else Fld.OWN_GRP_HOME_MASK.reset)

/-- An always-on feed is in range. -/
def Aon.fed (a : Aon) : Bool := a.feedA || a.feedB

/-- The power-good inputs at a release. -/
def State.chainPins (s : State) (a b : Bool) : State :=
  { s with pwr := { s.pwr with chainA := { s.pwr.chainA with pwrgd := a }, chainB := { s.pwr.chainB with pwrgd := b } } }

/-- The main domain is held in reset since a power-on reset, and has not tried to boot. -/
def State.powerOnHeld (s : State) : Bool :=
  s.aon.mainReset && s.aon.resetCause == 0 && !s.aon.bootFail && s.fwu.booting.isNone

/-- POWER_ON_RESET (R487): a feed has been above 1.7 V for 100 µs; the main domain is released, and boots unless `SYS_RST_N` is low. -/
def State.powerOnReset (s : State) (feedA feedB : Bool) (side : Side) (twoLinks chainA chainB : Bool) : State :=
  if s.powerOnHeld && (feedA || feedB) then
    let s := { s with aon := { s.aon with feedA := feedA, feedB := feedB } }
    if s.aon.sysRst then s else ((s.sampleStraps side twoLinks).chainPins chainA chainB).boot
  else s

/-- AON_FEED_LOSS (R391): the always-on domain runs on from the other feed. -/
def State.feedLoss (s : State) (a : Bool) : State :=
  if a then (if s.aon.feedB then { s with aon := { s.aon with feedA := false } } else s)
  else (if s.aon.feedA then { s with aon := { s.aon with feedB := false } } else s)

/-- ALWAYS_ON_FEEDS_LOST (R487, R463): the always-on state is lost, and the main domain is held in reset. -/
def State.feedsLost (s : State) : State :=
  let a : Aon := { Aon.powerOn with
    feedA := false, feedB := false, sysRst := s.aon.sysRst, perst := s.aon.perst, side := s.aon.side, sidePin := s.aon.sidePin,
    bifPin := s.aon.bifPin, fenceIn := s.aon.fenceIn, claimIn := s.aon.claimIn }
  (State.cleared { s with aon := a }).wr Fld.GBK_ALARM_SOURCE 0

/-- SYSTEM_RESET (R488, Table 23.3). -/
def State.systemReset (s : State) : State :=
  let cause := if s.powerOnHeld then 0 else 1
  let a : Aon := { s.aon.dropAll with
    sysRst := true, mainReset := true, leaseEnd := none, claimMask := [], fenced := false, fenceOut := false, bootFail := false,
    backstop := none, resetCause := cause }
  State.cleared { s with aon := a }

/-- SYS_RST_N_RELEASE (R491): the straps are sampled and the head boots, once an always-on feed is in range (R487). -/
def State.sysRelease (s : State) (side : Side) (twoLinks chainA chainB : Bool) : State :=
  if !s.aon.sysRst then s
  else
    let s := State.chainPins (State.sampleStraps { s with aon := { s.aon with sysRst := false } } side twoLinks) chainA chainB
    if s.aon.fed then s.boot else s

/-- A reset of the main domain (R489, Table 23.3) with its cause: the drivers go to high impedance, the claims and the lease timer stay, and
the head boots again. -/
def State.mainReset (s : State) (cause : Nat) : State :=
  (State.cleared { s with aon := { s.aon with drivers := [], settle := [], mainReset := true, resetCause := cause } }).boot

/-- A main-domain reset begins only of a main domain that runs; a system or power-on reset prevails (R489). -/
def State.mainRuns (s : State) : Bool := !s.aon.mainReset && !s.aon.sysRst

/-- MAIN_DOMAIN_RESET. -/
def State.mainDomainReset (s : State) (cause : Nat) : State := if s.mainRuns then s.mainReset cause else s

/-- SYS_REFCLK_LOSS (R506): the timer is treated as having reached zero. -/
def State.refclkLoss (s : State) : State :=
  if s.aon.timerRuns then
    let s := s.advanceUs s.now 1
    if s.aon.timerRuns then s.leaseZero else s
  else s

/-- PWR_RST_CMD (R488, R495): waits for a domain switch in progress. -/
def State.rstCmd (s : State) : State :=
  if !s.mainRuns then s
  else if s.pwr.switching.isSome then { s with pwr := { s.pwr with rstWaits := true } }
  else s.mainReset 2

/-! ## Domain switches -/

/-- What the logic of a domain that has been switched finds (R479): nothing it held when it was off. -/
def State.domainEffect (s : State) (d : Nat) (on : Bool) : State :=
  if d < 16 then (chansOf d).foldl (fun (s : State) c => s.wr Fld.FLC_CH_STATUS_STATE (if on then flcInit else flcNotHeld) c) s
  else if 16 ≤ d ∧ d ≤ 23 ∧ on = false then
    { s with rdm := { s.rdm with qps := s.rdm.qps.keep (fun _ q => q.engine != d - 16), wtc := s.rdm.wtc.del (d - 16) } }
  else if 24 ≤ d ∧ d ≤ 27 ∧ on = false then s.wr Fld.ISL_STATUS_QUADS_UP (clrBit (s.rd Fld.ISL_STATUS_QUADS_UP) (d - 24))
  else if d = 28 ∧ on = false then s.linksDown
  else if 37 ≤ d ∧ d ≤ 44 ∧ on = false then s.setWayGroup (d - 37) 2
  else if 53 ≤ d ∧ d ≤ 56 then
    if on then (s.setBank (2 * (d - 53)) 0).setBank (2 * (d - 53) + 1) 0
    else (s.mteWipe (2 * (d - 53))).mteWipe (2 * (d - 53) + 1)
  else if d = 62 ∧ on = false then
    (List.range 8).foldl (fun (s : State) c =>
      if s.rd Fld.PJM_CH_STATUS_STATE c = chanInService then s.wr Fld.PJM_CH_STATUS_STATE Sys2Proof.Machine.chanTraining c else s) s
  else s

/-- DOMAIN_SWITCH_END (R481): the switch ends; a reset that waited for it begins, or the next request is judged. -/
def State.switchEnd (s : State) : State :=
  match s.pwr.switching with
  | none => s
  | some r =>
    let s := { s with pwr := { s.pwr with switching := none } }
    let s := ((s.setDomain r.domain r.on).wr Fld.PWR_STATUS_DOM_BUSY 0).domainEffect r.domain r.on
    let s := if r.cmd then s.domAnswer STS_OK else s
    if s.pwr.rstWaits then s.mainReset 2 else s.domNext (s.pwr.queue.length + 1)

/-! ## The commands -/

/-- POWER_ON_RESET. -/
def execPowerOnReset (feedA feedB : Bool) (side : Side) (twoLinks chainA chainB : Bool) (s : State) : Res :=
  ended (s.powerOnReset feedA feedB side twoLinks chainA chainB)
/-- AON_FEED_LOSS: of feed A, or of feed B. -/
def execAonFeedLoss (a : Bool) (s : State) : Res := ended (s.feedLoss a)
/-- SYSTEM_RESET. -/
def execSystemReset (s : State) : Res := ended s.systemReset
/-- SYS_RST_N_RELEASE. -/
def execSysRstNRelease (side : Side) (twoLinks chainA chainB : Bool) (s : State) : Res := ended (s.sysRelease side twoLinks chainA chainB)
/-- MAIN_DOMAIN_RESET. -/
def execMainDomainReset (cause : Nat) (s : State) : Res := ended (s.mainDomainReset cause)
/-- BOOT_IMAGE_TIMEOUT. -/
def execBootImageTimeout (s : State) : Res := ended s.bootTimeout
/-- SYS_REFCLK_LOSS. -/
def execSysRefclkLoss (s : State) : Res := ended s.refclkLoss
/-- ALWAYS_ON_FEEDS_LOST. -/
def execAlwaysOnFeedsLost (s : State) : Res := ended s.feedsLost
/-- PWR_RST_CMD. -/
def execPwrRstCmd (s : State) : Res := ended s.rstCmd
/-- DOMAIN_SWITCH_END. -/
def execDomainSwitchEnd (s : State) : Res := ended s.switchEnd

end Sys2Proof.Machine
end

