-- ==== Sys2Proof/Machine/Fwu.lean ====
section
/-!
DEFINITION. Firmware update (R470 to R475): staging, the scheduled activation, confirmation, fall-back and the backstop.
-/
namespace Sys2Proof.Machine

open Sys2Proof

/-! ## Slots and commands -/

/-- Slot states of Table 22.4. -/
abbrev slotEmpty : Nat := 0
abbrev slotStaged : Nat := 1
abbrev slotPending : Nat := 2
abbrev slotTrial : Nat := 3
abbrev slotRunning : Nat := 4
abbrev slotPrevious : Nat := 5

/-- The slot that does not run. -/
def State.otherSlot (s : State) : Nat := 1 - s.rd Fld.FWU_STATUS_SLOT

/-- `FWU_CMD` completes. -/
def State.fwuEnd (s : State) (status : Nat) : State :=
  ((s.wr Fld.FWU_CMD_RESULT_STATUS status).wr Fld.FWU_CMD_RESULT_DONE 1).wr Fld.FWU_CMD_RESULT_BUSY 0

/-- Before the previous image is erased, the boot record says that it is gone (R473). -/
def State.forgetPrev (s : State) : State :=
  match s.bootRec with
  | some r => if r.prevValid then s.putRec { r with prevValid := false } else s
  | none => s

/-- FWU_STAGE (R470): the slot that holds no image in use is erased, programmed and checked. -/
def State.fwuStage (s : State) (img : FwImage) : State :=
  if !s.mainRuns then s
  else if (s.slotIn slotPending).isSome || (s.slotIn slotTrial).isSome || (s.slotIn slotPrevious).isSome then s.fwuEnd STS_SLOT_PROTECTED
  else
    let k := s.otherSlot
    let s := s.forgetPrev
    let s := { s with fwu := { s.fwu with slots := s.fwu.slots.put k img } }
    match s.fwFails img with
    | none => (s.slotInfo k slotStaged).fwuEnd STS_OK
    | some .invalid => (s.slotInfo k slotEmpty).fwuEnd STS_IMAGE_INVALID
    | some .sig => (s.slotInfo k slotEmpty).fwuEnd STS_IMAGE_SIG

/-- FWU_CANCEL (R478): a PENDING slot is STAGED again and nothing is scheduled. -/
def State.fwuCancel (s : State) : State :=
  if !s.mainRuns then s
  else
    let s := match s.slotIn slotPending with
      | some k => State.boundNow ((s.wr Fld.FWU_SLOT_INFO_STATE slotStaged k).wr Fld.FWU_ACT_VALID 0)
      | none => s
    s.fwuEnd STS_OK

/-- FWU_ERASE_SLOT (R473): a STAGED slot is erased; one that is PENDING, TRIAL or PREVIOUS is protected. -/
def State.fwuErase (s : State) : State :=
  if !s.mainRuns then s
  else
    let k := s.otherSlot
    let st := s.rd Fld.FWU_SLOT_INFO_STATE k
    if st = slotEmpty then s.fwuEnd STS_OK
    else if st = slotStaged then
      let s := s.forgetPrev
      (State.slotInfo { s with fwu := { s.fwu with slots := s.fwu.slots.del k } } k slotEmpty).fwuEnd STS_OK
    else s.fwuEnd STS_SLOT_PROTECTED

/-! ## Activation -/

/-- The check of R472 step 1 that fails (Table 22.7): the partner's lease, the link, COMPAT_MIN, degraded, busy. -/
def State.actCheck (s : State) (k : Nat) (partnerHeld partnerDegraded : Bool) : Option Nat :=
  if !partnerHeld then some 1
  else if s.islState != islInService then some 2
  else if s.isl.peerFwGen < s.rd Fld.FWU_SLOT_INFO_COMPAT_MIN k then some 3
  else if s.degraded || partnerDegraded then some 4
  else if s.ownershipMoving then some 5
  else none

/-- The activation is skipped (R472). -/
def State.actSkip (s : State) (k check : Nat) : State :=
  let s := { s with fwu := { s.fwu with activating := false } }
  ((s.wr Fld.FWU_SLOT_INFO_STATE slotStaged k).raise Fld.FWU_ERR_ACT_SKIPPED).record Blk.FWU 0x1002 check s.isl.peerFwGen

/-- Everything has been handed over (R387). -/
def State.allHanded (s : State) : Bool := s.own.handing == [] && s.own.moving == [] && s.own.releasing == []

/-- The partner cannot take what is handed over. -/
def State.partnerGone (s : State) : Bool := !s.linkUp || s.rdb Fld.ISL_STATUS_SUSPECT

/-- Steps 3 and 4 of R472, with the store of the new image's format (R476) and the backstop (R475). -/
def State.actFinish (s : State) (k : Nat) : State :=
  let old := s.bootRecD
  let confirm := s.rd Fld.FWU_CFG_CONFIRM_S
  let cfg := 1 - old.cfgActive
  let stores := match s.fwu.stores.look old.cfgActive with
    | some (_, img) => s.fwu.stores.put cfg (s.rd Fld.FWU_SLOT_INFO_CFG_FMT k, img)
    | none => s.fwu.stores.del cfg
  let s := { s with fwu := { s.fwu with stores := stores } }
  let s := s.putRec { old with active := k, trial := true, tries := 0, prevValid := true, cfgActive := cfg, cfgPrev := old.cfgActive,
                               deadline := s.ctNs + confirm * 1000000000 }
  let ticks := (confirm + s.rd Fld.FWU_CFG_BACKSTOP_S) * 25001250
  State.mainReset { s with aon := { s.aon with backstop := some (s.now + ticks * refTick) } } 3

/-- FW_ACTIVATION (R472): the trigger checks the partner and starts the handover; the command again, once everything is handed over, writes
the record and resets. -/
def State.fwActivation (s : State) (partnerHeld partnerDegraded : Bool) : State :=
  if !s.mainRuns || !s.rdb Fld.FWU_CTRL_ENABLE then s
  else if s.fwu.activating then
    match s.slotIn slotPending with
    | none => { s with fwu := { s.fwu with activating := false } }
    | some k =>
      if s.partnerGone then State.actSkip { s with own := { s.own with handing := [] } } k 2
      else if s.allHanded then s.actFinish k
      else s
  else
    let s := s.boundary Blk.FWU
    match s.slotIn slotPending with
    | none => s
    | some k =>
      let at_ := s.activationNs s.aon.side
      let s := s.advanceCt (Frac.int (at_ : Int))
      match s.actCheck k partnerHeld partnerDegraded with
      | some c => s.actSkip k c
      | none =>
        let s := (s.record Blk.FWU 0x0001 (s.rd Fld.FWU_SLOT_INFO_FW_GEN k) at_).queueHand s.allHeld
        { s with fwu := { s.fwu with activating := true } }

/-! ## Confirmation and fall-back -/

/-- FW_CONFIRM (R473): the running image's own FW_GEN, by DEADLINE. -/
def State.fwConfirm (s : State) (gen : Nat) : State :=
  if !s.mainRuns then s
  else
    let k := s.rd Fld.FWU_STATUS_SLOT
    if s.rdb Fld.FWU_STATUS_TRIAL && gen == s.rd Fld.FWU_SLOT_INFO_FW_GEN k && decide (s.ctNs ≤ s.rd Fld.FWU_DEADLINE_NS) then
      let s := s.putRec { s.bootRecD with trial := false, prevValid := true }
      let s := (s.wr Fld.FWU_SLOT_INFO_STATE slotRunning k).wr Fld.FWU_SLOT_INFO_STATE
        (if s.rd Fld.FWU_SLOT_INFO_STATE (1 - k) = slotPrevious then slotStaged else s.rd Fld.FWU_SLOT_INFO_STATE (1 - k)) (1 - k)
      let s := (s.wr Fld.FWU_STATUS_TRIAL 0).wr Fld.FWU_DEADLINE_NS 0
      let s := (State.record { s with aon := { s.aon with backstop := none } } Blk.FWU 0x0003 gen).isend 0 (.trial none)
      s
    else s.raise Fld.FWU_ERR_CONFIRM_BAD

/-- Every staged Guestbook record is written. -/
def State.gbkFlush (s : State) : State := (List.range s.gbk.staging.length).foldl (fun (s : State) _ => s.gbkWrite) s

/-- Steps 2 and 3 of R474. -/
def State.fallBack (s : State) : State :=
  let gen := s.rd Fld.FWU_SLOT_INFO_FW_GEN (s.rd Fld.FWU_STATUS_SLOT)
  let s := s.putRec { s.bootRecD with tries := 3 }
  ((s.record Blk.FWU 0x2004 gen 0).gbkFlush).mainReset 4

/-- FW_DEADLINE (R474): the image is unconfirmed; under a HELD lease everything is handed over first, and the command again falls back. -/
def State.fwDeadline (s : State) : State :=
  if !s.mainRuns || !s.rdb Fld.FWU_STATUS_TRIAL then s
  else
    let s := s.advanceCt (Frac.int (s.rd Fld.FWU_DEADLINE_NS : Int))
    if s.leaseIsHeld && !s.fwu.activating && (s.allHeld != []) then
      { s.queueHand s.allHeld with fwu := { s.fwu with activating := true } }
    else if s.leaseIsHeld && !s.allHanded && !s.partnerGone then s
    else s.fallBack

/-- FW_BACKSTOP_EXPIRY (R475): at its instant the always-on counter resets the main domain. -/
def State.backstopExpiry (s : State) : State :=
  match s.aon.backstop with
  | none => s
  | some t =>
    if s.aon.sysRst then s
    else
      let s := s.advance t
      State.mainReset { s with aon := { s.aon with backstop := none } } 5

/-! ## The commands -/

/-- FWU_STAGE. -/
def execFwuStage (img : FwImage) (s : State) : Res := ended (s.fwuStage img)
/-- FWU_CANCEL. -/
def execFwuCancel (s : State) : Res := ended s.fwuCancel
/-- FWU_ERASE_SLOT. -/
def execFwuEraseSlot (s : State) : Res := ended s.fwuErase
/-- FW_ACTIVATION. -/
def execFwActivation (partnerHeld partnerDegraded : Bool) (s : State) : Res := ended (s.fwActivation partnerHeld partnerDegraded)
/-- FW_CONFIRM. -/
def execFwConfirm (gen : Nat) (s : State) : Res := ended (s.fwConfirm gen)
/-- FW_DEADLINE. -/
def execFwDeadline (s : State) : Res := ended s.fwDeadline
/-- FW_BACKSTOP_EXPIRY. -/
def execFwBackstopExpiry (s : State) : Res := ended s.backstopExpiry

end Sys2Proof.Machine
end

