-- ==== Sys2Proof/Machine/Bar0.lean ====
section
/-!
DEFINITION. BAR0 from outside (R2, R518 to R521): accesses of every size, the command registers, the error interrupt (R525), and the same
accesses over JTAG (R529).
-/
namespace Sys2Proof.Machine

open Sys2Proof

/-! ## Command registers
A write to a command register acts by that command.  The commands that take from outside the head what no register holds (an image, a
drill's course, records of the partner) act by their own rows alone. -/

/-- Commands of GLB, CAR, HRI and RDM. -/
def State.commandFront (s : State) (b o v : Nat) : State :=
  if b = Blk.CAR ∧ o = 0x50 then carSlotArm (bitsOf v 0 14) false s
  else if b = Blk.CAR ∧ o = 0x54 then carSlotDisarm (bitsOf v 0 14) false s
  else if b = Blk.HRI ∧ o = 0x10 then s.resyncStart none (bitsOf v 0 12)
  else if b = Blk.HRI ∧ o = 0x14 then s.ringRelease (bitsOf v 0 12)
  else if b = Blk.RDM ∧ o = 0x34 then
    let i := bitsOf v 0 20
    if bitsOf v 20 2 = 1 then State.windowOpen { s with free := s.free + 1 } i none (Config.freeBool s.free)
    else if bitsOf v 20 2 = 2 then s.windowRevoke i true
    else if bitsOf v 20 2 = 3 then s.windowRead i else s
  else s

/-- Commands of POL, PJM, CIP, MAP and MDC. -/
def State.commandData (s : State) (b o v : Nat) : State :=
  if b = Blk.POL ∧ o = 0x30 then
    let p := bitsOf v 2 4
    let w := bitsOf v 6 10
    if bitsOf v 0 2 = 1 then s.polOpAllocate p w else if bitsOf v 0 2 = 2 then s.polOpFree p w
    else if bitsOf v 0 2 = 3 then s.polOpReserved else s
  else if b = Blk.PJM ∧ o = 0x24 then s.pjmChCmd (bitsOf v 0 3)
  else if b = Blk.CIP ∧ o = 0x1C then
    let op := bitsOf v 0 3
    let t := bitsOf v 3 14
    let pad := bitAt v 23
    if op = 1 then s.keyUnwrapSlot t (bitsOf v 17 6) pad (bitsOf v 24 7)
    else if op = 2 then s.keyUnwrapKek (t % 64) (bitsOf v 17 6) pad (bitsOf v 24 7)
    else if op = 3 then s.keyEraseSlot t else if op = 4 then s.keyEraseKek (t % 64) else s
  else if b = Blk.MAP ∧ o = 0x1C then (if bitAt v 0 then s.ckptCmd else s)
  else if b = Blk.MDC ∧ o = 0x14 then
    (if bitsOf v 3 2 = 1 then s.wayDown (bitsOf v 0 3) else if bitsOf v 3 2 = 2 then s.wayUp (bitsOf v 0 3) else s)
  else s

/-- Commands of MTE, OWN and SNP. -/
def State.commandService (s : State) (b o v : Nat) : State :=
  if b = Blk.MTE ∧ o = 0x18 then
    let k := bitsOf v 0 3
    let op := bitsOf v 3 3
    if op = 1 then s.mteBulkEnter k else if op = 2 then s.mteBulkLeave k else if op = 3 then s.mteBankPowerDown k
    else if op = 4 then s.mteBankPowerUp k else s
  else if b = Blk.MTE ∧ o = 0xA0 then s.mteUpdCmd v
  else if b = Blk.MTE ∧ o = 0xE8 then s.mteSearchTest (bitsOf v 0 4)
  else if b = Blk.OWN ∧ o = 0x38 then
    let op := bitsOf v 0 3
    if op = 1 then s.ownCmdHand s.allHeld false
    else if op = 2 then s.ownCmd (fun s => s.askReturn.ownCmdEnd STS_OK)
    else if op = 3 then s.ownCmdHand (s.ownSets.filter (fun x => x == bitsOf v 3 11)) true
    else if op = 4 then s.ownCmdHand ((s.ownGroups.filter (fun g => g == bitsOf v 14 4)).map (2000 + ·)) true
    else s
  else if b = Blk.SNP ∧ o = 0x24 then
    let op := bitsOf v 0 3
    if op = 1 then s.snapCreate else if op = 2 then s.snapDelete else if op = 3 then s.snapClone
    else if op = 4 then s.replicaPromote else if op = 5 then s.snapAttach else s
  else s

/-! ## The error interrupt -/

/-- The message of R525 leaves. -/
def State.intSend (s : State) : State :=
  { s.emit (.msix 0 (s.rd Fld.GLB_INT_CFG_VECTOR)) with glb := { armed := false, lastMsg := some s.now, held := false } }

/-- Local time before which no message leaves. -/
def State.intHoldEnd (s : State) : Nat :=
  match s.glb.lastMsg with
  | some t => t + s.rd Fld.GLB_INT_CFG_HOLDOFF_US * unitsPerUs
  | none => 0

/-- With the interrupt armed and the masked summary non-zero, the message leaves, or waits for HOLDOFF_US; with EN 0 the change passes
without one (R525). -/
def State.intTry (s : State) : State :=
  if !s.glb.armed || s.maskedErr == 0 then s
  else if !s.rdb Fld.GLB_INT_CFG_EN then { s with glb := { s.glb with armed := false } }
  else if s.now < s.intHoldEnd then { s with glb := { s.glb with held := true } }
  else s.intSend

/-- GLB_INT_ACK (R525). -/
def State.intAck (s : State) : State := State.intTry { s with glb := { s.glb with armed := true } }

/-- INT_HOLDOFF_EXPIRY (R525): a held message leaves if its condition still holds. -/
def State.intHoldoff (s : State) : State :=
  if !s.glb.held then s
  else
    let s := s.advance s.intHoldEnd
    let s := { s with glb := { s.glb with held := false } }
    if s.rdb Fld.GLB_INT_CFG_EN && s.maskedErr != 0 then s.intSend else s

/-- Commands of GBK, FWU, PWR, DBG and GLB, and the COMMIT registers (R441). -/
def State.commandSystem (s : State) (b o v : Nat) : State :=
  if b = Blk.GLB ∧ o = 0x3C then (if bitAt v 0 then s.intAck else s)
  else if b = Blk.GBK ∧ o = 0x80 then (if bitAt v 0 then s.gbkClear else s)
  else if b = Blk.FWU ∧ o = 0x3C then
    (if bitsOf v 0 2 = 2 then s.fwuCancel else if bitsOf v 0 2 = 3 then s.fwuErase else s)
  else if b = Blk.FWU ∧ o = 0x44 then s.fwConfirm v
  else if b = Blk.PWR ∧ o = 0x18 then
    (if bitsOf v 6 2 = 1 then s.domRequest (bitsOf v 0 6) false true
     else if bitsOf v 6 2 = 2 then s.domRequest (bitsOf v 0 6) true true else s)
  else if b = Blk.PWR ∧ o = 0x30 then (if bitAt v 0 then s.rstCmd else s)
  else if b = Blk.DBG ∧ o = 0x28 then s.loopBegin (bitsOf v 0 3) (bitsOf v 3 7) (bitsOf v 10 16)
  else if b = Blk.DBG ∧ o = 0x38 then s.fuseCmd (bitsOf v 0 5) none
  else s

/-- The COMMIT register of a block lies at this offset. -/
def isCommit (b o : Nat) : Bool :=
  match commitField b with
  | some f => f.reg == o
  | none => false

/-- What a write of a 4-byte word does as a command. -/
def State.command (s : State) (b o v : Nat) : State :=
  if isCommit b o then s.commitWrite b v
  else if b ≤ Blk.RDM ∧ b ≠ Blk.GLB then s.commandFront b o v
  else if Blk.POL ≤ b ∧ b ≤ Blk.MDC then s.commandData b o v
  else if Blk.MTE ≤ b ∧ b ≤ Blk.SNP then s.commandService b o v
  else s.commandSystem b o v

/-! ## Accesses -/

/-- The block of a BAR0 offset, and the offset in its window (R518). -/
def blockOfOff (off : Nat) : Nat := off / 1048576
def windowOff (off : Nat) : Nat := off % 1048576

/-- The register instance that holds `n` bytes at a BAR0 offset. -/
def regOfOff (off n : Nat) : Option Reg := if blockOfOff off < 28 then regAt (blockOfOff off) (windowOff off) n else none

/-- A write of `n` bytes, 4 or 8, inside one register; of a Carillon slot word by word (R76). -/
def State.writeIn (s : State) (off n v : Nat) : State :=
  let b := blockOfOff off
  let o := windowOff off
  if s.blockOff b then s.raise Fld.PWR_ERR_OFF_ACCESS
  else if b = Blk.CAR ∧ 0x80000 ≤ o then
    (List.range (n / 4)).foldl (fun (s : State) k =>
      carSlotWrite ((o - 0x80000) / 32) ((o - 0x80000) % 32 + 4 * k) (bitsOf v (32 * k) 32) false s) s
  else
    let s := s.regWrite b (o * 8) (n * 8) v
    if n = 4 then s.command b o v else s

/-- A 4-byte write. -/
def State.write4 (s : State) (off v : Nat) : State :=
  match regOfOff off 4 with
  | some _ => s.writeIn off 4 v
  | none => s.glbErr 2 off true

/-- An 8-byte write: inside one register, or two accesses, lower address first (R519). -/
def State.write8 (s : State) (off v : Nat) : State :=
  match regOfOff off 8 with
  | some _ => s.writeIn off 8 v
  | none => (s.write4 off (bitsOf v 0 32)).write4 (off + 4) (bitsOf v 32 32)

/-- A size that BAR0 takes, naturally aligned (R519). -/
def sizeOk (off n : Nat) : Bool := [4, 8, 16, 32, 64].contains n && off % n == 0

/-- A write from outside (R519, R520); before firmware runs it has no effect (R492). -/
def State.barWrite (s : State) (off n v : Nat) : State :=
  if s.aon.mainReset then s
  else if !sizeOk off n then s.glbErr 3 off true
  else if n = 4 then s.write4 off (v % 2 ^ 32)
  else (List.range (n / 8)).foldl (fun (s : State) k => s.write8 (off + 8 * k) (bitsOf v (64 * k) 64)) s

/-- A read of `n` bytes, 4 or 8, inside one register. -/
def State.readIn (s : State) (off n bytes : Nat) : State × Nat :=
  let b := blockOfOff off
  if s.blockOff b then (s.raise Fld.PWR_ERR_OFF_ACCESS, 0) else s.regRead b (windowOff off * 8) (n * 8) bytes

/-- A 4-byte read. -/
def State.read4 (s : State) (off : Nat) : State × Nat :=
  match regOfOff off 4 with
  | some r => s.readIn off 4 r.bytes
  | none => (s.glbErr 2 off false, 0)

/-- An 8-byte read: inside one register, or two accesses, lower address first (R519). -/
def State.read8 (s : State) (off : Nat) : State × Nat :=
  match regOfOff off 8 with
  | some r => s.readIn off 8 r.bytes
  | none =>
    let lo := s.read4 off
    let hi := lo.1.read4 (off + 4)
    (hi.1, lo.2 + hi.2 * 2 ^ 32)

/-- The whole words that cover a read whose byte enables do not (R519). -/
def State.readWords (s : State) (off n : Nat) : State × Nat :=
  (List.range ((off + n + 3) / 4 - off / 4)).foldl (fun (a : State × Nat) k =>
    let q := a.1.read4 ((off / 4 + k) * 4)
    (q.1, a.2 + q.2 * 2 ^ (32 * k))) (s, 0)

/-- A read from outside. -/
def State.barRead (s : State) (off n : Nat) : State × Nat :=
  if s.aon.mainReset && s.fwu.booting.isNone then (s, 0)
  else if sizeOk off n then
    if n = 4 then s.read4 off
    else
      (List.range (n / 8)).foldl (fun (a : State × Nat) k =>
        let q := a.1.read8 (off + 8 * k)
        (q.1, a.2 + q.2 * 2 ^ (64 * k))) (s, 0)
  else if off % 4 ≠ 0 ∨ n % 4 ≠ 0 then s.readWords off n
  else (s.glbErr 3 off false, 0)

/-- A read whose value goes back to the host. -/
def State.hostRead (s : State) (off n : Nat) : State :=
  let q := s.barRead off n
  q.1.emit (.regValue off q.2)

/-- An access has a bad size, or reaches an offset outside the map (R519, R520). -/
def accessBad (off n : Nat) : Bool :=
  !sizeOk off n || (List.range (n / 4)).any (fun k => (regOfOff (off + 4 * k) 4).isNone)

/-- BAR0_ACCESS_ERROR (R519, R520): a write of a value, or a read. -/
def State.barError (s : State) (off n : Nat) (write : Option Nat) : State :=
  if !accessBad off n then s
  else
    match write with
    | some v => s.barWrite off n v
    | none => s.hostRead off n

/-- REG_ACCESS (R529, R530): one access as PF0's; what is read is shifted out at the next Capture-DR. -/
def State.jtagAccess (s : State) (off n : Nat) (write : Option Nat) : State :=
  s.unlessLocked (fun s =>
    let s := s.loadIr irRegAccess
    match write with
    | some v => s.barWrite off n v
    | none =>
      let q := if s.aon.mainReset then (s, 0) else s.barRead off n
      { q.1 with dbg := { q.1.dbg with dr := q.2 } }.emit (.tap q.2))

/-! ## The commands -/

/-- REGISTER_WRITE. -/
def execRegisterWrite (off size value : Nat) (s : State) : Res := ended (s.barWrite off size value)
/-- RC_REGISTER_READ; a read of any other register returns its value likewise. -/
def execRcRegisterRead (off size : Nat) (s : State) : Res := ended (s.hostRead off size)
/-- BAR0_ACCESS_ERROR. -/
def execBar0AccessError (off size : Nat) (write : Option Nat) (s : State) : Res := ended (s.barError off size write)
/-- GLB_INT_ACK. -/
def execGlbIntAck (s : State) : Res := ended s.intAck
/-- ERROR_INTERRUPT. -/
def execErrorInterrupt (s : State) : Res := ended s.intTry
/-- INT_HOLDOFF_EXPIRY. -/
def execIntHoldoffExpiry (s : State) : Res := ended s.intHoldoff
/-- REG_ACCESS. -/
def execRegAccess (off size : Nat) (write : Option Nat) (s : State) : Res := ended (s.jtagAccess off size write)

end Sys2Proof.Machine
end

