-- ==== Sys2Proof/Machine/Dispatch.lean ====
section
/-! DEFINITION. The dispatch of every command to its meaning. -/
namespace Sys2Proof.Machine

open Sys2Proof

/-- The effect of a command on everything but the queue. -/
def exec (i : Instr) (s : State) : Host.Outcome State Fault Refusal :=
  match i with
  | .powerOnReset feedA feedB side twoLinks chainA chainB => Sys2Proof.Machine.execPowerOnReset feedA feedB side twoLinks chainA chainB s
  | .aonFeedLoss a => Sys2Proof.Machine.execAonFeedLoss a s
  | .systemReset => Sys2Proof.Machine.execSystemReset s
  | .sysRstNRelease side twoLinks chainA chainB => Sys2Proof.Machine.execSysRstNRelease side twoLinks chainA chainB s
  | .mainDomainReset cause => Sys2Proof.Machine.execMainDomainReset cause s
  | .bootImageTimeout => Sys2Proof.Machine.execBootImageTimeout s
  | .mdcInvalidationEnd => Sys2Proof.Machine.execMdcInvalidationEnd s
  | .sysRefclkLoss => Sys2Proof.Machine.execSysRefclkLoss s
  | .perstNAssert => Sys2Proof.Machine.execPerstNAssert s
  | .functionLevelReset fn => Sys2Proof.Machine.execFunctionLevelReset fn s
  | .d3hotEntry fn => Sys2Proof.Machine.execD3hotEntry fn s
  | .pcieLinkLoss link => Sys2Proof.Machine.execPcieLinkLoss link s
  | .pcieLinkTrain link l => Sys2Proof.Machine.execPcieLinkTrain link l s
  | .fenceInAsserted => Sys2Proof.Machine.execFenceInAsserted s
  | .fenceTestPulse ns => Sys2Proof.Machine.execFenceTestPulse ns s
  | .fenceInRelease => Sys2Proof.Machine.execFenceInRelease s
  | .claimInChange group claimed heldNs => Sys2Proof.Machine.execClaimInChange group claimed heldNs s
  | .groupSettleExpiry group => Sys2Proof.Machine.execGroupSettleExpiry group s
  | .ptpMeasurement port dt srcTai logInterval => Sys2Proof.Machine.execPtpMeasurement port dt srcTai logInterval s
  | .ptpAnnounce port utcOffset leap61 leap59 => Sys2Proof.Machine.execPtpAnnounce port utcOffset leap61 leap59 s
  | .ppsInEdge dt falling => Sys2Proof.Machine.execPpsInEdge dt falling s
  | .holdoverEntry => Sys2Proof.Machine.execHoldoverEntry s
  | .backupPortFallover => Sys2Proof.Machine.execBackupPortFallover s
  | .servoStep1ms => Sys2Proof.Machine.execServoStep1ms s
  | .epsOverSet => Sys2Proof.Machine.execEpsOverSet s
  | .epsOverClear => Sys2Proof.Machine.execEpsOverClear s
  | .ppsOutEdge => Sys2Proof.Machine.execPpsOutEdge s
  | .carEnableClear => Sys2Proof.Machine.execCarEnableClear s
  | .carNowRead => Sys2Proof.Machine.execCarNowRead s
  | .carSlotWrite slot off value fw => Sys2Proof.Machine.execCarSlotWrite slot off value fw s
  | .carSlotArm slot fw => Sys2Proof.Machine.execCarSlotArm slot fw s
  | .carSlotDisarm slot fw => Sys2Proof.Machine.execCarSlotDisarm slot fw s
  | .carillonFire slot => Sys2Proof.Machine.execCarillonFire slot s
  | .commitWrite block gen => Sys2Proof.Machine.execCommitWrite block gen s
  | .admissionCheckEnd block => Sys2Proof.Machine.execAdmissionCheckEnd block s
  | .commitTakeEffect block => Sys2Proof.Machine.execCommitTakeEffect block s
  | .blockEnableSet block => Sys2Proof.Machine.execBlockEnableSet block s
  | .admCheckImage img => Sys2Proof.Machine.execAdmCheckImage img s
  | .admApplyImage img => Sys2Proof.Machine.execAdmApplyImage img s
  | .measuredDrift => Sys2Proof.Machine.execMeasuredDrift s
  | .registerWrite off size value => Sys2Proof.Machine.execRegisterWrite off size value s
  | .rcRegisterRead off size => Sys2Proof.Machine.execRcRegisterRead off size s
  | .bar0AccessError off size write => Sys2Proof.Machine.execBar0AccessError off size write s
  | .glbIntAck => Sys2Proof.Machine.execGlbIntAck s
  | .errorInterrupt => Sys2Proof.Machine.execErrorInterrupt s
  | .intHoldoffExpiry => Sys2Proof.Machine.execIntHoldoffExpiry s
  | .ringEnable ring => Sys2Proof.Machine.execRingEnable ring s
  | .ringDisable ring => Sys2Proof.Machine.execRingDisable ring s
  | .ringDrainEnd ring => Sys2Proof.Machine.execRingDrainEnd ring s
  | .ringRelease ring => Sys2Proof.Machine.execRingRelease ring s
  | .sqTailDoorbell fn index value => Sys2Proof.Machine.execSqTailDoorbell fn index value s
  | .cqHeadDoorbell fn index value => Sys2Proof.Machine.execCqHeadDoorbell fn index value s
  | .descriptorFetch => Sys2Proof.Machine.execDescriptorFetch s
  | .descriptorFetchDone ring fe entries => Sys2Proof.Machine.execDescriptorFetchDone ring fe entries s
  | .completionWrite ring sbOk => Sys2Proof.Machine.execCompletionWrite ring sbOk s
  | .statusBlockTimer ring ok => Sys2Proof.Machine.execStatusBlockTimer ring ok s
  | .coalesceTimer ring => Sys2Proof.Machine.execCoalesceTimer ring s
  | .resync fn index => Sys2Proof.Machine.execResync fn index s
  | .resyncRecordWrite ring => Sys2Proof.Machine.execResyncRecordWrite ring s
  | .evqHeadDoorbell fn value => Sys2Proof.Machine.execEvqHeadDoorbell fn value s
  | .eventPost source code fn nsid arg0 arg1 => Sys2Proof.Machine.execEventPost source code fn nsid arg0 arg1 s
  | .nop ring seq => Sys2Proof.Machine.execNop ring seq s
  | .blkWrite ring seq data => Sys2Proof.Machine.execBlkWrite ring seq data s
  | .blkRead ring seq xferOk => Sys2Proof.Machine.execBlkRead ring seq xferOk s
  | .flush ring seq => Sys2Proof.Machine.execFlush ring seq s
  | .deallocate ring seq => Sys2Proof.Machine.execDeallocate ring seq s
  | .kvPut ring seq key value => Sys2Proof.Machine.execKvPut ring seq key value s
  | .kvGet ring seq key xferOk short => Sys2Proof.Machine.execKvGet ring seq key xferOk short s
  | .kvDelete ring seq key => Sys2Proof.Machine.execKvDelete ring seq key s
  | .compress ring seq input outOk => Sys2Proof.Machine.execCompress ring seq input outOk s
  | .decompress ring seq input outOk => Sys2Proof.Machine.execDecompress ring seq input outOk s
  | .cipher ring seq input outOk suspends => Sys2Proof.Machine.execCipher ring seq input outOk suspends s
  | .hash ring seq input outOk => Sys2Proof.Machine.execHash ring seq input outOk s
  | .writeArrival op at_ addrs => Sys2Proof.Machine.execWriteArrival op at_ addrs s
  | .pjmRecordPersist mirror jseq => Sys2Proof.Machine.execPjmRecordPersist mirror jseq s
  | .mirrorRecordReceive jseq m => Sys2Proof.Machine.execMirrorRecordReceive jseq m s
  | .mirrorAckReceive jseq => Sys2Proof.Machine.execMirrorAckReceive jseq s
  | .pjmWriteFail jseq local_ => Sys2Proof.Machine.execPjmWriteFail jseq local_ s
  | .stampRecordTimer => Sys2Proof.Machine.execStampRecordTimer s
  | .anchorWrite chan => Sys2Proof.Machine.execAnchorWrite chan s
  | .recordCopyForward jseq => Sys2Proof.Machine.execRecordCopyForward jseq s
  | .pjmChannelFail chan => Sys2Proof.Machine.execPjmChannelFail chan s
  | .pjmChCmd chan => Sys2Proof.Machine.execPjmChCmd chan s
  | .pjmReplay both localBad mirrorBad badType => Sys2Proof.Machine.execPjmReplay both localBad mirrorBad badType s
  | .bufferStripeClose stripe full => Sys2Proof.Machine.execBufferStripeClose stripe full s
  | .pageProgramDone stripe member pass at_ addrs => Sys2Proof.Machine.execPageProgramDone stripe member pass at_ addrs s
  | .commitWaitRelease op => Sys2Proof.Machine.execCommitWaitRelease op s
  | .deferredErrorRecord dropped nsid slba nlb bucket key keyLen => Sys2Proof.Machine.execDeferredErrorRecord dropped nsid slba nlb bucket key keyLen s
  | .destage op at_ addrs => Sys2Proof.Machine.execDestage op at_ addrs s
  | .netFrameReceive port bytes prio occ ce fecBad => Sys2Proof.Machine.execNetFrameReceive port bytes prio occ ce fecBad s
  | .pfcFrameReceive port prio pause => Sys2Proof.Machine.execPfcFrameReceive port prio pause s
  | .pfcWatchdogExpiry port prio => Sys2Proof.Machine.execPfcWatchdogExpiry port prio s
  | .portLinkChange port up => Sys2Proof.Machine.execPortLinkChange port up s
  | .tcpSyn listener isn ecn sack tsopt wscale mss => Sys2Proof.Machine.execTcpSyn listener isn ecn sack tsopt wscale mss s
  | .tcpSegmentReceive conn seq len ack rst fin ce => Sys2Proof.Machine.execTcpSegmentReceive conn seq len ack rst fin ce s
  | .tcpRtoExpiry conn => Sys2Proof.Machine.execTcpRtoExpiry conn s
  | .nvmeConnect tr assoc host tenant qsize kato cid => Sys2Proof.Machine.execNvmeConnect tr assoc host tenant qsize kato cid s
  | .nvmeDisconnect q cid => Sys2Proof.Machine.execNvmeDisconnect q cid s
  | .nvmePropertyGet q cid off => Sys2Proof.Machine.execNvmePropertyGet q cid off s
  | .nvmePropertySet q cid off value => Sys2Proof.Machine.execNvmePropertySet q cid off value s
  | .nvmeIdentify q cid cns nsid => Sys2Proof.Machine.execNvmeIdentify q cid cns nsid s
  | .nvmeGetLogPage q cid lid nsid rae => Sys2Proof.Machine.execNvmeGetLogPage q cid lid nsid rae s
  | .nvmeSetFeatures q cid fid value => Sys2Proof.Machine.execNvmeSetFeatures q cid fid value s
  | .nvmeGetFeatures q cid fid => Sys2Proof.Machine.execNvmeGetFeatures q cid fid s
  | .nvmeAsyncEventRequest q cid => Sys2Proof.Machine.execNvmeAsyncEventRequest q cid s
  | .nvmeKeepAlive q cid => Sys2Proof.Machine.execNvmeKeepAlive q cid s
  | .nvmeAbort q cid => Sys2Proof.Machine.execNvmeAbort q cid s
  | .keepAliveExpiry assoc => Sys2Proof.Machine.execKeepAliveExpiry assoc s
  | .nvmeRead q cid dw nsid lba blocks xferOk => Sys2Proof.Machine.execNvmeRead q cid dw nsid lba blocks xferOk s
  | .nvmeWrite q cid dw nsid lba blocks fua icd data => Sys2Proof.Machine.execNvmeWrite q cid dw nsid lba blocks fua icd data s
  | .nvmeFlush q cid dw nsid => Sys2Proof.Machine.execNvmeFlush q cid dw nsid s
  | .nvmeWriteZeroes q cid dw nsid lba blocks => Sys2Proof.Machine.execNvmeWriteZeroes q cid dw nsid lba blocks s
  | .nvmeDsmDeallocate q cid dw nsid deallocate ranges => Sys2Proof.Machine.execNvmeDsmDeallocate q cid dw nsid deallocate ranges s
  | .nvmeKvStore q cid dw nsid key keyLen valueLen mustExist mustNot append icd data => Sys2Proof.Machine.execNvmeKvStore q cid dw nsid key keyLen valueLen mustExist mustNot append icd data s
  | .nvmeKvRetrieve q cid dw nsid key keyLen len xferOk => Sys2Proof.Machine.execNvmeKvRetrieve q cid dw nsid key keyLen len xferOk s
  | .nvmeKvDelete q cid dw nsid key keyLen => Sys2Proof.Machine.execNvmeKvDelete q cid dw nsid key keyLen s
  | .nvmeKvExist q cid dw nsid key keyLen => Sys2Proof.Machine.execNvmeKvExist q cid dw nsid key keyLen s
  | .nvmeKvList q cid dw nsid key keyLen len xferOk => Sys2Proof.Machine.execNvmeKvList q cid dw nsid key keyLen len xferOk s
  | .nvmeInvalidOpcode q cid => Sys2Proof.Machine.execNvmeInvalidOpcode q cid s
  | .nvmeTcpIcreq conn maxR2t hdgst ddgst => Sys2Proof.Machine.execNvmeTcpIcreq conn maxR2t hdgst ddgst s
  | .bufferGrantTransfer q cid bytes => Sys2Proof.Machine.execBufferGrantTransfer q cid bytes s
  | .h2cDataReceive q cid off bytes data digestOk => Sys2Proof.Machine.execH2cDataReceive q cid off bytes data digestOk s
  | .writeDataReadDone q cid ok data => Sys2Proof.Machine.execWriteDataReadDone q cid ok data s
  | .forwardedCompletionReceive token a => Sys2Proof.Machine.execForwardedCompletionReceive token a s
  | .anaStateChange => Sys2Proof.Machine.execAnaStateChange s
  | .rocePacketReceive qp p => Sys2Proof.Machine.execRocePacketReceive qp p s
  | .odpPageResident window page => Sys2Proof.Machine.execOdpPageResident window page s
  | .roceAckReceive qp psn => Sys2Proof.Machine.execRoceAckReceive qp psn s
  | .roceNakSeqReceive qp psn => Sys2Proof.Machine.execRoceNakSeqReceive qp psn s
  | .roceRnrNakReceive qp psn timer => Sys2Proof.Machine.execRoceRnrNakReceive qp psn timer s
  | .roceRetransmitExpiry qp => Sys2Proof.Machine.execRoceRetransmitExpiry qp s
  | .ccProbeSend qp => Sys2Proof.Machine.execCcProbeSend qp s
  | .ccProbeAck qp rttNs => Sys2Proof.Machine.execCcProbeAck qp rttNs s
  | .ccIdleExpiry qp => Sys2Proof.Machine.execCcIdleExpiry qp s
  | .qpModify qp target consumer tenant engine line psn => Sys2Proof.Machine.execQpModify qp target consumer tenant engine line psn s
  | .qpErrorEntry qp => Sys2Proof.Machine.execQpErrorEntry qp s
  | .windowOpen index d inArea => Sys2Proof.Machine.execWindowOpen index d inArea s
  | .windowTranslationsLoaded index => Sys2Proof.Machine.execWindowTranslationsLoaded index s
  | .windowRevoke index bar0 => Sys2Proof.Machine.execWindowRevoke index bar0 s
  | .windowReadEntry index => Sys2Proof.Machine.execWindowReadEntry index s
  | .windowDrainEnd index => Sys2Proof.Machine.execWindowDrainEnd index s
  | .revokeTimeout index => Sys2Proof.Machine.execRevokeTimeout index s
  | .wtcMissWalkDone qp => Sys2Proof.Machine.execWtcMissWalkDone qp s
  | .polAllocate block pool owner n wait => Sys2Proof.Machine.execPolAllocate block pool owner n wait s
  | .polFree block pool index owner => Sys2Proof.Machine.execPolFree block pool index owner s
  | .polOpAllocate pool owner => Sys2Proof.Machine.execPolOpAllocate pool owner s
  | .polOpFree pool owner => Sys2Proof.Machine.execPolOpFree pool owner s
  | .polOpReserved => Sys2Proof.Machine.execPolOpReserved s
  | .poolEnable pool => Sys2Proof.Machine.execPoolEnable pool s
  | .poolFillEnd pool => Sys2Proof.Machine.execPoolFillEnd pool s
  | .poolDisable pool => Sys2Proof.Machine.execPoolDisable pool s
  | .poolDrainEnd pool => Sys2Proof.Machine.execPoolDrainEnd pool s
  | .polDisable => Sys2Proof.Machine.execPolDisable s
  | .islEnable => Sys2Proof.Machine.execIslEnable s
  | .islTrainingEnd quads => Sys2Proof.Machine.execIslTrainingEnd quads s
  | .islFlitReceive fseq crcOk ack nak msgs whole => Sys2Proof.Machine.execIslFlitReceive fseq crcOk ack nak msgs whole s
  | .islLaneFail lane => Sys2Proof.Machine.execIslLaneFail lane s
  | .islLinkDown cause => Sys2Proof.Machine.execIslLinkDown cause s
  | .islEnableClear => Sys2Proof.Machine.execIslEnableClear s
  | .islLinkUp => Sys2Proof.Machine.execIslLinkUp s
  | .catchupEnd => Sys2Proof.Machine.execCatchupEnd s
  | .drumbeatSend => Sys2Proof.Machine.execDrumbeatSend s
  | .drumbeatReceive d => Sys2Proof.Machine.execDrumbeatReceive d s
  | .drumbeatAbsent => Sys2Proof.Machine.execDrumbeatAbsent s
  | .indexMessage fp domain reserve => Sys2Proof.Machine.execIndexMessage fp domain reserve s
  | .indexQueryTimeout op => Sys2Proof.Machine.execIndexQueryTimeout op s
  | .pinRelease handle => Sys2Proof.Machine.execPinRelease handle s
  | .referenceApply mirror jseq => Sys2Proof.Machine.execReferenceApply mirror jseq s
  | .indexEntryRelease handle => Sys2Proof.Machine.execIndexEntryRelease handle s
  | .deferredDedupEntry => Sys2Proof.Machine.execDeferredDedupEntry s
  | .chunkCrcFail addr persists => Sys2Proof.Machine.execChunkCrcFail addr persists s
  | .keyUnwrapSlot target kek pad blobLen => Sys2Proof.Machine.execKeyUnwrapSlot target kek pad blobLen s
  | .keyUnwrapKek target kek pad blobLen => Sys2Proof.Machine.execKeyUnwrapKek target kek pad blobLen s
  | .keyEraseSlot target => Sys2Proof.Machine.execKeyEraseSlot target s
  | .keyEraseKek target => Sys2Proof.Machine.execKeyEraseKek target s
  | .keyEraseEnd slot => Sys2Proof.Machine.execKeyEraseEnd slot s
  | .keyStoreFault slot => Sys2Proof.Machine.execKeyStoreFault slot s
  | .checkpointStart oset => Sys2Proof.Machine.execCheckpointStart oset s
  | .checkpointStripesDone oset stripes => Sys2Proof.Machine.execCheckpointStripesDone oset stripes s
  | .checkpointDirectoryDone oset copyFailed => Sys2Proof.Machine.execCheckpointDirectoryDone oset copyFailed s
  | .mapCkptCmd => Sys2Proof.Machine.execMapCkptCmd s
  | .mapDirtyThreshold => Sys2Proof.Machine.execMapDirtyThreshold s
  | .mapEnable => Sys2Proof.Machine.execMapEnable s
  | .recoverySetServe oset summaries wseqs torn => Sys2Proof.Machine.execRecoverySetServe oset summaries wseqs torn s
  | .mapDeltaApply mirror jseq => Sys2Proof.Machine.execMapDeltaApply mirror jseq s
  | .mapPageFetch page level stripe got accs => Sys2Proof.Machine.execMapPageFetch page level stripe got accs s
  | .mdcUncorrectable line page level stripe got => Sys2Proof.Machine.execMdcUncorrectable line page level stripe got s
  | .mdcWaygrpPowerDown group => Sys2Proof.Machine.execMdcWaygrpPowerDown group s
  | .mdcWaygrpPowerUp group => Sys2Proof.Machine.execMdcWaygrpPowerUp group s
  | .mdcCleanSweepEnd group => Sys2Proof.Machine.execMdcCleanSweepEnd group s
  | .mdcWakeEnd group => Sys2Proof.Machine.execMdcWakeEnd group s
  | .flcEnable pages bads => Sys2Proof.Machine.execFlcEnable pages bads s
  | .channelTraining chan ok okLower marginPs => Sys2Proof.Machine.execChannelTraining chan ok okLower marginPs s
  | .groupTakeUp group busy => Sys2Proof.Machine.execGroupTakeUp group busy s
  | .busyLunTimeout lun => Sys2Proof.Machine.execBusyLunTimeout lun s
  | .groupLost group => Sys2Proof.Machine.execGroupLost group s
  | .mediaReadRequest chan lun page marginPs cws => Sys2Proof.Machine.execMediaReadRequest chan lun page marginPs cws s
  | .pageReadDone addr marginPs cws => Sys2Proof.Machine.execPageReadDone addr marginPs cws s
  | .operationSuspend lun reads erase => Sys2Proof.Machine.execOperationSuspend lun reads erase s
  | .eraseDone block ok => Sys2Proof.Machine.execEraseDone block ok s
  | .blockRetire block => Sys2Proof.Machine.execBlockRetire block s
  | .refreshQueue block => Sys2Proof.Machine.execRefreshQueue block s
  | .valleySearch lun window offsets => Sys2Proof.Machine.execValleySearch lun window offsets s
  | .trackingSweep found => Sys2Proof.Machine.execTrackingSweep found s
  | .wearLevelOffer lun => Sys2Proof.Machine.execWearLevelOffer lun s
  | .destageStripeProgram stripe => Sys2Proof.Machine.execDestageStripeProgram stripe s
  | .openStripeComplete at_ found => Sys2Proof.Machine.execOpenStripeComplete at_ found s
  | .reconstruct stripe bad => Sys2Proof.Machine.execReconstruct stripe bad s
  | .spanUpdate op band row change => Sys2Proof.Machine.execSpanUpdate op band row change s
  | .spanMessageReceive m => Sys2Proof.Machine.execSpanMessageReceive m s
  | .spanAckReceive m => Sys2Proof.Machine.execSpanAckReceive m s
  | .spanAckTimeout stripe => Sys2Proof.Machine.execSpanAckTimeout stripe s
  | .stripeLost stripe bad => Sys2Proof.Machine.execStripeLost stripe bad s
  | .lostChunkSweep => Sys2Proof.Machine.execLostChunkSweep s
  | .patrolTrigger => Sys2Proof.Machine.execPatrolTrigger s
  | .patrolStripeCheck stripe erasures differs culprits budgetEnds passEnds => Sys2Proof.Machine.execPatrolStripeCheck stripe erasures differs culprits budgetEnds passEnds s
  | .rebuildBand => Sys2Proof.Machine.execRebuildBand s
  | .gcxVictimChoice => Sys2Proof.Machine.execGcxVictimChoice s
  | .relocationClaim band moves => Sys2Proof.Machine.execRelocationClaim band moves s
  | .relocationBatchRecord stripe => Sys2Proof.Machine.execRelocationBatchRecord stripe s
  | .relocationRecordsPersist band => Sys2Proof.Machine.execRelocationRecordsPersist band s
  | .bandErase band => Sys2Proof.Machine.execBandErase band s
  | .referenceSweep => Sys2Proof.Machine.execReferenceSweep s
  | .referenceSweepEnd => Sys2Proof.Machine.execReferenceSweepEnd s
  | .gcxRescore => Sys2Proof.Machine.execGcxRescore s
  | .foldBand moves => Sys2Proof.Machine.execFoldBand moves s
  | .enoreSessionOpen r => Sys2Proof.Machine.execEnoreSessionOpen r s
  | .enoreSessionAttach r => Sys2Proof.Machine.execEnoreSessionAttach r s
  | .enoreCommandImmediate session imm records => Sys2Proof.Machine.execEnoreCommandImmediate session imm records s
  | .put session cmd value => Sys2Proof.Machine.execPut session cmd value s
  | .get session cmd xferOk short => Sys2Proof.Machine.execGet session cmd xferOk short s
  | .delete session cmd => Sys2Proof.Machine.execDelete session cmd s
  | .list session cmd xferOk => Sys2Proof.Machine.execList session cmd xferOk s
  | .exist session cmd => Sys2Proof.Machine.execExist session cmd s
  | .state session cmd xferOk => Sys2Proof.Machine.execState session cmd xferOk s
  | .close session cmd => Sys2Proof.Machine.execClose session cmd s
  | .enoreResponseWrite session index => Sys2Proof.Machine.execEnoreResponseWrite session index s
  | .sessionIdleExpiry session => Sys2Proof.Machine.execSessionIdleExpiry session s
  | .sessionKeepExpiry session => Sys2Proof.Machine.execSessionKeepExpiry session s
  | .epochUpdateReceive epoch tEff changes => Sys2Proof.Machine.execEpochUpdateReceive epoch tEff changes s
  | .epochUpdateApply => Sys2Proof.Machine.execEpochUpdateApply s
  | .epochFetch updates => Sys2Proof.Machine.execEpochFetch updates s
  | .balancingRound answer => Sys2Proof.Machine.execBalancingRound answer s
  | .caravanPropose peer buckets bytes answer => Sys2Proof.Machine.execCaravanPropose peer buckets bytes answer s
  | .caravanCopyBatch b => Sys2Proof.Machine.execCaravanCopyBatch b s
  | .caravanGrant grant => Sys2Proof.Machine.execCaravanGrant grant s
  | .caravanCutover => Sys2Proof.Machine.execCaravanCutover s
  | .caravanInstall final slots => Sys2Proof.Machine.execCaravanInstall final slots s
  | .caravanRelease => Sys2Proof.Machine.execCaravanRelease s
  | .caravanAbort out => Sys2Proof.Machine.execCaravanAbort out s
  | .caravanHoldExpiry => Sys2Proof.Machine.execCaravanHoldExpiry s
  | .mteSearch blk table key => Sys2Proof.Machine.execMteSearch blk table key s
  | .mteUpdateWrite fromQueue index image => Sys2Proof.Machine.execMteUpdateWrite fromQueue index image s
  | .mteUpdateInvalidate fromQueue index => Sys2Proof.Machine.execMteUpdateInvalidate fromQueue index s
  | .mteUpdateResult fromQueue index result => Sys2Proof.Machine.execMteUpdateResult fromQueue index result s
  | .mteBulkEnter bank => Sys2Proof.Machine.execMteBulkEnter bank s
  | .mteBulkLeave bank => Sys2Proof.Machine.execMteBulkLeave bank s
  | .mteBankPowerDown bank => Sys2Proof.Machine.execMteBankPowerDown bank s
  | .mteBankPowerUp bank => Sys2Proof.Machine.execMteBankPowerUp bank s
  | .mteBulkLoad bank first count images => Sys2Proof.Machine.execMteBulkLoad bank first count images s
  | .mteSearchCmd table => Sys2Proof.Machine.execMteSearchCmd table s
  | .ownEnable => Sys2Proof.Machine.execOwnEnable s
  | .renewSend => Sys2Proof.Machine.execRenewSend s
  | .innkeeperReply m whole => Sys2Proof.Machine.execInnkeeperReply m whole s
  | .requestAbandon tSend => Sys2Proof.Machine.execRequestAbandon tSend s
  | .leaseTimerExpiry => Sys2Proof.Machine.execLeaseTimerExpiry s
  | .ikRenew m => Sys2Proof.Machine.execIkRenew m s
  | .ikAcquire m => Sys2Proof.Machine.execIkAcquire m s
  | .ikTake m => Sys2Proof.Machine.execIkTake m s
  | .ikHandover m => Sys2Proof.Machine.execIkHandover m s
  | .ikQuery m => Sys2Proof.Machine.execIkQuery m s
  | .ikHeldTakeExpiry array => Sys2Proof.Machine.execIkHeldTakeExpiry array s
  | .ikRecoveryEnd => Sys2Proof.Machine.execIkRecoveryEnd s
  | .takeSend => Sys2Proof.Machine.execTakeSend s
  | .groupClaim group => Sys2Proof.Machine.execGroupClaim group s
  | .groupRelease group => Sys2Proof.Machine.execGroupRelease group s
  | .handoverSet oset => Sys2Proof.Machine.execHandoverSet oset s
  | .handoverSignalReceive kind object agen whole => Sys2Proof.Machine.execHandoverSignalReceive kind object agen whole s
  | .returnHoldExpiry => Sys2Proof.Machine.execReturnHoldExpiry s
  | .returnRequestReceive => Sys2Proof.Machine.execReturnRequestReceive s
  | .ownershipDrill failStep partnerHeld partnerDegraded => Sys2Proof.Machine.execOwnershipDrill failStep partnerHeld partnerDegraded s
  | .ownHandOverAll => Sys2Proof.Machine.execOwnHandOverAll s
  | .ownAskReturn => Sys2Proof.Machine.execOwnAskReturn s
  | .ownHandOverOset oset => Sys2Proof.Machine.execOwnHandOverOset oset s
  | .ownHandOverGroup group => Sys2Proof.Machine.execOwnHandOverGroup group s
  | .ownDrillNow group failStep partnerHeld partnerDegraded => Sys2Proof.Machine.execOwnDrillNow group failStep partnerHeld partnerDegraded s
  | .snapCreate => Sys2Proof.Machine.execSnapCreate s
  | .snapDelete => Sys2Proof.Machine.execSnapDelete s
  | .snapClone => Sys2Proof.Machine.execSnapClone s
  | .replicaPromote => Sys2Proof.Machine.execReplicaPromote s
  | .snapAttach => Sys2Proof.Machine.execSnapAttach s
  | .catalogueFlushDone ok => Sys2Proof.Machine.execCatalogueFlushDone ok s
  | .cutInstant epoch => Sys2Proof.Machine.execCutInstant epoch s
  | .cutReady epoch => Sys2Proof.Machine.execCutReady epoch s
  | .scheduleCutTrigger sched => Sys2Proof.Machine.execScheduleCutTrigger sched s
  | .replicationDeltaShip link epoch => Sys2Proof.Machine.execReplicationDeltaShip link epoch s
  | .replicationBatchReceive nsid b => Sys2Proof.Machine.execReplicationBatchReceive nsid b s
  | .replicationAckReceive link seq status => Sys2Proof.Machine.execReplicationAckReceive link seq status s
  | .replicationBatchTimeout link seq => Sys2Proof.Machine.execReplicationBatchTimeout link seq s
  | .syncWriteSend op => Sys2Proof.Machine.execSyncWriteSend op s
  | .syncWriteTimeout link seq => Sys2Proof.Machine.execSyncWriteTimeout link seq s
  | .catchupCutArm link => Sys2Proof.Machine.execCatchupCutArm link s
  | .linkSuspend link => Sys2Proof.Machine.execLinkSuspend link s
  | .rpoMiss link => Sys2Proof.Machine.execRpoMiss link s
  | .loopSample loop late delayNs reading => Sys2Proof.Machine.execLoopSample loop late delayNs reading s
  | .loopLocalSample loop delayNs reading => Sys2Proof.Machine.execLoopLocalSample loop delayNs reading s
  | .loopEnable loop => Sys2Proof.Machine.execLoopEnable loop s
  | .loopDisable loop => Sys2Proof.Machine.execLoopDisable loop s
  | .loopSwap loop => Sys2Proof.Machine.execLoopSwap loop s
  | .ageSweep r => Sys2Proof.Machine.execAgeSweep r s
  | .gbkRecordStage source code arg0 arg1 arg2 alarm => Sys2Proof.Machine.execGbkRecordStage source code arg0 arg1 arg2 alarm s
  | .gbkRecordWrite => Sys2Proof.Machine.execGbkRecordWrite s
  | .gbkResetScan partner => Sys2Proof.Machine.execGbkResetScan partner s
  | .gbkCopy count dst partner other xferOk => Sys2Proof.Machine.execGbkCopy count dst partner other xferOk s
  | .gbkClear => Sys2Proof.Machine.execGbkClear s
  | .leapSecondAdjust => Sys2Proof.Machine.execLeapSecondAdjust s
  | .fwuStage img => Sys2Proof.Machine.execFwuStage img s
  | .fwuCancel => Sys2Proof.Machine.execFwuCancel s
  | .fwuEraseSlot => Sys2Proof.Machine.execFwuEraseSlot s
  | .fwActivation partnerHeld partnerDegraded => Sys2Proof.Machine.execFwActivation partnerHeld partnerDegraded s
  | .fwConfirm gen => Sys2Proof.Machine.execFwConfirm gen s
  | .fwDeadline => Sys2Proof.Machine.execFwDeadline s
  | .fwBackstopExpiry => Sys2Proof.Machine.execFwBackstopExpiry s
  | .pwrDomainOff domain => Sys2Proof.Machine.execPwrDomainOff domain s
  | .pwrDomainOn domain => Sys2Proof.Machine.execPwrDomainOn domain s
  | .domainSwitchEnd => Sys2Proof.Machine.execDomainSwitchEnd s
  | .pmbusPoll answers measMv => Sys2Proof.Machine.execPmbusPoll answers measMv s
  | .pmbAlert answers => Sys2Proof.Machine.execPmbAlert answers s
  | .pwrgdLow chain => Sys2Proof.Machine.execPwrgdLow chain s
  | .chainFault chain partnerDegraded => Sys2Proof.Machine.execChainFault chain partnerDegraded s
  | .chainGood chain => Sys2Proof.Machine.execChainGood chain s
  | .avsVoutWrite naks => Sys2Proof.Machine.execAvsVoutWrite naks s
  | .pwrRstCmd => Sys2Proof.Machine.execPwrRstCmd s
  | .jtagTapReset => Sys2Proof.Machine.execJtagTapReset s
  | .bypass => Sys2Proof.Machine.execBypass s
  | .idcode => Sys2Proof.Machine.execIdcode s
  | .samplePreload captured preload => Sys2Proof.Machine.execSamplePreload captured preload s
  | .extest => Sys2Proof.Machine.execExtest s
  | .extestPulse => Sys2Proof.Machine.execExtestPulse s
  | .extestTrain => Sys2Proof.Machine.execExtestTrain s
  | .clamp => Sys2Proof.Machine.execClamp s
  | .highz => Sys2Proof.Machine.execHighz s
  | .regAccess off size write => Sys2Proof.Machine.execRegAccess off size write s
  | .fuseProg field jtag => Sys2Proof.Machine.execFuseProg field jtag s
  | .loopbackStart kind target ms => Sys2Proof.Machine.execLoopbackStart kind target ms s
  | .loopbackEnd errors => Sys2Proof.Machine.execLoopbackEnd errors s
  | .alwaysOnFeedsLost => Sys2Proof.Machine.execAlwaysOnFeedsLost s
  | .mediaReadResponseReceive chan lun page => Sys2Proof.Machine.execMediaReadResponseReceive chan lun page s
  | .indexAnswerReceive fp domain out => Sys2Proof.Machine.execIndexAnswerReceive fp domain out s
  | .catchupRequestReceive chan => Sys2Proof.Machine.execCatchupRequestReceive chan s
  | .authorityRequestReceive array q => Sys2Proof.Machine.execAuthorityRequestReceive array q s
  | .rdmaCmRequest lane port tenant line remotePsn ownPsn => Sys2Proof.Machine.execRdmaCmRequest lane port tenant line remotePsn ownPsn s
  | .ptpDelayReqSend => Sys2Proof.Machine.execPtpDelayReqSend s

end Sys2Proof.Machine
end

