-- ==== Sys2Proof/Machine/Step.lean ====
section
/-!
DEFINITION. One step of the block: the command at the front of the queue, or one engine cycle of local time while none waits.
-/
namespace Sys2Proof.Machine

open Sys2Proof

/-- Nothing waits: one engine cycle passes (the model's choice, see the log). -/
def State.idle (s : State) : Host.Outcome State Fault Refusal := ended (s.advance (s.now + s.cycle))

/-- The command at the front of the queue takes effect on the state with the queue's rest. -/
def step (s : State) : Host.Outcome State Fault Refusal :=
  match s.pending with
  | [] => s.idle
  | c :: rest => exec c { s with pending := rest }

/-- The state with the command that a word spells at the front of its queue; no word spells one. -/
def State.withFetchWord (s : State) (nbits w : Nat) : State :=
  match decodeTableWord nbits w with
  | some c => { s with pending := c :: s.pending }
  | none => s

end Sys2Proof.Machine
end

