-- ==== Sys2Proof/Safety.lean ====
section
/-!
DEFINITION. What a safe state of the head is: the dual-homed flash is driven only as R11 allows, and claims are held only as R12 and R378
allow.
-/
namespace Sys2Proof

open Sys2Proof.Machine

/-- Group g may be driven (R11): this head claims it, the partner is not seen to claim it, and the lease timer runs. -/
def Machine.Aon.DriveOk (a : Aon) : Prop :=
  ∀ g, a.drivers.mem g = true → a.claimOut.mem g = true ∧ a.claimIn.mem g = false ∧ a.leaseEnd.isSome = true

/-- A claim is asserted only while the lease timer runs (R378) and `FENCE_IN_N` is not asserted (R12). -/
def Machine.Aon.ClaimOk (a : Aon) : Prop := a.claimOut ≠ [] → a.leaseEnd.isSome = true ∧ a.fenceIn = false

/-- The state is safe for the partner. -/
def Machine.State.Safe (s : State) : Prop := s.aon.DriveOk ∧ s.aon.ClaimOk

/-- The command runs to a next state, of which P holds. -/
def Machine.Completes (c : Instr) (s : State) (P : State → Prop) : Prop := ∃ t, exec c s = .next t ∧ P t

/-- The boot ROM finds what R467 and R468 ask: a confirmed image in the governing slot, which verifies in time, and the boot flash holds no
stored configuration and no fall-back to report. -/
abbrev Machine.State.BootsFirst (s : State) : Prop :=
  s.bootRecD.trial = false ∧ s.slotOk s.bootRecD.active = true ∧ s.slotSlow s.bootRecD.active = false ∧ s.fwu.stores = [] ∧
    s.fwu.fellBack = none

/-- A request reaches an innkeeper's rules: its array is served, its tag is right, it is fresh, and the innkeeper is not recovering (R373,
R374, R376). -/
abbrev Machine.State.IkTakes (s : State) (m : IkMsg) : Prop :=
  s.servesArray m.array = true ∧ m.tagOk = true ∧
    s.freshMsg (s.own.ikLast.getD (m.array * 65536 + m.sender) 0) (m.leaseUs * 1000) m.tSend = true ∧ s.own.ikRecovering = none

/-- A ring command ended between two states: the next completion waiting to be written is for its sequence number and carries the status
(R94 to R96). -/
def Machine.State.RingEnds (s t : State) (r q status : Nat) : Prop :=
  ∃ c l, (t.ring r).ready = (s.ring r).ready ++ c :: l ∧ c.sub = q ∧ c.status = status

/-- A read of a namespace that this head serves at once: it owns the set, no deferred error waits for the source, recovery has served the
set, and it drives every group the read needs (R11, R14, R53, R260). -/
abbrev Machine.State.ServesRead (s : State) (src : Src) (nsid : Nat) (r : ReadOf) : Prop :=
  s.deferGate src nsid = none ∧
  (s.adm.nss.look nsid).any (fun n => s.setState n.oset == setOwned && !(s.map.sets.look n.oset).any (fun m => m.recovering)) = true ∧
  ∀ p ∈ s.pagesOf nsid r, s.drives p.1 = true

/-- A key lives on this array by its bucket, and no range that is being installed holds it (R329 to R334, R353). -/
abbrev Machine.State.KeyHere (s : State) (nsid key keyLen : Nat) : Prop :=
  ((s.kvs.ns.look nsid).any (fun a => a.cluster) = true →
    s.mteTable Blk.KVS = none ∧ (s.bucket (s.bucketOf nsid key keyLen)).array = s.arrayId) ∧
  s.rangeHeld nsid key keyLen = false

/-- An admin command reaches the association of its queue (R115, R133): the queue is the admin queue, and no commit waits at NVF's
boundary. -/
abbrev Machine.State.AdminQ (s : State) (q a : Nat) (x : NvQueue) (y : NvAssoc) : Prop :=
  s.queue q = some x ∧ x.qid = 0 ∧ x.assoc = a ∧ s.assoc a = some y ∧ s.admittedPend Blk.NVF = false

/-- An I/O command of a queue is taken up as a new one on a namespace of its command set that is attached to the host, whose tenant has
buffer quota (R45, R83, R115, R131). -/
abbrev Machine.State.IoQ (s : State) (q cid nsid : Nat) (x : NvQueue) (y : NvAssoc) (n : Ns) (kv : Bool) : Prop :=
  s.queue q = some x ∧ x.qid ≠ 0 ∧ s.assoc x.assoc = some y ∧ s.admittedPend Blk.NVF = false ∧ (∀ w ∈ x.win, w.cid ≠ cid) ∧
    x.win.length < 1024 ∧ s.adm.nss.look nsid = some n ∧ n.tenant = y.tenant ∧ s.hasQuota y.tenant = true ∧ n.kv = kv

/-- Between two states the last thing to leave the head is the NVMe completion of a command with a status (R130). -/
def Machine.State.NvmeEnds (s t : State) (q cid status : Nat) : Prop :=
  ∃ d l, t.out = .nvmeCpl q cid status (nvmeStatus status).1 (nvmeStatus status).2.1 d (nvmeStatus status).2.2 :: (l ++ s.out)

/-- A command of an Enore session may run now: it has been routed, follows no other and has not started (R334, R337). -/
abbrev Machine.State.EnoreGo (s : State) (k n : Nat) (x : Sess) (c : SessCmd) (opcode : Nat) : Prop :=
  s.sess k = some x ∧ x.cmds.look n = some c ∧ c.routed = true ∧ c.follows = false ∧ c.started = false ∧ c.e.opcode = opcode

/-- A response of a session waits to be written: for a sequence number, with a status (R342). -/
def Machine.State.EnoreEnds (t : State) (k seq status : Nat) : Prop :=
  ∃ y r, t.sess k = some y ∧ r ∈ y.resps ∧ r.seq = seq ∧ r.status = status

/-- A write is started between two states: it takes the next number, and nothing else of the write path has moved. -/
def Machine.State.Starts (s t : State) (src : Src) (kind : WKind) (nsid key keyLen : Nat) : Prop :=
  t.nextOp = s.nextOp + 1 ∧ t.regs = s.regs ∧ t.pjm = s.pjm ∧ ∃ x, t.ops.look s.nextOp = some x ∧ x.src = src ∧ x.kind = kind ∧
    x.nsid = nsid ∧ x.key = key ∧ x.keyLen = keyLen ∧ x.stage = .submitted

/-- A namespace of this head that a command of `SNP_CMD` names: present, and its set owned (R418). -/
abbrev Machine.State.SnpTakes (s : State) (nsid : Nat) : Prop :=
  s.enabled Blk.SNP = true ∧ s.rdb Fld.SNP_CMD_RESULT_BUSY = false ∧ s.rd Fld.SNP_CMD_ARG_NSID = nsid ∧ s.ownsNs nsid = true

/-- The register file differs between two states at most in the instances of the fields named (R518). -/
def Machine.State.RegsBut (s t : State) (l : List Field) : Prop :=
  ∀ k, (∀ f ∈ l, ∀ i j, i < f.first + f.count → j < f.count2 → f.key i j ≠ k) → t.regs.look k = s.regs.look k

/-- t is s after an instruction that acted as BYPASS under JTAG_LOCK: the instruction register, `DBG_STATUS.SCAN` and `LOCKED` aside,
nothing has changed (R530). -/
def Machine.State.LockedBypass (s t : State) : Prop :=
  t.rd Fld.DBG_STATUS_LOCKED = 1 ∧ t.dbg = { s.dbg with ir := irBypass } ∧
  t = { s with aon := s.aon.settled, dbg := t.dbg, regs := t.regs } ∧ s.RegsBut t [Fld.DBG_STATUS_LOCKED, Fld.DBG_STATUS_SCAN]

end Sys2Proof
end

