-- ==== Sys2Proof/Certificates/Slice0/Obligations.lean ====
section
/-! DEFINITION. The statements for the provers: what the commands of the head do, what they leave as it was, and what every step keeps.
`Completes c s P` says that exec answers a next state of which P holds. -/

open Sys2Proof Sys2Proof.Machine

/-- A step takes the command at the front of the queue and runs it on the state with the queue's rest. -/
def Obligations.StepRunsTheFrontCommand : Prop :=
  ∀ (c : Instr) (s : State), step { s with pending := c :: s.pending } = exec c s

/-- While no command waits, one engine cycle of local time passes and the registers stand (the model's choice for a block whose table has no row for a clock tick: log entry 1); with a lease that does not run, nothing else moves either. -/
def Obligations.AnEmptyQueueLetsACyclePass : Prop :=
  ∀ (s : State), s.pending = [] → s.aon.leaseEnd = none →
    ∃ t, step s = .next t ∧ t.now = s.now + s.cycle ∧ t = { s with now := t.now, aon := t.aon }

/-- Every command runs to a next state, whatever the state and the operands: none is refused and none faults.
Where the spec leaves a choice, the model's own is stated: log entry 2. -/
def Obligations.EveryCommandEnds : Prop :=
  ∀ (c : Instr) (s : State), ∃ t, exec c s = .next t

/-- What reset leaves: no claim and no driver, no lease, commits and time not begun, key slots EMPTY, tables of the match engine and pools disabled, and nothing waiting (R170, R238, R367, R440, Table 17.1).
Where the spec leaves a choice, the model's own is stated: log entry 9. -/
def Obligations.ResetLeavesTheHeadQuiet : Prop :=
  State.reset.Safe ∧ State.reset.aon.drivers = [] ∧ State.reset.aon.claimOut = [] ∧ State.reset.pending = [] ∧ State.reset.ops = [] ∧
  State.reset.wins = [] ∧ State.reset.rd Fld.OWN_STATUS_LEASE = leaseNone ∧ State.reset.rd Fld.CAR_STATUS_STATE = 0 ∧
  State.reset.rd Fld.ISL_STATUS_STATE = 0 ∧
  (∀ p, p < 16 → State.reset.rd Fld.POL_POOL_STAT_STATE p = 0 ∧ State.reset.rd Fld.MTE_TBL_CFG_ENABLE p = 0) ∧
  (∀ n, n < 16384 → State.reset.rd Fld.CIP_SLOT_STATE_STATE n = 0) ∧ State.reset.rd Fld.RDM_ACTIVE_GEN_GEN = 0 ∧
  (∀ r, r < 4096 → State.reset.rd Fld.HRI_RING_STATE_STATE r = 0)

/-- Every step keeps the dual-homed flash safe for the partner: drivers only as R11 allows, claims only as R12 and R378 allow.
Where the spec leaves a choice, the model's own is stated: log entry 152. -/
def Obligations.EveryStepKeepsTheHeadSafe : Prop :=
  ∀ (s t : State), s.Safe → step s = .next t → t.Safe

/-- H follows R40 when a slot completes and when B advances: from the larger of its previous value and B − 1 over completed slots that directly follow it, and it stops at the first slot that is free or in progress. -/
def Obligations.HighestCompletedFollowsR40 : Prop :=
  (∀ (w : RWin) (s st : Nat), w.h < 2 ^ w.bits →
    (w.complete s st).b = w.b ∧ (w.complete s st).slots = w.slots.put s (.completed st) ∧
    ∃ n, n ≤ 1024 ∧ (w.complete s st).h = (serialMax w.bits w.h ((w.b + 2 ^ w.bits - 1) % 2 ^ w.bits) + n) % 2 ^ w.bits ∧
      (∀ i, i < n → ∃ x, (w.complete s st).slot ((serialMax w.bits w.h ((w.b + 2 ^ w.bits - 1) % 2 ^ w.bits) + 1 + i) % 2 ^ w.bits) =
        some (.completed x)) ∧
      (n < 1024 → ∀ x, (w.complete s st).slot (((w.complete s st).h + 1) % 2 ^ w.bits) ≠ some (.completed x))) ∧
  (∀ (w : RWin) (nb : Nat), w.h < 2 ^ w.bits →
    (w.advanceTo nb).b = nb ∧ (w.advanceTo nb).slots = w.slots.keep (fun s _ => !serialLt w.bits s nb) ∧
    ∃ n, n ≤ 1024 ∧ (w.advanceTo nb).h = (serialMax w.bits w.h ((nb + 2 ^ w.bits - 1) % 2 ^ w.bits) + n) % 2 ^ w.bits ∧
      (∀ i, i < n → ∃ x, (w.advanceTo nb).slot ((serialMax w.bits w.h ((nb + 2 ^ w.bits - 1) % 2 ^ w.bits) + 1 + i) % 2 ^ w.bits) =
        some (.completed x)) ∧
      (n < 1024 → ∀ x, (w.advanceTo nb).slot (((w.advanceTo nb).h + 1) % 2 ^ w.bits) ≠ some (.completed x)))

/-- Setting and clearing a ring's ENABLE, its drain and its release (R84 to R86).
Event rings (R103, R104).
Where the spec leaves a choice, the model's own is stated: log entries 43 to 45 and 53. -/
def Obligations.RingStatesAndEventRings : Prop :=
  (∀ (s : State) (r n : Nat), r < 4096 → s.ringSt r = ringDisabled → s.ringCfgOk r = true → s.ringFn r = some n →
    (s.fn n).stopped = false → s.rdb Fld.HRI_RING_CFG_KEEP_REPLAY r = false → s.admittedPend Blk.PJM = false →
    Completes (.ringEnable r) s (fun t => t.ringSt r = ringActive ∧ t.rd Fld.HRI_RING_CFG_ENABLE r = 1 ∧
      t.wins.look (winRing r) = some (RWin.fresh 32 (s.rd Fld.HRI_RING_SEQ_BASE_SEQ r) n))) ∧
  (∀ (s : State) (r n : Nat) (w : RWin), r < 4096 → s.ringSt r = ringDisabled → s.ringCfgOk r = true → s.ringFn r = some n →
    (s.fn n).stopped = false → s.rdb Fld.HRI_RING_CFG_KEEP_REPLAY r = true → s.wins.look (winRing r) = some w → w.owner = n →
    Completes (.ringEnable r) s (fun t => t.ringSt r = ringResyncing ∧ t.wins = s.wins)) ∧
  (∀ (s : State) (r : Nat), r < 4096 → s.rdb Fld.HRI_RING_CFG_ENABLE r = true → s.ringSt r ≠ ringDisabled →
    Completes (.ringDisable r) s (fun t => t.ringSt r = ringDraining ∧ t.rd Fld.HRI_RING_CFG_ENABLE r = 0 ∧ t.wins = s.wins)) ∧
  (∀ (s : State) (r : Nat), r < 4096 → s.ringSt r = ringDraining → (s.ring r).subs = [] → (s.ring r).ready = [] →
    Completes (.ringDrainEnd r) s (fun t => t.ringSt r = ringDisabled ∧
      t.rdb Fld.HRI_RING_STATE_KEPT r = s.wins.has (winRing r))) ∧
  (∀ (s : State) (r : Nat), s.ringSt r = ringDisabled →
    Completes (.ringRelease r) s (fun t => t.wins.look (winRing r) = none)) ∧
  (∀ (s : State) (fn v : Nat), v < s.evqSize fn → (s.fn fn).stopped = false →
    Completes (.evqHeadDoorbell fn v) s (fun t => (t.fn fn).evqHead = v ∧ t.regs = s.regs ∧
      (t.fn fn).used = (s.fn fn).used - (v + s.evqSize fn - (s.fn fn).evqHead) % s.evqSize fn)) ∧
  (∀ (s : State) (src fn nsid a0 a1 : Nat), s.rdb Fld.HRI_FN_EVQ_CFG_ENABLE fn = true → (s.fn fn).stopped = false →
    (s.fn fn).used < s.evqSize fn →
    Completes (.eventPost src 0x0002 fn nsid a0 a1) s (fun t => (t.fn fn).used = (s.fn fn).used + 1 ∧
      (t.fn fn).evqTail = ((s.fn fn).evqTail + 1) % s.evqSize fn ∧ (t.fn fn).evtSeq = (s.fn fn).evtSeq + 1)) ∧
  (∀ (s : State) (src fn nsid a0 a1 : Nat), fn < 256 → s.rdb Fld.HRI_FN_EVQ_CFG_ENABLE fn = true → (s.fn fn).stopped = false →
    s.evqSize fn ≤ (s.fn fn).used →
    Completes (.eventPost src 0x0002 fn nsid a0 a1) s (fun t => (t.fn fn).used = (s.fn fn).used ∧ t.out = s.out ∧
      (t.fn fn).lost = min ((s.fn fn).lost + 1) 0xFFFF ∧ t.rd Fld.HRI_ERR_EVQ_OVF = 1))

/-- Doorbells, the fetch and the arrival of descriptors (R87 to R89).
Completion entries, the status block, coalescing and RESYNC (R96, R100 to R102).
Where the spec leaves a choice, the model's own is stated: log entries 46, 47, 50 and 51. -/
def Obligations.RingSubmissionsAndCompletions : Prop :=
  (∀ (s : State) (fn i v r : Nat), s.localRing fn i = some r → s.ringSt r = ringActive → (s.fn fn).stopped = false → v < s.sqSize r →
    Completes (.sqTailDoorbell fn i v) s (fun t => (t.ring r).sqTail = v ∧ t.regs = s.regs ∧ t.wins = s.wins)) ∧
  (∀ (s : State) (fn i v r : Nat), s.localRing fn i = some r → s.ringSt r = ringActive → (s.fn fn).stopped = false → v < s.cqSize r →
    (s.ring r).heldEvents = [] → (s.ring r).fetched = [] →
    Completes (.cqHeadDoorbell fn i v) s (fun t => (t.ring r).cqHead = v ∧
      (t.ring r).cqUsed = (s.ring r).cqUsed - (v + s.cqSize r - (s.ring r).cqHead) % s.cqSize r)) ∧
  (∀ (s : State) (r : Nat) (l : List Nat), s.admittedPend Blk.HRI = false → s.rdb Fld.HRI_CTRL_ENABLE = true →
    rotate (((s.hri.rings.map (·.1)).filter s.fetchable).filter (fun r => s.rd Fld.HRI_RING_ARB_PRIO r == 0)) s.hri.rr = r :: l →
    Completes .descriptorFetch s (fun t => (t.ring r).fetching =
      min 8 (min (s.unfetched r) (s.sqSize r - ((s.ring r).sqHead + (s.ring r).fetched.length) % s.sqSize r)))) ∧
  (∀ (s : State) (r : Nat) (e : SubEntry), (s.ring r).fetching = 1 → (s.ring r).fetched = [] → s.ringSt r = ringActive →
    s.ringStopped r = false → s.cqLoad r < s.cqSize r → ringOpcode e.opcode = true →
    (s.wins.getD (winRing r) (RWin.fresh 32 0 0)).judge e.seq = .free →
    Completes (.descriptorFetchDone r .ok [e]) s (fun t => (t.ring r).subs.look (s.ring r).subs.fresh =
        some { e := e, started := false, replayed := false, follows := false, stores := true } ∧
      (t.wins.look (winRing r)).bind (fun w => w.slot e.seq) = some .inProgress)) ∧
  (∀ (s : State) (r : Nat) (c : Ready) (l : List Ready), (s.ring r).ready = c :: l → s.ringStopped r = false → s.ringSt r ≠ ringDisabled →
    Completes (.completionWrite r true) s (fun t => (t.ring r).ready = l ∧ (t.ring r).cqTail = ((s.ring r).cqTail + 1) % s.cqSize r ∧
      (t.ring r).cplSeq = ((s.ring r).cplSeq + 1) % 2 ^ 32)) ∧
  (∀ (s : State) (r x : Nat), (s.ring r).sbDirty = some x → s.ringStopped r = false →
    Completes (.statusBlockTimer r true) s (fun t => (t.ring r).sbDirty = none ∧ (t.ring r).updates = ((s.ring r).updates + 1) % 2 ^ 32)) ∧
  (∀ (s : State) (r x : Nat), (s.ring r).firstUnsignalled = some x → s.ringStopped r = false →
    Completes (.coalesceTimer r) s (fun t => (t.ring r).firstUnsignalled = none ∧ (t.ring r).unsignalled = 0)) ∧
  (∀ (s : State) (r : Nat), r < 4096 → s.ringSt r = ringActive ∨ s.ringSt r = ringError →
    Completes (.resync none r) s (fun t => t.ringSt r = ringResyncing ∧ (t.ring r).resync = true)) ∧
  (∀ (s : State) (r : Nat), s.ringSt r = ringResyncing → (s.ring r).ready = [] → (s.ring r).subs = [] → (s.ring r).fetched = [] →
    (s.ring r).sqRecorded = none → (s.ring r).cqRecorded = none → s.ringStopped r = false →
    Completes (.resyncRecordWrite r) s (fun t => (t.ring r).resync = false ∧ .resyncDone r ∈ t.out))

/-- Feeds, resets and boot (R391, R487 to R491, R506).
Where the spec leaves a choice, the model's own is stated: log entries 9 and 208 to 211. -/
def Obligations.ResetsTakeTheirScope : Prop :=
  (∀ (s : State) (fA fB two : Bool) (side : Side), s.BootsFirst → s.powerOnHeld = true → s.aon.sysRst = false → (fA || fB) = true →
    Completes (.powerOnReset fA fB side two true true) s (fun t => t.aon.mainReset = false ∧ t.aon.feedA = fA ∧ t.aon.feedB = fB ∧
      t.aon.side = side ∧ t.rd Fld.PWR_STATUS_FIRST_BOOT = 1)) ∧
  (∀ (s : State) (a : Bool), s.aon.feedA = true → s.aon.feedB = true →
    Completes (.aonFeedLoss a) s (fun t => t.aon.feedA = !a ∧ t.aon.feedB = a ∧ t.regs = s.regs ∧ t.aon.leaseEnd = s.aon.leaseEnd)) ∧
  (∀ s : State, Completes .systemReset s (fun t => t.aon.mainReset = true ∧ t.aon.drivers = [] ∧ t.aon.claimOut = [] ∧
    t.aon.leaseEnd = none ∧ t.aon.fenceOut = false ∧ t.aon.bootFail = false ∧
    t.rd Fld.GBK_ALARM_SOURCE = s.rd Fld.GBK_ALARM_SOURCE % 2 ^ Fld.GBK_ALARM_SOURCE.width)) ∧
  (∀ (s : State) (side : Side) (two : Bool), s.BootsFirst → s.aon.sysRst = true → s.aon.fed = true →
    Completes (.sysRstNRelease side two true true) s (fun t => t.aon.mainReset = false ∧ t.aon.sysRst = false ∧ t.aon.side = side ∧
      t.rd Fld.PWR_STATUS_FIRST_BOOT = 1)) ∧
  (∀ (s : State) (cause : Nat), s.BootsFirst → s.mainRuns = true → s.pwr.chainA.pwrgd = true → s.pwr.chainB.pwrgd = true →
    Completes (.mainDomainReset cause) s (fun t => t.aon.mainReset = false ∧ t.aon.resetCause = cause ∧ t.aon.drivers = [] ∧
      t.aon.leaseEnd = s.aon.leaseEnd ∧ (s.aon.timerRuns = true → s.aon.fenceIn = false → t.aon.claimOut = s.aon.claimOut))) ∧
  (∀ (s : State) (k t₀ : Nat), s.fwu.booting = some (k, t₀) → s.slotOk (1 - k) = false →
    Completes .bootImageTimeout s (fun t => t.aon.bootFail = true ∧ t.fwu.booting = none)) ∧
  (∀ s : State, s.aon.timerRuns = true →
    Completes .sysRefclkLoss s (fun t => t.aon.leaseEnd = none ∧ t.aon.claimOut = [] ∧ t.aon.drivers = [] ∧
      t.rd Fld.OWN_STATUS_LEASE = leaseSelfFenced)) ∧
  (∀ s : State, Completes .alwaysOnFeedsLost s (fun t => t.aon.feedA = false ∧ t.aon.feedB = false ∧ t.aon.mainReset = true ∧
    t.aon.claimOut = [] ∧ t.aon.drivers = [] ∧ t.rd Fld.GBK_ALARM_SOURCE = 0)) ∧
  (∀ s : State, s.BootsFirst → s.mainRuns = true → s.pwr.switching = none → s.pwr.chainA.pwrgd = true → s.pwr.chainB.pwrgd = true →
    Completes .pwrRstCmd s (fun t => t.aon.resetCause = 2 ∧ t.aon.mainReset = false ∧ t.aon.drivers = [] ∧ t.aon.leaseEnd = s.aon.leaseEnd))

/-- Firmware update (R470 to R475, R478).
Where the spec leaves a choice, the model's own is stated: log entries 8 and 213 to 217. -/
def Obligations.FirmwareUpdateCommandsRun : Prop :=
  (∀ (s : State) (img : FwImage), s.mainRuns = true → s.slotIn slotPending = none → s.slotIn slotTrial = none →
    s.slotIn slotPrevious = none → s.fwFails img = none →
    Completes (.fwuStage img) s (fun t => t.fwu.slots.look s.otherSlot = some img ∧ t.rd Fld.FWU_CMD_RESULT_STATUS = STS_OK ∧
      t.rd Fld.FWU_CMD_RESULT_DONE = 1)) ∧
  (∀ (s : State) (k : Nat), s.mainRuns = true → s.slotIn slotPending = some k →
    Completes .fwuCancel s (fun t => t.rd Fld.FWU_CMD_RESULT_STATUS = STS_OK ∧ t.rd Fld.FWU_CMD_RESULT_DONE = 1 ∧
      t.rd Fld.FWU_ACT_VALID = 0)) ∧
  (∀ s : State, s.mainRuns = true → s.rd Fld.FWU_SLOT_INFO_STATE s.otherSlot = slotStaged →
    Completes .fwuEraseSlot s (fun t => t.fwu.slots.look s.otherSlot = none ∧ t.rd Fld.FWU_CMD_RESULT_STATUS = STS_OK)) ∧
  (∀ (s : State) (k : Nat), s.mainRuns = true → s.rdb Fld.FWU_CTRL_ENABLE = true → s.fwu.activating = false →
    s.admittedPend Blk.FWU = false → s.slotIn slotPending = some k →
    State.actCheck (s.advanceCt (Frac.int (s.activationNs s.aon.side : Int))) k true false = none →
    Completes (.fwActivation true false) s (fun t => t.fwu.activating = true)) ∧
  (∀ (s : State) (gen : Nat), s.mainRuns = true → s.rdb Fld.FWU_STATUS_TRIAL = true →
    gen = s.rd Fld.FWU_SLOT_INFO_FW_GEN (s.rd Fld.FWU_STATUS_SLOT) → s.ctNs ≤ s.rd Fld.FWU_DEADLINE_NS →
    Completes (.fwConfirm gen) s (fun t => t.bootRecD.trial = false ∧ t.rd Fld.FWU_STATUS_TRIAL = 0 ∧ t.aon.backstop = none)) ∧
  (∀ s u : State, s.mainRuns = true → s.rdb Fld.FWU_STATUS_TRIAL = true → s.fwu.activating = false →
    u = s.advanceCt (Frac.int (s.rd Fld.FWU_DEADLINE_NS : Int)) → u.leaseIsHeld = true → u.allHeld ≠ [] →
    Completes .fwDeadline s (fun t => t.fwu.activating = true ∧ t.fwu.slots = s.fwu.slots)) ∧
  (∀ (s : State) (t₀ : Nat), s.BootsFirst → s.aon.backstop = some t₀ → s.aon.sysRst = false → s.pwr.chainA.pwrgd = true →
    s.pwr.chainB.pwrgd = true →
    Completes .fwBackstopExpiry s (fun t => t.aon.resetCause = 5 ∧ t.aon.drivers = [] ∧ t.aon.backstop = none ∧ t.aon.mainReset = false))

/-- PCIe link events stop functions, and a link trains (R79, R492).
Power domains are switched one at a time, in the order of the requests (R480, R481).
Regulators, chains and core VDD (R483 to R485).
Where the spec leaves a choice, the model's own is stated: log entries 53 and 197 to 201. -/
def Obligations.LinkEventsPowerDomainsAndRegulators : Prop :=
  (∀ s : State, Completes .perstNAssert s (fun t => t.aon.perst = true ∧ t.rd Fld.HRI_STATUS_WIDTH0 = 0 ∧ t.rd Fld.HRI_STATUS_WIDTH1 = 0 ∧
    (∀ n, n < 256 → (t.fn n).stopped = true) ∧ t.aon.leaseEnd = s.aon.leaseEnd)) ∧
  (∀ (s : State) (n : Nat), n < 256 → Completes (.functionLevelReset n) s (fun t => (t.fn n).stopped = true ∧
    (∀ m, m ≠ n → t.fn m = s.fn m) ∧ t.wins = s.wins)) ∧
  (∀ (s : State) (n : Nat), n < 256 → Completes (.d3hotEntry n) s (fun t => (t.fn n).stopped = true ∧
    (∀ m, m ≠ n → t.fn m = s.fn m) ∧ t.wins = s.wins)) ∧
  (∀ (s : State) (l : Nat), Completes (.pcieLinkLoss l) s (fun t =>
    ∀ n, n < 256 → s.fnLink n = l → (t.fn n).stopped = true)) ∧
  (∀ (s : State) (l : PcieLink), s.aon.sysRst = false → s.domainOn 28 = true →
    Completes (.pcieLinkTrain 0 l) s (fun t => t.aon.perst = false ∧ t.rd Fld.HRI_STATUS_WIDTH0 = l.width % 2 ^ Fld.HRI_STATUS_WIDTH0.width ∧
      t.rd Fld.HRI_STATUS_SPEED0 = l.speed % 2 ^ Fld.HRI_STATUS_SPEED0.width)) ∧
  (∀ (s : State) (d : Nat), s.pwr.queue = [] → s.pwr.switching = none → s.domainOn d = true → blockSwitched d = false →
    s.mayPowerOff d = true →
    Completes (.pwrDomainOff d) s (fun t => t.pwr.switching = some { domain := d, on := false, cmd := true } ∧
      t.rd Fld.PWR_STATUS_DOM_BUSY = 1 ∧ t.rd Fld.PWR_DOM_STATE_ON = s.rd Fld.PWR_DOM_STATE_ON)) ∧
  (∀ (s : State) (d : Nat), s.pwr.queue = [] → s.pwr.switching = none → s.domainOn d = true → blockSwitched d = false →
    s.mayPowerOff d = false →
    Completes (.pwrDomainOff d) s (fun t => t.pwr.switching = none ∧ t.rd Fld.PWR_DOM_RESULT_STATUS = STS_DOMAIN_IN_USE ∧
      t.rd Fld.PWR_DOM_STATE_ON = s.rd Fld.PWR_DOM_STATE_ON ∧ t.rd Fld.PWR_ERR_DOM_REFUSED = 1)) ∧
  (∀ (s : State) (d : Nat), s.pwr.queue = [] → s.pwr.switching = none → s.domainOn d = false → blockSwitched d = false →
    Completes (.pwrDomainOn d) s (fun t => t.pwr.switching = some { domain := d, on := true, cmd := true } ∧
      t.rd Fld.PWR_STATUS_DOM_BUSY = 1)) ∧
  (∀ (s : State) (r : DomReq) (d : Nat), s.pwr.queue.length < 16 → s.pwr.switching = some r →
    Completes (.pwrDomainOn d) s (fun t => t.pwr.switching = some r ∧
      t.pwr.queue = s.pwr.queue ++ [{ domain := d, on := true, cmd := true }])) ∧
  (∀ (s : State) (r : DomReq), s.pwr.switching = some r → s.pwr.rstWaits = false → s.pwr.queue = [] →
    45 ≤ r.domain ∧ r.domain ≤ 52 ∨ 58 ≤ r.domain ∧ r.domain ≤ 61 →
    Completes .domainSwitchEnd s (fun t => t.pwr.switching = none ∧ t.domainOn r.domain = r.on ∧ t.rd Fld.PWR_STATUS_DOM_BUSY = 0 ∧
      (r.cmd = true → t.rd Fld.PWR_DOM_RESULT_STATUS = STS_OK))) ∧
  (∀ (s : State) (answers : List PmbAnswer) (v : Nat), s.rdb Fld.PWR_CTRL_ENABLE = true →
    Completes (.pmbusPoll answers (some v)) s (fun t => t.rd Fld.PWR_VDD_MEAS_MV = v % 2 ^ Fld.PWR_VDD_MEAS_MV.width)) ∧
  (∀ (s : State) (a : PmbAnswer) (w d : Nat), s.rdb Fld.PWR_CTRL_ENABLE = true → s.pmbDevs = [d] → a.dev = d → a.status = some w →
    statusFault w = false →
    Completes (.pmbAlert [a]) s (fun t => t.out = .pmbusRead d :: s.out ∧ t.pwr.misses = s.pwr.misses.del d ∧ t.regs = s.regs)) ∧
  (∀ (s : State) (c : Nat), c ≤ 1 → (s.chain c).faulted = false → (s.chain c).due = none →
    Completes (.pwrgdLow c) s (fun t => (t.chain c).pwrgd = false ∧ (t.chain c).due = some (causePwrgd, 0, 0xFF))) ∧
  (∀ (s : State) (c cause status dev : Nat) (pd : Bool), c ≤ 1 → (s.chain c).due = some (cause, status, dev) →
    Completes (.chainFault c pd) s (fun t => (t.chain c).faulted = true ∧ (t.chain c).due = none)) ∧
  (∀ (s : State) (c : Nat), c ≤ 1 → (s.chain c).due = none →
    s.pmbDevs.any (fun d => s.rd Fld.PWR_PMB_DEV_CHAIN d == c && decide (3 ≤ s.pwr.misses.getD d 0)) = false →
    Completes (.chainGood c) s (fun t => (t.chain c).faulted = false ∧ (t.chain c).pwrgd = true)) ∧
  (∀ (s : State) (naks : List Nat), s.rdb Fld.PWR_CTRL_ENABLE = true → s.vddTarget < s.rd Fld.PWR_VDD_SET_MV →
    s.rd Fld.PWR_VDD_SET_MV < 2 ^ Fld.PWR_VDD_SET_MV.width →
    Completes (.avsVoutWrite naks) s (fun t => t.rd Fld.PWR_VDD_SET_MV =
      s.rd Fld.PWR_VDD_SET_MV - min (s.rd Fld.PWR_AVS_STEP_MV) (s.rd Fld.PWR_VDD_SET_MV - s.vddTarget)))

/-- The TAP's instructions (R526 to R530).
A driving instruction is in force only where R528 allows it, and is BYPASS elsewhere (R528, R530).
Where the spec leaves a choice, the model's own is stated: log entry 224. -/
def Obligations.TapInstructionsLoadAndDrive : Prop :=
  (∀ s : State, Completes .jtagTapReset s (fun t => t.dbg.ir = irIdcode ∧ t.dbg.preload = 0 ∧ t.rd Fld.DBG_STATUS_SCAN = 0 ∧
    t.aon = s.aon.settled)) ∧
  (∀ s : State, Completes .bypass s (fun t => t.dbg.ir = irBypass ∧ t.rd Fld.DBG_STATUS_SCAN = 0 ∧ t.out = s.out)) ∧
  (∀ s : State, Completes .idcode s (fun t => t.dbg.ir = irIdcode ∧
    t.out = .tap ((s.rd Fld.GLB_REV_MAJOR * 4 + s.rd Fld.GLB_REV_MINOR) % 16 * 2 ^ 28 + 0x8128 * 2 ^ 12 + 0x5A7 * 2 + 1) :: s.out)) ∧
  (∀ (s : State) (captured preload : Nat), Completes (.samplePreload captured preload) s (fun t => t.dbg.preload = preload ∧
    t.out = .tap captured :: s.out ∧ t.rd Fld.DBG_STATUS_SCAN = 0)) ∧
  (∀ (s : State) (c : Instr) (op : Nat),
    (c, op) ∈ [(Instr.extest, irExtest), (.extestPulse, irExtestPulse), (.extestTrain, irExtestTrain), (.clamp, irClamp), (.highz, irHighz)] →
    (s.tapLocked = false → s.mayScan = true → Completes c s (fun t => t.dbg.ir = op ∧ t.rd Fld.DBG_STATUS_SCAN = 1)) ∧
    (s.tapLocked = false → s.mayScan = false → Completes c s (fun t => t.dbg.ir = irBypass ∧ t.rd Fld.DBG_STATUS_SCAN = 0 ∧
      t.rd Fld.DBG_ERR_SCAN_REFUSED = 1 ∧ t.rd Fld.DBG_ERR_INFO_OPCODE = op)) ∧
    (s.tapLocked = true → Completes c s (fun t => t.dbg.ir = irBypass ∧ t.rd Fld.DBG_STATUS_SCAN = 0 ∧ t.rd Fld.DBG_STATUS_LOCKED = 1)))

/-- Fuses and loopback (R531, R534).
The Guestbook (R456 to R462).
Where the spec leaves a choice, the model's own is stated: log entries 8 and 218 to 223. -/
def Obligations.FusesLoopbackAndGuestbook : Prop :=
  (∀ (s : State) (v : Nat), s.rdb Fld.DBG_FUSE_RESULT_BUSY = false → s.tapLocked = false → s.dbg.fuses.lock = false →
    Completes (.fuseProg 18 (some v)) s (fun t => t.dbg.fuses = { s.dbg.fuses with lock := true } ∧ t.rd Fld.DBG_STATUS_LOCKED = 1 ∧
      t.rd Fld.DBG_FUSE_RESULT_STATUS = STS_OK)) ∧
  (∀ (s : State) (f : Nat) (x : Fuses), s.rdb Fld.DBG_FUSE_RESULT_BUSY = false → s.fuseNext f (s.rd Fld.DBG_FUSE_DATA) = .inl x →
    Completes (.fuseProg f none) s (fun t => t.dbg.fuses = x ∧ t.rd Fld.DBG_FUSE_RESULT_STATUS = STS_OK ∧ t.rd Fld.DBG_FUSE_RESULT_DONE = 1 ∧
      t.rdb Fld.GLB_FUSE_KEY = x.root.isSome)) ∧
  (∀ (s : State) (f st : Nat), s.rdb Fld.DBG_FUSE_RESULT_BUSY = false → s.fuseNext f (s.rd Fld.DBG_FUSE_DATA) = .inr st →
    Completes (.fuseProg f none) s (fun t => t.dbg.fuses = s.dbg.fuses ∧ t.rd Fld.DBG_FUSE_RESULT_STATUS = st % 2 ^ Fld.DBG_FUSE_RESULT_STATUS.width)) ∧
  (∀ (s : State) (kind target ms : Nat), s.rdb Fld.DBG_LOOP_STAT_BUSY = false → s.loopAllowed kind target = true →
    Completes (.loopbackStart kind target ms) s (fun t => t.dbg.loop = some (kind, target, s.now + ms * 1000 * unitsPerUs) ∧
      t.rd Fld.DBG_LOOP_STAT_BUSY = 1 ∧ t.rd Fld.DBG_STATUS_LOOPING = 1)) ∧
  (∀ (s : State) (kind target due errors : Nat), s.dbg.loop = some (kind, target, due) → kind ≠ 4 →
    Completes (.loopbackEnd errors) s (fun t => t.dbg.loop = none ∧ t.rd Fld.DBG_LOOP_STAT_STATUS = STS_OK ∧ t.rd Fld.DBG_LOOP_STAT_DONE = 1 ∧
      t.rd Fld.DBG_STATUS_LOOPING = 0)) ∧
  (∀ (s : State) (src code a0 a1 a2 : Nat), s.gbk.staging.length < 4096 →
    Completes (.gbkRecordStage src code a0 a1 a2 false) s (fun t => t.gbk.nextSeq = s.gbk.nextSeq + 1 ∧ t.gbk.drops = 0 ∧ t.regs = s.regs ∧
      (∃ r : GbkRec, t.gbk.staging = s.gbk.staging ++ [r] ∧ r.seq = s.gbk.nextSeq ∧ r.source = src ∧ r.code = code ∧ r.arg0 = a0 ∧ r.arg1 = a1 ∧
        r.arg2 = a2 ∧ r.tCt = s.ctNs ∧ r.head = s.headId ∧ r.lost = min s.gbk.drops 0xFFFF))) ∧
  (∀ (s : State) (src code a0 a1 a2 : Nat), 4096 ≤ s.gbk.staging.length →
    Completes (.gbkRecordStage src code a0 a1 a2 false) s (fun t => t.gbk.staging = s.gbk.staging ∧ t.gbk.nextSeq = s.gbk.nextSeq ∧
      t.gbk.drops = s.gbk.drops + 1 ∧ t.rd Fld.GBK_ERR_OVERFLOW = 1)) ∧
  (∀ (s : State) (r : GbkRec) (rest : List GbkRec), s.gbk.staging = r :: rest → s.rdb Fld.PJM_CTRL_ENABLE = true → s.rdb Fld.GBK_CTRL_ENABLE = true →
    s.gbk.scanned = true → s.admittedPend Blk.GBK = false → s.chanIn (r.seq % 8) = true →
    Completes .gbkRecordWrite s (fun t => t.gbk.staging = rest ∧ t.gbk.ring.look (r.seq % gbkSlots) = some r)) ∧
  (∀ s : State, s.rdb Fld.PJM_CTRL_ENABLE = true → s.rdb Fld.GBK_CTRL_ENABLE = true → s.gbk.scanned = false → s.gbk.ring = [] →
    s.gbk.staging = [] →
    Completes (.gbkResetScan []) s (fun t => t.gbk.scanned = true ∧ t.gbk.nextSeq = 1 ∧ t.rd Fld.GBK_HEAD_SEQ_SEQ = 0 ∧
      t.rd Fld.GBK_STATUS_SCANNING = 0)) ∧
  (∀ (s : State) (count : Nat) (partner : Bool) (other : List GbkRec), s.rdb Fld.GBK_COPY_RESULT_BUSY = false → 1 ≤ count → count ≤ 65536 →
    Completes (.gbkCopy count 1 partner other true) s (fun t => t.rd Fld.GBK_COPY_RESULT_STATUS = STS_OK ∧ t.rd Fld.GBK_COPY_RESULT_DONE = 1 ∧
      t.out = .gbkCopy 1 (s.rd Fld.GBK_COPY_ADDR_ADDR) ((List.range count).map (fun i => s.gbkRead partner other (s.rd Fld.GBK_COPY_FIRST_SEQ + i))) :: s.out)) ∧
  (∀ s : State, s.rdb Fld.GBK_CLEAR_RESULT_BUSY = false → s.tokenRefuses (s.rd Fld.GBK_CLEAR_TOKEN) = none →
    Completes .gbkClear s (fun t => t.rd Fld.GBK_CLEAR_RESULT_STATUS = STS_OK ∧
      (∀ slot r, t.gbk.ring.look slot = some r → r.seq < s.rd Fld.GBK_FLOOR_SEQ ∨ bitsOf (s.rd Fld.GBK_CLEAR_TOKEN) 0 64 < r.seq))) ∧
  (∀ (s : State) (st : Nat), s.rdb Fld.GBK_CLEAR_RESULT_BUSY = false → s.tokenRefuses (s.rd Fld.GBK_CLEAR_TOKEN) = some st →
    Completes .gbkClear s (fun t => t.gbk.ring = s.gbk.ring ∧ t.rd Fld.GBK_ERR_CLEAR_REFUSED = 1 ∧
      t.rd Fld.GBK_CLEAR_RESULT_STATUS = st % 2 ^ Fld.GBK_CLEAR_RESULT_STATUS.width)) ∧
  (∀ (s : State) (d : Nat), s.car.dayEnd = some d → s.rdb Fld.CAR_UTC_LEAP61 = true → s.rd Fld.CAR_UTC_UTC_OFFSET < 32767 →
    Completes .leapSecondAdjust s (fun t => t.rd Fld.CAR_UTC_UTC_OFFSET = s.rd Fld.CAR_UTC_UTC_OFFSET + 1 ∧ t.rd Fld.CAR_UTC_LEAP61 = 0 ∧
      t.car.dayEnd = none))

/-- What the time source brings (R57 to R65, R456).
The bound on ε, the pulse output and the latched reading of cluster time (R61, R67, R76).
Carillon slots (R69 to R74).
Where the spec leaves a choice, the model's own is stated: log entries 3, 37 to 39, 41 and 42. -/
def Obligations.ClusterTimeAndCarillonSlots : Prop :=
  (∀ (s : State) (port dt src : Nat) (li : Int), s.rdb Fld.CAR_CTRL_ENABLE = true → s.rd Fld.CAR_STATUS_PORT_ACTIVE = port →
    s.rd Fld.CAR_CTRL_SOURCE = 0 → s.admittedPend Blk.CAR = false → s.adm.boundNext = none →
    Completes (.ptpMeasurement port dt src li) s (fun t => t.car.lastMeas = some (s.now + dt) ∧
      (s.rd Fld.CAR_STATUS_STATE = carUnsynced → t.rd Fld.CAR_STATUS_STATE = carAcquiring) ∧
      (s.rd Fld.CAR_STATUS_STATE = carHoldover → t.rd Fld.CAR_STATUS_STATE = carLocked))) ∧
  (∀ (s : State) (port off : Nat) (l61 l59 : Bool), s.rd Fld.CAR_STATUS_PORT_ACTIVE = port → s.rdb Fld.CAR_CTRL_UTC_FROM_PTP = true →
    Completes (.ptpAnnounce port off l61 l59) s (fun t => t.rd Fld.CAR_UTC_UTC_OFFSET = off % 2 ^ 16 ∧ t.rdb Fld.CAR_UTC_LEAP61 = l61 ∧
      t.rdb Fld.CAR_UTC_LEAP59 = l59 ∧ t.rdb Fld.CAR_STATUS_LEAP_PENDING = (l61 || l59))) ∧
  (∀ (s : State) (dt : Nat) (falling : Bool), s.rdb Fld.CAR_PPS_IN_EN = true → s.rdb Fld.CAR_PPS_IN_EDGE = falling →
    s.rdb Fld.CAR_CTRL_ENABLE = true → s.rd Fld.CAR_CTRL_SOURCE = 2 → s.car.secondsKnown = true →
    Completes (.ppsInEdge dt falling) s (fun t => t.car.ppsInAt = some (s.now + dt) ∧ t.car.lastMeas = some (s.now + dt))) ∧
  (∀ s : State, s.rd Fld.CAR_STATUS_STATE = carLocked →
    Completes .holdoverEntry s (fun t => t.rd Fld.CAR_STATUS_STATE = carHoldover ∧ t.rd Fld.CAR_ERR_SOURCE_LOST = 1 ∧ t.car.y = s.car.y)) ∧
  (∀ s : State, s.rdb Fld.CAR_CTRL_ENABLE = true → s.rdb Fld.CAR_CTRL_BACKUP_EN = true → s.rdb Fld.CAR_STATUS_ON_BACKUP = false →
    s.car.lastMeas.isSome = true → s.rd Fld.CAR_CTRL_BACKUP_PORT < 2 ^ Fld.CAR_STATUS_PORT_ACTIVE.width →
    Completes .backupPortFallover s (fun t => t.rd Fld.CAR_STATUS_PORT_ACTIVE = s.rd Fld.CAR_CTRL_BACKUP_PORT ∧
      t.rd Fld.CAR_STATUS_ON_BACKUP = 1)) ∧
  (∀ s : State, s.rdb Fld.CAR_CTRL_ENABLE = true → s.admittedPend Blk.CAR = false →
    Completes .servoStep1ms s (fun t => t.car.lastStep = t.now ∧ t.car.y = s.car.y ∧ t.car.lastMeas = s.car.lastMeas)) ∧
  (∀ s : State, Completes .carEnableClear s (fun t => t.rd Fld.CAR_CTRL_ENABLE = 0 ∧ t.rd Fld.CAR_STATUS_STATE = carUnsynced ∧
    t.car.lockRun = 0)) ∧
  (∀ s : State, s.rdb Fld.CAR_CTRL_ENABLE = true → s.rd Fld.CAR_CTRL_SOURCE ≠ 2 →
    Completes .ptpDelayReqSend s (fun t => t.car.delayReqAt = some t.now ∧
      t.out.head? = some (.delayReq (s.rd Fld.CAR_STATUS_PORT_ACTIVE) (s.rdb Fld.CAR_CTRL_P2P)))) ∧
  (∀ s : State, s.timeValid = true → s.rdb Fld.CAR_STATUS_EPS_OVER = false → s.rd Fld.CAR_EPS_BOUND_BOUND < 0xFFFFFFFF →
    Completes .epsOverSet s (fun t => t.rd Fld.CAR_STATUS_EPS_OVER = 1 ∧ t.car.epsLowSince = none)) ∧
  (∀ (s : State) (t₀ : Nat), s.car.epsLowSince = some t₀ → s.rdb Fld.CAR_STATUS_EPS_OVER = true →
    (s.advance (t₀ + 1000000 * unitsPerUs)).epsLow = true →
    Completes .epsOverClear s (fun t => t.rd Fld.CAR_STATUS_EPS_OVER = 0 ∧ t₀ + 1000000 * unitsPerUs ≤ t.now)) ∧
  (∀ s : State, s.timeValid = true → s.rdb Fld.CAR_PPS_OUT_EN = true →
    Completes .ppsOutEdge s (fun t => t.out.head? = some (.ppsOut (s.rd Fld.CAR_PPS_OUT_WIDTH)))) ∧
  (∀ s : State, Completes .carNowRead s (fun t =>
    t.out = .regValue (Blk.CAR * 1048576 + 0x10) (s.ct16 / 65536 % 2 ^ 32) :: s.out ∧ t.now = s.now ∧
    t.rd Fld.CAR_NOW_NS_HI = s.ct16 / 65536 / 2 ^ 32 % 2 ^ 32 ∧ t.rd Fld.CAR_NOW_FRAC_FRAC = s.ct16 % 65536)) ∧
  (∀ (s : State) (i off v : Nat) (fw : Bool), (firmwareSlot i && !fw) = false → s.rd Fld.CAR_SLOT_STATE i = slotIdle →
    Completes (.carSlotWrite i off v fw) s (fun t => t.rd Fld.CAR_SLOT_STATE i = slotIdle ∧
      ∀ f ∈ slotFields, t.rd f i = mergeBits f (s.rd f i) (off * 8) 32 v % 2 ^ f.width)) ∧
  (∀ (s : State) (i off v : Nat) (fw : Bool), (firmwareSlot i && !fw) = false → s.rd Fld.CAR_SLOT_STATE i ≠ slotIdle →
    Completes (.carSlotWrite i off v fw) s (fun t => t.rd Fld.CAR_ERR_SLOT_LIVE = 1 ∧ ∀ f ∈ slotFields, t.rd f i = s.rd f i)) ∧
  (∀ (s : State) (i : Nat) (fw : Bool), i < Fld.CAR_SLOT_STATE.count → (firmwareSlot i && !fw) = false → s.rd Fld.CAR_SLOT_STATE i = slotIdle →
    s.slotBad i = false → s.slotEpsRefused i = false →
    Completes (.carSlotArm i fw) s (fun t => t.rd Fld.CAR_SLOT_STATE i = if s.timeValid then slotArmed else slotHeld)) ∧
  (∀ (s : State) (i : Nat) (fw : Bool), i < Fld.CAR_SLOT_STATE.count → (firmwareSlot i && !fw) = false →
    Completes (.carSlotDisarm i fw) s (fun t => t.rd Fld.CAR_SLOT_STATE i = slotIdle)) ∧
  (∀ (s : State) (i : Nat), i < Fld.CAR_SLOT_STATE.count → s.rd Fld.CAR_SLOT_STATE i = slotArmed → s.timeValid = true → s.slotNextDue i = true →
    s.rd Fld.CAR_SLOT_ACTION i = 3 → s.enabled (s.rd Fld.CAR_SLOT_BLOCK i) = true → s.rd Fld.CAR_SLOT_PERIOD_NS i = 0 →
    s.rdb Fld.CAR_SLOT_LOG_LATE i = false →
    Completes (.carillonFire i) s (fun t => t.rd Fld.CAR_SLOT_STATE i = slotIdle ∧
      t.rd Fld.CAR_SLOT_FIRE_COUNT i = (s.rd Fld.CAR_SLOT_FIRE_COUNT i + 1) % 2 ^ Fld.CAR_SLOT_FIRE_COUNT.width ∧
      ∃ late eps l, Out.trigger (s.rd Fld.CAR_SLOT_BLOCK i) (s.rd Fld.CAR_SLOT_TRIGGER i) (s.rd Fld.CAR_SLOT_ARG i)
        (s.rd Fld.CAR_SLOT_INSTANT_NS i) late eps l ∈ t.out))

/-- `FENCE_IN_N`, `ILK_CLAIM_IN` and the settle time (R11, R12, R382, R383).
Where the spec leaves a choice, the model's own is stated: log entries 3, 148 and 152. -/
def Obligations.FenceAndClaimsGateTheDrivers : Prop :=
  (∀ s : State, Completes .fenceInAsserted s (fun t => t.aon.drivers = [] ∧ t.aon.claimOut = [] ∧ t.aon.fenceIn = true ∧
    t.rd Fld.OWN_ERR_FENCED = 1 ∧ t.aon.leaseEnd = s.aon.leaseEnd)) ∧
  (∀ (s : State) (ns : Nat), ns < 500 → Completes (.fenceTestPulse ns) s (fun t => t.rd Fld.OWN_STATUS_FENCE_PULSE = 1 ∧
    t.aon = s.aon.settled)) ∧
  (∀ s : State, Completes .fenceInRelease s (fun t => t.aon.fenceIn = false ∧ t.regs = s.regs ∧ t.aon.leaseEnd = s.aon.leaseEnd ∧
    ∀ g, t.aon.drivers.mem g = true → s.aon.drivers.mem g = true)) ∧
  (∀ (s : State) (g ns : Nat), g < 16 → 150 ≤ ns → Completes (.claimInChange g true ns) s (fun t => t.aon.claimIn.mem g = true ∧
    t.aon.drivers.mem g = false)) ∧
  (∀ (s : State) (g ns : Nat), g < 16 → 150 ≤ ns → Completes (.claimInChange g false ns) s (fun t => t.aon.claimIn.mem g = false ∧
    ∀ h, t.aon.drivers.mem h = true → s.aon.drivers.mem h = true)) ∧
  (∀ (s : State) (g t₀ e : Nat), s.aon.settle.look g = some t₀ → s.aon.leaseEnd = some e → t₀ + settleTime < e → s.aon.fenceIn = false →
    s.aon.claimOut.mem g = true → s.aon.claimIn.mem g = false →
    Completes (.groupSettleExpiry g) s (fun t => t.aon.drivers.mem g = true ∧ t₀ + settleTime ≤ t.now ∧ t.aon.claimOut = s.aon.claimOut))

/-- The lease and the requests to the innkeepers (R371 to R378, R384).
Where the spec leaves a choice, the model's own is stated: log entries 135 and 138 to 140. -/
def Obligations.LeaseFollowsTable171 : Prop :=
  (∀ s : State, s.rdb Fld.OWN_CTRL_ENABLE = false → (s.tryEnable Fld.OWN_CTRL_ENABLE).2 = true →
    Completes .ownEnable s (fun t => t.rd Fld.OWN_CTRL_ENABLE = 1 ∧ t.rd Fld.OWN_STATUS_LEASE = leaseAcquiring)) ∧
  (∀ s u : State, s.leaseIsHeld = true → s.rdb Fld.OWN_CTRL_ENABLE = true → u = s.advanceCt (Frac.int (s.own.nextRenew : Nat)) →
    u.leaseIsHeld = true → u.admittedPend Blk.OWN = false →
    Completes .renewSend s (fun t => t.own.nextRenew = (u.ikMsg .renew).tSend + u.leaseNs / 4 ∧
      (t.own.reqs.look (u.ikMsg .renew).tSend).map (fun r => r.msg.op) = some .renew ∧
      ∀ i, i < 3 → Out.ik (u.ikId i) (u.ikMsg .renew) ∈ t.out)) ∧
  (∀ (s : State) (m : IkMsg) (whole : List Nat) (i j lg ag : Nat) (r : OwnReq), s.ikIndex m.sender = some i → m.tagOk = true →
    m.array = s.arrayId → s.freshMsg (s.own.fromIk.getD i 0) s.leaseNs m.tSend = true → s.own.reqs.look m.reqT = some r →
    r.msg.op = .acquire → s.ctNs < r.msg.tSend + r.life → m.op = .grant → r.done = false → r.grants = [(j, lg, ag)] → j ≠ i →
    s.rd Fld.OWN_STATUS_LEASE = leaseAcquiring →
    Completes (.innkeeperReply m whole) s (fun t => t.rd Fld.OWN_STATUS_LEASE = leaseHeld ∧ t.aon.leaseEnd.isSome = true)) ∧
  (∀ (s : State) (tSend : Nat) (r : OwnReq), s.own.reqs.look tSend = some r → r.msg.op = .renew → r.done = false →
    Completes (.requestAbandon tSend) s (fun t => t.own.reqs.look tSend = none ∧ t.rd Fld.OWN_ERR_RENEW_FAIL = 1)) ∧
  (∀ (s : State) (e : Nat), s.aon.leaseEnd = some e →
    Completes .leaseTimerExpiry s (fun t => t.aon.leaseEnd = none ∧ t.aon.claimOut = [] ∧ t.aon.drivers = [] ∧
      t.rd Fld.OWN_STATUS_LEASE = leaseSelfFenced ∧ t.rd Fld.OWN_ERR_SELF_FENCE = 1 ∧ t.now = max s.now e)) ∧
  (∀ s : State, s.rdb Fld.OWN_CTRL_TAKE_EN = true → s.leaseIsHeld = true → s.own.takeSent = none → s.own.takeAgain = none →
    s.rdb Fld.ISL_STATUS_SUSPECT = true → s.linkUp = false → s.own.groups.look 0 ≠ some s.aon.side →
    Completes .takeSend s (fun t => t.own.takeSent = some (s.ikMsg .take).tSend ∧ t.pjm.refuseMirror = true ∧
      (t.own.reqs.look (s.ikMsg .take).tSend).map (fun r => r.msg.op) = some .take))

/-- An innkeeper judges the requests of the arrays it serves (R374, Table 17.4, R376).
Where the spec leaves a choice, the model's own is stated: log entries 136 and 141 to 143. -/
def Obligations.InnkeeperJudgesRequests : Prop :=
  (∀ (s : State) (m : IkMsg) (x : IkLease), s.IkTakes m → m.op = .renew → (s.ikRecord m.array).lease m.side = some x →
    s.ctNs ≤ x.exp → x.lgen = m.lgen → (s.ikRecord m.array).agen = m.agen → (s.ikRecord m.array).heldTake = none →
    Completes (.ikRenew m) s (fun t => (t.ikRecord m.array).lease m.side = some ⟨s.ikExp m, m.lgen⟩ ∧
      ∃ a, t.out = .ik m.sender a :: s.out ∧ a.op = .grant)) ∧
  (∀ (s : State) (m : IkMsg), s.IkTakes m → m.op = .acquire → (s.ikRecord m.array).lease m.side = none →
    Completes (.ikAcquire m) s (fun t => (t.ikRecord m.array).lease m.side = some ⟨s.ikExp m, m.lgen + 1⟩ ∧
      ∃ a, t.out = .ik m.sender a :: s.out ∧ a.op = .grant)) ∧
  (∀ (s : State) (m : IkMsg) (x : IkLease), s.IkTakes m → m.op = .acquire → (s.ikRecord m.array).lease m.side = some x → s.ctNs ≤ x.exp →
    Completes (.ikAcquire m) s (fun t => t.own.ikRecords = s.own.ikRecords ∧
      ∃ a, t.out = .ik m.sender a :: s.out ∧ a.op = .refuse ∧ a.status = STS_LEASE_HELD)) ∧
  (∀ (s : State) (m : IkMsg) (x : IkLease), s.IkTakes m → m.op = .take → (s.ikRecord m.array).lease m.side = some x → s.ctNs ≤ x.exp →
    (s.ikRecord m.array).agen = m.agen → s.ikRuns ((s.ikRecord m.array).lease m.side.other) = false →
    Completes (.ikTake m) s (fun t => (t.ikRecord m.array).agen = m.agen + 1 ∧ (t.ikRecord m.array).heldTake = none ∧
      ∃ a, t.out = .ik m.sender a :: s.out ∧ a.op = .grant)) ∧
  (∀ (s : State) (m : IkMsg) (x y : IkLease), s.IkTakes m → m.op = .take → (s.ikRecord m.array).lease m.side = some x → s.ctNs ≤ x.exp →
    (s.ikRecord m.array).agen = m.agen → (s.ikRecord m.array).lease m.side.other = some y → s.ctNs ≤ y.exp →
    Completes (.ikTake m) s (fun t => (t.ikRecord m.array).heldTake = some m ∧ (t.ikRecord m.array).agen = m.agen ∧ t.out = s.out)) ∧
  (∀ (s : State) (m : IkMsg) (x : IkLease), s.IkTakes m → m.op = .handover → (s.ikRecord m.array).lease m.side = some x → s.ctNs ≤ x.exp →
    (s.ikRecord m.array).agen = m.agen → (s.ikRecord m.array).holders = [] →
    Completes (.ikHandover m) s (fun t => (t.ikRecord m.array).agen = m.agen + 1 ∧
      ∃ a, t.out = .ik m.sender a :: s.out ∧ a.op = .grant)) ∧
  (∀ (s : State) (m : IkMsg), s.IkTakes m → m.op = .query →
    Completes (.ikQuery m) s (fun t => t.own.ikRecords = s.own.ikRecords ∧
      ∃ a, t.out = .ik m.sender a :: s.out ∧ a.op = .record ∧ a.agen = (s.ikRecord m.array).agen)) ∧
  (∀ (s : State) (m : IkMsg) (array : Nat), (s.ikRecord array).heldTake = some m → m.array = array → (s.ikRecord array).agen = m.agen →
    Completes (.ikHeldTakeExpiry array) s (fun t => (t.ikRecord array).agen = m.agen + 1 ∧ (t.ikRecord array).heldTake = none)) ∧
  (∀ (s : State) (t₀ : Nat), s.own.ikRecovering = some t₀ →
    Completes .ikRecoveryEnd s (fun t => t.own.ikRecovering = none ∧ t.own.ikRecords = [] ∧ t₀ ≤ t.now))

/-- Claims of groups, handover and return (R380, R381, R387, R388).
Where the spec leaves a choice, the model's own is stated: log entries 144, 150 and 151. -/
def Obligations.ObjectsAreClaimedAndHandedOver : Prop :=
  (∀ (s : State) (g : Nat), s.leaseIsHeld = true → s.ownGroups.contains g = true → s.own.releasing.mem g = false → s.aon.fenceIn = false →
    s.rdb Fld.PWR_STATUS_FIRST_BOOT = false → s.aon.timerRuns = true → s.aon.claimIn.mem g = false → s.aon.drivers.mem g = false →
    Completes (.groupClaim g) s (fun t => t.aon.claimOut.mem g = true ∧ t.aon.claimMask.mem g = true ∧ t.aon.settle.look g = some s.now)) ∧
  (∀ (s : State) (g : Nat), s.aon.claimMask.mem g = true → s.groupBusy g = false → s.own.handing.head? ≠ some (2000 + g) →
    Completes (.groupRelease g) s (fun t => t.aon.claimOut.mem g = false ∧ t.aon.claimMask.mem g = false ∧ t.aon.drivers.mem g = false)) ∧
  (∀ (s : State) (o : Nat), s.leaseIsHeld = true → s.own.sets.look o = some s.aon.side → s.own.handing.head? = some o → s.own.reqs = [] →
    Completes (.handoverSet o) s (fun t => t.own.moving.mem o = true ∧ t.own.handing = s.own.handing)) ∧
  (∀ (s : State) (g agen : Nat) (whole : List Nat), s.linkUp = true → s.leaseIsHeld = true →
    Completes (.handoverSignalReceive 1 g agen whole) s (fun t => t.own.groups.look g = some s.aon.side)) ∧
  (∀ (s : State) (h agen : Nat) (whole : List Nat), h < 2 → s.linkUp = true → s.leaseIsHeld = true →
    Completes (.handoverSignalReceive 2 h agen whole) s (fun t => bitAt (t.rd Fld.DDP_STATUS_HALVES) h = true ∧ t.own = s.own)) ∧
  (∀ (s : State) (t₀ : Nat), s.own.returnFrom = some t₀ → s.rdb Fld.OWN_CTRL_RETURN_EN = true → s.rdb Fld.PJM_STATUS_MIRROR_HELD = true →
    s.leaseIsHeld = true →
    Completes .returnHoldExpiry s (fun t => t.own.returnFrom = none ∧
      t₀ + s.rd Fld.OWN_LEASE_RETURN_HOLD_S * 1000000 * unitsPerUs ≤ t.now)) ∧
  (∀ s : State, s.linkUp = true →
    Completes .returnRequestReceive s (fun t => t.aon.fenceOut = false ∧ t.pjm.refuseMirror = false ∧
      ∀ k ∈ s.partnerHome, t.own.handing.mem k = true))

/-- Drills and the commands of `OWN_CMD` (R387 to R390, R394).
Where the spec leaves a choice, the model's own is stated: log entries 145 to 147 and 151. -/
def Obligations.OwnershipCommandsRun : Prop :=
  (∀ (s : State) (h : Side) (ph pd : Bool), s.rdb Fld.OWN_DRILL_EN = true → s.own.groups.look (s.ctNs / 86400000000000 % 16) = some h →
    s.drillSkips h ph pd = false →
    Completes (.ownershipDrill 0 ph pd) s (fun t => t.rd Fld.OWN_DRILL_STATUS_RESULT = 1 ∧
      t.rd Fld.OWN_DRILL_STATUS_GROUP = s.ctNs / 86400000000000 % 16)) ∧
  (∀ (s : State) (h : Side) (fail : Nat) (ph pd : Bool), s.rdb Fld.OWN_DRILL_EN = true →
    s.own.groups.look (s.ctNs / 86400000000000 % 16) = some h → s.drillSkips h ph pd = true →
    Completes (.ownershipDrill fail ph pd) s (fun t => t.rd Fld.OWN_DRILL_STATUS_RESULT = 3 ∧ t.rd Fld.OWN_ERR_DRILL_SKIPPED = 1 ∧
      t.aon = s.aon.settled ∧ t.own = s.own)) ∧
  (∀ s : State, s.rdb Fld.OWN_CMD_RESULT_BUSY = false → s.leaseIsHeld = true → s.allHeld ≠ [] →
    Completes .ownHandOverAll s (fun t => t.rd Fld.OWN_CMD_RESULT_BUSY = 1 ∧ ∀ k ∈ s.allHeld, t.own.handing.mem k = true)) ∧
  (∀ s : State, s.rdb Fld.OWN_CMD_RESULT_BUSY = false →
    Completes .ownAskReturn s (fun t => t.rd Fld.OWN_CMD_RESULT_STATUS = STS_OK ∧ t.rd Fld.OWN_CMD_RESULT_DONE = 1 ∧
      t.rd Fld.OWN_CMD_RESULT_BUSY = 0)) ∧
  (∀ (s : State) (o : Nat), s.rdb Fld.OWN_CMD_RESULT_BUSY = false → s.leaseIsHeld = true → o ∈ s.ownSets →
    Completes (.ownHandOverOset o) s (fun t => t.rd Fld.OWN_CMD_RESULT_BUSY = 1 ∧ t.own.handing.mem o = true)) ∧
  (∀ (s : State) (g : Nat), s.rdb Fld.OWN_CMD_RESULT_BUSY = false → s.leaseIsHeld = true → g ∈ s.ownGroups →
    Completes (.ownHandOverGroup g) s (fun t => t.rd Fld.OWN_CMD_RESULT_BUSY = 1 ∧ t.own.handing.mem (2000 + g) = true)) ∧
  (∀ (s : State) (h : Side) (g : Nat) (ph pd : Bool), g < 16 → s.rdb Fld.OWN_CMD_RESULT_BUSY = false → s.own.groups.look g = some h →
    s.drillSkips h ph pd = false →
    Completes (.ownDrillNow g 0 ph pd) s (fun t => t.rd Fld.OWN_DRILL_STATUS_RESULT = 1 ∧ t.rd Fld.OWN_DRILL_STATUS_GROUP = g ∧
      t.rd Fld.OWN_CMD_RESULT_DONE = 1))

/-- Commits of one block (R440 to R442).
Enables, images and drift (R429, R443, R445, R451).
Where the spec leaves a choice, the model's own is stated: log entries 8, 153, 154 and 158 to 168. -/
def Obligations.CommitsAndAdmissionGuardTheConfiguration : Prop :=
  (∀ (s : State) (b g : Nat) (c f : Field), commitField b = some c → activeGenField b = some f → s.rdb Fld.ADM_STATUS_APPLYING = false →
    s.adm.pend.has b = false → s.admittedPend Blk.ADM = false → g = (s.rd f + 1) % 2 ^ 32 →
    Completes (.commitWrite b g) s (fun t => t.adm.pend.look b = some { gen := g, admitted := false } ∧ t.rd Fld.ADM_STATUS_CHECKING = 1 ∧
      t.shadow = s.shadow)) ∧
  (∀ (s : State) (b g : Nat) (c f : Field), commitField b = some c → activeGenField b = some f → s.rdb Fld.ADM_STATUS_APPLYING = false →
    s.adm.pend.has b = false → g ≠ (s.rd f + 1) % 2 ^ 32 →
    Completes (.commitWrite b g) s (fun t => t.adm = s.adm ∧ t.shadow = s.shadow ∧ t.rd Fld.ADM_ERR_GEN_MISMATCH = 1)) ∧
  (∀ (s : State) (b : Nat) (p : Pend) (v : Violation), s.adm.pend.look b = some p → p.admitted = false → refusal b s s.proposed = some v →
    Completes (.admissionCheckEnd b) s (fun t => t.adm.pend.look b = none ∧ t.rd Fld.ADM_RESULT_STATUS = STS_ADM_REFUSED ∧
      t.rd Fld.ADM_RESULT_CONSTRAINT = v.index % 2 ^ 16 ∧ t.shadow = s.shadow)) ∧
  (∀ (s : State) (b : Nat) (p : Pend), s.adm.pend.look b = some p → p.admitted = false → refusal b s s.proposed = none →
    s.enabled b = true → b ≠ Blk.ADM →
    Completes (.admissionCheckEnd b) s (fun t => t.adm.pend.look b = some { p with admitted := true } ∧ t.latched = s.latched)) ∧
  (∀ (s : State) (b : Nat) (f : Field), s.admittedPend b = true → activeGenField b = some f →
    b ∉ [Blk.NET, Blk.SNP, Blk.FWU, Blk.ADM] → s.latched.wf → (blockEntries s.latched b).look (f.key 0 0) = none →
    Completes (.commitTakeEffect b) s (fun t => t.adm.pend.look b = none ∧ t.rd f = (s.rd f + 1) % 2 ^ 32 ∧
      ∀ k v, (blockEntries s.latched b).look k = some v → t.regs.look k = some v)) ∧
  (∀ (s : State) (b : Nat) (f : Field), enableField b = some f → b ∉ [Blk.ISL, Blk.OWN, Blk.MAP, Blk.FLC, Blk.PJM] →
    s.rdb Fld.PWR_STATUS_FIRST_BOOT = false → s.rdb f = false → refusal b s (s.wr f 1) = none →
    Completes (.blockEnableSet b) s (fun t => t.rd f = 1)) ∧
  (∀ (s : State) (b : Nat) (f : Field) (v : Violation), enableField b = some f → b ∉ [Blk.ISL, Blk.OWN, Blk.MAP, Blk.FLC, Blk.PJM] →
    s.rdb Fld.PWR_STATUS_FIRST_BOOT = false → s.rd f = 0 → refusal b s (s.wr f 1) = some v →
    Completes (.blockEnableSet b) s (fun t => t.rd f = 0 ∧ t.rd Fld.ADM_RESULT_STATUS = STS_ADM_REFUSED ∧
      t.rd Fld.ADM_RESULT_CONSTRAINT = v.index % 2 ^ 16)) ∧
  (∀ (s : State) (img : Image), s.admittedPend Blk.ADM = false → s.imgCheck img = none →
    Completes (.admCheckImage img) s (fun t => t.rd Fld.ADM_RESULT_STATUS = STS_OK ∧ t.rd Fld.ADM_RESULT_DONE = 1 ∧ t.shadow = s.shadow ∧
      t.adm = s.adm ∧ t.fwu = s.fwu)) ∧
  (∀ (s : State) (img : Image), s.admittedPend Blk.ADM = false → s.imgCheck img = none →
    Completes (.admApplyImage img) s (fun t => t.rd Fld.ADM_RESULT_STATUS = STS_OK ∧ t.rd Fld.ADM_IMG_GEN_GEN = img.imgGen % 2 ^ 32 ∧
      t.rd Fld.GLB_HEAD_HEAD_ID = img.headId % 2 ^ 16 ∧ t.rd Fld.GLB_HEAD_ID_VALID = 1)) ∧
  (∀ (s : State) (img : Image) (x : Violation × Nat), s.admittedPend Blk.ADM = false → s.imgCheck img = some x →
    Completes (.admApplyImage img) s (fun t => t.rd Fld.ADM_RESULT_STATUS = STS_ADM_REFUSED ∧ t.rd Fld.ADM_IMG_GEN_GEN = s.rd Fld.ADM_IMG_GEN_GEN ∧
      t.adm = s.adm ∧ t.fwu = s.fwu ∧ t.shadow = s.shadow)) ∧
  (∀ s : State, Completes .measuredDrift s (fun t => t.adm.drift = s.driftNow ∧
    (s.driftNow.any (fun c => !s.adm.drift.mem c) = true → t.rd Fld.ADM_ERR_DRIFT = 1))) ∧
  (∀ (s : State) (n : Nat), n < 64 → s.rdb Fld.LPE_LOOP_CTRL_ENABLE n = false →
    refusal Blk.LPE s (s.wr Fld.LPE_LOOP_CTRL_ENABLE 1 n) = none →
    Completes (.loopEnable n) s (fun t => t.rd Fld.LPE_LOOP_CTRL_ENABLE n = 1))

/-- Accesses of BAR0 by access type and change class (R2, R4, R519, R520), and the same over JTAG (R529).
The error interrupt (R525).
Where the spec leaves a choice, the model's own is stated: log entries 17 to 22 and 32. -/
def Obligations.Bar0AndErrorInterruptAct : Prop :=
  (∀ (s : State) (v : Nat), s.aon.mainReset = false →
    Completes (.registerWrite 0x40 4 v) s (fun t => t.rd Fld.GLB_SCRATCH_DATA = v % 2 ^ 32 ∧ t.shadow = s.shadow)) ∧
  (∀ (s : State) (v : Nat), s.aon.mainReset = false → s.rd Fld.GLB_ERR_BAD_OFFSET = 1 →
    Completes (.registerWrite 0x20 4 v) s (fun t => t.rd Fld.GLB_ERR_BAD_OFFSET = if bitAt v 1 then 0 else 1)) ∧
  (∀ (s : State) (v : Nat), s.aon.mainReset = false → Completes (.registerWrite 0x4 4 v) s (fun t => t.regs = s.regs ∧ t.shadow = s.shadow)) ∧
  (∀ (s : State) (v : Nat), s.aon.mainReset = false →
    Completes (.registerWrite 0x1900048 4 v) s (fun t => t.regs = s.regs ∧
      t.shadow.look (Fld.FWU_CFG_CONFIRM_S.key 0 0) = some (v % 2 ^ 16))) ∧
  (∀ (s : State) (v : Nat), s.aon.mainReset = false → s.rdb Fld.POL_CTRL_ENABLE = true →
    Completes (.registerWrite 0x600020 8 v) s (fun t => t.rd Fld.POL_REGION_BASE = s.rd Fld.POL_REGION_BASE ∧ t.rd Fld.GLB_ERR_CFG_LIVE = 1)) ∧
  (∀ s : State, s.aon.mainReset = false →
    Completes (.rcRegisterRead 0x600044 4) s (fun t => t.rd Fld.POL_DF_COUNT_COUNT = 0 ∧
      t.out = .regValue 0x600044 (s.rd Fld.POL_DF_COUNT_COUNT % 2 ^ 32) :: s.out)) ∧
  (∀ (s : State) (off v : Nat), s.aon.mainReset = false → regOfOff off 4 = none → off % 4 = 0 →
    Completes (.bar0AccessError off 4 (some v)) s (fun t => t.rd Fld.GLB_ERR_BAD_OFFSET = 1 ∧ t.rd Fld.GLB_ERR_INFO_OFFSET = off % 2 ^ 26 ∧
      t.rd Fld.GLB_ERR_INFO_WRITE = 1 ∧ t.rd Fld.GLB_ERR_INFO_KIND = 2 ∧ t.shadow = s.shadow)) ∧
  (∀ (s : State) (v : Nat), s.aon.mainReset = false → s.tapLocked = false →
    Completes (.regAccess 0x40 4 (some v)) s (fun t => t.rd Fld.GLB_SCRATCH_DATA = v % 2 ^ 32 ∧ t.dbg.ir = irRegAccess)) ∧
  (∀ s : State, s.maskedErr ≠ 0 → s.rdb Fld.GLB_INT_CFG_EN = true → s.intHoldEnd ≤ s.now →
    Completes .glbIntAck s (fun t => t.out = .msix 0 (s.rd Fld.GLB_INT_CFG_VECTOR) :: s.out ∧ t.glb.armed = false ∧ t.glb.lastMsg = some s.now)) ∧
  (∀ s : State, s.glb.armed = true → s.maskedErr ≠ 0 → s.rdb Fld.GLB_INT_CFG_EN = true → s.intHoldEnd ≤ s.now →
    Completes .errorInterrupt s (fun t => t.out = .msix 0 (s.rd Fld.GLB_INT_CFG_VECTOR) :: s.out ∧ t.glb.armed = false)) ∧
  (∀ s : State, s.glb.armed = true → s.maskedErr ≠ 0 → s.rdb Fld.GLB_INT_CFG_EN = true → s.now < s.intHoldEnd →
    Completes .errorInterrupt s (fun t => t.out = s.out ∧ t.glb.held = true)) ∧
  (∀ s u : State, s.glb.held = true → u = s.advance s.intHoldEnd → u.maskedErr ≠ 0 → u.rdb Fld.GLB_INT_CFG_EN = true →
    Completes .intHoldoffExpiry s (fun t => t.out = .msix 0 (u.rd Fld.GLB_INT_CFG_VECTOR) :: u.out ∧ t.glb.held = false ∧
      s.intHoldEnd ≤ t.now))

/-- The block commands of a ring: NOP and FLUSH end with STS_OK, BLK_WRITE and DEALLOCATE start their write, and BLK_READ answers what the owner reads (R31, R39, R92, R97, R118).
The key-value commands of a ring on this array: KV_PUT and KV_DELETE start their write, and KV_GET answers what the owner reads (R92, R334, R340).
Where the spec leaves a choice, the model's own is stated: log entries 48, 49, 52 and 55. -/
def Obligations.RingBlockAndKeyCommandsRun : Prop :=
  (∀ (s : State) (r q : Nat) (e : SubEntry), s.subFor r q 0x00 = some e → fieldsOk e false false false false false false 0 = true →
    Completes (.nop r q) s (fun t => s.RingEnds t r q STS_OK ∧ t.regs = s.regs ∧ t.ops = s.ops)) ∧
  (∀ (s : State) (r q : Nat) (e : SubEntry), s.subFor r q 0x03 = some e → fieldsOk e false false false false false false 0 = true →
    e.nsid = 0 →
    Completes (.flush r q) s (fun t => s.RingEnds t r q STS_OK ∧ t.regs = s.regs ∧ t.ops = s.ops)) ∧
  (∀ (s : State) (r q d : Nat) (e : SubEntry) (n : Ns), s.subFor r q 0x01 = some e →
    fieldsOk e true false true true false true 0 = true → s.ringNs r e.nsid false = .inr n →
    rangeStatus n e.offset (e.len + 1) 1024 = none →
    Completes (.blkWrite r q (some d)) s (fun t => t.nextOp = s.nextOp + 1 ∧ t.regs = s.regs ∧
      ∃ o, t.ops.look s.nextOp = some o ∧ o.kind = .block ∧ o.nsid = e.nsid ∧ o.lba = e.offset ∧ o.blocks = e.len + 1 ∧
        o.data = blocksOf d (e.len + 1) ∧ o.stage = .submitted ∧ o.src = .ring r q)) ∧
  (∀ (s : State) (r q : Nat) (e : SubEntry) (n : Ns), s.subFor r q 0x04 = some e →
    fieldsOk e false false true true false false 0 = true → s.ringNs r e.nsid false = .inr n →
    rangeStatus n e.offset (e.len + 1) (2 ^ 32) = none →
    Completes (.deallocate r q) s (fun t => t.nextOp = s.nextOp + 1 ∧ t.regs = s.regs ∧
      ∃ o, t.ops.look s.nextOp = some o ∧ o.kind = .dealloc ∧ o.nsid = e.nsid ∧ o.lba = e.offset ∧ o.blocks = e.len + 1 ∧
        o.stage = .submitted ∧ o.src = .ring r q)) ∧
  (∀ (s : State) (r q : Nat) (e : SubEntry) (n : Ns), s.subFor r q 0x02 = some e →
    fieldsOk e true false true true false false 0 = true → s.ringNs r e.nsid false = .inr n →
    rangeStatus n e.offset (e.len + 1) 1024 = none → s.ServesRead (.ring r q) e.nsid (.blocks e.offset (e.len + 1)) →
    Completes (.blkRead r q true) s (fun t =>
      s.RingEnds t r q (s.readNow e.nsid (.blocks e.offset (e.len + 1))).status ∧ t.map = s.map)) ∧
  (∀ (s : State) (r q l v : Nat) (e : SubEntry) (n : Ns), s.subFor r q 0x10 = some e → e.len ≤ 33554432 →
    fieldsOk e true true false true false true (subKvSpec e 3) = true → ¬ (bitAt e.spec 8 = true ∧ bitAt e.spec 9 = true) →
    1 ≤ subKeyLen e → (subKeyLen e ≤ 16 → e.addr1 = 0 ∧ e.sgl1 = false) → s.ringNs r e.nsid true = .inr n →
    s.KeyHere e.nsid (subKey e l) (subKeyLen e) →
    Completes (.kvPut r q (some l) (some v)) s (fun t => t.nextOp = s.nextOp + 1 ∧ t.regs = s.regs ∧
      ∃ o, t.ops.look s.nextOp = some o ∧ o.kind = .kvPut ∧ o.nsid = e.nsid ∧ o.key = subKey e l ∧ o.keyLen = subKeyLen e ∧
        o.valueLen = e.len ∧ o.ifAbsent = bitAt e.spec 8 ∧ o.ifPresent = bitAt e.spec 9 ∧ o.stage = .submitted)) ∧
  (∀ (s : State) (r q l : Nat) (e : SubEntry) (n : Ns), s.subFor r q 0x12 = some e →
    fieldsOk e false true false false false false (subKvSpec e 2) = true →
    1 ≤ subKeyLen e → (subKeyLen e ≤ 16 → e.addr1 = 0 ∧ e.sgl1 = false) → s.ringNs r e.nsid true = .inr n →
    s.KeyHere e.nsid (subKey e l) (subKeyLen e) →
    Completes (.kvDelete r q (some l)) s (fun t => t.nextOp = s.nextOp + 1 ∧ t.regs = s.regs ∧
      ∃ o, t.ops.look s.nextOp = some o ∧ o.kind = .kvDelete ∧ o.nsid = e.nsid ∧ o.key = subKey e l ∧ o.keyLen = subKeyLen e ∧
        o.stage = .submitted)) ∧
  (∀ (s : State) (r q l : Nat) (e : SubEntry) (n : Ns), s.subFor r q 0x11 = some e →
    fieldsOk e true true false true false false (subKvSpec e 0) = true →
    1 ≤ subKeyLen e → (subKeyLen e ≤ 16 → e.addr1 = 0 ∧ e.sgl1 = false) → s.ringNs r e.nsid true = .inr n →
    s.KeyHere e.nsid (subKey e l) (subKeyLen e) →
    s.ServesRead (.ring r q) e.nsid (.get (subKey e l) (subKeyLen e) e.len) →
    Completes (.kvGet r q (some l) true false) s (fun t =>
      s.RingEnds t r q (s.readNow e.nsid (.get (subKey e l) (subKeyLen e) e.len)).status ∧ t.map = s.map))

/-- The jobs of a ring: what COMPRESS, DECOMPRESS without a header, CIPHER and HASH end with (R219 to R222, R227 to R233).
The key commands (R233 to R237, R239).
Where the spec leaves a choice, the model's own is stated: log entries 94, 98, 100, 101 and 103 to 106. -/
def Obligations.RingJobsAndKeyCommandsRun : Prop :=
  (∀ (s : State) (r q v : Nat) (e : SubEntry), s.enabled Blk.CMP = true → s.subFor r q 0x20 = some e → e.nsid = 0 → compressOk e = true →
    Completes (.compress r q (some v) true) s (fun t => t.regs = s.regs ∧ s.RingEnds t r q
      (if (compressRun (e.len / 65536 + 1) (e.offset / 65536) e (v % 2 ^ (8 * e.len)) e.offset []).2.2 = true then STS_OK
       else STS_OUTPUT_EXHAUSTED))) ∧
  (∀ (s : State) (r q v : Nat) (e : SubEntry), s.enabled Blk.CMP = true → s.subFor r q 0x21 = some e → e.nsid = 0 →
    decompressOk e = true → jobHeader e = false → jobContinue e = false →
    Completes (.decompress r q (some v) true) s (fun t => s.RingEnds t r q
      (if e.dw3 < (Config.decoded (jobFormat e) (v % 2 ^ (8 * e.len)) e.len).length then STS_OUTPUT_EXHAUSTED
       else if Config.decodedOk (jobFormat e) (v % 2 ^ (8 * e.len)) e.len = true then STS_OK else STS_STREAM_INVALID))) ∧
  (∀ (s : State) (r q v k : Nat) (e : SubEntry), s.enabled Blk.CIP = true → s.admittedPend Blk.CIP = false →
    s.subFor r q 0x22 = some e → e.nsid = 0 → cipherOk e = true →
    s.keyRefuses (cipSlot e) (some (s.ringTenant r)) (cipMode e) (cipDir e) = none →
    Completes (.cipher r q (some v) true k) s (fun t => t.cip.slots = s.cip.slots ∧ s.RingEnds t r q
      (if (cipherRun (s.keyOf (cipSlot e)) e (bytesLE v (cipherInput e))).2 = true then STS_OK else STS_AUTH_FAIL))) ∧
  (∀ (s : State) (r q v : Nat) (e : SubEntry), s.enabled Blk.DDP = true → s.subFor r q 0x23 = some e → e.nsid = 0 →
    fieldsOk e true (!bitAt e.spec 0) false true false false 1 = true →
    Completes (.hash r q (some v) true) s (fun t => t.regs = s.regs ∧ ∃ c l, (t.ring r).ready = (s.ring r).ready ++ c :: l ∧ c.sub = q ∧
      c.status = STS_OK ∧ c.result0 = if bitAt e.spec 0 = true then crc32c (bytesLE v e.len) else 0)) ∧
  (∀ (s : State) (target kek len : Nat) (pad : Bool), s.rdb Fld.CIP_KEY_RESULT_BUSY = false →
    s.rd Fld.CIP_SLOT_STATE_STATE (target % 16384) = keyEmpty →
    Completes (.keyUnwrapSlot target kek pad len) s (fun t => t.rd Fld.CIP_KEY_RESULT_DONE = 1 ∧ t.cip.keks = s.cip.keks ∧
      match s.unwrap false (kek % 64) pad len (s.rd Fld.CIP_KEY_BLOB) with
      | .inr k => t.cip.slots.look (target % 16384) = some k ∧ t.rd Fld.CIP_SLOT_STATE_STATE (target % 16384) = keyLoaded ∧
          t.rd Fld.CIP_SLOT_STATE_TENANT (target % 16384) = k.tenant % 2 ^ Fld.CIP_SLOT_STATE_TENANT.width ∧
          t.rd Fld.CIP_KEY_RESULT_STATUS = STS_OK
      | .inl st => t.cip = s.cip ∧ t.rd Fld.CIP_SLOT_STATE_STATE (target % 16384) = keyEmpty ∧ t.rd Fld.CIP_ERR_UNWRAP_FAIL = 1 ∧
          t.rd Fld.CIP_KEY_RESULT_STATUS = st % 2 ^ Fld.CIP_KEY_RESULT_STATUS.width)) ∧
  (∀ (s : State) (target kek len : Nat) (pad : Bool), s.rdb Fld.CIP_KEY_RESULT_BUSY = false → target % 64 ≠ 0 →
    s.cip.keks.has (target % 64) = false →
    Completes (.keyUnwrapKek target kek pad len) s (fun t => t.rd Fld.CIP_KEY_RESULT_DONE = 1 ∧ t.cip.slots = s.cip.slots ∧
      match s.unwrap true (kek % 64) pad len (s.rd Fld.CIP_KEY_BLOB) with
      | .inr k => t.cip.keks.look (target % 64) = some k ∧ t.rd Fld.CIP_KEK_STATE_STATE (target % 64) = 1 ∧
          t.rd Fld.CIP_KEK_STATE_TENANT (target % 64) = k.tenant % 2 ^ Fld.CIP_KEK_STATE_TENANT.width ∧
          t.rd Fld.CIP_KEY_RESULT_STATUS = STS_OK
      | .inl st => t.cip = s.cip ∧ t.rd Fld.CIP_ERR_UNWRAP_FAIL = 1 ∧
          t.rd Fld.CIP_KEY_RESULT_STATUS = st % 2 ^ Fld.CIP_KEY_RESULT_STATUS.width)) ∧
  (∀ (s : State) (target : Nat), s.rdb Fld.CIP_KEY_RESULT_BUSY = false → s.rd Fld.CIP_SLOT_STATE_STATE (target % 16384) = keyLoaded →
    s.keyBound (target % 16384) = false →
    Completes (.keyEraseSlot target) s (fun t => t.rd Fld.CIP_SLOT_STATE_STATE (target % 16384) = keyErasing ∧
      t.rd Fld.CIP_KEY_RESULT_BUSY = 1 ∧ t.cip = s.cip)) ∧
  (∀ (s : State) (target : Nat), s.rdb Fld.CIP_KEY_RESULT_BUSY = false → target % 64 ≠ 0 →
    Completes (.keyEraseKek target) s (fun t => t.cip.keks.look (target % 64) = none ∧ t.rd Fld.CIP_KEK_STATE_STATE (target % 64) = 0 ∧
      t.rd Fld.CIP_KEY_RESULT_STATUS = STS_OK ∧ t.cip.slots = s.cip.slots)) ∧
  (∀ (s : State) (slot : Nat), slot < 16384 → s.rd Fld.CIP_SLOT_STATE_STATE slot = keyErasing →
    Completes (.keyEraseEnd slot) s (fun t => t.rd Fld.CIP_SLOT_STATE_STATE slot = keyEmpty ∧ t.cip.slots.look slot = none ∧
      t.rd Fld.CIP_KEY_RESULT_BUSY = 0 ∧ t.rd Fld.CIP_KEY_RESULT_STATUS = STS_OK)) ∧
  (∀ (s : State) (slot : Nat), slot < 16384 → s.rd Fld.CIP_SLOT_STATE_STATE slot = keyLoaded →
    Completes (.keyStoreFault slot) s (fun t => t.rd Fld.CIP_SLOT_STATE_STATE slot = keyEmpty ∧ t.cip.slots.look slot = none ∧
      t.rd Fld.CIP_ERR_STORE_FAIL = 1 ∧ t.rd Fld.CIP_ERR_INFO_SLOT = slot))

/-- A write that the head owns arrives, and takes the journal path: its ACCEPT record is issued with the next write sequence of its PG (R24, R25, R34, R37, R38).
Records become persistent, are mirrored, acknowledged, stamped and copied forward (R25, R26, R179, R181, R183, R184).
Where the spec leaves a choice, the model's own is stated: log entries 115 and 116. -/
def Obligations.WritesTakeTheJournalPathAndMoveOn : Prop :=
  (∀ (s : State) (o : Nat) (x : WriteOp) (a : StripeAt) (l : List Nat), s.ops.look o = some x → x.stage = .submitted → x.arrival = 0 →
    x.kind = .block → s.deferGate x.src x.nsid = none → s.nvf.xfers = [] → s.setState (s.nsOf x).oset = setOwned →
    s.writeProtected x = false → s.ops.all (fun e => e.1 == o || e.2.accepted || !e.2.overlaps x) = true →
    s.snp.heldNs.mem x.nsid = false → (s.map.sets.look (s.nsOf x).oset).any (fun m => m.recovering) = false →
    x.reserveFor (s.pg x.pg) ≤ s.pgRoom (s.pg x.pg) → s.pgs.has x.pg = true → s.admittedPend Blk.PJM = false →
    x.payload ≤ s.rd Fld.PJM_JCFG_THRESH_4K * 4096 → s.journalOpen = true → s.journalRoom x.acceptUnits = true →
    Completes (.writeArrival o a l) s (fun t => ∃ y r, t.ops.look o = some y ∧ y.stage = .journal ∧ y.jseq = s.nextJseq ∧
      y.wseq = (s.pg x.pg).wseq + 1 ∧ y.reserve = x.reserveFor (s.pg x.pg) ∧ t.pjm.recs.look s.nextJseq = some r ∧ r.body = .accept o ∧
      r.len64 = x.acceptUnits ∧ (t.pg x.pg).reserved = (s.pg x.pg).reserved + x.reserveFor (s.pg x.pg))) ∧
  (∀ (s : State) (j : Nat) (r : PjmRec), s.pjm.recs.look j = some r → r.held = false → r.localOk = false → r.mirrorOk = false →
    s.partnerPjm = true →
    Completes (.pjmRecordPersist false j) s (fun t => t.pjm.recs.look j = some { r with localOk := true } ∧ t.ops = s.ops ∧ t.regs = s.regs)) ∧
  (∀ (s : State) (j : Nat) (m : MirrorRec), s.pjm.mirror.look j = some m → m.persistent = false → s.linkUp = true →
    (∀ h e r, m.body ≠ .deferred h e r) →
    Completes (.pjmRecordPersist true j) s (fun t => t.pjm.mirror.look j = some { m with persistent := true } ∧
      .isl 1 (.mirrorAck j) ∈ t.out ∧ t.pjm.recs = s.pjm.recs)) ∧
  (∀ (s : State) (j : Nat) (m : MirrorRec), s.pjm.refuseMirror = false → s.chanIn m.chan = true →
    Completes (.mirrorRecordReceive j m) s (fun t => t.pjm.mirror.look j = some { m with persistent := false } ∧ t.regs = s.regs)) ∧
  (∀ (s : State) (j : Nat) (r : PjmRec), s.pjm.recs.look j = some r → r.mirrorSent = true → r.mirrorOk = false → r.localOk = false →
    s.partnerPjm = true →
    Completes (.mirrorAckReceive j) s (fun t => t.pjm.recs.look j = some { r with mirrorOk := true } ∧ t.ops = s.ops ∧ t.regs = s.regs)) ∧
  (∀ (s : State) (j : Nat) (r : PjmRec), s.pjm.recs.look j = some r → r.held = false → r.live = true → s.recPersistent r = false →
    s.pickChanBut (some r.chan) = none →
    Completes (.pjmWriteFail j false) s (fun t => t.rd Fld.PJM_ERR_HELD = 1 ∧
      t.pjm.recs.look j = some { r with held := true, localOk := false, mirrorOk := false })) ∧
  (∀ (s : State) (j c : Nat) (r : PjmRec), s.pjm.recs.look j = some r → r.held = false → r.live = true → s.recPersistent r = false →
    s.pickChanBut (some r.chan) = some c → (s.chan c).headOff + r.len64 ≤ s.logUnits →
    Completes (.pjmWriteFail j false) s (fun t => (t.chan c).headOff = (s.chan c).headOff + r.len64 ∧ t.regs = s.regs ∧
      ∃ x, t.pjm.recs.look j = some x ∧ x.chan = c ∧ x.off = (s.chan c).headOff ∧ x.body = r.body ∧ x.orig = r.orig)) ∧
  (∀ (s : State) (t0 : Nat), s.pjm.stampSince = some t0 → s.pjm.stamps ≠ [] → s.admittedPend Blk.PJM = false → s.aon.leaseEnd = none →
    Completes .stampRecordTimer s (fun t => t.pjm.stamps = s.pjm.stamps.drop 240 ∧
      ∃ r, t.pjm.recs.look s.nextJseq = some r ∧ r.body = .stamp (s.pjm.stamps.take 240))) ∧
  (∀ (s : State) (j c o : Nat) (r : PjmRec), s.pjm.recs.look j = some r → r.body = .accept o → r.live = true → r.held = false →
    r.localOk = true → (s.chan r.chan).tailOff ≤ r.off → (r.off - (s.chan r.chan).tailOff) * 8 < s.chanSpan r.chan →
    s.pickChan = some c → (s.chan c).headOff + r.len64 ≤ s.logUnits → j ≠ s.nextJseq →
    Completes (.recordCopyForward j) s (fun t => ∃ x, t.pjm.recs.look s.nextJseq = some x ∧ x.copy = true ∧ x.live = true ∧
      x.orig = r.orig ∧ x.chan = c ∧ x.off = (s.chan c).headOff ∧ ∀ y, t.pjm.recs.look j = some y → y.live = false))

/-- Anchors, failed and repaired channels, and the replay of the journal (R33, R174, R182, R190, R191).
Buffer stripes close, member pages pass, completions that waited leave, deferred errors are recorded, and accepted data is destaged (R28, R51, R68, R195, R203, R300).
Where the spec leaves a choice, the model's own is stated: log entries 83, 84, 92, 93 and 115. -/
def Obligations.JournalReplaysAndDestages : Prop :=
  (∀ (s : State) (c t0 : Nat), (s.chan c).tailMoved = some t0 → s.chanIn c = true → 16384 ≤ (s.chan c).tailUnits →
    Completes (.anchorWrite c) s (fun t => (t.chan c).tailMoved = none ∧ (t.chan c).tailUnits = 0 ∧ t.regs = s.regs ∧
      max (t.chan c).anchor0.aseq (t.chan c).anchor1.aseq = max (s.chan c).anchor0.aseq (s.chan c).anchor1.aseq + 1)) ∧
  (∀ (s : State) (c : Nat), c < 8 → s.rd Fld.PJM_CH_STATUS_STATE c = chanInService → s.pjm.recs.all (fun e => e.2.chan != c) = true →
    Completes (.pjmChannelFail c) s (fun t => t.rd Fld.PJM_CH_STATUS_STATE c = chanFailed ∧ t.rd Fld.PJM_ERR_CH_FAIL = 1 ∧
      t.rd Fld.PJM_ERR_INFO_CHANNEL = c ∧ t.pjm = s.pjm)) ∧
  (∀ (s : State) (c : Nat), c < 8 → s.rd Fld.PJM_CH_STATUS_STATE c = chanFailed →
    Completes (.pjmChCmd c) s (fun t => t.rd Fld.PJM_CH_STATUS_STATE c = chanCatchUp ∧ t.pjm.repairing.mem c = true ∧
      (t.chan c).headOff = 64 ∧ (t.chan c).nextCseq = (s.chan c).nextCseq ∧
      t.pjm.mirror = s.pjm.mirror.keep (fun _ m => m.chan != c))) ∧
  (∀ (s : State) (mirrorBad : List Nat), s.ops = [] → s.partnerPjm = false → (∀ c, (s.chan c).ueTimes.length < 16) →
    Completes (.pjmReplay true [] mirrorBad false) s (fun t => t.regs = s.regs ∧ t.map = s.map ∧
      t.pjm.recs = (s.pjm.recs.keep (fun j r => r.localOk || (r.mirrorOk && !mirrorBad.contains j))).mapVal
        (fun j r => { r with mirrorOk := r.mirrorOk && !mirrorBad.contains j }))) ∧
  (∀ (s : State) (k : Nat) (y : Stripe), s.stripe k = some y → y.kind = .buffer → y.full = false → y.ops ≠ [] → s.awaitsIntent y = false →
    Completes (.bufferStripeClose k true) s (fun t => t.stripe k = some { y with full := true } ∧ .program k y.members ∈ t.out ∧
      t.regs = s.regs ∧ t.ops = s.ops)) ∧
  (∀ (s : State) (k m : Nat) (y : Stripe) (a : StripeAt) (l : List Nat), s.stripe k = some y → y.passed.mem m = false →
    y.failed = [] → y.void.mem m = false → m < y.d + y.p → s.chanLooped (blockOfMember s k m % 128) = false → y.kind = .reloc →
    Completes (.pageProgramDone k m true a l) s (fun t => t.ops = s.ops ∧ t.regs = s.regs ∧ t.stripe k = some { y with
      passed := y.passed.insert m,
      st := if Stripe.allPassed { y with passed := y.passed.insert m } = true then .closed else y.st })) ∧
  (∀ (s : State) (o r q k : Nat) (u : Sub) (x : WriteOp), s.ops.look o = some x → s.mayRelease x = true → x.src = .ring r q →
    (s.ring r).subOf q = some (k, u) →
    Completes (.commitWaitRelease o) s (fun t => s.RingEnds t r q STS_OK ∧ ∀ y, t.ops.look o = some y → y.released = true)) ∧
  (∀ (s : State) (nsid slba nlb fn : Nat), s.hostsOf nsid = [.function fn] → (s.deferredOf (.function fn) nsid).length < 16 →
    s.admittedPend Blk.PJM = false →
    Completes (.deferredErrorRecord false nsid slba nlb 0 0 0) s (fun t => t.deferredOf (.function fn) nsid =
      s.deferredOf (.function fn) nsid ++
        [⟨STS_LOST_EXTENT, false, nsid, slba, nlb, 0, 0, 0, s.ctNs⟩])) ∧
  (∀ (s : State) (o : Nat) (x : WriteOp) (a : StripeAt) (l : List Nat), s.ops.look o = some x → x.accepted = true →
    x.programmed = false → x.span = false → s.map.destages.has o = false → s.setState (s.nsOf x).oset = setOwned →
    s.admittedPend Blk.STR = false → s.admittedPend Blk.DDP = false → s.admittedPend Blk.CMP = false → s.admittedPend Blk.PJM = false →
    Completes (.destage o a l) s (fun t => t.ops.has o = true ∧
      ∃ d, t.map.destages.look o = some d ∧ d.op = o ∧ d.direct = false ∧ d.stripe = a.id))

/-- Ports count what arrives, obey and watch priority pauses, and follow their links (R107 to R110).
TCP connections open, take their segments in order, resend and reset (R112, R113, Table 05.2).
Where the spec leaves a choice, the model's own is stated: log entries 66 to 68. -/
def Obligations.PortsAndTcpConnectionsRun : Prop :=
  (∀ (s : State) (n bytes prio occ fec : Nat) (ce : Bool), s.portOn n = true → s.admittedPend Blk.NET = false → prio < 8 →
    bytes ≤ s.rd Fld.NET_PORT_CFG_MTU n →
    Completes (.netFrameReceive n bytes prio occ ce fec) s (fun t => (t.port n).occ.look prio = some occ ∧
      (t.port n).oversize = (s.port n).oversize ∧ t.net.tcp = s.net.tcp)) ∧
  (∀ (s : State) (n bytes prio occ : Nat) (ce : Bool), s.portOn n = true → s.admittedPend Blk.NET = false →
    s.rd Fld.NET_PORT_CFG_MTU n < bytes →
    Completes (.netFrameReceive n bytes prio occ ce 0) s (fun t => (t.port n).oversize = (s.port n).oversize + 1 ∧
      (t.port n).occ = (s.port n).occ ∧ t.rd Fld.NET_ERR_OVERSIZE = 1)) ∧
  (∀ (s : State) (n prio : Nat), s.portOn n = true → bitAt (s.rd Fld.NET_PFC_EN_MASK n) prio = true → prio < 8 →
    bitAt (s.rd Fld.NET_PORT_STATUS_PAUSED n) prio = false →
    Completes (.pfcFrameReceive n prio true) s (fun t => (t.port n).pausedSince.look prio = some s.now ∧
      t.rd Fld.NET_PORT_STATUS_PAUSED n = setBit (s.rd Fld.NET_PORT_STATUS_PAUSED n) prio % 2 ^ 8)) ∧
  (∀ (s : State) (n prio : Nat), s.portOn n = true → bitAt (s.rd Fld.NET_PFC_EN_MASK n) prio = true → prio < 8 →
    Completes (.pfcFrameReceive n prio false) s (fun t => (t.port n).pausedSince = (s.port n).pausedSince.del prio ∧
      t.rd Fld.NET_PORT_STATUS_PAUSED n = clrBit (s.rd Fld.NET_PORT_STATUS_PAUSED n) prio % 2 ^ 8)) ∧
  (∀ (s : State) (n prio t0 : Nat), n < 32 → (s.port n).pausedSince.look prio = some t0 → s.rd Fld.NET_PFC_WDOG_US n ≠ 0 →
    s.aon.leaseEnd = none →
    Completes (.pfcWatchdogExpiry n prio) s (fun t => t.rd Fld.NET_ERR_PFC_STORM = 1 ∧ t.rd Fld.NET_ERR_PORT_PORT = n ∧
      t.now = max s.now (t0 + s.rd Fld.NET_PFC_WDOG_US n * unitsPerUs) ∧ t.net.tcp = s.net.tcp ∧
      (t.port n).pausedSince = (s.port n).pausedSince.del prio)) ∧
  (∀ (s : State) (n : Nat), s.portOn n = true →
    Completes (.portLinkChange n true) s (fun t => t.rd Fld.NET_PORT_STATUS_UP n = 1 ∧
      t.rd Fld.NET_STATUS_PORT_UP = setBit (s.rd Fld.NET_STATUS_PORT_UP) n % 2 ^ 32 ∧ t.net = s.net)) ∧
  (∀ (s : State) (n : Nat), n < 32 → bitAt (s.rd Fld.NET_STATUS_PORT_UP) n = true →
    Completes (.portLinkChange n false) s (fun t => t.rd Fld.NET_PORT_STATUS_UP n = 0 ∧ t.rd Fld.NET_PORT_STATUS_PAUSED n = 0 ∧
      t.rd Fld.NET_ERR_LINK_DOWN = 1 ∧ (t.port n).occ = [] ∧ t.net.tcp = s.net.tcp)) ∧
  (∀ (s : State) (l isn ws mss : Nat) (e k o : Bool), s.listens l = true → s.net.tcp.length < s.rd Fld.NET_TCP_CFG_MAX_CONN →
    Completes (.tcpSyn l isn e k o ws mss) s (fun t => .tcpSynAck s.net.tcp.fresh ∈ t.out ∧
      ∃ x, t.net.tcp.look s.net.tcp.fresh = some x ∧ x.st = .synReceived ∧ x.listener = l ∧ x.rcvNxt = (isn + 1) % 2 ^ 32 ∧
        x.wscale = min ws 14)) ∧
  (∀ (s : State) (c seq len : Nat) (ce : Bool) (x : Tcp), s.net.tcp.look c = some x → 1 ≤ len → seq % 2 ^ 32 = x.rcvNxt → x.st ≠ .closing →
    Completes (.tcpSegmentReceive c seq len none false false ce) s (fun t => t.regs = s.regs ∧
      .tcpAck c ((x.rcvNxt + len) % 2 ^ 32) (x.ecn && ce) ∈ t.out ∧
      t.net.tcp.look c = some { x with rcvNxt := (x.rcvNxt + len) % 2 ^ 32, ece := x.ecn && ce })) ∧
  (∀ (s : State) (c seq a : Nat) (x : Tcp), s.net.tcp.look c = some x → x.st = .synReceived → x.ackNew a = true →
    Completes (.tcpSegmentReceive c seq 0 (some a) false false false) s (fun t => t.regs = s.regs ∧
      t.net.tcp.look c = some { x with st := .established, sndUna := a % 2 ^ 32, retx := 0, ece := false })) ∧
  (∀ (s : State) (c : Nat) (x : Tcp), s.net.tcp.look c = some x → x.sndUna ≠ x.sndNxt → x.retx < 8 →
    Completes (.tcpRtoExpiry c) s (fun t => t.net.tcp.look c = some { x with retx := x.retx + 1 } ∧ .tcpResend c x.sndUna ∈ t.out ∧
      t.regs = s.regs))

/-- Connect makes an association with its admin queue, or a further I/O queue; Disconnect and the end of the keep-alive period take them away (R114, R116, R117).
The admin commands of an association (R117, R123 to R125, R128, Table 05.3).
Where the spec leaves a choice, the model's own is stated: log entries 56 to 63. -/
def Obligations.AssociationsAndAdminCommands : Prop :=
  (∀ (s : State) (tr : QTrans) (host tenant size kato cid : Nat), s.admittedPend Blk.NVF = false → s.rdb Fld.NVF_CTRL_ENABLE = true →
    s.transFree tr = true → s.queueSizeOk size = true → s.nvf.assocs.length < s.rd Fld.NVF_LIMITS_MAX_ASSOC →
    Completes (.nvmeConnect tr none host tenant size kato cid) s (fun t =>
      t.nvf.queues.look s.nvf.queues.fresh = some ⟨s.nvf.assocs.fresh, 0, tr, size, [], 0⟩ ∧ s.NvmeEnds t s.nvf.queues.fresh cid STS_OK ∧
      ∃ y, t.assoc s.nvf.assocs.fresh = some y ∧ y.host = host ∧ y.tenant = tenant ∧ y.kato = kato ∧ y.adminQ = s.nvf.queues.fresh)) ∧
  (∀ (s : State) (tr : QTrans) (a host tenant size kato cid : Nat) (y : NvAssoc), s.admittedPend Blk.NVF = false →
    s.rdb Fld.NVF_CTRL_ENABLE = true → s.transFree tr = true → s.queueSizeOk size = true → s.assoc a = some y →
    (s.nvf.queues.filter (fun e => e.2.assoc == a && e.2.qid != 0)).length < s.rd Fld.NVF_LIMITS_MAX_IOQ →
    Completes (.nvmeConnect tr (some a) host tenant size kato cid) s (fun t => s.NvmeEnds t s.nvf.queues.fresh cid STS_OK ∧
      ∃ x, t.queue s.nvf.queues.fresh = some x ∧ x.assoc = a ∧ x.qid ≠ 0 ∧ x.trans = tr ∧ t.nvf.assocs = s.nvf.assocs)) ∧
  (∀ (s : State) (q cid : Nat) (x : NvQueue), s.queue q = some x → x.qid ≠ 0 →
    Completes (.nvmeDisconnect q cid) s (fun t => t.queue q = none ∧ t.nvf.assocs = s.nvf.assocs)) ∧
  (∀ (s : State) (q cid : Nat) (x : NvQueue), s.queue q = some x → x.qid = 0 →
    Completes (.nvmeDisconnect q cid) s (fun t => t.assoc x.assoc = none)) ∧
  (∀ (s : State) (a t0 : Nat) (y : NvAssoc), s.assoc a = some y → y.kaEnd = some t0 → s.aon.leaseEnd = none →
    Completes (.keepAliveExpiry a) s (fun t => t.assoc a = none ∧ t.rd Fld.NVF_ERR_KATO_EXPIRED = 1 ∧ t.now = max s.now t0)) ∧
  (∀ (s : State) (q cid a off : Nat) (x : NvQueue) (y : NvAssoc), s.AdminQ q a x y →
    Completes (.nvmePropertyGet q cid off) s (fun t => s.NvmeEnds t q cid STS_OK ∧ .nvmeData q cid [s.property y off] ∈ t.out ∧
      t.regs = s.regs)) ∧
  (∀ (s : State) (q cid a v : Nat) (x : NvQueue) (y : NvAssoc), s.AdminQ q a x y →
    Completes (.nvmePropertySet q cid 0x14 v) s (fun t => s.NvmeEnds t q cid STS_OK ∧ t.assoc a = some { y with cc := v % 2 ^ 32 })) ∧
  (∀ (s : State) (q cid a cns nsid : Nat) (x : NvQueue) (y : NvAssoc), s.AdminQ q a x y →
    Completes (.nvmeIdentify q cid cns nsid) s (fun t => s.NvmeEnds t q cid STS_OK ∧
      .nvmeData q cid [s.identifyData cns nsid] ∈ t.out)) ∧
  (∀ (s : State) (q cid a nsid : Nat) (rae : Bool) (x : NvQueue) (y : NvAssoc), s.AdminQ q a x y →
    Completes (.nvmeGetLogPage q cid 0xC0 nsid rae) s (fun t => s.NvmeEnds t q cid STS_OK ∧
      .nvmeData q cid [deferredPage nsid (s.deferredOf (.nqn y.host) nsid)] ∈ t.out ∧ t.nvf.deferred = s.nvf.deferred)) ∧
  (∀ (s : State) (q cid a nsid : Nat) (rae : Bool) (x : NvQueue) (y : NvAssoc), s.AdminQ q a x y →
    Completes (.nvmeGetLogPage q cid 0x0C nsid rae) s (fun t => s.NvmeEnds t q cid STS_OK ∧
      .nvmeData q cid [s.anaPage] ∈ t.out)) ∧
  (∀ (s : State) (q cid a fid v : Nat) (x : NvQueue) (y : NvAssoc), s.AdminQ q a x y → fid ≠ 0x0F →
    Completes (.nvmeSetFeatures q cid fid v) s (fun t => s.NvmeEnds t q cid STS_OK ∧
      t.assoc a = some { y with features := y.features.put fid v })) ∧
  (∀ (s : State) (q cid a fid : Nat) (x : NvQueue) (y : NvAssoc), s.AdminQ q a x y → fid ≠ 0x0F → fid ≠ 0x07 →
    Completes (.nvmeGetFeatures q cid fid) s (fun t => t.nvf.assocs = s.nvf.assocs ∧
      t.out = .nvmeCpl q cid STS_OK 0 0 (y.features.getD fid (Config.nvmeFeature fid)) false :: s.out)) ∧
  (∀ (s : State) (q cid a : Nat) (x : NvQueue) (y : NvAssoc), s.AdminQ q a x y → y.anaNotice = false →
    (s.nvf.hosts.getD y.host ⟨false, false⟩).pendingEvent = false →
    Completes (.nvmeAsyncEventRequest q cid) s (fun t => t.out = s.out ∧ t.assoc a = some { y with aers := y.aers ++ [cid] })) ∧
  (∀ (s : State) (q cid a : Nat) (x : NvQueue) (y : NvAssoc), s.AdminQ q a x y →
    Completes (.nvmeKeepAlive q cid) s (fun t => s.NvmeEnds t q cid STS_OK ∧ t.assoc a = some { y with kaEnd := s.kaFrom y.kato })) ∧
  (∀ (s : State) (q cid a : Nat) (x : NvQueue) (y : NvAssoc), s.AdminQ q a x y →
    Completes (.nvmeAbort q cid) s (fun t => t.nvf = s.nvf ∧ t.out = .nvmeCpl q cid STS_OK 0 0 1 false :: s.out))

/-- The block commands of an I/O queue (R32, R39, R45, R115, R118, R119).
The key-value commands of an I/O queue (R130, R340, R345).
Where the spec leaves a choice, the model's own is stated: log entries 60, 61, 64 and 65. -/
def Obligations.NvmeIoCommandsRun : Prop :=
  (∀ (s : State) (q cid dw nsid lba blocks : Nat) (x : NvQueue) (y : NvAssoc) (n : Ns), s.IoQ q cid nsid x y n false →
    rangeStatus n lba blocks 1024 = none → s.ops.all (fun e => e.2.src != .nvme q cid) = true →
    s.ServesRead (.nvme q cid) nsid (.blocks lba blocks) →
    Completes (.nvmeRead q cid dw nsid lba blocks true) s (fun t => s.NvmeEnds t q cid (s.readNow nsid (.blocks lba blocks)).status ∧
      t.map = s.map ∧ t.ops = s.ops)) ∧
  (∀ (s : State) (q cid dw nsid lba blocks icd data : Nat) (fua : Bool) (x : NvQueue) (y : NvAssoc) (n : Ns),
    s.IoQ q cid nsid x y n false → rangeStatus n lba blocks 1024 = none → 4096 * blocks ≤ icd →
    Completes (.nvmeWrite q cid dw nsid lba blocks fua icd data) s (fun t => t.nextOp = s.nextOp + 1 ∧ t.nvf.xfers = s.nvf.xfers ∧
      ∃ o, t.ops.look s.nextOp = some o ∧ o.kind = .block ∧ o.nsid = nsid ∧ o.lba = lba ∧ o.blocks = blocks ∧ o.fua = fua ∧
        o.src = .nvme q cid ∧ o.data = blocksOf (data % 2 ^ (8 * (4096 * blocks))) blocks)) ∧
  (∀ (s : State) (q cid dw nsid : Nat) (x : NvQueue) (y : NvAssoc) (n : Ns), s.IoQ q cid nsid x y n false → nsid ≠ 0xFFFFFFFF →
    s.ops.all (fun e => e.2.src != .nvme q cid) = true → s.ServesRead (.nvme q cid) nsid (.blocks 0 0) →
    Completes (.nvmeFlush q cid dw nsid) s (fun t => s.NvmeEnds t q cid STS_OK ∧ t.map = s.map)) ∧
  (∀ (s : State) (q cid dw : Nat) (x : NvQueue), s.queue q = some x → s.admittedPend Blk.NVF = false → (∀ w ∈ x.win, w.cid ≠ cid) →
    x.win.length < 1024 →
    Completes (.nvmeFlush q cid dw 0xFFFFFFFF) s (fun t => s.NvmeEnds t q cid STS_OK ∧ t.map = s.map)) ∧
  (∀ (s : State) (q cid dw nsid lba blocks : Nat) (x : NvQueue) (y : NvAssoc) (n : Ns), s.IoQ q cid nsid x y n false →
    rangeStatus n lba blocks 65536 = none →
    Completes (.nvmeWriteZeroes q cid dw nsid lba blocks) s (fun t => t.nextOp = s.nextOp + 1 ∧ t.out = s.out ∧
      ∃ o, t.ops.look s.nextOp = some o ∧ o.kind = .zeroes ∧ o.nsid = nsid ∧ o.lba = lba ∧ o.blocks = blocks ∧ o.src = .nvme q cid)) ∧
  (∀ (s : State) (q cid dw nsid : Nat) (r : Nat × Nat) (l : List (Nat × Nat)) (x : NvQueue) (y : NvAssoc) (n : Ns),
    s.IoQ q cid nsid x y n false → (r :: l).findSome? (fun r => rangeStatus n r.1 r.2 (2 ^ 32)) = none → l.length < 256 →
    Completes (.nvmeDsmDeallocate q cid dw nsid true (r :: l)) s (fun t => t.nextOp = s.nextOp + l.length + 1 ∧ t.out = s.out ∧
      ∃ o, t.ops.look s.nextOp = some o ∧ o.kind = .dealloc ∧ o.nsid = nsid ∧ o.lba = r.1 ∧ o.blocks = r.2 ∧ o.src = .nvme q cid)) ∧
  (∀ (s : State) (q cid : Nat) (x : NvQueue), s.queue q = some x → s.admittedPend Blk.NVF = false →
    Completes (.nvmeInvalidOpcode q cid) s (fun t => s.NvmeEnds t q cid STS_INVALID_OPCODE ∧ t.nvf = s.nvf)) ∧
  (∀ (s : State) (q cid dw nsid key len vlen icd data : Nat) (me mn : Bool) (x : NvQueue) (y : NvAssoc) (n : Ns),
    s.IoQ q cid nsid x y n true → 1 ≤ len → len ≤ 16 → vlen ≤ 4194304 → vlen ≤ icd → (me && mn) = false →
    Completes (.nvmeKvStore q cid dw nsid key len vlen me mn false icd data) s (fun t => t.nextOp = s.nextOp + 1 ∧ t.out = s.out ∧
      ∃ o, t.ops.look s.nextOp = some o ∧ o.kind = .kvPut ∧ o.nsid = nsid ∧ o.key = key ∧ o.keyLen = len ∧ o.valueLen = vlen ∧
        o.ifPresent = me ∧ o.ifAbsent = mn ∧ o.data = [data % 2 ^ (8 * vlen)])) ∧
  (∀ (s : State) (q cid dw nsid key len room : Nat) (x : NvQueue) (y : NvAssoc) (n : Ns), s.IoQ q cid nsid x y n true →
    1 ≤ len → len ≤ 16 → s.ops.all (fun e => e.2.src != .nvme q cid) = true → s.ServesRead (.nvme q cid) nsid (.get key len room) →
    Completes (.nvmeKvRetrieve q cid dw nsid key len room true) s (fun t =>
      s.NvmeEnds t q cid (s.readNow nsid (.get key len room)).status ∧ t.map = s.map)) ∧
  (∀ (s : State) (q cid dw nsid key len : Nat) (x : NvQueue) (y : NvAssoc) (n : Ns), s.IoQ q cid nsid x y n true → 1 ≤ len → len ≤ 16 →
    Completes (.nvmeKvDelete q cid dw nsid key len) s (fun t => t.nextOp = s.nextOp + 1 ∧ t.out = s.out ∧
      ∃ o, t.ops.look s.nextOp = some o ∧ o.kind = .kvDelete ∧ o.nsid = nsid ∧ o.key = key ∧ o.keyLen = len)) ∧
  (∀ (s : State) (q cid dw nsid key len : Nat) (x : NvQueue) (y : NvAssoc) (n : Ns), s.IoQ q cid nsid x y n true → 1 ≤ len → len ≤ 16 →
    s.ops.all (fun e => e.2.src != .nvme q cid) = true → s.ServesRead (.nvme q cid) nsid (.exist key len) →
    Completes (.nvmeKvExist q cid dw nsid key len) s (fun t =>
      s.NvmeEnds t q cid (s.readNow nsid (.exist key len)).status ∧ t.map = s.map)) ∧
  (∀ (s : State) (q cid dw nsid key len room : Nat) (x : NvQueue) (y : NvAssoc) (n : Ns), s.IoQ q cid nsid x y n true → len ≤ 16 →
    s.ops.all (fun e => e.2.src != .nvme q cid) = true → s.ServesRead (.nvme q cid) nsid (.list ⟨0, key, len, false, true, room⟩) →
    Completes (.nvmeKvList q cid dw nsid key len room true) s (fun t => s.NvmeEnds t q cid STS_OK ∧ t.map = s.map))

/-- The data of a write is granted, requested and received; forwarded commands complete; and changes of ANA states are noticed (R119, R120, R125, R126).
Where the spec leaves a choice, the model's own is stated: log entries 69 and 70. -/
def Obligations.NvmeTransfersRun : Prop :=
  (∀ (s : State) (c m : Nat) (h d : Bool) (x : Tcp), s.net.tcp.look c = some x → x.st = .established →
    Completes (.nvmeTcpIcreq c m h d) s (fun t => t.net.tcp.look c =
      some { x with maxR2t := m, hdgst := h && s.rdb Fld.NVF_TCP_OPT_HDGST, ddgst := d && s.rdb Fld.NVF_TCP_OPT_DDGST, ready := true })) ∧
  (∀ (s : State) (q cid bytes : Nat) (z : NvXfer) (l : Nat × Nat), s.xferOf q cid = some z → s.xferLimits q = some l →
    min bytes (min l.2 (z.bytes - z.requested)) ≠ 0 → z.r2t.length < l.1 → s.xferTurn z = true →
    Completes (.bufferGrantTransfer q cid bytes) s (fun t => .grantData q cid z.requested (min bytes (min l.2 (z.bytes - z.requested))) (s.polOwnerFor (s.xferTenant z) (polNvme q)) ∈ t.out ∧
      t.ops = s.ops ∧ t.nvf.xfers.look z.op = some { z with
        requested := z.requested + min bytes (min l.2 (z.bytes - z.requested)),
        r2t := z.r2t ++ [(z.requested, min bytes (min l.2 (z.bytes - z.requested)))] })) ∧
  (∀ (s : State) (q cid off bytes data : Nat) (x : NvQueue) (z : NvXfer) (r : Nat × Nat) (o : WriteOp), s.queue q = some x →
    s.xferOf q cid = some z → z.r2t.find? (fun r => r.1 == off && decide (bytes ≤ r.2)) = some r → bytes ≠ 0 →
    z.bytes ≤ z.received + bytes → s.ops.look z.op = some o → o.keyLen = 0 →
    Completes (.h2cDataReceive q cid off bytes data true) s (fun t => t.nvf.xfers.look z.op = none ∧ t.regs = s.regs ∧
      t.ops.look z.op = some { o with data := blocksOf (putBits z.acc (8 * off) (8 * bytes) data) o.blocks })) ∧
  (∀ (s : State) (q cid off bytes data : Nat) (x : NvQueue) (z : NvXfer) (r : Nat × Nat), s.queue q = some x →
    s.xferOf q cid = some z → z.r2t.find? (fun r => r.1 == off && decide (bytes ≤ r.2)) = some r → bytes ≠ 0 →
    z.received + bytes < z.bytes →
    Completes (.h2cDataReceive q cid off bytes data true) s (fun t => t.ops = s.ops ∧ t.regs = s.regs ∧
      ∃ w, t.nvf.xfers.look z.op = some w ∧ w.received = z.received + bytes ∧ w.acc = putBits z.acc (8 * off) (8 * bytes) data)) ∧
  (∀ (s : State) (q cid data : Nat) (z : NvXfer) (r : Nat × Nat) (l : List (Nat × Nat)) (o : WriteOp), s.xferOf q cid = some z →
    z.r2t = r :: l → z.bytes ≤ z.received + r.2 → s.ops.look z.op = some o → o.keyLen = 0 →
    Completes (.writeDataReadDone q cid true data) s (fun t => t.nvf.xfers.look z.op = none ∧ t.regs = s.regs ∧
      t.ops.look z.op = some { o with data := blocksOf (putBits z.acc (8 * r.1) (8 * r.2) data) o.blocks })) ∧
  (∀ (s : State) (tok r q k : Nat) (a : Answer) (u : Sub), s.nvf.fwds.look tok = some ⟨.ring r q, none, false⟩ →
    (s.ring r).subOf q = some (k, u) →
    Completes (.forwardedCompletionReceive tok a) s (fun t => s.RingEnds t r q a.status ∧ t.nvf.fwds.look tok = none ∧ t.ops = s.ops)) ∧
  (∀ (s : State) (a : Nat) (y : NvAssoc), s.rdb Fld.NVF_ANA_CFG_ANA_AEN = true → s.assoc a = some y → y.aers = [] →
    Completes .anaStateChange s (fun t => t.regs = s.regs ∧ ∃ z, t.assoc a = some z ∧ z.anaNotice = true))

/-- The responder takes packets in order, asks again at a gap, refuses a revoked window, and resumes after faults and misses (R138, R142, R149, R150, R153, R155).
Where the spec leaves a choice, the model's own is stated: log entries 71, 72, 75 and 77. -/
def Obligations.ResponderTakesPackets : Prop :=
  (∀ (s : State) (q : Nat) (p : RocePacket) (x : Qp), s.rdm.qps.look q = some x → x.missing = none → s.rdb Fld.RDM_CTRL_ENABLE = true →
    x.st = .rts ∨ x.st = .rtr → s.admittedPend Blk.RDM = false → psnDist x.expPsn p.psn = 0 → p.first = true → p.last = true →
    p.op = .send → p.slotFree = true →
    Completes (.rocePacketReceive q p) s (fun t => .roceAck q p.psn ∈ t.out ∧ .roceDeliver x.consumer q none none 0 p.len ∈ t.out ∧
      t.regs = s.regs ∧
      t.rdm.qps.look q = some { x with expPsn := (x.expPsn + 1) % 2 ^ 24, nakSent := false, faultAt := none, msg := none })) ∧
  (∀ (s : State) (q : Nat) (p : RocePacket) (x : Qp), s.rdm.qps.look q = some x → x.missing = none → s.rdb Fld.RDM_CTRL_ENABLE = true →
    x.st = .rts ∨ x.st = .rtr → p.first = false → psnDist x.expPsn p.psn ≠ 0 → psnDist x.expPsn p.psn < 2 ^ 23 → x.nakSent = false →
    Completes (.rocePacketReceive q p) s (fun t => .roceNak q x.expPsn 0 ∈ t.out ∧
      t.rdm.qps.look q = some { x with nakSent := true })) ∧
  (∀ (s : State) (q : Nat) (p : RocePacket) (x : Qp), s.rdm.qps.look q = some x → x.missing = none → s.rdb Fld.RDM_CTRL_ENABLE = true →
    x.st = .rts ∨ x.st = .rtr → s.admittedPend Blk.RDM = false → psnDist x.expPsn p.psn = 0 → p.first = true → p.op = .write →
    s.validate x q .write p.rkey p.off p.len = .revoked →
    Completes (.rocePacketReceive q p) s (fun t => .roceNak q p.psn 2 ∈ t.out ∧ t.rdm.qps = s.rdm.qps ∧
      (t.win (p.rkey / 4096)).refused = (s.win (p.rkey / 4096)).refused + 1 ∧
      .roceRefusal (s.win (p.rkey / 4096)).d.consumer STS_WINDOW_REVOKED q p.psn (p.rkey / 4096) ∈ t.out)) ∧
  (∀ (s : State) (window page : Nat), (∀ f ∈ s.rdm.faults, f.window = window → f.page = page → f.held = false) →
    Completes (.odpPageResident window page) s (fun t => t.rdm.qps = s.rdm.qps ∧ t.out = s.out ∧
      t.rdm.faults = s.rdm.faults.filter (fun f => !(f.window == window && f.page == page)))) ∧
  (∀ (s : State) (q key : Nat) (x : Qp), s.rdm.qps.look q = some x → x.missing = some key →
    Completes (.wtcMissWalkDone q) s (fun t => t.rdm.qps.look q = some { x with missing := none } ∧ t.regs = s.regs ∧
      t.rdm.wtc.look x.engine = some ((key :: (s.rdm.wtc.getD x.engine []).filter (fun k => k != key)).take 48)))

/-- The requester's acknowledgements, resends and rates (R139, R140).
Where the spec leaves a choice, the model's own is stated: log entries 73, 74 and 78. -/
def Obligations.RequesterRecoversAndPaces : Prop :=
  (∀ (s : State) (q psn : Nat) (x : Qp), s.rdm.qps.look q = some x → x.st = .rts → x.covers psn = true →
    Completes (.roceAckReceive q psn) s (fun t => t.regs = s.regs ∧ ∃ y, t.rdm.qps.look q = some y ∧ y.una = (psn + 1) % 2 ^ 24 ∧
      y.nxt = x.nxt)) ∧
  (∀ (s : State) (q psn : Nat) (x : Qp), s.rdm.qps.look q = some x → x.st = .rts → x.covers psn = true → x.retries < x.retryCnt →
    Completes (.roceNakSeqReceive q psn) s (fun t => .roceResend q (psn % 2 ^ 24) ∈ t.out ∧
      ∃ y, t.rdm.qps.look q = some y ∧ y.una = psn % 2 ^ 24 ∧ y.nxt = x.nxt)) ∧
  (∀ (s : State) (q psn code : Nat) (x : Qp), s.rdm.qps.look q = some x → x.st = .rts → x.covers psn = true →
    x.rnrRetry = 7 ∨ x.rnrs < x.rnrRetry →
    Completes (.roceRnrNakReceive q psn code) s (fun t => t.regs = s.regs ∧ ∃ y, t.rdm.qps.look q = some y ∧ y.una = psn % 2 ^ 24 ∧
      y.timer = some (s.now + rnrNs code * unitsPerNs))) ∧
  (∀ (s : State) (q t0 : Nat) (x : Qp), s.rdm.qps.look q = some x → x.st = .rts → x.timer = some t0 → x.retries < x.retryCnt →
    s.aon.leaseEnd = none →
    Completes (.roceRetransmitExpiry q) s (fun t => .roceResend q x.una ∈ t.out ∧ t.now = max s.now t0 ∧
      ∃ y, t.rdm.qps.look q = some y ∧ y.una = x.una ∧ y.retries = x.retries + 1)) ∧
  (∀ (s : State) (q : Nat) (x : Qp), s.rdm.qps.look q = some x → x.st = .rts → s.rdb Fld.RDM_CTRL_CC_EN = true → x.probe = none →
    s.aon.leaseEnd = none → s.admittedPend Blk.RDM = false →
    Completes (.ccProbeSend q) s (fun t => .roceProbe q x.nxt ∈ t.out ∧ ∃ y, t.rdm.qps.look q = some y ∧ y.probe = some (x.nxt, t.now))) ∧
  (∀ (s : State) (q rtt psn at_ : Nat) (x : Qp), s.rdm.qps.look q = some x → x.probe = some (psn, at_) → s.rdb Fld.RDM_CTRL_CC_EN = true →
    s.aon.leaseEnd = none →
    Completes (.ccProbeAck q rtt) s (fun t => t.regs = s.regs ∧ ∃ y, t.rdm.qps.look q = some y ∧ y.probe = none ∧
      y.rate = s.rateAfter x rtt)) ∧
  (∀ (s : State) (q : Nat) (x : Qp), s.rdm.qps.look q = some x → x.st = .rts → s.aon.leaseEnd = none →
    Completes (.ccIdleExpiry q) s (fun t => t.regs = s.regs ∧ t.rdm.qps.look q = some { x with rate := s.initRate x.line }))

/-- Queue pairs move as Table 06.2 says (R134 to R137).
Memory windows open, are revoked, drain and are read (R144 to R148, R151, R157).
Where the spec leaves a choice, the model's own is stated: log entries 21, 75, 76 and 79. -/
def Obligations.QueuePairsAndWindows : Prop :=
  (∀ (s : State) (q c tn e line psn : Nat), s.rdb Fld.RDM_CTRL_ENABLE = true → q < 262144 → s.rdm.qps.look q = none → s.qpRoom e = true →
    e < 8 →
    Completes (.qpModify q 1 c tn e line psn) s (fun t => t.rdm.qps.look q = some (s.newQp c tn e line) ∧
      t.rd Fld.RDM_QP_INUSE_COUNT = t.rdm.qps.length % 2 ^ 19)) ∧
  (∀ (s : State) (q c tn e line psn : Nat) (x : Qp), s.rdb Fld.RDM_CTRL_ENABLE = true → q < 262144 → s.rdm.qps.look q = some x →
    x.st = .init →
    Completes (.qpModify q 2 c tn e line psn) s (fun t => t.rdm.qps.look q = some { x with st := .rtr, expPsn := psn % 2 ^ 24 } ∧
      t.regs = s.regs)) ∧
  (∀ (s : State) (q c tn e line psn : Nat) (x : Qp), s.rdb Fld.RDM_CTRL_ENABLE = true → q < 262144 → s.rdm.qps.look q = some x →
    x.st = .rtr →
    Completes (.qpModify q 3 c tn e line psn) s (fun t => t.regs = s.regs ∧
      t.rdm.qps.look q = some { x with st := .rts, una := psn % 2 ^ 24, nxt := psn % 2 ^ 24 })) ∧
  (∀ (s : State) (q c tn e line psn : Nat) (x : Qp), s.rdb Fld.RDM_CTRL_ENABLE = true → q < 262144 → s.rdm.qps.look q = some x →
    Completes (.qpModify q 0 c tn e line psn) s (fun t => t.rdm.qps.look q = none ∧ ∀ f ∈ t.rdm.faults, f.qp ≠ q)) ∧
  (∀ (s : State) (q : Nat) (x : Qp), s.rdm.qps.look q = some x → x.st ≠ .error →
    Completes (.qpErrorEntry q) s (fun t => .qpEnded x.consumer q STS_QP_FAILED ∈ t.out ∧
      ∃ y, t.rdm.qps.look q = some y ∧ y.st = .error ∧ y.msg = none ∧ y.timer = none)) ∧
  (∀ (s : State) (lane port tn line rp op q : Nat), s.rdb Fld.RDM_CTRL_ENABLE = true → s.rdb Fld.NVF_CTRL_ENABLE = true →
    (List.range 64).any (fun l => s.rd Fld.NVF_LISTEN_TRANSPORT l == 2 && s.rd Fld.NVF_LISTEN_PORT l == port) = true →
    s.qpRoom (lane / 4) = true → lane < 32 → (List.range (s.rdm.qps.length + 1)).find? (fun q => !s.rdm.qps.has q) = some q →
    Completes (.rdmaCmRequest lane port tn line rp op) s (fun t => ∃ y, t.rdm.qps.look q = some y ∧ y.st = .rts ∧ y.consumer = 1 ∧
      y.tenant = tn ∧ y.engine = lane / 4 ∧ y.expPsn = rp % 2 ^ 24 ∧ y.nxt = op % 2 ^ 24)) ∧
  (∀ (s : State) (i : Nat) (d : WinDesc), i < s.winCount → (s.win i).st = winFree → 1 ≤ d.len → d.len ≤ 2 ^ 30 →
    Completes (.windowOpen i (some d) true) s (fun t => (t.win i).st = winOpening ∧ (t.win i).d = d ∧
      (t.win i).gen = ((s.win i).gen + 1) % 4096 ∧ t.rdm.qps = s.rdm.qps)) ∧
  (∀ (s : State) (i : Nat), (s.win i).st = winOpening → (s.win i).port = true →
    Completes (.windowTranslationsLoaded i) s (fun t => (t.win i).st = winOpen ∧ (t.win i).gen = (s.win i).gen ∧
      .winDone i STS_OK false ∈ t.out)) ∧
  (∀ (s : State) (i : Nat), (s.win i).st = winOpen → (s.win i).bar0 = false → (s.win i).port = false →
    Completes (.windowRevoke i false) s (fun t => (t.win i).st = winClosing ∧ (t.win i).outstanding = (s.win i).outstanding ∧
      (t.win i).revokedAt = s.now ∧ t.out = s.out)) ∧
  (∀ (s : State) (i : Nat), (s.win i).st = winFree →
    Completes (.windowRevoke i false) s (fun t => .winDone i STS_OK false ∈ t.out ∧ t.rdm = s.rdm ∧ t.regs = s.regs)) ∧
  (∀ (s : State) (i : Nat), s.rdb Fld.RDM_WIN_RESULT_BUSY = false → i < s.winCount →
    Completes (.windowReadEntry i) s (fun t => t.rd Fld.RDM_WIN_STAGE_BASE_VA = (s.win i).d.base % 2 ^ 64 ∧
      t.rd Fld.RDM_WIN_STAGE_STATE = (s.win i).st % 4 ∧ t.rd Fld.RDM_WIN_RESULT_STATUS = STS_OK ∧ t.rd Fld.RDM_WIN_RESULT_BUSY = 0 ∧
      t.rd Fld.RDM_WIN_RESULT_DONE = 1 ∧ t.rdm = s.rdm)) ∧
  (∀ (s : State) (i : Nat), (s.win i).st = winClosing → (s.win i).outstanding = 0 → (s.win i).port = true →
    Completes (.windowDrainEnd i) s (fun t => (t.win i).st = winFree ∧ .winDone i STS_OK false ∈ t.out ∧ ∀ f ∈ t.rdm.faults, f.window ≠ i)) ∧
  (∀ (s : State) (i : Nat), (s.win i).st = winClosing → 1 ≤ (s.win i).outstanding → s.aon.leaseEnd = none →
    Completes (.revokeTimeout i) s (fun t => (t.win i).st = winFree ∧ (t.win i).outstanding = 0 ∧ t.rd Fld.RDM_ERR_REVOKE_TMO = 1))

/-- POL grants under reserve and cap, takes frees back and refuses bad ones, for blocks and for `POL_OP` (R161 to R169, R172).
The states of a pool (R162, R170, Table 07.3).
Where the spec leaves a choice, the model's own is stated: log entries 80 to 82. -/
def Obligations.BuffersAndPools : Prop :=
  (∀ (s : State) (b p o n : Nat), p < 16 → o < 1024 → s.admittedPend Blk.POL = false → s.rdb Fld.POL_CTRL_ENABLE = true → s.poolSt p = poolActive →
    s.grants p o n = true →
    Completes (.polAllocate b p o n false) s (fun t => t.rd Fld.POL_HELD_HELD o p = (s.held o p + n) % 2 ^ 25 ∧
      t.pool p = ((s.pool p).take (s.rd Fld.POL_POOL_CFG_COUNT p) n).1 ∧
      t.out = .polAnswer b p o STS_OK ((s.pool p).take (s.rd Fld.POL_POOL_CFG_COUNT p) n).2 :: s.out)) ∧
  (∀ (s : State) (b p o n : Nat), p < 16 → o < 1024 → s.admittedPend Blk.POL = false → s.rdb Fld.POL_CTRL_ENABLE = true → s.poolSt p = poolActive →
    s.grants p o n = false →
    Completes (.polAllocate b p o n false) s (fun t => t.regs = s.regs ∧ t.pol = s.pol ∧
      t.out = .polAnswer b p o STS_NO_BUFFER [] :: s.out)) ∧
  (∀ (s : State) (b p i o : Nat), p < 16 → o < 1024 → s.freeOk p i o = true → s.pol.waits = [] →
    Completes (.polFree b p i o) s (fun t => t.rd Fld.POL_HELD_HELD o p = (s.held o p - 1) % 2 ^ 25 ∧
      (t.pool p).taken = (s.pool p).taken.remove i ∧ t.out = .polAnswer b p o STS_OK [i] :: s.out)) ∧
  (∀ (s : State) (b p i o : Nat), p < 16 → o < 1024 → s.freeOk p i o = false →
    Completes (.polFree b p i o) s (fun t => t.pol = s.pol ∧ t.rd Fld.POL_ERR_INFO_OWNER = o % 2 ^ 10 ∧
      t.out = .polAnswer b p o STS_BUFFER_STATE [i] :: s.out)) ∧
  (∀ (s : State) (p o i : Nat), p < 16 → o < 1024 → s.rdb Fld.POL_OP_RESULT_BUSY = false → s.admittedPend Blk.POL = false →
    s.rdb Fld.POL_CTRL_ENABLE = true → s.poolSt p = poolActive → s.grants p o 1 = true →
    ((s.pool p).take (s.rd Fld.POL_POOL_CFG_COUNT p) 1).2 = [i] →
    Completes (.polOpAllocate p o) s (fun t => t.rd Fld.POL_OP_ADDR_INDEX = i % 2 ^ 24 ∧ t.rd Fld.POL_OP_RESULT_STATUS = STS_OK ∧
      t.pool p = ((s.pool p).take (s.rd Fld.POL_POOL_CFG_COUNT p) 1).1)) ∧
  (∀ (s : State) (p o : Nat), p < 16 → o < 1024 → s.rdb Fld.POL_OP_RESULT_BUSY = false → s.freeOk p (s.rd Fld.POL_OP_ADDR_INDEX) o = true → s.pol.waits = [] →
    Completes (.polOpFree p o) s (fun t => t.rd Fld.POL_OP_RESULT_STATUS = STS_OK ∧
      (t.pool p).taken = (s.pool p).taken.remove (s.rd Fld.POL_OP_ADDR_INDEX))) ∧
  (∀ (s : State), s.rdb Fld.POL_OP_RESULT_BUSY = false →
    Completes .polOpReserved s (fun t => t.rd Fld.POL_OP_RESULT_STATUS = STS_BAD_DESCRIPTOR ∧ t.rd Fld.POL_OP_RESULT_BUSY = 0 ∧
      t.pol = s.pol)) ∧
  (∀ (s : State) (p : Nat), p < 16 → s.rdb Fld.POL_POOL_CFG_ENABLE p = false → s.poolSt p = poolDisabled →
    (s.tryEnable Fld.POL_POOL_CFG_ENABLE p).2 = true →
    Completes (.poolEnable p) s (fun t => t.poolSt p = poolFilling ∧ t.rd Fld.POL_POOL_CFG_ENABLE p = 1 ∧ t.pol = s.pol)) ∧
  (∀ (s : State) (p : Nat), p < 16 → s.poolSt p = poolFilling → s.pol.waits = [] →
    Completes (.poolFillEnd p) s (fun t => t.poolSt p = poolActive ∧ (t.pool p).taken = [] ∧
      t.rd Fld.POL_STATUS_ACTIVE = setBit (s.rd Fld.POL_STATUS_ACTIVE) p % 2 ^ 16)) ∧
  (∀ (s : State) (p : Nat), p < 16 → s.rdb Fld.POL_POOL_CFG_ENABLE p = true → s.poolSt p = poolActive →
    (s.pool p).taken ≠ [] →
    Completes (.poolDisable p) s (fun t => t.poolSt p = poolDraining ∧ t.rd Fld.POL_POOL_CFG_ENABLE p = 0 ∧
      t.pol.waits = s.pol.waits.filter (fun w => !(w.pool == p)) ∧ t.pol.pools = s.pol.pools)) ∧
  (∀ (s : State) (p : Nat), p < 16 → s.rdb Fld.POL_POOL_CFG_ENABLE p = false → s.poolSt p = poolDraining → (s.pool p).taken = [] →
    Completes (.poolDrainEnd p) s (fun t => t.poolSt p = poolDisabled ∧ t.pool p = Pool.init)) ∧
  (∀ (s : State), s.rdb Fld.POL_CTRL_ENABLE = true →
    Completes .polDisable s (fun t => t.rd Fld.POL_CTRL_ENABLE = 0 ∧ t.pol.waits = [] ∧ t.pol.pools = s.pol.pools))

/-- The Isaov link trains, comes up, loses lanes and goes down (R185, R187, R189).
Where the spec leaves a choice, the model's own is stated: log entries 89 to 91. -/
def Obligations.IsaovLinkFollowsTable0815 : Prop :=
  (∀ (s : State), s.rdb Fld.ISL_CTRL_ENABLE = false → (s.tryEnable Fld.ISL_CTRL_ENABLE).2 = true →
    Completes .islEnable s (fun t => t.islState = islTraining ∧ t.rd Fld.ISL_CTRL_ENABLE = 1 ∧ t.rd Fld.ISL_STATUS_QUADS_UP = 0 ∧
      t.isl.txSeq = 0)) ∧
  (∀ (s : State) (quads : Nat), s.islState = islTraining → s.rdb Fld.ISL_CTRL_ENABLE = true →
    s.minQuads ≤ ((List.range 4).filter (fun q => bitAt quads q)).length →
    Completes (.islTrainingEnd quads) s (fun t => t.islState = islUp ∧ t.rd Fld.ISL_STATUS_QUADS_UP = quads % 16 ∧
      t.isl.lastFlit = s.now)) ∧
  (∀ (s : State) (lane : Nat), s.linkUp = false →
    Completes (.islLaneFail lane) s (fun t => t.isl = s.isl ∧ t.islState = s.islState ∧
      t.rd Fld.ISL_STATUS_QUADS_UP = clrBit (s.rd Fld.ISL_STATUS_QUADS_UP) (lane / 4 % 4) % 16)) ∧
  (∀ (s : State), s.linkUp = true → s.rdb Fld.ISL_CTRL_ENABLE = true → s.aon.leaseEnd = none → s.pjm.recs = [] → s.ops = [] →
    s.nvf.fwds = [] →
    Completes (.islLinkDown .silence) s (fun t => t.islState = islTraining ∧ t.rd Fld.ISL_ERR_LINK_DOWN = 1 ∧
      t.rd Fld.PJM_STATUS_MIRROR_IN = 0 ∧ t.rd Fld.PJM_STATUS_MIRROR_HELD = 0 ∧ t.isl.unacked = [] ∧
      t.now = max s.now (s.isl.lastFlit + s.rd Fld.ISL_CFG_DOWN_US * unitsPerUs))) ∧
  (∀ (s : State), s.linkUp = false →
    Completes .islEnableClear s (fun t => t.islState = islDown ∧ t.rd Fld.ISL_CTRL_ENABLE = 0 ∧ t.rd Fld.ISL_STATUS_QUADS_UP = 0 ∧
      t.isl = s.isl)) ∧
  (∀ (s : State) (fseq ack : Nat) (nak : Option Nat) (msgs : List IslMsg) (whole : List Nat), s.linkUp = true → s.aon.drivers = [] →
    s.aon.claimOut = [] →
    Completes (.islFlitReceive fseq false ack nak msgs whole) s (fun t => t = s.emit (.flitNak s.isl.rxExpect))) ∧
  (∀ (s : State) (ack : Nat), s.linkUp = true → s.isl.rxExpect < 65536 →
    Completes (.islFlitReceive s.isl.rxExpect true ack none [] []) s (fun t => t.isl.rxExpect = (s.isl.rxExpect + 1) % 65536 ∧
      t.isl.lastFlit = s.now ∧ t.out = .flitAck s.isl.rxExpect :: s.out ∧ t.regs = s.regs ∧
      ∀ q k, (q, k) ∈ t.isl.unacked ↔ (q, k) ∈ s.isl.unacked ∧ 32768 ≤ (ack + 65536 - q) % 65536)) ∧
  (∀ (s : State), s.islState = islUp → s.isl.staleWritten = false → s.rdb Fld.FWU_STATUS_TRIAL = false →
    s.isl.peerLayout = some s.layout → s.isl.catchupAsked = false →
    Completes .islLinkUp s (fun t => t.islState = islCatchup ∧ t.isl.staleWritten = true ∧ t.isl.catchupAsked = true ∧
      .isl 0 (.catchupRequest none) ∈ t.out ∧ ∀ c, c < 8 → (t.pjm.mirrorAnchors.getD c ⟨0, 0, 0, false⟩).stale = true))

/-- The catch-up of the mirrors (R189, R190, R388).
Drumbeats leave on the grid, and their arrival and absence are noted (R125, R188).
Where the spec leaves a choice, the model's own is stated: log entries 88 and 89. -/
def Obligations.CatchupAndDrumbeats : Prop :=
  (∀ (s : State), s.linkUp = true → s.caughtUp = true → s.isl.catchupAsked = true → s.rdb Fld.PJM_STATUS_MIRROR_HELD = false →
    s.rdb Fld.FWU_STATUS_TRIAL = false →
    Completes .catchupEnd s (fun t => t.rd Fld.PJM_STATUS_MIRROR_HELD = 1 ∧ t.isl.mirrorReady = true ∧ t.own.returnFrom = some s.now ∧
      t.islState = (if s.islState = islCatchup ∧ s.rdb Fld.PJM_STATUS_MIRROR_IN = true then islInService else s.islState))) ∧
  (∀ (s : State) (c : Nat), s.linkUp = true → s.caughtUp = true → s.isl.catchupAsked = false → c < 8 → s.pjm.repairing = [c] →
    s.pjm.recs.all (fun e => !e.2.held) = true →
    Completes .catchupEnd s (fun t => t.rd Fld.PJM_CH_STATUS_STATE c = chanInService ∧ t.pjm.repairing = [] ∧ t.pjm.recs = s.pjm.recs)) ∧
  (∀ (s : State) (c : Option Nat), s.linkUp = true →
    Completes (.catchupRequestReceive c) s (fun t => t.isl.serving = true ∧ .isl 0 .catchupEnd ∈ t.out ∧ t.regs = s.regs)) ∧
  (∀ (s : State), s.linkUp = true → s.aon.leaseEnd = none →
    Completes .drumbeatSend s (fun t => t.isl.dseq = (s.isl.dseq + 1) % 2 ^ 32 ∧
      t.isl.sentGrid = max s.gridUp (s.isl.sentGrid + 1) ∧
      ∃ d, .isl 0 (.drumbeat d) ∈ t.out ∧ d.dseq = t.isl.dseq ∧ d.head = s.headId ∧ d.mirrorReady = s.isl.mirrorReady)) ∧
  (∀ (s : State) (d : Drumbeat), s.linkUp = true → s.rdb Fld.ISL_STATUS_SUSPECT = false → d.layout = s.layout →
    s.isl.staleWritten = false → d.chOk = s.rd Fld.ISL_PEER_CH_OK → s.rdb Fld.PJM_STATUS_MIRROR_IN = d.mirrorReady →
    Completes (.drumbeatReceive d) s (fun t => t.isl.missRun = 0 ∧ t.isl.lastFlit = s.now ∧ t.isl.peerLayout = some d.layout ∧
      t.rd Fld.ISL_PEER_HEAD = d.head % 2 ^ 16 ∧ t.rd Fld.ISL_PEER_DSEQ = d.dseq % 2 ^ 32 ∧ t.rd Fld.ISL_PEER_FENCED = b2n d.fenced ∧
      t.pjm = s.pjm)) ∧
  (∀ (s : State), s.rdb Fld.ISL_CTRL_ENABLE = true → s.aon.leaseEnd = none → s.isl.missRun + 1 ≠ s.rd Fld.ISL_CFG_SUSPECT_MISS →
    Completes .drumbeatAbsent s (fun t => t.isl.missRun = s.isl.missRun + 1 ∧ t.isl.lastGrid = s.isl.lastGrid + 1 ∧
      t.rd Fld.ISL_STATUS_SUSPECT = s.rd Fld.ISL_STATUS_SUSPECT)) ∧
  (∀ (s : State), s.rdb Fld.ISL_CTRL_ENABLE = true → s.aon.leaseEnd = none → s.isl.missRun + 1 = s.rd Fld.ISL_CFG_SUSPECT_MISS →
    s.rdb Fld.NVF_ANA_CFG_ANA_AEN = false →
    Completes .drumbeatAbsent s (fun t => t.rd Fld.ISL_STATUS_SUSPECT = 1 ∧ t.rd Fld.ISL_ERR_SUSPECT = 1))

/-- Index messages between the heads, pins, references and the deferred queue (R199 to R211, R218).
Where the spec leaves a choice, the model's own is stated: log entries 95 to 97 and 109. -/
def Obligations.TheIndexFollowsItsReferences : Prop :=
  (∀ (s : State) (fp dom : Nat), s.ownsHalf (s.idxPage fp) = true → s.linkUp = true → s.pins < 65536 →
    Completes (.indexMessage fp dom true) s (fun t => .isl 2 (.indexAnswer fp dom (s.idxLookup fp dom).2) ∈ t.out ∧
      t.ddp = (s.idxLookup fp dom).1.ddp)) ∧
  (∀ (s : State) (fp dom h a : Nat) (e : IdxEntry), s.map.destages = [] → s.ddp.deferQ = [] → s.ownsHalf (h / 512) = true →
    s.ddp.idx.look h = some e → 2 ≤ e.pins →
    Completes (.indexAnswerReceive fp dom (.matched h a)) s (fun t => t.ddp.idx.look h = some { e with pins := e.pins - 1 } ∧
      t.regs = s.regs)) ∧
  (∀ (s : State) (fp dom o i : Nat) (x : WriteOp) (d : Destage) (out : ChunkOut), s.map.destages = [(o, d)] → s.ops.look o = some x →
    s.openLookup x d fp dom = some i → (d.outs.set i (some out)).all (fun y => y.isSome) = false →
    Completes (.indexAnswerReceive fp dom out) s (fun t => t.map.destages.look o = some { d with outs := d.outs.set i (some out) } ∧
      t.ops = s.ops)) ∧
  (∀ (s : State) (o : Nat) (d : Destage), s.map.destages.look o = some d → d.decided = false → s.ops.look o = none →
    s.aon.leaseEnd = none →
    Completes (.indexQueryTimeout o) s (fun t => t.now = max s.now (d.since + s.rd Fld.DDP_CFG_INLINE_NS * unitsPerNs) ∧
      t.map.destages.look o = some { d with outs := d.outs.map (fun x => some (x.getD .deferred)) })) ∧
  (∀ (s : State) (h : Nat) (e : IdxEntry), s.ownsHalf (h / 512) = true → s.ddp.idx.look h = some e → 2 ≤ e.pins →
    Completes (.pinRelease h) s (fun t => t.ddp.idx.look h = some { e with pins := e.pins - 1 } ∧ t.regs = s.regs ∧ t.map = s.map)) ∧
  (∀ (s : State) (h : Nat) (e : IdxEntry), s.ownsHalf (h / 512) = true → s.ddp.idx.look h = some e → e.pins = 1 → e.refcnt = 0 →
    Completes (.pinRelease h) s (fun t => t.ddp.idx.look h = none ∧ t.regs = s.regs ∧ t.map = s.map)) ∧
  (∀ (s : State) (j : Nat) (d : Delta) (e : IdxEntry), (s.refRecords false).find? (fun r => r.1 == j) = some (j, [d]) →
    (s.refRecords false).all (fun q => decide (j ≤ q.1)) = true → d.kind = 3 → s.ownsHalf (d.laddr / 512) = true →
    s.appliedOf (d.laddr / 512) s.aon.side < j → s.ddp.idx.look d.laddr = some e → e.refcnt + 1 < 0xFFFFFF00 →
    Completes (.referenceApply false j) s (fun t => t.regs = s.regs ∧ t.appliedOf (d.laddr / 512) s.aon.side = j ∧
      ∃ y, t.ddp.idx.look d.laddr = some y ∧ y.refcnt = e.refcnt + 1 ∧ y.pins = e.pins - 1)) ∧
  (∀ (s : State) (h : Nat) (e : IdxEntry), s.ddp.idx.look h = some e → e.dying = true →
    Completes (.indexEntryRelease h) s (fun t => t.ddp.idx.look h = none ∧ t.map.chunks.look e.addr = none ∧ t.regs = s.regs)) ∧
  (∀ (s : State) (e : DeferEnt) (l : List DeferEnt), s.ddp.deferQ = e :: l → s.deferLive e = false →
    Completes .deferredDedupEntry s (fun t => t.ddp.deferQ = l ∧ t.regs = s.regs ∧ t.map = s.map)) ∧
  (∀ (s : State) (e : DeferEnt) (l : List DeferEnt) (c : Chunk) (h : Nat), s.ddp.deferQ = e :: l → s.deferLive e = true →
    s.map.chunks.look e.addr = some c → s.ownsHalf (s.idxPage c.fp) = true → s.pins < 65536 →
    ((s.idxTouch (s.idxPage c.fp)).idxLookup c.fp c.domain).2 = .reserved h → s.admittedPend Blk.PJM = false →
    Completes .deferredDedupEntry s (fun t => t.ddp.deferQ = l ∧
      ∃ r ds, t.pjm.recs.look s.nextJseq = some r ∧ r.body = .mapDelta ds)) ∧
  (∀ (s : State) (a : Nat) (c : Chunk), s.map.chunks.look a = some c →
    Completes (.chunkCrcFail a true) s (fun t => t.map.chunks.look a = some { c with crcBad := true } ∧ t.rd Fld.CMP_ERR_CRC_FAIL = 1))

/-- Searches, updates and test searches of the match engine (R358 to R363, R368).
The banks of the match engine (R365, R367).
Where the spec leaves a choice, the model's own is stated: log entries 196 and 197. -/
def Obligations.MatchEngineFollowsItsTables : Prop :=
  (∀ (s : State) (b tb key : Nat), s.admittedPend Blk.MTE = false → s.rd Fld.MTE_TBL_CFG_CONSUMER (tb % 16) = b →
    Completes (.mteSearch b tb key) s (fun t => t.mte = s.mte ∧
      t.rd Fld.MTE_STAT_SEARCH_COUNT = min (s.rd Fld.MTE_STAT_SEARCH_COUNT + 1) (2 ^ 64 - 1))) ∧
  (∀ (s : State) (i : Nat) (e : MteEntry), s.admittedPend Blk.MTE = false →
    Completes (.mteUpdateWrite false i e) s (fun t => t.mteEntry (i % 131072) = mteOfImage (mteImage e) ∧
      ∀ j, j ≠ i % 131072 → t.mteEntry j = s.mteEntry j)) ∧
  (∀ (s : State) (i : Nat), s.admittedPend Blk.MTE = false →
    Completes (.mteUpdateInvalidate false i) s (fun t => t.mteEntry (i % 131072) = { s.mteEntry (i % 131072) with valid := false } ∧
      ∀ j, j ≠ i % 131072 → t.mteEntry j = s.mteEntry j)) ∧
  (∀ (s : State) (i r : Nat), s.admittedPend Blk.MTE = false →
    Completes (.mteUpdateResult false i r) s (fun t => t.mteEntry (i % 131072) = { s.mteEntry (i % 131072) with result := r % 2 ^ 32 } ∧
      ∀ j, j ≠ i % 131072 → t.mteEntry j = s.mteEntry j)) ∧
  (∀ (s : State) (i : Nat) (e : MteEntry) (u : MteUpd) (l : List MteUpd), s.admittedPend Blk.MTE = false → s.mte.queue = u :: l → u.op = 1 →
    Completes (.mteUpdateWrite true i e) s (fun t => t.mteEntry (u.index % 131072) = mteOfImage (mteImage u.image) ∧ t.mte.queue = l ∧
      t.rd Fld.MTE_UPD_RESULT_DONE = 1)) ∧
  (∀ (s : State) (tb : Nat), s.admittedPend Blk.MTE = false →
    Completes (.mteSearchCmd tb) s (fun t => t.mte = s.mte ∧
      t.rd Fld.MTE_SEARCH_RESULT_HIT = b2n (s.mteFind (tb % 16) (s.rd Fld.MTE_SEARCH_KEY_KEY)).hit ∧
      t.rd Fld.MTE_SEARCH_RESULT_INDEX = (s.mteFind (tb % 16) (s.rd Fld.MTE_SEARCH_KEY_KEY)).index % 2 ^ 17 ∧
      t.rd Fld.MTE_SEARCH_RESULT_RESULT = (s.mteFind (tb % 16) (s.rd Fld.MTE_SEARCH_KEY_KEY)).result % 2 ^ 32 ∧
      t.rd Fld.MTE_SEARCH_RESULT_DONE = 1)) ∧
  (∀ (s : State) (k : Nat), s.bankCovered (k % 8) = false → s.bankState (k % 8) = 0 →
    Completes (.mteBulkEnter k) s (fun t => t.bankState (k % 8) = 1 ∧ t.mte = s.mte)) ∧
  (∀ (s : State) (k : Nat), s.bankCovered (k % 8) = false → s.bankState (k % 8) = 1 →
    Completes (.mteBulkLeave k) s (fun t => t.bankState (k % 8) = 0 ∧ t.mte = s.mte)) ∧
  (∀ (s : State) (k first count : Nat) (es : List MteEntry), s.bankCovered (k % 8) = false → s.bankState (k % 8) = 1 →
    first + count ≤ 16384 →
    Completes (.mteBulkLoad k first count (some es)) s (fun t => t.regs = s.regs ∧ ∀ i, i < min count es.length →
      t.mteEntry (16384 * (k % 8) + first + i) = mteOfImage (mteImage (es.getD i mteZero)))) ∧
  (∀ (s : State) (k : Nat), s.bankCovered (2 * (k % 8 / 2)) = false → s.bankCovered (2 * (k % 8 / 2) + 1) = false →
    s.bankState (2 * (k % 8 / 2)) ≠ 2 →
    Completes (.mteBankPowerDown k) s (fun t => t.bankState (2 * (k % 8 / 2)) = 2 ∧ t.bankState (2 * (k % 8 / 2) + 1) = 2 ∧
      ∀ e ∈ t.mte.entries, e.1 / 32768 ≠ k % 8 / 2)) ∧
  (∀ (s : State) (k : Nat), s.bankState (2 * (k % 8 / 2)) = 2 → s.pwr.queue = [] → s.pwr.switching = none →
    s.domainOn (53 + k % 8 / 2) = false →
    Completes (.mteBankPowerUp k) s (fun t => t.pwr.switching = some { domain := 53 + k % 8 / 2, on := true, cmd := false } ∧
      t.mte = s.mte))

/-- Checkpoints, recovery and map deltas (R256 to R262, R268).
MAP starts, serves its sets as recovery ends, and applies persistent deltas (R256, R260).
The metadata cache: uncorrectable lines, way groups and the invalidation after reset (R264 to R267).
Where the spec leaves a choice, the model's own is stated: log entries 87 and 110 to 114. -/
def Obligations.CheckpointsRecoveryAndWayGroups : Prop :=
  (∀ (s : State) (o : Nat), s.mapServes o = true → s.rd Fld.MAP_CKPT_MIB * 2 ^ 20 ≤ (s.mapSet o).bytes → (s.mapSet o).run = none →
    s.admittedPend Blk.MAP = false →
    Completes (.checkpointStart o) s (fun t => t.regs = s.regs ∧ (t.mapSet o).bytes = 0 ∧ (t.mapSet o).lastStart = some s.now ∧
      ∃ c, (t.mapSet o).run = some c ∧ c.pages = s.dirtyOf o ∧ c.t = s.ctNs ∧ c.dir = false)) ∧
  (∀ (s : State) (o : Nat) (c : Ckpt), s.mapServes o = true → s.rd Fld.MAP_CKPT_MIB * 2 ^ 20 ≤ (s.mapSet o).bytes →
    (s.mapSet o).run = some c →
    Completes (.checkpointStart o) s (fun t => (t.mapSet o).run = some c ∧ (t.mapSet o).again = true ∧ t.rd Fld.MAP_ERR_CKPT_LATE = 1)) ∧
  (∀ (s : State) (o : Nat) (c : Ckpt) (l : List StripeAt), (s.mapSet o).run = some c → c.dir = false →
    Completes (.checkpointStripesDone o l) s (fun t => (t.mapSet o).run = some { c with dir := true })) ∧
  (∀ (s : State) (o : Nat) (c : Ckpt), (s.mapSet o).run = some c → c.dir = true → (s.mapSet o).again = false →
    Completes (.checkpointDirectoryDone o false) s (fun t => (t.mapSet o).run = none ∧ (t.mapSet o).gen = (s.mapSet o).gen + 1 ∧
      t.map.dirty = s.map.dirty.keep (fun p _ => !c.pages.mem p) ∧ t.rd Fld.MAP_CKPT_LAST_NS = c.t % 2 ^ 64)) ∧
  (∀ (s : State) (o : Nat), s.ownSets.filter s.mapServes = [o] → (s.mapSet o).run = none → s.admittedPend Blk.MAP = false →
    Completes .mapCkptCmd s (fun t => ∃ c, (t.mapSet o).run = some c ∧ c.pages = s.dirtyOf o ∧ c.t = s.ctNs)) ∧
  (∀ (s : State) (o : Nat), s.rd Fld.MAP_CACHE_CFG_DIRTY_PCT * s.mapFrames ≤ s.map.dirty.length * 100 → s.dirtiest = some o →
    (s.mapSet o).run = none → s.admittedPend Blk.MAP = false →
    Completes .mapDirtyThreshold s (fun t => ∃ c, (t.mapSet o).run = some c ∧ c.pages = s.dirtyOf o)) ∧
  (∀ (s : State), s.rdb Fld.MAP_CTRL_ENABLE = false → (s.tryEnable Fld.MAP_CTRL_ENABLE).2 = true →
    s.rdb Fld.PWR_STATUS_FIRST_BOOT = true →
    Completes .mapEnable s (fun t => t.rd Fld.MAP_STATUS_STATE = 2 ∧ t.rd Fld.MAP_CTRL_ENABLE = 1 ∧ t.map = s.map)) ∧
  (∀ (s : State), s.rdb Fld.MAP_CTRL_ENABLE = false → (s.tryEnable Fld.MAP_CTRL_ENABLE).2 = true →
    s.rdb Fld.PWR_STATUS_FIRST_BOOT = false → s.ownSets.filter (fun o => s.setState o == setOwned) ≠ [] →
    Completes .mapEnable s (fun t => t.rd Fld.MAP_STATUS_STATE = 1 ∧ t.map.recoveryFrom = some s.now)) ∧
  (∀ (s : State) (o : Nat), (s.mapSet o).recovering = true → s.flc.reads = [] → s.admittedPend Blk.MAP = false →
    Completes (.recoverySetServe o [] [] false) s (fun t => (t.mapSet o).recovering = false ∧ (t.mapSet o).merging = true ∧
      t.map.leaves = s.map.leaves ∧ t.pgs = s.pgs)) ∧
  (∀ (s : State) (j : Nat) (r : PjmRec) (d : Delta), s.recOf j = some r → s.recPersistent r = true → r.body = .mapDelta [d] →
    d.kind = 1 → d.reloc = false → s.map.leaves.look (leafKey d.nsid 0 d.laddr) = none →
    Completes (.mapDeltaApply false j) s (fun t => t.regs = s.regs ∧ ∃ v, t.map.leaves.look (leafKey d.nsid 0 d.laddr) = some [v] ∧
      v.kind = 1 ∧ v.addr = d.addr ∧ v.wseq = d.wseq)) ∧
  (∀ (s : State) (j : Nat) (m : MirrorRec) (d : Delta), s.mirrorLog.find? (fun m => m.orig == j) = some m → m.body = .mapDelta [d] →
    d.kind = 1 → d.reloc = false → s.map.leaves.look (leafKey d.nsid 0 d.laddr) = none →
    Completes (.mapDeltaApply true j) s (fun t => ∃ v, t.map.leaves.look (leafKey d.nsid 0 d.laddr) = some [v] ∧
      v.kind = 1 ∧ v.addr = d.addr ∧ v.wseq = d.wseq)) ∧
  (∀ (s : State) (p l k : Nat), s.rdb Fld.MAP_CTRL_ENABLE = true → s.rdb Fld.MDC_CTRL_ENABLE = false → s.map.cached.contains p = false →
    s.framesUsed < s.mapFrames →
    Completes (.mapPageFetch p l k .whole []) s (fun t => t.map.cached.head? = some p ∧
      t.rd Fld.MAP_STAT_FETCH_COUNT = satAdd 64 (s.rd Fld.MAP_STAT_FETCH_COUNT) 1 ∧ t.map.leaves = s.map.leaves)) ∧
  (∀ (s : State) (n p l k : Nat) (x : MdcLine), s.mdc.lines.look n = some x → x.dirty = true →
    Completes (.mdcUncorrectable n p l k .whole) s (fun t => t.mdc.lines.look n = none ∧ t.rd Fld.MDC_ERR_UE_DIRTY = 1 ∧
      t.rd Fld.MAP_ERR_PAGE_REBUILT = 1 ∧ t.map = s.map)) ∧
  (∀ (s : State) (n p l k : Nat) (g : PageGot) (x : MdcLine), s.mdc.lines.look n = some x → x.dirty = false →
    s.mdcRegion (x.addr * 128) = none → s.admittedPend Blk.MDC = false →
    Completes (.mdcUncorrectable n p l k g) s (fun t => t.mdc.lines.look n = none ∧ t.rd Fld.MDC_ERR_UE_CLEAN = 1 ∧ t.map = s.map)) ∧
  (∀ (s : State) (g h : Nat), g < 8 → h < 8 → h ≠ g → s.wayGroup g = 0 → s.wayGroup h = 0 →
    Completes (.mdcWaygrpPowerDown g) s (fun t => t.wayGroup g = 1 ∧ t.wayGroup h = 0 ∧ t.mdc = s.mdc)) ∧
  (∀ (s : State) (g : Nat), g < 8 → s.wayGroup g = 2 → s.pwr.queue = [] → s.pwr.switching = none → s.domainOn (37 + g) = false →
    Completes (.mdcWaygrpPowerUp g) s (fun t => t.wayGroup g = 3 ∧
      t.pwr.switching = some { domain := 37 + g, on := true, cmd := false } ∧ t.mdc = s.mdc)) ∧
  (∀ (s : State) (g : Nat), g < 8 → s.wayGroup g = 1 → s.pwr.queue = [] → s.pwr.switching = none → s.domainOn (37 + g) = true →
    Completes (.mdcCleanSweepEnd g) s (fun t => (∀ e ∈ t.mdc.lines, e.1 % 16 / 2 ≠ g) ∧
      t.pwr.switching = some { domain := 37 + g, on := false, cmd := false })) ∧
  (∀ (s : State) (g : Nat), g < 8 → s.wayGroup g = 3 → s.domainOn (37 + g) = true →
    Completes (.mdcWakeEnd g) s (fun t => t.wayGroup g = 0 ∧ ∀ e ∈ t.mdc.lines, e.1 % 16 / 2 ≠ g)) ∧
  (∀ (s : State), s.rdb Fld.MDC_STATUS_READY = false → s.aon.mainReset = false → s.aon.leaseEnd = none →
    Completes .mdcInvalidationEnd s (fun t => t.rd Fld.MDC_STATUS_READY = 1 ∧ t.mdc.lines = [] ∧ t.now = s.now + 32768 * s.cycle ∧
      t.map = s.map))

/-- Channels train, groups are taken up and lost, LUNs are reset (R270 to R278).
Where the spec leaves a choice, the model's own is stated: log entries 118, 119 and 121. -/
def Obligations.ChannelsTrainAndGroupsMove : Prop :=
  (∀ (s : State) (l : Nat) (p : ParamPage) (rest : List (Nat × ParamPage)), s.rdb Fld.FLC_CTRL_ENABLE = false →
    (s.tryEnable Fld.FLC_CTRL_ENABLE).2 = true → s.flc.geom = none → s.paramOk p = true → (∀ q ∈ rest, q.2 = p) →
    Completes (.flcEnable ((l, p) :: rest) []) s (fun t => t.flc.geom = some p ∧ t.rd Fld.FLC_CTRL_ENABLE = 1 ∧
      t.rd Fld.FLC_GEOM_PAGES = p.pages % 2 ^ 12)) ∧
  (∀ (s : State) (c n : Nat) (b : Bool), c < 128 → s.flcRuns = true → s.drives c = true → s.chanLooped c = false →
    Completes (.channelTraining c true b n) s (fun t => t.rd Fld.FLC_CH_STATUS_STATE c = flcInService ∧
      t.rd Fld.FLC_CH_STATUS_RATE c = s.rd Fld.FLC_IF_CFG_RATE % 2 ^ 3 ∧ t.out = .train c (s.rd Fld.FLC_IF_CFG_RATE) :: s.out)) ∧
  (∀ (s : State) (c n : Nat), c < 128 → s.flcRuns = true → s.drives c = true → s.chanLooped c = false → s.str.bands = [] →
    Completes (.channelTraining c false false n) s (fun t => t.rd Fld.FLC_CH_STATUS_STATE c = flcFailed ∧
      t.rd Fld.FLC_ERR_TRAIN_FAIL = 1 ∧ t.rd Fld.FLC_ERR_INFO_CH = c)) ∧
  (∀ (s : State) (g : Nat), g < 16 → s.flcRuns = true → s.aon.drivers.mem g = true → s.flc.takenUp.mem g = false → s.flc.reads = [] →
    s.nvf.fwds.filter (fun e => e.2.held) = [] →
    Completes (.groupTakeUp g []) s (fun t => t.flc.takenUp.mem g = true ∧ .takeUp g ∈ t.out ∧
      ∀ i < 8, t.rd Fld.FLC_CH_STATUS_STATE (8 * g + i) = flcInService)) ∧
  (∀ (s : State) (l : Nat) (x : LunSt), s.flc.luns.look (lunOf l) = some x → x.foreign = true →
    Completes (.busyLunTimeout l) s (fun t => t.flc.luns.look (lunOf l) = none ∧ t.out = .lunReset l :: s.out)) ∧
  (∀ (s : State) (g : Nat), g < 16 → s.aon.drivers.mem g = false → s.flc.takenUp.mem g = true →
    Completes (.groupLost g) s (fun t => t.flc.takenUp.mem g = false ∧ t.rd Fld.FLC_ERR_GROUP_LOST = 1 ∧
      ∀ i < 8, t.rd Fld.FLC_CH_STATUS_STATE (8 * g + i) = flcNotHeld))

/-- Page reads, media reads for the partner, suspension and the read-reference search (R14, R275, R279 to R281).
Erases, retirement, refresh and wear levelling of blocks (R285 to R290).
Where the spec leaves a choice, the model's own is stated: log entries 117 to 120. -/
def Obligations.PagesAndBlocksOfTheMedia : Prop :=
  (∀ (s : State) (c l p n : Nat) (w : List CwRead), s.chanServes (c % 128) = true → s.linkUp = true → (∀ x ∈ w, x.step = 0) →
    Completes (.mediaReadRequest c l p n w) s (fun t => .isl 3 (.mediaData c l p true) ∈ t.out ∧ t.str = s.str)) ∧
  (∀ (s : State) (a n : Nat) (w : List CwRead), s.chanServes (a % 128) = true → (∀ x ∈ w, x.step = 0) →
    (s.block a).refreshQueued = true →
    Completes (.pageReadDone a n w) s (fun t => (t.block a).reads = (s.block a).reads + 1 ∧ t.str = s.str ∧ t.map = s.map)) ∧
  (∀ (s : State) (a n : Nat) (w : CwRead), s.chanServes (a % 128) = true → s.readStep w = 3 → (s.block a).refreshQueued = true →
    (s.block a).step3 = 0 →
    Completes (.pageReadDone a n [w]) s (fun t => t.rd Fld.FLC_ERR_READ_FAIL = 1 ∧ (t.block a).step3 = 1 ∧ (t.block a).bad = (s.block a).bad)) ∧
  (∀ (s : State) (l n : Nat) (e : Bool) (x : LunSt), s.flc.luns.look (lunOf l) = some x → x.suspended < 8 → 0 < n →
    s.chanServes (l % 128) = true →
    Completes (.operationSuspend l n e) s (fun t =>
      t.flc.luns.look (lunOf l) = some { x with suspended := x.suspended + 1, reads := min n 4 } ∧ t.regs = s.regs)) ∧
  (∀ (s : State) (l w : Nat) (o : List Int), s.chanServes (l % 128) = true →
    Completes (.valleySearch l w o) s (fun t => (⟨l, w, o⟩ : Family) ∈ t.flc.families ∧ t.regs = s.regs)) ∧
  (∀ (s : State) (f : List (Nat × Nat × List Int)),
    Completes (.trackingSweep f) s (fun t => t.flc.saved = t.flc.families ∧ t.regs = s.regs)) ∧
  (∀ (s : State) (c l p : Nat) (w : WaitRead), s.flc.reads = [w] → w.left.contains (c, l, p) = true →
    (w.left.filter (fun q => q != (c, l, p))) ≠ [] →
    Completes (.mediaReadResponseReceive c l p) s (fun t => t.regs = s.regs ∧
      t.flc.reads = [{ w with got := w.got ++ [(c, l, p)], left := w.left.filter (fun q => q != (c, l, p)) }])) ∧
  (∀ (s : State) (b k : Nat) (x : Band), s.bandOfBlock (blockAddr b) = some (k, x) → x.st = .erasing → s.drives (blockAddr b % 128) = true →
    s.chanLooped (blockAddr b % 128) = false → x.eraseLeft.length = 2 → x.eraseLeft.Nodup → s.str.bands.look k = some x →
    Completes (.eraseDone b true) s (fun t => (t.block b).wear = (s.block b).wear + (if (s.block b).slc then 1 else 8) ∧
      (t.block b).firstProg = 0 ∧ (t.block b).reads = 0 ∧ t.regs = s.regs)) ∧
  (∀ (s : State) (b : Nat), (s.block b).bad = false → s.bandOfBlock b = none → s.pgs.look (s.block b).pg = none →
    Completes (.blockRetire b) s (fun t => (t.block b).bad = true ∧ t.str = s.str ∧
      t.rd Fld.FLC_STAT_RETIRED_COUNT = satAdd 32 (s.rd Fld.FLC_STAT_RETIRED_COUNT) 1)) ∧
  (∀ (s : State) (b k g : Nat) (x : Band) (p : Pg), (s.block b).bad = false → s.bandOfBlock b = some (k, x) → k % 65536 = g →
    s.pgs.look g = some p → p.spares = 0 → p.media = .readOnly →
    Completes (.blockRetire b) s (fun t => (t.block b).bad = true ∧ ⟨1, k⟩ ∈ t.gcx.work ∧ (t.pg g).media = .readOnly)) ∧
  (∀ (s : State) (b k : Nat) (x : Band), s.rd Fld.FLC_REFRESH_CFG_RD_LIMIT * 1000 ≤ (s.block b).reads → (s.block b).refreshQueued = false →
    (s.block b).bad = false → s.bandOfBlock b = some (k, x) →
    Completes (.refreshQueue b) s (fun t => (t.block b).refreshQueued = true ∧ ⟨3, k⟩ ∈ t.gcx.work ∧ t.regs = s.regs)) ∧
  (∀ (s : State) (l a b k : Nat) (x y : BlockSt) (z : Band), s.flc.blocks = [(a, x), (b, y)] → lunOf a = l → lunOf b = l → x.bad = false →
    y.bad = false → s.bandOfBlock a = some (k, z) → z.st = .inUse → s.bandOfBlock b = none →
    x.wear + 8 * s.rd Fld.FLC_WEAR_CFG_WL_DELTA < y.wear → s.gcx.work = [] →
    Completes (.wearLevelOffer l) s (fun t => t.gcx.work = [⟨4, k⟩] ∧ t.regs = s.regs ∧ t.flc = s.flc))

/-- Stripes are programmed, completed by the new holder, reconstructed, patrolled, rebuilt, or lost (R300 to R304, R308 to R312).
Where the spec leaves a choice, the model's own is stated: log entries 115 and 124. -/
def Obligations.StripesAreProgrammedKeptAndLost : Prop :=
  (∀ (s : State) (k : Nat) (y : Stripe), s.stripe k = some y → y.st = .opened → y.full = false → y.kind = .destage →
    Completes (.destageStripeProgram k) s (fun t => t.stripe k = some { y with full := true } ∧
      t.out = .program k (List.range (y.d - 1)) :: s.out ∧ t.regs = s.regs)) ∧
  (∀ (s : State) (k : Nat) (y : Stripe), s.stripe k = some y → y.st = .opened → y.full = false → y.kind = .reloc →
    Completes (.destageStripeProgram k) s (fun t => t.stripe k = some { y with full := true } ∧
      t.out = .program k (List.range (y.d + y.p)) :: s.out)) ∧
  (∀ (s : State) (a : StripeAt) (f : List Found) (y : Stripe), s.ownsPg a.pg = true → s.stripe a.id = some y → y.kind = .destage →
    y.st = .opened → y.ops = [] → y.sif = none → y.failed = [] → y.d + y.p ≤ f.length → (∀ x ∈ f, x = .valid) →
    Completes (.openStripeComplete a f) s (fun t => t.regs = s.regs ∧ ∃ z, t.stripe a.id = some z ∧ z.st = .closed ∧ z.failed = [] ∧
      ∀ m < y.d + y.p, z.passed.mem m = true)) ∧
  (∀ (s : State) (k : Nat) (y : Stripe) (bad : List (Nat × List Nat)), s.stripe k = some y →
    Completes (.reconstruct k bad) s (fun t => t.str = s.str ∧ t.rd Fld.STR_STAT_RECON_COUNT =
      satAdd 64 (s.rd Fld.STR_STAT_RECON_COUNT) (bad.filter (fun b => y.solvable b.2)).length)) ∧
  (∀ (s : State) (k : Nat) (y : Stripe) (b : Band) (bad : List (Nat × List Nat)), s.stripe k = some y →
    s.str.bands.look (bandOf k) = some b → (∃ x ∈ bad, y.solvable x.2 = false) → (∀ e ∈ s.map.chunks, e.2.stripe ≠ k) →
    Completes (.stripeLost k bad) s (fun t => t.rd Fld.STR_ERR_STRIPE_LOST = 1 ∧ t.str.lostTable = s.str.lostTable ∧
      ∃ z, t.stripe k = some z ∧ z.st = .lost)) ∧
  (∀ (s : State), (∀ a ∈ s.str.lostTable, s.namers a = []) →
    Completes .lostChunkSweep s (fun t => t.str.lostTable = [] ∧ t.regs = s.regs ∧ t.map = s.map)) ∧
  (∀ (s : State), s.rdb Fld.STR_CTRL_ENABLE = true → s.rdb Fld.STR_CTRL_PATROL_EN = true →
    Completes .patrolTrigger s (fun t => t.rd Fld.STR_STATUS_PATROLLING = 1 ∧ t.str = s.str)) ∧
  (∀ (s : State) (k : Nat) (y : Stripe) (b : Band) (c : List Nat), s.rdb Fld.STR_STATUS_PATROLLING = true →
    s.patrolled.find? (fun e => e.1 == k) = some (k, y) → s.str.bands.look (bandOf k) = some b →
    Completes (.patrolStripeCheck k [] false c false true) s (fun t => t.str.stripes = s.str.stripes ∧ t.str.patrolCursor = k ∧
      t.rd Fld.STR_PATROL_PROGRESS_PASSES = satAdd 24 (s.rd Fld.STR_PATROL_PROGRESS_PASSES) 1 ∧ t.rd Fld.STR_PATROL_PROGRESS_PCT = 0)) ∧
  (∀ (s : State) (k m : Nat) (y : Stripe) (b : Band), s.rdb Fld.STR_STATUS_PATROLLING = true →
    s.patrolled.find? (fun e => e.1 == k) = some (k, y) → s.stripe k = some y → s.str.bands.look (bandOf k) = some b → b.st = .inUse →
    2 ≤ y.p →
    Completes (.patrolStripeCheck k [] true [m] true false) s (fun t => t.stripe k = some (y.fail m) ∧ ⟨3, bandOf k⟩ ∈ t.gcx.work ∧
      t.rd Fld.STR_STATUS_PATROLLING = 0)) ∧
  (∀ (s : State) (k : Nat) (b : Band), s.rdb Fld.STR_CTRL_ENABLE = true → s.rdb Fld.STR_CTRL_REBUILD_EN = true → s.str.rebuild = [k] →
    s.gcx.work = [] → s.str.bands.look k = some b → b.st = .inUse →
    Completes .rebuildBand s (fun t => t.gcx.work = [⟨1, k⟩] ∧ t.str = s.str))

/-- Spanning stripes: the initiator's update, the holder's application, acknowledgements and the timeout (R305, R307, R347).
Where the spec leaves a choice, the model's own is stated: log entries 125 to 128. -/
def Obligations.SpanningStripesAreUpdated : Prop :=
  (∀ (s : State) (o band row : Nat) (x : WriteOp) (a : NsKv), s.ops.look o = some x → s.kvs.ns.look x.nsid = some a →
    x.accepted = true → x.span = true → a.span = true → s.str.spans.has (spanId x.pg band row) = false → s.admittedPend Blk.PJM = false →
    Completes (.spanUpdate o band row none) s (fun t => ∃ u r, t.str.spans.look (spanId x.pg band row) = some u ∧ u.op = o ∧
      u.step = (s.str.initStep.getD (spanId x.pg band row) 0 + 1) % 65536 ∧ u.sent = false ∧ u.k = a.k ∧ u.m = a.m ∧
      t.pjm.recs.look s.nextJseq = some r ∧ r.body = .sif (spanId x.pg band row) u.step (2 ^ a.k - 1))) ∧
  (∀ (s : State) (m : SpanMsg), m.crcOk = true → m.op = 2 → s.str.spanStep.look (m.stripe * 32 + m.member) ≠ some m.step →
    s.str.spanIn.has (m.stripe * 32 + m.member) = false → s.adm.nss.has spanNs = true →
    Completes (.spanMessageReceive m) s (fun t => t.str.spanIn.look (m.stripe * 32 + m.member) = some m ∧ t.nextOp = s.nextOp + 1 ∧
      t.regs = s.regs ∧ ∃ x, t.ops.look s.nextOp = some x ∧ x.src = .span (m.stripe * 32 + m.member) m.step ∧ x.kind = .kvPut ∧
        x.data = [m.payload])) ∧
  (∀ (s : State) (m : SpanMsg), m.crcOk = true → m.op < 3 → s.str.spanStep.look (m.stripe * 32 + m.member) = some m.step →
    Completes (.spanMessageReceive m) s (fun t => t.str = s.str ∧ t.ops = s.ops ∧
      t.out = .span (m.initHead / 2) { m with op := 3, status := STS_OK, payload := 0 } :: s.out)) ∧
  (∀ (s : State) (m : SpanMsg), m.crcOk = true → m.op < 2 → s.str.spanStep.look (m.stripe * 32 + m.member) = none →
    Completes (.spanMessageReceive m) s (fun t => t.str = s.str ∧ t.ops = s.ops ∧
      .span (m.initHead / 2) { m with op := 3, status := STS_SEQ_STALE, payload := 0 } ∈ t.out)) ∧
  (∀ (s : State) (m : SpanMsg) (u : SpanUpd) (j : Nat), s.str.spans.look m.stripe = some u → m.crcOk = true → m.op = 3 → m.step = u.step →
    u.members.mem m.member = true → m.status = STS_OK → u.members.mem j = true → j ≠ m.member → u.acked.mem j = false →
    u.failed.mem j = false →
    Completes (.spanAckReceive m) s (fun t => t.regs = s.regs ∧ t.str.spans.look m.stripe =
      some { u with acked := u.acked.insert m.member, failed := u.failed.remove m.member })) ∧
  (∀ (s : State) (k : Nat) (u : SpanUpd), s.str.spans.look k = some u → u.sent = true →
    u.members.filter (fun m => !u.acked.mem m && !u.failed.mem m) ≠ [] → u.tries < s.rd Fld.STR_SPAN_CFG_RETRIES →
    s.aon.leaseEnd = none →
    Completes (.spanAckTimeout k) s (fun t => t.str.spans.look k = some { u with tries := u.tries + 1, since := t.now } ∧
      t.now = max s.now (u.since + s.rd Fld.STR_SPAN_CFG_ACK_TMO_US * unitsPerUs)))

/-- Victims are chosen, relocated, erased and rescored; the sweep frees held bands (R316 to R325).
Where the spec leaves a choice, the model's own is stated: log entries 129 to 134. -/
def Obligations.BandsAreReclaimed : Prop :=
  (∀ (s : State) (k : Nat) (b : Band) (l : List GcxWork), s.admittedPend Blk.GCX = false → s.rdb Fld.GCX_CTRL_ENABLE = true →
    s.gcx.work = ⟨1, k⟩ :: l → s.eligible k = true → s.str.bands.look k = some b → s.tableFull = false → s.victimFits k = true →
    Completes .gcxVictimChoice s (fun t => t.str.bands.look k = some { b with st := .claimed } ∧ (∀ w ∈ t.gcx.work, w.band ≠ k) ∧
      t.regs = s.regs)) ∧
  (∀ (s : State) (k : Nat) (b : Band) (l : List (Nat × StripeAt × Nat)), s.str.bands.look k = some b → b.st = .claimed →
    s.ownsPg (k % 65536) = true → s.liveChunks k = [] →
    Completes (.relocationClaim k l) s (fun t => t.str.bands.look k = some { b with st := .copied } ∧ t.map = s.map)) ∧
  (∀ (s : State) (k src d : Nat) (b : Band) (c : Chunk) (a : StripeAt) (y : Stripe), s.str.bands.look k = some b → b.st = .claimed →
    s.ownsPg (k % 65536) = true → s.liveChunks k = [(src, c)] → s.gcx.moves = [] → a.pg = k % 65536 → bandOf a.id ≠ k →
    s.stripe a.id = some y → y.kind = .reloc → y.st = .opened → y.full = false → s.idxOfChunk src = none →
    (s.adm.nss.look c.nsid).any (fun n => n.dedup) = false →
    s.map.chunks.has (putBits (putBits d 52 11 (bitsOf src 52 11)) 63 1 (bitsOf src 63 1)) = false →
    Completes (.relocationClaim k [(src, a, d)]) s (fun t => t.str.bands.look k = some { b with st := .copied } ∧
      t.map.chunks.look (putBits (putBits d 52 11 (bitsOf src 52 11)) 63 1 (bitsOf src 63 1)) = some { c with stripe := a.id } ∧
      t.rd Fld.GCX_STAT_RELOC_BYTES = satAdd 64 (s.rd Fld.GCX_STAT_RELOC_BYTES) (slotBytes src))) ∧
  (∀ (s : State) (k h : Nat) (y : Stripe) (m : GcxMove) (e : IdxEntry) (c : Chunk), s.stripe k = some y → y.kind = .reloc → y.st = .closed →
    s.gcx.moves = [m] → m.stripe = k → m.recorded = false → s.idxOfChunk m.src = some (h, e) → s.map.chunks.look m.src = some c →
    s.admittedPend Blk.PJM = false →
    Completes (.relocationBatchRecord k) s (fun t => t.gcx.moves = [{ m with recorded := true }] ∧
      ∃ r, t.pjm.recs.look s.nextJseq = some r ∧ r.body = .mapDelta
        [{ kind := 5, reloc := true, nsid := c.nsid, laddr := h, addr := m.dst, wseq := c.wseq, pg := c.pg }])) ∧
  (∀ (s : State) (k : Nat) (b : Band), s.str.bands.look k = some b → b.st = .copied → b.waits = [] → b.pins = [] → s.gcx.table = [] →
    s.gcx.moves.all (fun m => m.recorded) = true →
    Completes (.relocationRecordsPersist k) s (fun t => t.regs = s.regs ∧ (∀ m ∈ t.gcx.moves, s.moveBand m ≠ k) ∧
      ∃ x, t.str.bands.look k = some x ∧ x.st = .erasable)) ∧
  (∀ (s : State) (k : Nat) (b : Band), s.str.bands.look k = some b → b.st = .erasable → s.ownsPg (k % 65536) = true →
    s.liveChunks k = [] → b.members ≠ [] → (s.block (b.members.getD 0 0)).bad = false →
    Completes (.bandErase k) s (fun t => t.bandChunks k = [] ∧ t.regs = s.regs ∧ .erase (blockAddr (b.members.getD 0 0)) ∈ t.out ∧
      ∃ x, t.str.bands.look k = some x ∧ x.st = .erasing)) ∧
  (∀ (s : State), s.rdb Fld.GCX_CTRL_ENABLE = true → s.gcx.sweeping = false → s.admittedPend Blk.PJM = false →
    Completes .referenceSweep s (fun t => t.gcx.passes = s.gcx.passes + 1 ∧ t.gcx.sweeping = true ∧ t.gcx.table = s.gcx.table)) ∧
  (∀ (s : State) (k : Nat) (b : Band), s.gcx.sweeping = true → s.gcx.sweepRecs = [] → s.str.bands.look k = some b → b.st = .held →
    b.heldPass < s.gcx.passes →
    Completes .referenceSweepEnd s (fun t => t.gcx.sweeping = false ∧ t.str.bands.look k = some { b with st := .erasable } ∧
      t.rd Fld.GCX_SWEEP_PASSES_COUNT = satAdd 32 (s.rd Fld.GCX_SWEEP_PASSES_COUNT) 1)) ∧
  (∀ (s : State) (k : Nat) (b : Band), s.rdb Fld.GCX_CTRL_ENABLE = true → s.str.bands = [(k, b)] → b.kind ≠ .metadata →
    s.eligible k = true → s.stripesOf k ≠ [] → s.liveChunks k = [] → b.members ≠ [] → (s.block (b.members.getD 0 0)).bad = false →
    Completes .gcxRescore s (fun t => t.bandChunks k = [] ∧ ∃ x, t.str.bands.look k = some x ∧ x.st = .erasing)) ∧
  (∀ (s : State) (k : Nat) (b : Band) (l : List (Nat × StripeAt × Nat)), s.str.bands = [(k, b)] → b.st = .claimed → b.slc = true →
    b.kind = .buffer → s.ownsPg (k % 65536) = true → s.liveChunks k = [] →
    Completes (.foldBand l) s (fun t => t.str.bands.look k = some { b with st := .copied } ∧ t.map = s.map))

/-- Enore sessions are opened, resumed, closed and forgotten, and their responses written (R335, R336, R342, R50).
Placement epochs are received, applied, fetched and granted (R330, R333, R349).
Where the spec leaves a choice, the model's own is stated: log entries 185 and 188 to 190. -/
def Obligations.SessionsAndPlacementEpochs : Prop :=
  (∀ (s : State) (r : SessReq) (q : Qp) (i : Nat), s.enabled Blk.KVS = true → s.qpReady r.qp = some q → s.sessRefusal r q.tenant = none →
    s.freeWin = some i → s.admittedPend Blk.PJM = false →
    Completes (.enoreSessionOpen r) s (fun t => t.kvs.nextSession = s.kvs.nextSession + 1 ∧
      ∃ x, t.sess (s.headId * 2 ^ 48 + s.kvs.nextSession % 2 ^ 48) = some x ∧ x.client = r.client ∧ x.nsid = r.nsid ∧ x.qp = r.qp ∧
        x.attached = true ∧ x.cmds = [] ∧ x.closedAt = none ∧ x.window = i)) ∧
  (∀ (s : State) (r : SessReq) (q : Qp) (st : Nat), s.enabled Blk.KVS = true → s.qpReady r.qp = some q →
    s.sessRefusal r q.tenant = some st →
    Completes (.enoreSessionOpen r) s (fun t => t.kvs = s.kvs ∧ t.regs = s.regs ∧
      .sessReply r.qp 0x81 st 0 0 (s.rd Fld.KVS_EPOCH_EPOCH) 0 0 ∈ t.out)) ∧
  (∀ (s : State) (r : SessReq) (q : Qp) (i : Nat) (x : Sess) (w : RWin), s.enabled Blk.KVS = true → s.qpReady r.qp = some q →
    s.sessRefusal r q.tenant = none → s.freeWin = some i → s.sess r.session = some x → x.attached = false →
    s.wins.look (winSession r.session) = some w →
    Completes (.enoreSessionAttach r) s (fun t => t.wins = s.wins ∧ t.kvs.nextSession = s.kvs.nextSession ∧
      ∃ y, t.sess r.session = some y ∧ y.attached = true ∧ y.qp = r.qp ∧ y.window = i ∧ y.nextCmd = x.nextCmd ∧ y.resps = [])) ∧
  (∀ (s : State) (k : Nat) (x : Sess) (r : SessResp) (l : List SessResp) (q : Qp), s.sess k = some x → x.resps = r :: l →
    x.attached = true → r.slot < 2 ^ 13 → s.qpReady x.qp = some q → r.opcode ≠ opClose →
    Completes (.enoreResponseWrite k 0) s (fun t => t.sess k = some { x with resps := l } ∧ t.regs = s.regs ∧
      .enoreResp k (s.rd Fld.KVS_EPOCH_EPOCH) r x.respImm ∈ t.out)) ∧
  (∀ (s : State) (k : Nat) (x : Sess), s.sess k = some x → s.rd Fld.KVS_ENORE_IDLE_S ≠ 0 → x.closedAt = none → x.cmds = [] → x.resps = [] →
    s.aon.leaseEnd = none →
    Completes (.sessionIdleExpiry k) s (fun t => t.now = max s.now (x.lastUse + s.rd Fld.KVS_ENORE_IDLE_S * 1000000 * unitsPerUs) ∧
      ∃ y, t.sess k = some y ∧ y.closedAt = some t.now ∧ y.attached = false)) ∧
  (∀ (s : State) (k at_ : Nat) (x : Sess), s.sess k = some x → x.closedAt = some at_ → x.cmds = [] → s.aon.leaseEnd = none →
    Completes (.sessionKeepExpiry k) s (fun t => t.sess k = none ∧ t.wins.look (winSession k) = none ∧
      t.now = max s.now (at_ + s.rd Fld.KVS_LIMITS_KEEP_S * 1000000 * unitsPerUs))) ∧
  (∀ (s : State) (e at_ : Nat) (l : List PlaceChange), s.rd Fld.KVS_EPOCH_EPOCH < e →
    Completes (.epochUpdateReceive e at_ l) s (fun t => t.kvs.updates.look e = some ⟨at_, l⟩ ∧
      t.rd Fld.KVS_EPOCH_EPOCH = s.rd Fld.KVS_EPOCH_EPOCH ∧ t.kvs.buckets = s.kvs.buckets)) ∧
  (∀ (s : State) (b a at_ : Nat) (p : Bool), s.kvs.updates.look (s.rd Fld.KVS_EPOCH_EPOCH + 1) = some ⟨at_, [.bucket b a p]⟩ →
    s.kvs.outC = none → s.kvs.inC = none → s.aon.leaseEnd = none →
    Completes .epochUpdateApply s (fun t => t.rd Fld.KVS_EPOCH_EPOCH = (s.rd Fld.KVS_EPOCH_EPOCH + 1) % 2 ^ 32 ∧
      t.bucket (b % 2 ^ 20) = { array := a % 2 ^ 15, pinned := p, moving := false } ∧ s.now ≤ t.now ∧
      t.kvs.updates.look (s.rd Fld.KVS_EPOCH_EPOCH + 1) = none)) ∧
  (∀ (s : State), s.epochsKnown = false →
    Completes (.epochFetch none) s (fun t => t.rd Fld.KVS_ERR_EPOCH_FETCH = 1 ∧ t.kvs = s.kvs)) ∧
  (∀ (s : State) (e at_ : Nat) (l : List PlaceChange), s.epochsKnown = false → s.kvs.sessions = [] → s.rd Fld.KVS_EPOCH_EPOCH < e →
    Completes (.epochFetch (some [(e, at_, l)])) s (fun t => t.kvs.updates.look e = some ⟨at_, l⟩ ∧ t.kvs.buckets = s.kvs.buckets)) ∧
  (∀ (s : State) (a at_ : Nat) (l : List PlaceChange), s.enabled Blk.KVS = true → s.isAuthority = true →
    s.ctNs + s.rd Fld.KVS_CARAVAN_LEAD_MS * 1000000 ≤ at_ →
    Completes (.authorityRequestReceive a (.update s.nextGrant at_ l)) s (fun t => t.kvs.granted.look s.nextGrant = some ⟨at_, l⟩ ∧
      t.regs = s.regs ∧ t.out = .placeMsg a 1 s.nextGrant at_ [] :: s.out)) ∧
  (∀ (s : State) (a f h : Nat), s.enabled Blk.KVS = true → s.isAuthority = true →
    Completes (.authorityRequestReceive a (.report f h)) s (fun t => t.kvs.fills.look a = some (f, h) ∧ t.regs = s.regs ∧
      t.kvs.granted = s.kvs.granted))

/-- Enore commands are read and routed, and run when routed (R334, R337 to R344).
Where the spec leaves a choice, the model's own is stated: log entries 180, 186, 187, 192 and 193. -/
def Obligations.EnoreCommandsRun : Prop :=
  (∀ (s : State) (k imm : Nat) (e : EnoreRec) (x : Sess) (w : RWin), s.enabled Blk.KVS = true → s.sess k = some x → x.attached = true →
    s.admittedPend Blk.KVS = false → imm / 65536 % 256 = 0 → x.busy (imm % 4096 % 2 ^ x.slotsLog2) = false → e.opcode = opPut →
    e.epoch ≤ s.rd Fld.KVS_EPOCH_EPOCH → s.recordStatus x e = none → s.KeyHere e.nsid e.key e.keyLen →
    s.wins.look (winSession k) = some w → w.judge e.seq = .free →
    Completes (.enoreCommandImmediate k imm [e]) s (fun t =>
      t.wins.look (winSession k) = some ((w.take e.seq).mark e.seq (s.bucketOf e.nsid e.key e.keyLen)) ∧
      ∃ y c, t.sess k = some y ∧ y.nextCmd = x.nextCmd + 1 ∧ y.cmds.look x.nextCmd = some c ∧ c.e = e ∧ c.routed = true ∧ c.stores = true ∧
        c.slot = imm % 4096 % 2 ^ x.slotsLog2)) ∧
  (∀ (s : State) (k n v : Nat) (x : Sess) (c : SessCmd), s.EnoreGo k n x c opPut →
    Completes (.put k n (some v)) s (fun t => s.Starts t (.enore k n) .kvPut c.e.nsid c.e.key c.e.keyLen)) ∧
  (∀ (s : State) (k n : Nat) (x : Sess) (c : SessCmd), s.EnoreGo k n x c opDelete →
    Completes (.delete k n) s (fun t => s.Starts t (.enore k n) .kvDelete c.e.nsid c.e.key c.e.keyLen)) ∧
  (∀ (s : State) (k n : Nat) (x : Sess) (c : SessCmd), s.EnoreGo k n x c opGet →
    s.ServesRead (.enore k n) c.e.nsid (.get c.e.key c.e.keyLen c.e.len) →
    Completes (.get k n true false) s (fun t => t.map = s.map ∧
      t.EnoreEnds k c.e.seq (s.readNow c.e.nsid (.get c.e.key c.e.keyLen c.e.len)).status)) ∧
  (∀ (s : State) (k n : Nat) (x : Sess) (c : SessCmd) (l : ListReq), s.EnoreGo k n x c opList →
    l = { bucket := c.e.arg % 2 ^ 20, key := c.e.key, keyLen := c.e.keyLen, excl := c.e.excl, all := false, len := c.e.len } →
    s.ServesRead (.enore k n) c.e.nsid (.list l) →
    Completes (.list k n true) s (fun t => t.map = s.map ∧ t.EnoreEnds k c.e.seq STS_OK)) ∧
  (∀ (s : State) (k n : Nat) (x : Sess) (c : SessCmd), s.EnoreGo k n x c opExist →
    s.ServesRead (.enore k n) c.e.nsid (.exist c.e.key c.e.keyLen) →
    Completes (.exist k n) s (fun t => t.map = s.map ∧
      t.EnoreEnds k c.e.seq (s.readNow c.e.nsid (.exist c.e.key c.e.keyLen)).status)) ∧
  (∀ (s : State) (k n : Nat) (x : Sess) (c : SessCmd), s.EnoreGo k n x c opState → x.cmds = [(n, c)] → 160 ≤ c.e.len →
    Completes (.state k n true) s (fun t => t.EnoreEnds k c.e.seq STS_OK ∧
      .enoreData k c.e.addr [stateRecord (s.wins.getD (winSession k) (RWin.fresh 64 0 0)) []] ∈ t.out)) ∧
  (∀ (s : State) (k n : Nat) (x : Sess) (c : SessCmd), s.EnoreGo k n x c opClose →
    Completes (.close k n) s (fun t => t.EnoreEnds k c.e.seq STS_OK ∧ t.regs = s.regs))

/-- A Caravan runs through its phases at both ends (R349 to R354).
Where the spec leaves a choice, the model's own is stated: log entries 181, 183, 184, 191 and 192. -/
def Obligations.CaravansFollowTable156 : Prop :=
  (∀ (s : State), s.enabled Blk.KVS = true → (s.aon.side == .b && s.linkUp) = false →
    Completes (.balancingRound none) s (fun t => t.kvs.heat = [] ∧ t.kvs.outC = s.kvs.outC ∧ t.regs = s.regs)) ∧
  (∀ (s : State) (mf mh a h b : Nat) (l : List Nat), s.enabled Blk.KVS = true → (s.aon.side == .b && s.linkUp) = false →
    s.rdb Fld.KVS_CTRL_BAL_EN = true → s.kvs.outC = none → mf + s.rd Fld.KVS_BAL_SKEW_PCT * 10000 < s.fillPpm →
    s.rankBuckets s.bucketBytes = b :: l → a ≠ s.arrayId →
    Completes (.balancingRound (some (mf, mh, a, h))) s (fun t => t.rd Fld.KVS_STATUS_OUT_PHASE = 1 ∧
      ∃ c, t.kvs.outC = some c ∧ c.peer = a ∧ c.buckets = b :: l)) ∧
  (∀ (s : State) (a n : Nat) (l : List Nat), s.enabled Blk.KVS = true → s.rdb Fld.KVS_CTRL_CARAVAN_IN = false →
    Completes (.caravanPropose a l n none) s (fun t => t.out = .caravanMsg a 0 l n :: s.out ∧ t.kvs = s.kvs ∧ t.pgs = s.pgs)) ∧
  (∀ (s : State) (a n : Nat) (l : List Nat), s.enabled Blk.KVS = true → s.rdb Fld.KVS_CTRL_CARAVAN_IN = true → s.kvs.inC = none → l ≠ [] →
    (∀ e ∈ s.proposalNeed l n, e.2 ≤ s.pgRoom (s.pg e.1) ∧ s.setState (s.pg e.1).oset = setOwned) →
    Completes (.caravanPropose a l n none) s (fun t => t.out = .caravanMsg a 2 l n :: s.out ∧ t.rd Fld.KVS_STATUS_IN_PHASE = 2 ∧
      ∃ c, t.kvs.inC = some c ∧ c.peer = a ∧ c.buckets = l ∧ c.reserve = s.proposalNeed l n)) ∧
  (∀ (s : State) (c : Caravan) (n : Nat) (l : List Nat), s.kvs.outC = some c → s.rd Fld.KVS_STATUS_OUT_PHASE = 1 →
    Completes (.caravanPropose c.peer l n (some true)) s (fun t => t.rd Fld.KVS_STATUS_OUT_PHASE = 2 ∧
      (∀ b ∈ c.buckets, (t.bucket b).moving = true) ∧ ∃ d, t.kvs.outC = some d ∧ d.batch = c.batch + 1 ∧ d.buckets = c.buckets)) ∧
  (∀ (s : State) (c : Caravan) (b : Batch) (r : BatchRec), s.rd Fld.KVS_STATUS_IN_PHASE = 2 → s.kvs.inC = some c → b.crcOk = true →
    b.srcArray = c.peer → b.kind = 1 → c.batch < b.seq → b.records = [r] → r.kind = 4 →
    Completes (.caravanCopyBatch b) s (fun t => t.nextOp = s.nextOp + 1 ∧ (∃ x, t.ops.look s.nextOp = some x ∧ x.kind = .kvPut ∧
      x.nsid = r.nsid ∧ x.key = r.key ∧ x.valueId = r.version) ∧ ∃ d, t.kvs.inC = some d ∧ d.batch = b.seq ∧ d.peer = c.peer)) ∧
  (∀ (s : State) (c : Caravan) (e at_ : Nat), s.kvs.outC = some c → s.rd Fld.KVS_STATUS_OUT_PHASE = 2 →
    ((s.rangeRecords c (max 1 c.since)).map (fun r => r.len)).sum < s.rd Fld.KVS_CARAVAN_DELTA_MIB * 1048576 →
    s.rd Fld.KVS_EPOCH_EPOCH < e → s.ctNs + s.rd Fld.KVS_CARAVAN_LEAD_MS * 1000000 ≤ at_ →
    Completes (.caravanGrant (some (e, at_))) s (fun t => t.rd Fld.KVS_STATUS_OUT_PHASE = 3 ∧
      t.kvs.outC = some { c with epoch := e, tc := at_ } ∧ ∃ u, t.kvs.updates.look e = some u ∧ u.tEff = at_)) ∧
  (∀ (s : State) (c : Caravan), s.kvs.outC = some c → s.rd Fld.KVS_STATUS_OUT_PHASE = 4 → s.ops = [] → s.wins = [] →
    Completes .caravanCutover s (fun t => t.rd Fld.KVS_STATUS_OUT_PHASE = 4 ∧ ∃ b l, t.out = .batch c.peer b :: l ∧ b.last = true ∧
      b.seq = c.batch + 1 ∧ b.kind = 1)) ∧
  (∀ (s : State) (c : Caravan) (b : Batch) (l : List (Nat × Nat × List (Nat × Nat))), s.kvs.inC = some c →
    s.rd Fld.KVS_STATUS_IN_PHASE = 4 → b.crcOk = true → b.srcArray = c.peer → b.last = true → b.records = [] →
    Completes (.caravanInstall b l) s (fun t => t.rd Fld.KVS_STATUS_IN_PHASE = 5 ∧ t.ops = s.ops)) ∧
  (∀ (s : State) (c : Caravan) (b : Batch), s.kvs.inC = some c → s.rd Fld.KVS_STATUS_IN_PHASE = 5 → s.ops = [] → b.records = [] →
    s.kvs.held = [] →
    Completes (.caravanInstall b []) s (fun t => t.rd Fld.KVS_STATUS_IN_PHASE = 0 ∧ t.kvs.inC = none ∧
      t.out = .caravanMsg c.peer 5 c.buckets 0 :: s.out)) ∧
  (∀ (s : State) (c : Caravan), s.kvs.outC = some c → s.rd Fld.KVS_STATUS_OUT_PHASE = 5 → s.clusterKeys = [] →
    Completes .caravanRelease s (fun t => t.kvs.outC = none ∧ t.rd Fld.KVS_STATUS_OUT_PHASE = 0 ∧ t.ops = s.ops)) ∧
  (∀ (s : State) (c : Caravan), s.kvs.outC = some c → s.rd Fld.KVS_STATUS_OUT_PHASE = 1 →
    Completes (.caravanAbort true) s (fun t => t.kvs.outC = none ∧ t.rd Fld.KVS_STATUS_OUT_PHASE = 0 ∧
      t.rd Fld.KVS_ERR_CARAVAN_ABORT = 1 ∧ t.out = .caravanMsg c.peer 0 c.buckets 0 :: s.out)) ∧
  (∀ (s : State) (c : Caravan), s.kvs.inC = some c → s.rd Fld.KVS_STATUS_IN_PHASE = 2 →
    Completes (.caravanAbort false) s (fun t => t.kvs.inC = none ∧ t.rd Fld.KVS_STATUS_IN_PHASE = 0 ∧
      t.rd Fld.KVS_ERR_CARAVAN_ABORT = 1 ∧ t.nextOp = s.nextOp + c.keys.length)) ∧
  (∀ (s : State) (k n at_ : Nat) (l : List HeldReq) (x : Sess) (c : SessCmd), s.kvs.held = ⟨.enore k n, at_⟩ :: l → s.sess k = some x →
    x.cmds.look n = some c → s.aon.leaseEnd = none →
    Completes .caravanHoldExpiry s (fun t => t.kvs.held = l ∧ t.rd Fld.KVS_ERR_HOLD_EXPIRED = 1 ∧ t.EnoreEnds k c.e.seq STS_NOT_OWNER ∧
      t.now = max s.now (at_ + s.rd Fld.KVS_CARAVAN_HOLD_US * unitsPerUs)))

/-- The commands of `SNP_CMD` and what their flushes bring (R402 to R408, R411).
Cuts hold, seal and become ready; schedules take them (R404 to R406).
Where the spec leaves a choice, the model's own is stated: log entries 170 and 172 to 176. -/
def Obligations.SnapshotsAndCuts : Prop :=
  (∀ (s : State) (ns : Nat), s.SnpTakes ns → s.spanNs ns = false → s.snp.replicas.has ns = false →
    s.ctNs + s.rd Fld.SNP_CFG_LEAD_MS * 1000000 ≤ s.rd Fld.SNP_CMD_ARG_T → s.epochLimit ns = false →
    Completes .snapCreate s (fun t => t.snp.nextEpoch = s.snp.nextEpoch + 1 ∧ t.rd Fld.SNP_CMD_RESULT_BUSY = 1 ∧
      t.snp.cat.look s.snp.nextEpoch = some (CatEntry.cutAt ns (s.rd Fld.SNP_CMD_ARG_T) (s.lastFrozen ns) false) ∧
      t.snp.flushes = s.snp.flushes ++ [.create s.snp.nextEpoch])) ∧
  (∀ (s : State) (ns : Nat), s.SnpTakes ns → s.spanNs ns = false → s.snp.replicas.has ns = false →
    s.rd Fld.SNP_CMD_ARG_T < s.ctNs + s.rd Fld.SNP_CFG_LEAD_MS * 1000000 →
    Completes .snapCreate s (fun t => t.snp = s.snp ∧ t.rd Fld.SNP_CMD_RESULT_STATUS = STS_CUT_TOO_LATE ∧
      t.rd Fld.SNP_CMD_RESULT_BUSY = 0 ∧ t.rd Fld.SNP_CMD_RESULT_DONE = 1 ∧ t.rd Fld.SNP_ERR_CUT_LATE = 1)) ∧
  (∀ (s : State) (ns e : Nat) (c : CatEntry), s.SnpTakes ns → s.rd Fld.SNP_CMD_ARG_EPOCH = e → s.cat e = some c → c.nsid = ns →
    c.cloneSrc = false → c.linkBase = false → c.expose = 0 → c.state = epReady →
    Completes .snapDelete s (fun t => t.cat e = some { c with state := epDeleting } ∧
      t.snp.flushes = s.snp.flushes ++ [.remove e true])) ∧
  (∀ (s : State) (ns e : Nat) (c : CatEntry), s.SnpTakes ns → s.rd Fld.SNP_CMD_ARG_EPOCH = e → s.cat e = some c → c.nsid = ns →
    c.cloneSrc = true ∨ c.linkBase = true ∨ c.expose ≠ 0 →
    Completes .snapDelete s (fun t => t.snp = s.snp ∧ t.map = s.map ∧ t.rd Fld.SNP_CMD_RESULT_STATUS = STS_SNAP_IN_USE ∧
      t.rd Fld.SNP_CMD_RESULT_BUSY = 0)) ∧
  (∀ (s : State) (ns e : Nat) (c : CatEntry), s.SnpTakes ns → s.rd Fld.SNP_CMD_ARG_EPOCH = e → s.cat e = some c → c.nsid = ns →
    c.state = epReady → s.adm.nss.has (s.rd Fld.SNP_CMD_ARG_NEW_NSID) = false → s.rd Fld.SNP_CMD_ARG_NEW_NSID ≠ 0 →
    s.epochLimit (s.rd Fld.SNP_CMD_ARG_NEW_NSID) = false →
    Completes .snapClone s (fun t => t.snp.nextEpoch = s.snp.nextEpoch + 1 ∧
      t.snp.flushes = s.snp.flushes ++ [.clone (s.rd Fld.SNP_CMD_ARG_NEW_NSID) e] ∧
      ∃ y, t.cat s.snp.nextEpoch = some y ∧ y.nsid = s.rd Fld.SNP_CMD_ARG_NEW_NSID ∧ y.srcNsid = ns ∧ y.pred = e ∧ y.state = epActive)) ∧
  (∀ (s : State) (ns : Nat), s.SnpTakes ns → s.snp.replicas.has ns = true →
    Completes .replicaPromote s (fun t => t.snp.flushes = s.snp.flushes ++ [.promote ns] ∧ t.snp.replicas = s.snp.replicas ∧
      t.map = s.map)) ∧
  (∀ (s : State) (ns e : Nat) (c : CatEntry), s.SnpTakes ns → s.rd Fld.SNP_CMD_ARG_EPOCH = e → s.cat e = some c → c.nsid = ns →
    c.state = epReady → c.expose = 0 → s.adm.nss.has (s.rd Fld.SNP_CMD_ARG_NEW_NSID) = false → s.rd Fld.SNP_CMD_ARG_NEW_NSID ≠ 0 →
    Completes .snapAttach s (fun t => t.cat e = some { c with expose := s.rd Fld.SNP_CMD_ARG_NEW_NSID } ∧
      t.snp.flushes = s.snp.flushes ++ [.attach e])) ∧
  (∀ (s : State) (e : Nat) (c : CatEntry) (l : List FlushOf), s.snp.flushes = .create e :: l → s.cat e = some c → c.scheduled = false →
    s.snp.heldNs.mem c.nsid = false →
    Completes (.catalogueFlushDone true) s (fun t => t.snp.flushes = l ∧ t.cat e = some { c with armed := true } ∧
      t.rd Fld.SNP_CMD_RESULT_STATUS = STS_OK ∧ t.rd Fld.SNP_CMD_RESULT_DONE = 1 ∧ t.rd Fld.SNP_CMD_RESULT_EPOCH = e % 2 ^ 32)) ∧
  (∀ (s : State) (e : Nat) (c : CatEntry) (l : List FlushOf), s.snp.flushes = .create e :: l → s.cat e = some c → c.scheduled = false →
    Completes (.catalogueFlushDone false) s (fun t => t.snp.flushes = .withdraw e :: l ∧ t.snp.cat = s.snp.cat ∧ t.regs = s.regs)) ∧
  (∀ (s : State) (e : Nat) (c : CatEntry) (l : List FlushOf), s.snp.flushes = .ready e :: l → s.cat e = some c → c.sched = 0 →
    Completes (.catalogueFlushDone true) s (fun t => t.snp.flushes = l ∧ t.cat e = some { c with state := epReady })) ∧
  (∀ (s : State) (e : Nat) (k : Bool) (l : List FlushOf), s.snp.flushes = .remove e k :: l →
    Completes (.catalogueFlushDone true) s (fun t => t.snp.flushes = l ∧ t.cat e = none ∧ t.map = s.map)) ∧
  (∀ (s : State) (e : Nat) (c : CatEntry), s.cat e = some c → c.state = epPending → c.armed = false → s.ownsNs c.nsid = true →
    s.snp.heldNs.mem c.nsid = false → s.aon.leaseEnd = none →
    Completes (.cutInstant e) s (fun t => t.snp.heldNs.mem c.nsid = true ∧ t.rd Fld.SNP_ERR_CUT_HELD = 1 ∧ t.snp.cat = s.snp.cat ∧
      s.now ≤ t.now)) ∧
  (∀ (s : State) (e : Nat) (c : CatEntry), s.cat e = some c → c.state = epPending → c.armed = true → s.ownsNs c.nsid = true →
    e < s.snp.nextEpoch → s.aon.leaseEnd = none →
    Completes (.cutInstant e) s (fun t => t.snp.nextEpoch = s.snp.nextEpoch + 1 ∧
      (∃ y, t.cat e = some y ∧ y.state = epSealing ∧ y.cut = c.cut ∧ y.nsid = c.nsid) ∧
      ∃ y, t.cat s.snp.nextEpoch = some y ∧ y.state = epActive ∧ y.nsid = c.nsid ∧ y.pred = e)) ∧
  (∀ (s : State) (e : Nat) (c : CatEntry), s.cat e = some c → c.state = epSealing → s.ownsNs c.nsid = true → s.stampOpen c = false →
    s.snp.flushes.any (fun f => f == .ready e) = false →
    Completes (.cutReady e) s (fun t => t.snp.flushes = s.snp.flushes ++ [.ready e] ∧ t.snp.cat = s.snp.cat ∧ t.regs = s.regs)) ∧
  (∀ (s : State) (e : Nat) (c : CatEntry), s.cat e = some c → s.stampOpen c = true →
    Completes (.cutReady e) s (fun t => t.snp = s.snp ∧ t.regs = s.regs)) ∧
  (∀ (s : State) (k ns at_ : Nat) (n : Ns), s.enabled Blk.SNP = true → 0 < k → k < 32 → s.admittedPend Blk.SNP = false →
    s.adm.nss = [(ns, n)] → (s.snpPolicy ns).1 = k → s.ownsNs ns = true → s.spanNs ns = false → s.snp.replicas = [] → s.snp.cat = [] →
    s.schedDue ns = [at_] →
    Completes (.scheduleCutTrigger k) s (fun t => t.snp.flushes = s.snp.flushes ++ [.create s.snp.nextEpoch] ∧
      ∃ c, t.cat s.snp.nextEpoch = some c ∧ c.cut = at_ ∧ c.nsid = ns ∧ c.state = epSealing ∧ c.scheduled = true ∧ c.sched = k))

/-- Replication links ship deltas and synchronous writes, and fall back when replies fail (R409 to R416).
Where the spec leaves a choice, the model's own is stated: log entries 171 and 177 to 179. -/
def Obligations.LinksShipAndRecover : Prop :=
  (∀ (s : State) (l e ns : Nat) (x : Link) (c : CatEntry), s.enabled Blk.SNP = true → s.admittedPend Blk.SNP = false →
    s.snp.links.look l = some x → s.linkNs l = some ns → s.cat e = some c → s.linkState l = linkAsync → c.nsid = ns → c.state = epReady →
    x.shipping = none → x.base < c.cut →
    Completes (.replicationDeltaShip l e) s (fun t => t.regs = s.regs ∧
      (∃ b, t.out = .batch (s.rd Fld.SNP_RLINK_ARRAY l) b :: s.out ∧ b.kind = 2 ∧ b.cut = c.cut ∧ b.seq = x.nextBatch ∧ b.last = true) ∧
      ∃ y, t.snp.links.look l = some y ∧ y.shipping = some (c.cut, e) ∧ y.nextBatch = x.nextBatch + 1)) ∧
  (∀ (s : State) (ns : Nat) (b : Batch) (r : BatchRec) (x : Replica), s.enabled Blk.SNP = true → s.ownsNs ns = true → b.crcOk = true →
    b.kind = 3 → s.snp.replicas.look ns = some x → x.applied.mem b.seq = false → b.records = [r] → r.kind = 1 → r.len = 1 →
    x.srcWseq.look r.laddr = none →
    Completes (.replicationBatchReceive ns b) s (fun t => s.Starts t (.batch b.link b.seq) .block ns 0 0 ∧
      ∃ y, t.snp.replicas.look ns = some y ∧ y.applied.mem b.seq = true ∧ y.srcWseq.look r.laddr = some r.srcWseq)) ∧
  (∀ (s : State) (l q cut e : Nat) (x : Link) (b : SentBatch), l < 32 → s.snp.links.look l = some x → x.sent.look q = some b → b.b.kind = 2 →
    b.b.last = true → s.linkState l ≠ linkSuspended → x.shipping = some (cut, e) → x.cr = none → s.cat x.baseEpoch = none →
    x.baseEpoch ≠ e →
    Completes (.replicationAckReceive l q STS_OK) s (fun t => t.rd Fld.SNP_RLINK_STAT_LAST_CUT l = cut % 2 ^ 64 ∧
      ∃ y, t.snp.links.look l = some y ∧ y.base = cut ∧ y.baseEpoch = e ∧ y.shipping = none ∧ y.sent.look q = none)) ∧
  (∀ (s : State) (l q : Nat) (x : Link) (b : SentBatch), s.snp.links.look l = some x → x.sent.look q = some b → s.aon.leaseEnd = none →
    Completes (.replicationBatchTimeout l q) s (fun t => t.out = .batch (s.rd Fld.SNP_RLINK_ARRAY l) b.b :: s.out ∧ t.regs = s.regs ∧
      t.now = max s.now (b.at_ + s.rd Fld.SNP_RLINK_SYNC_TMO_US l * unitsPerUs) ∧
      ∃ y, t.snp.links.look l = some y ∧ y.sent.look q = some { b with at_ := t.now })) ∧
  (∀ (s : State) (o l : Nat) (x : WriteOp) (k : Link), s.ops.look o = some x → s.syncLink x.nsid x.tA = some l → x.accepted = true →
    x.synced = false → s.snp.links.look l = some k → k.sent.any (fun e => e.2.op == some o) = false →
    Completes (.syncWriteSend o) s (fun t => t.regs = s.regs ∧ t.ops = s.ops ∧
      ∃ b, t.out = .batch (s.rd Fld.SNP_RLINK_ARRAY l) b :: s.out ∧ b.kind = 3 ∧ b.records = syncRecs x ∧ b.seq = k.nextBatch)) ∧
  (∀ (s : State) (l q : Nat) (x : Link) (b : SentBatch), l < 32 → s.snp.links.look l = some x → x.sent.look q = some b → b.b.kind = 3 →
    s.linkState l = linkSync → s.ops = [] → s.aon.leaseEnd = none →
    Completes (.syncWriteTimeout l q) s (fun t => t.linkState l = linkCatchup ∧
      t.now = max s.now (b.firstAt + 4 * s.rd Fld.SNP_RLINK_SYNC_TMO_US l * unitsPerUs))) ∧
  (∀ (s : State) (l ns : Nat) (x : Link), s.snp.links.look l = some x → s.linkNs l = some ns → s.linkState l = linkCatchup → x.cr = none →
    s.snp.flushes = [] → s.pendingBytes l ns x < 67108864 → s.epochLimit ns = false →
    Completes (.catchupCutArm l) s (fun t => t.snp.flushes = [.internal l s.snp.nextEpoch] ∧ t.regs = s.regs ∧
      ∃ c, t.cat s.snp.nextEpoch = some c ∧ c.nsid = ns ∧ c.cut = s.ctNs + s.rd Fld.SNP_CFG_LEAD_MS * 1000000 ∧ c.armed = false)) ∧
  (∀ (s : State) (l : Nat) (x : Link), l < 32 → s.snp.links.look l = some x → s.linkState l = linkSync → x.sent ≠ [] → s.ops = [] →
    s.aon.leaseEnd = none →
    Completes (.linkSuspend l) s (fun t => t.linkState l = linkSuspended ∧ s.now ≤ t.now ∧ t.map = s.map)) ∧
  (∀ (s : State) (l ns : Nat) (x : Link), s.snp.links.look l = some x → s.linkNs l = some ns → s.aon.leaseEnd = none →
    Completes (.rpoMiss l) s (fun t => t.rd Fld.SNP_ERR_RPO_MISS = 1 ∧ s.now ≤ t.now ∧ t.snp = s.snp))

/-- Loops take samples, drop them when late, are disabled and swap their coefficients; AGE sweeps (R421 to R429, R433).
Where the spec leaves a choice, the model's own is stated: log entries 34, 194 and 195. -/
def Obligations.LoopsSampleAndAgeingSweeps : Prop :=
  (∀ (s : State) (n d : Nat) (b : Bool) (y : Int), s.loopRuns n = true → s.admittedPend Blk.LPE = false → s.timeValid = false →
    (s.loop n).busyUntil ≤ s.now → (s.loop n).fresh = false → (s.loop n).spNext = none → s.rdb Fld.LPE_LOOP_CTRL_SWAP n = false →
    s.rd Fld.LPE_SUP_N n = 0 → s.rd Fld.LPE_LOOP_STATE_STATE n = loopRunning → s.feedback n (some y) = some y → sat32 y = y →
    Completes (.loopSample n b d (some y)) s (fun t => t.rd Fld.LPE_LOOP_STATE_Y n = q16f y ∧
      t.rd Fld.LPE_LOOP_STATE_OUT n = q16f (sampleOf (s.coef Fld.LPE_COEF_KP n) (s.coef Fld.LPE_COEF_KI n) (s.coef Fld.LPE_COEF_KD n)
        (s.coef Fld.LPE_COEF_BIAS n)
        (rampTo (q16 (s.rd Fld.LPE_LOOP_STATE_SP_NOW n)) (q16 (s.rd Fld.LPE_LOOP_SP_SP n)) (q16 (s.rd Fld.LPE_LOOP_RAMP_STEP n)))
        y (q16 (s.rd Fld.LPE_LOOP_STATE_Y n)) (q16 (s.rd Fld.LPE_LOOP_STATE_I n)) (q16 (s.rd Fld.LPE_LOOP_LIM_OUT_MIN n))
        (q16 (s.rd Fld.LPE_LOOP_LIM_OUT_MAX n)) false).out ∧
      (t.loop n).busyUntil = s.now + d * unitsPerNs)) ∧
  (∀ (s : State) (n d : Nat) (b : Bool) (y : Option Int), s.loopRuns n = true → s.timeValid = false → s.now < (s.loop n).busyUntil →
    Completes (.loopSample n b d y) s (fun t => t.rd Fld.LPE_ERR_OVERRUN = 1 ∧ t.rd Fld.LPE_ERR_INFO_LOOP = n ∧ t.lpe = s.lpe)) ∧
  (∀ (s : State) (n d : Nat) (y : Option Int), s.loopRuns n = true → s.rdb Fld.LPE_LOOP_CFG_LOCAL n = true → s.timeValid = false →
    (s.loop n).localAt = none → (s.loop n).busyUntil ≤ s.now → s.admittedPend Blk.LPE = false → s.rd Fld.LPE_SUP_N n = 0 →
    Completes (.loopLocalSample n d y) s (fun t => (t.loop n).localAt = some s.now ∧ (t.loop n).busyUntil = s.now + d * unitsPerNs ∧
      t.rd Fld.LPE_LOOP_STATE_DELAY_NS n = min d 65535)) ∧
  (∀ (s : State) (n : Nat), n < 64 → s.rdb Fld.LPE_LOOP_CTRL_ENABLE n = true →
    Completes (.loopDisable n) s (fun t => t.rd Fld.LPE_LOOP_CTRL_ENABLE n = 0 ∧ t.rd Fld.LPE_LOOP_STATE_STATE n = loopDisabled ∧
      t.rd Fld.LPE_LOOP_STATE_OUT n = s.rd Fld.LPE_LOOP_SAFE_OUT n % 2 ^ 32 ∧ (t.loop n).fresh = true)) ∧
  (∀ (s : State) (n : Nat), n < 64 →
    Completes (.loopSwap n) s (fun t => t.rd Fld.LPE_LOOP_CTRL_SWAP n = 1 ∧ t.lpe = s.lpe ∧
      t.rd Fld.LPE_LOOP_STATE_BANK n = s.rd Fld.LPE_LOOP_STATE_BANK n)) ∧
  (∀ (s : State) (r : AgeRead), s.rdb Fld.AGE_CTRL_ENABLE = true → s.admittedPend Blk.AGE = false →
    Completes (.ageSweep r) s (fun t => t.rd Fld.AGE_LAST_NS = s.ctNs % 2 ^ 64 ∧ t.rd Fld.AGE_EYE_NET_MV = r.netMv % 2 ^ 16 ∧
      t.age.history.length = min 168 (s.age.history.length + 1) ∧ (t.age.history.getLast?).map (·.1) = some s.ctNs))

/-- After every command (R11), the head drives the flash of group g only while its own claim of g is asserted, the partner's is seen deasserted, and the lease timer runs: a driver whose condition has ceased is off by the end of the command that ended it, without firmware.
Where the spec leaves a choice, the model's own is stated: log entry 152. -/
def Obligations.DriversObeyR11 : Prop :=
  ∀ (c : Instr) (s t : State) (g : Nat), exec c s = .next t → t.aon.drivers.mem g = true →
    t.aon.claimOut.mem g = true ∧ t.aon.claimIn.mem g = false ∧ t.aon.leaseEnd.isSome = true

/-- `FENCE_IN_N` asserted: every driver off and every claim deasserted, at once; no command drives or claims while it stays asserted; and its release brings neither back. -/
def Obligations.TheFenceHoldsAsR12Says : Prop :=
  (∀ (s : State), Completes .fenceInAsserted s (fun t => t.aon.fenceIn = true ∧ t.aon.drivers = [] ∧ t.aon.claimOut = [])) ∧
  (∀ (c : Instr) (s t : State), exec c s = .next t → t.aon.fenceIn = true → t.aon.drivers = [] ∧ t.aon.claimOut = []) ∧
  (∀ (s : State), s.aon.claimOut = [] →
    Completes .fenceInRelease s (fun t => t.aon.fenceIn = false ∧ t.aon.drivers = [] ∧ t.aon.claimOut = []))

/-- A head's partner has the same head ID with bit 0 inverted; head 0x0349, of side B and array 0x01A4, has the partner 0x0348. -/
def Obligations.ThePartnerInvertsBitZero : Prop :=
  ∀ (s : State), s.partnerId = Nat.xor s.headId 1 ∧ s.partnerId / 2 = s.arrayId ∧
    (s.headId = 0x0349 → s.headId % 2 = 1 ∧ s.arrayId = 0x01A4 ∧ s.partnerId = 0x0348 ∧ s.partnerId % 2 = 0)

/-- When the target block of a slot is disabled at issue, the action is not delivered and `CAR_ERR.TARGET_OFF` is set; the slot counts the firing, and a periodic one stays ARMED (R74). -/
def Obligations.DisabledTargetsTakeNoActionAsR74Says : Prop :=
  ∀ (s : State) (i b : Nat), i < 16384 → s.rd Fld.CAR_SLOT_STATE i = slotArmed → s.timeValid = true → s.slotNextDue i = true → s.slotTarget i = some b →
    s.enabled b = false →
    Completes (.carillonFire i) s (fun t => t.out = s.out ∧ t.hri = s.hri ∧ t.rd Fld.CAR_ERR_TARGET_OFF = 1 ∧
      t.rd Fld.CAR_SLOT_FIRE_COUNT i = (s.rd Fld.CAR_SLOT_FIRE_COUNT i + 1) % 2 ^ Fld.CAR_SLOT_FIRE_COUNT.width ∧
      (s.rd Fld.CAR_SLOT_PERIOD_NS i ≠ 0 → t.rd Fld.CAR_SLOT_STATE i = slotArmed))

/-- A priority paused for longer than `NET_PFC[n].WDOG_US` sets `NET_ERR.PFC_STORM` and writes a Guestbook record; it stays paused, and nothing is discarded; a WDOG_US of 0 turns the check off (R110). -/
def Obligations.PauseWatchdogFollowsR110 : Prop :=
  (∀ (s : State) (n prio t0 : Nat), n < 32 → (s.port n).pausedSince.look prio = some t0 → s.rd Fld.NET_PFC_WDOG_US n ≠ 0 →
    s.gbk.staging.length < 4095 →
    Completes (.pfcWatchdogExpiry n prio) s (fun t => t.now = max s.now (t0 + s.rd Fld.NET_PFC_WDOG_US n * unitsPerUs) ∧
      t.rd Fld.NET_ERR_PFC_STORM = 1 ∧ t.rd Fld.NET_PORT_STATUS_PAUSED n = s.rd Fld.NET_PORT_STATUS_PAUSED n ∧
      (t.port n).occ = (s.port n).occ ∧ t.net.tcp = s.net.tcp ∧
      (∃ r ∈ t.gbk.staging, r.source = Blk.NET ∧ s.gbk.nextSeq ≤ r.seq ∧ r.arg0 = n ∧ r.arg1 = prio))) ∧
  (∀ (s : State) (n prio : Nat), s.rd Fld.NET_PFC_WDOG_US n = 0 →
    Completes (.pfcWatchdogExpiry n prio) s (fun t => t = { s with aon := s.aon.settled }))

/-- When the JTAG_LOCK fuse is programmed, the instructions that Table 26.1 marks act as BYPASS, which changes nothing beyond the TAP, and `DBG_STATUS.LOCKED` is set (R530). -/
def Obligations.LockedInstructionsActAsBypassAsR530Says : Prop :=
  (∀ (s : State), s.tapLocked = true → Completes .extest s (fun t => s.LockedBypass t)) ∧
  (∀ (s : State), s.tapLocked = true → Completes .extestPulse s (fun t => s.LockedBypass t)) ∧
  (∀ (s : State), s.tapLocked = true → Completes .extestTrain s (fun t => s.LockedBypass t)) ∧
  (∀ (s : State), s.tapLocked = true → Completes .clamp s (fun t => s.LockedBypass t)) ∧
  (∀ (s : State), s.tapLocked = true → Completes .highz s (fun t => s.LockedBypass t)) ∧
  (∀ (s : State) (off size : Nat) (write : Option Nat), s.tapLocked = true →
    Completes (.regAccess off size write) s (fun t => s.LockedBypass t)) ∧
  (∀ (s : State) (f v : Nat), s.tapLocked = true → Completes (.fuseProg f (some v)) s (fun t => s.LockedBypass t))

/-- Frames: what the commands of cluster time, rings, the journal, the fabric, windows and pools leave as it was.
The always-on part `aon` stands in every frame, as each command closes it (log entry 152), and local time moves to an event's instant (log entry 3). -/
def Obligations.FramesOfTimeHostAndFabricCommands : Prop :=
  (∀ (s : State) (a : Bool), Completes (.aonFeedLoss a) s (fun t => t = { s with aon := t.aon })) ∧
  (∀ (s : State), Completes .sysRefclkLoss s (fun t => t = { s with aon := t.aon, gbk := t.gbk, now := t.now, regs := t.regs } ∧ s.RegsBut t [Fld.GBK_ALARM_SOURCE, Fld.GBK_ERR_OVERFLOW, Fld.GBK_LOST_COUNT, Fld.OWN_ERR_SELF_FENCE, Fld.OWN_STATUS_LEASE])) ∧
  (∀ (s : State) (link : Nat) (l : PcieLink), Completes (.pcieLinkTrain link l) s (fun t => t = { s with aon := t.aon, regs := t.regs } ∧ s.RegsBut t [Fld.HRI_STATUS_FLIT0, Fld.HRI_STATUS_FLIT1, Fld.HRI_STATUS_LINK_UP, Fld.HRI_STATUS_SPEED0, Fld.HRI_STATUS_SPEED1, Fld.HRI_STATUS_WIDTH0, Fld.HRI_STATUS_WIDTH1])) ∧
  (∀ (s : State), Completes .fenceInAsserted s (fun t => t = { s with aon := t.aon, regs := t.regs } ∧ s.RegsBut t [Fld.OWN_ERR_FENCED])) ∧
  (∀ (s : State) (ns : Nat), Completes (.fenceTestPulse ns) s (fun t => t = { s with aon := t.aon, free := t.free, regs := t.regs } ∧ s.RegsBut t [Fld.OWN_ERR_FENCED, Fld.OWN_STATUS_FENCE_PULSE])) ∧
  (∀ (s : State), Completes .fenceInRelease s (fun t => t = { s with aon := t.aon })) ∧
  (∀ (s : State) (group : Nat) (claimed : Bool) (heldNs : Nat), Completes (.claimInChange group claimed heldNs) s (fun t => t = { s with aon := t.aon, free := t.free, gbk := t.gbk, regs := t.regs } ∧ s.RegsBut t [Fld.GBK_ALARM_SOURCE, Fld.GBK_ERR_OVERFLOW, Fld.GBK_LOST_COUNT, Fld.OWN_ERR_CLAIM_CONFLICT, Fld.OWN_ERR_INFO_GROUP])) ∧
  (∀ (s : State) (group : Nat), Completes (.groupSettleExpiry group) s (fun t => t = { s with aon := t.aon, gbk := t.gbk, now := t.now, regs := t.regs } ∧ s.RegsBut t [Fld.GBK_ALARM_SOURCE, Fld.GBK_ERR_OVERFLOW, Fld.GBK_LOST_COUNT, Fld.OWN_ERR_SELF_FENCE, Fld.OWN_STATUS_LEASE])) ∧
  (∀ (s : State) (port utcOffset : Nat) (leap61 leap59 : Bool), Completes (.ptpAnnounce port utcOffset leap61 leap59) s (fun t => t = { s with aon := t.aon, car := t.car, regs := t.regs } ∧ s.RegsBut t [Fld.CAR_STATUS_LEAP_PENDING, Fld.CAR_UTC_LEAP59, Fld.CAR_UTC_LEAP61, Fld.CAR_UTC_UTC_OFFSET])) ∧
  (∀ (s : State), Completes .holdoverEntry s (fun t => t = { s with aon := t.aon, gbk := t.gbk, now := t.now, regs := t.regs } ∧ s.RegsBut t [Fld.CAR_ERR_SOURCE_LOST, Fld.CAR_STATUS_STATE, Fld.GBK_ALARM_SOURCE, Fld.GBK_ERR_OVERFLOW, Fld.GBK_LOST_COUNT, Fld.OWN_ERR_SELF_FENCE, Fld.OWN_STATUS_LEASE])) ∧
  (∀ (s : State), Completes .backupPortFallover s (fun t => t = { s with aon := t.aon, gbk := t.gbk, now := t.now, regs := t.regs } ∧ s.RegsBut t [Fld.CAR_STATUS_ON_BACKUP, Fld.CAR_STATUS_PORT_ACTIVE, Fld.GBK_ALARM_SOURCE, Fld.GBK_ERR_OVERFLOW, Fld.GBK_LOST_COUNT, Fld.OWN_ERR_SELF_FENCE, Fld.OWN_STATUS_LEASE])) ∧
  (∀ (s : State), Completes .epsOverClear s (fun t => t = { s with aon := t.aon, gbk := t.gbk, now := t.now, regs := t.regs } ∧ s.RegsBut t [Fld.CAR_STATUS_EPS_OVER, Fld.GBK_ALARM_SOURCE, Fld.GBK_ERR_OVERFLOW, Fld.GBK_LOST_COUNT, Fld.OWN_ERR_SELF_FENCE, Fld.OWN_STATUS_LEASE])) ∧
  (∀ (s : State), Completes .carEnableClear s (fun t => t = { s with aon := t.aon, car := t.car, regs := t.regs } ∧ s.RegsBut t [Fld.CAR_CTRL_ENABLE, Fld.CAR_SLOT_STATE, Fld.CAR_STATUS_STATE])) ∧
  (∀ (s : State), Completes .carNowRead s (fun t => t = { s with aon := t.aon, out := t.out, regs := t.regs } ∧ s.RegsBut t [Fld.CAR_NOW_EPS, Fld.CAR_NOW_FRAC_FRAC, Fld.CAR_NOW_NS_HI])) ∧
  (∀ (s : State) (slot off value : Nat) (fw : Bool), slot < 16384 → Completes (.carSlotWrite slot off value fw) s (fun t => t = { s with aon := t.aon, regs := t.regs } ∧ s.RegsBut t [Fld.CAR_ERR_SLOT_LIVE, Fld.CAR_ERR_SLOT_RSVD, Fld.CAR_SLOT_ACTION, Fld.CAR_SLOT_ARG, Fld.CAR_SLOT_BLOCK, Fld.CAR_SLOT_COORD, Fld.CAR_SLOT_INSTANT_FRAC, Fld.CAR_SLOT_INSTANT_NS, Fld.CAR_SLOT_LOG_LATE, Fld.CAR_SLOT_PERIOD_NS, Fld.CAR_SLOT_RING, Fld.CAR_SLOT_TRIGGER])) ∧
  (∀ (s : State) (slot : Nat) (fw : Bool), slot < 16384 → Completes (.carSlotArm slot fw) s (fun t => t = { s with aon := t.aon, regs := t.regs } ∧ s.RegsBut t [Fld.CAR_EPS_BOUND_BOUND, Fld.CAR_ERR_EPS_REFUSED, Fld.CAR_ERR_SLOT_BAD, Fld.CAR_ERR_SLOT_LIVE, Fld.CAR_ERR_SLOT_RSVD, Fld.CAR_SLOT_STATE])) ∧
  (∀ (s : State) (slot : Nat) (fw : Bool), slot < 16384 → Completes (.carSlotDisarm slot fw) s (fun t => t = { s with aon := t.aon, gbk := t.gbk, now := t.now, regs := t.regs } ∧ s.RegsBut t [Fld.CAR_EPS_BOUND_BOUND, Fld.CAR_ERR_SLOT_RSVD, Fld.CAR_SLOT_STATE, Fld.GBK_ALARM_SOURCE, Fld.GBK_ERR_OVERFLOW, Fld.GBK_LOST_COUNT, Fld.OWN_ERR_SELF_FENCE, Fld.OWN_STATUS_LEASE])) ∧
  (∀ (s : State), Completes .measuredDrift s (fun t => t = { s with adm := t.adm, aon := t.aon, gbk := t.gbk, regs := t.regs } ∧ s.RegsBut t [Fld.ADM_ERR_DRIFT, Fld.GBK_ALARM_SOURCE, Fld.GBK_ERR_OVERFLOW, Fld.GBK_LOST_COUNT, Fld.STR_PG_GEOM_D, Fld.STR_PG_GEOM_P])) ∧
  (∀ (s : State), Completes .glbIntAck s (fun t => t = { s with aon := t.aon, glb := t.glb, out := t.out })) ∧
  (∀ (s : State), Completes .errorInterrupt s (fun t => t = { s with aon := t.aon, glb := t.glb, out := t.out })) ∧
  (∀ (s : State) (ring : Nat), ring < 4096 → Completes (.ringDisable ring) s (fun t => t = { s with aon := t.aon, hri := t.hri, regs := t.regs } ∧ s.RegsBut t [Fld.HRI_RING_CFG_ENABLE, Fld.HRI_RING_STATE_STATE])) ∧
  (∀ (s : State) (ring : Nat), ring < 4096 → Completes (.ringDrainEnd ring) s (fun t => t = { s with aon := t.aon, hri := t.hri, pol := t.pol, regs := t.regs } ∧ s.RegsBut t [Fld.HRI_RING_CFG_ENABLE, Fld.HRI_RING_EVDROP_COUNT, Fld.HRI_RING_STATE_KEPT, Fld.HRI_RING_STATE_STATE])) ∧
  (∀ (s : State) (ring : Nat), ring < 4096 → Completes (.ringRelease ring) s (fun t => t = { s with aon := t.aon, isl := t.isl, pjm := t.pjm, regs := t.regs, wins := t.wins } ∧ s.RegsBut t [Fld.HRI_RING_STATE_KEPT])) ∧
  (∀ (s : State) (fn : Option Nat) (index : Nat), index < 4096 → Completes (.resync fn index) s (fun t => t = { s with aon := t.aon, hri := t.hri, regs := t.regs } ∧ s.RegsBut t [Fld.HRI_RING_STATE_STATE])) ∧
  (∀ (s : State) (fn value : Nat), Completes (.evqHeadDoorbell fn value) s (fun t => t = { s with aon := t.aon, hri := t.hri })) ∧
  (∀ (s : State) (source code fn nsid arg0 arg1 : Nat), fn < 256 → Completes (.eventPost source code fn nsid arg0 arg1) s (fun t => t = { s with aon := t.aon, hri := t.hri, out := t.out, regs := t.regs } ∧ s.RegsBut t [Fld.HRI_ERR_EVQ_OVF, Fld.HRI_FN_EVQ_LOST_COUNT])) ∧
  (∀ (s : State) (ring seq : Nat), Completes (.nop ring seq) s (fun t => t = { s with aon := t.aon, hri := t.hri, wins := t.wins })) ∧
  (∀ (s : State) (ring seq : Nat) (input : Option Nat) (outOk : Bool), Completes (.compress ring seq input outOk) s (fun t => t = { s with aon := t.aon, hri := t.hri, out := t.out, wins := t.wins })) ∧
  (∀ (s : State) (ring seq : Nat) (input : Option Nat) (outOk : Bool), Completes (.hash ring seq input outOk) s (fun t => t = { s with aon := t.aon, hri := t.hri, out := t.out, wins := t.wins })) ∧
  (∀ (s : State) (jseq : Nat) (m : MirrorRec), Completes (.mirrorRecordReceive jseq m) s (fun t => t = { s with aon := t.aon, isl := t.isl, out := t.out, pjm := t.pjm })) ∧
  (∀ (s : State) (jseq : Nat), Completes (.recordCopyForward jseq) s (fun t => t = { s with aon := t.aon, out := t.out, isl := t.isl, pjm := t.pjm, regs := t.regs } ∧ s.RegsBut t [Fld.PJM_JSEQ_NEXT])) ∧
  (∀ (s : State) (port prio : Nat) (pause : Bool), port < 32 → Completes (.pfcFrameReceive port prio pause) s (fun t => t = { s with aon := t.aon, net := t.net, regs := t.regs } ∧ s.RegsBut t [Fld.NET_PORT_STATUS_PAUSED])) ∧
  (∀ (s : State) (port prio : Nat), Completes (.pfcWatchdogExpiry port prio) s (fun t => t = { s with aon := t.aon, gbk := t.gbk, net := t.net, now := t.now, regs := t.regs } ∧ s.RegsBut t [Fld.GBK_ALARM_SOURCE, Fld.GBK_ERR_OVERFLOW, Fld.GBK_LOST_COUNT, Fld.NET_ERR_PFC_STORM, Fld.NET_ERR_PORT_PORT, Fld.OWN_ERR_SELF_FENCE, Fld.OWN_STATUS_LEASE])) ∧
  (∀ (s : State) (port : Nat) (up : Bool), port < 32 → Completes (.portLinkChange port up) s (fun t => t = { s with aon := t.aon, net := t.net, regs := t.regs } ∧ s.RegsBut t [Fld.NET_ERR_LINK_DOWN, Fld.NET_ERR_PORT_PORT, Fld.NET_PORT_STATUS_AN_DONE, Fld.NET_PORT_STATUS_PAUSED, Fld.NET_PORT_STATUS_UP, Fld.NET_STATUS_PORT_UP])) ∧
  (∀ (s : State) (conn maxR2t : Nat) (hdgst ddgst : Bool), Completes (.nvmeTcpIcreq conn maxR2t hdgst ddgst) s (fun t => t = { s with aon := t.aon, net := t.net, out := t.out })) ∧
  (∀ (s : State) (q cid bytes : Nat), Completes (.bufferGrantTransfer q cid bytes) s (fun t => t = { s with aon := t.aon, nvf := t.nvf, out := t.out, rdm := t.rdm })) ∧
  (∀ (s : State), Completes .anaStateChange s (fun t => t = { s with aon := t.aon, nvf := t.nvf, out := t.out })) ∧
  (∀ (s : State) (qp psn : Nat), Completes (.roceAckReceive qp psn) s (fun t => t = { s with aon := t.aon, rdm := t.rdm })) ∧
  (∀ (s : State) (index : Nat) (d : Option WinDesc) (inArea : Bool), Completes (.windowOpen index d inArea) s (fun t => t = { s with aon := t.aon, out := t.out, rdm := t.rdm, regs := t.regs } ∧ s.RegsBut t [Fld.RDM_ERR_WIN_BUSY, Fld.RDM_WIN_OPEN_COUNT_COUNT, Fld.RDM_WIN_RESULT_BUSY, Fld.RDM_WIN_RESULT_DONE, Fld.RDM_WIN_RESULT_GEN, Fld.RDM_WIN_RESULT_INDEX, Fld.RDM_WIN_RESULT_STATUS, Fld.RDM_WIN_RESULT_TIMEOUT])) ∧
  (∀ (s : State) (index : Nat), Completes (.windowTranslationsLoaded index) s (fun t => t = { s with aon := t.aon, out := t.out, rdm := t.rdm, regs := t.regs } ∧ s.RegsBut t [Fld.RDM_WIN_OPEN_COUNT_COUNT, Fld.RDM_WIN_RESULT_BUSY, Fld.RDM_WIN_RESULT_DONE, Fld.RDM_WIN_RESULT_GEN, Fld.RDM_WIN_RESULT_INDEX, Fld.RDM_WIN_RESULT_STATUS, Fld.RDM_WIN_RESULT_TIMEOUT])) ∧
  (∀ (s : State) (index : Nat) (bar0 : Bool), Completes (.windowRevoke index bar0) s (fun t => t = { s with aon := t.aon, out := t.out, rdm := t.rdm, regs := t.regs } ∧ s.RegsBut t [Fld.RDM_ERR_WIN_BUSY, Fld.RDM_WIN_OPEN_COUNT_COUNT, Fld.RDM_WIN_RESULT_BUSY, Fld.RDM_WIN_RESULT_DONE, Fld.RDM_WIN_RESULT_GEN, Fld.RDM_WIN_RESULT_INDEX, Fld.RDM_WIN_RESULT_STATUS, Fld.RDM_WIN_RESULT_TIMEOUT])) ∧
  (∀ (s : State) (index : Nat), Completes (.windowDrainEnd index) s (fun t => t = { s with aon := t.aon, out := t.out, rdm := t.rdm, regs := t.regs } ∧ s.RegsBut t [Fld.RDM_WIN_OPEN_COUNT_COUNT, Fld.RDM_WIN_RESULT_BUSY, Fld.RDM_WIN_RESULT_DONE, Fld.RDM_WIN_RESULT_GEN, Fld.RDM_WIN_RESULT_INDEX, Fld.RDM_WIN_RESULT_STATUS, Fld.RDM_WIN_RESULT_TIMEOUT])) ∧
  (∀ (s : State) (qp : Nat), Completes (.wtcMissWalkDone qp) s (fun t => t = { s with aon := t.aon, rdm := t.rdm })) ∧
  (∀ (s : State), Completes .polOpReserved s (fun t => t = { s with aon := t.aon, regs := t.regs } ∧ s.RegsBut t [Fld.POL_OP_RESULT_BUSY, Fld.POL_OP_RESULT_STATUS])) ∧
  (∀ (s : State) (pool : Nat), pool < 16 → Completes (.poolFillEnd pool) s (fun t => t = { s with aon := t.aon, out := t.out, pol := t.pol, regs := t.regs } ∧ s.RegsBut t [Fld.POL_HELD_HELD, Fld.POL_LIMIT_MIN, Fld.POL_POOL_STAT_STATE, Fld.POL_POOL_STAT_WAITING, Fld.POL_STATUS_ACTIVE])) ∧
  (∀ (s : State) (pool : Nat), pool < 16 → Completes (.poolDisable pool) s (fun t => t = { s with aon := t.aon, out := t.out, pol := t.pol, regs := t.regs } ∧ s.RegsBut t [Fld.POL_POOL_CFG_ENABLE, Fld.POL_POOL_STAT_STATE, Fld.POL_POOL_STAT_WAITING, Fld.POL_STATUS_ACTIVE])) ∧
  (∀ (s : State), Completes .polDisable s (fun t => t = { s with aon := t.aon, out := t.out, pol := t.pol, regs := t.regs } ∧ s.RegsBut t [Fld.POL_CTRL_ENABLE, Fld.POL_POOL_STAT_WAITING])) ∧
  (∀ (s : State) (quads : Nat), Completes (.islTrainingEnd quads) s (fun t => t = { s with aon := t.aon, isl := t.isl, pjm := t.pjm, regs := t.regs } ∧ s.RegsBut t [Fld.ISL_STATUS_QUADS_UP, Fld.ISL_STATUS_STATE]))

/-- Frames: what the commands of reduction, keys, the map, the media, stripes and reclamation leave as it was.
The always-on part `aon` stands in every frame, as each command closes it (log entry 152), and local time moves to an event's instant (log entry 3). -/
def Obligations.FramesOfDataCommands : Prop :=
  (∀ (s : State) (handle : Nat), Completes (.pinRelease handle) s (fun t => t = { s with aon := t.aon, ddp := t.ddp })) ∧
  (∀ (s : State) (mirror : Bool) (jseq : Nat), Completes (.referenceApply mirror jseq) s (fun t => t = { s with aon := t.aon, ddp := t.ddp, regs := t.regs } ∧ s.RegsBut t [Fld.DDP_ERR_REF_SAT])) ∧
  (∀ (s : State) (handle : Nat), Completes (.indexEntryRelease handle) s (fun t => t = { s with aon := t.aon, ddp := t.ddp, map := t.map })) ∧
  (∀ (s : State) (addr : Nat) (persists : Bool), Completes (.chunkCrcFail addr persists) s (fun t => t = { s with aon := t.aon, gbk := t.gbk, map := t.map, regs := t.regs } ∧ s.RegsBut t [Fld.CMP_CRC_FAIL_COUNT, Fld.CMP_ERR_CRC_FAIL, Fld.GBK_ALARM_SOURCE, Fld.GBK_ERR_OVERFLOW, Fld.GBK_LOST_COUNT])) ∧
  (∀ (s : State) (target kek : Nat) (pad : Bool) (blobLen : Nat), target < 64 → Completes (.keyUnwrapKek target kek pad blobLen) s (fun t => t = { s with aon := t.aon, cip := t.cip, gbk := t.gbk, regs := t.regs } ∧ s.RegsBut t [Fld.CIP_ERR_CMD_BUSY, Fld.CIP_ERR_INFO_SLOT, Fld.CIP_ERR_UNWRAP_FAIL, Fld.CIP_KEK_STATE_KIND, Fld.CIP_KEK_STATE_STATE, Fld.CIP_KEK_STATE_TENANT, Fld.CIP_KEY_RESULT_BUSY, Fld.CIP_KEY_RESULT_DONE, Fld.CIP_KEY_RESULT_STATUS, Fld.GBK_ALARM_SOURCE, Fld.GBK_ERR_OVERFLOW, Fld.GBK_LOST_COUNT])) ∧
  (∀ (s : State) (target : Nat), target < 16384 → Completes (.keyEraseSlot target) s (fun t => t = { s with aon := t.aon, regs := t.regs } ∧ s.RegsBut t [Fld.CIP_ERR_CMD_BUSY, Fld.CIP_ERR_INFO_SLOT, Fld.CIP_KEY_RESULT_BUSY, Fld.CIP_KEY_RESULT_DONE, Fld.CIP_KEY_RESULT_STATUS, Fld.CIP_SLOTS_LOADED_COUNT, Fld.CIP_SLOT_STATE_STATE])) ∧
  (∀ (s : State) (target : Nat), target < 64 → Completes (.keyEraseKek target) s (fun t => t = { s with aon := t.aon, cip := t.cip, regs := t.regs } ∧ s.RegsBut t [Fld.CIP_ERR_CMD_BUSY, Fld.CIP_ERR_INFO_SLOT, Fld.CIP_KEK_STATE_KIND, Fld.CIP_KEK_STATE_STATE, Fld.CIP_KEK_STATE_TENANT, Fld.CIP_KEY_RESULT_BUSY, Fld.CIP_KEY_RESULT_DONE, Fld.CIP_KEY_RESULT_STATUS])) ∧
  (∀ (s : State) (slot : Nat), slot < 16384 → Completes (.keyEraseEnd slot) s (fun t => t = { s with aon := t.aon, cip := t.cip, regs := t.regs } ∧ s.RegsBut t [Fld.CIP_KEY_RESULT_BUSY, Fld.CIP_KEY_RESULT_DONE, Fld.CIP_KEY_RESULT_STATUS, Fld.CIP_SLOTS_LOADED_COUNT, Fld.CIP_SLOT_STATE_KIND, Fld.CIP_SLOT_STATE_STATE, Fld.CIP_SLOT_STATE_TENANT, Fld.CIP_SLOT_STATE_USAGE])) ∧
  (∀ (s : State) (slot : Nat), slot < 16384 → Completes (.keyStoreFault slot) s (fun t => t = { s with aon := t.aon, cip := t.cip, gbk := t.gbk, regs := t.regs } ∧ s.RegsBut t [Fld.CIP_ERR_INFO_SLOT, Fld.CIP_ERR_STORE_FAIL, Fld.CIP_SLOTS_LOADED_COUNT, Fld.CIP_SLOT_STATE_KIND, Fld.CIP_SLOT_STATE_STATE, Fld.CIP_SLOT_STATE_TENANT, Fld.CIP_SLOT_STATE_USAGE, Fld.GBK_ALARM_SOURCE, Fld.GBK_ERR_OVERFLOW, Fld.GBK_LOST_COUNT])) ∧
  (∀ (s : State) (mirror : Bool) (jseq : Nat), Completes (.mapDeltaApply mirror jseq) s (fun t => t = { s with aon := t.aon, ddp := t.ddp, map := t.map, regs := t.regs } ∧ s.RegsBut t [Fld.GCX_STAT_DEAD_COPY_COUNT])) ∧
  (∀ (s : State) (group : Nat), Completes (.mdcWaygrpPowerDown group) s (fun t => t = { s with aon := t.aon, regs := t.regs } ∧ s.RegsBut t [Fld.MDC_ERR_GROUP_CMD, Fld.MDC_WAYGRP_STATE_STATE])) ∧
  (∀ (s : State) (group : Nat), Completes (.mdcWaygrpPowerUp group) s (fun t => t = { s with aon := t.aon, pwr := t.pwr, regs := t.regs } ∧ s.RegsBut t [Fld.MDC_ERR_GROUP_CMD, Fld.MDC_WAYGRP_STATE_STATE, Fld.PWR_DOM_RESULT_BUSY, Fld.PWR_DOM_RESULT_DONE, Fld.PWR_DOM_RESULT_STATUS, Fld.PWR_ERR_DOM_REFUSED, Fld.PWR_ERR_INFO_DOMAIN, Fld.PWR_STATUS_DOM_BUSY])) ∧
  (∀ (s : State) (group : Nat), Completes (.mdcCleanSweepEnd group) s (fun t => t = { s with aon := t.aon, mdc := t.mdc, pwr := t.pwr, regs := t.regs } ∧ s.RegsBut t [Fld.MDC_STAT_WB_COUNT, Fld.PWR_DOM_RESULT_BUSY, Fld.PWR_DOM_RESULT_DONE, Fld.PWR_DOM_RESULT_STATUS, Fld.PWR_ERR_DOM_REFUSED, Fld.PWR_ERR_INFO_DOMAIN, Fld.PWR_STATUS_DOM_BUSY])) ∧
  (∀ (s : State) (group : Nat), Completes (.mdcWakeEnd group) s (fun t => t = { s with aon := t.aon, mdc := t.mdc, regs := t.regs } ∧ s.RegsBut t [Fld.MDC_WAYGRP_STATE_STATE])) ∧
  (∀ (s : State) (lun : Nat), Completes (.busyLunTimeout lun) s (fun t => t = { s with aon := t.aon, flc := t.flc, out := t.out, regs := t.regs } ∧ s.RegsBut t [Fld.FLC_CH_STATUS_RESETS])) ∧
  (∀ (s : State) (group : Nat), group < 16 → Completes (.groupLost group) s (fun t => t = { s with aon := t.aon, flc := t.flc, regs := t.regs, str := t.str } ∧ s.RegsBut t [Fld.FLC_CH_STATUS_STATE, Fld.FLC_ERR_GROUP_LOST])) ∧
  (∀ (s : State) (lun reads : Nat) (erase : Bool), Completes (.operationSuspend lun reads erase) s (fun t => t = { s with aon := t.aon, flc := t.flc })) ∧
  (∀ (s : State) (lun window : Nat) (offsets : List Int), Completes (.valleySearch lun window offsets) s (fun t => t = { s with aon := t.aon, flc := t.flc })) ∧
  (∀ (s : State) (found : List (Nat × Nat × List Int)), Completes (.trackingSweep found) s (fun t => t = { s with aon := t.aon, flc := t.flc })) ∧
  (∀ (s : State) (lun : Nat), Completes (.wearLevelOffer lun) s (fun t => t = { s with aon := t.aon, gcx := t.gcx })) ∧
  (∀ (s : State) (stripe : Nat), Completes (.destageStripeProgram stripe) s (fun t => t = { s with aon := t.aon, out := t.out, str := t.str })) ∧
  (∀ (s : State) (stripe : Nat) (bad : List (Nat × List Nat)), Completes (.reconstruct stripe bad) s (fun t => t = { s with aon := t.aon, regs := t.regs } ∧ s.RegsBut t [Fld.STR_STAT_RECON_COUNT])) ∧
  (∀ (s : State), Completes .patrolTrigger s (fun t => t = { s with aon := t.aon, regs := t.regs } ∧ s.RegsBut t [Fld.STR_STATUS_PATROLLING])) ∧
  (∀ (s : State), Completes .rebuildBand s (fun t => t = { s with aon := t.aon, gcx := t.gcx, regs := t.regs } ∧ s.RegsBut t [Fld.STR_STAT_RECON_COUNT])) ∧
  (∀ (s : State) (band : Nat), Completes (.relocationRecordsPersist band) s (fun t => t = { s with aon := t.aon, ddp := t.ddp, gcx := t.gcx, str := t.str }))

/-- Frames: what the commands of keys and values, the match engine, ownership and snapshots leave as it was.
The always-on part `aon` stands in every frame, as each command closes it (log entry 152), and local time moves to an event's instant (log entry 3). -/
def Obligations.FramesOfServiceCommands : Prop :=
  (∀ (s : State), Completes .referenceSweepEnd s (fun t => t = { s with aon := t.aon, gcx := t.gcx, regs := t.regs, str := t.str } ∧ s.RegsBut t [Fld.GCX_SWEEP_PASSES_COUNT])) ∧
  (∀ (s : State) (session cmd : Nat), Completes (.delete session cmd) s (fun t => t = { s with aon := t.aon, kvs := t.kvs, nextOp := t.nextOp, ops := t.ops })) ∧
  (∀ (s : State) (session cmd : Nat), Completes (.close session cmd) s (fun t => t = { s with aon := t.aon, kvs := t.kvs, wins := t.wins })) ∧
  (∀ (s : State) (epoch tEff : Nat) (changes : List PlaceChange), Completes (.epochUpdateReceive epoch tEff changes) s (fun t => t = { s with aon := t.aon, kvs := t.kvs, regs := t.regs } ∧ s.RegsBut t [Fld.KVS_STATUS_EPOCH_SYNCED])) ∧
  (∀ (s : State) (bank : Nat), Completes (.mteBulkEnter bank) s (fun t => t = { s with aon := t.aon, regs := t.regs } ∧ s.RegsBut t [Fld.MTE_BANK_STATE_STATE, Fld.MTE_ERR_BULK_LIVE, Fld.MTE_ERR_INFO_INDEX])) ∧
  (∀ (s : State) (bank : Nat), Completes (.mteBulkLeave bank) s (fun t => t = { s with aon := t.aon, regs := t.regs } ∧ s.RegsBut t [Fld.MTE_BANK_STATE_STATE, Fld.MTE_ERR_BULK_LIVE, Fld.MTE_ERR_INFO_INDEX])) ∧
  (∀ (s : State) (bank : Nat), Completes (.mteBankPowerDown bank) s (fun t => t = { s with aon := t.aon, mte := t.mte, pwr := t.pwr, regs := t.regs } ∧ s.RegsBut t [Fld.MTE_BANK_STATE_STATE, Fld.MTE_ERR_INFO_INDEX, Fld.MTE_ERR_POWER_LIVE, Fld.PWR_DOM_RESULT_BUSY, Fld.PWR_DOM_RESULT_DONE, Fld.PWR_DOM_RESULT_STATUS, Fld.PWR_ERR_DOM_REFUSED, Fld.PWR_ERR_INFO_DOMAIN, Fld.PWR_STATUS_DOM_BUSY])) ∧
  (∀ (s : State) (bank : Nat), Completes (.mteBankPowerUp bank) s (fun t => t = { s with aon := t.aon, pwr := t.pwr, regs := t.regs } ∧ s.RegsBut t [Fld.PWR_DOM_RESULT_BUSY, Fld.PWR_DOM_RESULT_DONE, Fld.PWR_DOM_RESULT_STATUS, Fld.PWR_ERR_DOM_REFUSED, Fld.PWR_ERR_INFO_DOMAIN, Fld.PWR_STATUS_DOM_BUSY])) ∧
  (∀ (s : State) (bank first count : Nat) (images : Option (List MteEntry)), Completes (.mteBulkLoad bank first count images) s (fun t => t = { s with aon := t.aon, mte := t.mte, regs := t.regs } ∧ s.RegsBut t [Fld.MTE_ERR_BULK_LIVE, Fld.MTE_ERR_BULK_SRC, Fld.MTE_ERR_INFO_INDEX])) ∧
  (∀ (s : State), Completes .leaseTimerExpiry s (fun t => t = { s with aon := t.aon, gbk := t.gbk, now := t.now, regs := t.regs } ∧ s.RegsBut t [Fld.GBK_ALARM_SOURCE, Fld.GBK_ERR_OVERFLOW, Fld.GBK_LOST_COUNT, Fld.OWN_ERR_SELF_FENCE, Fld.OWN_STATUS_LEASE])) ∧
  (∀ (s : State) (m : IkMsg), Completes (.ikRenew m) s (fun t => t = { s with aon := t.aon, out := t.out, own := t.own, regs := t.regs } ∧ s.RegsBut t [Fld.OWN_ERR_MAC_FAIL])) ∧
  (∀ (s : State) (m : IkMsg), Completes (.ikAcquire m) s (fun t => t = { s with aon := t.aon, out := t.out, own := t.own, regs := t.regs } ∧ s.RegsBut t [Fld.OWN_ERR_MAC_FAIL])) ∧
  (∀ (s : State) (m : IkMsg), Completes (.ikTake m) s (fun t => t = { s with aon := t.aon, out := t.out, own := t.own, regs := t.regs } ∧ s.RegsBut t [Fld.OWN_ERR_MAC_FAIL])) ∧
  (∀ (s : State) (m : IkMsg), Completes (.ikHandover m) s (fun t => t = { s with aon := t.aon, out := t.out, own := t.own, regs := t.regs } ∧ s.RegsBut t [Fld.OWN_ERR_MAC_FAIL])) ∧
  (∀ (s : State) (group : Nat), Completes (.groupClaim group) s (fun t => t = { s with aon := t.aon, gbk := t.gbk, regs := t.regs } ∧ s.RegsBut t [Fld.GBK_ALARM_SOURCE, Fld.GBK_ERR_OVERFLOW, Fld.GBK_LOST_COUNT, Fld.OWN_ERR_CLAIM_CONFLICT, Fld.OWN_ERR_INFO_GROUP])) ∧
  (∀ (s : State) (group : Nat), Completes (.groupRelease group) s (fun t => t = { s with aon := t.aon, out := t.out, own := t.own })) ∧
  (∀ (s : State) (oset : Nat), Completes (.handoverSet oset) s (fun t => t = { s with aon := t.aon, nvf := t.nvf, out := t.out, own := t.own })) ∧
  (∀ (s : State), Completes .returnRequestReceive s (fun t => t = { s with aon := t.aon, own := t.own, isl := t.isl, pjm := t.pjm })) ∧
  (∀ (s : State), Completes .ownHandOverAll s (fun t => t = { s with aon := t.aon, own := t.own, regs := t.regs } ∧ s.RegsBut t [Fld.OWN_CMD_RESULT_BUSY, Fld.OWN_CMD_RESULT_DONE, Fld.OWN_CMD_RESULT_STATUS])) ∧
  (∀ (s : State) (oset : Nat), Completes (.ownHandOverOset oset) s (fun t => t = { s with aon := t.aon, own := t.own, regs := t.regs } ∧ s.RegsBut t [Fld.OWN_CMD_RESULT_BUSY, Fld.OWN_CMD_RESULT_DONE, Fld.OWN_CMD_RESULT_STATUS])) ∧
  (∀ (s : State) (group : Nat), Completes (.ownHandOverGroup group) s (fun t => t = { s with aon := t.aon, own := t.own, regs := t.regs } ∧ s.RegsBut t [Fld.OWN_CMD_RESULT_BUSY, Fld.OWN_CMD_RESULT_DONE, Fld.OWN_CMD_RESULT_STATUS])) ∧
  (∀ (s : State) (epoch : Nat), Completes (.cutReady epoch) s (fun t => t = { s with aon := t.aon, snp := t.snp })) ∧
  (∀ (s : State) (op : Nat), Completes (.syncWriteSend op) s (fun t => t = { s with aon := t.aon, out := t.out, snp := t.snp })) ∧
  (∀ (s : State) (link : Nat), Completes (.catchupCutArm link) s (fun t => t = { s with aon := t.aon, regs := t.regs, snp := t.snp } ∧ s.RegsBut t [Fld.SNP_ERR_INFO_LINK, Fld.SNP_ERR_INFO_NSID, Fld.SNP_ERR_LIMIT])) ∧
  (∀ (s : State) (link : Nat), link < 32 → Completes (.rpoMiss link) s (fun t => t = { s with aon := t.aon, gbk := t.gbk, now := t.now, regs := t.regs } ∧ s.RegsBut t [Fld.GBK_ALARM_SOURCE, Fld.GBK_ERR_OVERFLOW, Fld.GBK_LOST_COUNT, Fld.OWN_ERR_SELF_FENCE, Fld.OWN_STATUS_LEASE, Fld.SNP_ERR_INFO_LINK, Fld.SNP_ERR_INFO_NSID, Fld.SNP_ERR_RPO_MISS, Fld.SNP_RLINK_STAT_LAG_MS])) ∧
  (∀ (s : State) (loop : Nat), loop < 64 → Completes (.loopDisable loop) s (fun t => t = { s with aon := t.aon, lpe := t.lpe, regs := t.regs } ∧ s.RegsBut t [Fld.LPE_LOOP_CTRL_ENABLE, Fld.LPE_LOOP_STATE_OUT, Fld.LPE_LOOP_STATE_STATE, Fld.LPE_RUN_MASK, Fld.LPE_TRIPPED_MASK])) ∧
  (∀ (s : State) (loop : Nat), loop < 64 → Completes (.loopSwap loop) s (fun t => t = { s with aon := t.aon, regs := t.regs } ∧ s.RegsBut t [Fld.LPE_LOOP_CTRL_SWAP]))

/-- Frames: what the commands of loops, records, firmware, power and test leave as it was.
The always-on part `aon` stands in every frame, as each command closes it (log entry 152), and local time moves to an event's instant (log entry 3). -/
def Obligations.FramesOfHeadCommands : Prop :=
  (∀ (s : State) (source code arg0 arg1 arg2 : Nat) (alarm : Bool), Completes (.gbkRecordStage source code arg0 arg1 arg2 alarm) s (fun t => t = { s with aon := t.aon, gbk := t.gbk, regs := t.regs } ∧ s.RegsBut t [Fld.GBK_ALARM_SOURCE, Fld.GBK_ERR_OVERFLOW, Fld.GBK_LOST_COUNT])) ∧
  (∀ (s : State) (partner : List GbkRec), Completes (.gbkResetScan partner) s (fun t => t = { s with aon := t.aon, gbk := t.gbk, regs := t.regs } ∧ s.RegsBut t [Fld.GBK_FLOOR_SEQ, Fld.GBK_HEAD_SEQ_SEQ, Fld.GBK_STATUS_SCANNING])) ∧
  (∀ (s : State) (count dst : Nat) (partner : Bool) (other : List GbkRec) (xferOk : Bool), Completes (.gbkCopy count dst partner other xferOk) s (fun t => t = { s with aon := t.aon, out := t.out, regs := t.regs } ∧ s.RegsBut t [Fld.GBK_COPY_RESULT_BUSY, Fld.GBK_COPY_RESULT_DONE, Fld.GBK_COPY_RESULT_STATUS, Fld.GBK_ERR_CMD_BUSY])) ∧
  (∀ (s : State) (img : FwImage), Completes (.fwuStage img) s (fun t => t = { s with aon := t.aon, fwu := t.fwu, regs := t.regs } ∧ s.RegsBut t [Fld.FWU_CMD_RESULT_BUSY, Fld.FWU_CMD_RESULT_DONE, Fld.FWU_CMD_RESULT_STATUS, Fld.FWU_SLOT_INFO_CFG_FMT, Fld.FWU_SLOT_INFO_COMPAT_MIN, Fld.FWU_SLOT_INFO_FW_GEN, Fld.FWU_SLOT_INFO_STATE])) ∧
  (∀ (s : State), Completes .fwuCancel s (fun t => t = { s with aon := t.aon, regs := t.regs } ∧ s.RegsBut t [Fld.CAR_EPS_BOUND_BOUND, Fld.FWU_ACT_VALID, Fld.FWU_CMD_RESULT_BUSY, Fld.FWU_CMD_RESULT_DONE, Fld.FWU_CMD_RESULT_STATUS, Fld.FWU_SLOT_INFO_STATE])) ∧
  (∀ (s : State), Completes .fwuEraseSlot s (fun t => t = { s with aon := t.aon, fwu := t.fwu, regs := t.regs } ∧ s.RegsBut t [Fld.FWU_CMD_RESULT_BUSY, Fld.FWU_CMD_RESULT_DONE, Fld.FWU_CMD_RESULT_STATUS, Fld.FWU_SLOT_INFO_CFG_FMT, Fld.FWU_SLOT_INFO_COMPAT_MIN, Fld.FWU_SLOT_INFO_FW_GEN, Fld.FWU_SLOT_INFO_STATE])) ∧
  (∀ (s : State) (domain : Nat), Completes (.pwrDomainOff domain) s (fun t => t = { s with aon := t.aon, pwr := t.pwr, regs := t.regs } ∧ s.RegsBut t [Fld.PWR_DOM_RESULT_BUSY, Fld.PWR_DOM_RESULT_DONE, Fld.PWR_DOM_RESULT_STATUS, Fld.PWR_ERR_DOM_REFUSED, Fld.PWR_ERR_INFO_DOMAIN, Fld.PWR_STATUS_DOM_BUSY])) ∧
  (∀ (s : State) (domain : Nat), Completes (.pwrDomainOn domain) s (fun t => t = { s with aon := t.aon, pwr := t.pwr, regs := t.regs } ∧ s.RegsBut t [Fld.PWR_DOM_RESULT_BUSY, Fld.PWR_DOM_RESULT_DONE, Fld.PWR_DOM_RESULT_STATUS, Fld.PWR_ERR_DOM_REFUSED, Fld.PWR_ERR_INFO_DOMAIN, Fld.PWR_STATUS_DOM_BUSY])) ∧
  (∀ (s : State) (answers : List PmbAnswer), Completes (.pmbAlert answers) s (fun t => t = { s with aon := t.aon, out := t.out, pwr := t.pwr, regs := t.regs } ∧ s.RegsBut t [Fld.PWR_CHAIN_STATUS, Fld.PWR_ERR_INFO_DEV, Fld.PWR_ERR_PMB_NAK])) ∧
  (∀ (s : State) (chain : Nat), Completes (.pwrgdLow chain) s (fun t => t = { s with aon := t.aon, pwr := t.pwr })) ∧
  (∀ (s : State), Completes .jtagTapReset s (fun t => t = { s with aon := t.aon, dbg := t.dbg, regs := t.regs } ∧ s.RegsBut t [Fld.DBG_STATUS_SCAN])) ∧
  (∀ (s : State), Completes .bypass s (fun t => t = { s with aon := t.aon, dbg := t.dbg, regs := t.regs } ∧ s.RegsBut t [Fld.DBG_STATUS_SCAN])) ∧
  (∀ (s : State), Completes .idcode s (fun t => t = { s with aon := t.aon, dbg := t.dbg, out := t.out, regs := t.regs } ∧ s.RegsBut t [Fld.DBG_STATUS_SCAN])) ∧
  (∀ (s : State) (captured preload : Nat), Completes (.samplePreload captured preload) s (fun t => t = { s with aon := t.aon, dbg := t.dbg, out := t.out, regs := t.regs } ∧ s.RegsBut t [Fld.DBG_STATUS_SCAN])) ∧
  (∀ (s : State), Completes .extest s (fun t => t = { s with aon := t.aon, dbg := t.dbg, regs := t.regs } ∧ s.RegsBut t [Fld.DBG_ERR_INFO_OPCODE, Fld.DBG_ERR_SCAN_REFUSED, Fld.DBG_STATUS_LOCKED, Fld.DBG_STATUS_SCAN])) ∧
  (∀ (s : State), Completes .extestPulse s (fun t => t = { s with aon := t.aon, dbg := t.dbg, regs := t.regs } ∧ s.RegsBut t [Fld.DBG_ERR_INFO_OPCODE, Fld.DBG_ERR_SCAN_REFUSED, Fld.DBG_STATUS_LOCKED, Fld.DBG_STATUS_SCAN])) ∧
  (∀ (s : State), Completes .extestTrain s (fun t => t = { s with aon := t.aon, dbg := t.dbg, regs := t.regs } ∧ s.RegsBut t [Fld.DBG_ERR_INFO_OPCODE, Fld.DBG_ERR_SCAN_REFUSED, Fld.DBG_STATUS_LOCKED, Fld.DBG_STATUS_SCAN])) ∧
  (∀ (s : State), Completes .clamp s (fun t => t = { s with aon := t.aon, dbg := t.dbg, regs := t.regs } ∧ s.RegsBut t [Fld.DBG_ERR_INFO_OPCODE, Fld.DBG_ERR_SCAN_REFUSED, Fld.DBG_STATUS_LOCKED, Fld.DBG_STATUS_SCAN])) ∧
  (∀ (s : State), Completes .highz s (fun t => t = { s with aon := t.aon, dbg := t.dbg, regs := t.regs } ∧ s.RegsBut t [Fld.DBG_ERR_INFO_OPCODE, Fld.DBG_ERR_SCAN_REFUSED, Fld.DBG_STATUS_LOCKED, Fld.DBG_STATUS_SCAN])) ∧
  (∀ (s : State) (kind target ms : Nat), Completes (.loopbackStart kind target ms) s (fun t => t = { s with aon := t.aon, dbg := t.dbg, regs := t.regs } ∧ s.RegsBut t [Fld.DBG_ERR_LOOP_BUSY, Fld.DBG_LOOP_STAT_BUSY, Fld.DBG_LOOP_STAT_DONE, Fld.DBG_LOOP_STAT_STATUS, Fld.DBG_STATUS_LOOPING])) ∧
  (∀ (s : State) (chan : Option Nat), Completes (.catchupRequestReceive chan) s (fun t => t = { s with aon := t.aon, isl := t.isl, out := t.out, pjm := t.pjm })) ∧
  (∀ (s : State) (array : Nat) (q : AuthReq), Completes (.authorityRequestReceive array q) s (fun t => t = { s with aon := t.aon, kvs := t.kvs, out := t.out })) ∧
  (∀ (s : State) (lane port tenant line remotePsn ownPsn : Nat), Completes (.rdmaCmRequest lane port tenant line remotePsn ownPsn) s (fun t => t = { s with aon := t.aon, rdm := t.rdm, regs := t.regs } ∧ s.RegsBut t [Fld.RDM_QP_INUSE_COUNT]))

/-- Frames of commands that reach further: the kinds of state that each leaves as it was.
The always-on part `aon` stands in every frame, as each command closes it (log entry 152), and local time moves to an event's instant (log entry 3). -/
def Obligations.FramesOfFurtherCommands : Prop :=
  (∀ (s : State), Completes .mdcInvalidationEnd s (fun t => t = { s with aon := t.aon, gbk := t.gbk, mdc := t.mdc, now := t.now, regs := t.regs })) ∧
  (∀ (s : State), Completes .ppsOutEdge s (fun t => t = { s with aon := t.aon, car := t.car, gbk := t.gbk, now := t.now, out := t.out, regs := t.regs })) ∧
  (∀ (s : State) (slot : Nat), Completes (.carillonFire slot) s (fun t => t = { s with aon := t.aon, gbk := t.gbk, hri := t.hri, now := t.now, out := t.out, regs := t.regs })) ∧
  (∀ (s : State), Completes .intHoldoffExpiry s (fun t => t = { s with aon := t.aon, gbk := t.gbk, glb := t.glb, now := t.now, out := t.out, regs := t.regs })) ∧
  (∀ (s : State) (ring : Nat) (ok : Bool), Completes (.statusBlockTimer ring ok) s (fun t => t = { s with aon := t.aon, gbk := t.gbk, hri := t.hri, now := t.now, out := t.out, regs := t.regs })) ∧
  (∀ (s : State) (ring : Nat), Completes (.coalesceTimer ring) s (fun t => t = { s with aon := t.aon, gbk := t.gbk, hri := t.hri, now := t.now, out := t.out, regs := t.regs })) ∧
  (∀ (s : State) (ring seq : Nat) (input : Option Nat) (outOk : Bool), Completes (.decompress ring seq input outOk) s (fun t => t = { s with aon := t.aon, hri := t.hri, out := t.out, regs := t.regs, wins := t.wins })) ∧
  (∀ (s : State) (jseq : Nat) (local_ : Bool), Completes (.pjmWriteFail jseq local_) s (fun t => t = { s with aon := t.aon, ops := t.ops, out := t.out, isl := t.isl, pjm := t.pjm, regs := t.regs })) ∧
  (∀ (s : State) (chan : Nat), Completes (.pjmChannelFail chan) s (fun t => t = { s with aon := t.aon, ops := t.ops, out := t.out, isl := t.isl, pjm := t.pjm, regs := t.regs })) ∧
  (∀ (s : State) (chan : Nat), Completes (.pjmChCmd chan) s (fun t => t = { s with aon := t.aon, isl := t.isl, out := t.out, pjm := t.pjm, regs := t.regs })) ∧
  (∀ (s : State) (stripe : Nat) (full : Bool), Completes (.bufferStripeClose stripe full) s (fun t => t = { s with aon := t.aon, gbk := t.gbk, now := t.now, out := t.out, regs := t.regs, str := t.str })) ∧
  (∀ (s : State) (listener isn : Nat) (ecn sack tsopt : Bool) (wscale mss : Nat), Completes (.tcpSyn listener isn ecn sack tsopt wscale mss) s (fun t => t = { s with aon := t.aon, free := t.free, net := t.net, out := t.out, regs := t.regs })) ∧
  (∀ (s : State) (q cid : Nat), Completes (.nvmeDisconnect q cid) s (fun t => t = { s with aon := t.aon, nvf := t.nvf, ops := t.ops, out := t.out, pol := t.pol, rdm := t.rdm })) ∧
  (∀ (s : State) (qp rttNs : Nat), Completes (.ccProbeAck qp rttNs) s (fun t => t = { s with aon := t.aon, gbk := t.gbk, now := t.now, rdm := t.rdm, regs := t.regs })) ∧
  (∀ (s : State) (qp : Nat), Completes (.ccIdleExpiry qp) s (fun t => t = { s with aon := t.aon, gbk := t.gbk, now := t.now, rdm := t.rdm, regs := t.regs })) ∧
  (∀ (s : State) (block pool index owner : Nat), Completes (.polFree block pool index owner) s (fun t => t = { s with aon := t.aon, gbk := t.gbk, out := t.out, pol := t.pol, regs := t.regs })) ∧
  (∀ (s : State) (pool owner : Nat), Completes (.polOpFree pool owner) s (fun t => t = { s with aon := t.aon, gbk := t.gbk, out := t.out, pol := t.pol, regs := t.regs })) ∧
  (∀ (s : State), Completes .islLinkUp s (fun t => t = { s with aon := t.aon, isl := t.isl, out := t.out, pjm := t.pjm, regs := t.regs })) ∧
  (∀ (s : State), Completes .drumbeatSend s (fun t => t = { s with aon := t.aon, gbk := t.gbk, isl := t.isl, now := t.now, out := t.out, regs := t.regs })) ∧
  (∀ (s : State) (fp domain : Nat) (reserve : Bool), Completes (.indexMessage fp domain reserve) s (fun t => t = { s with aon := t.aon, ddp := t.ddp, isl := t.isl, out := t.out, regs := t.regs })) ∧
  (∀ (s : State), Completes .mapEnable s (fun t => t = { s with aon := t.aon, flc := t.flc, free := t.free, map := t.map, regs := t.regs })) ∧
  (∀ (s : State) (pages : List (Nat × ParamPage)) (bads : List Nat), Completes (.flcEnable pages bads) s (fun t => t = { s with aon := t.aon, flc := t.flc, free := t.free, pgs := t.pgs, regs := t.regs })) ∧
  (∀ (s : State) (chan : Nat) (ok okLower : Bool) (marginPs : Nat), Completes (.channelTraining chan ok okLower marginPs) s (fun t => t = { s with aon := t.aon, flc := t.flc, out := t.out, regs := t.regs, str := t.str })) ∧
  (∀ (s : State) (block : Nat), Completes (.refreshQueue block) s (fun t => t = { s with aon := t.aon, flc := t.flc, gbk := t.gbk, gcx := t.gcx, now := t.now, regs := t.regs })) ∧
  (∀ (s : State) (stripe : Nat) (erasures : List (Nat × Nat)) (differs : Bool) (culprits : List Nat) (budgetEnds passEnds : Bool), Completes (.patrolStripeCheck stripe erasures differs culprits budgetEnds passEnds) s (fun t => t = { s with aon := t.aon, gbk := t.gbk, gcx := t.gcx, regs := t.regs, str := t.str })) ∧
  (∀ (s : State) (session cmd : Nat) (xferOk : Bool), Completes (.state session cmd xferOk) s (fun t => t = { s with aon := t.aon, kvs := t.kvs, out := t.out, rdm := t.rdm, wins := t.wins })) ∧
  (∀ (s : State) (session index : Nat), Completes (.enoreResponseWrite session index) s (fun t => t = { s with aon := t.aon, kvs := t.kvs, out := t.out, pol := t.pol, rdm := t.rdm, regs := t.regs })) ∧
  (∀ (s : State), Completes .ownEnable s (fun t => t = { s with aon := t.aon, free := t.free, out := t.out, own := t.own, regs := t.regs })) ∧
  (∀ (s : State) (m : IkMsg), Completes (.ikQuery m) s (fun t => t = { s with aon := t.aon, free := t.free, out := t.out, own := t.own, regs := t.regs })) ∧
  (∀ (s : State) (array : Nat), Completes (.ikHeldTakeExpiry array) s (fun t => t = { s with aon := t.aon, gbk := t.gbk, now := t.now, out := t.out, own := t.own, regs := t.regs })) ∧
  (∀ (s : State), Completes .ikRecoveryEnd s (fun t => t = { s with aon := t.aon, gbk := t.gbk, now := t.now, own := t.own, regs := t.regs })) ∧
  (∀ (s : State) (failStep : Nat) (partnerHeld partnerDegraded : Bool), Completes (.ownershipDrill failStep partnerHeld partnerDegraded) s (fun t => t = { s with aon := t.aon, gbk := t.gbk, out := t.out, own := t.own, regs := t.regs })) ∧
  (∀ (s : State), Completes .ownAskReturn s (fun t => t = { s with aon := t.aon, isl := t.isl, out := t.out, own := t.own, regs := t.regs })) ∧
  (∀ (s : State) (group failStep : Nat) (partnerHeld partnerDegraded : Bool), Completes (.ownDrillNow group failStep partnerHeld partnerDegraded) s (fun t => t = { s with aon := t.aon, gbk := t.gbk, out := t.out, own := t.own, regs := t.regs })) ∧
  (∀ (s : State) (epoch : Nat), Completes (.cutInstant epoch) s (fun t => t = { s with aon := t.aon, gbk := t.gbk, now := t.now, regs := t.regs, snp := t.snp })) ∧
  (∀ (s : State) (link seq : Nat), Completes (.replicationBatchTimeout link seq) s (fun t => t = { s with aon := t.aon, gbk := t.gbk, now := t.now, out := t.out, regs := t.regs, snp := t.snp })) ∧
  (∀ (s : State), Completes .gbkClear s (fun t => t = { s with aon := t.aon, gbk := t.gbk, isl := t.isl, out := t.out, regs := t.regs })) ∧
  (∀ (s : State), Completes .leapSecondAdjust s (fun t => t = { s with aon := t.aon, car := t.car, gbk := t.gbk, now := t.now, regs := t.regs })) ∧
  (∀ (s : State) (gen : Nat), Completes (.fwConfirm gen) s (fun t => t = { s with aon := t.aon, fwu := t.fwu, gbk := t.gbk, isl := t.isl, out := t.out, regs := t.regs })) ∧
  (∀ (s : State) (chain : Nat) (partnerDegraded : Bool), Completes (.chainFault chain partnerDegraded) s (fun t => t = { s with aon := t.aon, gbk := t.gbk, own := t.own, pwr := t.pwr, regs := t.regs })) ∧
  (∀ (s : State) (naks : List Nat), Completes (.avsVoutWrite naks) s (fun t => t = { s with aon := t.aon, gbk := t.gbk, now := t.now, out := t.out, pwr := t.pwr, regs := t.regs })) ∧
  (∀ (s : State) (field : Nat) (jtag : Option Nat), Completes (.fuseProg field jtag) s (fun t => t = { s with aon := t.aon, dbg := t.dbg, gbk := t.gbk, now := t.now, regs := t.regs })) ∧
  (∀ (s : State) (errors : Nat), Completes (.loopbackEnd errors) s (fun t => t = { s with aon := t.aon, dbg := t.dbg, gbk := t.gbk, now := t.now, regs := t.regs })) ∧
  (∀ (s : State), Completes .ptpDelayReqSend s (fun t => t = { s with aon := t.aon, car := t.car, gbk := t.gbk, now := t.now, out := t.out, regs := t.regs }))
end

