-- ==== Sys2Proof/Laws/Assoc.lean ====
section
/-!
SUPPORT. Laws of the sparse tables: what a lookup answers after an update, and that every update keeps the canonical form (keys strictly
rising).
-/
namespace Sys2Proof

variable {α : Type}

@[simp] theorem Assoc.look_nil (k : Nat) : Assoc.look ([] : Assoc α) k = none := rfl

theorem Assoc.look_cons (e : Nat × α) (t : Assoc α) (k : Nat) :
    Assoc.look (e :: t) k = if k = e.1 then some e.2 else Assoc.look t k := rfl

/-- A key put is found. -/
@[simp] theorem Assoc.look_put_self (m : Assoc α) (k : Nat) (v : α) : (m.put k v).look k = some v := by
  induction m with
  | nil => simp [Assoc.put, Assoc.look_cons]
  | cons e t ih =>
    obtain ⟨k', v'⟩ := e
    simp only [Assoc.put]
    split
    · simp [Assoc.look_cons]
    · split
      · simp [Assoc.look_cons]
      · rename_i _ hne
        simpa [Assoc.look_cons, hne] using ih

/-- Putting a key leaves every other key's entry. -/
theorem Assoc.look_put_ne (m : Assoc α) {k k' : Nat} (v : α) (h : k' ≠ k) : (m.put k v).look k' = m.look k' := by
  induction m with
  | nil => simp [Assoc.put, Assoc.look_cons, h]
  | cons e t ih =>
    obtain ⟨k₁, v₁⟩ := e
    simp only [Assoc.put]
    split
    · simp [Assoc.look_cons, h]
    · split
      · rename_i _ heq
        subst heq
        simp [Assoc.look_cons, h]
      · simp [Assoc.look_cons, ih]

theorem Assoc.look_put (m : Assoc α) (k k' : Nat) (v : α) : (m.put k v).look k' = if k' = k then some v else m.look k' := by
  by_cases h : k' = k
  · subst h; simp
  · simp [h, Assoc.look_put_ne]

/-- A key taken out is not found. -/
@[simp] theorem Assoc.look_del_self (m : Assoc α) (k : Nat) : (m.del k).look k = none := by
  induction m with
  | nil => rfl
  | cons e t ih =>
    by_cases h : e.1 = k
    · simpa [Assoc.del, h] using ih
    · simpa [Assoc.del, h, Assoc.look_cons, Ne.symm h] using ih

/-- Taking a key out leaves every other key's entry. -/
theorem Assoc.look_del_ne (m : Assoc α) {k k' : Nat} (h : k' ≠ k) : (m.del k).look k' = m.look k' := by
  induction m with
  | nil => rfl
  | cons e t ih =>
    by_cases he : e.1 = k
    · have : k' ≠ e.1 := fun hh => h (hh.trans he)
      simpa [Assoc.del, he, Assoc.look_cons, this, h] using ih
    · simp only [Assoc.del, List.filter_cons, bne_iff_ne, ne_eq, he, not_false_eq_true, if_true, Assoc.look_cons] at ih ⊢
      rw [ih]

/-- What `modify` leaves under a key. -/
theorem Assoc.look_modify (m : Assoc α) (k k' : Nat) (f : α → α) :
    (m.modify k f).look k' = if k' = k then (m.look k').map f else m.look k' := by
  induction m with
  | nil => simp [Assoc.modify, Assoc.mapVal]
  | cons e t ih =>
    simp only [Assoc.modify, Assoc.mapVal, List.map_cons, Assoc.look_cons] at ih ⊢
    by_cases h1 : k' = e.1
    · subst h1; by_cases h2 : e.1 = k <;> simp [h2]
    · simp [h1, ih]

@[simp] theorem Assoc.look_modify_self (m : Assoc α) (k : Nat) (f : α → α) : (m.modify k f).look k = (m.look k).map f := by
  simp [Assoc.look_modify]

@[simp] theorem Assoc.getD_put_self (m : Assoc α) (k : Nat) (v d : α) : (m.put k v).getD k d = v := by simp [Assoc.getD]

theorem Assoc.getD_put_ne (m : Assoc α) {k k' : Nat} (v d : α) (h : k' ≠ k) : (m.put k v).getD k' d = m.getD k' d := by
  simp [Assoc.getD, Assoc.look_put_ne m v h]

@[simp] theorem Assoc.getD_del_self (m : Assoc α) (k : Nat) (d : α) : (m.del k).getD k d = d := by simp [Assoc.getD]

theorem Assoc.getD_del_ne (m : Assoc α) {k k' : Nat} (d : α) (h : k' ≠ k) : (m.del k).getD k' d = m.getD k' d := by
  simp [Assoc.getD, Assoc.look_del_ne m h]

@[simp] theorem Assoc.has_put_self (m : Assoc α) (k : Nat) (v : α) : (m.put k v).has k = true := by simp [Assoc.has]

@[simp] theorem Assoc.has_del_self (m : Assoc α) (k : Nat) : (m.del k).has k = false := by simp [Assoc.has]

theorem Assoc.has_of_look {m : Assoc α} {k : Nat} {v : α} (h : m.look k = some v) : m.has k = true := by simp [Assoc.has, h]

theorem Assoc.has_of_look_none {m : Assoc α} {k : Nat} (h : m.look k = none) : m.has k = false := by simp [Assoc.has, h]

/-! ## The canonical form -/

/-- The empty table is canonical. -/
theorem Assoc.wf_nil : Assoc.wf ([] : Assoc α) := List.Pairwise.nil

theorem Assoc.mem_put {m : Assoc α} {k : Nat} {v : α} {e : Nat × α} (h : e ∈ m.put k v) : e.1 = k ∨ e ∈ m := by
  induction m with
  | nil => simp [Assoc.put] at h; exact .inl (by rw [h])
  | cons a t ih =>
    simp only [Assoc.put] at h
    split at h
    · rcases List.mem_cons.1 h with h | h
      · exact .inl (by rw [h])
      · exact .inr h
    · split at h
      · rcases List.mem_cons.1 h with h | h
        · exact .inl (by rw [h])
        · exact .inr (List.mem_cons_of_mem _ h)
      · rcases List.mem_cons.1 h with h | h
        · exact .inr (by rw [h]; exact List.mem_cons_self)
        · exact (ih h).imp id (List.mem_cons_of_mem _)

/-- Listing a key keeps the canonical form. -/
theorem Assoc.wf_put {m : Assoc α} (h : m.wf) (k : Nat) (v : α) : (m.put k v).wf := by
  induction m with
  | nil => exact List.pairwise_singleton _ _
  | cons a t ih =>
    have h1 := List.pairwise_cons.1 h
    simp only [Assoc.put]
    split
    · rename_i hlt
      exact List.pairwise_cons.2 ⟨fun e he => by
        rcases List.mem_cons.1 he with he | he
        · rw [he]; exact hlt
        · exact Nat.lt_trans hlt (h1.1 e he), h⟩
    · split
      · rename_i heq
        exact List.pairwise_cons.2 ⟨fun e he => by simpa [heq] using h1.1 e he, h1.2⟩
      · rename_i hge hne
        refine List.pairwise_cons.2 ⟨fun e he => ?_, ih h1.2⟩
        rcases Assoc.mem_put he with he | he
        · rw [he]; exact Nat.lt_of_le_of_ne (Nat.not_lt.1 hge) (Ne.symm hne)
        · exact h1.1 e he

/-- Filtering keeps the canonical form. -/
theorem Assoc.wf_keep {m : Assoc α} (h : m.wf) (p : Nat → α → Bool) : (m.keep p).wf :=
  List.Pairwise.sublist List.filter_sublist h

theorem Assoc.wf_del {m : Assoc α} (h : m.wf) (k : Nat) : (m.del k).wf := List.Pairwise.sublist List.filter_sublist h

/-- Changing values keeps the canonical form. -/
theorem Assoc.wf_mapVal {m : Assoc α} (h : m.wf) (f : Nat → α → α) : (m.mapVal f).wf :=
  List.pairwise_map.2 (h.imp (fun {_ _} hab => hab))

theorem Assoc.wf_modify {m : Assoc α} (h : m.wf) (k : Nat) (f : α → α) : (m.modify k f).wf := Assoc.wf_mapVal h _

/-! ## Sets -/

@[simp] theorem NatSet.mem_insert_self (s : NatSet) (k : Nat) : (s.insert k).mem k = true := by
  induction s with
  | nil => simp [NatSet.insert, NatSet.mem]
  | cons x t ih =>
    simp only [NatSet.insert]
    split
    · simp [NatSet.mem]
    · split
      · rename_i h; simp [NatSet.mem, h]
      · simp only [NatSet.mem, List.contains_cons, Bool.or_eq_true] at ih ⊢
        exact .inr ih

@[simp] theorem NatSet.mem_remove_self (s : NatSet) (k : Nat) : (s.remove k).mem k = false := by
  simp [NatSet.remove, NatSet.mem]

end Sys2Proof
end

