-- ==== Sys2Proof/Laws/State.lean ====
section
/-!
SUPPORT. Laws of the register accessors and of the small updates of State: which field each changes, and that it changes no other.
-/
namespace Sys2Proof.Machine

open Sys2Proof

/-! ## One lemma per field per update -/

@[simp] theorem State.wr_shadow (s : State) (f : Field) (v i j : Nat) : (s.wr f v i j).shadow = s.shadow := rfl
@[simp] theorem State.wr_latched (s : State) (f : Field) (v i j : Nat) : (s.wr f v i j).latched = s.latched := rfl
@[simp] theorem State.wr_now (s : State) (f : Field) (v i j : Nat) : (s.wr f v i j).now = s.now := rfl
@[simp] theorem State.wr_free (s : State) (f : Field) (v i j : Nat) : (s.wr f v i j).free = s.free := rfl
@[simp] theorem State.wr_out (s : State) (f : Field) (v i j : Nat) : (s.wr f v i j).out = s.out := rfl
@[simp] theorem State.wr_wins (s : State) (f : Field) (v i j : Nat) : (s.wr f v i j).wins = s.wins := rfl
@[simp] theorem State.wr_ops (s : State) (f : Field) (v i j : Nat) : (s.wr f v i j).ops = s.ops := rfl
@[simp] theorem State.wr_nextOp (s : State) (f : Field) (v i j : Nat) : (s.wr f v i j).nextOp = s.nextOp := rfl
@[simp] theorem State.wr_glb (s : State) (f : Field) (v i j : Nat) : (s.wr f v i j).glb = s.glb := rfl
@[simp] theorem State.wr_aon (s : State) (f : Field) (v i j : Nat) : (s.wr f v i j).aon = s.aon := rfl
@[simp] theorem State.wr_pwr (s : State) (f : Field) (v i j : Nat) : (s.wr f v i j).pwr = s.pwr := rfl
@[simp] theorem State.wr_car (s : State) (f : Field) (v i j : Nat) : (s.wr f v i j).car = s.car := rfl
@[simp] theorem State.wr_adm (s : State) (f : Field) (v i j : Nat) : (s.wr f v i j).adm = s.adm := rfl
@[simp] theorem State.wr_gbk (s : State) (f : Field) (v i j : Nat) : (s.wr f v i j).gbk = s.gbk := rfl
@[simp] theorem State.wr_hri (s : State) (f : Field) (v i j : Nat) : (s.wr f v i j).hri = s.hri := rfl
@[simp] theorem State.wr_pjm (s : State) (f : Field) (v i j : Nat) : (s.wr f v i j).pjm = s.pjm := rfl
@[simp] theorem State.wr_isl (s : State) (f : Field) (v i j : Nat) : (s.wr f v i j).isl = s.isl := rfl
@[simp] theorem State.wr_own (s : State) (f : Field) (v i j : Nat) : (s.wr f v i j).own = s.own := rfl
@[simp] theorem State.wr_net (s : State) (f : Field) (v i j : Nat) : (s.wr f v i j).net = s.net := rfl
@[simp] theorem State.wr_nvf (s : State) (f : Field) (v i j : Nat) : (s.wr f v i j).nvf = s.nvf := rfl
@[simp] theorem State.wr_pgs (s : State) (f : Field) (v i j : Nat) : (s.wr f v i j).pgs = s.pgs := rfl
@[simp] theorem State.wr_flc (s : State) (f : Field) (v i j : Nat) : (s.wr f v i j).flc = s.flc := rfl
@[simp] theorem State.wr_str (s : State) (f : Field) (v i j : Nat) : (s.wr f v i j).str = s.str := rfl
@[simp] theorem State.wr_gcx (s : State) (f : Field) (v i j : Nat) : (s.wr f v i j).gcx = s.gcx := rfl
@[simp] theorem State.wr_ddp (s : State) (f : Field) (v i j : Nat) : (s.wr f v i j).ddp = s.ddp := rfl
@[simp] theorem State.wr_map (s : State) (f : Field) (v i j : Nat) : (s.wr f v i j).map = s.map := rfl
@[simp] theorem State.wr_mdc (s : State) (f : Field) (v i j : Nat) : (s.wr f v i j).mdc = s.mdc := rfl
@[simp] theorem State.wr_kvs (s : State) (f : Field) (v i j : Nat) : (s.wr f v i j).kvs = s.kvs := rfl
@[simp] theorem State.wr_snp (s : State) (f : Field) (v i j : Nat) : (s.wr f v i j).snp = s.snp := rfl
@[simp] theorem State.wr_mte (s : State) (f : Field) (v i j : Nat) : (s.wr f v i j).mte = s.mte := rfl
@[simp] theorem State.wr_lpe (s : State) (f : Field) (v i j : Nat) : (s.wr f v i j).lpe = s.lpe := rfl
@[simp] theorem State.wr_age (s : State) (f : Field) (v i j : Nat) : (s.wr f v i j).age = s.age := rfl
@[simp] theorem State.wr_rdm (s : State) (f : Field) (v i j : Nat) : (s.wr f v i j).rdm = s.rdm := rfl
@[simp] theorem State.wr_pol (s : State) (f : Field) (v i j : Nat) : (s.wr f v i j).pol = s.pol := rfl
@[simp] theorem State.wr_cip (s : State) (f : Field) (v i j : Nat) : (s.wr f v i j).cip = s.cip := rfl
@[simp] theorem State.wr_fwu (s : State) (f : Field) (v i j : Nat) : (s.wr f v i j).fwu = s.fwu := rfl
@[simp] theorem State.wr_dbg (s : State) (f : Field) (v i j : Nat) : (s.wr f v i j).dbg = s.dbg := rfl
@[simp] theorem State.wr_pending (s : State) (f : Field) (v i j : Nat) : (s.wr f v i j).pending = s.pending := rfl

@[simp] theorem State.wr_regs (s : State) (f : Field) (v i j : Nat) : (s.wr f v i j).regs = putField s.regs f v i j := rfl

@[simp] theorem State.emit_regs (s : State) (o : Out) : (s.emit o).regs = s.regs := rfl
@[simp] theorem State.emit_shadow (s : State) (o : Out) : (s.emit o).shadow = s.shadow := rfl
@[simp] theorem State.emit_latched (s : State) (o : Out) : (s.emit o).latched = s.latched := rfl
@[simp] theorem State.emit_now (s : State) (o : Out) : (s.emit o).now = s.now := rfl
@[simp] theorem State.emit_free (s : State) (o : Out) : (s.emit o).free = s.free := rfl
@[simp] theorem State.emit_wins (s : State) (o : Out) : (s.emit o).wins = s.wins := rfl
@[simp] theorem State.emit_ops (s : State) (o : Out) : (s.emit o).ops = s.ops := rfl
@[simp] theorem State.emit_nextOp (s : State) (o : Out) : (s.emit o).nextOp = s.nextOp := rfl
@[simp] theorem State.emit_glb (s : State) (o : Out) : (s.emit o).glb = s.glb := rfl
@[simp] theorem State.emit_aon (s : State) (o : Out) : (s.emit o).aon = s.aon := rfl
@[simp] theorem State.emit_pwr (s : State) (o : Out) : (s.emit o).pwr = s.pwr := rfl
@[simp] theorem State.emit_car (s : State) (o : Out) : (s.emit o).car = s.car := rfl
@[simp] theorem State.emit_adm (s : State) (o : Out) : (s.emit o).adm = s.adm := rfl
@[simp] theorem State.emit_gbk (s : State) (o : Out) : (s.emit o).gbk = s.gbk := rfl
@[simp] theorem State.emit_hri (s : State) (o : Out) : (s.emit o).hri = s.hri := rfl
@[simp] theorem State.emit_pjm (s : State) (o : Out) : (s.emit o).pjm = s.pjm := rfl
@[simp] theorem State.emit_isl (s : State) (o : Out) : (s.emit o).isl = s.isl := rfl
@[simp] theorem State.emit_own (s : State) (o : Out) : (s.emit o).own = s.own := rfl
@[simp] theorem State.emit_net (s : State) (o : Out) : (s.emit o).net = s.net := rfl
@[simp] theorem State.emit_nvf (s : State) (o : Out) : (s.emit o).nvf = s.nvf := rfl
@[simp] theorem State.emit_pgs (s : State) (o : Out) : (s.emit o).pgs = s.pgs := rfl
@[simp] theorem State.emit_flc (s : State) (o : Out) : (s.emit o).flc = s.flc := rfl
@[simp] theorem State.emit_str (s : State) (o : Out) : (s.emit o).str = s.str := rfl
@[simp] theorem State.emit_gcx (s : State) (o : Out) : (s.emit o).gcx = s.gcx := rfl
@[simp] theorem State.emit_ddp (s : State) (o : Out) : (s.emit o).ddp = s.ddp := rfl
@[simp] theorem State.emit_map (s : State) (o : Out) : (s.emit o).map = s.map := rfl
@[simp] theorem State.emit_mdc (s : State) (o : Out) : (s.emit o).mdc = s.mdc := rfl
@[simp] theorem State.emit_kvs (s : State) (o : Out) : (s.emit o).kvs = s.kvs := rfl
@[simp] theorem State.emit_snp (s : State) (o : Out) : (s.emit o).snp = s.snp := rfl
@[simp] theorem State.emit_mte (s : State) (o : Out) : (s.emit o).mte = s.mte := rfl
@[simp] theorem State.emit_lpe (s : State) (o : Out) : (s.emit o).lpe = s.lpe := rfl
@[simp] theorem State.emit_age (s : State) (o : Out) : (s.emit o).age = s.age := rfl
@[simp] theorem State.emit_rdm (s : State) (o : Out) : (s.emit o).rdm = s.rdm := rfl
@[simp] theorem State.emit_pol (s : State) (o : Out) : (s.emit o).pol = s.pol := rfl
@[simp] theorem State.emit_cip (s : State) (o : Out) : (s.emit o).cip = s.cip := rfl
@[simp] theorem State.emit_fwu (s : State) (o : Out) : (s.emit o).fwu = s.fwu := rfl
@[simp] theorem State.emit_dbg (s : State) (o : Out) : (s.emit o).dbg = s.dbg := rfl
@[simp] theorem State.emit_pending (s : State) (o : Out) : (s.emit o).pending = s.pending := rfl

@[simp] theorem State.emit_out (s : State) (o : Out) : (s.emit o).out = o :: s.out := rfl

@[simp] theorem State.draw_regs (s : State)  : (s.draw).regs = s.regs := rfl
@[simp] theorem State.draw_shadow (s : State)  : (s.draw).shadow = s.shadow := rfl
@[simp] theorem State.draw_latched (s : State)  : (s.draw).latched = s.latched := rfl
@[simp] theorem State.draw_now (s : State)  : (s.draw).now = s.now := rfl
@[simp] theorem State.draw_out (s : State)  : (s.draw).out = s.out := rfl
@[simp] theorem State.draw_wins (s : State)  : (s.draw).wins = s.wins := rfl
@[simp] theorem State.draw_ops (s : State)  : (s.draw).ops = s.ops := rfl
@[simp] theorem State.draw_nextOp (s : State)  : (s.draw).nextOp = s.nextOp := rfl
@[simp] theorem State.draw_glb (s : State)  : (s.draw).glb = s.glb := rfl
@[simp] theorem State.draw_aon (s : State)  : (s.draw).aon = s.aon := rfl
@[simp] theorem State.draw_pwr (s : State)  : (s.draw).pwr = s.pwr := rfl
@[simp] theorem State.draw_car (s : State)  : (s.draw).car = s.car := rfl
@[simp] theorem State.draw_adm (s : State)  : (s.draw).adm = s.adm := rfl
@[simp] theorem State.draw_gbk (s : State)  : (s.draw).gbk = s.gbk := rfl
@[simp] theorem State.draw_hri (s : State)  : (s.draw).hri = s.hri := rfl
@[simp] theorem State.draw_pjm (s : State)  : (s.draw).pjm = s.pjm := rfl
@[simp] theorem State.draw_isl (s : State)  : (s.draw).isl = s.isl := rfl
@[simp] theorem State.draw_own (s : State)  : (s.draw).own = s.own := rfl
@[simp] theorem State.draw_net (s : State)  : (s.draw).net = s.net := rfl
@[simp] theorem State.draw_nvf (s : State)  : (s.draw).nvf = s.nvf := rfl
@[simp] theorem State.draw_pgs (s : State)  : (s.draw).pgs = s.pgs := rfl
@[simp] theorem State.draw_flc (s : State)  : (s.draw).flc = s.flc := rfl
@[simp] theorem State.draw_str (s : State)  : (s.draw).str = s.str := rfl
@[simp] theorem State.draw_gcx (s : State)  : (s.draw).gcx = s.gcx := rfl
@[simp] theorem State.draw_ddp (s : State)  : (s.draw).ddp = s.ddp := rfl
@[simp] theorem State.draw_map (s : State)  : (s.draw).map = s.map := rfl
@[simp] theorem State.draw_mdc (s : State)  : (s.draw).mdc = s.mdc := rfl
@[simp] theorem State.draw_kvs (s : State)  : (s.draw).kvs = s.kvs := rfl
@[simp] theorem State.draw_snp (s : State)  : (s.draw).snp = s.snp := rfl
@[simp] theorem State.draw_mte (s : State)  : (s.draw).mte = s.mte := rfl
@[simp] theorem State.draw_lpe (s : State)  : (s.draw).lpe = s.lpe := rfl
@[simp] theorem State.draw_age (s : State)  : (s.draw).age = s.age := rfl
@[simp] theorem State.draw_rdm (s : State)  : (s.draw).rdm = s.rdm := rfl
@[simp] theorem State.draw_pol (s : State)  : (s.draw).pol = s.pol := rfl
@[simp] theorem State.draw_cip (s : State)  : (s.draw).cip = s.cip := rfl
@[simp] theorem State.draw_fwu (s : State)  : (s.draw).fwu = s.fwu := rfl
@[simp] theorem State.draw_dbg (s : State)  : (s.draw).dbg = s.dbg := rfl
@[simp] theorem State.draw_pending (s : State)  : (s.draw).pending = s.pending := rfl

@[simp] theorem State.setFn_regs (s : State) (n : Nat) (f : Fn) : (s.setFn n f).regs = s.regs := rfl
@[simp] theorem State.setFn_shadow (s : State) (n : Nat) (f : Fn) : (s.setFn n f).shadow = s.shadow := rfl
@[simp] theorem State.setFn_latched (s : State) (n : Nat) (f : Fn) : (s.setFn n f).latched = s.latched := rfl
@[simp] theorem State.setFn_now (s : State) (n : Nat) (f : Fn) : (s.setFn n f).now = s.now := rfl
@[simp] theorem State.setFn_free (s : State) (n : Nat) (f : Fn) : (s.setFn n f).free = s.free := rfl
@[simp] theorem State.setFn_out (s : State) (n : Nat) (f : Fn) : (s.setFn n f).out = s.out := rfl
@[simp] theorem State.setFn_wins (s : State) (n : Nat) (f : Fn) : (s.setFn n f).wins = s.wins := rfl
@[simp] theorem State.setFn_ops (s : State) (n : Nat) (f : Fn) : (s.setFn n f).ops = s.ops := rfl
@[simp] theorem State.setFn_nextOp (s : State) (n : Nat) (f : Fn) : (s.setFn n f).nextOp = s.nextOp := rfl
@[simp] theorem State.setFn_glb (s : State) (n : Nat) (f : Fn) : (s.setFn n f).glb = s.glb := rfl
@[simp] theorem State.setFn_aon (s : State) (n : Nat) (f : Fn) : (s.setFn n f).aon = s.aon := rfl
@[simp] theorem State.setFn_pwr (s : State) (n : Nat) (f : Fn) : (s.setFn n f).pwr = s.pwr := rfl
@[simp] theorem State.setFn_car (s : State) (n : Nat) (f : Fn) : (s.setFn n f).car = s.car := rfl
@[simp] theorem State.setFn_adm (s : State) (n : Nat) (f : Fn) : (s.setFn n f).adm = s.adm := rfl
@[simp] theorem State.setFn_gbk (s : State) (n : Nat) (f : Fn) : (s.setFn n f).gbk = s.gbk := rfl
@[simp] theorem State.setFn_pjm (s : State) (n : Nat) (f : Fn) : (s.setFn n f).pjm = s.pjm := rfl
@[simp] theorem State.setFn_isl (s : State) (n : Nat) (f : Fn) : (s.setFn n f).isl = s.isl := rfl
@[simp] theorem State.setFn_own (s : State) (n : Nat) (f : Fn) : (s.setFn n f).own = s.own := rfl
@[simp] theorem State.setFn_net (s : State) (n : Nat) (f : Fn) : (s.setFn n f).net = s.net := rfl
@[simp] theorem State.setFn_nvf (s : State) (n : Nat) (f : Fn) : (s.setFn n f).nvf = s.nvf := rfl
@[simp] theorem State.setFn_pgs (s : State) (n : Nat) (f : Fn) : (s.setFn n f).pgs = s.pgs := rfl
@[simp] theorem State.setFn_flc (s : State) (n : Nat) (f : Fn) : (s.setFn n f).flc = s.flc := rfl
@[simp] theorem State.setFn_str (s : State) (n : Nat) (f : Fn) : (s.setFn n f).str = s.str := rfl
@[simp] theorem State.setFn_gcx (s : State) (n : Nat) (f : Fn) : (s.setFn n f).gcx = s.gcx := rfl
@[simp] theorem State.setFn_ddp (s : State) (n : Nat) (f : Fn) : (s.setFn n f).ddp = s.ddp := rfl
@[simp] theorem State.setFn_map (s : State) (n : Nat) (f : Fn) : (s.setFn n f).map = s.map := rfl
@[simp] theorem State.setFn_mdc (s : State) (n : Nat) (f : Fn) : (s.setFn n f).mdc = s.mdc := rfl
@[simp] theorem State.setFn_kvs (s : State) (n : Nat) (f : Fn) : (s.setFn n f).kvs = s.kvs := rfl
@[simp] theorem State.setFn_snp (s : State) (n : Nat) (f : Fn) : (s.setFn n f).snp = s.snp := rfl
@[simp] theorem State.setFn_mte (s : State) (n : Nat) (f : Fn) : (s.setFn n f).mte = s.mte := rfl
@[simp] theorem State.setFn_lpe (s : State) (n : Nat) (f : Fn) : (s.setFn n f).lpe = s.lpe := rfl
@[simp] theorem State.setFn_age (s : State) (n : Nat) (f : Fn) : (s.setFn n f).age = s.age := rfl
@[simp] theorem State.setFn_rdm (s : State) (n : Nat) (f : Fn) : (s.setFn n f).rdm = s.rdm := rfl
@[simp] theorem State.setFn_pol (s : State) (n : Nat) (f : Fn) : (s.setFn n f).pol = s.pol := rfl
@[simp] theorem State.setFn_cip (s : State) (n : Nat) (f : Fn) : (s.setFn n f).cip = s.cip := rfl
@[simp] theorem State.setFn_fwu (s : State) (n : Nat) (f : Fn) : (s.setFn n f).fwu = s.fwu := rfl
@[simp] theorem State.setFn_dbg (s : State) (n : Nat) (f : Fn) : (s.setFn n f).dbg = s.dbg := rfl
@[simp] theorem State.setFn_pending (s : State) (n : Nat) (f : Fn) : (s.setFn n f).pending = s.pending := rfl

/-! ## Register fields -/

/-- A field written reads as the value cut to its width. -/
@[simp] theorem getD_putField_self (t : Assoc Nat) (f : Field) (v i j : Nat) :
    (putField t f v i j).getD (f.key i j) f.reset = v % 2 ^ f.width := by
  unfold putField
  split
  · simp_all
  · simp

/-- A field written leaves what lies at another bit address. -/
theorem getD_putField_ne (t : Assoc Nat) (f : Field) (v i j k d : Nat) (h : k ≠ f.key i j) :
    (putField t f v i j).getD k d = t.getD k d := by
  unfold putField
  split
  · exact Assoc.getD_del_ne t d h
  · exact Assoc.getD_put_ne t _ d h

/-- A field written keeps the canonical form of the register table. -/
theorem wf_putField {t : Assoc Nat} (h : t.wf) (f : Field) (v i j : Nat) : (putField t f v i j).wf := by
  unfold putField
  split
  · exact Assoc.wf_del h _
  · exact Assoc.wf_put h _ _

/-- A field written reads as the value cut to its width (R2, R4). -/
@[simp] theorem State.rd_wr_self (s : State) (f : Field) (v i j : Nat) : (s.wr f v i j).rd f i j = v % 2 ^ f.width :=
  getD_putField_self s.regs f v i j

/-- A field written leaves every field at another bit address. -/
theorem State.rd_wr_ne (s : State) (f g : Field) (v i j k l : Nat) (h : g.key k l ≠ f.key i j) : (s.wr f v i j).rd g k l = s.rd g k l :=
  getD_putField_ne s.regs f v i j _ _ h

/-- Reading a field uses the register table alone. -/
theorem State.rd_congr {s t : State} (h : s.regs = t.regs) (f : Field) (i j : Nat) : s.rd f i j = t.rd f i j := by
  unfold State.rd; rw [h]

@[simp] theorem State.rd_emit (s : State) (o : Out) (f : Field) (i j : Nat) : (s.emit o).rd f i j = s.rd f i j := rfl
@[simp] theorem State.rd_draw (s : State) (f : Field) (i j : Nat) : s.draw.rd f i j = s.rd f i j := rfl
@[simp] theorem State.rd_setFn (s : State) (n : Nat) (x : Fn) (f : Field) (i j : Nat) : (s.setFn n x).rd f i j = s.rd f i j := rfl

/-- A field of a state written out reads from its register table. -/
@[simp] theorem State.rd_mk {x0 x1 x2 x3 x4 x5 x6 x7 x8 x9 x10 x11 x12 x13 x14 x15 x16 x17 x18 x19 x20 x21 x22 x23 x24 x25 x26 x27 x28 x29 x30 x31 x32 x33 x34 x35 x36 x37 x38} (f : Field) (i j : Nat) :
    State.rd (State.mk x0 x1 x2 x3 x4 x5 x6 x7 x8 x9 x10 x11 x12 x13 x14 x15 x16 x17 x18 x19 x20 x21 x22 x23 x24 x25 x26 x27 x28 x29 x30 x31 x32 x33 x34 x35 x36 x37 x38) f i j = x0.getD (f.key i j) f.reset := rfl

theorem State.rdb_eq (s : State) (f : Field) (i j : Nat) : s.rdb f i j = (s.rd f i j == 1) := rfl
theorem State.raise_eq (s : State) (f : Field) (i : Nat) : s.raise f i = s.wr f 1 i 0 := rfl
theorem State.wrb_eq (s : State) (f : Field) (v : Bool) (i j : Nat) : s.wrb f v i j = s.wr f (b2n v) i j := rfl
theorem State.bump_eq (s : State) (f : Field) (d i : Nat) : s.bump f d i = s.wr f (satAdd f.width (s.rd f i) d) i 0 := rfl

/-- A function's state as it was put. -/
@[simp] theorem State.fn_setFn_self (s : State) (n : Nat) (f : Fn) : (s.setFn n f).fn n = f := by simp [State.fn, State.setFn]

/-! ## The end of a command -/

/-- Every command ends in a next state: the state its effect leaves, as the always-on logic holds it (R11, R378). -/
theorem ended_eq (s : State) : ended s = .next { s with aon := s.aon.settled } := rfl

/-- A command's end changes no register field. -/
theorem State.rd_settled (s : State) (a : Aon) (f : Field) (i j : Nat) : State.rd { s with aon := a } f i j = s.rd f i j := rfl

/-- The lease timer stands as it stood. -/
@[simp] theorem Aon.settled_leaseEnd (a : Aon) : a.settled.leaseEnd = a.leaseEnd := by
  unfold Aon.settled Aon.gate; split <;> rfl

@[simp] theorem Aon.settled_fenceIn (a : Aon) : a.settled.fenceIn = a.fenceIn := by
  unfold Aon.settled Aon.gate; split <;> rfl

@[simp] theorem Aon.settled_claimIn (a : Aon) : a.settled.claimIn = a.claimIn := by
  unfold Aon.settled Aon.gate; split <;> rfl

@[simp] theorem Aon.settled_feedA (a : Aon) : a.settled.feedA = a.feedA := by unfold Aon.settled Aon.gate; split <;> rfl
@[simp] theorem Aon.settled_feedB (a : Aon) : a.settled.feedB = a.feedB := by unfold Aon.settled Aon.gate; split <;> rfl
@[simp] theorem Aon.settled_sysRst (a : Aon) : a.settled.sysRst = a.sysRst := by unfold Aon.settled Aon.gate; split <;> rfl
@[simp] theorem Aon.settled_perst (a : Aon) : a.settled.perst = a.perst := by unfold Aon.settled Aon.gate; split <;> rfl
@[simp] theorem Aon.settled_mainReset (a : Aon) : a.settled.mainReset = a.mainReset := by unfold Aon.settled Aon.gate; split <;> rfl
@[simp] theorem Aon.settled_side (a : Aon) : a.settled.side = a.side := by unfold Aon.settled Aon.gate; split <;> rfl
@[simp] theorem Aon.settled_sidePin (a : Aon) : a.settled.sidePin = a.sidePin := by unfold Aon.settled Aon.gate; split <;> rfl
@[simp] theorem Aon.settled_bifPin (a : Aon) : a.settled.bifPin = a.bifPin := by unfold Aon.settled Aon.gate; split <;> rfl
@[simp] theorem Aon.settled_fenced (a : Aon) : a.settled.fenced = a.fenced := by unfold Aon.settled Aon.gate; split <;> rfl
@[simp] theorem Aon.settled_fenceOut (a : Aon) : a.settled.fenceOut = a.fenceOut := by unfold Aon.settled Aon.gate; split <;> rfl
@[simp] theorem Aon.settled_claimMask (a : Aon) : a.settled.claimMask = a.claimMask := by unfold Aon.settled Aon.gate; split <;> rfl
@[simp] theorem Aon.settled_bootFail (a : Aon) : a.settled.bootFail = a.bootFail := by unfold Aon.settled Aon.gate; split <;> rfl
@[simp] theorem Aon.settled_backstop (a : Aon) : a.settled.backstop = a.backstop := by unfold Aon.settled Aon.gate; split <;> rfl
@[simp] theorem Aon.settled_totalVfs (a : Aon) : a.settled.totalVfs = a.totalVfs := by unfold Aon.settled Aon.gate; split <;> rfl
@[simp] theorem Aon.settled_totalVfsCfg (a : Aon) : a.settled.totalVfsCfg = a.totalVfsCfg := by unfold Aon.settled Aon.gate; split <;> rfl
@[simp] theorem Aon.settled_rootKey (a : Aon) : a.settled.rootKey = a.rootKey := by unfold Aon.settled Aon.gate; split <;> rfl
@[simp] theorem Aon.settled_resetCause (a : Aon) : a.settled.resetCause = a.resetCause := by unfold Aon.settled Aon.gate; split <;> rfl

/-- With the timer running and no fence, the claims stand as they stood. -/
theorem Aon.settled_claimOut (a : Aon) (h : a.timerRuns = true) (hf : a.fenceIn = false) : a.settled.claimOut = a.claimOut := by
  simp [Aon.settled, Aon.gate, h, hf]

end Sys2Proof.Machine
end

