-- ==== Sys2Proof/Laws/Ops.lean ====
section
/-! SUPPORT. What the shared operations of Machine/Ops.lean can do, said once: register frames, alarms, records, the passing of local time, and
the end of a command. -/

namespace Sys2Proof.Machine

open Sys2Proof

/-! ## The end of a command -/

/-- A command whose meaning is `ended u` completes in u, as the always-on logic holds it. -/
theorem Completes.of_ended {c : Instr} {s u : State} {P : State → Prop} (h : exec c s = ended u)
    (hp : P { u with aon := u.aon.settled }) : Completes c s P := ⟨_, h.trans (ended_eq u), hp⟩

/-- What the always-on logic holds meets R11. -/
theorem Aon.gate_driveOk (a : Aon) : a.gate.DriveOk := by
  intro g h
  have h' : a.mayDrive g = true := by
    simp only [Aon.gate, NatSet.mem, List.contains_iff_mem, List.mem_filter] at h
    exact h.2
  simpa [Aon.mayDrive, Aon.gate, Aon.timerRuns, and_assoc] using h'

/-- A component that every step of a fold keeps is kept by the fold. -/
theorem foldl_keeps {β γ : Type} (f : State → β → State) (p : State → γ) (h : ∀ s x, p (f s x) = p s) (l : List β) (s : State) :
    p (l.foldl f s) = p s := by
  induction l generalizing s with
  | nil => rfl
  | cons a t ih => rw [List.foldl_cons, ih, h]

/-! ## Register frames -/

/-- Equal register tables differ in no field. -/
theorem State.RegsBut.of_eq {s t : State} (h : t.regs = s.regs) (l : List Field) : s.RegsBut t l := fun k _ => by rw [h]

/-- Two changes one after the other. -/
theorem State.RegsBut.trans {s t u : State} {l : List Field} (h : s.RegsBut t l) (h' : t.RegsBut u l) : s.RegsBut u l :=
  fun k hk => (h' k hk).trans (h k hk)

/-- More fields may be named. -/
theorem State.RegsBut.mono {s t : State} {l m : List Field} (h : s.RegsBut t l) (hs : ∀ f ∈ l, f ∈ m) : s.RegsBut t m :=
  fun k hk => h k (fun f hf => hk f (hs f hf))

/-- A field whose bit address belongs to no field named reads as before. -/
theorem State.RegsBut.rd {s t : State} {l : List Field} (h : s.RegsBut t l) (f : Field) (i j : Nat)
    (hk : ∀ g ∈ l, ∀ a b, a < g.first + g.count → b < g.count2 → g.key a b ≠ f.key i j) : t.rd f i j = s.rd f i j := by
  simp only [State.rd, Assoc.getD, h _ hk]

/-- Writing one instance of a field. -/
theorem State.RegsBut.wr (s : State) (f : Field) (v i j : Nat) (hi : i < f.first + f.count) (hj : j < f.count2) :
    s.RegsBut (s.wr f v i j) [f] := by
  intro k hk
  have hne : k ≠ f.key i j := fun e => hk f (List.mem_singleton.2 rfl) i j hi hj e.symm
  simp only [State.wr_regs, putField]
  split
  · exact Assoc.look_del_ne _ hne
  · exact Assoc.look_put_ne _ _ hne

/-- Writing one instance of a field after a change. -/
theorem State.RegsBut.then_wr {s t : State} {l : List Field} (h : s.RegsBut t l) (f : Field) (v i j : Nat) (hf : f ∈ l)
    (hi : i < f.first + f.count) (hj : j < f.count2) : s.RegsBut (t.wr f v i j) l :=
  h.trans ((State.RegsBut.wr t f v i j hi hj).mono (fun g hg => by rw [List.mem_singleton.1 hg]; exact hf))

/-! ## Alarms and Guestbook records -/

/-- The fields that staging a record may write. -/
abbrev stageFields : List Field := [Fld.GBK_LOST_COUNT, Fld.GBK_ERR_OVERFLOW]

/-- Staging a record changes GBK's own state, and its two fields when the ring is full (R457). -/
theorem State.gbkStage_frame (s : State) (r : GbkRec) :
    s.gbkStage r = { s with gbk := (s.gbkStage r).gbk, regs := (s.gbkStage r).regs } ∧ s.RegsBut (s.gbkStage r) stageFields := by
  unfold State.gbkStage
  split
  · exact ⟨rfl, State.RegsBut.of_eq rfl _⟩
  · refine ⟨rfl, ?_⟩
    refine State.RegsBut.then_wr (State.RegsBut.then_wr (State.RegsBut.of_eq (t := { s with gbk := _ }) rfl _) _ _ _ _ ?_ ?_ ?_) _ _ _ _ ?_ ?_ ?_ <;>
      decide

/-- A record changes GBK's own state and at most the alarm bits and staging's fields (R457, R463). -/
theorem State.recordAt_frame (s : State) (src code a0 a1 a2 tCt : Nat) (alarm : Bool) :
    s.recordAt src code a0 a1 a2 tCt alarm =
      { s with gbk := (s.recordAt src code a0 a1 a2 tCt alarm).gbk, regs := (s.recordAt src code a0 a1 a2 tCt alarm).regs } ∧
    s.RegsBut (s.recordAt src code a0 a1 a2 tCt alarm) (Fld.GBK_ALARM_SOURCE :: stageFields) := by
  have key : ∀ (u : State) (r : GbkRec), u.RegsBut (u.gbkStage r) (Fld.GBK_ALARM_SOURCE :: stageFields) :=
    fun u r => (u.gbkStage_frame r).2.mono (fun f hf => List.mem_cons_of_mem _ hf)
  unfold State.recordAt
  cases alarm
  · exact ⟨(s.gbkStage_frame _).1, key _ _⟩
  · refine ⟨?_, ?_⟩
    · have := (State.gbkStage_frame (s.alarm src) ((s.alarm src).gbkMake src code a0 a1 a2 tCt true)).1
      simp only [if_true]
      rw [this]
      rfl
    · simp only [if_true]
      refine State.RegsBut.trans ?_ (key _ _)
      exact (State.RegsBut.of_eq (t := s) rfl _).then_wr _ _ _ _ (by decide) (by decide) (by decide)

/-! ## Local time -/

/-- The fields that the lease timer's end may write (R378). -/
abbrev leaseFields : List Field := [Fld.OWN_STATUS_LEASE, Fld.OWN_ERR_SELF_FENCE, Fld.GBK_ALARM_SOURCE, Fld.GBK_LOST_COUNT, Fld.GBK_ERR_OVERFLOW]

/-- The end of the lease timer: the always-on part, GBK and the fields named. -/
theorem State.leaseZero_frame (s : State) :
    s.leaseZero = { s with aon := s.leaseZero.aon, gbk := s.leaseZero.gbk, regs := s.leaseZero.regs } ∧ s.RegsBut s.leaseZero leaseFields ∧
    s.leaseZero.aon.drivers = [] ∧ s.leaseZero.aon.claimOut = [] ∧ s.leaseZero.aon.leaseEnd = none := by
  have hr := fun u : State => u.recordAt_frame Blk.OWN 0x3003 0 0 0 u.ctNs (u.rdb Fld.OWN_CTRL_SELF_FENCE_ALARM)
  unfold State.leaseZero State.record
  refine ⟨?_, ?_, ?_⟩
  · rw [(hr _).1]; rfl
  · refine State.RegsBut.trans ?_ ((hr _).2.mono (by decide))
    refine State.RegsBut.then_wr (State.RegsBut.then_wr (State.RegsBut.of_eq (t := { s with aon := _ }) rfl _) _ _ _ _ ?_ ?_ ?_) _ _ _ _ ?_ ?_ ?_ <;>
      decide
  · rw [(hr _).1]; exact ⟨rfl, rfl, rfl⟩

/-- Local time passes: never back, and beyond it only the lease timer's end acts (R378). -/
theorem State.advance_frame (s : State) (t : Nat) :
    (s.advance t).now = max s.now t ∧
    s.advance t = { s with now := (s.advance t).now, aon := (s.advance t).aon, gbk := (s.advance t).gbk, regs := (s.advance t).regs } ∧
    s.RegsBut (s.advance t) leaseFields := by
  unfold State.advance
  split
  · split
    · rename_i e _ hle
      have h := State.leaseZero_frame { s with now := max s.now e }
      have hn : (State.leaseZero { s with now := max s.now e }).now = max s.now e := by rw [h.1]
      dsimp only
      refine ⟨by rw [hn]; omega, ?_, ?_⟩
      · rw [h.1]
      · exact State.RegsBut.trans (State.RegsBut.of_eq (t := { s with now := max s.now e }) rfl _)
          (h.2.1.trans (State.RegsBut.of_eq rfl _))
    · exact ⟨rfl, rfl, State.RegsBut.of_eq rfl _⟩
  · exact ⟨rfl, rfl, State.RegsBut.of_eq rfl _⟩

/-- With a lease timer that does not run out on the way, time passes and nothing else. -/
theorem State.advance_quiet (s : State) (t : Nat) (h : ∀ e, s.aon.leaseEnd = some e → t < e) : s.advance t = { s with now := max s.now t } := by
  unfold State.advance
  split
  · rename_i e he
    have := h e he
    rw [if_neg (by omega)]
  · rfl

/-! ## Events -/

/-- An event for one function: HRI's own state, what leaves the head, and the count of lost events (R103). -/
theorem State.eventTo_frame (s : State) (n src code time a0 a1 : Nat) (h : n < 256) :
    s.eventTo n src code time a0 a1 =
      { s with hri := (s.eventTo n src code time a0 a1).hri, out := (s.eventTo n src code time a0 a1).out,
               regs := (s.eventTo n src code time a0 a1).regs } ∧
    s.RegsBut (s.eventTo n src code time a0 a1) [Fld.HRI_FN_EVQ_LOST_COUNT, Fld.HRI_ERR_EVQ_OVF] := by
  unfold State.eventTo
  simp only
  split
  · exact ⟨rfl, State.RegsBut.of_eq rfl _⟩
  · split
    · refine ⟨rfl, ?_⟩
      refine State.RegsBut.then_wr (State.RegsBut.then_wr (State.RegsBut.of_eq (t := s.setFn n _) rfl _) _ _ _ _ ?_ ?_ ?_) _ _ _ _ ?_ ?_ ?_
      all_goals first | decide | exact h
    · exact ⟨rfl, State.RegsBut.of_eq rfl _⟩

/-! ## Rings and functions -/

@[simp] theorem State.ring_setRing_self (s : State) (r : Nat) (x : Ring) : (s.setRing r x).ring r = x := by simp [State.ring, State.setRing]
@[simp] theorem State.ring_wr (s : State) (f : Field) (v i j r : Nat) : (s.wr f v i j).ring r = s.ring r := rfl
@[simp] theorem State.ring_emit (s : State) (o : Out) (r : Nat) : (s.emit o).ring r = s.ring r := rfl
@[simp] theorem State.setRing_regs (s : State) (r : Nat) (x : Ring) : (s.setRing r x).regs = s.regs := rfl
@[simp] theorem State.setRing_wins (s : State) (r : Nat) (x : Ring) : (s.setRing r x).wins = s.wins := rfl
@[simp] theorem State.setRing_out (s : State) (r : Nat) (x : Ring) : (s.setRing r x).out = s.out := rfl
@[simp] theorem State.setRing_now (s : State) (r : Nat) (x : Ring) : (s.setRing r x).now = s.now := rfl
@[simp] theorem State.rd_setRing (s : State) (r : Nat) (x : Ring) (f : Field) (i j : Nat) : (s.setRing r x).rd f i j = s.rd f i j := rfl
@[simp] theorem State.ring_aon (s : State) (a : Aon) (r : Nat) : State.ring { s with aon := a } r = s.ring r := rfl
@[simp] theorem State.fn_aon (s : State) (a : Aon) (r : Nat) : State.fn { s with aon := a } r = s.fn r := rfl

end Sys2Proof.Machine
end

