-- ==== Sys2Proof/Laws/Boot.lean ====
section
/-! SUPPORT. What the steps of a boot (R467, R468, Table 23.5) keep, and where a boot arrives. -/

namespace Sys2Proof.Machine

open Sys2Proof

/-- Powering domains keeps every component that register writes keep. -/
theorem State.powerAll_keeps {γ : Type} (p : State → γ) (h : ∀ (s : State) f v i j, p (s.wr f v i j) = p s) (s : State) (l : List Nat) :
   p (s.powerAll l) = p s := by
  unfold State.powerAll
  exact foldl_keeps _ p (fun s n => h _ _ _ _ _) l s

theorem State.setFwLoops_keeps {γ : Type} (p : State → γ) (h : ∀ (s : State) f v i j, p (s.wr f v i j) = p s) (s : State) :
   p s.setFwLoops = p s := by
  unfold State.setFwLoops
  exact foldl_keeps _ p (fun s n => by simp [State.setFwLoop, State.wrb, h]) _ s

@[simp] theorem State.powerAll_fwu (s : State) (l : List Nat) : (s.powerAll l).fwu = s.fwu := State.powerAll_keeps (·.fwu) (fun _ _ _ _ _ => rfl) s l

@[simp] theorem State.powerAll_dbg (s : State) (l : List Nat) : (s.powerAll l).dbg = s.dbg := State.powerAll_keeps (·.dbg) (fun _ _ _ _ _ => rfl) s l

@[simp] theorem State.powerAll_aon (s : State) (l : List Nat) : (s.powerAll l).aon = s.aon := State.powerAll_keeps (·.aon) (fun _ _ _ _ _ => rfl) s l

@[simp] theorem State.setFwLoops_fwu (s : State) : s.setFwLoops.fwu = s.fwu := State.setFwLoops_keeps (·.fwu) (fun _ _ _ _ _ => rfl) s

@[simp] theorem State.setFwLoops_aon (s : State) : s.setFwLoops.aon = s.aon := State.setFwLoops_keeps (·.aon) (fun _ _ _ _ _ => rfl) s

theorem State.powerAll_rd (s : State) (l : List Nat) (f : Field) (i j) (h : f.key i j ≠ Fld.PWR_DOM_STATE_ON.key 0 0) :  (s.powerAll l).rd f i j = s.rd f i j := by
  unfold State.powerAll
  exact foldl_keeps _ (fun s => s.rd f i j) (fun s n => State.rd_wr_ne _ _ _ _ _ _ _ _ h) l s

theorem State.kekSet_aon (s : State) (k : Nat) (x) : (s.kekSet k x).aon = s.aon := by cases x <;> rfl

theorem State.kekSet_fwu (s : State) (k : Nat) (x) : (s.kekSet k x).fwu = s.fwu := by cases x <;> rfl

theorem State.kekSet_dbg (s : State) (k : Nat) (x) : (s.kekSet k x).dbg = s.dbg := by cases x <;> rfl

theorem State.kekZero_aon (s : State) : s.kekZero.aon = s.aon := by unfold State.kekZero; split <;> simp [State.kekSet_aon, State.raise]

theorem State.kekZero_fwu (s : State) : s.kekZero.fwu = s.fwu := by unfold State.kekZero; split <;> simp [State.kekSet_fwu, State.raise]

theorem State.kekZero_dbg (s : State) : s.kekZero.dbg = s.dbg := by unfold State.kekZero; split <;> simp [State.kekSet_dbg, State.raise]

theorem State.kekZero_rb (s : State) : s.kekZero.rd Fld.GLB_FUSE_ROLLBACK = s.rd Fld.GLB_FUSE_ROLLBACK := by
  unfold State.kekZero; split <;> simp only [State.kekSet, State.raise] <;> (repeat rw [State.rd_wr_ne _ _ _ _ _ _ _ _ (by decide)]) <;> rfl

theorem State.slotOk_congr {s t : State} (h1 : t.fwu = s.fwu) (h2 : t.dbg = s.dbg) (h3 : t.rd Fld.GLB_FUSE_ROLLBACK = s.rd Fld.GLB_FUSE_ROLLBACK) (k : Nat) : t.slotOk k = s.slotOk k := by
  unfold State.slotOk State.fwFails; rw [h1, h2, h3]

theorem State.slotSlow_congr {s t : State} (h1 : t.fwu = s.fwu) (k : Nat) : t.slotSlow k = s.slotSlow k := by
  unfold State.slotSlow; rw [h1]

/-- A boot that finds a confirmed image in the governing slot starts its firmware (R467, R468). -/
theorem State.boot_eq (s : State) (h : s.BootsFirst) : ∃ u : State, s.boot = u.firmwareEntry s.bootRecD.active ∧ u.fwu = s.fwu ∧ u.aon = s.aon := by
  obtain ⟨h1, h2, h3, h4, h5⟩ := h
  refine ⟨(((s.wr Fld.PWR_RST_CAUSE_CAUSE s.aon.resetCause).wr Fld.HRI_STATUS_BIF (s.rd Fld.GLB_HEAD_BIF)).powerAll romDomains).kekZero, ?_, ?_, ?_⟩
  · have e1 : ((((s.wr Fld.PWR_RST_CAUSE_CAUSE s.aon.resetCause).wr Fld.HRI_STATUS_BIF (s.rd Fld.GLB_HEAD_BIF)).powerAll romDomains).kekZero).fwu = s.fwu := by
      simp [State.kekZero_fwu]
    have e2 : ((((s.wr Fld.PWR_RST_CAUSE_CAUSE s.aon.resetCause).wr Fld.HRI_STATUS_BIF (s.rd Fld.GLB_HEAD_BIF)).powerAll romDomains).kekZero).dbg = s.dbg := by
      simp [State.kekZero_dbg]
    have e3 : ((((s.wr Fld.PWR_RST_CAUSE_CAUSE s.aon.resetCause).wr Fld.HRI_STATUS_BIF (s.rd Fld.GLB_HEAD_BIF)).powerAll romDomains).kekZero).rd Fld.GLB_FUSE_ROLLBACK = s.rd Fld.GLB_FUSE_ROLLBACK := by
      rw [State.kekZero_rb, State.powerAll_rd _ _ _ _ _ (by decide), State.rd_wr_ne _ _ _ _ _ _ _ _ (by decide), State.rd_wr_ne _ _ _ _ _ _ _ _ (by decide)]
    unfold State.boot
    have e4 : State.bootRecD ((((s.wr Fld.PWR_RST_CAUSE_CAUSE s.aon.resetCause).wr Fld.HRI_STATUS_BIF (s.rd Fld.GLB_HEAD_BIF)).powerAll romDomains).kekZero) = s.bootRecD := by
      unfold State.bootRecD State.bootRec; rw [e1]
    simp only [State.chooseSlot]
    rw [e4, h1]
    simp [State.slotOk_congr e1 e2 e3, State.slotSlow_congr e1, h2, h3]
  · simp [State.kekZero_fwu]
  · simp [State.kekZero_aon]

theorem State.kekZero_pwr (s : State) : s.kekZero.pwr = s.pwr := by unfold State.kekZero State.kekSet; split <;> rfl

@[simp] theorem State.powerAll_pwr (s : State) (l : List Nat) : (s.powerAll l).pwr = s.pwr := State.powerAll_keeps (·.pwr) (fun _ _ _ _ _ => rfl) s l

@[simp] theorem State.setFwLoops_pwr (s : State) : s.setFwLoops.pwr = s.pwr := State.setFwLoops_keeps (·.pwr) (fun _ _ _ _ _ => rfl) s

theorem State.slotInfo_keeps {γ : Type} (p : State → γ) (h : ∀ (s : State) f v i j, p (s.wr f v i j) = p s) (s : State) (k st : Nat) : p (s.slotInfo k st) = p s := by
  simp only [State.slotInfo]; split <;> simp [h]

theorem State.slotsBooted_fwu (s : State) (k : Nat) : (s.slotsBooted k).fwu = s.fwu := by
  simp only [State.slotsBooted, State.wrb]; split <;> simp [State.slotInfo_keeps (·.fwu) (fun _ _ _ _ _ => rfl)]

theorem State.slotsBooted_pwr (s : State) (k : Nat) : (s.slotsBooted k).pwr = s.pwr := by
  simp only [State.slotsBooted, State.wrb]; split <;> simp [State.slotInfo_keeps (·.pwr) (fun _ _ _ _ _ => rfl)]

theorem State.slotsBooted_mr (s : State) (k : Nat) : (s.slotsBooted k).aon.mainReset = s.aon.mainReset := by
  simp only [State.slotsBooted, State.wrb]; split <;> simp [State.slotInfo_keeps (·.aon) (fun _ _ _ _ _ => rfl)]

theorem State.chainBoot_good (s : State) (c : Nat) (h : (s.chain c).pwrgd = true) : s.chainBoot c = s.chainBits c true := by simp [State.chainBoot, h]

theorem State.chainBits_fwu (s : State) (c : Nat) (b) : (s.chainBits c b).fwu = s.fwu := by unfold State.chainBits; split <;> rfl

theorem State.chainBits_aon (s : State) (c : Nat) (b) : (s.chainBits c b).aon = s.aon := by unfold State.chainBits; split <;> rfl

theorem State.chainBits_pwr (s : State) (c : Nat) (b) : (s.chainBits c b).pwr = s.pwr := by unfold State.chainBits; split <;> rfl

/-- Firmware that finds no stored configuration leaves the head in the first-boot state. -/
theorem State.entry_first (s : State) (k : Nat) (h1 : s.fwu.stores = []) (h2 : s.fwu.fellBack = none) (hA : s.pwr.chainA.pwrgd = true) (hB : s.pwr.chainB.pwrgd = true) :
    (s.firmwareEntry k).aon.mainReset = false ∧ (s.firmwareEntry k).rd Fld.PWR_STATUS_FIRST_BOOT = 1 := by
  unfold State.firmwareEntry
  simp only []
  rw [State.chainBoot_good _ 0 (by simpa [State.chain, State.slotsBooted_pwr] using hA),
    State.chainBoot_good _ 1 (by simpa [State.chain, State.slotsBooted_pwr, State.chainBits_pwr] using hB)]
  have hs : ∀ x : State, x.fwu.stores = [] → x.fwu.fellBack = none → x.bootConfig.bootFellBack = x.wr Fld.PWR_STATUS_FIRST_BOOT 1 := by
    intro x e1 e2
    simp [State.bootConfig, State.bootStore, e1, State.bootFellBack, e2]
  rw [hs]
  · constructor
    · simp [State.chainBits_aon, State.slotsBooted_mr]
    · rw [State.rd_wr_self]; rfl
  · simpa [State.chainBits_fwu, State.slotsBooted_fwu] using h1
  · simpa [State.chainBits_fwu, State.slotsBooted_fwu] using h2

end Sys2Proof.Machine
end

