-- ==== Sys2Proof/Laws/Replay.lean ====
section
/-! SUPPORT. What the operations on replay windows do to slots, B and the rest of a window (R40 to R43). -/

namespace Sys2Proof.Machine

open Sys2Proof

/-- Climbing moves H alone. -/
theorem RWin.climb_eq (w : RWin) (n : Nat) : w.climb n = { w with h := (w.climb n).h } := by
  induction n generalizing w with
  | zero => rfl
  | succ n ih =>
    unfold RWin.climb
    split
    · rw [ih]
    · rfl

/-- H follows completed slots, and nothing else of the window moves (R40). -/
theorem RWin.followH_eq (w : RWin) : w.followH = { w with h := w.followH.h } := by
  unfold RWin.followH
  rw [RWin.climb_eq]

@[simp] theorem RWin.followH_slots (w : RWin) : w.followH.slots = w.slots := by rw [RWin.followH_eq]
@[simp] theorem RWin.followH_b (w : RWin) : w.followH.b = w.b := by rw [RWin.followH_eq]
@[simp] theorem RWin.followH_bits (w : RWin) : w.followH.bits = w.bits := by rw [RWin.followH_eq]
@[simp] theorem RWin.followH_owner (w : RWin) : w.followH.owner = w.owner := by rw [RWin.followH_eq]
@[simp] theorem RWin.followH_marks (w : RWin) : w.followH.marks = w.marks := by rw [RWin.followH_eq]

/-- A sequence taken is in progress. -/
@[simp] theorem RWin.slot_take_self (w : RWin) (s : Nat) : (w.take s).slot s = some .inProgress := by
  simp [RWin.take, RWin.slot]

/-- A sequence that does not move the window leaves B and every other slot. -/
theorem RWin.take_of_free {w : RWin} {s : Nat} (h : w.judge s = .free) : w.take s = { w with slots := w.slots.put s .inProgress } := by
  simp [RWin.take, h]

/-- An outcome stored is read back. -/
@[simp] theorem RWin.slot_complete_self (w : RWin) (s st : Nat) : (w.complete s st).slot s = some (.completed st) := by
  simp [RWin.complete, RWin.slot]

/-- Storing an outcome leaves every other slot. -/
theorem RWin.slot_complete_ne (w : RWin) {s k : Nat} (st : Nat) (h : k ≠ s) : (w.complete s st).slot k = w.slot k := by
  simp [RWin.complete, RWin.slot, Assoc.look_put_ne _ _ h]

/-- Storing an outcome leaves B, the owner and the marks. -/
theorem RWin.complete_frame (w : RWin) (s st : Nat) :
    (w.complete s st).b = w.b ∧ (w.complete s st).bits = w.bits ∧ (w.complete s st).owner = w.owner ∧ (w.complete s st).marks = w.marks := by
  simp [RWin.complete]

/-- A slot released is free. -/
@[simp] theorem RWin.slot_release_self (w : RWin) (s : Nat) : (w.release s).slot s = none := by simp [RWin.release, RWin.slot]

/-- Releasing a slot leaves every other. -/
theorem RWin.slot_release_ne (w : RWin) {s k : Nat} (h : k ≠ s) : (w.release s).slot k = w.slot k := by
  simp [RWin.release, RWin.slot, Assoc.look_del_ne _ h]

/-- A fresh window judges its base free. -/
@[simp] theorem RWin.slot_fresh (bits b owner s : Nat) : (RWin.fresh bits b owner).slot s = none := rfl

end Sys2Proof.Machine
end

