-- ==== Sys2Proof/WellFormed.lean ====
section
/-!
DEFINITION. Which commands are well formed: every operand lies within the field, the index range or the count that the spec gives it.
-/
namespace Sys2Proof

/-- Ownership sets are numbered 1 to 1,024 (R369). -/
def osetOk (n : Nat) : Bool := decide (1 ≤ n ∧ n ≤ 1024)

/-- Replication links and cut schedules are numbered 1 to 31 (Table 25.1). -/
def linkOk (n : Nat) : Bool := decide (1 ≤ n ∧ n ≤ 31)

/-- A key blob has 40 to 96 bytes (Table 10.9). -/
def blobOk (n : Nat) : Bool := decide (40 ≤ n ∧ n ≤ 96)

/-- A main-domain reset has a cause of Table 23.3: 2 command, 3 activation, 4 fall-back, 5 backstop. -/
def causeOk (n : Nat) : Bool := decide (2 ≤ n ∧ n ≤ 5)

/-- A copy takes 1 to 65,536 records (Table 21.4). -/
def copyOk (n : Nat) : Bool := decide (1 ≤ n ∧ n ≤ 65536)

/-- Every operand lies within what the spec gives it. -/
def Instr.wellFormed (c : Instr) : Bool :=
  match c with
  | .powerOnReset _ _ _ _ _ _ => true
  | .aonFeedLoss _ => true
  | .systemReset => true
  | .sysRstNRelease _ _ _ _ => true
  | .mainDomainReset cause => causeOk cause
  | .bootImageTimeout => true
  | .mdcInvalidationEnd => true
  | .sysRefclkLoss => true
  | .perstNAssert => true
  | .functionLevelReset fn => decide (fn < 256)
  | .d3hotEntry fn => decide (fn < 256)
  | .pcieLinkLoss link => decide (link < 2)
  | .pcieLinkTrain link _ => decide (link < 2)
  | .fenceInAsserted => true
  | .fenceTestPulse _ => true
  | .fenceInRelease => true
  | .claimInChange group _ _ => decide (group < 16)
  | .groupSettleExpiry group => decide (group < 16)
  | .ptpMeasurement port _ _ _ => decide (port < 32)
  | .ptpAnnounce port utcOffset _ _ => decide (port < 32) && decide (utcOffset < 65536)
  | .ppsInEdge _ _ => true
  | .holdoverEntry => true
  | .backupPortFallover => true
  | .servoStep1ms => true
  | .epsOverSet => true
  | .epsOverClear => true
  | .ppsOutEdge => true
  | .carEnableClear => true
  | .carNowRead => true
  | .carSlotWrite slot off value _ => decide (slot < 16384) && decide (off < 32) && decide (value < 2 ^ 32)
  | .carSlotArm slot _ => decide (slot < 16384)
  | .carSlotDisarm slot _ => decide (slot < 16384)
  | .carillonFire slot => decide (slot < 16384)
  | .commitWrite block gen => decide (block < 28) && decide (gen < 2 ^ 32)
  | .admissionCheckEnd block => decide (block < 28)
  | .commitTakeEffect block => decide (block < 28)
  | .blockEnableSet block => decide (block < 28)
  | .admCheckImage _ => true
  | .admApplyImage _ => true
  | .measuredDrift => true
  | .registerWrite off size _ => decide (off < 2 ^ 26) && decide (size < 65)
  | .rcRegisterRead off size => decide (off < 2 ^ 26) && decide (size < 65)
  | .bar0AccessError off size _ => decide (off < 2 ^ 26) && decide (size < 65)
  | .glbIntAck => true
  | .errorInterrupt => true
  | .intHoldoffExpiry => true
  | .ringEnable ring => decide (ring < 4096)
  | .ringDisable ring => decide (ring < 4096)
  | .ringDrainEnd ring => decide (ring < 4096)
  | .ringRelease ring => decide (ring < 4096)
  | .sqTailDoorbell fn index value => decide (fn < 256) && decide (index < 64) && decide (value < 2 ^ 32)
  | .cqHeadDoorbell fn index value => decide (fn < 256) && decide (index < 64) && decide (value < 2 ^ 32)
  | .descriptorFetch => true
  | .descriptorFetchDone ring _ _ => decide (ring < 4096)
  | .completionWrite ring _ => decide (ring < 4096)
  | .statusBlockTimer ring _ => decide (ring < 4096)
  | .coalesceTimer ring => decide (ring < 4096)
  | .resync _ _ => true
  | .resyncRecordWrite ring => decide (ring < 4096)
  | .evqHeadDoorbell fn value => decide (fn < 256) && decide (value < 2 ^ 32)
  | .eventPost source code fn nsid arg0 arg1 => decide (source < 28) && decide (code < 65536) && decide (fn < 256) && decide (nsid < 2 ^ 32) && decide (arg0 < 2 ^ 32) && decide (arg1 < 2 ^ 64)
  | .nop ring _ => decide (ring < 4096)
  | .blkWrite ring _ _ => decide (ring < 4096)
  | .blkRead ring _ _ => decide (ring < 4096)
  | .flush ring _ => decide (ring < 4096)
  | .deallocate ring _ => decide (ring < 4096)
  | .kvPut ring _ _ _ => decide (ring < 4096)
  | .kvGet ring _ _ _ _ => decide (ring < 4096)
  | .kvDelete ring _ _ => decide (ring < 4096)
  | .compress ring _ _ _ => decide (ring < 4096)
  | .decompress ring _ _ _ => decide (ring < 4096)
  | .cipher ring _ _ _ _ => decide (ring < 4096)
  | .hash ring _ _ _ => decide (ring < 4096)
  | .writeArrival _ _ _ => true
  | .pjmRecordPersist _ _ => true
  | .mirrorRecordReceive _ _ => true
  | .mirrorAckReceive _ => true
  | .pjmWriteFail _ _ => true
  | .stampRecordTimer => true
  | .anchorWrite chan => decide (chan < 8)
  | .recordCopyForward _ => true
  | .pjmChannelFail chan => decide (chan < 8)
  | .pjmChCmd chan => decide (chan < 8)
  | .pjmReplay _ _ _ _ => true
  | .bufferStripeClose _ _ => true
  | .pageProgramDone _ member _ _ _ => decide (member < 32)
  | .commitWaitRelease _ => true
  | .deferredErrorRecord _ nsid slba nlb bucket key keyLen => decide (nsid < 2 ^ 32) && decide (slba < 2 ^ 64) && decide (nlb < 2 ^ 32) && decide (bucket < 1048576) && decide (key < 2 ^ 2048) && decide (keyLen < 256)
  | .destage _ _ _ => true
  | .netFrameReceive port _ prio _ _ _ => decide (port < 32) && decide (prio < 8)
  | .pfcFrameReceive port prio _ => decide (port < 32) && decide (prio < 8)
  | .pfcWatchdogExpiry port prio => decide (port < 32) && decide (prio < 8)
  | .portLinkChange port _ => decide (port < 32)
  | .tcpSyn _ isn _ _ _ wscale mss => decide (isn < 2 ^ 32) && decide (wscale < 15) && decide (mss < 65536)
  | .tcpSegmentReceive _ _ _ _ _ _ _ => true
  | .tcpRtoExpiry _ => true
  | .nvmeConnect _ _ host tenant qsize _ cid => decide (host < 2 ^ 64) && decide (tenant < 65536) && decide (qsize < 65536) && decide (cid < 65536)
  | .nvmeDisconnect _ cid => decide (cid < 65536)
  | .nvmePropertyGet _ cid off => decide (cid < 65536) && decide (off < 4096)
  | .nvmePropertySet _ cid off _ => decide (cid < 65536) && decide (off < 4096)
  | .nvmeIdentify _ cid cns nsid => decide (cid < 65536) && decide (cns < 256) && decide (nsid < 2 ^ 32)
  | .nvmeGetLogPage _ cid lid nsid _ => decide (cid < 65536) && decide (lid < 256) && decide (nsid < 2 ^ 32)
  | .nvmeSetFeatures _ cid fid value => decide (cid < 65536) && decide (fid < 256) && decide (value < 2 ^ 32)
  | .nvmeGetFeatures _ cid fid => decide (cid < 65536) && decide (fid < 256)
  | .nvmeAsyncEventRequest _ cid => decide (cid < 65536)
  | .nvmeKeepAlive _ cid => decide (cid < 65536)
  | .nvmeAbort _ cid => decide (cid < 65536)
  | .keepAliveExpiry _ => true
  | .nvmeRead _ cid _ nsid lba _ _ => decide (cid < 65536) && decide (nsid < 2 ^ 32) && decide (lba < 2 ^ 64)
  | .nvmeWrite _ cid _ nsid lba _ _ _ _ => decide (cid < 65536) && decide (nsid < 2 ^ 32) && decide (lba < 2 ^ 64)
  | .nvmeFlush _ cid _ nsid => decide (cid < 65536) && decide (nsid < 2 ^ 32)
  | .nvmeWriteZeroes _ cid _ nsid lba _ => decide (cid < 65536) && decide (nsid < 2 ^ 32) && decide (lba < 2 ^ 64)
  | .nvmeDsmDeallocate _ cid _ nsid _ _ => decide (cid < 65536) && decide (nsid < 2 ^ 32)
  | .nvmeKvStore _ cid _ nsid key keyLen _ _ _ _ _ _ => decide (cid < 65536) && decide (nsid < 2 ^ 32) && decide (key < 2 ^ 2048) && decide (keyLen < 256)
  | .nvmeKvRetrieve _ cid _ nsid key keyLen _ _ => decide (cid < 65536) && decide (nsid < 2 ^ 32) && decide (key < 2 ^ 2048) && decide (keyLen < 256)
  | .nvmeKvDelete _ cid _ nsid key keyLen => decide (cid < 65536) && decide (nsid < 2 ^ 32) && decide (key < 2 ^ 2048) && decide (keyLen < 256)
  | .nvmeKvExist _ cid _ nsid key keyLen => decide (cid < 65536) && decide (nsid < 2 ^ 32) && decide (key < 2 ^ 2048) && decide (keyLen < 256)
  | .nvmeKvList _ cid _ nsid key keyLen _ _ => decide (cid < 65536) && decide (nsid < 2 ^ 32) && decide (key < 2 ^ 2048) && decide (keyLen < 256)
  | .nvmeInvalidOpcode _ cid => decide (cid < 65536)
  | .nvmeTcpIcreq _ _ _ _ => true
  | .bufferGrantTransfer _ cid _ => decide (cid < 65536)
  | .h2cDataReceive _ cid _ _ _ _ => decide (cid < 65536)
  | .writeDataReadDone _ cid _ _ => decide (cid < 65536)
  | .forwardedCompletionReceive _ _ => true
  | .anaStateChange => true
  | .rocePacketReceive qp _ => decide (qp < 2 ^ 18)
  | .odpPageResident window page => decide (window < 2 ^ 20) && decide (page < 16384)
  | .roceAckReceive qp psn => decide (qp < 2 ^ 18) && decide (psn < 2 ^ 24)
  | .roceNakSeqReceive qp psn => decide (qp < 2 ^ 18) && decide (psn < 2 ^ 24)
  | .roceRnrNakReceive qp psn timer => decide (qp < 2 ^ 18) && decide (psn < 2 ^ 24) && decide (timer < 32)
  | .roceRetransmitExpiry qp => decide (qp < 2 ^ 18)
  | .ccProbeSend qp => decide (qp < 2 ^ 18)
  | .ccProbeAck qp _ => decide (qp < 2 ^ 18)
  | .ccIdleExpiry qp => decide (qp < 2 ^ 18)
  | .qpModify qp target consumer tenant engine _ psn => decide (qp < 2 ^ 18) && decide (target < 4) && decide (consumer < 16) && decide (tenant < 65536) && decide (engine < 8) && decide (psn < 2 ^ 24)
  | .qpErrorEntry qp => decide (qp < 2 ^ 18)
  | .windowOpen index _ _ => decide (index < 2 ^ 20)
  | .windowTranslationsLoaded index => decide (index < 2 ^ 20)
  | .windowRevoke index _ => decide (index < 2 ^ 20)
  | .windowReadEntry index => decide (index < 2 ^ 20)
  | .windowDrainEnd index => decide (index < 2 ^ 20)
  | .revokeTimeout index => decide (index < 2 ^ 20)
  | .wtcMissWalkDone qp => decide (qp < 2 ^ 18)
  | .polAllocate block pool owner _ _ => decide (block < 28) && decide (pool < 16) && decide (owner < 1024)
  | .polFree block pool index owner => decide (block < 28) && decide (pool < 16) && decide (index < 2 ^ 20) && decide (owner < 1024)
  | .polOpAllocate pool owner => decide (pool < 16) && decide (owner < 1024)
  | .polOpFree pool owner => decide (pool < 16) && decide (owner < 1024)
  | .polOpReserved => true
  | .poolEnable pool => decide (pool < 16)
  | .poolFillEnd pool => decide (pool < 16)
  | .poolDisable pool => decide (pool < 16)
  | .poolDrainEnd pool => decide (pool < 16)
  | .polDisable => true
  | .islEnable => true
  | .islTrainingEnd quads => decide (quads < 16)
  | .islFlitReceive fseq _ _ _ _ _ => decide (fseq < 65536)
  | .islLaneFail lane => decide (lane < 16)
  | .islLinkDown _ => true
  | .islEnableClear => true
  | .islLinkUp => true
  | .catchupEnd => true
  | .drumbeatSend => true
  | .drumbeatReceive _ => true
  | .drumbeatAbsent => true
  | .indexMessage fp domain _ => decide (fp < 2 ^ 64) && decide (domain < 2 ^ 32)
  | .indexQueryTimeout _ => true
  | .pinRelease handle => decide (handle < 2 ^ 64)
  | .referenceApply _ _ => true
  | .indexEntryRelease handle => decide (handle < 2 ^ 64)
  | .deferredDedupEntry => true
  | .chunkCrcFail _ _ => true
  | .keyUnwrapSlot target kek _ blobLen => decide (target < 16384) && decide (kek < 64) && blobOk blobLen
  | .keyUnwrapKek target kek _ blobLen => decide (target < 64) && decide (kek < 64) && blobOk blobLen
  | .keyEraseSlot target => decide (target < 16384)
  | .keyEraseKek target => decide (target < 64)
  | .keyEraseEnd slot => decide (slot < 16384)
  | .keyStoreFault slot => decide (slot < 16384)
  | .checkpointStart oset => osetOk oset
  | .checkpointStripesDone oset _ => osetOk oset
  | .checkpointDirectoryDone oset _ => osetOk oset
  | .mapCkptCmd => true
  | .mapDirtyThreshold => true
  | .mapEnable => true
  | .recoverySetServe oset _ _ _ => osetOk oset
  | .mapDeltaApply _ _ => true
  | .mapPageFetch _ level _ _ _ => decide (level < 8)
  | .mdcUncorrectable _ _ level _ _ => decide (level < 8)
  | .mdcWaygrpPowerDown group => decide (group < 8)
  | .mdcWaygrpPowerUp group => decide (group < 8)
  | .mdcCleanSweepEnd group => decide (group < 8)
  | .mdcWakeEnd group => decide (group < 8)
  | .flcEnable _ _ => true
  | .channelTraining chan _ _ _ => decide (chan < 128)
  | .groupTakeUp group _ => decide (group < 16)
  | .busyLunTimeout _ => true
  | .groupLost group => decide (group < 16)
  | .mediaReadRequest chan _ _ _ _ => decide (chan < 128)
  | .pageReadDone _ _ _ => true
  | .operationSuspend _ _ _ => true
  | .eraseDone _ _ => true
  | .blockRetire _ => true
  | .refreshQueue _ => true
  | .valleySearch _ _ _ => true
  | .trackingSweep _ => true
  | .wearLevelOffer _ => true
  | .destageStripeProgram _ => true
  | .openStripeComplete _ _ => true
  | .reconstruct _ _ => true
  | .spanUpdate _ band row _ => decide (band < 2 ^ 32) && decide (row < 2 ^ 32)
  | .spanMessageReceive _ => true
  | .spanAckReceive _ => true
  | .spanAckTimeout _ => true
  | .stripeLost _ _ => true
  | .lostChunkSweep => true
  | .patrolTrigger => true
  | .patrolStripeCheck _ _ _ _ _ _ => true
  | .rebuildBand => true
  | .gcxVictimChoice => true
  | .relocationClaim band _ => decide (band < 2 ^ 32)
  | .relocationBatchRecord _ => true
  | .relocationRecordsPersist band => decide (band < 2 ^ 32)
  | .bandErase band => decide (band < 2 ^ 32)
  | .referenceSweep => true
  | .referenceSweepEnd => true
  | .gcxRescore => true
  | .foldBand _ => true
  | .enoreSessionOpen _ => true
  | .enoreSessionAttach _ => true
  | .enoreCommandImmediate session imm _ => decide (session < 2 ^ 64) && decide (imm < 2 ^ 32)
  | .put session _ _ => decide (session < 2 ^ 64)
  | .get session _ _ _ => decide (session < 2 ^ 64)
  | .delete session _ => decide (session < 2 ^ 64)
  | .list session _ _ => decide (session < 2 ^ 64)
  | .exist session _ => decide (session < 2 ^ 64)
  | .state session _ _ => decide (session < 2 ^ 64)
  | .close session _ => decide (session < 2 ^ 64)
  | .enoreResponseWrite session _ => decide (session < 2 ^ 64)
  | .sessionIdleExpiry session => decide (session < 2 ^ 64)
  | .sessionKeepExpiry session => decide (session < 2 ^ 64)
  | .epochUpdateReceive epoch tEff _ => decide (epoch < 2 ^ 64) && decide (tEff < 2 ^ 64)
  | .epochUpdateApply => true
  | .epochFetch _ => true
  | .balancingRound _ => true
  | .caravanPropose _ _ _ _ => true
  | .caravanCopyBatch _ => true
  | .caravanGrant _ => true
  | .caravanCutover => true
  | .caravanInstall _ _ => true
  | .caravanRelease => true
  | .caravanAbort _ => true
  | .caravanHoldExpiry => true
  | .mteSearch blk table key => decide (blk < 28) && decide (table < 16) && decide (key < 2 ^ 320)
  | .mteUpdateWrite _ index _ => decide (index < 131072)
  | .mteUpdateInvalidate _ index => decide (index < 131072)
  | .mteUpdateResult _ index result => decide (index < 131072) && decide (result < 2 ^ 32)
  | .mteBulkEnter bank => decide (bank < 8)
  | .mteBulkLeave bank => decide (bank < 8)
  | .mteBankPowerDown bank => decide (bank < 8)
  | .mteBankPowerUp bank => decide (bank < 8)
  | .mteBulkLoad bank first _ _ => decide (bank < 8) && decide (first < 16384)
  | .mteSearchCmd table => decide (table < 16)
  | .ownEnable => true
  | .renewSend => true
  | .innkeeperReply _ _ => true
  | .requestAbandon tSend => decide (tSend < 2 ^ 64)
  | .leaseTimerExpiry => true
  | .ikRenew _ => true
  | .ikAcquire _ => true
  | .ikTake _ => true
  | .ikHandover _ => true
  | .ikQuery _ => true
  | .ikHeldTakeExpiry array => decide (array < 65536)
  | .ikRecoveryEnd => true
  | .takeSend => true
  | .groupClaim group => decide (group < 16)
  | .groupRelease group => decide (group < 16)
  | .handoverSet oset => osetOk oset
  | .handoverSignalReceive kind _ _ _ => decide (kind < 4)
  | .returnHoldExpiry => true
  | .returnRequestReceive => true
  | .ownershipDrill failStep _ _ => decide (failStep < 8)
  | .ownHandOverAll => true
  | .ownAskReturn => true
  | .ownHandOverOset oset => osetOk oset
  | .ownHandOverGroup group => decide (group < 16)
  | .ownDrillNow group failStep _ _ => decide (group < 16) && decide (failStep < 8)
  | .snapCreate => true
  | .snapDelete => true
  | .snapClone => true
  | .replicaPromote => true
  | .snapAttach => true
  | .catalogueFlushDone _ => true
  | .cutInstant epoch => decide (epoch < 2 ^ 64)
  | .cutReady epoch => decide (epoch < 2 ^ 64)
  | .scheduleCutTrigger sched => linkOk sched
  | .replicationDeltaShip link epoch => linkOk link && decide (epoch < 2 ^ 64)
  | .replicationBatchReceive nsid _ => decide (nsid < 2 ^ 32)
  | .replicationAckReceive link _ status => linkOk link && decide (status < 65536)
  | .replicationBatchTimeout link _ => linkOk link
  | .syncWriteSend _ => true
  | .syncWriteTimeout link _ => linkOk link
  | .catchupCutArm link => linkOk link
  | .linkSuspend link => linkOk link
  | .rpoMiss link => linkOk link
  | .loopSample loop _ _ _ => decide (loop < 64)
  | .loopLocalSample loop _ _ => decide (loop < 64)
  | .loopEnable loop => decide (loop < 64)
  | .loopDisable loop => decide (loop < 64)
  | .loopSwap loop => decide (loop < 64)
  | .ageSweep _ => true
  | .gbkRecordStage source code arg0 arg1 arg2 _ => decide (source < 28) && decide (code < 65536) && decide (arg0 < 2 ^ 64) && decide (arg1 < 2 ^ 64) && decide (arg2 < 2 ^ 64)
  | .gbkRecordWrite => true
  | .gbkResetScan _ => true
  | .gbkCopy count dst _ _ _ => copyOk count && decide (dst < 2)
  | .gbkClear => true
  | .leapSecondAdjust => true
  | .fwuStage _ => true
  | .fwuCancel => true
  | .fwuEraseSlot => true
  | .fwActivation _ _ => true
  | .fwConfirm gen => decide (gen < 2 ^ 32)
  | .fwDeadline => true
  | .fwBackstopExpiry => true
  | .pwrDomainOff domain => decide (domain < 64)
  | .pwrDomainOn domain => decide (domain < 64)
  | .domainSwitchEnd => true
  | .pmbusPoll _ _ => true
  | .pmbAlert _ => true
  | .pwrgdLow chain => decide (chain < 2)
  | .chainFault chain _ => decide (chain < 2)
  | .chainGood chain => decide (chain < 2)
  | .avsVoutWrite _ => true
  | .pwrRstCmd => true
  | .jtagTapReset => true
  | .bypass => true
  | .idcode => true
  | .samplePreload _ _ => true
  | .extest => true
  | .extestPulse => true
  | .extestTrain => true
  | .clamp => true
  | .highz => true
  | .regAccess off size _ => decide (off < 2 ^ 26) && decide (size < 9)
  | .fuseProg field _ => decide (field < 32)
  | .loopbackStart kind target ms => decide (kind < 8) && decide (target < 128) && decide (ms < 65536)
  | .loopbackEnd _ => true
  | .alwaysOnFeedsLost => true
  | .mediaReadResponseReceive chan _ _ => decide (chan < 128)
  | .indexAnswerReceive fp domain _ => decide (fp < 2 ^ 64) && decide (domain < 2 ^ 32)
  | .catchupRequestReceive _ => true
  | .authorityRequestReceive array _ => decide (array < 65536)
  | .rdmaCmRequest lane port tenant _ remotePsn ownPsn => decide (lane < 32) && decide (port < 32) && decide (tenant < 65536) && decide (remotePsn < 2 ^ 24) && decide (ownPsn < 2 ^ 24)
  | .ptpDelayReqSend => true

end Sys2Proof
end

