-- ==== Sys2Proof/Tests/Slice0.lean ====
section
/-! SUPPORT. The modeller's own tests: ill-formed commands that WellFormed refuses, worked examples of the spec, and for each statement a state
and operands that meet its hypotheses. -/

section
set_option Elab.async false

open Sys2Proof Sys2Proof.Machine

namespace Sys2Proof.Tests
end Sys2Proof.Tests
open Sys2Proof.Tests

namespace Sys2Proof.Tests
/-- the empty state: no register listed -/
def Z : State := { State.reset with regs := [] }
def st (l : List (Field × Nat × Nat)) : State := l.foldl (fun s e => s.wr e.1 e.2.2 e.2.1) Z
end Sys2Proof.Tests
def Sys2Proof.Machine.State.sets (s : State) (l : List (Field × Nat × Nat)) : State := l.foldl (fun s e => s.wr e.1 e.2.2 e.2.1) s
namespace Sys2Proof.Tests
/-- function 0 owns rings 0 to 7; ring 3 is ACTIVE with 16 entries -/
def R3 : State := st [(Fld.HRI_FN_RINGS_COUNT,0,8),(Fld.HRI_RING_CFG_SQ_LOG2,3,4),(Fld.HRI_RING_CFG_CQ_LOG2,3,4),(Fld.HRI_RING_CFG_ENABLE,3,1),(Fld.HRI_RING_STATE_STATE,3,1),(Fld.HRI_FN_TENANT_TENANT,0,5)]
end Sys2Proof.Tests
def Sys2Proof.Machine.State.ringUpd (s : State) (r : Nat) (f : Ring → Ring) : State := s.setRing r (f (s.ring r))
def Sys2Proof.Machine.State.winPut (s : State) (k : Nat) (w : RWin) : State := { s with wins := s.wins.put k w }
namespace Sys2Proof.Tests
def ent (seq op : Nat) : SubEntry := { seq := seq, opcode := op, fua := false, order := false, irq := false, sgl0 := false, sgl1 := false, sgl0Ok := true, sgl1Ok := true, tag := 7, nsid := 0, dw3 := 0, addr0 := 0, addr1 := 0, offset := 0, len := 0, spec := 0 }
def sub1 (e : SubEntry) : Sub := { e := e, started := false, replayed := false, follows := false, stores := true }
def rdy (q : Nat) : Ready := { sub := q, opcode := 0, tag := 0, irq := false, status := 0, replayed := false, result0 := 0, result1 := 0 }
def fwimg : FwImage := { magicOk := true, slow := false, len := 1000, bodyOk := true, pubHash := 0, sigOk := true, fwGen := 5, compatMin := 1, cfgFmt := 1 }
/-- a confirmed image in slot 0; the power-on reset has not been released -/
def PO : State := { Z with fwu := { Z.fwu with slots := [(0, fwimg)] } }
/-- the same head, running -/
def RUN : State := { PO with aon := { PO.aon with mainReset := false } }
def leaseRun (s : State) (e : Nat) : State := { s with aon := { s.aon with leaseEnd := some e } }
end Sys2Proof.Tests
def Sys2Proof.Machine.State.aonUpd (s : State) (f : Aon → Aon) : State := { s with aon := f s.aon }
def Sys2Proof.Machine.State.fwuUpd (s : State) (f : Fwu → Fwu) : State := { s with fwu := f s.fwu }
def Sys2Proof.Machine.State.ownUpd (s : State) (f : Own → Own) : State := { s with own := f s.own }
def Sys2Proof.Machine.State.pwrUpd (s : State) (f : Pwr → Pwr) : State := { s with pwr := f s.pwr }
def Sys2Proof.Machine.State.carUpd (s : State) (f : Car → Car) : State := { s with car := f s.car }
def Sys2Proof.Machine.State.gbkUpd (s : State) (f : Gbk → Gbk) : State := { s with gbk := f s.gbk }
def Sys2Proof.Machine.State.dbgUpd (s : State) (f : Dbg → Dbg) : State := { s with dbg := f s.dbg }
namespace Sys2Proof.Tests
/-- this head holds its lease, which runs for long -/
def LH : State := (leaseRun RUN (10^18)).sets [(Fld.OWN_STATUS_LEASE,0,2),(Fld.OWN_CTRL_ENABLE,0,1)]
end Sys2Proof.Tests
def Sys2Proof.Machine.State.admUpd (s : State) (f : Adm → Adm) : State := { s with adm := f s.adm }
def Sys2Proof.Machine.State.islUpd (s : State) (f : Isl → Isl) : State := { s with isl := f s.isl }
namespace Sys2Proof.Tests
def ikm (op : IkOp) (t : Nat) : IkMsg := { op := op, array := 0, sender := 9, tSend := t, reqT := 0, epsNs := 0, leaseUs := 1000, word := 0, lgen := 3, agen := 7, side := .a, kind := 0, status := 0, objFirst := 1, objCount := 1, tagOk := true }
/-- an innkeeper of array 0 -/
def IK : State := RUN.sets [(Fld.OWN_IK_CFG_ENABLE,0,1),(Fld.OWN_IK_ARRAY_VALID,0,1)]
end Sys2Proof.Tests
def Sys2Proof.Machine.State.rec0 (s : State) (la lb : Option IkLease) (h : Option IkMsg) : State := s.ownUpd (fun o => { o with ikRecords := [(0, { leaseA := la, leaseB := lb, agen := 7, holders := [], heldTake := h })] })
namespace Sys2Proof.Tests
def nsD (kv : Bool) : Ns := { tenant := 5, kv := kv, dedup := false, compress := false, enc := false, cut := false, keySlot := 0, oset := 1, pgFirst := 7, pgCount := 1, cwMaxNs := 1000000, size := 1000000, resReadKiops := 0, resWriteMbps := 0, readOnly := false }
end Sys2Proof.Tests
/-- ring 3 carries one submission, not started -/
def Sys2Proof.Machine.State.carry (s : State) (e : SubEntry) : State := (s.ringUpd 3 (fun x => { x with subs := [(0, sub1 e)], c := e.seq })).winPut 3 ((RWin.fresh 32 5 0).take e.seq)
namespace Sys2Proof.Tests
/-- namespace 1 of tenant 5, which has a buffer owner; its set is owned here -/
def NS (kv : Bool) (s : State) : State := { ((s.sets [(Fld.POL_OWNER_CFG_KIND,64,2),(Fld.POL_OWNER_CFG_TENANT,64,5),(Fld.OWN_STATUS_LEASE,0,2)]).ownUpd (fun o => { o with sets := [(1,.a)] })) with adm := { s.adm with nss := [(1, nsD kv)] } }
end Sys2Proof.Tests
def Sys2Proof.Machine.State.pjmUpd (s : State) (f : Pjm → Pjm) : State := { s with pjm := f s.pjm }
def Sys2Proof.Machine.State.strUpd (s : State) (f : Str → Str) : State := { s with str := f s.str }
def Sys2Proof.Machine.State.mapUpd (s : State) (f : MapSt → MapSt) : State := { s with map := f s.map }
def Sys2Proof.Machine.State.nvfUpd (s : State) (f : Nvf → Nvf) : State := { s with nvf := f s.nvf }
def Sys2Proof.Machine.State.netUpd (s : State) (f : Net → Net) : State := { s with net := f s.net }
def Sys2Proof.Machine.State.rdmUpd (s : State) (f : Rdm → Rdm) : State := { s with rdm := f s.rdm }
def Sys2Proof.Machine.State.polUpd (s : State) (f : Pol → Pol) : State := { s with pol := f s.pol }
def Sys2Proof.Machine.State.ddpUpd (s : State) (f : Ddp → Ddp) : State := { s with ddp := f s.ddp }
def Sys2Proof.Machine.State.flcUpd (s : State) (f : Flc → Flc) : State := { s with flc := f s.flc }
def Sys2Proof.Machine.State.gcxUpd (s : State) (f : Gcx → Gcx) : State := { s with gcx := f s.gcx }
def Sys2Proof.Machine.State.kvsUpd (s : State) (f : Kvs → Kvs) : State := { s with kvs := f s.kvs }
def Sys2Proof.Machine.State.snpUpd (s : State) (f : Snp → Snp) : State := { s with snp := f s.snp }
def Sys2Proof.Machine.State.withOps (s : State) (l : Assoc WriteOp) : State := { s with ops := l, nextOp := l.fresh }
namespace Sys2Proof.Tests
/-- the journal is open: the link is up, the mirror is in, every channel in service on both heads -/
def PJ : State := RUN.sets ([(Fld.PJM_CTRL_ENABLE,0,1),(Fld.ISL_CTRL_ENABLE,0,1),(Fld.ISL_STATUS_STATE,0,4),(Fld.PJM_STATUS_MIRROR_IN,0,1),(Fld.ISL_PEER_CH_OK,0,255)] ++ (List.range 8).map (fun c => (Fld.PJM_CH_STATUS_STATE,c,2)))
/-- a block write of namespace 1 to PG 7, submitted by ring 3 -/
def wop : WriteOp := { src := .ring 3 5, kind := .block, nsid := 1, tenant := 5, lba := 10, blocks := 2, key := 0, keyLen := 0, valueLen := 0, data := [1,2], ifAbsent := false, ifPresent := false, ifVersion := none, fua := false, valueId := 0, pg := 7, reserve := 0, stage := .submitted, jseq := 0, stripe := 0, wseq := 0, tA := 0, epsA := Frac.zero, accepted := false, programmed := false, synced := false, released := false, arrival := 0, span := false }
def pg7 : Pg := { oset := 1, home := .a, d := 8, p := 2, free := 1000000, reserved := 0, headroom := 2, blocks := 100, freeBlocks := 20, wseq := 4, refusing := false, media := .normal, spares := 5, allotted := 5, nextValue := 1, nextStripe := 0, groups := [0, 1] }
/-- a journal record -/
def jrec (b : RecBody) (j : Nat) : PjmRec := { body := b, orig := j, copy := false, chan := 1, cseq := 1, off := 64, len64 := 4, oset := 1, tIssue := 0, localOk := false, mirrorSent := true, mirrorOk := false, acked := false, held := false, live := true }
def at7 : StripeAt := { pg := 7, band := 3, row := 1, slc := false, members := [128*5, 128*6+1, 2,3,4,5,6,7,8,9] }
def ns7 (s : State) : State := { (NS false s) with pgs := [(7, pg7)] }
/-- a stripe of 8 + 2 members -/
def strp (k : StripeKind) (st : StripeSt) : Stripe := { kind := k, st := st, d := 8, p := 2, ops := [], full := false, since := 0, passed := [], void := [], failed := [], lostPos := [], sif := none, step := 0, sectors := 0 }
def mrec (b : MirBody) (j : Nat) : MirrorRec := { chan := 1, off := 64, len64 := 4, orig := j, oset := 1, tIssue := 0, window := 3, seq := 5, body := b, persistent := false }
def dlt : Delta := { kind := 1, reloc := false, nsid := 1, laddr := 10, addr := 4096, wseq := 5, pg := 7 }
def tcpC : Tcp := { listener := 0, st := .established, sndUna := 100, sndNxt := 200, rcvNxt := 50, retx := 7, ecn := true, sack := false, tsopt := false, wscale := 0, mss := 1460, ece := false, maxR2t := 2, hdgst := false, ddgst := false, ready := true }
/-- NVF runs, one TCP connection, an association of tenant 5 with admin queue 0 and I/O queue 1 -/
def asc : NvAssoc := { host := 70, tenant := 5, adminQ := 0, kato := 100, kaEnd := some 1000, aers := [], cc := 1, features := [], anaNotice := false }
def admQ : NvQueue := { assoc := 0, qid := 0, trans := .tcp 0, qsize := 32, win := [], orderNext := 0 }
def ioQ : NvQueue := { assoc := 0, qid := 1, trans := .tcp 1, qsize := 32, win := [], orderNext := 0 }
def NV (s : State) : State := (((s.sets [(Fld.NVF_CTRL_ENABLE,0,1),(Fld.NET_CTRL_ENABLE,0,1)]).netUpd (fun n => { n with tcp := [(0, tcpC), (1, tcpC), (2, tcpC)] })).nvfUpd (fun n => { n with assocs := [(0, asc)], queues := [(0, admQ), (1, ioQ)] }))
def drm (mr : Bool) : Drumbeat := { head := 1, dseq := 5, tSend := 9, eps := 3, chOk := 255, mirrorReady := mr, fenced := false, layout := 0, fwGen := 2, epoch := 1 }
def LK : State := RUN.sets [(Fld.ISL_CTRL_ENABLE,0,1),(Fld.ISL_STATUS_STATE,0,4)]
def ixe : IdxEntry := { fp := 0, domain := 0, addr := 4096, refcnt := 1, dying := false, pins := 2 }
def chk : Chunk := { data := 0, origLen := 4096, storedLen := 4096, format := 0, enc := false, cdc := false, domain := 0, fp := 0, nsid := 1, leaf := 0, wseq := 3, pg := 7, stripe := 5, readable := true, crcBad := false }
def dst : Destage := { op := 0, direct := false, stripe := 5, addrs := [4096, 8192], outs := [none, none], since := 50, jseq := none, mapped := [], bytes := 0, stored := false }

end Sys2Proof.Tests

/-! ## Ill-formed commands -/

theorem test_ill_formed_operands_one :
  (Instr.wellFormed (.mainDomainReset 6) = false) ∧
  (Instr.wellFormed (.functionLevelReset 256) = false) ∧
  (Instr.wellFormed (.d3hotEntry 256) = false) ∧
  (Instr.wellFormed (.pcieLinkLoss 2) = false) ∧
  (∀ x1, Instr.wellFormed (.pcieLinkTrain 2 x1) = false) ∧
  (∀ x1 x2, Instr.wellFormed (.claimInChange 16 x1 x2) = false) ∧
  (Instr.wellFormed (.groupSettleExpiry 16) = false) ∧
  (∀ x1 x2 x3, Instr.wellFormed (.ptpMeasurement 32 x1 x2 x3) = false) ∧
  (∀ x1 x2 x3, Instr.wellFormed (.ptpAnnounce 32 x1 x2 x3) = false) ∧
  (∀ x2 x3, Instr.wellFormed (.ptpAnnounce 0 65536 x2 x3) = false) ∧
  (∀ x1 x2 x3, Instr.wellFormed (.carSlotWrite 16384 x1 x2 x3) = false) ∧
  (∀ x2 x3, Instr.wellFormed (.carSlotWrite 0 32 x2 x3) = false) ∧
  (∀ x3, Instr.wellFormed (.carSlotWrite 0 0 (2 ^ 32) x3) = false) ∧
  (∀ x1, Instr.wellFormed (.carSlotArm 16384 x1) = false) ∧
  (∀ x1, Instr.wellFormed (.carSlotDisarm 16384 x1) = false) ∧
  (Instr.wellFormed (.carillonFire 16384) = false) ∧
  (∀ x1, Instr.wellFormed (.commitWrite 28 x1) = false) ∧
  (Instr.wellFormed (.commitWrite 0 (2 ^ 32)) = false) ∧
  (Instr.wellFormed (.admissionCheckEnd 28) = false) ∧
  (Instr.wellFormed (.commitTakeEffect 28) = false) ∧
  (Instr.wellFormed (.blockEnableSet 28) = false) ∧
  (∀ x1 x2, Instr.wellFormed (.registerWrite (2 ^ 26) x1 x2) = false) ∧
  (∀ x2, Instr.wellFormed (.registerWrite 0 65 x2) = false) ∧
  (∀ x1, Instr.wellFormed (.rcRegisterRead (2 ^ 26) x1) = false) :=
  ⟨rfl, rfl, rfl, rfl, fun _ => rfl, fun _ _ => rfl, rfl, fun _ _ _ => rfl, fun _ _ _ => rfl, fun _ _ => rfl, fun _ _ _ => rfl, fun _ _ => rfl, fun _ => rfl, fun _ => rfl, fun _ => rfl, rfl, fun _ => rfl, rfl, rfl, rfl, rfl, fun _ _ => rfl, fun _ => rfl, fun _ => rfl⟩

theorem test_ill_formed_operands_two :
  (Instr.wellFormed (.rcRegisterRead 0 65) = false) ∧
  (∀ x1 x2, Instr.wellFormed (.bar0AccessError (2 ^ 26) x1 x2) = false) ∧
  (∀ x2, Instr.wellFormed (.bar0AccessError 0 65 x2) = false) ∧
  (Instr.wellFormed (.ringEnable 4096) = false) ∧
  (Instr.wellFormed (.ringDisable 4096) = false) ∧
  (Instr.wellFormed (.ringDrainEnd 4096) = false) ∧
  (Instr.wellFormed (.ringRelease 4096) = false) ∧
  (∀ x1 x2, Instr.wellFormed (.sqTailDoorbell 256 x1 x2) = false) ∧
  (∀ x2, Instr.wellFormed (.sqTailDoorbell 0 64 x2) = false) ∧
  (Instr.wellFormed (.sqTailDoorbell 0 0 (2 ^ 32)) = false) ∧
  (∀ x1 x2, Instr.wellFormed (.cqHeadDoorbell 256 x1 x2) = false) ∧
  (∀ x2, Instr.wellFormed (.cqHeadDoorbell 0 64 x2) = false) ∧
  (Instr.wellFormed (.cqHeadDoorbell 0 0 (2 ^ 32)) = false) ∧
  (∀ x1 x2, Instr.wellFormed (.descriptorFetchDone 4096 x1 x2) = false) ∧
  (∀ x1, Instr.wellFormed (.completionWrite 4096 x1) = false) ∧
  (∀ x1, Instr.wellFormed (.statusBlockTimer 4096 x1) = false) ∧
  (Instr.wellFormed (.coalesceTimer 4096) = false) ∧
  (Instr.wellFormed (.resyncRecordWrite 4096) = false) ∧
  (∀ x1, Instr.wellFormed (.evqHeadDoorbell 256 x1) = false) ∧
  (Instr.wellFormed (.evqHeadDoorbell 0 (2 ^ 32)) = false) ∧
  (∀ x1 x2 x3 x4 x5, Instr.wellFormed (.eventPost 28 x1 x2 x3 x4 x5) = false) ∧
  (∀ x2 x3 x4 x5, Instr.wellFormed (.eventPost 0 65536 x2 x3 x4 x5) = false) ∧
  (∀ x3 x4 x5, Instr.wellFormed (.eventPost 0 0 256 x3 x4 x5) = false) ∧
  (∀ x4 x5, Instr.wellFormed (.eventPost 0 0 0 (2 ^ 32) x4 x5) = false) :=
  ⟨rfl, fun _ _ => rfl, fun _ => rfl, rfl, rfl, rfl, rfl, fun _ _ => rfl, fun _ => rfl, rfl, fun _ _ => rfl, fun _ => rfl, rfl, fun _ _ => rfl, fun _ => rfl, fun _ => rfl, rfl, rfl, fun _ => rfl, rfl, fun _ _ _ _ _ => rfl, fun _ _ _ _ => rfl, fun _ _ _ => rfl, fun _ _ => rfl⟩

theorem test_ill_formed_operands_three :
  (∀ x5, Instr.wellFormed (.eventPost 0 0 0 0 (2 ^ 32) x5) = false) ∧
  (Instr.wellFormed (.eventPost 0 0 0 0 0 (2 ^ 64)) = false) ∧
  (∀ x1, Instr.wellFormed (.nop 4096 x1) = false) ∧
  (∀ x1 x2, Instr.wellFormed (.blkWrite 4096 x1 x2) = false) ∧
  (∀ x1 x2, Instr.wellFormed (.blkRead 4096 x1 x2) = false) ∧
  (∀ x1, Instr.wellFormed (.flush 4096 x1) = false) ∧
  (∀ x1, Instr.wellFormed (.deallocate 4096 x1) = false) ∧
  (∀ x1 x2 x3, Instr.wellFormed (.kvPut 4096 x1 x2 x3) = false) ∧
  (∀ x1 x2 x3 x4, Instr.wellFormed (.kvGet 4096 x1 x2 x3 x4) = false) ∧
  (∀ x1 x2, Instr.wellFormed (.kvDelete 4096 x1 x2) = false) ∧
  (∀ x1 x2 x3, Instr.wellFormed (.compress 4096 x1 x2 x3) = false) ∧
  (∀ x1 x2 x3, Instr.wellFormed (.decompress 4096 x1 x2 x3) = false) ∧
  (∀ x1 x2 x3 x4, Instr.wellFormed (.cipher 4096 x1 x2 x3 x4) = false) ∧
  (∀ x1 x2 x3, Instr.wellFormed (.hash 4096 x1 x2 x3) = false) ∧
  (Instr.wellFormed (.anchorWrite 8) = false) ∧
  (Instr.wellFormed (.pjmChannelFail 8) = false) ∧
  (Instr.wellFormed (.pjmChCmd 8) = false) ∧
  (∀ x0 x2 x3 x4, Instr.wellFormed (.pageProgramDone x0 32 x2 x3 x4) = false) ∧
  (∀ x1 x2 x3 x4 x5, Instr.wellFormed (.netFrameReceive 32 x1 x2 x3 x4 x5) = false) ∧
  (∀ x1 x3 x4 x5, Instr.wellFormed (.netFrameReceive 0 x1 8 x3 x4 x5) = false) ∧
  (∀ x1 x2, Instr.wellFormed (.pfcFrameReceive 32 x1 x2) = false) ∧
  (∀ x2, Instr.wellFormed (.pfcFrameReceive 0 8 x2) = false) ∧
  (∀ x1, Instr.wellFormed (.pfcWatchdogExpiry 32 x1) = false) ∧
  (Instr.wellFormed (.pfcWatchdogExpiry 0 8) = false) :=
  ⟨fun _ => rfl, rfl, fun _ => rfl, fun _ _ => rfl, fun _ _ => rfl, fun _ => rfl, fun _ => rfl, fun _ _ _ => rfl, fun _ _ _ _ => rfl, fun _ _ => rfl, fun _ _ _ => rfl, fun _ _ _ => rfl, fun _ _ _ _ => rfl, fun _ _ _ => rfl, rfl, rfl, rfl, fun _ _ _ _ => rfl, fun _ _ _ _ _ => rfl, fun _ _ _ _ => rfl, fun _ _ => rfl, fun _ => rfl, fun _ => rfl, rfl⟩

theorem test_ill_formed_operands_four :
  (∀ x1, Instr.wellFormed (.portLinkChange 32 x1) = false) ∧
  (∀ x0 x2 x3 x4 x5 x6, Instr.wellFormed (.tcpSyn x0 (2 ^ 32) x2 x3 x4 x5 x6) = false) ∧
  (∀ x0 x2 x3 x4 x6, Instr.wellFormed (.tcpSyn x0 0 x2 x3 x4 15 x6) = false) ∧
  (∀ x0 x2 x3 x4, Instr.wellFormed (.tcpSyn x0 0 x2 x3 x4 0 65536) = false) ∧
  (∀ x0 x1 x3 x4 x5 x6, Instr.wellFormed (.nvmeConnect x0 x1 (2 ^ 64) x3 x4 x5 x6) = false) ∧
  (∀ x0 x1 x4 x5 x6, Instr.wellFormed (.nvmeConnect x0 x1 0 65536 x4 x5 x6) = false) ∧
  (∀ x0 x1 x5 x6, Instr.wellFormed (.nvmeConnect x0 x1 0 0 65536 x5 x6) = false) ∧
  (∀ x0 x1 x5, Instr.wellFormed (.nvmeConnect x0 x1 0 0 0 x5 65536) = false) ∧
  (∀ x0, Instr.wellFormed (.nvmeDisconnect x0 65536) = false) ∧
  (∀ x0 x2, Instr.wellFormed (.nvmePropertyGet x0 65536 x2) = false) ∧
  (∀ x0, Instr.wellFormed (.nvmePropertyGet x0 0 4096) = false) ∧
  (∀ x0 x2 x3, Instr.wellFormed (.nvmePropertySet x0 65536 x2 x3) = false) ∧
  (∀ x0 x3, Instr.wellFormed (.nvmePropertySet x0 0 4096 x3) = false) ∧
  (∀ x0 x2 x3, Instr.wellFormed (.nvmeIdentify x0 65536 x2 x3) = false) ∧
  (∀ x0 x3, Instr.wellFormed (.nvmeIdentify x0 0 256 x3) = false) ∧
  (∀ x0, Instr.wellFormed (.nvmeIdentify x0 0 0 (2 ^ 32)) = false) ∧
  (∀ x0 x2 x3 x4, Instr.wellFormed (.nvmeGetLogPage x0 65536 x2 x3 x4) = false) ∧
  (∀ x0 x3 x4, Instr.wellFormed (.nvmeGetLogPage x0 0 256 x3 x4) = false) ∧
  (∀ x0 x4, Instr.wellFormed (.nvmeGetLogPage x0 0 0 (2 ^ 32) x4) = false) ∧
  (∀ x0 x2 x3, Instr.wellFormed (.nvmeSetFeatures x0 65536 x2 x3) = false) ∧
  (∀ x0 x3, Instr.wellFormed (.nvmeSetFeatures x0 0 256 x3) = false) ∧
  (∀ x0, Instr.wellFormed (.nvmeSetFeatures x0 0 0 (2 ^ 32)) = false) ∧
  (∀ x0 x2, Instr.wellFormed (.nvmeGetFeatures x0 65536 x2) = false) ∧
  (∀ x0, Instr.wellFormed (.nvmeGetFeatures x0 0 256) = false) :=
  ⟨fun _ => rfl, fun _ _ _ _ _ _ => rfl, fun _ _ _ _ _ => rfl, fun _ _ _ _ => rfl, fun _ _ _ _ _ _ => rfl, fun _ _ _ _ _ => rfl, fun _ _ _ _ => rfl, fun _ _ _ => rfl, fun _ => rfl, fun _ _ => rfl, fun _ => rfl, fun _ _ _ => rfl, fun _ _ => rfl, fun _ _ _ => rfl, fun _ _ => rfl, fun _ => rfl, fun _ _ _ _ => rfl, fun _ _ _ => rfl, fun _ _ => rfl, fun _ _ _ => rfl, fun _ _ => rfl, fun _ => rfl, fun _ _ => rfl, fun _ => rfl⟩

theorem test_ill_formed_operands_five :
  (∀ x0, Instr.wellFormed (.nvmeAsyncEventRequest x0 65536) = false) ∧
  (∀ x0, Instr.wellFormed (.nvmeKeepAlive x0 65536) = false) ∧
  (∀ x0, Instr.wellFormed (.nvmeAbort x0 65536) = false) ∧
  (∀ x0 x2 x3 x4 x5 x6, Instr.wellFormed (.nvmeRead x0 65536 x2 x3 x4 x5 x6) = false) ∧
  (∀ x0 x2 x4 x5 x6, Instr.wellFormed (.nvmeRead x0 0 x2 (2 ^ 32) x4 x5 x6) = false) ∧
  (∀ x0 x2 x5 x6, Instr.wellFormed (.nvmeRead x0 0 x2 0 (2 ^ 64) x5 x6) = false) ∧
  (∀ x0 x2 x3 x4 x5 x6 x7 x8, Instr.wellFormed (.nvmeWrite x0 65536 x2 x3 x4 x5 x6 x7 x8) = false) ∧
  (∀ x0 x2 x4 x5 x6 x7 x8, Instr.wellFormed (.nvmeWrite x0 0 x2 (2 ^ 32) x4 x5 x6 x7 x8) = false) ∧
  (∀ x0 x2 x5 x6 x7 x8, Instr.wellFormed (.nvmeWrite x0 0 x2 0 (2 ^ 64) x5 x6 x7 x8) = false) ∧
  (∀ x0 x2 x3, Instr.wellFormed (.nvmeFlush x0 65536 x2 x3) = false) ∧
  (∀ x0 x2, Instr.wellFormed (.nvmeFlush x0 0 x2 (2 ^ 32)) = false) ∧
  (∀ x0 x2 x3 x4 x5, Instr.wellFormed (.nvmeWriteZeroes x0 65536 x2 x3 x4 x5) = false) ∧
  (∀ x0 x2 x4 x5, Instr.wellFormed (.nvmeWriteZeroes x0 0 x2 (2 ^ 32) x4 x5) = false) ∧
  (∀ x0 x2 x5, Instr.wellFormed (.nvmeWriteZeroes x0 0 x2 0 (2 ^ 64) x5) = false) ∧
  (∀ x0 x2 x3 x4 x5, Instr.wellFormed (.nvmeDsmDeallocate x0 65536 x2 x3 x4 x5) = false) ∧
  (∀ x0 x2 x4 x5, Instr.wellFormed (.nvmeDsmDeallocate x0 0 x2 (2 ^ 32) x4 x5) = false) ∧
  (∀ x0, Instr.wellFormed (.nvmeInvalidOpcode x0 65536) = false) ∧
  (∀ x0 x2, Instr.wellFormed (.bufferGrantTransfer x0 65536 x2) = false) ∧
  (∀ x0 x2 x3 x4 x5, Instr.wellFormed (.h2cDataReceive x0 65536 x2 x3 x4 x5) = false) ∧
  (∀ x0 x2 x3, Instr.wellFormed (.writeDataReadDone x0 65536 x2 x3) = false) ∧
  (∀ x1, Instr.wellFormed (.rocePacketReceive (2 ^ 18) x1) = false) ∧
  (∀ x1, Instr.wellFormed (.odpPageResident (2 ^ 20) x1) = false) ∧
  (Instr.wellFormed (.odpPageResident 0 16384) = false) ∧
  (∀ x1, Instr.wellFormed (.roceAckReceive (2 ^ 18) x1) = false) :=
  ⟨fun _ => rfl, fun _ => rfl, fun _ => rfl, fun _ _ _ _ _ _ => rfl, fun _ _ _ _ _ => rfl, fun _ _ _ _ => rfl, fun _ _ _ _ _ _ _ _ => rfl, fun _ _ _ _ _ _ _ => rfl, fun _ _ _ _ _ _ => rfl, fun _ _ _ => rfl, fun _ _ => rfl, fun _ _ _ _ _ => rfl, fun _ _ _ _ => rfl, fun _ _ _ => rfl, fun _ _ _ _ _ => rfl, fun _ _ _ _ => rfl, fun _ => rfl, fun _ _ => rfl, fun _ _ _ _ _ => rfl, fun _ _ _ => rfl, fun _ => rfl, fun _ => rfl, rfl, fun _ => rfl⟩

theorem test_ill_formed_operands_six :
  (Instr.wellFormed (.roceAckReceive 0 (2 ^ 24)) = false) ∧
  (∀ x1, Instr.wellFormed (.roceNakSeqReceive (2 ^ 18) x1) = false) ∧
  (Instr.wellFormed (.roceNakSeqReceive 0 (2 ^ 24)) = false) ∧
  (∀ x1 x2, Instr.wellFormed (.roceRnrNakReceive (2 ^ 18) x1 x2) = false) ∧
  (∀ x2, Instr.wellFormed (.roceRnrNakReceive 0 (2 ^ 24) x2) = false) ∧
  (Instr.wellFormed (.roceRnrNakReceive 0 0 32) = false) ∧
  (Instr.wellFormed (.roceRetransmitExpiry (2 ^ 18)) = false) ∧
  (Instr.wellFormed (.ccProbeSend (2 ^ 18)) = false) ∧
  (∀ x1, Instr.wellFormed (.ccProbeAck (2 ^ 18) x1) = false) ∧
  (Instr.wellFormed (.ccIdleExpiry (2 ^ 18)) = false) ∧
  (∀ x1 x2 x3 x4 x5 x6, Instr.wellFormed (.qpModify (2 ^ 18) x1 x2 x3 x4 x5 x6) = false) ∧
  (∀ x2 x3 x4 x5 x6, Instr.wellFormed (.qpModify 0 4 x2 x3 x4 x5 x6) = false) ∧
  (∀ x3 x4 x5 x6, Instr.wellFormed (.qpModify 0 0 16 x3 x4 x5 x6) = false) ∧
  (∀ x4 x5 x6, Instr.wellFormed (.qpModify 0 0 0 65536 x4 x5 x6) = false) ∧
  (∀ x5 x6, Instr.wellFormed (.qpModify 0 0 0 0 8 x5 x6) = false) ∧
  (∀ x5, Instr.wellFormed (.qpModify 0 0 0 0 0 x5 (2 ^ 24)) = false) ∧
  (Instr.wellFormed (.qpErrorEntry (2 ^ 18)) = false) ∧
  (∀ x1 x2, Instr.wellFormed (.windowOpen (2 ^ 20) x1 x2) = false) ∧
  (Instr.wellFormed (.windowTranslationsLoaded (2 ^ 20)) = false) ∧
  (∀ x1, Instr.wellFormed (.windowRevoke (2 ^ 20) x1) = false) ∧
  (Instr.wellFormed (.windowReadEntry (2 ^ 20)) = false) ∧
  (Instr.wellFormed (.windowDrainEnd (2 ^ 20)) = false) ∧
  (Instr.wellFormed (.revokeTimeout (2 ^ 20)) = false) ∧
  (Instr.wellFormed (.wtcMissWalkDone (2 ^ 18)) = false) :=
  ⟨rfl, fun _ => rfl, rfl, fun _ _ => rfl, fun _ => rfl, rfl, rfl, rfl, fun _ => rfl, rfl, fun _ _ _ _ _ _ => rfl, fun _ _ _ _ _ => rfl, fun _ _ _ _ => rfl, fun _ _ _ => rfl, fun _ _ => rfl, fun _ => rfl, rfl, fun _ _ => rfl, rfl, fun _ => rfl, rfl, rfl, rfl, rfl⟩

theorem test_ill_formed_operands_seven :
  (∀ x1 x2 x3 x4, Instr.wellFormed (.polAllocate 28 x1 x2 x3 x4) = false) ∧
  (∀ x2 x3 x4, Instr.wellFormed (.polAllocate 0 16 x2 x3 x4) = false) ∧
  (∀ x3 x4, Instr.wellFormed (.polAllocate 0 0 1024 x3 x4) = false) ∧
  (∀ x1 x2 x3, Instr.wellFormed (.polFree 28 x1 x2 x3) = false) ∧
  (∀ x2 x3, Instr.wellFormed (.polFree 0 16 x2 x3) = false) ∧
  (∀ x3, Instr.wellFormed (.polFree 0 0 (2 ^ 20) x3) = false) ∧
  (Instr.wellFormed (.polFree 0 0 0 1024) = false) ∧
  (∀ x1, Instr.wellFormed (.polOpAllocate 16 x1) = false) ∧
  (Instr.wellFormed (.polOpAllocate 0 1024) = false) ∧
  (∀ x1, Instr.wellFormed (.polOpFree 16 x1) = false) ∧
  (Instr.wellFormed (.polOpFree 0 1024) = false) ∧
  (Instr.wellFormed (.poolEnable 16) = false) ∧
  (Instr.wellFormed (.poolFillEnd 16) = false) ∧
  (Instr.wellFormed (.poolDisable 16) = false) ∧
  (Instr.wellFormed (.poolDrainEnd 16) = false) ∧
  (Instr.wellFormed (.islTrainingEnd 16) = false) ∧
  (∀ x1 x2 x3 x4 x5, Instr.wellFormed (.islFlitReceive 65536 x1 x2 x3 x4 x5) = false) ∧
  (Instr.wellFormed (.islLaneFail 16) = false) ∧
  (∀ x1 x2, Instr.wellFormed (.indexMessage (2 ^ 64) x1 x2) = false) ∧
  (∀ x2, Instr.wellFormed (.indexMessage 0 (2 ^ 32) x2) = false) ∧
  (Instr.wellFormed (.pinRelease (2 ^ 64)) = false) ∧
  (Instr.wellFormed (.indexEntryRelease (2 ^ 64)) = false) ∧
  (∀ x1 x2 x3, Instr.wellFormed (.keyUnwrapSlot 16384 x1 x2 x3) = false) ∧
  (∀ x2 x3, Instr.wellFormed (.keyUnwrapSlot 0 64 x2 x3) = false) :=
  ⟨fun _ _ _ _ => rfl, fun _ _ _ => rfl, fun _ _ => rfl, fun _ _ _ => rfl, fun _ _ => rfl, fun _ => rfl, rfl, fun _ => rfl, rfl, fun _ => rfl, rfl, rfl, rfl, rfl, rfl, rfl, fun _ _ _ _ _ => rfl, rfl, fun _ _ => rfl, fun _ => rfl, rfl, rfl, fun _ _ _ => rfl, fun _ _ => rfl⟩

theorem test_ill_formed_operands_eight :
  (∀ x2, Instr.wellFormed (.keyUnwrapSlot 0 0 x2 97) = false) ∧
  (∀ x1 x2 x3, Instr.wellFormed (.keyUnwrapKek 64 x1 x2 x3) = false) ∧
  (∀ x2 x3, Instr.wellFormed (.keyUnwrapKek 0 64 x2 x3) = false) ∧
  (∀ x2, Instr.wellFormed (.keyUnwrapKek 0 0 x2 97) = false) ∧
  (Instr.wellFormed (.keyEraseSlot 16384) = false) ∧
  (Instr.wellFormed (.keyEraseKek 64) = false) ∧
  (Instr.wellFormed (.keyEraseEnd 16384) = false) ∧
  (Instr.wellFormed (.keyStoreFault 16384) = false) ∧
  (Instr.wellFormed (.checkpointStart 1025) = false) ∧
  (∀ x1, Instr.wellFormed (.checkpointStripesDone 1025 x1) = false) ∧
  (∀ x1, Instr.wellFormed (.checkpointDirectoryDone 1025 x1) = false) ∧
  (∀ x1 x2 x3, Instr.wellFormed (.recoverySetServe 1025 x1 x2 x3) = false) ∧
  (∀ x0 x2 x3 x4, Instr.wellFormed (.mapPageFetch x0 8 x2 x3 x4) = false) ∧
  (∀ x0 x1 x3 x4, Instr.wellFormed (.mdcUncorrectable x0 x1 8 x3 x4) = false) ∧
  (Instr.wellFormed (.mdcWaygrpPowerDown 8) = false) ∧
  (Instr.wellFormed (.mdcWaygrpPowerUp 8) = false) ∧
  (Instr.wellFormed (.mdcCleanSweepEnd 8) = false) ∧
  (Instr.wellFormed (.mdcWakeEnd 8) = false) ∧
  (∀ x1 x2 x3, Instr.wellFormed (.channelTraining 128 x1 x2 x3) = false) ∧
  (∀ x1, Instr.wellFormed (.groupTakeUp 16 x1) = false) ∧
  (Instr.wellFormed (.groupLost 16) = false) ∧
  (∀ x1 x2 x3 x4, Instr.wellFormed (.mediaReadRequest 128 x1 x2 x3 x4) = false) ∧
  (∀ x0 x2 x3, Instr.wellFormed (.spanUpdate x0 (2 ^ 32) x2 x3) = false) ∧
  (∀ x0 x3, Instr.wellFormed (.spanUpdate x0 0 (2 ^ 32) x3) = false) :=
  ⟨fun _ => rfl, fun _ _ _ => rfl, fun _ _ => rfl, fun _ => rfl, rfl, rfl, rfl, rfl, rfl, fun _ => rfl, fun _ => rfl, fun _ _ _ => rfl, fun _ _ _ _ => rfl, fun _ _ _ _ => rfl, rfl, rfl, rfl, rfl, fun _ _ _ => rfl, fun _ => rfl, rfl, fun _ _ _ _ => rfl, fun _ _ _ => rfl, fun _ _ => rfl⟩

theorem test_ill_formed_operands_nine :
  (∀ x1, Instr.wellFormed (.relocationClaim (2 ^ 32) x1) = false) ∧
  (Instr.wellFormed (.relocationRecordsPersist (2 ^ 32)) = false) ∧
  (Instr.wellFormed (.bandErase (2 ^ 32)) = false) ∧
  (∀ x1 x2, Instr.wellFormed (.enoreCommandImmediate (2 ^ 64) x1 x2) = false) ∧
  (∀ x2, Instr.wellFormed (.enoreCommandImmediate 0 (2 ^ 32) x2) = false) ∧
  (∀ x1 x2, Instr.wellFormed (.put (2 ^ 64) x1 x2) = false) ∧
  (∀ x1 x2 x3, Instr.wellFormed (.get (2 ^ 64) x1 x2 x3) = false) ∧
  (∀ x1, Instr.wellFormed (.delete (2 ^ 64) x1) = false) ∧
  (∀ x1 x2, Instr.wellFormed (.list (2 ^ 64) x1 x2) = false) ∧
  (∀ x1, Instr.wellFormed (.exist (2 ^ 64) x1) = false) ∧
  (∀ x1 x2, Instr.wellFormed (.state (2 ^ 64) x1 x2) = false) ∧
  (∀ x1, Instr.wellFormed (.close (2 ^ 64) x1) = false) ∧
  (∀ x1, Instr.wellFormed (.enoreResponseWrite (2 ^ 64) x1) = false) ∧
  (Instr.wellFormed (.sessionIdleExpiry (2 ^ 64)) = false) ∧
  (Instr.wellFormed (.sessionKeepExpiry (2 ^ 64)) = false) ∧
  (∀ x1 x2, Instr.wellFormed (.epochUpdateReceive (2 ^ 64) x1 x2) = false) ∧
  (∀ x2, Instr.wellFormed (.epochUpdateReceive 0 (2 ^ 64) x2) = false) ∧
  (∀ x0 x2, Instr.wellFormed (.mteUpdateWrite x0 131072 x2) = false) ∧
  (∀ x0, Instr.wellFormed (.mteUpdateInvalidate x0 131072) = false) ∧
  (∀ x0 x2, Instr.wellFormed (.mteUpdateResult x0 131072 x2) = false) ∧
  (∀ x0, Instr.wellFormed (.mteUpdateResult x0 0 (2 ^ 32)) = false) ∧
  (Instr.wellFormed (.mteBulkEnter 8) = false) ∧
  (Instr.wellFormed (.mteBulkLeave 8) = false) ∧
  (Instr.wellFormed (.mteBankPowerDown 8) = false) :=
  ⟨fun _ => rfl, rfl, rfl, fun _ _ => rfl, fun _ => rfl, fun _ _ => rfl, fun _ _ _ => rfl, fun _ => rfl, fun _ _ => rfl, fun _ => rfl, fun _ _ => rfl, fun _ => rfl, fun _ => rfl, rfl, rfl, fun _ _ => rfl, fun _ => rfl, fun _ _ => rfl, fun _ => rfl, fun _ _ => rfl, fun _ => rfl, rfl, rfl, rfl⟩

theorem test_ill_formed_operands_ten :
  (Instr.wellFormed (.mteBankPowerUp 8) = false) ∧
  (∀ x1 x2 x3, Instr.wellFormed (.mteBulkLoad 8 x1 x2 x3) = false) ∧
  (∀ x2 x3, Instr.wellFormed (.mteBulkLoad 0 16384 x2 x3) = false) ∧
  (Instr.wellFormed (.mteSearchCmd 16) = false) ∧
  (Instr.wellFormed (.requestAbandon (2 ^ 64)) = false) ∧
  (Instr.wellFormed (.ikHeldTakeExpiry 65536) = false) ∧
  (Instr.wellFormed (.groupClaim 16) = false) ∧
  (Instr.wellFormed (.groupRelease 16) = false) ∧
  (Instr.wellFormed (.handoverSet 1025) = false) ∧
  (∀ x1 x2 x3, Instr.wellFormed (.handoverSignalReceive 4 x1 x2 x3) = false) ∧
  (∀ x1 x2, Instr.wellFormed (.ownershipDrill 8 x1 x2) = false) ∧
  (Instr.wellFormed (.ownHandOverOset 1025) = false) ∧
  (Instr.wellFormed (.ownHandOverGroup 16) = false) ∧
  (∀ x1 x2 x3, Instr.wellFormed (.ownDrillNow 16 x1 x2 x3) = false) ∧
  (∀ x2 x3, Instr.wellFormed (.ownDrillNow 0 8 x2 x3) = false) ∧
  (Instr.wellFormed (.cutInstant (2 ^ 64)) = false) ∧
  (Instr.wellFormed (.cutReady (2 ^ 64)) = false) ∧
  (Instr.wellFormed (.scheduleCutTrigger 32) = false) ∧
  (∀ x1, Instr.wellFormed (.replicationDeltaShip 32 x1) = false) ∧
  (Instr.wellFormed (.replicationDeltaShip 1 (2 ^ 64)) = false) ∧
  (∀ x1, Instr.wellFormed (.replicationBatchReceive (2 ^ 32) x1) = false) ∧
  (∀ x1 x2, Instr.wellFormed (.replicationAckReceive 32 x1 x2) = false) ∧
  (∀ x1, Instr.wellFormed (.replicationAckReceive 1 x1 65536) = false) ∧
  (∀ x1, Instr.wellFormed (.replicationBatchTimeout 32 x1) = false) :=
  ⟨rfl, fun _ _ _ => rfl, fun _ _ => rfl, rfl, rfl, rfl, rfl, rfl, rfl, fun _ _ _ => rfl, fun _ _ => rfl, rfl, rfl, fun _ _ _ => rfl, fun _ _ => rfl, rfl, rfl, rfl, fun _ => rfl, rfl, fun _ => rfl, fun _ _ => rfl, fun _ => rfl, fun _ => rfl⟩

theorem test_ill_formed_operands_eleven :
  (∀ x1, Instr.wellFormed (.syncWriteTimeout 32 x1) = false) ∧
  (Instr.wellFormed (.catchupCutArm 32) = false) ∧
  (Instr.wellFormed (.linkSuspend 32) = false) ∧
  (Instr.wellFormed (.rpoMiss 32) = false) ∧
  (∀ x1 x2 x3, Instr.wellFormed (.loopSample 64 x1 x2 x3) = false) ∧
  (∀ x1 x2, Instr.wellFormed (.loopLocalSample 64 x1 x2) = false) ∧
  (Instr.wellFormed (.loopEnable 64) = false) ∧
  (Instr.wellFormed (.loopDisable 64) = false) ∧
  (Instr.wellFormed (.loopSwap 64) = false) ∧
  (∀ x1 x2 x3 x4 x5, Instr.wellFormed (.gbkRecordStage 28 x1 x2 x3 x4 x5) = false) ∧
  (∀ x2 x3 x4 x5, Instr.wellFormed (.gbkRecordStage 0 65536 x2 x3 x4 x5) = false) ∧
  (∀ x3 x4 x5, Instr.wellFormed (.gbkRecordStage 0 0 (2 ^ 64) x3 x4 x5) = false) ∧
  (∀ x4 x5, Instr.wellFormed (.gbkRecordStage 0 0 0 (2 ^ 64) x4 x5) = false) ∧
  (∀ x5, Instr.wellFormed (.gbkRecordStage 0 0 0 0 (2 ^ 64) x5) = false) ∧
  (∀ x1 x2 x3 x4, Instr.wellFormed (.gbkCopy 65537 x1 x2 x3 x4) = false) ∧
  (∀ x2 x3 x4, Instr.wellFormed (.gbkCopy 1 2 x2 x3 x4) = false) ∧
  (Instr.wellFormed (.fwConfirm (2 ^ 32)) = false) ∧
  (Instr.wellFormed (.pwrDomainOff 64) = false) ∧
  (Instr.wellFormed (.pwrDomainOn 64) = false) ∧
  (Instr.wellFormed (.pwrgdLow 2) = false) ∧
  (∀ x1, Instr.wellFormed (.chainFault 2 x1) = false) ∧
  (Instr.wellFormed (.chainGood 2) = false) ∧
  (∀ x1 x2, Instr.wellFormed (.regAccess (2 ^ 26) x1 x2) = false) ∧
  (∀ x2, Instr.wellFormed (.regAccess 0 9 x2) = false) :=
  ⟨fun _ => rfl, rfl, rfl, rfl, fun _ _ _ => rfl, fun _ _ => rfl, rfl, rfl, rfl, fun _ _ _ _ _ => rfl, fun _ _ _ _ => rfl, fun _ _ _ => rfl, fun _ _ => rfl, fun _ => rfl, fun _ _ _ _ => rfl, fun _ _ _ => rfl, rfl, rfl, rfl, rfl, fun _ => rfl, rfl, fun _ _ => rfl, fun _ => rfl⟩

theorem test_ill_formed_operands_twelve :
  (∀ x1, Instr.wellFormed (.fuseProg 32 x1) = false) ∧
  (∀ x1 x2, Instr.wellFormed (.loopbackStart 8 x1 x2) = false) ∧
  (∀ x2, Instr.wellFormed (.loopbackStart 0 128 x2) = false) ∧
  (Instr.wellFormed (.loopbackStart 0 0 65536) = false) ∧
  (∀ x1 x2, Instr.wellFormed (.mediaReadResponseReceive 128 x1 x2) = false) ∧
  (∀ x1 x2, Instr.wellFormed (.indexAnswerReceive (2 ^ 64) x1 x2) = false) ∧
  (∀ x2, Instr.wellFormed (.indexAnswerReceive 0 (2 ^ 32) x2) = false) ∧
  (∀ x1, Instr.wellFormed (.authorityRequestReceive 65536 x1) = false) ∧
  (∀ x1 x2 x3 x4 x5, Instr.wellFormed (.rdmaCmRequest 32 x1 x2 x3 x4 x5) = false) ∧
  (∀ x2 x3 x4 x5, Instr.wellFormed (.rdmaCmRequest 0 32 x2 x3 x4 x5) = false) ∧
  (∀ x3 x4 x5, Instr.wellFormed (.rdmaCmRequest 0 0 65536 x3 x4 x5) = false) ∧
  (∀ x3 x5, Instr.wellFormed (.rdmaCmRequest 0 0 0 x3 (2 ^ 24) x5) = false) ∧
  (∀ x3, Instr.wellFormed (.rdmaCmRequest 0 0 0 x3 0 (2 ^ 24)) = false) :=
  ⟨fun _ => rfl, fun _ _ => rfl, fun _ => rfl, rfl, fun _ _ => rfl, fun _ _ => rfl, fun _ => rfl, fun _ => rfl, fun _ _ _ _ _ => rfl, fun _ _ _ _ => rfl, fun _ _ _ => rfl, fun _ _ => rfl, fun _ => rfl⟩

set_option exponentiation.threshold 4096 in
theorem test_ill_formed_long_operands :
  (∀ x0 x2 x3 x4 x5 x6, Instr.wellFormed (.deferredErrorRecord x0 (2 ^ 32) x2 x3 x4 x5 x6) = false) ∧
  (∀ x0 x3 x4 x5 x6, Instr.wellFormed (.deferredErrorRecord x0 0 (2 ^ 64) x3 x4 x5 x6) = false) ∧
  (∀ x0 x4 x5 x6, Instr.wellFormed (.deferredErrorRecord x0 0 0 (2 ^ 32) x4 x5 x6) = false) ∧
  (∀ x0 x5 x6, Instr.wellFormed (.deferredErrorRecord x0 0 0 0 1048576 x5 x6) = false) ∧
  (∀ x0 x6, Instr.wellFormed (.deferredErrorRecord x0 0 0 0 0 (2 ^ 2048) x6) = false) ∧
  (∀ x0, Instr.wellFormed (.deferredErrorRecord x0 0 0 0 0 0 256) = false) ∧
  (∀ x0 x2 x3 x4 x5 x6 x7 x8 x9 x10 x11, Instr.wellFormed (.nvmeKvStore x0 65536 x2 x3 x4 x5 x6 x7 x8 x9 x10 x11) = false) ∧
  (∀ x0 x2 x4 x5 x6 x7 x8 x9 x10 x11, Instr.wellFormed (.nvmeKvStore x0 0 x2 (2 ^ 32) x4 x5 x6 x7 x8 x9 x10 x11) = false) ∧
  (∀ x0 x2 x5 x6 x7 x8 x9 x10 x11, Instr.wellFormed (.nvmeKvStore x0 0 x2 0 (2 ^ 2048) x5 x6 x7 x8 x9 x10 x11) = false) ∧
  (∀ x0 x2 x6 x7 x8 x9 x10 x11, Instr.wellFormed (.nvmeKvStore x0 0 x2 0 0 256 x6 x7 x8 x9 x10 x11) = false) ∧
  (∀ x0 x2 x3 x4 x5 x6 x7, Instr.wellFormed (.nvmeKvRetrieve x0 65536 x2 x3 x4 x5 x6 x7) = false) ∧
  (∀ x0 x2 x4 x5 x6 x7, Instr.wellFormed (.nvmeKvRetrieve x0 0 x2 (2 ^ 32) x4 x5 x6 x7) = false) ∧
  (∀ x0 x2 x5 x6 x7, Instr.wellFormed (.nvmeKvRetrieve x0 0 x2 0 (2 ^ 2048) x5 x6 x7) = false) ∧
  (∀ x0 x2 x6 x7, Instr.wellFormed (.nvmeKvRetrieve x0 0 x2 0 0 256 x6 x7) = false) ∧
  (∀ x0 x2 x3 x4 x5, Instr.wellFormed (.nvmeKvDelete x0 65536 x2 x3 x4 x5) = false) ∧
  (∀ x0 x2 x4 x5, Instr.wellFormed (.nvmeKvDelete x0 0 x2 (2 ^ 32) x4 x5) = false) ∧
  (∀ x0 x2 x5, Instr.wellFormed (.nvmeKvDelete x0 0 x2 0 (2 ^ 2048) x5) = false) ∧
  (∀ x0 x2, Instr.wellFormed (.nvmeKvDelete x0 0 x2 0 0 256) = false) ∧
  (∀ x0 x2 x3 x4 x5, Instr.wellFormed (.nvmeKvExist x0 65536 x2 x3 x4 x5) = false) ∧
  (∀ x0 x2 x4 x5, Instr.wellFormed (.nvmeKvExist x0 0 x2 (2 ^ 32) x4 x5) = false) ∧
  (∀ x0 x2 x5, Instr.wellFormed (.nvmeKvExist x0 0 x2 0 (2 ^ 2048) x5) = false) ∧
  (∀ x0 x2, Instr.wellFormed (.nvmeKvExist x0 0 x2 0 0 256) = false) ∧
  (∀ x0 x2 x3 x4 x5 x6 x7, Instr.wellFormed (.nvmeKvList x0 65536 x2 x3 x4 x5 x6 x7) = false) ∧
  (∀ x0 x2 x4 x5 x6 x7, Instr.wellFormed (.nvmeKvList x0 0 x2 (2 ^ 32) x4 x5 x6 x7) = false) ∧
  (∀ x0 x2 x5 x6 x7, Instr.wellFormed (.nvmeKvList x0 0 x2 0 (2 ^ 2048) x5 x6 x7) = false) ∧
  (∀ x0 x2 x6 x7, Instr.wellFormed (.nvmeKvList x0 0 x2 0 0 256 x6 x7) = false) ∧
  (∀ x1 x2, Instr.wellFormed (.mteSearch 28 x1 x2) = false) ∧
  (∀ x2, Instr.wellFormed (.mteSearch 0 16 x2) = false) ∧
  (Instr.wellFormed (.mteSearch 0 0 (2 ^ 320)) = false) := by
  simp [Instr.wellFormed]

/-- The words of the table carry no bits, so no word spells a command (log entry 15). -/
theorem test_no_word_spells_a_command : decodeTableWord 16 0 = none ∧ decodeTableWord 64 (2 ^ 64 - 1) = none := by decide

/-! ## Worked examples of the spec -/

/-- R8: head 0x0349 has the partner 0x0348 and belongs to array 0x01A4. -/
theorem test_partner_of_0x0349 :
    (State.reset.wr Fld.GLB_HEAD_HEAD_ID 0x0349).partnerId = 0x0348 ∧ (State.reset.wr Fld.GLB_HEAD_HEAD_ID 0x0349).arrayId = 0x01A4 := by
  decide +kernel

/-- The example of R45: B = 5,000, H = 5,713, slot 5,714 in progress, slot 5,715 completed. -/
def Sys2Proof.Tests.exampleWindow : RWin :=
  { bits := 64, b := 5000, h := 5713, slots := [(5714, .inProgress), (5715, .completed 0)], owner := 0, marks := [] }

/-- A resend of 5,715 is answered from its slot; 6,030 advances B to 5,007; then 6,740 is too far ahead. -/
theorem test_window_example :
    exampleWindow.judge 5715 = .done 0 ∧ (exampleWindow.take 6030).b = 5007 ∧ (exampleWindow.take 6030).judge 6740 = .ahead := by
  decide +kernel

/-- When 5,714 completes, H passes over 5,715. -/
theorem test_window_highest : (exampleWindow.complete 5714 0).h = 5715 := by decide +kernel

/-- Table 14.1: bands A, B and C. -/
theorem test_scores_of_table_14_1 :
    gcxScore 0x8000 0x4000 0x2000 168 3000 30 100 (24 * 3600000000000) (8 * 900) = 0x5924 ∧
    gcxScore 0x8000 0x4000 0x2000 168 3000 20 100 (2 * 3600000000000) (8 * 2400) = 0x4D90 ∧
    gcxScore 0x8000 0x4000 0x2000 168 3000 45 100 (200 * 3600000000000) (8 * 300) = 0x8333 := by decide +kernel

/-- The state of the example of R161: pool 3, owners 101, 102, 5 and 140. -/
def Sys2Proof.Tests.examplePool : State :=
  let s := State.reset.sets [(Fld.POL_POOL_CFG_COUNT, 3, 840), (Fld.POL_POOL_STAT_STATE, 3, 2)]
  let r := [(101, 64, 256, 200), (102, 128, 300, 40), (5, 200, 300, 150), (140, 0, 512, 300)].foldl
    (fun r (e : Nat × Nat × Nat × Nat) => putField (putField (putField r Fld.POL_LIMIT_MIN e.2.1 e.1 3) Fld.POL_LIMIT_MAX e.2.2.1 e.1 3)
      Fld.POL_HELD_HELD e.2.2.2 e.1 3) s.regs
  { s with regs := r, pol := { s.pol with pools := [(3, { Pool.init with taken := List.range 690 })] } }

/-- Table 07.1: FREE = 150 and U = 138; owner 101's 40 buffers wait, and owner 102's 100 are granted. -/
theorem test_grants_of_table_07_1 :
    examplePool.poolFree 3 = 150 ∧ examplePool.unmetAll 3 = 138 ∧ examplePool.grants 3 101 40 = false ∧
    examplePool.grants 3 102 100 = true := by decide +kernel

/-! ## Test vectors of the standards that the spec names -/

/-- FIPS 197, appendix C.3: AES-256. -/
theorem test_aes_256 : aesEnc (aesKeys (List.range 32)) ((List.range 16).map (· * 0x11)) =
    [0x8E, 0xA2, 0xB7, 0xCA, 0x51, 0x67, 0x45, 0xBF, 0xEA, 0xFC, 0x49, 0x90, 0x4B, 0x49, 0x60, 0x89] := by decide +kernel

/-- FIPS 180-4: the digest of the three bytes 61h, 62h, 63h begins so. -/
theorem test_sha_256 : (sha256 [0x61, 0x62, 0x63]).take 4 = [0xBA, 0x78, 0x16, 0xBF] := by decide +kernel

/-- CRC-32C of the nine digits 1 to 9. -/
theorem test_crc32c : crc32c [0x31, 0x32, 0x33, 0x34, 0x35, 0x36, 0x37, 0x38, 0x39] = 0xE3069283 := by decide +kernel

/-! ## Witnesses of the statements about every command -/

/-- Group 3 is claimed and driven here, and the lease timer runs. -/
def Sys2Proof.Tests.driving : State := LH.aonUpd (fun a => { a with claimOut := [3], drivers := [3] })

theorem witness_AnEmptyQueueLetsACyclePass : ∃ s : State, s.pending = [] ∧ s.aon.leaseEnd = none := ⟨State.reset, rfl, rfl⟩

theorem witness_EveryStepKeepsTheHeadSafe : ∃ s t : State, s.Safe ∧ step s = .next t ∧ t.aon.drivers.mem 3 = true := by
  refine ⟨{ driving with pending := [.bypass] }, _, ⟨?_, ?_⟩, rfl, by decide +kernel⟩
  · intro g h
    have : g = 3 := by simpa [driving, State.aonUpd, NatSet.mem, eq_comm] using h
    subst this
    exact ⟨by decide +kernel, by decide +kernel, by decide +kernel⟩
  · exact fun _ => ⟨by decide +kernel, by decide +kernel⟩

theorem witness_DriversObeyR11 : ∃ (c : Instr) (s t : State) (g : Nat), exec c s = .next t ∧ t.aon.drivers.mem g = true :=
  ⟨.bypass, driving, _, 3, rfl, by decide +kernel⟩

theorem witness_TheFenceHoldsAsR12Says :
    (∃ (c : Instr) (s t : State), exec c s = .next t ∧ t.aon.fenceIn = true) ∧ (∃ s : State, s.aon.claimOut = []) :=
  ⟨⟨.fenceInAsserted, driving, _, rfl, by decide +kernel⟩, ⟨State.reset, rfl⟩⟩

theorem witness_ThePartnerInvertsBitZero : ∃ s : State, s.headId = 0x0349 := ⟨State.reset.wr Fld.GLB_HEAD_HEAD_ID 0x0349, by decide +kernel⟩

theorem witness_HighestCompletedFollowsR40 : ∃ w : RWin, w.h < 2 ^ w.bits := ⟨exampleWindow, by decide +kernel⟩

/-! ## Witnesses of the other statements -/

theorem witness_RingStatesAndEventRings :
  (∃ (s : State) (r n : Nat), r < 4096 ∧ s.ringSt r = ringDisabled ∧ s.ringCfgOk r = true ∧ s.ringFn r = some n ∧ (s.fn n).stopped = false ∧ s.rdb Fld.HRI_RING_CFG_KEEP_REPLAY r = false ∧ s.admittedPend Blk.PJM = false) ∧
  (∃ (s : State) (r n : Nat) (w : RWin), r < 4096 ∧ s.ringSt r = ringDisabled ∧ s.ringCfgOk r = true ∧ s.ringFn r = some n ∧ (s.fn n).stopped = false ∧ s.rdb Fld.HRI_RING_CFG_KEEP_REPLAY r = true ∧ s.wins.look (winRing r) = some w ∧ w.owner = n) ∧
  (∃ (s : State) (r : Nat), r < 4096 ∧ s.rdb Fld.HRI_RING_CFG_ENABLE r = true ∧ s.ringSt r ≠ ringDisabled) ∧
  (∃ (s : State) (r : Nat), r < 4096 ∧ s.ringSt r = ringDraining ∧ (s.ring r).subs = [] ∧ (s.ring r).ready = []) ∧
  (∃ (s : State) (r : Nat), s.ringSt r = ringDisabled) ∧
  (∃ (s : State) (fn v : Nat), v < s.evqSize fn ∧ (s.fn fn).stopped = false) ∧
  (∃ (s : State) (fn : Nat), s.rdb Fld.HRI_FN_EVQ_CFG_ENABLE fn = true ∧ (s.fn fn).stopped = false ∧ (s.fn fn).used < s.evqSize fn) ∧
  (∃ (s : State) (fn : Nat), fn < 256 ∧ s.rdb Fld.HRI_FN_EVQ_CFG_ENABLE fn = true ∧ (s.fn fn).stopped = false ∧ s.evqSize fn ≤ (s.fn fn).used) :=
  ⟨⟨R3.sets [(Fld.HRI_RING_CFG_ENABLE,3,0),(Fld.HRI_RING_STATE_STATE,3,0),(Fld.HRI_RING_SEQ_BASE_SEQ,3,100)], 3, 0, by decide +kernel⟩,
   ⟨(R3.sets [(Fld.HRI_RING_CFG_ENABLE,3,0),(Fld.HRI_RING_STATE_STATE,3,0),(Fld.HRI_RING_CFG_KEEP_REPLAY,3,1)]).winPut 3 (RWin.fresh 32 5 0), 3, 0, RWin.fresh 32 5 0, by decide +kernel⟩,
   ⟨R3, 3, by decide +kernel⟩,
   ⟨(R3.sets [(Fld.HRI_RING_STATE_STATE,3,4)]).winPut 3 (RWin.fresh 32 5 0), 3, by decide +kernel⟩,
   ⟨Z.winPut 3 (RWin.fresh 32 5 0), 3, by decide +kernel⟩,
   ⟨(st [(Fld.HRI_FN_EVQ_CFG_ENABLE,2,1),(Fld.HRI_FN_EVQ_CFG_LOG2,2,4)]).setFn 2 { Z.fn 2 with used := 9, evqHead := 12 }, 2, 3, by decide +kernel⟩,
   ⟨(st [(Fld.HRI_FN_EVQ_CFG_ENABLE,2,1),(Fld.HRI_FN_EVQ_CFG_LOG2,2,4)]).setFn 2 { Z.fn 2 with used := 15, evqHead := 12 }, 2, by decide +kernel⟩,
   ⟨(st [(Fld.HRI_FN_EVQ_CFG_ENABLE,2,1),(Fld.HRI_FN_EVQ_CFG_LOG2,2,4)]).setFn 2 { Z.fn 2 with used := 16, evqHead := 12 }, 2, by decide +kernel⟩⟩

theorem witness_RingSubmissionsAndCompletions :
  (∃ (s : State) (fn i v r : Nat), s.localRing fn i = some r ∧ s.ringSt r = ringActive ∧ (s.fn fn).stopped = false ∧ v < s.sqSize r) ∧
  (∃ (s : State) (fn i v r : Nat), s.localRing fn i = some r ∧ s.ringSt r = ringActive ∧ (s.fn fn).stopped = false ∧ v < s.cqSize r ∧ (s.ring r).heldEvents = [] ∧ (s.ring r).fetched = []) ∧
  (∃ (s : State) (r : Nat) (l : List Nat), s.admittedPend Blk.HRI = false ∧ s.rdb Fld.HRI_CTRL_ENABLE = true ∧ rotate (((s.hri.rings.map (·.1)).filter s.fetchable).filter (fun r => s.rd Fld.HRI_RING_ARB_PRIO r == 0)) s.hri.rr = r :: l) ∧
  (∃ (s : State) (r : Nat) (e : SubEntry), (s.ring r).fetching = 1 ∧ (s.ring r).fetched = [] ∧ s.ringSt r = ringActive ∧ s.ringStopped r = false ∧ s.cqLoad r < s.cqSize r ∧ ringOpcode e.opcode = true ∧ (s.wins.getD (winRing r) (RWin.fresh 32 0 0)).judge e.seq = .free) ∧
  (∃ (s : State) (r : Nat) (c : Ready) (l : List Ready), (s.ring r).ready = c :: l ∧ s.ringStopped r = false ∧ s.ringSt r ≠ ringDisabled) ∧
  (∃ (s : State) (r x : Nat), (s.ring r).sbDirty = some x ∧ s.ringStopped r = false) ∧
  (∃ (s : State) (r x : Nat), (s.ring r).firstUnsignalled = some x ∧ s.ringStopped r = false) ∧
  (∃ (s : State) (r : Nat), r < 4096 ∧ (s.ringSt r = ringActive ∨ s.ringSt r = ringError)) ∧
  (∃ (s : State) (r : Nat), s.ringSt r = ringResyncing ∧ (s.ring r).ready = [] ∧ (s.ring r).subs = [] ∧ (s.ring r).fetched = [] ∧ (s.ring r).sqRecorded = none ∧ (s.ring r).cqRecorded = none ∧ s.ringStopped r = false) :=
  ⟨⟨R3, 0, 3, 15, 3, by decide +kernel⟩,
   ⟨R3.ringUpd 3 (fun x => { x with cqHead := 14, cqUsed := 5 }), 0, 3, 2, 3, by decide +kernel⟩,
   ⟨(R3.ringUpd 3 (fun x => { x with sqTail := 15 })).sets [(Fld.HRI_CTRL_ENABLE,0,1),(Fld.HRI_RING_ARB_PRIO,3,0)], 3, [], by decide +kernel⟩,
   ⟨(R3.ringUpd 3 (fun x => { x with sqTail := 1, fetching := 1 })).winPut 3 (RWin.fresh 32 5 0), 3, ent 5 0, by decide +kernel⟩,
   ⟨R3.ringUpd 3 (fun x => { x with ready := [rdy 5, rdy 6] }), 3, rdy 5, [rdy 6], by decide +kernel⟩,
   ⟨R3.ringUpd 3 (fun x => { x with sbDirty := some 4 }), 3, 4, by decide +kernel⟩,
   ⟨R3.ringUpd 3 (fun x => { x with firstUnsignalled := some 4, unsignalled := 2 }), 3, 4, by decide +kernel⟩,
   ⟨R3, 3, by decide +kernel⟩,
   ⟨R3.sets [(Fld.HRI_RING_STATE_STATE,3,2)], 3, by decide +kernel⟩⟩

theorem witness_ResetsTakeTheirScope :
  (∃ (s : State) (fA fB : Bool), s.BootsFirst ∧ s.powerOnHeld = true ∧ s.aon.sysRst = false ∧ (fA || fB) = true) ∧
  (∃ (s : State), s.aon.feedA = true ∧ s.aon.feedB = true) ∧
  (∃ (s : State), s.BootsFirst ∧ s.aon.sysRst = true ∧ s.aon.fed = true) ∧
  (∃ (s : State), s.BootsFirst ∧ s.mainRuns = true ∧ s.pwr.chainA.pwrgd = true ∧ s.pwr.chainB.pwrgd = true) ∧
  (∃ (s : State) (k t₀ : Nat), s.fwu.booting = some (k, t₀) ∧ s.slotOk (1 - k) = false) ∧
  (∃ (s : State), s.aon.timerRuns = true) ∧
  (∃ (s : State), s.BootsFirst ∧ s.mainRuns = true ∧ s.pwr.switching = none ∧ s.pwr.chainA.pwrgd = true ∧ s.pwr.chainB.pwrgd = true) :=
  ⟨⟨PO, true, false, by decide +kernel⟩,
   ⟨RUN, by decide +kernel⟩,
   ⟨PO.aonUpd (fun a => { a with sysRst := true }), by decide +kernel⟩,
   ⟨(leaseRun RUN (10^18)).aonUpd (fun a => { a with claimMask := [2], claimOut := [2], drivers := [2], settle := [(2,0)] }), by decide +kernel⟩,
   ⟨{ PO with fwu := { PO.fwu with slots := [(0, { fwimg with slow := true })], booting := some (0, 0) } }, 0, 0, by decide +kernel⟩,
   ⟨(leaseRun RUN (10^18)).aonUpd (fun a => { a with claimMask := [2], claimOut := [2], drivers := [2], settle := [(2,0)] }), by decide +kernel⟩,
   ⟨leaseRun RUN 1000, by decide +kernel⟩⟩

theorem witness_FirmwareUpdateCommandsRun :
  (∃ (s : State) (img : FwImage), s.mainRuns = true ∧ s.slotIn slotPending = none ∧ s.slotIn slotTrial = none ∧ s.slotIn slotPrevious = none ∧ s.fwFails img = none) ∧
  (∃ (s : State) (k : Nat), s.mainRuns = true ∧ s.slotIn slotPending = some k) ∧
  (∃ (s : State), s.mainRuns = true ∧ s.rd Fld.FWU_SLOT_INFO_STATE s.otherSlot = slotStaged) ∧
  (∃ (s : State) (k : Nat), s.mainRuns = true ∧ s.rdb Fld.FWU_CTRL_ENABLE = true ∧ s.fwu.activating = false ∧ s.admittedPend Blk.FWU = false ∧ s.slotIn slotPending = some k ∧ State.actCheck (s.advanceCt (Frac.int (s.activationNs s.aon.side : Int))) k true false = none) ∧
  (∃ (s : State) (gen : Nat), s.mainRuns = true ∧ s.rdb Fld.FWU_STATUS_TRIAL = true ∧ gen = s.rd Fld.FWU_SLOT_INFO_FW_GEN (s.rd Fld.FWU_STATUS_SLOT) ∧ s.ctNs ≤ s.rd Fld.FWU_DEADLINE_NS) ∧
  (∃ (s u : State), s.mainRuns = true ∧ s.rdb Fld.FWU_STATUS_TRIAL = true ∧ s.fwu.activating = false ∧ u = s.advanceCt (Frac.int (s.rd Fld.FWU_DEADLINE_NS : Int)) ∧ u.leaseIsHeld = true ∧ u.allHeld ≠ []) ∧
  (∃ (s : State) (t₀ : Nat), s.BootsFirst ∧ s.aon.backstop = some t₀ ∧ s.aon.sysRst = false ∧ s.pwr.chainA.pwrgd = true ∧ s.pwr.chainB.pwrgd = true) :=
  ⟨⟨RUN.sets [(Fld.FWU_SLOT_INFO_STATE,0,4)], fwimg, by decide +kernel⟩,
   ⟨(RUN.sets [(Fld.FWU_SLOT_INFO_STATE,0,4),(Fld.FWU_SLOT_INFO_STATE,1,2)]).fwuUpd (fun f => { f with slots := f.slots.put 1 fwimg }), 1, by decide +kernel⟩,
   ⟨(RUN.sets [(Fld.FWU_SLOT_INFO_STATE,0,4),(Fld.FWU_SLOT_INFO_STATE,1,1)]).fwuUpd (fun f => { f with slots := f.slots.put 1 fwimg }), by decide +kernel⟩,
   ⟨(RUN.sets [(Fld.FWU_CTRL_ENABLE,0,1),(Fld.FWU_SLOT_INFO_STATE,0,4),(Fld.FWU_SLOT_INFO_STATE,1,2),(Fld.ISL_STATUS_STATE,0,4)]).fwuUpd (fun f => { f with slots := f.slots.put 1 fwimg }), 1, by decide +kernel⟩,
   ⟨(RUN.sets [(Fld.FWU_STATUS_TRIAL,0,1),(Fld.FWU_SLOT_INFO_FW_GEN,0,5),(Fld.FWU_SLOT_INFO_STATE,0,3),(Fld.FWU_DEADLINE_NS,0,100)]).aonUpd (fun a => { a with backstop := some 1000 }), 5, by decide +kernel⟩,
   ⟨(LH.ownUpd (fun o => { o with sets := [(1,.a)] })).sets [(Fld.FWU_STATUS_TRIAL,0,1),(Fld.FWU_SLOT_INFO_STATE,0,3),(Fld.FWU_DEADLINE_NS,0,100)], ((LH.ownUpd (fun o => { o with sets := [(1,.a)] })).sets [(Fld.FWU_STATUS_TRIAL,0,1),(Fld.FWU_SLOT_INFO_STATE,0,3),(Fld.FWU_DEADLINE_NS,0,100)]).advanceCt (Frac.int (((LH.ownUpd (fun o => { o with sets := [(1,.a)] })).sets [(Fld.FWU_STATUS_TRIAL,0,1),(Fld.FWU_SLOT_INFO_STATE,0,3),(Fld.FWU_DEADLINE_NS,0,100)]).rd Fld.FWU_DEADLINE_NS : Int)), by decide +kernel⟩,
   ⟨RUN.aonUpd (fun a => { a with backstop := some 1000 }), 1000, by decide +kernel⟩⟩

theorem witness_LinkEventsPowerDomainsAndRegulators :
  (∃ (n : Nat), n < 256) ∧
  (∃ (n : Nat), n < 256) ∧
  (∃ (s : State), s.aon.sysRst = false ∧ s.domainOn 28 = true) ∧
  (∃ (s : State) (d : Nat), s.pwr.queue = [] ∧ s.pwr.switching = none ∧ s.domainOn d = true ∧ blockSwitched d = false ∧ s.mayPowerOff d = true) ∧
  (∃ (s : State) (d : Nat), s.pwr.queue = [] ∧ s.pwr.switching = none ∧ s.domainOn d = true ∧ blockSwitched d = false ∧ s.mayPowerOff d = false) ∧
  (∃ (s : State) (d : Nat), s.pwr.queue = [] ∧ s.pwr.switching = none ∧ s.domainOn d = false ∧ blockSwitched d = false) ∧
  (∃ (s : State) (r : DomReq), s.pwr.queue.length < 16 ∧ s.pwr.switching = some r) ∧
  (∃ (s : State) (r : DomReq), s.pwr.switching = some r ∧ s.pwr.rstWaits = false ∧ s.pwr.queue = [] ∧ (45 ≤ r.domain ∧ r.domain ≤ 52 ∨ 58 ≤ r.domain ∧ r.domain ≤ 61)) ∧
  (∃ (s : State), s.rdb Fld.PWR_CTRL_ENABLE = true) ∧
  (∃ (s : State) (a : PmbAnswer) (w d : Nat), s.rdb Fld.PWR_CTRL_ENABLE = true ∧ s.pmbDevs = [d] ∧ a.dev = d ∧ a.status = some w ∧ statusFault w = false) ∧
  (∃ (s : State) (c : Nat), c ≤ 1 ∧ (s.chain c).faulted = false ∧ (s.chain c).due = none) ∧
  (∃ (s : State) (c cause status dev : Nat), c ≤ 1 ∧ (s.chain c).due = some (cause, status, dev)) ∧
  (∃ (s : State) (c : Nat), c ≤ 1 ∧ (s.chain c).due = none ∧ s.pmbDevs.any (fun d => s.rd Fld.PWR_PMB_DEV_CHAIN d == c && decide (3 ≤ s.pwr.misses.getD d 0)) = false) ∧
  (∃ (s : State), s.rdb Fld.PWR_CTRL_ENABLE = true ∧ s.vddTarget < s.rd Fld.PWR_VDD_SET_MV ∧ s.rd Fld.PWR_VDD_SET_MV < 2 ^ Fld.PWR_VDD_SET_MV.width) :=
  ⟨⟨255, by decide +kernel⟩,
   ⟨0, by decide +kernel⟩,
   ⟨RUN.sets [(Fld.PWR_DOM_STATE_ON,0,2^28)], by decide +kernel⟩,
   ⟨RUN.sets [(Fld.PWR_DOM_STATE_ON,0,2^45)], 45, by decide +kernel⟩,
   ⟨RUN.sets [(Fld.PWR_DOM_STATE_ON,0,2^28),(Fld.HRI_CTRL_ENABLE,0,1)], 28, by decide +kernel⟩,
   ⟨RUN, 45, by decide +kernel⟩,
   ⟨RUN.pwrUpd (fun p => { p with switching := some ⟨3, true, true⟩, queue := List.replicate 15 ⟨4, true, true⟩ }), ⟨3, true, true⟩, by decide +kernel⟩,
   ⟨RUN.pwrUpd (fun p => { p with switching := some ⟨45, true, true⟩ }), ⟨45, true, true⟩, by decide +kernel⟩,
   ⟨RUN.sets [(Fld.PWR_CTRL_ENABLE,0,1)], by decide +kernel⟩,
   ⟨(RUN.sets [(Fld.PWR_CTRL_ENABLE,0,1),(Fld.PWR_PMB_DEV_VALID,2,1)]).pwrUpd (fun p => { p with misses := [(2,1)] }), ⟨2, some 0, some 3⟩, 0, 2, by decide +kernel⟩,
   ⟨RUN, 1, by decide +kernel⟩,
   ⟨RUN.pwrUpd (fun p => { p with chainB := { p.chainB with due := some (1,0,255) } }), 1, 1, 0, 255, by decide +kernel⟩,
   ⟨RUN.pwrUpd (fun p => { p with chainB := { p.chainB with faulted := true, pwrgd := false } }), 1, by decide +kernel⟩,
   ⟨RUN.sets [(Fld.PWR_CTRL_ENABLE,0,1),(Fld.PWR_VDD_SET_MV,0,900)], by decide +kernel⟩⟩

namespace Sys2Proof.Tests.D
def CLR0 : State := (RUN.sets [(Fld.GBK_FLOOR_SEQ,0,1),(Fld.GBK_HEAD_SEQ_SEQ,0,5),(Fld.CIP_SLOT_STATE_STATE,7,1),(Fld.GBK_KEY_SLOT,0,7)])
def CLR1 : State := { CLR0 with cip := { CLR0.cip with slots := [(7, ⟨1, 8, 0xFFFF, 12345⟩)] } }
def tok : Nat := 3 + 1 * 2^64
def CLR : State := (CLR1.sets [(Fld.GBK_CLEAR_TOKEN,0, tok + 2^256 * natLE (cmac (aesKeys (CLR1.keyOf 7)) (bytesLE tok 32)))]).gbkUpd (fun g => { g with ring := [(2, ⟨2,0,0,0,false,false,0,0,0,false,0,0,0,0,0⟩),(4, ⟨4,0,0,0,false,false,0,0,0,false,0,0,0,0,0⟩)] })
end Sys2Proof.Tests.D
open Sys2Proof.Tests.D in
theorem witness_TapInstructionsLoadAndDrive :
  (∃ (s : State) (c : Instr) (op : Nat), (c, op) ∈ [(Instr.extest, irExtest), (.extestPulse, irExtestPulse), (.extestTrain, irExtestTrain), (.clamp, irClamp), (.highz, irHighz)] ∧ s.tapLocked = false ∧ s.mayScan = true) ∧
  (∃ (s : State), s.tapLocked = false ∧ s.mayScan = false) ∧
  (∃ (s : State), s.tapLocked = true) :=
  ⟨⟨RUN.aonUpd (fun a => { a with sysRst := true }), .clamp, irClamp, by simp, by decide +kernel, by decide +kernel⟩,
   ⟨RUN, by decide +kernel⟩,
   ⟨RUN.dbgUpd (fun d => { d with fuses := { d.fuses with lock := true } }), by decide +kernel⟩⟩

open Sys2Proof.Tests.D in
theorem witness_FusesLoopbackAndGuestbook :
  (∃ (s : State), s.rdb Fld.DBG_FUSE_RESULT_BUSY = false ∧ s.tapLocked = false ∧ s.dbg.fuses.lock = false) ∧
  (∃ (s : State) (f : Nat) (x : Fuses), s.rdb Fld.DBG_FUSE_RESULT_BUSY = false ∧ s.fuseNext f (s.rd Fld.DBG_FUSE_DATA) = .inl x) ∧
  (∃ (s : State) (f st : Nat), s.rdb Fld.DBG_FUSE_RESULT_BUSY = false ∧ s.fuseNext f (s.rd Fld.DBG_FUSE_DATA) = .inr st) ∧
  (∃ (s : State) (kind target : Nat), s.rdb Fld.DBG_LOOP_STAT_BUSY = false ∧ s.loopAllowed kind target = true) ∧
  (∃ (s : State) (kind target due : Nat), s.dbg.loop = some (kind, target, due) ∧ kind ≠ 4) ∧
  (∃ (s : State), s.gbk.staging.length < 4096) ∧
  (∃ (s : State), 4096 ≤ s.gbk.staging.length) ∧
  (∃ (s : State) (r : GbkRec) (rest : List GbkRec), s.gbk.staging = r :: rest ∧ s.rdb Fld.PJM_CTRL_ENABLE = true ∧ s.rdb Fld.GBK_CTRL_ENABLE = true ∧ s.gbk.scanned = true ∧ s.admittedPend Blk.GBK = false ∧ s.chanIn (r.seq % 8) = true) ∧
  (∃ (s : State), s.rdb Fld.PJM_CTRL_ENABLE = true ∧ s.rdb Fld.GBK_CTRL_ENABLE = true ∧ s.gbk.scanned = false ∧ s.gbk.ring = [] ∧ s.gbk.staging = []) ∧
  (∃ (s : State) (count : Nat), s.rdb Fld.GBK_COPY_RESULT_BUSY = false ∧ 1 ≤ count ∧ count ≤ 65536) ∧
  (∃ (s : State), s.rdb Fld.GBK_CLEAR_RESULT_BUSY = false ∧ s.tokenRefuses (s.rd Fld.GBK_CLEAR_TOKEN) = none) ∧
  (∃ (s : State) (st : Nat), s.rdb Fld.GBK_CLEAR_RESULT_BUSY = false ∧ s.tokenRefuses (s.rd Fld.GBK_CLEAR_TOKEN) = some st) ∧
  (∃ (s : State) (d : Nat), s.car.dayEnd = some d ∧ s.rdb Fld.CAR_UTC_LEAP61 = true ∧ s.rd Fld.CAR_UTC_UTC_OFFSET < 32767) :=
  ⟨⟨RUN, by decide +kernel⟩,
   ⟨RUN.sets [(Fld.DBG_FUSE_DATA,0,77),(Fld.PWR_STATUS_FIRST_BOOT,0,1)], 0, { RUN.dbg.fuses with root := some 77 }, by decide +kernel⟩,
   ⟨RUN.dbgUpd (fun d => { d with fuses := { d.fuses with lock := true } }), 19, STS_BAD_DESCRIPTOR, by decide +kernel⟩,
   ⟨RUN.sets [(Fld.DBG_CTRL_ENABLE,0,1)], 1, 0, by decide +kernel⟩,
   ⟨(RUN.sets [(Fld.DBG_CTRL_ENABLE,0,1)]).dbgUpd (fun d => { d with loop := some (1,0,1000) }), 1, 0, 1000, by decide +kernel⟩,
   ⟨RUN, by decide +kernel⟩,
   ⟨RUN.gbkUpd (fun g => { g with staging := List.replicate 4096 ⟨1,0,0,0,false,false,0,0,0,false,0,0,0,0,0⟩ }), by decide +kernel⟩,
   ⟨(RUN.sets [(Fld.PJM_CTRL_ENABLE,0,1),(Fld.GBK_CTRL_ENABLE,0,1),(Fld.PJM_CH_STATUS_STATE,1,2)]).gbkUpd (fun g => { g with scanned := true, staging := [⟨1,0,0,0,false,false,0,0,0,false,0,0,0,0,0⟩] }), ⟨1,0,0,0,false,false,0,0,0,false,0,0,0,0,0⟩, [], by decide +kernel⟩,
   ⟨RUN.sets [(Fld.PJM_CTRL_ENABLE,0,1),(Fld.GBK_CTRL_ENABLE,0,1)], by decide +kernel⟩,
   ⟨RUN.sets [(Fld.GBK_COPY_FIRST_SEQ,0,1)], 3, by decide +kernel⟩,
   ⟨CLR, by decide +kernel⟩,
   ⟨RUN, ((RUN).tokenRefuses ((RUN).rd Fld.GBK_CLEAR_TOKEN)).getD 0, by decide +kernel⟩,
   ⟨(RUN.sets [(Fld.CAR_UTC_LEAP61,0,1),(Fld.CAR_UTC_UTC_OFFSET,0,37)]).carUpd (fun c => { c with dayEnd := some 86400 }), 86400, by decide +kernel⟩⟩

theorem witness_ClusterTimeAndCarillonSlots :
  (∃ (s : State) (port : Nat), s.rdb Fld.CAR_CTRL_ENABLE = true ∧ s.rd Fld.CAR_STATUS_PORT_ACTIVE = port ∧ s.rd Fld.CAR_CTRL_SOURCE = 0 ∧ s.admittedPend Blk.CAR = false ∧ s.adm.boundNext = none) ∧
  (∃ (s : State) (port : Nat), s.rd Fld.CAR_STATUS_PORT_ACTIVE = port ∧ s.rdb Fld.CAR_CTRL_UTC_FROM_PTP = true) ∧
  (∃ (s : State) (falling : Bool), s.rdb Fld.CAR_PPS_IN_EN = true ∧ s.rdb Fld.CAR_PPS_IN_EDGE = falling ∧ s.rdb Fld.CAR_CTRL_ENABLE = true ∧ s.rd Fld.CAR_CTRL_SOURCE = 2 ∧ s.car.secondsKnown = true) ∧
  (∃ (s : State), s.rd Fld.CAR_STATUS_STATE = carLocked) ∧
  (∃ (s : State), s.rdb Fld.CAR_CTRL_ENABLE = true ∧ s.rdb Fld.CAR_CTRL_BACKUP_EN = true ∧ s.rdb Fld.CAR_STATUS_ON_BACKUP = false ∧ s.car.lastMeas.isSome = true ∧ s.rd Fld.CAR_CTRL_BACKUP_PORT < 2 ^ Fld.CAR_STATUS_PORT_ACTIVE.width) ∧
  (∃ (s : State), s.rdb Fld.CAR_CTRL_ENABLE = true ∧ s.admittedPend Blk.CAR = false) ∧
  (∃ (s : State), s.rdb Fld.CAR_CTRL_ENABLE = true ∧ s.rd Fld.CAR_CTRL_SOURCE ≠ 2) ∧
  (∃ (s : State), s.timeValid = true ∧ s.rdb Fld.CAR_STATUS_EPS_OVER = false ∧ s.rd Fld.CAR_EPS_BOUND_BOUND < 0xFFFFFFFF) ∧
  (∃ (s : State) (t₀ : Nat), s.car.epsLowSince = some t₀ ∧ s.rdb Fld.CAR_STATUS_EPS_OVER = true ∧ (s.advance (t₀ + 1000000 * unitsPerUs)).epsLow = true) ∧
  (∃ (s : State), s.timeValid = true ∧ s.rdb Fld.CAR_PPS_OUT_EN = true) ∧
  (∃ (s : State) (i : Nat) (fw : Bool), (firmwareSlot i && !fw) = false ∧ s.rd Fld.CAR_SLOT_STATE i = slotIdle) ∧
  (∃ (s : State) (i : Nat) (fw : Bool), (firmwareSlot i && !fw) = false ∧ s.rd Fld.CAR_SLOT_STATE i ≠ slotIdle) ∧
  (∃ (s : State) (i : Nat) (fw : Bool), i < Fld.CAR_SLOT_STATE.count ∧ (firmwareSlot i && !fw) = false ∧ s.rd Fld.CAR_SLOT_STATE i = slotIdle ∧ s.slotBad i = false ∧ s.slotEpsRefused i = false) ∧
  (∃ (i : Nat) (fw : Bool), i < Fld.CAR_SLOT_STATE.count ∧ (firmwareSlot i && !fw) = false) ∧
  (∃ (s : State) (i : Nat), i < Fld.CAR_SLOT_STATE.count ∧ s.rd Fld.CAR_SLOT_STATE i = slotArmed ∧ s.timeValid = true ∧ s.slotNextDue i = true ∧ s.rd Fld.CAR_SLOT_ACTION i = 3 ∧ s.enabled (s.rd Fld.CAR_SLOT_BLOCK i) = true ∧ s.rd Fld.CAR_SLOT_PERIOD_NS i = 0 ∧ s.rdb Fld.CAR_SLOT_LOG_LATE i = false) :=
  ⟨⟨RUN.sets [(Fld.CAR_CTRL_ENABLE,0,1),(Fld.CAR_CTRL_SOURCE,0,0),(Fld.CAR_STATUS_STATE,0,3)], 0, by decide +kernel⟩,
   ⟨RUN.sets [(Fld.CAR_CTRL_UTC_FROM_PTP,0,1)], 0, by decide +kernel⟩,
   ⟨(RUN.sets [(Fld.CAR_CTRL_ENABLE,0,1),(Fld.CAR_PPS_IN_EN,0,1),(Fld.CAR_CTRL_SOURCE,0,2)]).carUpd (fun c => { c with secondsKnown := true }), false, by decide +kernel⟩,
   ⟨(RUN.sets [(Fld.CAR_CTRL_ENABLE,0,1),(Fld.CAR_STATUS_STATE,0,2)]).carUpd (fun c => { c with lastMeas := some 0 }), by decide +kernel⟩,
   ⟨(RUN.sets [(Fld.CAR_CTRL_ENABLE,0,1),(Fld.CAR_CTRL_BACKUP_EN,0,1),(Fld.CAR_CTRL_BACKUP_PORT,0,5)]).carUpd (fun c => { c with lastMeas := some 0 }), by decide +kernel⟩,
   ⟨RUN.sets [(Fld.CAR_CTRL_ENABLE,0,1)], by decide +kernel⟩,
   ⟨RUN.sets [(Fld.CAR_CTRL_ENABLE,0,1),(Fld.CAR_CTRL_SOURCE,0,0)], by decide +kernel⟩,
   ⟨RUN.sets [(Fld.CAR_STATUS_STATE,0,2),(Fld.CAR_EPS_BOUND_BOUND,0,100)], by decide +kernel⟩,
   ⟨(RUN.sets [(Fld.CAR_STATUS_EPS_OVER,0,1),(Fld.CAR_STATUS_STATE,0,2),(Fld.CAR_EPS_BOUND_BOUND,0,1000000)]).carUpd (fun c => { c with epsLowSince := some 0 }), 0, by decide +kernel⟩,
   ⟨RUN.sets [(Fld.CAR_PPS_OUT_EN,0,1),(Fld.CAR_STATUS_STATE,0,2)], by decide +kernel⟩,
   ⟨RUN, 2, true, by decide +kernel⟩,
   ⟨RUN.sets [(Fld.CAR_SLOT_STATE,2,1)], 2, true, by decide +kernel⟩,
   ⟨RUN.sets [(Fld.CAR_SLOT_ACTION,2,3)], 2, true, by decide +kernel⟩,
   ⟨2, true, by decide +kernel⟩,
   ⟨RUN.sets [(Fld.CAR_SLOT_STATE,2,1),(Fld.CAR_STATUS_STATE,0,2),(Fld.CAR_SLOT_ACTION,2,3),(Fld.CAR_SLOT_BLOCK,2,15),(Fld.STR_CTRL_ENABLE,0,1),(Fld.CAR_SLOT_INSTANT_NS,2,500)], 2, by decide +kernel⟩⟩

theorem witness_FenceAndClaimsGateTheDrivers :
  (∃ (ns : Nat), ns < 500) ∧
  (∃ (g ns : Nat), g < 16 ∧ 150 ≤ ns) ∧
  (∃ (g ns : Nat), g < 16 ∧ 150 ≤ ns) ∧
  (∃ (s : State) (g t₀ e : Nat), s.aon.settle.look g = some t₀ ∧ s.aon.leaseEnd = some e ∧ t₀ + settleTime < e ∧ s.aon.fenceIn = false ∧ s.aon.claimOut.mem g = true ∧ s.aon.claimIn.mem g = false) :=
  ⟨⟨499, by decide +kernel⟩,
   ⟨2, 150, by decide +kernel⟩,
   ⟨2, 150, by decide +kernel⟩,
   ⟨LH.aonUpd (fun a => { a with claimMask := [2], claimOut := [2], settle := [(2,0)] }), 2, 0, 10^18, by decide +kernel⟩⟩

theorem witness_LeaseFollowsTable171 :
  (∃ (s : State), s.rdb Fld.OWN_CTRL_ENABLE = false ∧ (s.tryEnable Fld.OWN_CTRL_ENABLE).2 = true) ∧
  (∃ (s u : State), s.leaseIsHeld = true ∧ s.rdb Fld.OWN_CTRL_ENABLE = true ∧ u = s.advanceCt (Frac.int (s.own.nextRenew : Nat)) ∧ u.leaseIsHeld = true ∧ u.admittedPend Blk.OWN = false) ∧
  (∃ (s : State) (m : IkMsg) (i j lg ag : Nat) (r : OwnReq), s.ikIndex m.sender = some i ∧ m.tagOk = true ∧ m.array = s.arrayId ∧ s.freshMsg (s.own.fromIk.getD i 0) s.leaseNs m.tSend = true ∧ s.own.reqs.look m.reqT = some r ∧ r.msg.op = .acquire ∧ s.ctNs < r.msg.tSend + r.life ∧ m.op = .grant ∧ r.done = false ∧ r.grants = [(j, lg, ag)] ∧ j ≠ i ∧ s.rd Fld.OWN_STATUS_LEASE = leaseAcquiring) ∧
  (∃ (s : State) (tSend : Nat) (r : OwnReq), s.own.reqs.look tSend = some r ∧ r.msg.op = .renew ∧ r.done = false) ∧
  (∃ (s : State) (e : Nat), s.aon.leaseEnd = some e) ∧
  (∃ (s : State), s.rdb Fld.OWN_CTRL_TAKE_EN = true ∧ s.leaseIsHeld = true ∧ s.own.takeSent = none ∧ s.own.takeAgain = none ∧ s.rdb Fld.ISL_STATUS_SUSPECT = true ∧ s.linkUp = false ∧ s.own.groups.look 0 ≠ some s.aon.side) :=
  ⟨⟨RUN.sets [(Fld.OWN_IK_ID,0,0x8010),(Fld.OWN_IK_ID,1,0x8020),(Fld.OWN_IK_ID,2,0x8030)], by decide +kernel⟩,
   ⟨LH, (LH).advanceCt (Frac.int ((LH).own.nextRenew : Nat)), by decide +kernel⟩,
   ⟨(RUN.sets [(Fld.OWN_IK_ID,0,11),(Fld.OWN_IK_ID,1,12),(Fld.OWN_IK_ID,2,13),(Fld.OWN_STATUS_LEASE,0,1)]).ownUpd (fun o => { o with lastSend := 1, reqs := [(1, { msg := { ikm .acquire 1 with leaseUs := 400000 }, grants := [(0,3,7)], refused := [], records := [], done := false })] }), { ikm .grant 0 with sender := 12, tSend := 1, reqT := 1 }, 1, 0, 3, 7, { msg := { ikm .acquire 1 with leaseUs := 400000 }, grants := [(0,3,7)], refused := [], records := [], done := false }, by decide +kernel⟩,
   ⟨LH.ownUpd (fun o => { o with lastSend := 1, reqs := [(1, { msg := ikm .renew 1, grants := [], refused := [], records := [], done := false })] }), 1, { msg := ikm .renew 1, grants := [], refused := [], records := [], done := false }, by decide +kernel⟩,
   ⟨(leaseRun LH 1000).aonUpd (fun a => { a with claimMask := [2], claimOut := [2], drivers := [2], settle := [(2,0)] }), 1000, by decide +kernel⟩,
   ⟨LH.sets [(Fld.OWN_CTRL_TAKE_EN,0,1),(Fld.ISL_STATUS_SUSPECT,0,1)], by decide +kernel⟩⟩

theorem witness_InnkeeperJudgesRequests :
  (∃ (s : State) (m : IkMsg) (x : IkLease), s.IkTakes m ∧ m.op = .renew ∧ (s.ikRecord m.array).lease m.side = some x ∧ s.ctNs ≤ x.exp ∧ x.lgen = m.lgen ∧ (s.ikRecord m.array).agen = m.agen ∧ (s.ikRecord m.array).heldTake = none) ∧
  (∃ (s : State) (m : IkMsg), s.IkTakes m ∧ m.op = .acquire ∧ (s.ikRecord m.array).lease m.side = none) ∧
  (∃ (s : State) (m : IkMsg) (x : IkLease), s.IkTakes m ∧ m.op = .acquire ∧ (s.ikRecord m.array).lease m.side = some x ∧ s.ctNs ≤ x.exp) ∧
  (∃ (s : State) (m : IkMsg) (x : IkLease), s.IkTakes m ∧ m.op = .take ∧ (s.ikRecord m.array).lease m.side = some x ∧ s.ctNs ≤ x.exp ∧ (s.ikRecord m.array).agen = m.agen ∧ s.ikRuns ((s.ikRecord m.array).lease m.side.other) = false) ∧
  (∃ (s : State) (m : IkMsg) (x y : IkLease), s.IkTakes m ∧ m.op = .take ∧ (s.ikRecord m.array).lease m.side = some x ∧ s.ctNs ≤ x.exp ∧ (s.ikRecord m.array).agen = m.agen ∧ (s.ikRecord m.array).lease m.side.other = some y ∧ s.ctNs ≤ y.exp) ∧
  (∃ (s : State) (m : IkMsg) (x : IkLease), s.IkTakes m ∧ m.op = .handover ∧ (s.ikRecord m.array).lease m.side = some x ∧ s.ctNs ≤ x.exp ∧ (s.ikRecord m.array).agen = m.agen ∧ (s.ikRecord m.array).holders = []) ∧
  (∃ (s : State) (m : IkMsg), s.IkTakes m ∧ m.op = .query) ∧
  (∃ (s : State) (m : IkMsg) (array : Nat), (s.ikRecord array).heldTake = some m ∧ m.array = array ∧ (s.ikRecord array).agen = m.agen) ∧
  (∃ (s : State) (t₀ : Nat), s.own.ikRecovering = some t₀) :=
  ⟨⟨IK.rec0 (some ⟨100,3⟩) none none, ikm .renew 1, ⟨100,3⟩, by decide +kernel⟩,
   ⟨IK.rec0 none none none, ikm .acquire 1, by decide +kernel⟩,
   ⟨IK.rec0 (some ⟨100,3⟩) none none, ikm .acquire 1, ⟨100,3⟩, by decide +kernel⟩,
   ⟨IK.rec0 (some ⟨100,3⟩) none none, ikm .take 1, ⟨100,3⟩, by decide +kernel⟩,
   ⟨IK.rec0 (some ⟨100,3⟩) (some ⟨0,5⟩) none, ikm .take 1, ⟨100,3⟩, ⟨0,5⟩, by decide +kernel⟩,
   ⟨IK.rec0 (some ⟨100,3⟩) (some ⟨0,5⟩) none, ikm .handover 1, ⟨100,3⟩, by decide +kernel⟩,
   ⟨IK.rec0 (some ⟨100,3⟩) (some ⟨0,5⟩) none, ikm .query 1, by decide +kernel⟩,
   ⟨IK.rec0 (some ⟨100,3⟩) (some ⟨0,5⟩) (some (ikm .take 1)), ikm .take 1, 0, by decide +kernel⟩,
   ⟨IK.ownUpd (fun o => { o with ikRecovering := some 50 }), 50, by decide +kernel⟩⟩

theorem witness_ObjectsAreClaimedAndHandedOver :
  (∃ (s : State) (g : Nat), s.leaseIsHeld = true ∧ s.ownGroups.contains g = true ∧ s.own.releasing.mem g = false ∧ s.aon.fenceIn = false ∧ s.rdb Fld.PWR_STATUS_FIRST_BOOT = false ∧ s.aon.timerRuns = true ∧ s.aon.claimIn.mem g = false ∧ s.aon.drivers.mem g = false) ∧
  (∃ (s : State) (g : Nat), s.aon.claimMask.mem g = true ∧ s.groupBusy g = false ∧ s.own.handing.head? ≠ some (2000 + g)) ∧
  (∃ (s : State) (o : Nat), s.leaseIsHeld = true ∧ s.own.sets.look o = some s.aon.side ∧ s.own.handing.head? = some o ∧ s.own.reqs = []) ∧
  (∃ (s : State), s.linkUp = true ∧ s.leaseIsHeld = true) ∧
  (∃ (s : State) (h : Nat), h < 2 ∧ s.linkUp = true ∧ s.leaseIsHeld = true) ∧
  (∃ (s : State) (t₀ : Nat), s.own.returnFrom = some t₀ ∧ s.rdb Fld.OWN_CTRL_RETURN_EN = true ∧ s.rdb Fld.PJM_STATUS_MIRROR_HELD = true ∧ s.leaseIsHeld = true) ∧
  (∃ (s : State), s.linkUp = true) :=
  ⟨⟨LH.ownUpd (fun o => { o with groups := [(2,.a)] }), 2, by decide +kernel⟩,
   ⟨LH.aonUpd (fun a => { a with claimMask := [2], claimOut := [2], drivers := [2], settle := [(2,0)] }), 2, by decide +kernel⟩,
   ⟨LH.ownUpd (fun o => { o with sets := [(1,.a)], handing := [1] }), 1, by decide +kernel⟩,
   ⟨LH.sets [(Fld.ISL_STATUS_STATE,0,4)], by decide +kernel⟩,
   ⟨LH.sets [(Fld.ISL_STATUS_STATE,0,4)], 1, by decide +kernel⟩,
   ⟨(LH.sets [(Fld.OWN_CTRL_RETURN_EN,0,1),(Fld.PJM_STATUS_MIRROR_HELD,0,1),(Fld.ISL_STATUS_STATE,0,4)]).ownUpd (fun o => { o with returnFrom := some 0 }), 0, by decide +kernel⟩,
   ⟨(LH.sets [(Fld.ISL_STATUS_STATE,0,4),(Fld.OWN_HOME_SIDE,0,1)]).ownUpd (fun o => { o with sets := [(1,.a)] }), by decide +kernel⟩⟩

theorem witness_OwnershipCommandsRun :
  (∃ (s : State) (h : Side) (ph pd : Bool), s.rdb Fld.OWN_DRILL_EN = true ∧ s.own.groups.look (s.ctNs / 86400000000000 % 16) = some h ∧ s.drillSkips h ph pd = false) ∧
  (∃ (s : State) (h : Side) (ph pd : Bool), s.rdb Fld.OWN_DRILL_EN = true ∧ s.own.groups.look (s.ctNs / 86400000000000 % 16) = some h ∧ s.drillSkips h ph pd = true) ∧
  (∃ (s : State), s.rdb Fld.OWN_CMD_RESULT_BUSY = false ∧ s.leaseIsHeld = true ∧ s.allHeld ≠ []) ∧
  (∃ (s : State), s.rdb Fld.OWN_CMD_RESULT_BUSY = false) ∧
  (∃ (s : State) (o : Nat), s.rdb Fld.OWN_CMD_RESULT_BUSY = false ∧ s.leaseIsHeld = true ∧ o ∈ s.ownSets) ∧
  (∃ (s : State) (g : Nat), s.rdb Fld.OWN_CMD_RESULT_BUSY = false ∧ s.leaseIsHeld = true ∧ g ∈ s.ownGroups) ∧
  (∃ (s : State) (h : Side) (g : Nat) (ph pd : Bool), g < 16 ∧ s.rdb Fld.OWN_CMD_RESULT_BUSY = false ∧ s.own.groups.look g = some h ∧ s.drillSkips h ph pd = false) :=
  ⟨⟨(LH.sets [(Fld.OWN_DRILL_EN,0,1),(Fld.ISL_STATUS_STATE,0,4)]).ownUpd (fun o => { o with groups := [(0,.a)] }), .a, true, false, by decide +kernel⟩,
   ⟨(LH.sets [(Fld.OWN_DRILL_EN,0,1),(Fld.ISL_STATUS_STATE,0,4)]).ownUpd (fun o => { o with groups := [(0,.a)] }), .a, false, false, by decide +kernel⟩,
   ⟨LH.ownUpd (fun o => { o with sets := [(1,.a)], groups := [(3,.a)] }), by decide +kernel⟩,
   ⟨LH, by decide +kernel⟩,
   ⟨LH.ownUpd (fun o => { o with sets := [(1,.a)], groups := [(3,.a)] }), 1, by decide +kernel⟩,
   ⟨LH.ownUpd (fun o => { o with sets := [(1,.a)], groups := [(3,.a)] }), 3, by decide +kernel⟩,
   ⟨(LH.sets [(Fld.ISL_STATUS_STATE,0,4)]).ownUpd (fun o => { o with groups := [(3,.a)] }), .a, 3, true, false, by decide +kernel⟩⟩

namespace Sys2Proof.Tests.G
def ns1 : NsRec := { nsid := 1, tenant := 5, kv := false, dedup := false, compress := false, enc := false, cut := false, delete := false, keySlot := 0, oset := 1, pgCount := 1, pgFirst := 7, cwMaxNs := 1000000, size := 1000000, resReadKiops := 0, resWriteMbps := 0 }
def img1 : Image := { magic := 0x5A0C1A3E, ver := 1, headId := 0x10, imgGen := 1, len := 0, nrec := 1, fwGen := 0, full := true, crcOk := true, records := [.ns ns1] }
def S26 : State := ({ RUN with shadow := [(Fld.FWU_CFG_CONFIRM_S.key 0 0, 700)] })
def BOOT : State := match execPowerOnReset true true .a false true true PO with | .next t => t | _ => PO
end Sys2Proof.Tests.G
open Sys2Proof.Tests.G in
theorem witness_CommitsAndAdmissionGuardTheConfiguration :
  (∃ (s : State) (b g : Nat) (c f : Field), commitField b = some c ∧ activeGenField b = some f ∧ s.rdb Fld.ADM_STATUS_APPLYING = false ∧ s.adm.pend.has b = false ∧ s.admittedPend Blk.ADM = false ∧ g = (s.rd f + 1) % 2 ^ 32) ∧
  (∃ (s : State) (b g : Nat) (c f : Field), commitField b = some c ∧ activeGenField b = some f ∧ s.rdb Fld.ADM_STATUS_APPLYING = false ∧ s.adm.pend.has b = false ∧ g ≠ (s.rd f + 1) % 2 ^ 32) ∧
  (∃ (s : State) (b : Nat) (p : Pend) (v : Violation), s.adm.pend.look b = some p ∧ p.admitted = false ∧ refusal b s s.proposed = some v) ∧
  (∃ (s : State) (b : Nat) (p : Pend), s.adm.pend.look b = some p ∧ p.admitted = false ∧ refusal b s s.proposed = none ∧ s.enabled b = true ∧ b ≠ Blk.ADM) ∧
  (∃ (s : State) (b : Nat) (f : Field), s.admittedPend b = true ∧ activeGenField b = some f ∧ b ∉ [Blk.NET, Blk.SNP, Blk.FWU, Blk.ADM] ∧ s.latched.wf ∧ (blockEntries s.latched b).look (f.key 0 0) = none) ∧
  (∃ (s : State) (b : Nat) (f : Field), enableField b = some f ∧ b ∉ [Blk.ISL, Blk.OWN, Blk.MAP, Blk.FLC, Blk.PJM] ∧ s.rdb Fld.PWR_STATUS_FIRST_BOOT = false ∧ s.rdb f = false ∧ refusal b s (s.wr f 1) = none) ∧
  (∃ (s : State) (b : Nat) (f : Field) (v : Violation), enableField b = some f ∧ b ∉ [Blk.ISL, Blk.OWN, Blk.MAP, Blk.FLC, Blk.PJM] ∧ s.rdb Fld.PWR_STATUS_FIRST_BOOT = false ∧ s.rd f = 0 ∧ refusal b s (s.wr f 1) = some v) ∧
  (∃ (s : State) (img : Image), s.admittedPend Blk.ADM = false ∧ s.imgCheck img = none) ∧
  (∃ (s : State) (img : Image), s.admittedPend Blk.ADM = false ∧ s.imgCheck img = none) ∧
  (∃ (s : State) (img : Image) (x : Violation × Nat), s.admittedPend Blk.ADM = false ∧ s.imgCheck img = some x) ∧
  (∃ (s : State) (n : Nat), n < 64 ∧ s.rdb Fld.LPE_LOOP_CTRL_ENABLE n = false ∧ refusal Blk.LPE s (s.wr Fld.LPE_LOOP_CTRL_ENABLE 1 n) = none) :=
  ⟨⟨S26, Blk.FWU, 1, Fld.FWU_COMMIT_GEN, (activeGenField 25).getD Fld.FWU_COMMIT_GEN, by decide +kernel⟩,
   ⟨S26, Blk.FWU, 0, Fld.FWU_COMMIT_GEN, (activeGenField 25).getD Fld.FWU_COMMIT_GEN, by decide +kernel⟩,
   ⟨{ RUN.admUpd (fun a => { a with pend := [(Blk.OWN, ⟨1, false⟩)] }) with latched := [(Fld.OWN_IK_ID.key 0 0, 0)] }, Blk.OWN, ⟨1, false⟩, (refusal (Blk.OWN) ({ RUN.admUpd (fun a => { a with pend := [(Blk.OWN, ⟨1, false⟩)] }) with latched := [(Fld.OWN_IK_ID.key 0 0, 0)] }) ({ RUN.admUpd (fun a => { a with pend := [(Blk.OWN, ⟨1, false⟩)] }) with latched := [(Fld.OWN_IK_ID.key 0 0, 0)] }).proposed).getD (violOpen 0), by decide +kernel⟩,
   ⟨{ (RUN.sets [(Fld.MTE_CTRL_ENABLE,0,1)]).admUpd (fun a => { a with pend := [(Blk.MTE, ⟨1, false⟩)] }) with latched := [] }, Blk.MTE, ⟨1, false⟩, by decide +kernel⟩,
   ⟨{ RUN.admUpd (fun a => { a with pend := [(Blk.GCX, ⟨1, true⟩)] }) with latched := [(Fld.GCX_PACE_MAX_GBPS.key 0 0, 9)] }, Blk.GCX, (activeGenField 16).getD Fld.FWU_COMMIT_GEN, by decide +kernel⟩,
   ⟨RUN, Blk.MTE, Fld.MTE_CTRL_ENABLE, by decide +kernel⟩,
   ⟨RUN.sets [(Fld.NET_PORT_CFG_ENABLE,0,1),(Fld.NET_CTRL_ENABLE,0,1)], Blk.RDM, Fld.RDM_CTRL_ENABLE, (refusal (Blk.RDM) (RUN.sets [(Fld.NET_PORT_CFG_ENABLE,0,1),(Fld.NET_CTRL_ENABLE,0,1)]) ((RUN.sets [(Fld.NET_PORT_CFG_ENABLE,0,1),(Fld.NET_CTRL_ENABLE,0,1)]).wr (Fld.RDM_CTRL_ENABLE) 1)).getD (violOpen 0), by decide +kernel⟩,
   ⟨RUN, { img1 with records := [], nrec := 0, full := false }, by decide +kernel⟩,
   ⟨RUN, { img1 with records := [], nrec := 0, full := false }, by decide +kernel⟩,
   ⟨RUN, { img1 with magic := 0 }, ((RUN).imgCheck ({ img1 with magic := 0 })).getD (violOpen 0, 0), by decide +kernel, by rfl⟩,
   ⟨RUN, 5, by decide +kernel⟩⟩

open Sys2Proof.Tests.G in
theorem witness_Bar0AndErrorInterruptAct :
  (∃ (s : State), s.aon.mainReset = false) ∧
  (∃ (s : State), s.aon.mainReset = false ∧ s.rd Fld.GLB_ERR_BAD_OFFSET = 1) ∧
  (∃ (s : State), s.aon.mainReset = false) ∧
  (∃ (s : State), s.aon.mainReset = false) ∧
  (∃ (s : State), s.aon.mainReset = false ∧ s.rdb Fld.POL_CTRL_ENABLE = true) ∧
  (∃ (s : State), s.aon.mainReset = false) ∧
  (∃ (s : State) (off : Nat), s.aon.mainReset = false ∧ regOfOff off 4 = none ∧ off % 4 = 0) ∧
  (∃ (s : State), s.aon.mainReset = false ∧ s.tapLocked = false) ∧
  (∃ (s : State), s.maskedErr ≠ 0 ∧ s.rdb Fld.GLB_INT_CFG_EN = true ∧ s.intHoldEnd ≤ s.now) ∧
  (∃ (s : State), s.glb.armed = true ∧ s.maskedErr ≠ 0 ∧ s.rdb Fld.GLB_INT_CFG_EN = true ∧ s.intHoldEnd ≤ s.now) ∧
  (∃ (s : State), s.glb.armed = true ∧ s.maskedErr ≠ 0 ∧ s.rdb Fld.GLB_INT_CFG_EN = true ∧ s.now < s.intHoldEnd) ∧
  (∃ (s u : State), s.glb.held = true ∧ u = s.advance s.intHoldEnd ∧ u.maskedErr ≠ 0 ∧ u.rdb Fld.GLB_INT_CFG_EN = true) :=
  ⟨⟨RUN, by decide +kernel⟩,
   ⟨RUN.sets [(Fld.GLB_ERR_BAD_OFFSET,0,1)], by decide +kernel⟩,
   ⟨RUN, by decide +kernel⟩,
   ⟨RUN, by decide +kernel⟩,
   ⟨RUN.sets [(Fld.POL_CTRL_ENABLE,0,1)], by decide +kernel⟩,
   ⟨RUN.sets [(Fld.POL_DF_COUNT_COUNT,0,9)], by decide +kernel⟩,
   ⟨RUN, 0x1FFFF00, by decide +kernel⟩,
   ⟨RUN, by decide +kernel⟩,
   ⟨RUN.sets [(Fld.GLB_ERR_BAD_OFFSET,0,1),(Fld.GLB_INT_MASK_EN,0,1),(Fld.GLB_INT_CFG_EN,0,1),(Fld.GLB_INT_CFG_VECTOR,0,4)], by decide +kernel⟩,
   ⟨RUN.sets [(Fld.GLB_ERR_BAD_OFFSET,0,1),(Fld.GLB_INT_MASK_EN,0,1),(Fld.GLB_INT_CFG_EN,0,1),(Fld.GLB_INT_CFG_VECTOR,0,4)], by decide +kernel⟩,
   ⟨{ (RUN.sets [(Fld.GLB_ERR_BAD_OFFSET,0,1),(Fld.GLB_INT_MASK_EN,0,1),(Fld.GLB_INT_CFG_EN,0,1),(Fld.GLB_INT_CFG_HOLDOFF_US,0,5)]) with glb := { armed := true, lastMsg := some 0, held := false } }, by decide +kernel⟩,
   ⟨{ (RUN.sets [(Fld.GLB_ERR_BAD_OFFSET,0,1),(Fld.GLB_INT_MASK_EN,0,1),(Fld.GLB_INT_CFG_EN,0,1),(Fld.GLB_INT_CFG_HOLDOFF_US,0,5)]) with glb := { armed := true, lastMsg := some 0, held := true } }, ({ (RUN.sets [(Fld.GLB_ERR_BAD_OFFSET,0,1),(Fld.GLB_INT_MASK_EN,0,1),(Fld.GLB_INT_CFG_EN,0,1),(Fld.GLB_INT_CFG_HOLDOFF_US,0,5)]) with glb := { armed := true, lastMsg := some 0, held := true } }).advance ({ (RUN.sets [(Fld.GLB_ERR_BAD_OFFSET,0,1),(Fld.GLB_INT_MASK_EN,0,1),(Fld.GLB_INT_CFG_EN,0,1),(Fld.GLB_INT_CFG_HOLDOFF_US,0,5)]) with glb := { armed := true, lastMsg := some 0, held := true } }).intHoldEnd, by decide +kernel⟩⟩

namespace Sys2Proof.Tests.H
def KEKS : State := { RUN with cip := { RUN.cip with keks := [(0, ⟨7, 0, 0xFFFF, 55⟩)] } }
end Sys2Proof.Tests.H
open Sys2Proof.Tests.H in
theorem witness_RingBlockAndKeyCommandsRun :
  (∃ (s : State) (r q : Nat) (e : SubEntry), s.subFor r q 0x00 = some e ∧ fieldsOk e false false false false false false 0 = true) ∧
  (∃ (s : State) (r q : Nat) (e : SubEntry), s.subFor r q 0x03 = some e ∧ fieldsOk e false false false false false false 0 = true ∧ e.nsid = 0) ∧
  (∃ (s : State) (r q : Nat) (e : SubEntry) (n : Ns), s.subFor r q 0x01 = some e ∧ fieldsOk e true false true true false true 0 = true ∧ s.ringNs r e.nsid false = .inr n ∧ rangeStatus n e.offset (e.len + 1) 1024 = none) ∧
  (∃ (s : State) (r q : Nat) (e : SubEntry) (n : Ns), s.subFor r q 0x04 = some e ∧ fieldsOk e false false true true false false 0 = true ∧ s.ringNs r e.nsid false = .inr n ∧ rangeStatus n e.offset (e.len + 1) (2 ^ 32) = none) ∧
  (∃ (s : State) (r q : Nat) (e : SubEntry) (n : Ns), s.subFor r q 0x02 = some e ∧ fieldsOk e true false true true false false 0 = true ∧ s.ringNs r e.nsid false = .inr n ∧ rangeStatus n e.offset (e.len + 1) 1024 = none ∧ s.ServesRead (.ring r q) e.nsid (.blocks e.offset (e.len + 1))) ∧
  (∃ (s : State) (r q l : Nat) (e : SubEntry) (n : Ns), s.subFor r q 0x10 = some e ∧ e.len ≤ 33554432 ∧ fieldsOk e true true false true false true (subKvSpec e 3) = true ∧ ¬ (bitAt e.spec 8 = true ∧ bitAt e.spec 9 = true) ∧ 1 ≤ subKeyLen e ∧ (subKeyLen e ≤ 16 → e.addr1 = 0 ∧ e.sgl1 = false) ∧ s.ringNs r e.nsid true = .inr n ∧ s.KeyHere e.nsid (subKey e l) (subKeyLen e)) ∧
  (∃ (s : State) (r q l : Nat) (e : SubEntry) (n : Ns), s.subFor r q 0x12 = some e ∧ fieldsOk e false true false false false false (subKvSpec e 2) = true ∧ 1 ≤ subKeyLen e ∧ (subKeyLen e ≤ 16 → e.addr1 = 0 ∧ e.sgl1 = false) ∧ s.ringNs r e.nsid true = .inr n ∧ s.KeyHere e.nsid (subKey e l) (subKeyLen e)) ∧
  (∃ (s : State) (r q l : Nat) (e : SubEntry) (n : Ns), s.subFor r q 0x11 = some e ∧ fieldsOk e true true false true false false (subKvSpec e 0) = true ∧ 1 ≤ subKeyLen e ∧ (subKeyLen e ≤ 16 → e.addr1 = 0 ∧ e.sgl1 = false) ∧ s.ringNs r e.nsid true = .inr n ∧ s.KeyHere e.nsid (subKey e l) (subKeyLen e) ∧ s.ServesRead (.ring r q) e.nsid (.get (subKey e l) (subKeyLen e) e.len)) :=
  ⟨⟨R3.carry (ent 5 0), 3, 5, ent 5 0, by decide +kernel⟩,
   ⟨R3.carry (ent 5 3), 3, 5, ent 5 3, by decide +kernel⟩,
   ⟨NS false (R3.carry { ent 5 1 with nsid := 1, fua := true }), 3, 5, { ent 5 1 with nsid := 1, fua := true }, nsD false, by decide +kernel⟩,
   ⟨NS false (R3.carry { ent 5 4 with nsid := 1, len := 8 }), 3, 5, { ent 5 4 with nsid := 1, len := 8 }, nsD false, by decide +kernel⟩,
   ⟨NS false (R3.carry { ent 5 2 with nsid := 1, len := 1 }), 3, 5, { ent 5 2 with nsid := 1, len := 1 }, nsD false, by decide +kernel⟩,
   ⟨NS true (R3.carry { ent 5 0x10 with nsid := 1, len := 100, spec := 4 + 0x1234 * 2^32 }), 3, 5, 0, { ent 5 0x10 with nsid := 1, len := 100, spec := 4 + 0x1234 * 2^32 }, nsD true, by decide +kernel⟩,
   ⟨NS true (R3.carry { ent 5 0x12 with nsid := 1, spec := 4 + 0x1234 * 2^32 }), 3, 5, 0, { ent 5 0x12 with nsid := 1, spec := 4 + 0x1234 * 2^32 }, nsD true, by decide +kernel⟩,
   ⟨NS true (R3.carry { ent 5 0x11 with nsid := 1, len := 50, spec := 4 + 0x1234 * 2^32 }), 3, 5, 0, { ent 5 0x11 with nsid := 1, len := 50, spec := 4 + 0x1234 * 2^32 }, nsD true, by decide +kernel⟩⟩

open Sys2Proof.Tests.H in
theorem witness_RingJobsAndKeyCommandsRun :
  (∃ (s : State) (r q : Nat) (e : SubEntry), s.enabled Blk.CMP = true ∧ s.subFor r q 0x20 = some e ∧ e.nsid = 0 ∧ compressOk e = true) ∧
  (∃ (s : State) (r q : Nat) (e : SubEntry), s.enabled Blk.CMP = true ∧ s.subFor r q 0x21 = some e ∧ e.nsid = 0 ∧ decompressOk e = true ∧ jobHeader e = false ∧ jobContinue e = false) ∧
  (∃ (s : State) (r q : Nat) (e : SubEntry), s.enabled Blk.CIP = true ∧ s.admittedPend Blk.CIP = false ∧ s.subFor r q 0x22 = some e ∧ e.nsid = 0 ∧ cipherOk e = true ∧ s.keyRefuses (cipSlot e) (some (s.ringTenant r)) (cipMode e) (cipDir e) = none) ∧
  (∃ (s : State) (r q : Nat) (e : SubEntry), s.enabled Blk.DDP = true ∧ s.subFor r q 0x23 = some e ∧ e.nsid = 0 ∧ fieldsOk e true (!bitAt e.spec 0) false true false false 1 = true) ∧
  (∃ (s : State) (target : Nat), s.rdb Fld.CIP_KEY_RESULT_BUSY = false ∧ s.rd Fld.CIP_SLOT_STATE_STATE (target % 16384) = keyEmpty) ∧
  (∃ (s : State) (target : Nat), s.rdb Fld.CIP_KEY_RESULT_BUSY = false ∧ target % 64 ≠ 0 ∧ s.cip.keks.has (target % 64) = false) ∧
  (∃ (s : State) (target : Nat), s.rdb Fld.CIP_KEY_RESULT_BUSY = false ∧ s.rd Fld.CIP_SLOT_STATE_STATE (target % 16384) = keyLoaded ∧ s.keyBound (target % 16384) = false) ∧
  (∃ (s : State) (target : Nat), s.rdb Fld.CIP_KEY_RESULT_BUSY = false ∧ target % 64 ≠ 0) ∧
  (∃ (s : State) (slot : Nat), slot < 16384 ∧ s.rd Fld.CIP_SLOT_STATE_STATE slot = keyErasing) ∧
  (∃ (s : State) (slot : Nat), slot < 16384 ∧ s.rd Fld.CIP_SLOT_STATE_STATE slot = keyLoaded) :=
  ⟨⟨(R3.carry { ent 5 0x20 with len := 100, dw3 := 100000, spec := 1 + 4 }).sets [(Fld.CMP_CTRL_ENABLE,0,1)], 3, 5, { ent 5 0x20 with len := 100, dw3 := 100000, spec := 1 + 4 }, by decide +kernel⟩,
   ⟨(R3.carry { ent 5 0x21 with len := 100, dw3 := 100000, spec := 1 }).sets [(Fld.CMP_CTRL_ENABLE,0,1)], 3, 5, { ent 5 0x21 with len := 100, dw3 := 100000, spec := 1 }, by decide +kernel⟩,
   ⟨{ ((R3.carry { ent 5 0x22 with len := 16, dw3 := 7 }).sets [(Fld.CIP_CTRL_ENABLE,0,1),(Fld.CIP_SLOT_STATE_STATE,7,1)]) with cip := { R3.cip with slots := [(7, ⟨1, 1, 5, 99⟩)] } }, 3, 5, { ent 5 0x22 with len := 16, dw3 := 7 }, by decide +kernel⟩,
   ⟨(R3.carry { ent 5 0x23 with len := 3, spec := 1 }).sets [(Fld.DDP_CTRL_ENABLE,0,1)], 3, 5, { ent 5 0x23 with len := 3, spec := 1 }, by decide +kernel⟩,
   ⟨KEKS, 9, by decide +kernel⟩,
   ⟨KEKS, 9, by decide +kernel⟩,
   ⟨{ (RUN.sets [(Fld.CIP_SLOT_STATE_STATE,9,1)]) with cip := { RUN.cip with slots := [(9, ⟨1,1,5,99⟩)] } }, 9, by decide +kernel⟩,
   ⟨{ (RUN.sets [(Fld.CIP_KEK_STATE_STATE,9,1)]) with cip := { RUN.cip with keks := [(9, ⟨7,0,5,99⟩)] } }, 9, by decide +kernel⟩,
   ⟨{ (RUN.sets [(Fld.CIP_SLOT_STATE_STATE,9,2)]) with cip := { RUN.cip with slots := [(9, ⟨1,1,5,99⟩)] } }, 9, by decide +kernel⟩,
   ⟨{ (RUN.sets [(Fld.CIP_SLOT_STATE_STATE,9,1)]) with cip := { RUN.cip with slots := [(9, ⟨1,1,5,99⟩)] } }, 9, by decide +kernel⟩⟩

theorem witness_WritesTakeTheJournalPathAndMoveOn :
  (∃ (s : State) (o : Nat) (x : WriteOp), s.ops.look o = some x ∧ x.stage = .submitted ∧ x.arrival = 0 ∧ x.kind = .block ∧ s.deferGate x.src x.nsid = none ∧ s.nvf.xfers = [] ∧ s.setState (s.nsOf x).oset = setOwned ∧ s.writeProtected x = false ∧ s.ops.all (fun e => e.1 == o || e.2.accepted || !e.2.overlaps x) = true ∧ s.snp.heldNs.mem x.nsid = false ∧ (s.map.sets.look (s.nsOf x).oset).any (fun m => m.recovering) = false ∧ x.reserveFor (s.pg x.pg) ≤ s.pgRoom (s.pg x.pg) ∧ s.pgs.has x.pg = true ∧ s.admittedPend Blk.PJM = false ∧ x.payload ≤ s.rd Fld.PJM_JCFG_THRESH_4K * 4096 ∧ s.journalOpen = true ∧ s.journalRoom x.acceptUnits = true) ∧
  (∃ (s : State) (j : Nat) (r : PjmRec), s.pjm.recs.look j = some r ∧ r.held = false ∧ r.localOk = false ∧ r.mirrorOk = false ∧ s.partnerPjm = true) ∧
  (∃ (s : State) (j : Nat) (m : MirrorRec), s.pjm.mirror.look j = some m ∧ m.persistent = false ∧ s.linkUp = true ∧ (∀ h e r, m.body ≠ .deferred h e r)) ∧
  (∃ (s : State) (m : MirrorRec), s.pjm.refuseMirror = false ∧ s.chanIn m.chan = true) ∧
  (∃ (s : State) (j : Nat) (r : PjmRec), s.pjm.recs.look j = some r ∧ r.mirrorSent = true ∧ r.mirrorOk = false ∧ r.localOk = false ∧ s.partnerPjm = true) ∧
  (∃ (s : State) (j : Nat) (r : PjmRec), s.pjm.recs.look j = some r ∧ r.held = false ∧ r.live = true ∧ s.recPersistent r = false ∧ s.pickChanBut (some r.chan) = none) ∧
  (∃ (s : State) (j c : Nat) (r : PjmRec), s.pjm.recs.look j = some r ∧ r.held = false ∧ r.live = true ∧ s.recPersistent r = false ∧ s.pickChanBut (some r.chan) = some c ∧ (s.chan c).headOff + r.len64 ≤ s.logUnits) ∧
  (∃ (s : State) (t0 : Nat), s.pjm.stampSince = some t0 ∧ s.pjm.stamps ≠ [] ∧ s.admittedPend Blk.PJM = false ∧ s.aon.leaseEnd = none) ∧
  (∃ (s : State) (j c o : Nat) (r : PjmRec), s.pjm.recs.look j = some r ∧ r.body = .accept o ∧ r.live = true ∧ r.held = false ∧ r.localOk = true ∧ (s.chan r.chan).tailOff ≤ r.off ∧ (r.off - (s.chan r.chan).tailOff) * 8 < s.chanSpan r.chan ∧ s.pickChan = some c ∧ (s.chan c).headOff + r.len64 ≤ s.logUnits ∧ j ≠ s.nextJseq) :=
  ⟨⟨(ns7 (PJ.sets [(Fld.PJM_JSEQ_NEXT,0,9)])).withOps [(0, wop)], 0, wop, by decide +kernel⟩,
   ⟨PJ.pjmUpd (fun p => { p with recs := [(9, jrec (.slot 3 5 0) 9)] }), 9, jrec (.slot 3 5 0) 9, by decide +kernel⟩,
   ⟨PJ.pjmUpd (fun p => { p with mirror := [(9, mrec (.slot 0) 9)] }), 9, mrec (.slot 0) 9, by decide +kernel, by decide +kernel, by decide +kernel, by intro _ _ _ h; cases h⟩,
   ⟨PJ, mrec (.slot 0) 9, by decide +kernel⟩,
   ⟨PJ.pjmUpd (fun p => { p with recs := [(9, jrec (.slot 3 5 0) 9)] }), 9, jrec (.slot 3 5 0) 9, by decide +kernel⟩,
   ⟨(PJ.sets ([0,2,3,4,5,6,7].map (fun c => (Fld.PJM_CH_STATUS_STATE,c,0)))).pjmUpd (fun p => { p with recs := [(9, jrec (.slot 3 5 0) 9)] }), 9, jrec (.slot 3 5 0) 9, by decide +kernel⟩,
   ⟨PJ.pjmUpd (fun p => { p with recs := [(9, jrec (.slot 3 5 0) 9)] }), 9, ((PJ.pjmUpd (fun p => { p with recs := [(9, jrec (.slot 3 5 0) 9)] })).pickChanBut (some (jrec (.slot 3 5 0) 9).chan)).getD 9, jrec (.slot 3 5 0) 9, by decide +kernel⟩,
   ⟨(PJ.sets [(Fld.PJM_JSEQ_NEXT,0,9)]).pjmUpd (fun p => { p with stamps := [(3, 50)], stampSince := some 0 }), 0, by decide +kernel⟩,
   ⟨(PJ.sets [(Fld.PJM_JSEQ_NEXT,0,12)]).pjmUpd (fun p => { p with recs := [(9, { jrec (.accept 0) 9 with localOk := true, mirrorOk := true })], chans := [(1, { PjmChan.init with headOff := 20000, tailOff := 64 })] }), 9, ((PJ.sets [(Fld.PJM_JSEQ_NEXT,0,12)]).pjmUpd (fun p => { p with recs := [(9, { jrec (.accept 0) 9 with localOk := true, mirrorOk := true })], chans := [(1, { PjmChan.init with headOff := 20000, tailOff := 64 })] })).pickChan.getD 9, 0, { jrec (.accept 0) 9 with localOk := true, mirrorOk := true }, by decide +kernel⟩⟩

theorem witness_JournalReplaysAndDestages :
  (∃ (s : State) (c t0 : Nat), (s.chan c).tailMoved = some t0 ∧ s.chanIn c = true ∧ 16384 ≤ (s.chan c).tailUnits) ∧
  (∃ (s : State) (c : Nat), c < 8 ∧ s.rd Fld.PJM_CH_STATUS_STATE c = chanInService ∧ s.pjm.recs.all (fun e => e.2.chan != c) = true) ∧
  (∃ (s : State) (c : Nat), c < 8 ∧ s.rd Fld.PJM_CH_STATUS_STATE c = chanFailed) ∧
  (∃ (s : State), s.ops = [] ∧ s.partnerPjm = false ∧ (∀ c, (s.chan c).ueTimes.length < 16)) ∧
  (∃ (s : State) (k : Nat) (y : Stripe), s.stripe k = some y ∧ y.kind = .buffer ∧ y.full = false ∧ y.ops ≠ [] ∧ s.awaitsIntent y = false) ∧
  (∃ (s : State) (k m : Nat) (y : Stripe), s.stripe k = some y ∧ y.passed.mem m = false ∧ y.failed = [] ∧ y.void.mem m = false ∧ m < y.d + y.p ∧ s.chanLooped (blockOfMember s k m % 128) = false ∧ y.kind = .reloc) ∧
  (∃ (s : State) (o r q k : Nat) (u : Sub) (x : WriteOp), s.ops.look o = some x ∧ s.mayRelease x = true ∧ x.src = .ring r q ∧ (s.ring r).subOf q = some (k, u)) ∧
  (∃ (s : State) (nsid fn : Nat), s.hostsOf nsid = [.function fn] ∧ (s.deferredOf (.function fn) nsid).length < 16 ∧ s.admittedPend Blk.PJM = false) ∧
  (∃ (s : State) (o : Nat) (x : WriteOp), s.ops.look o = some x ∧ x.accepted = true ∧ x.programmed = false ∧ x.span = false ∧ s.map.destages.has o = false ∧ s.setState (s.nsOf x).oset = setOwned ∧ s.admittedPend Blk.STR = false ∧ s.admittedPend Blk.DDP = false ∧ s.admittedPend Blk.CMP = false ∧ s.admittedPend Blk.PJM = false) :=
  ⟨⟨PJ.pjmUpd (fun p => { p with chans := [(1, { PjmChan.init with headOff := 20000, tailOff := 16500, tailMoved := some 0, tailUnits := 16384 })] }), 1, 0, by decide +kernel⟩,
   ⟨PJ, 7, by decide +kernel⟩,
   ⟨(PJ.sets [(Fld.PJM_CH_STATUS_STATE,7,3)]).pjmUpd (fun p => { p with chans := [(7, { PjmChan.init with headOff := 20000, nextCseq := 55 })], mirror := [(3, { mrec .pad 3 with chan := 7 }), (4, mrec .pad 4)] }), 7, by decide +kernel⟩,
   ⟨(PJ.sets [(Fld.PJM_STATUS_MIRROR_IN,0,0)]).pjmUpd (fun p => { p with recs := [(9, jrec (.slot 3 5 0) 9), (10, { jrec (.slot 3 6 0) 10 with localOk := true }), (11, { jrec (.slot 3 6 0) 10 with mirrorOk := true })] }), by decide +kernel, by decide +kernel, fun _ => Nat.zero_lt_succ 15⟩,
   ⟨PJ.strUpd (fun p => { p with stripes := [(4, { strp .buffer .opened with ops := [0] })] }), 4, { strp .buffer .opened with ops := [0] }, by decide +kernel⟩,
   ⟨PJ.strUpd (fun p => { p with stripes := [(4, { strp .reloc .opened with passed := [0,1,2,3,4,5,6,7,8] })] }), 4, 9, { strp .reloc .opened with passed := [0,1,2,3,4,5,6,7,8] }, by decide +kernel⟩,
   ⟨(NS false (R3.carry (ent 5 1))).withOps [(0, { wop with accepted := true })], 0, 3, 5, 0, sub1 (ent 5 1), { wop with accepted := true }, by decide +kernel⟩,
   ⟨NS false R3, 1, 0, by decide +kernel⟩,
   ⟨(ns7 (PJ.sets [(Fld.PJM_JSEQ_NEXT,0,9)])).withOps [(0, { wop with accepted := true, stage := .accepted, jseq := 3 })], 0, { wop with accepted := true, stage := .accepted, jseq := 3 }, by decide +kernel⟩⟩

theorem witness_PortsAndTcpConnectionsRun :
  (∃ (s : State) (n bytes prio : Nat), s.portOn n = true ∧ s.admittedPend Blk.NET = false ∧ prio < 8 ∧ bytes ≤ s.rd Fld.NET_PORT_CFG_MTU n) ∧
  (∃ (s : State) (n bytes : Nat), s.portOn n = true ∧ s.admittedPend Blk.NET = false ∧ s.rd Fld.NET_PORT_CFG_MTU n < bytes) ∧
  (∃ (s : State) (n prio : Nat), s.portOn n = true ∧ bitAt (s.rd Fld.NET_PFC_EN_MASK n) prio = true ∧ prio < 8 ∧ bitAt (s.rd Fld.NET_PORT_STATUS_PAUSED n) prio = false) ∧
  (∃ (s : State) (n prio : Nat), s.portOn n = true ∧ bitAt (s.rd Fld.NET_PFC_EN_MASK n) prio = true ∧ prio < 8) ∧
  (∃ (s : State) (n prio t0 : Nat), n < 32 ∧ (s.port n).pausedSince.look prio = some t0 ∧ s.rd Fld.NET_PFC_WDOG_US n ≠ 0 ∧ s.aon.leaseEnd = none) ∧
  (∃ (s : State) (n : Nat), s.portOn n = true) ∧
  (∃ (s : State) (n : Nat), n < 32 ∧ bitAt (s.rd Fld.NET_STATUS_PORT_UP) n = true) ∧
  (∃ (s : State) (l : Nat), s.listens l = true ∧ s.net.tcp.length < s.rd Fld.NET_TCP_CFG_MAX_CONN) ∧
  (∃ (s : State) (c seq len : Nat) (x : Tcp), s.net.tcp.look c = some x ∧ 1 ≤ len ∧ seq % 2 ^ 32 = x.rcvNxt ∧ x.st ≠ .closing) ∧
  (∃ (s : State) (c a : Nat) (x : Tcp), s.net.tcp.look c = some x ∧ x.st = .synReceived ∧ x.ackNew a = true) ∧
  (∃ (s : State) (c : Nat) (x : Tcp), s.net.tcp.look c = some x ∧ x.sndUna ≠ x.sndNxt ∧ x.retx < 8) :=
  ⟨⟨RUN.sets [(Fld.NET_CTRL_ENABLE,0,1),(Fld.NET_OCTET_MODE_MODE,0,1),(Fld.NET_PORT_CFG_ENABLE,0,1),(Fld.NET_PORT_CFG_MTU,0,4096)], 0, 4096, 7, by decide +kernel⟩,
   ⟨RUN.sets [(Fld.NET_CTRL_ENABLE,0,1),(Fld.NET_OCTET_MODE_MODE,0,1),(Fld.NET_PORT_CFG_ENABLE,0,1),(Fld.NET_PORT_CFG_MTU,0,4096)], 0, 4097, by decide +kernel⟩,
   ⟨RUN.sets [(Fld.NET_CTRL_ENABLE,0,1),(Fld.NET_OCTET_MODE_MODE,0,1),(Fld.NET_PORT_CFG_ENABLE,0,1),(Fld.NET_PFC_EN_MASK,0,8)], 0, 3, by decide +kernel⟩,
   ⟨RUN.sets [(Fld.NET_CTRL_ENABLE,0,1),(Fld.NET_OCTET_MODE_MODE,0,1),(Fld.NET_PORT_CFG_ENABLE,0,1),(Fld.NET_PFC_EN_MASK,0,8),(Fld.NET_PORT_STATUS_PAUSED,0,9)], 0, 3, by decide +kernel⟩,
   ⟨(RUN.sets [(Fld.NET_PFC_WDOG_US,31,5)]).netUpd (fun n => { n with ports := [(31, ⟨[], [], [(3, 10)], 0⟩)] }), 31, 3, 10, by decide +kernel⟩,
   ⟨RUN.sets [(Fld.NET_CTRL_ENABLE,0,1),(Fld.NET_OCTET_MODE_MODE,0,1),(Fld.NET_PORT_CFG_ENABLE,0,1)], 0, by decide +kernel⟩,
   ⟨RUN.sets [(Fld.NET_CTRL_ENABLE,0,1),(Fld.NET_STATUS_PORT_UP,0,2^31)], 31, by decide +kernel⟩,
   ⟨RUN.sets [(Fld.NET_CTRL_ENABLE,0,1),(Fld.NVF_CTRL_ENABLE,0,1),(Fld.NVF_LISTEN_TRANSPORT,3,1),(Fld.NET_TCP_CFG_MAX_CONN,0,1)], 3, by decide +kernel⟩,
   ⟨NV RUN, 1, 50, 10, tcpC, by decide +kernel⟩,
   ⟨RUN.netUpd (fun n => { n with tcp := [(1, { tcpC with st := .synReceived })] }), 1, 150, { tcpC with st := .synReceived }, by decide +kernel⟩,
   ⟨NV RUN, 1, tcpC, by decide +kernel⟩⟩

namespace Sys2Proof.Tests.L
def NVA : State := NV RUN
def NVB : State := NS false (NV R3)
def NVK : State := NS true (NV R3)
def xf : NvXfer := { queue := 1, cid := 9, bytes := 8192, requested := 4096, received := 0, r2t := [(0, 4096)], op := 0, acc := 0 }
def XF : State := (NVB.nvfUpd (fun n => { n with xfers := [(0, xf)] })).withOps [(0, { wop with src := .nvme 1 9, arrival := 1 })]
end Sys2Proof.Tests.L
open Sys2Proof.Tests.L in
theorem witness_AssociationsAndAdminCommands :
  (∃ (s : State) (tr : QTrans) (size : Nat), s.admittedPend Blk.NVF = false ∧ s.rdb Fld.NVF_CTRL_ENABLE = true ∧ s.transFree tr = true ∧ s.queueSizeOk size = true ∧ s.nvf.assocs.length < s.rd Fld.NVF_LIMITS_MAX_ASSOC) ∧
  (∃ (s : State) (tr : QTrans) (a size : Nat) (y : NvAssoc), s.admittedPend Blk.NVF = false ∧ s.rdb Fld.NVF_CTRL_ENABLE = true ∧ s.transFree tr = true ∧ s.queueSizeOk size = true ∧ s.assoc a = some y ∧ (s.nvf.queues.filter (fun e => e.2.assoc == a && e.2.qid != 0)).length < s.rd Fld.NVF_LIMITS_MAX_IOQ) ∧
  (∃ (s : State) (q : Nat) (x : NvQueue), s.queue q = some x ∧ x.qid ≠ 0) ∧
  (∃ (s : State) (q : Nat) (x : NvQueue), s.queue q = some x ∧ x.qid = 0) ∧
  (∃ (s : State) (a t0 : Nat) (y : NvAssoc), s.assoc a = some y ∧ y.kaEnd = some t0 ∧ s.aon.leaseEnd = none) ∧
  (∃ (s : State) (q a : Nat) (x : NvQueue) (y : NvAssoc), s.AdminQ q a x y) ∧
  (∃ (s : State) (q a : Nat) (x : NvQueue) (y : NvAssoc), s.AdminQ q a x y) ∧
  (∃ (s : State) (q a : Nat) (x : NvQueue) (y : NvAssoc), s.AdminQ q a x y) ∧
  (∃ (s : State) (q a : Nat) (x : NvQueue) (y : NvAssoc), s.AdminQ q a x y) ∧
  (∃ (s : State) (q a : Nat) (x : NvQueue) (y : NvAssoc), s.AdminQ q a x y) ∧
  (∃ (s : State) (q a fid : Nat) (x : NvQueue) (y : NvAssoc), s.AdminQ q a x y ∧ fid ≠ 0x0F) ∧
  (∃ (s : State) (q a fid : Nat) (x : NvQueue) (y : NvAssoc), s.AdminQ q a x y ∧ fid ≠ 0x0F ∧ fid ≠ 0x07) ∧
  (∃ (s : State) (q a : Nat) (x : NvQueue) (y : NvAssoc), s.AdminQ q a x y ∧ y.anaNotice = false ∧ (s.nvf.hosts.getD y.host ⟨false, false⟩).pendingEvent = false) ∧
  (∃ (s : State) (q a : Nat) (x : NvQueue) (y : NvAssoc), s.AdminQ q a x y) ∧
  (∃ (s : State) (q a : Nat) (x : NvQueue) (y : NvAssoc), s.AdminQ q a x y) :=
  ⟨⟨NVA, .tcp 2, 16, by decide +kernel⟩,
   ⟨NVA, .tcp 2, 0, 16, asc, by decide +kernel⟩,
   ⟨NVA, 1, ioQ, by decide +kernel⟩,
   ⟨NVA, 0, admQ, by decide +kernel⟩,
   ⟨NVA, 0, 1000, asc, by decide +kernel⟩,
   ⟨NVA, 0, 0, admQ, asc, by decide +kernel⟩,
   ⟨NVA, 0, 0, admQ, asc, by decide +kernel⟩,
   ⟨NVA, 0, 0, admQ, asc, by decide +kernel⟩,
   ⟨NVA.nvfUpd (fun n => { n with deferred := [⟨.nqn 70, 1, [⟨STS_LOST_EXTENT, false, 1, 5, 6, 0, 0, 0, 9⟩]⟩] }), 0, 0, admQ, asc, by decide +kernel⟩,
   ⟨NVA, 0, 0, admQ, asc, by decide +kernel⟩,
   ⟨NVA, 0, 0, 11, admQ, asc, by decide +kernel⟩,
   ⟨NVA, 0, 0, 11, admQ, asc, by decide +kernel⟩,
   ⟨NVA, 0, 0, admQ, asc, by decide +kernel⟩,
   ⟨NVA, 0, 0, admQ, asc, by decide +kernel⟩,
   ⟨NVA, 0, 0, admQ, asc, by decide +kernel⟩⟩

open Sys2Proof.Tests.L in
theorem witness_NvmeIoCommandsRun :
  (∃ (s : State) (q cid nsid lba blocks : Nat) (x : NvQueue) (y : NvAssoc) (n : Ns), s.IoQ q cid nsid x y n false ∧ rangeStatus n lba blocks 1024 = none ∧ s.ops.all (fun e => e.2.src != .nvme q cid) = true ∧ s.ServesRead (.nvme q cid) nsid (.blocks lba blocks)) ∧
  (∃ (s : State) (q cid nsid lba blocks icd : Nat) (x : NvQueue) (y : NvAssoc) (n : Ns), s.IoQ q cid nsid x y n false ∧ rangeStatus n lba blocks 1024 = none ∧ 4096 * blocks ≤ icd) ∧
  (∃ (s : State) (q cid nsid : Nat) (x : NvQueue) (y : NvAssoc) (n : Ns), s.IoQ q cid nsid x y n false ∧ nsid ≠ 0xFFFFFFFF ∧ s.ops.all (fun e => e.2.src != .nvme q cid) = true ∧ s.ServesRead (.nvme q cid) nsid (.blocks 0 0)) ∧
  (∃ (s : State) (q cid : Nat) (x : NvQueue), s.queue q = some x ∧ s.admittedPend Blk.NVF = false ∧ (∀ w ∈ x.win, w.cid ≠ cid) ∧ x.win.length < 1024) ∧
  (∃ (s : State) (q cid nsid lba blocks : Nat) (x : NvQueue) (y : NvAssoc) (n : Ns), s.IoQ q cid nsid x y n false ∧ rangeStatus n lba blocks 65536 = none) ∧
  (∃ (s : State) (q cid nsid : Nat) (r : Nat × Nat) (l : List (Nat × Nat)) (x : NvQueue) (y : NvAssoc) (n : Ns), s.IoQ q cid nsid x y n false ∧ (r :: l).findSome? (fun r => rangeStatus n r.1 r.2 (2 ^ 32)) = none ∧ l.length < 256) ∧
  (∃ (s : State) (q : Nat) (x : NvQueue), s.queue q = some x ∧ s.admittedPend Blk.NVF = false) ∧
  (∃ (s : State) (q cid nsid len vlen icd : Nat) (me mn : Bool) (x : NvQueue) (y : NvAssoc) (n : Ns), s.IoQ q cid nsid x y n true ∧ 1 ≤ len ∧ len ≤ 16 ∧ vlen ≤ 4194304 ∧ vlen ≤ icd ∧ (me && mn) = false) ∧
  (∃ (s : State) (q cid nsid key len room : Nat) (x : NvQueue) (y : NvAssoc) (n : Ns), s.IoQ q cid nsid x y n true ∧ 1 ≤ len ∧ len ≤ 16 ∧ s.ops.all (fun e => e.2.src != .nvme q cid) = true ∧ s.ServesRead (.nvme q cid) nsid (.get key len room)) ∧
  (∃ (s : State) (q cid nsid len : Nat) (x : NvQueue) (y : NvAssoc) (n : Ns), s.IoQ q cid nsid x y n true ∧ 1 ≤ len ∧ len ≤ 16) ∧
  (∃ (s : State) (q cid nsid key len : Nat) (x : NvQueue) (y : NvAssoc) (n : Ns), s.IoQ q cid nsid x y n true ∧ 1 ≤ len ∧ len ≤ 16 ∧ s.ops.all (fun e => e.2.src != .nvme q cid) = true ∧ s.ServesRead (.nvme q cid) nsid (.exist key len)) ∧
  (∃ (s : State) (q cid nsid key len room : Nat) (x : NvQueue) (y : NvAssoc) (n : Ns), s.IoQ q cid nsid x y n true ∧ len ≤ 16 ∧ s.ops.all (fun e => e.2.src != .nvme q cid) = true ∧ s.ServesRead (.nvme q cid) nsid (.list ⟨0, key, len, false, true, room⟩)) :=
  ⟨⟨NVB, 1, 9, 1, 10, 2, ioQ, asc, nsD false, by decide +kernel⟩,
   ⟨NVB, 1, 9, 1, 10, 2, 8192, ioQ, asc, nsD false, by decide +kernel⟩,
   ⟨NVB, 1, 9, 1, ioQ, asc, nsD false, by decide +kernel⟩,
   ⟨NVB, 1, 9, ioQ, by decide +kernel⟩,
   ⟨NVB, 1, 9, 1, 10, 2, ioQ, asc, nsD false, by decide +kernel⟩,
   ⟨NVB, 1, 9, 1, (10, 2), [(20,3)], ioQ, asc, nsD false, by decide +kernel⟩,
   ⟨NVB, 1, ioQ, by decide +kernel⟩,
   ⟨NVK, 1, 9, 1, 16, 10, 10, true, false, ioQ, asc, nsD true, by decide +kernel⟩,
   ⟨NVK, 1, 9, 1, 55, 16, 10, ioQ, asc, nsD true, by decide +kernel⟩,
   ⟨NVK, 1, 9, 1, 16, ioQ, asc, nsD true, by decide +kernel⟩,
   ⟨NVK, 1, 9, 1, 55, 16, ioQ, asc, nsD true, by decide +kernel⟩,
   ⟨NVK, 1, 9, 1, 55, 0, 100, ioQ, asc, nsD true, by decide +kernel⟩⟩

open Sys2Proof.Tests.L in
theorem witness_NvmeTransfersRun :
  (∃ (s : State) (c : Nat) (x : Tcp), s.net.tcp.look c = some x ∧ x.st = .established) ∧
  (∃ (s : State) (q cid bytes : Nat) (z : NvXfer) (l : Nat × Nat), s.xferOf q cid = some z ∧ s.xferLimits q = some l ∧ min bytes (min l.2 (z.bytes - z.requested)) ≠ 0 ∧ z.r2t.length < l.1 ∧ s.xferTurn z = true) ∧
  (∃ (s : State) (q cid off bytes : Nat) (x : NvQueue) (z : NvXfer) (r : Nat × Nat) (o : WriteOp), s.queue q = some x ∧ s.xferOf q cid = some z ∧ z.r2t.find? (fun r => r.1 == off && decide (bytes ≤ r.2)) = some r ∧ bytes ≠ 0 ∧ z.bytes ≤ z.received + bytes ∧ s.ops.look z.op = some o ∧ o.keyLen = 0) ∧
  (∃ (s : State) (q cid off bytes : Nat) (x : NvQueue) (z : NvXfer) (r : Nat × Nat), s.queue q = some x ∧ s.xferOf q cid = some z ∧ z.r2t.find? (fun r => r.1 == off && decide (bytes ≤ r.2)) = some r ∧ bytes ≠ 0 ∧ z.received + bytes < z.bytes) ∧
  (∃ (s : State) (q cid : Nat) (z : NvXfer) (r : Nat × Nat) (l : List (Nat × Nat)) (o : WriteOp), s.xferOf q cid = some z ∧ z.r2t = r :: l ∧ z.bytes ≤ z.received + r.2 ∧ s.ops.look z.op = some o ∧ o.keyLen = 0) ∧
  (∃ (s : State) (tok r q k : Nat) (u : Sub), s.nvf.fwds.look tok = some ⟨.ring r q, none, false⟩ ∧ (s.ring r).subOf q = some (k, u)) ∧
  (∃ (s : State) (a : Nat) (y : NvAssoc), s.rdb Fld.NVF_ANA_CFG_ANA_AEN = true ∧ s.assoc a = some y ∧ y.aers = []) :=
  ⟨⟨NVA.sets [(Fld.NVF_TCP_OPT_HDGST,0,1)], 0, tcpC, by decide +kernel⟩,
   ⟨XF, 1, 9, 4096, xf, ((XF).xferLimits (1)).getD (0,0), by decide +kernel⟩,
   ⟨XF.nvfUpd (fun n => { n with xfers := [(0, { xf with received := 4096, requested := 8192, r2t := [(4096, 4096)] })] }), 1, 9, 4096, 4096, ioQ, { xf with received := 4096, requested := 8192, r2t := [(4096, 4096)] }, (4096, 4096), { wop with src := .nvme 1 9, arrival := 1 }, by decide +kernel⟩,
   ⟨XF, 1, 9, 0, 4096, ioQ, xf, (0, 4096), by decide +kernel⟩,
   ⟨XF.nvfUpd (fun n => { n with xfers := [(0, { xf with received := 4096, requested := 8192, r2t := [(4096, 4096)] })] }), 1, 9, { xf with received := 4096, requested := 8192, r2t := [(4096, 4096)] }, (4096, 4096), [], { wop with src := .nvme 1 9, arrival := 1 }, by decide +kernel⟩,
   ⟨(NS false (R3.carry (ent 5 2))).nvfUpd (fun n => { n with fwds := [(8, ⟨.ring 3 5, none, false⟩)] }), 8, 3, 5, 0, sub1 (ent 5 2), by decide +kernel⟩,
   ⟨NVA.sets [(Fld.NVF_ANA_CFG_ANA_AEN,0,1)], 0, asc, by decide +kernel⟩⟩

namespace Sys2Proof.Tests.M
def qpx : Qp := { st := .rts, consumer := 4, tenant := 5, engine := 0, expPsn := 2^24 - 1, nakSent := false, msg := none, una := 2^24 - 2, nxt := 3, retries := 1, rnrs := 1, ackTimeout := 14, retryCnt := 7, rnrRetry := 7, timer := some 500, rate := Frac.int 1000, line := 4000, probe := none, probeAt := 0, lastSend := 0, missing := none, faultAt := none, rnrWait := false }
def RD (q : Qp) : State := (RUN.sets [(Fld.RDM_CTRL_ENABLE,0,1)]).rdmUpd (fun r => { r with qps := [(6, q)] })
def pkt (psn : Nat) (op : RdmaOp) : RocePacket := { psn := psn, first := true, last := true, op := op, rkey := 3 * 4096 + 5, off := 0, len := 100, imm := none, page := 0, slotFree := true, resident := 0 }
def wdd : WinDesc := { base := 0, len := 4096, qp := 6, qpBind := false, rd := true, wr := true, imm := true, pageable := false, consumer := 4, tenant := 5, deadlineUs := 100 }
def winW (st out : Nat) : Win := { d := wdd, gen := 5, st := st, outstanding := out, refused := 0, revokedAt := 10, bar0 := false, port := true }
def RW (st out : Nat) : State := (RD qpx).rdmUpd (fun r => { r with wins := [(3, winW st out)] })
end Sys2Proof.Tests.M
open Sys2Proof.Tests.M in
theorem witness_ResponderTakesPackets :
  (∃ (s : State) (q : Nat) (p : RocePacket) (x : Qp), s.rdm.qps.look q = some x ∧ x.missing = none ∧ s.rdb Fld.RDM_CTRL_ENABLE = true ∧ (x.st = .rts ∨ x.st = .rtr) ∧ s.admittedPend Blk.RDM = false ∧ psnDist x.expPsn p.psn = 0 ∧ p.first = true ∧ p.last = true ∧ p.op = .send ∧ p.slotFree = true) ∧
  (∃ (s : State) (q : Nat) (p : RocePacket) (x : Qp), s.rdm.qps.look q = some x ∧ x.missing = none ∧ s.rdb Fld.RDM_CTRL_ENABLE = true ∧ (x.st = .rts ∨ x.st = .rtr) ∧ p.first = false ∧ psnDist x.expPsn p.psn ≠ 0 ∧ psnDist x.expPsn p.psn < 2 ^ 23 ∧ x.nakSent = false) ∧
  (∃ (s : State) (q : Nat) (p : RocePacket) (x : Qp), s.rdm.qps.look q = some x ∧ x.missing = none ∧ s.rdb Fld.RDM_CTRL_ENABLE = true ∧ (x.st = .rts ∨ x.st = .rtr) ∧ s.admittedPend Blk.RDM = false ∧ psnDist x.expPsn p.psn = 0 ∧ p.first = true ∧ p.op = .write ∧ s.validate x q .write p.rkey p.off p.len = .revoked) ∧
  (∃ (s : State) (window page : Nat), (∀ f ∈ s.rdm.faults, f.window = window → f.page = page → f.held = false)) ∧
  (∃ (s : State) (q key : Nat) (x : Qp), s.rdm.qps.look q = some x ∧ x.missing = some key) :=
  ⟨⟨RD qpx, 6, pkt (2^24 - 1) .send, qpx, by decide +kernel⟩,
   ⟨RD qpx, 6, { pkt 1 .send with first := false }, qpx, by decide +kernel⟩,
   ⟨RW winClosing 0, 6, pkt (2^24 - 1) .write, qpx, by decide +kernel⟩,
   ⟨(RD qpx).rdmUpd (fun r => { r with faults := [⟨0, 6, 3, 1, false, 0, 0, 0⟩, ⟨0, 6, 3, 2, true, 0, 64, 9⟩] }), 3, 1, by decide +kernel⟩,
   ⟨RD { qpx with missing := some 77 }, 6, 77, { qpx with missing := some 77 }, by decide +kernel⟩⟩

open Sys2Proof.Tests.M in
theorem witness_RequesterRecoversAndPaces :
  (∃ (s : State) (q psn : Nat) (x : Qp), s.rdm.qps.look q = some x ∧ x.st = .rts ∧ x.covers psn = true) ∧
  (∃ (s : State) (q psn : Nat) (x : Qp), s.rdm.qps.look q = some x ∧ x.st = .rts ∧ x.covers psn = true ∧ x.retries < x.retryCnt) ∧
  (∃ (s : State) (q psn : Nat) (x : Qp), s.rdm.qps.look q = some x ∧ x.st = .rts ∧ x.covers psn = true ∧ (x.rnrRetry = 7 ∨ x.rnrs < x.rnrRetry)) ∧
  (∃ (s : State) (q t0 : Nat) (x : Qp), s.rdm.qps.look q = some x ∧ x.st = .rts ∧ x.timer = some t0 ∧ x.retries < x.retryCnt ∧ s.aon.leaseEnd = none) ∧
  (∃ (s : State) (q : Nat) (x : Qp), s.rdm.qps.look q = some x ∧ x.st = .rts ∧ s.rdb Fld.RDM_CTRL_CC_EN = true ∧ x.probe = none ∧ s.aon.leaseEnd = none ∧ s.admittedPend Blk.RDM = false) ∧
  (∃ (s : State) (q psn at_ : Nat) (x : Qp), s.rdm.qps.look q = some x ∧ x.probe = some (psn, at_) ∧ s.rdb Fld.RDM_CTRL_CC_EN = true ∧ s.aon.leaseEnd = none) ∧
  (∃ (s : State) (q : Nat) (x : Qp), s.rdm.qps.look q = some x ∧ x.st = .rts ∧ s.aon.leaseEnd = none) :=
  ⟨⟨RD qpx, 6, 1, qpx, by decide +kernel⟩,
   ⟨RD qpx, 6, 1, qpx, by decide +kernel⟩,
   ⟨RD qpx, 6, 1, qpx, by decide +kernel⟩,
   ⟨RD qpx, 6, 500, qpx, by decide +kernel⟩,
   ⟨(RD qpx).sets [(Fld.RDM_CTRL_CC_EN,0,1)], 6, qpx, by decide +kernel⟩,
   ⟨(RD { qpx with probe := some (1, 5) }).sets [(Fld.RDM_CTRL_CC_EN,0,1)], 6, 1, 5, { qpx with probe := some (1, 5) }, by decide +kernel⟩,
   ⟨RD qpx, 6, qpx, by decide +kernel⟩⟩

open Sys2Proof.Tests.M in
theorem witness_QueuePairsAndWindows :
  (∃ (s : State) (q e : Nat), s.rdb Fld.RDM_CTRL_ENABLE = true ∧ q < 262144 ∧ s.rdm.qps.look q = none ∧ s.qpRoom e = true ∧ e < 8) ∧
  (∃ (s : State) (q : Nat) (x : Qp), s.rdb Fld.RDM_CTRL_ENABLE = true ∧ q < 262144 ∧ s.rdm.qps.look q = some x ∧ x.st = .init) ∧
  (∃ (s : State) (q : Nat) (x : Qp), s.rdb Fld.RDM_CTRL_ENABLE = true ∧ q < 262144 ∧ s.rdm.qps.look q = some x ∧ x.st = .rtr) ∧
  (∃ (s : State) (q : Nat) (x : Qp), s.rdb Fld.RDM_CTRL_ENABLE = true ∧ q < 262144 ∧ s.rdm.qps.look q = some x) ∧
  (∃ (s : State) (q : Nat) (x : Qp), s.rdm.qps.look q = some x ∧ x.st ≠ .error) ∧
  (∃ (s : State) (lane port q : Nat), s.rdb Fld.RDM_CTRL_ENABLE = true ∧ s.rdb Fld.NVF_CTRL_ENABLE = true ∧ (List.range 64).any (fun l => s.rd Fld.NVF_LISTEN_TRANSPORT l == 2 && s.rd Fld.NVF_LISTEN_PORT l == port) = true ∧ s.qpRoom (lane / 4) = true ∧ lane < 32 ∧ (List.range (s.rdm.qps.length + 1)).find? (fun q => !s.rdm.qps.has q) = some q) ∧
  (∃ (s : State) (i : Nat) (d : WinDesc), i < s.winCount ∧ (s.win i).st = winFree ∧ 1 ≤ d.len ∧ d.len ≤ 2 ^ 30) ∧
  (∃ (s : State) (i : Nat), (s.win i).st = winOpening ∧ (s.win i).port = true) ∧
  (∃ (s : State) (i : Nat), (s.win i).st = winOpen ∧ (s.win i).bar0 = false ∧ (s.win i).port = false) ∧
  (∃ (s : State) (i : Nat), (s.win i).st = winFree) ∧
  (∃ (s : State) (i : Nat), s.rdb Fld.RDM_WIN_RESULT_BUSY = false ∧ i < s.winCount) ∧
  (∃ (s : State) (i : Nat), (s.win i).st = winClosing ∧ (s.win i).outstanding = 0 ∧ (s.win i).port = true) ∧
  (∃ (s : State) (i : Nat), (s.win i).st = winClosing ∧ 1 ≤ (s.win i).outstanding ∧ s.aon.leaseEnd = none) :=
  ⟨⟨RD qpx, 7, 7, by decide +kernel⟩,
   ⟨RD { qpx with st := .init }, 6, { qpx with st := .init }, by decide +kernel⟩,
   ⟨RD { qpx with st := .rtr }, 6, { qpx with st := .rtr }, by decide +kernel⟩,
   ⟨(RD qpx).rdmUpd (fun r => { r with faults := [⟨0, 6, 3, 1, false, 0, 0, 0⟩] }), 6, qpx, by decide +kernel⟩,
   ⟨RD qpx, 6, qpx, by decide +kernel⟩,
   ⟨(RD qpx).sets [(Fld.NVF_CTRL_ENABLE,0,1),(Fld.NVF_LISTEN_TRANSPORT,3,2),(Fld.NVF_LISTEN_PORT,3,4420)], 31, 4420, 0, by decide +kernel⟩,
   ⟨RD qpx, 3, { wdd with len := 2^30 }, by decide +kernel⟩,
   ⟨RW winOpening 0, 3, by decide +kernel⟩,
   ⟨(RD qpx).rdmUpd (fun r => { r with wins := [(3, { winW winOpen 2 with port := false })] }), 3, by decide +kernel⟩,
   ⟨RD qpx, 3, by decide +kernel⟩,
   ⟨RW winOpen 2, 3, by decide +kernel⟩,
   ⟨RW winClosing 0, 3, by decide +kernel⟩,
   ⟨RW winClosing 2, 3, by decide +kernel⟩⟩

namespace Sys2Proof.Tests.N
def PL (st : Nat) : State := (RUN.sets [(Fld.POL_CTRL_ENABLE,0,1),(Fld.POL_POOL_STAT_STATE,2,st),(Fld.POL_POOL_CFG_ENABLE,2,1),(Fld.POL_POOL_CFG_COUNT,2,1024),(Fld.POL_LIMIT_MAX,70 ,0)])
def PLa : State := { PL 2 with regs := putField (putField (PL 2).regs Fld.POL_LIMIT_MAX 10 70 2) Fld.POL_HELD_HELD 3 70 2 }
def PLb : State := PLa.polUpd (fun p => { p with pools := [(2, { Pool.init with cache := [5,6,7,8], lo := 9, taken := [3] })] })
end Sys2Proof.Tests.N
open Sys2Proof.Tests.N in
theorem witness_BuffersAndPools :
  (∃ (s : State) (p o n : Nat), p < 16 ∧ o < 1024 ∧ s.admittedPend Blk.POL = false ∧ s.rdb Fld.POL_CTRL_ENABLE = true ∧ s.poolSt p = poolActive ∧ s.grants p o n = true) ∧
  (∃ (s : State) (p o n : Nat), p < 16 ∧ o < 1024 ∧ s.admittedPend Blk.POL = false ∧ s.rdb Fld.POL_CTRL_ENABLE = true ∧ s.poolSt p = poolActive ∧ s.grants p o n = false) ∧
  (∃ (s : State) (p i o : Nat), p < 16 ∧ o < 1024 ∧ s.freeOk p i o = true ∧ s.pol.waits = []) ∧
  (∃ (s : State) (p i o : Nat), p < 16 ∧ o < 1024 ∧ s.freeOk p i o = false) ∧
  (∃ (s : State) (p o i : Nat), p < 16 ∧ o < 1024 ∧ s.rdb Fld.POL_OP_RESULT_BUSY = false ∧ s.admittedPend Blk.POL = false ∧ s.rdb Fld.POL_CTRL_ENABLE = true ∧ s.poolSt p = poolActive ∧ s.grants p o 1 = true ∧ ((s.pool p).take (s.rd Fld.POL_POOL_CFG_COUNT p) 1).2 = [i]) ∧
  (∃ (s : State) (p o : Nat), p < 16 ∧ o < 1024 ∧ s.rdb Fld.POL_OP_RESULT_BUSY = false ∧ s.freeOk p (s.rd Fld.POL_OP_ADDR_INDEX) o = true ∧ s.pol.waits = []) ∧
  (∃ (s : State), s.rdb Fld.POL_OP_RESULT_BUSY = false) ∧
  (∃ (s : State) (p : Nat), p < 16 ∧ s.rdb Fld.POL_POOL_CFG_ENABLE p = false ∧ s.poolSt p = poolDisabled ∧ (s.tryEnable Fld.POL_POOL_CFG_ENABLE p).2 = true) ∧
  (∃ (s : State) (p : Nat), p < 16 ∧ s.poolSt p = poolFilling ∧ s.pol.waits = []) ∧
  (∃ (s : State) (p : Nat), p < 16 ∧ s.rdb Fld.POL_POOL_CFG_ENABLE p = true ∧ s.poolSt p = poolActive ∧ (s.pool p).taken ≠ []) ∧
  (∃ (s : State) (p : Nat), p < 16 ∧ s.rdb Fld.POL_POOL_CFG_ENABLE p = false ∧ s.poolSt p = poolDraining ∧ (s.pool p).taken = []) ∧
  (∃ (s : State), s.rdb Fld.POL_CTRL_ENABLE = true) :=
  ⟨⟨PLb, 2, 70, 3, by decide +kernel⟩,
   ⟨PLb, 2, 70, 8, by decide +kernel⟩,
   ⟨PLb, 2, 3, 70, by decide +kernel⟩,
   ⟨PLb, 2, 4, 70, by decide +kernel⟩,
   ⟨PLb, 2, 70, ((((PLb).pool (2)).take ((PLb).rd Fld.POL_POOL_CFG_COUNT (2)) 1).2).getD 0 0, by decide +kernel⟩,
   ⟨PLb.sets [(Fld.POL_OP_ADDR_INDEX,0,3)], 2, 70, by decide +kernel⟩,
   ⟨PLb, by decide +kernel⟩,
   ⟨RUN.sets [(Fld.POL_POOL_CFG_COUNT,2,1024),(Fld.POL_REGION_SIZE,0,2^30)], 2, by decide +kernel⟩,
   ⟨PL 1, 2, by decide +kernel⟩,
   ⟨PLb, 2, by decide +kernel⟩,
   ⟨(PL 3).sets [(Fld.POL_POOL_CFG_ENABLE,2,0)], 2, by decide +kernel⟩,
   ⟨PLb, by decide +kernel⟩⟩

theorem witness_IsaovLinkFollowsTable0815 :
  (∃ (s : State), s.rdb Fld.ISL_CTRL_ENABLE = false ∧ (s.tryEnable Fld.ISL_CTRL_ENABLE).2 = true) ∧
  (∃ (s : State) (quads : Nat), s.islState = islTraining ∧ s.rdb Fld.ISL_CTRL_ENABLE = true ∧ s.minQuads ≤ ((List.range 4).filter (fun q => bitAt quads q)).length) ∧
  (∃ (s : State), s.linkUp = false) ∧
  (∃ (s : State), s.linkUp = true ∧ s.rdb Fld.ISL_CTRL_ENABLE = true ∧ s.aon.leaseEnd = none ∧ s.pjm.recs = [] ∧ s.ops = [] ∧ s.nvf.fwds = []) ∧
  (∃ (s : State), s.linkUp = false) ∧
  (∃ (s : State), s.linkUp = true ∧ s.aon.drivers = [] ∧ s.aon.claimOut = []) ∧
  (∃ (s : State), s.linkUp = true ∧ s.isl.rxExpect < 65536) ∧
  (∃ (s : State), s.islState = islUp ∧ s.isl.staleWritten = false ∧ s.rdb Fld.FWU_STATUS_TRIAL = false ∧ s.isl.peerLayout = some s.layout ∧ s.isl.catchupAsked = false) :=
  ⟨⟨RUN, by decide +kernel⟩,
   ⟨LK.sets [(Fld.ISL_STATUS_STATE,0,1)], 15, by decide +kernel⟩,
   ⟨LK.sets [(Fld.ISL_STATUS_STATE,0,1),(Fld.ISL_STATUS_QUADS_UP,0,15)], by decide +kernel⟩,
   ⟨(LK.sets [(Fld.PJM_STATUS_MIRROR_IN,0,1)]).islUpd (fun i => { i with unacked := [(3,0)] }), by decide +kernel⟩,
   ⟨LK.sets [(Fld.ISL_STATUS_STATE,0,1),(Fld.ISL_STATUS_QUADS_UP,0,15)], by decide +kernel⟩,
   ⟨LK.islUpd (fun i => { i with unacked := [(4,0)], rxExpect := 9 }), by decide +kernel⟩,
   ⟨LK.islUpd (fun i => { i with unacked := [(3,0),(4,0)], rxExpect := 65535 }), by decide +kernel⟩,
   ⟨(LK.sets [(Fld.ISL_STATUS_STATE,0,2)]).islUpd (fun i => { i with peerLayout := some LK.layout }), by decide +kernel⟩⟩

theorem witness_CatchupAndDrumbeats :
  (∃ (s : State), s.linkUp = true ∧ s.caughtUp = true ∧ s.isl.catchupAsked = true ∧ s.rdb Fld.PJM_STATUS_MIRROR_HELD = false ∧ s.rdb Fld.FWU_STATUS_TRIAL = false) ∧
  (∃ (s : State) (c : Nat), s.linkUp = true ∧ s.caughtUp = true ∧ s.isl.catchupAsked = false ∧ c < 8 ∧ s.pjm.repairing = [c] ∧ s.pjm.recs.all (fun e => !e.2.held) = true) ∧
  (∃ (s : State), s.linkUp = true) ∧
  (∃ (s : State), s.linkUp = true ∧ s.aon.leaseEnd = none) ∧
  (∃ (s : State) (d : Drumbeat), s.linkUp = true ∧ s.rdb Fld.ISL_STATUS_SUSPECT = false ∧ d.layout = s.layout ∧ s.isl.staleWritten = false ∧ d.chOk = s.rd Fld.ISL_PEER_CH_OK ∧ s.rdb Fld.PJM_STATUS_MIRROR_IN = d.mirrorReady) ∧
  (∃ (s : State), s.rdb Fld.ISL_CTRL_ENABLE = true ∧ s.aon.leaseEnd = none ∧ s.isl.missRun + 1 ≠ s.rd Fld.ISL_CFG_SUSPECT_MISS) ∧
  (∃ (s : State), s.rdb Fld.ISL_CTRL_ENABLE = true ∧ s.aon.leaseEnd = none ∧ s.isl.missRun + 1 = s.rd Fld.ISL_CFG_SUSPECT_MISS ∧ s.rdb Fld.NVF_ANA_CFG_ANA_AEN = false) :=
  ⟨⟨(LK.sets [(Fld.ISL_STATUS_STATE,0,3),(Fld.PJM_STATUS_MIRROR_IN,0,1)]).islUpd (fun i => { i with catchupAsked := true, copied := true }), by decide +kernel⟩,
   ⟨(LK.islUpd (fun i => { i with copied := true })).pjmUpd (fun p => { p with repairing := [3], recs := [(9, jrec (.slot 3 5 0) 9)] }), 3, by decide +kernel⟩,
   ⟨LK, by decide +kernel⟩,
   ⟨LK, by decide +kernel⟩,
   ⟨LK.sets [(Fld.ISL_PEER_CH_OK,0,255)], { drm false with layout := LK.layout }, by decide +kernel⟩,
   ⟨LK.sets [(Fld.ISL_CFG_SUSPECT_MISS,0,3)], by decide +kernel⟩,
   ⟨(LK.sets [(Fld.NVF_ANA_CFG_ANA_AEN,0,0),(Fld.ISL_CFG_SUSPECT_MISS,0,3)]).islUpd (fun i => { i with missRun := 2 }), by decide +kernel⟩⟩

namespace Sys2Proof.Tests.P
def DX (e : IdxEntry) : State := (LK.sets [(Fld.DDP_STATUS_HALVES,0,3),(Fld.DDP_IDX_CFG_PAGES_LOG2,0,10)]).ddpUpd (fun d => { d with idx := [(5, e)], icache := [0] })
def fpOf (n : Nat) : Nat := n
end Sys2Proof.Tests.P
open Sys2Proof.Tests.P in
theorem witness_TheIndexFollowsItsReferences :
  (∃ (s : State) (fp : Nat), s.ownsHalf (s.idxPage fp) = true ∧ s.linkUp = true ∧ s.pins < 65536) ∧
  (∃ (s : State) (h : Nat) (e : IdxEntry), s.map.destages = [] ∧ s.ddp.deferQ = [] ∧ s.ownsHalf (h / 512) = true ∧ s.ddp.idx.look h = some e ∧ 2 ≤ e.pins) ∧
  (∃ (s : State) (fp dom o i : Nat) (x : WriteOp) (d : Destage) (out : ChunkOut), s.map.destages = [(o, d)] ∧ s.ops.look o = some x ∧ s.openLookup x d fp dom = some i ∧ (d.outs.set i (some out)).all (fun y => y.isSome) = false) ∧
  (∃ (s : State) (o : Nat) (d : Destage), s.map.destages.look o = some d ∧ d.decided = false ∧ s.ops.look o = none ∧ s.aon.leaseEnd = none) ∧
  (∃ (s : State) (h : Nat) (e : IdxEntry), s.ownsHalf (h / 512) = true ∧ s.ddp.idx.look h = some e ∧ 2 ≤ e.pins) ∧
  (∃ (s : State) (h : Nat) (e : IdxEntry), s.ownsHalf (h / 512) = true ∧ s.ddp.idx.look h = some e ∧ e.pins = 1 ∧ e.refcnt = 0) ∧
  (∃ (s : State) (j : Nat) (d : Delta) (e : IdxEntry), (s.refRecords false).find? (fun r => r.1 == j) = some (j, [d]) ∧ (s.refRecords false).all (fun q => decide (j ≤ q.1)) = true ∧ d.kind = 3 ∧ s.ownsHalf (d.laddr / 512) = true ∧ s.appliedOf (d.laddr / 512) s.aon.side < j ∧ s.ddp.idx.look d.laddr = some e ∧ e.refcnt + 1 < 0xFFFFFF00) ∧
  (∃ (s : State) (h : Nat) (e : IdxEntry), s.ddp.idx.look h = some e ∧ e.dying = true) ∧
  (∃ (s : State) (e : DeferEnt) (l : List DeferEnt), s.ddp.deferQ = e :: l ∧ s.deferLive e = false) ∧
  (∃ (s : State) (e : DeferEnt) (l : List DeferEnt) (c : Chunk) (h : Nat), s.ddp.deferQ = e :: l ∧ s.deferLive e = true ∧ s.map.chunks.look e.addr = some c ∧ s.ownsHalf (s.idxPage c.fp) = true ∧ s.pins < 65536 ∧ ((s.idxTouch (s.idxPage c.fp)).idxLookup c.fp c.domain).2 = .reserved h ∧ s.admittedPend Blk.PJM = false) ∧
  (∃ (s : State) (a : Nat) (c : Chunk), s.map.chunks.look a = some c) :=
  ⟨⟨DX ixe, 77, by decide +kernel⟩,
   ⟨DX ixe, 5, ixe, by decide +kernel⟩,
   ⟨((ns7 LK).mapUpd (fun m => { m with destages := [(0, { dst with outs := [none, none] })] })).withOps [(0, { wop with kind := .kvPut, valueLen := 4, accepted := true, stage := .accepted, data := [1] })], fingerprint (bytesLE 1 4), ((((ns7 LK).mapUpd (fun m => { m with destages := [(0, { dst with outs := [none, none] })] })).withOps [(0, { wop with kind := .kvPut, valueLen := 4, accepted := true, stage := .accepted, data := [1] })]).nsOf ({ wop with kind := .kvPut, valueLen := 4, accepted := true, stage := .accepted, data := [1] })).domain, 0, 0, { wop with kind := .kvPut, valueLen := 4, accepted := true, stage := .accepted, data := [1] }, { dst with outs := [none, none] }, .plain, by decide +kernel⟩,
   ⟨RUN.mapUpd (fun m => { m with destages := [(0, dst)] }), 0, dst, by decide +kernel⟩,
   ⟨DX ixe, 5, ixe, by decide +kernel⟩,
   ⟨DX { ixe with pins := 1, refcnt := 0 }, 5, { ixe with pins := 1, refcnt := 0 }, by decide +kernel⟩,
   ⟨(DX ixe).pjmUpd (fun p => { p with recs := [(9, { jrec (.mapDelta [{ dlt with kind := 3, laddr := 5 }]) 9 with localOk := true, mirrorOk := true })] }), 9, { dlt with kind := 3, laddr := 5 }, ixe, by decide +kernel⟩,
   ⟨(DX { ixe with dying := true }).mapUpd (fun m => { m with chunks := [(4096, chk)] }), 5, { ixe with dying := true }, by decide +kernel⟩,
   ⟨(DX ixe).ddpUpd (fun d => { d with deferQ := [⟨1,2,3⟩] }), ⟨1,2,3⟩, [], by decide +kernel⟩,
   ⟨(((DX ixe).sets [(Fld.PJM_JSEQ_NEXT,0,9)]).ddpUpd (fun d => { d with deferQ := [⟨leafKey 1 0 10, 3, 4096⟩] })).mapUpd (fun m => { m with chunks := [(4096, { chk with fp := 12345 })], leaves := [(leafKey 1 0 10, [{ kind := 1, voff := 0, birth := 0, addr := 4096, wseq := 3, idx := none, stamp := 0 }])] }), ⟨leafKey 1 0 10, 3, 4096⟩, [], { chk with fp := 12345 }, 0, by decide +kernel⟩,
   ⟨(DX ixe).mapUpd (fun m => { m with chunks := [(4096, chk)] }), 4096, chk, by decide +kernel⟩⟩

namespace Sys2Proof.Tests.Q
def me : MteEntry := { data := 7, care := 15, prio := 3, result := 99, valid := true }
def MT : State := { (RUN.sets [(Fld.MTE_CTRL_ENABLE,0,1),(Fld.MTE_TBL_CFG_ENABLE,2,1),(Fld.MTE_TBL_CFG_NSEG,2,1),(Fld.MTE_TBL_CFG_CONSUMER,2,17)]) with mte := { entries := [(3, me)], queue := [⟨5, 1, me⟩] } }
end Sys2Proof.Tests.Q
open Sys2Proof.Tests.Q in
theorem witness_MatchEngineFollowsItsTables :
  (∃ (s : State) (b tb : Nat), s.admittedPend Blk.MTE = false ∧ s.rd Fld.MTE_TBL_CFG_CONSUMER (tb % 16) = b) ∧
  (∃ (s : State), s.admittedPend Blk.MTE = false) ∧
  (∃ (s : State), s.admittedPend Blk.MTE = false) ∧
  (∃ (s : State), s.admittedPend Blk.MTE = false) ∧
  (∃ (s : State) (u : MteUpd) (l : List MteUpd), s.admittedPend Blk.MTE = false ∧ s.mte.queue = u :: l ∧ u.op = 1) ∧
  (∃ (s : State), s.admittedPend Blk.MTE = false) ∧
  (∃ (s : State) (k : Nat), s.bankCovered (k % 8) = false ∧ s.bankState (k % 8) = 0) ∧
  (∃ (s : State) (k : Nat), s.bankCovered (k % 8) = false ∧ s.bankState (k % 8) = 1) ∧
  (∃ (s : State) (k first count : Nat), s.bankCovered (k % 8) = false ∧ s.bankState (k % 8) = 1 ∧ first + count ≤ 16384) ∧
  (∃ (s : State) (k : Nat), s.bankCovered (2 * (k % 8 / 2)) = false ∧ s.bankCovered (2 * (k % 8 / 2) + 1) = false ∧ s.bankState (2 * (k % 8 / 2)) ≠ 2) ∧
  (∃ (s : State) (k : Nat), s.bankState (2 * (k % 8 / 2)) = 2 ∧ s.pwr.queue = [] ∧ s.pwr.switching = none ∧ s.domainOn (53 + k % 8 / 2) = false) :=
  ⟨⟨MT, 17, 2, by decide +kernel⟩,
   ⟨MT, by decide +kernel⟩,
   ⟨MT, by decide +kernel⟩,
   ⟨MT, by decide +kernel⟩,
   ⟨MT, ⟨5, 1, me⟩, [], by decide +kernel⟩,
   ⟨MT.sets [(Fld.MTE_SEARCH_KEY_KEY,0,7)], by decide +kernel⟩,
   ⟨RUN, 7, by decide +kernel⟩,
   ⟨RUN.sets [(Fld.MTE_BANK_STATE_STATE,0,2^14)], 7, by decide +kernel⟩,
   ⟨RUN.sets [(Fld.MTE_BANK_STATE_STATE,0,2^14)], 7, 16382, 2, by decide +kernel⟩,
   ⟨{ RUN with mte := { entries := [(3, me),(40000, me)], queue := [] } }, 1, by decide +kernel⟩,
   ⟨RUN.sets [(Fld.MTE_BANK_STATE_STATE,0,2^15 + 2^13)], 7, by decide +kernel⟩⟩

namespace Sys2Proof.Tests.R
def MS (m : MapSet) : State := ((ns7 LH).sets [(Fld.MAP_CTRL_ENABLE,0,1),(Fld.MAP_CKPT_MIB,0,1)]).mapUpd (fun x => { x with sets := [(1, m)], dirty := [(3, 1), (4, 1)], cached := [3] })
def ck (d : Bool) : Ckpt := { fenceA := 1, fenceB := 0, t := 5, pages := [3], dir := d }
def ML (g : Nat) (d : Bool) : State := { (RUN.sets [(Fld.MDC_WAYGRP_STATE_STATE,0,g)]) with mdc := { lines := [(5 * 16 + 2, { addr := 5, dirty := d, age := 1 })] } }
end Sys2Proof.Tests.R
open Sys2Proof.Tests.R in
theorem witness_CheckpointsRecoveryAndWayGroups :
  (∃ (s : State) (o : Nat), s.mapServes o = true ∧ s.rd Fld.MAP_CKPT_MIB * 2 ^ 20 ≤ (s.mapSet o).bytes ∧ (s.mapSet o).run = none ∧ s.admittedPend Blk.MAP = false) ∧
  (∃ (s : State) (o : Nat) (c : Ckpt), s.mapServes o = true ∧ s.rd Fld.MAP_CKPT_MIB * 2 ^ 20 ≤ (s.mapSet o).bytes ∧ (s.mapSet o).run = some c) ∧
  (∃ (s : State) (o : Nat) (c : Ckpt), (s.mapSet o).run = some c ∧ c.dir = false) ∧
  (∃ (s : State) (o : Nat) (c : Ckpt), (s.mapSet o).run = some c ∧ c.dir = true ∧ (s.mapSet o).again = false) ∧
  (∃ (s : State) (o : Nat), s.ownSets.filter s.mapServes = [o] ∧ (s.mapSet o).run = none ∧ s.admittedPend Blk.MAP = false) ∧
  (∃ (s : State) (o : Nat), s.rd Fld.MAP_CACHE_CFG_DIRTY_PCT * s.mapFrames ≤ s.map.dirty.length * 100 ∧ s.dirtiest = some o ∧ (s.mapSet o).run = none ∧ s.admittedPend Blk.MAP = false) ∧
  (∃ (s : State), s.rdb Fld.MAP_CTRL_ENABLE = false ∧ (s.tryEnable Fld.MAP_CTRL_ENABLE).2 = true ∧ s.rdb Fld.PWR_STATUS_FIRST_BOOT = true) ∧
  (∃ (s : State), s.rdb Fld.MAP_CTRL_ENABLE = false ∧ (s.tryEnable Fld.MAP_CTRL_ENABLE).2 = true ∧ s.rdb Fld.PWR_STATUS_FIRST_BOOT = false ∧ s.ownSets.filter (fun o => s.setState o == setOwned) ≠ []) ∧
  (∃ (s : State) (o : Nat), (s.mapSet o).recovering = true ∧ s.flc.reads = [] ∧ s.admittedPend Blk.MAP = false) ∧
  (∃ (s : State) (j : Nat) (r : PjmRec) (d : Delta), s.recOf j = some r ∧ s.recPersistent r = true ∧ r.body = .mapDelta [d] ∧ d.kind = 1 ∧ d.reloc = false ∧ s.map.leaves.look (leafKey d.nsid 0 d.laddr) = none) ∧
  (∃ (s : State) (j : Nat) (m : MirrorRec) (d : Delta), s.mirrorLog.find? (fun m => m.orig == j) = some m ∧ m.body = .mapDelta [d] ∧ d.kind = 1 ∧ d.reloc = false ∧ s.map.leaves.look (leafKey d.nsid 0 d.laddr) = none) ∧
  (∃ (s : State) (p : Nat), s.rdb Fld.MAP_CTRL_ENABLE = true ∧ s.rdb Fld.MDC_CTRL_ENABLE = false ∧ s.map.cached.contains p = false ∧ s.framesUsed < s.mapFrames) ∧
  (∃ (s : State) (n : Nat) (x : MdcLine), s.mdc.lines.look n = some x ∧ x.dirty = true) ∧
  (∃ (s : State) (n : Nat) (x : MdcLine), s.mdc.lines.look n = some x ∧ x.dirty = false ∧ s.mdcRegion (x.addr * 128) = none ∧ s.admittedPend Blk.MDC = false) ∧
  (∃ (s : State) (g h : Nat), g < 8 ∧ h < 8 ∧ h ≠ g ∧ s.wayGroup g = 0 ∧ s.wayGroup h = 0) ∧
  (∃ (s : State) (g : Nat), g < 8 ∧ s.wayGroup g = 2 ∧ s.pwr.queue = [] ∧ s.pwr.switching = none ∧ s.domainOn (37 + g) = false) ∧
  (∃ (s : State) (g : Nat), g < 8 ∧ s.wayGroup g = 1 ∧ s.pwr.queue = [] ∧ s.pwr.switching = none ∧ s.domainOn (37 + g) = true) ∧
  (∃ (s : State) (g : Nat), g < 8 ∧ s.wayGroup g = 3 ∧ s.domainOn (37 + g) = true) ∧
  (∃ (s : State), s.rdb Fld.MDC_STATUS_READY = false ∧ s.aon.mainReset = false ∧ s.aon.leaseEnd = none) :=
  ⟨⟨MS { MapSet.init with bytes := 2^20 }, 1, by decide +kernel⟩,
   ⟨MS { MapSet.init with bytes := 2^20, run := some (ck false) }, 1, ck false, by decide +kernel⟩,
   ⟨MS { MapSet.init with bytes := 2^20, run := some (ck false) }, 1, ck false, by decide +kernel⟩,
   ⟨MS { MapSet.init with bytes := 2^20, run := some (ck true) }, 1, ck true, by decide +kernel⟩,
   ⟨MS MapSet.init, 1, by decide +kernel⟩,
   ⟨(MS MapSet.init).sets [(Fld.MAP_CACHE_CFG_PAGES_LOG2,0,1),(Fld.MAP_CACHE_CFG_DIRTY_PCT,0,50)], 1, by decide +kernel⟩,
   ⟨RUN.sets [(Fld.PWR_STATUS_FIRST_BOOT,0,1),(Fld.DDP_FILTER_BASE_ADDR,0,2^35),(Fld.DDP_ICACHE_BASE_ADDR,0,2^35),(Fld.DDP_DEFER_BASE_ADDR,0,2^35)], by decide +kernel⟩,
   ⟨(ns7 LH).sets [(Fld.DDP_FILTER_BASE_ADDR,0,2^35),(Fld.DDP_ICACHE_BASE_ADDR,0,2^35),(Fld.DDP_DEFER_BASE_ADDR,0,2^35)], by decide +kernel⟩,
   ⟨MS { MapSet.init with recovering := true }, 1, by decide +kernel⟩,
   ⟨(ns7 LH).pjmUpd (fun p => { p with recs := [(9, { jrec (.mapDelta [dlt]) 9 with localOk := true, mirrorOk := true })] }), 9, { jrec (.mapDelta [dlt]) 9 with localOk := true, mirrorOk := true }, dlt, by decide +kernel⟩,
   ⟨(ns7 LH).pjmUpd (fun p => { p with mirror := [(9, { mrec (.mapDelta [dlt]) 9 with persistent := true })] }), 9, { mrec (.mapDelta [dlt]) 9 with persistent := true }, dlt, by decide +kernel⟩,
   ⟨(MS MapSet.init).sets [(Fld.MDC_CTRL_ENABLE,0,0)], 9, by decide +kernel⟩,
   ⟨ML 0 true, 82, { addr := 5, dirty := true, age := 1 }, by decide +kernel⟩,
   ⟨ML 0 false, 82, { addr := 5, dirty := false, age := 1 }, by decide +kernel⟩,
   ⟨ML 0 false, 7, 0, by decide +kernel⟩,
   ⟨ML (2 * 2^14) false, 7, by decide +kernel⟩,
   ⟨(ML (1 * 2^2) true).sets [(Fld.PWR_DOM_STATE_ON,0,2^38)], 1, by decide +kernel⟩,
   ⟨(ML (3 * 2^2) true).sets [(Fld.PWR_DOM_STATE_ON,0,2^38)], 1, by decide +kernel⟩,
   ⟨(ML 0 true).sets [(Fld.MDC_STATUS_READY,0,0)], by decide +kernel⟩⟩

namespace Sys2Proof.Tests.S
def FL (b : Bool) : State := ((if b then RUN.sets [(Fld.FLC_CTRL_ENABLE,0,1)] else RUN).sets ((List.range 8).map (fun c => (Fld.FLC_CH_STATUS_STATE, c, 2)))).aonUpd (fun a => { a with drivers := [0] })
def pp : ParamPage := { cell := 2, planes := 4, blocks := 1000, pages := 1024, pageSize := 16384, spare := 65535, luns := 1, volumes := 2, tProgUs := 600 }
def lun0 (f : Bool) : LunSt := { erasing := false, suspended := 0, reads := 0, foreign := f }
def bl0 : BlockSt := { BlockSt.init with refreshQueued := true, reads := 7 }
def bnd (b : BandSt) : Band := { d := 8, p := 2, kind := .buffer, slc := false, short := false, members := [5, 6, 2, 3, 4, 1, 0, 7, 128, 129], rows := 4, tClose := 0, st := b, heldPass := 0, waits := [], eraseLeft := [0, 1], pins := [] }
def FB (s : State) (b : Band) : State := s.strUpd (fun x => { x with bands := [(7 + 65536 * 3, b)] })
end Sys2Proof.Tests.S
open Sys2Proof.Tests.S in
theorem witness_ChannelsTrainAndGroupsMove :
  (∃ (s : State) (p : ParamPage) (rest : List (Nat × ParamPage)), s.rdb Fld.FLC_CTRL_ENABLE = false ∧ (s.tryEnable Fld.FLC_CTRL_ENABLE).2 = true ∧ s.flc.geom = none ∧ s.paramOk p = true ∧ (∀ q ∈ rest, q.2 = p)) ∧
  (∃ (s : State) (c : Nat), c < 128 ∧ s.flcRuns = true ∧ s.drives c = true ∧ s.chanLooped c = false) ∧
  (∃ (s : State) (c : Nat), c < 128 ∧ s.flcRuns = true ∧ s.drives c = true ∧ s.chanLooped c = false ∧ s.str.bands = []) ∧
  (∃ (s : State) (g : Nat), g < 16 ∧ s.flcRuns = true ∧ s.aon.drivers.mem g = true ∧ s.flc.takenUp.mem g = false ∧ s.flc.reads = [] ∧ s.nvf.fwds.filter (fun e => e.2.held) = []) ∧
  (∃ (s : State) (l : Nat) (x : LunSt), s.flc.luns.look (lunOf l) = some x ∧ x.foreign = true) ∧
  (∃ (s : State) (g : Nat), g < 16 ∧ s.aon.drivers.mem g = false ∧ s.flc.takenUp.mem g = true) :=
  ⟨⟨FL false, pp, [(1, pp)], by decide +kernel⟩,
   ⟨FL true, 3, by decide +kernel⟩,
   ⟨FL true, 3, by decide +kernel⟩,
   ⟨FL true, 0, by decide +kernel⟩,
   ⟨(FL true).flcUpd (fun f => { f with luns := [(5, lun0 true)] }), 5, lun0 true, by decide +kernel⟩,
   ⟨(FL true).flcUpd (fun f => { f with takenUp := [3] }), 3, by decide +kernel⟩⟩

open Sys2Proof.Tests.S in
theorem witness_PagesAndBlocksOfTheMedia :
  (∃ (s : State) (c : Nat) (w : List CwRead), s.chanServes (c % 128) = true ∧ s.linkUp = true ∧ (∀ x ∈ w, x.step = 0)) ∧
  (∃ (s : State) (a : Nat) (w : List CwRead), s.chanServes (a % 128) = true ∧ (∀ x ∈ w, x.step = 0) ∧ (s.block a).refreshQueued = true) ∧
  (∃ (s : State) (a : Nat) (w : CwRead), s.chanServes (a % 128) = true ∧ s.readStep w = 3 ∧ (s.block a).refreshQueued = true ∧ (s.block a).step3 = 0) ∧
  (∃ (s : State) (l n : Nat) (x : LunSt), s.flc.luns.look (lunOf l) = some x ∧ x.suspended < 8 ∧ 0 < n ∧ s.chanServes (l % 128) = true) ∧
  (∃ (s : State) (l : Nat), s.chanServes (l % 128) = true) ∧
  (∃ (s : State) (c l p : Nat) (w : WaitRead), s.flc.reads = [w] ∧ w.left.contains (c, l, p) = true ∧ (w.left.filter (fun q => q != (c, l, p))) ≠ []) ∧
  (∃ (s : State) (b k : Nat) (x : Band), s.bandOfBlock (blockAddr b) = some (k, x) ∧ x.st = .erasing ∧ s.drives (blockAddr b % 128) = true ∧ s.chanLooped (blockAddr b % 128) = false ∧ x.eraseLeft.length = 2 ∧ x.eraseLeft.Nodup ∧ s.str.bands.look k = some x) ∧
  (∃ (s : State) (b : Nat), (s.block b).bad = false ∧ s.bandOfBlock b = none ∧ s.pgs.look (s.block b).pg = none) ∧
  (∃ (s : State) (b k g : Nat) (x : Band) (p : Pg), (s.block b).bad = false ∧ s.bandOfBlock b = some (k, x) ∧ k % 65536 = g ∧ s.pgs.look g = some p ∧ p.spares = 0 ∧ p.media = .readOnly) ∧
  (∃ (s : State) (b k : Nat) (x : Band), s.rd Fld.FLC_REFRESH_CFG_RD_LIMIT * 1000 ≤ (s.block b).reads ∧ (s.block b).refreshQueued = false ∧ (s.block b).bad = false ∧ s.bandOfBlock b = some (k, x)) ∧
  (∃ (s : State) (l a b k : Nat) (x y : BlockSt) (z : Band), s.flc.blocks = [(a, x), (b, y)] ∧ lunOf a = l ∧ lunOf b = l ∧ x.bad = false ∧ y.bad = false ∧ s.bandOfBlock a = some (k, z) ∧ z.st = .inUse ∧ s.bandOfBlock b = none ∧ x.wear + 8 * s.rd Fld.FLC_WEAR_CFG_WL_DELTA < y.wear ∧ s.gcx.work = []) :=
  ⟨⟨(FL true).sets [(Fld.ISL_STATUS_STATE,0,4),(Fld.ISL_CTRL_ENABLE,0,1)], 3, [⟨0, 0, 3, []⟩], by decide +kernel⟩,
   ⟨(FL true).flcUpd (fun f => { f with blocks := [(5, bl0)] }), 5, [⟨0, 0, 3, []⟩], by decide +kernel⟩,
   ⟨(FL true).flcUpd (fun f => { f with blocks := [(5, bl0)] }), 5, ⟨0, 3, 3, []⟩, by decide +kernel⟩,
   ⟨(FL true).flcUpd (fun f => { f with luns := [(5, lun0 true)] }), 5, 9, lun0 true, by decide +kernel⟩,
   ⟨FL true, 5, by decide +kernel⟩,
   ⟨(FL true).flcUpd (fun f => { f with reads := [{ src := .ring 3 5, nsid := 1, read := .blocks 0 1, xferOk := true, short := false, got := [], left := [(3,0,9),(4,0,9)] }] }), 3, 0, 9, { src := .ring 3 5, nsid := 1, read := .blocks 0 1, xferOk := true, short := false, got := [], left := [(3,0,9),(4,0,9)] }, by decide +kernel⟩,
   ⟨FB (FL true) (bnd .erasing), 5, 7 + 65536 * 3, bnd .erasing, by decide +kernel⟩,
   ⟨FL true, 500, by decide +kernel⟩,
   ⟨{ FB (FL true) (bnd .inUse) with pgs := [(7, { pg7 with spares := 0, media := .readOnly })] }, 5, 7 + 65536 * 3, 7, bnd .inUse, { pg7 with spares := 0, media := .readOnly }, by decide +kernel⟩,
   ⟨(FB (FL true) (bnd .inUse)).flcUpd (fun f => { f with blocks := [(5, { bl0 with reads := 1000000, refreshQueued := false })] }), 5, 7 + 65536 * 3, bnd .inUse, by decide +kernel⟩,
   ⟨((FB (FL true) (bnd .inUse)).sets [(Fld.FLC_WEAR_CFG_WL_DELTA,0,10)]).flcUpd (fun f => { f with blocks := [(5, { bl0 with wear := 8 }), (5 + 128*128*4, { bl0 with wear := 800 })] }), 5, 5, 5 + 128*128*4, 7 + 65536 * 3, { bl0 with wear := 8 }, { bl0 with wear := 800 }, bnd .inUse, by decide +kernel⟩⟩

namespace Sys2Proof.Tests.T
def K1 : Nat := 7 + 65536 * 3
def bn (b : BandSt) : Band := { d := 8, p := 2, kind := .buffer, slc := false, short := false, members := [5, 6, 2, 3, 4, 1, 0, 7, 128, 129], rows := 4, tClose := 0, st := b, heldPass := 0, waits := [], eraseLeft := [0, 1], pins := [] }
def SS (k : StripeKind) (x : StripeSt) : State := (ns7 LH).strUpd (fun a => { a with stripes := [(K1, strp k x)], bands := [(K1, bn .inUse)] })
def atK : StripeAt := { pg := 7, band := 3, row := 0, slc := false, members := [5, 6, 2, 3, 4, 1, 0, 7, 128, 129] }
def kva : NsKv := { ({ cluster := false, span := false, hashLen := 0, k := 0, m := 0, nset := 0, entries := [] } : NsKv) with span := true, k := 2, m := 1 }
def spw : WriteOp := { wop with accepted := true, span := true, kind := .kvPut, valueLen := 100000, data := [1, 2, 3] }
def SPW : State := { (PJ.withOps [(4, spw)]) with kvs := { RUN.kvs with ns := [(1, kva)] }, adm := { RUN.adm with nss := [(1, nsD true)] } }
def smsg (op : Nat) (s : Nat) : SpanMsg := { initHead := 30, stripe := K1, member := 1, op := op, step := 5, status := s, k := 2, m := 1, payload := 77, crcOk := true }
def spu : SpanUpd := { step := 5, sif := 9, acked := [], failed := [], members := [0, 1, 2], k := 2, m := 1, tries := 0, since := 1000, sent := true, op := 4, msgs := [(12, smsg 2 0)] }
end Sys2Proof.Tests.T
open Sys2Proof.Tests.T in
theorem witness_StripesAreProgrammedKeptAndLost :
  (∃ (s : State) (k : Nat) (y : Stripe), s.stripe k = some y ∧ y.st = .opened ∧ y.full = false ∧ y.kind = .destage) ∧
  (∃ (s : State) (k : Nat) (y : Stripe), s.stripe k = some y ∧ y.st = .opened ∧ y.full = false ∧ y.kind = .reloc) ∧
  (∃ (s : State) (a : StripeAt) (f : List Found) (y : Stripe), s.ownsPg a.pg = true ∧ s.stripe a.id = some y ∧ y.kind = .destage ∧ y.st = .opened ∧ y.ops = [] ∧ y.sif = none ∧ y.failed = [] ∧ y.d + y.p ≤ f.length ∧ (∀ x ∈ f, x = .valid)) ∧
  (∃ (s : State) (k : Nat) (y : Stripe), s.stripe k = some y) ∧
  (∃ (s : State) (k : Nat) (y : Stripe) (b : Band) (bad : List (Nat × List Nat)), s.stripe k = some y ∧ s.str.bands.look (bandOf k) = some b ∧ (∃ x ∈ bad, y.solvable x.2 = false) ∧ (∀ e ∈ s.map.chunks, e.2.stripe ≠ k)) ∧
  (∃ (s : State), (∀ a ∈ s.str.lostTable, s.namers a = [])) ∧
  (∃ (s : State), s.rdb Fld.STR_CTRL_ENABLE = true ∧ s.rdb Fld.STR_CTRL_PATROL_EN = true) ∧
  (∃ (s : State) (k : Nat) (y : Stripe) (b : Band), s.rdb Fld.STR_STATUS_PATROLLING = true ∧ s.patrolled.find? (fun e => e.1 == k) = some (k, y) ∧ s.str.bands.look (bandOf k) = some b) ∧
  (∃ (s : State) (k : Nat) (y : Stripe) (b : Band), s.rdb Fld.STR_STATUS_PATROLLING = true ∧ s.patrolled.find? (fun e => e.1 == k) = some (k, y) ∧ s.stripe k = some y ∧ s.str.bands.look (bandOf k) = some b ∧ b.st = .inUse ∧ 2 ≤ y.p) ∧
  (∃ (s : State) (k : Nat) (b : Band), s.rdb Fld.STR_CTRL_ENABLE = true ∧ s.rdb Fld.STR_CTRL_REBUILD_EN = true ∧ s.str.rebuild = [k] ∧ s.gcx.work = [] ∧ s.str.bands.look k = some b ∧ b.st = .inUse) :=
  ⟨⟨SS .destage .opened, K1, strp .destage .opened, by decide +kernel⟩,
   ⟨SS .reloc .opened, K1, strp .reloc .opened, by decide +kernel⟩,
   ⟨SS .destage .opened, atK, List.replicate 10 .valid, strp .destage .opened, by decide +kernel⟩,
   ⟨SS .destage .closed, K1, strp .destage .closed, by decide +kernel⟩,
   ⟨SS .destage .closed, K1, strp .destage .closed, bn .inUse, [(0, [1, 2]), (1, [1, 2, 3])], by decide +kernel⟩,
   ⟨(SS .destage .closed).strUpd (fun x => { x with lostTable := [4096] }), by decide +kernel⟩,
   ⟨RUN.sets [(Fld.STR_CTRL_ENABLE,0,1),(Fld.STR_CTRL_PATROL_EN,0,1)], by decide +kernel⟩,
   ⟨(SS .destage .closed).sets [(Fld.STR_STATUS_PATROLLING,0,1)], K1, strp .destage .closed, bn .inUse, by decide +kernel⟩,
   ⟨(SS .destage .closed).sets [(Fld.STR_STATUS_PATROLLING,0,1)], K1, strp .destage .closed, bn .inUse, by decide +kernel⟩,
   ⟨((SS .destage .degraded).sets [(Fld.STR_CTRL_ENABLE,0,1),(Fld.STR_CTRL_REBUILD_EN,0,1)]).strUpd (fun x => { x with rebuild := [K1] }), K1, bn .inUse, by decide +kernel⟩⟩

open Sys2Proof.Tests.T in
theorem witness_SpanningStripesAreUpdated :
  (∃ (s : State) (o band row : Nat) (x : WriteOp) (a : NsKv), s.ops.look o = some x ∧ s.kvs.ns.look x.nsid = some a ∧ x.accepted = true ∧ x.span = true ∧ a.span = true ∧ s.str.spans.has (spanId x.pg band row) = false ∧ s.admittedPend Blk.PJM = false) ∧
  (∃ (s : State) (m : SpanMsg), m.crcOk = true ∧ m.op = 2 ∧ s.str.spanStep.look (m.stripe * 32 + m.member) ≠ some m.step ∧ s.str.spanIn.has (m.stripe * 32 + m.member) = false ∧ s.adm.nss.has spanNs = true) ∧
  (∃ (s : State) (m : SpanMsg), m.crcOk = true ∧ m.op < 3 ∧ s.str.spanStep.look (m.stripe * 32 + m.member) = some m.step) ∧
  (∃ (s : State) (m : SpanMsg), m.crcOk = true ∧ m.op < 2 ∧ s.str.spanStep.look (m.stripe * 32 + m.member) = none) ∧
  (∃ (s : State) (m : SpanMsg) (u : SpanUpd) (j : Nat), s.str.spans.look m.stripe = some u ∧ m.crcOk = true ∧ m.op = 3 ∧ m.step = u.step ∧ u.members.mem m.member = true ∧ m.status = STS_OK ∧ u.members.mem j = true ∧ j ≠ m.member ∧ u.acked.mem j = false ∧ u.failed.mem j = false) ∧
  (∃ (s : State) (k : Nat) (u : SpanUpd), s.str.spans.look k = some u ∧ u.sent = true ∧ u.members.filter (fun m => !u.acked.mem m && !u.failed.mem m) ≠ [] ∧ u.tries < s.rd Fld.STR_SPAN_CFG_RETRIES ∧ s.aon.leaseEnd = none) :=
  ⟨⟨SPW, 4, 3, 0, spw, kva, by decide +kernel⟩,
   ⟨{ RUN with adm := { RUN.adm with nss := [(spanNs, nsD true)] } }, smsg 2 0, by decide +kernel⟩,
   ⟨RUN.strUpd (fun x => { x with spanStep := [(K1 * 32 + 1, 5)] }), smsg 1 0, by decide +kernel⟩,
   ⟨RUN, smsg 1 0, by decide +kernel⟩,
   ⟨RUN.strUpd (fun x => { x with spans := [(K1, spu)] }), smsg 3 0, spu, 2, by decide +kernel⟩,
   ⟨(RUN.sets [(Fld.STR_SPAN_CFG_RETRIES,0,3),(Fld.STR_SPAN_CFG_ACK_TMO_US,0,100)]).strUpd (fun x => { x with spans := [(K1, spu)] }), K1, spu, by decide +kernel⟩⟩

namespace Sys2Proof.Tests.U
def K1 : Nat := 7 + 65536 * 3
def bn (b : BandSt) : Band := { d := 8, p := 2, kind := .destage, slc := false, short := false, members := [5, 6, 2, 3, 4, 1, 0, 7, 128, 129], rows := 4, tClose := 0, st := b, heldPass := 0, waits := [], eraseLeft := [], pins := [] }
def GX (b : BandSt) (x : StripeSt) : State := ((ns7 LH).sets [(Fld.GCX_CTRL_ENABLE,0,1)]).strUpd (fun a => { a with stripes := [(K1, strp .destage x)], bands := [(K1, bn b)] })
def at9 : StripeAt := { pg := 7, band := 9, row := 1, slc := false, members := [128*5, 128*6+1, 2,3,4,5,6,7,8,9] }
def srcA : Nat := 5 + 64 * 2^52
def leafA : Leaf := { kind := 1, voff := 0, birth := 0, addr := srcA, wseq := 3, idx := none, stamp := 0 }
def chk7 : Chunk := { chk with stripe := K1 }
def mvv (r : Bool) : GcxMove := { src := 4096, dst := 8192, stripe := K1, recorded := r }
end Sys2Proof.Tests.U
open Sys2Proof.Tests.U in
theorem witness_BandsAreReclaimed :
  (∃ (s : State) (k : Nat) (b : Band) (l : List GcxWork), s.admittedPend Blk.GCX = false ∧ s.rdb Fld.GCX_CTRL_ENABLE = true ∧ s.gcx.work = ⟨1, k⟩ :: l ∧ s.eligible k = true ∧ s.str.bands.look k = some b ∧ s.tableFull = false ∧ s.victimFits k = true) ∧
  (∃ (s : State) (k : Nat) (b : Band), s.str.bands.look k = some b ∧ b.st = .claimed ∧ s.ownsPg (k % 65536) = true ∧ s.liveChunks k = []) ∧
  (∃ (s : State) (k src d : Nat) (b : Band) (c : Chunk) (a : StripeAt) (y : Stripe), s.str.bands.look k = some b ∧ b.st = .claimed ∧ s.ownsPg (k % 65536) = true ∧ s.liveChunks k = [(src, c)] ∧ s.gcx.moves = [] ∧ a.pg = k % 65536 ∧ bandOf a.id ≠ k ∧ s.stripe a.id = some y ∧ y.kind = .reloc ∧ y.st = .opened ∧ y.full = false ∧ s.idxOfChunk src = none ∧ (s.adm.nss.look c.nsid).any (fun n => n.dedup) = false ∧ s.map.chunks.has (putBits (putBits d 52 11 (bitsOf src 52 11)) 63 1 (bitsOf src 63 1)) = false) ∧
  (∃ (s : State) (k h : Nat) (y : Stripe) (m : GcxMove) (e : IdxEntry) (c : Chunk), s.stripe k = some y ∧ y.kind = .reloc ∧ y.st = .closed ∧ s.gcx.moves = [m] ∧ m.stripe = k ∧ m.recorded = false ∧ s.idxOfChunk m.src = some (h, e) ∧ s.map.chunks.look m.src = some c ∧ s.admittedPend Blk.PJM = false) ∧
  (∃ (s : State) (k : Nat) (b : Band), s.str.bands.look k = some b ∧ b.st = .copied ∧ b.waits = [] ∧ b.pins = [] ∧ s.gcx.table = [] ∧ s.gcx.moves.all (fun m => m.recorded) = true) ∧
  (∃ (s : State) (k : Nat) (b : Band), s.str.bands.look k = some b ∧ b.st = .erasable ∧ s.ownsPg (k % 65536) = true ∧ s.liveChunks k = [] ∧ b.members ≠ [] ∧ (s.block (b.members.getD 0 0)).bad = false) ∧
  (∃ (s : State), s.rdb Fld.GCX_CTRL_ENABLE = true ∧ s.gcx.sweeping = false ∧ s.admittedPend Blk.PJM = false) ∧
  (∃ (s : State) (k : Nat) (b : Band), s.gcx.sweeping = true ∧ s.gcx.sweepRecs = [] ∧ s.str.bands.look k = some b ∧ b.st = .held ∧ b.heldPass < s.gcx.passes) ∧
  (∃ (s : State) (k : Nat) (b : Band), s.rdb Fld.GCX_CTRL_ENABLE = true ∧ s.str.bands = [(k, b)] ∧ b.kind ≠ .metadata ∧ s.eligible k = true ∧ s.stripesOf k ≠ [] ∧ s.liveChunks k = [] ∧ b.members ≠ [] ∧ (s.block (b.members.getD 0 0)).bad = false) ∧
  (∃ (s : State) (k : Nat) (b : Band), s.str.bands = [(k, b)] ∧ b.st = .claimed ∧ b.slc = true ∧ b.kind = .buffer ∧ s.ownsPg (k % 65536) = true ∧ s.liveChunks k = []) :=
  ⟨⟨(GX .inUse .closed).gcxUpd (fun g => { g with work := [⟨1, K1⟩, ⟨3, K1⟩] }), K1, bn .inUse, [⟨3, K1⟩], by decide +kernel⟩,
   ⟨GX .claimed .closed, K1, bn .claimed, by decide +kernel⟩,
   ⟨((GX .claimed .closed).strUpd (fun x => { x with stripes := x.stripes.put at9.id (strp .reloc .opened) })).mapUpd (fun m => { m with chunks := [(srcA, chk7)], leaves := [(leafKey 1 0 10, [leafA])] }), K1, srcA, 9, bn .claimed, chk7, at9, strp .reloc .opened, by decide +kernel⟩,
   ⟨(((GX .claimed .closed).strUpd (fun x => { x with stripes := [(K1, strp .reloc .closed)] })).mapUpd (fun m => { m with chunks := [(4096, { chk7 with stripe := 99 })] })).gcxUpd (fun g => { g with moves := [mvv false] }) |>.ddpUpd (fun x => { x with idx := [(3, ixe)] }), K1, 3, strp .reloc .closed, mvv false, ixe, { chk7 with stripe := 99 }, by decide +kernel⟩,
   ⟨(GX .copied .closed).gcxUpd (fun g => { g with moves := [mvv true] }), K1, bn .copied, by decide +kernel⟩,
   ⟨GX .erasable .closed, K1, bn .erasable, by decide +kernel⟩,
   ⟨GX .erasable .closed, by decide +kernel⟩,
   ⟨(GX .held .closed).gcxUpd (fun g => { g with sweeping := true, passes := 2 }), K1, bn .held, by decide +kernel⟩,
   ⟨GX .inUse .closed, K1, bn .inUse, by decide +kernel⟩,
   ⟨(GX .claimed .closed).strUpd (fun x => { x with bands := [(K1, { bn .claimed with slc := true, kind := .buffer })] }), K1, { bn .claimed with slc := true, kind := .buffer }, by decide +kernel⟩⟩

namespace Sys2Proof.Tests.V
def qpe : Qp := { st := .rts, consumer := 2, tenant := 5, engine := 0, expPsn := 1, nakSent := false, msg := none, una := 2, nxt := 3, retries := 0, rnrs := 0, ackTimeout := 14, retryCnt := 7, rnrRetry := 7, timer := none, rate := Frac.int 1000, line := 4000, probe := none, probeAt := 0, lastSend := 0, missing := none, faultAt := none, rnrWait := false }
def erec (op seq : Nat) : EnoreRec := { opcode := op, ifAbsent := false, ifPresent := false, ifVersion := false, remote := false, fua := true, excl := false, rsvd := false, keyLen := 4, seq := seq, epoch := 0, nsid := 1, len := 200, addr := 64, arg := 0, key := 0x1234, areaOk := true }
def scmd (op : Nat) : SessCmd := { slot := 2, e := erec op 5, replayed := false, follows := false, stores := true, routed := true, started := false, owner := 0 }
def sss (cs : Assoc SessCmd) (rs : List SessResp) : Sess := { client := 77, nsid := 1, tenant := 5, qp := 6, slotsLog2 := 4, evtLog2 := 4, respImm := true, respAddr := 0, window := 3, attached := true, cmds := cs, nextCmd := 4, resps := rs, evtSeq := 0, lastUse := 1000, closedAt := none }
def srsp : SessResp := { slot := 2, seq := 5, status := 0, replayed := false, ending := false, opcode := opGet, owner := 0, vlen := 0, written := 0, version := 0, tA := 0 }
def sreq : SessReq := { client := 77, session := 9, nsid := 1, qp := 6, slotsLog2 := 4, evtLog2 := 4, respImm := true, vareaKib := 64, respAddr := 0, respRkey := 0 }
/-- Enore runs: namespace 1 of tenant 5, queue pair 6 in RTS, session 9 -/
def EN (x : Option Sess) : State := ((((NS true LH).sets [(Fld.KVS_CTRL_ENABLE,0,1),(Fld.RDM_CTRL_ENABLE,0,1),(Fld.KVS_LIMITS_MAX_SESS,0,8)]).rdmUpd (fun r => { r with qps := [(6, qpe)] })).kvsUpd (fun k => { k with sessions := match x with | some y => [(9, y)] | none => [] })).winPut (65536 + 9) ((RWin.fresh 64 0 77).take 5)
def leaseRunOff (s : State) : State := { s with aon := { s.aon with leaseEnd := none } }
def EN0 (x : Option Sess) : State := leaseRunOff (EN x)
def ENC (op : Nat) : State := EN (some (sss [(3, scmd op)] []))
def crv : Caravan := { peer := 12, buckets := [4, 5], epoch := 0, tc := 0, since := 0, reserve := [], batch := 2, keys := [] }
def CV (out : Option Caravan) (ph : Nat) : State := ((leaseRunOff (EN none)).sets [(Fld.KVS_STATUS_OUT_PHASE,0,ph)]).kvsUpd (fun k => { k with outC := out })
def CI (c : Option Caravan) (ph : Nat) : State := ((leaseRunOff (EN none)).sets [(Fld.KVS_STATUS_IN_PHASE,0,ph)]).kvsUpd (fun k => { k with inC := c })
def BB : Nat := (ns7 LH |>.kvsUpd (fun k => { k with ns := [(1, { cluster := true, span := false, hashLen := 0, k := 0, m := 0, nset := 0, entries := [] })] })).bucketOf 1 0x1234 4
def brc : BatchRec := { kind := 4, nsid := 1, laddr := 0, len := 100, key := 0x1234, keyLen := 4, data := [7], srcWseq := 3, tA := 9, version := 44 }
def bat (seq : Nat) (last : Bool) (r : List BatchRec) : Batch := { kind := 1, srcArray := 12, link := 0, cut := 0, base := 0, seq := seq, last := last, status := 0, crcOk := true, records := r }
end Sys2Proof.Tests.V
open Sys2Proof.Tests.V in
theorem witness_SessionsAndPlacementEpochs :
  (∃ (s : State) (r : SessReq) (q : Qp) (i : Nat), s.enabled Blk.KVS = true ∧ s.qpReady r.qp = some q ∧ s.sessRefusal r q.tenant = none ∧ s.freeWin = some i ∧ s.admittedPend Blk.PJM = false) ∧
  (∃ (s : State) (r : SessReq) (q : Qp) (st : Nat), s.enabled Blk.KVS = true ∧ s.qpReady r.qp = some q ∧ s.sessRefusal r q.tenant = some st) ∧
  (∃ (s : State) (r : SessReq) (q : Qp) (i : Nat) (x : Sess) (w : RWin), s.enabled Blk.KVS = true ∧ s.qpReady r.qp = some q ∧ s.sessRefusal r q.tenant = none ∧ s.freeWin = some i ∧ s.sess r.session = some x ∧ x.attached = false ∧ s.wins.look (winSession r.session) = some w) ∧
  (∃ (s : State) (k : Nat) (x : Sess) (r : SessResp) (l : List SessResp) (q : Qp), s.sess k = some x ∧ x.resps = r :: l ∧ x.attached = true ∧ r.slot < 2 ^ 13 ∧ s.qpReady x.qp = some q ∧ r.opcode ≠ opClose) ∧
  (∃ (s : State) (k : Nat) (x : Sess), s.sess k = some x ∧ s.rd Fld.KVS_ENORE_IDLE_S ≠ 0 ∧ x.closedAt = none ∧ x.cmds = [] ∧ x.resps = [] ∧ s.aon.leaseEnd = none) ∧
  (∃ (s : State) (k at_ : Nat) (x : Sess), s.sess k = some x ∧ x.closedAt = some at_ ∧ x.cmds = [] ∧ s.aon.leaseEnd = none) ∧
  (∃ (s : State) (e : Nat), s.rd Fld.KVS_EPOCH_EPOCH < e) ∧
  (∃ (s : State) (b a at_ : Nat) (p : Bool), s.kvs.updates.look (s.rd Fld.KVS_EPOCH_EPOCH + 1) = some ⟨at_, [.bucket b a p]⟩ ∧ s.kvs.outC = none ∧ s.kvs.inC = none ∧ s.aon.leaseEnd = none) ∧
  (∃ (s : State), s.epochsKnown = false) ∧
  (∃ (s : State) (e : Nat), s.epochsKnown = false ∧ s.kvs.sessions = [] ∧ s.rd Fld.KVS_EPOCH_EPOCH < e) ∧
  (∃ (s : State) (at_ : Nat), s.enabled Blk.KVS = true ∧ s.isAuthority = true ∧ s.ctNs + s.rd Fld.KVS_CARAVAN_LEAD_MS * 1000000 ≤ at_) ∧
  (∃ (s : State), s.enabled Blk.KVS = true ∧ s.isAuthority = true) :=
  ⟨⟨EN none, sreq, qpe, 0, by decide +kernel⟩,
   ⟨EN none, { sreq with slotsLog2 := 20 }, qpe, STS_BAD_DESCRIPTOR, by decide +kernel⟩,
   ⟨EN (some { sss [] [] with attached := false }), sreq, qpe, 0, { sss [] [] with attached := false }, (RWin.fresh 64 0 77).take 5, by decide +kernel⟩,
   ⟨EN (some (sss [] [srsp])), 9, sss [] [srsp], srsp, [], qpe, by decide +kernel⟩,
   ⟨(EN0 (some (sss [] []))).sets [(Fld.KVS_ENORE_IDLE_S,0,10)], 9, sss [] [], by decide +kernel⟩,
   ⟨(EN0 (some { sss [] [] with closedAt := some 50 })).sets [(Fld.KVS_LIMITS_KEEP_S,0,10)], 9, 50, { sss [] [] with closedAt := some 50 }, by decide +kernel⟩,
   ⟨EN none, 3, by decide +kernel⟩,
   ⟨(EN0 none).kvsUpd (fun k => { k with updates := [(1, ⟨500, [.bucket 4 12 true]⟩)] }), 4, 12, 500, true, by decide +kernel⟩,
   ⟨(EN none).kvsUpd (fun k => { k with seenEpoch := 3 }), by decide +kernel⟩,
   ⟨(EN none).kvsUpd (fun k => { k with seenEpoch := 3 }), 1, by decide +kernel⟩,
   ⟨(EN none).sets [(Fld.KVS_AUTH_A0,0,0)], 10^13, by decide +kernel⟩,
   ⟨(EN none).sets [(Fld.KVS_AUTH_A0,0,0)], by decide +kernel⟩⟩

open Sys2Proof.Tests.V in
theorem witness_EnoreCommandsRun :
  (∃ (s : State) (k imm : Nat) (e : EnoreRec) (x : Sess) (w : RWin), s.enabled Blk.KVS = true ∧ s.sess k = some x ∧ x.attached = true ∧ s.admittedPend Blk.KVS = false ∧ imm / 65536 % 256 = 0 ∧ x.busy (imm % 4096 % 2 ^ x.slotsLog2) = false ∧ e.opcode = opPut ∧ e.epoch ≤ s.rd Fld.KVS_EPOCH_EPOCH ∧ s.recordStatus x e = none ∧ s.KeyHere e.nsid e.key e.keyLen ∧ s.wins.look (winSession k) = some w ∧ w.judge e.seq = .free) ∧
  (∃ (s : State) (k n : Nat) (x : Sess) (c : SessCmd), s.EnoreGo k n x c opPut) ∧
  (∃ (s : State) (k n : Nat) (x : Sess) (c : SessCmd), s.EnoreGo k n x c opDelete) ∧
  (∃ (s : State) (k n : Nat) (x : Sess) (c : SessCmd), s.EnoreGo k n x c opGet ∧ s.ServesRead (.enore k n) c.e.nsid (.get c.e.key c.e.keyLen c.e.len)) ∧
  (∃ (s : State) (k n : Nat) (x : Sess) (c : SessCmd) (l : ListReq), s.EnoreGo k n x c opList ∧ l = { bucket := c.e.arg % 2 ^ 20, key := c.e.key, keyLen := c.e.keyLen, excl := c.e.excl, all := false, len := c.e.len } ∧ s.ServesRead (.enore k n) c.e.nsid (.list l)) ∧
  (∃ (s : State) (k n : Nat) (x : Sess) (c : SessCmd), s.EnoreGo k n x c opExist ∧ s.ServesRead (.enore k n) c.e.nsid (.exist c.e.key c.e.keyLen)) ∧
  (∃ (s : State) (k n : Nat) (x : Sess) (c : SessCmd), s.EnoreGo k n x c opState ∧ x.cmds = [(n, c)] ∧ 160 ≤ c.e.len) ∧
  (∃ (s : State) (k n : Nat) (x : Sess) (c : SessCmd), s.EnoreGo k n x c opClose) :=
  ⟨⟨EN (some (sss [] [])), 9, 2, erec opPut 6, sss [] [], (RWin.fresh 64 0 77).take 5, by decide +kernel⟩,
   ⟨ENC opPut, 9, 3, sss [(3, scmd opPut)] [], scmd opPut, by decide +kernel⟩,
   ⟨ENC opDelete, 9, 3, sss [(3, scmd opDelete)] [], scmd opDelete, by decide +kernel⟩,
   ⟨ENC opGet, 9, 3, sss [(3, scmd opGet)] [], scmd opGet, by decide +kernel⟩,
   ⟨ENC opList, 9, 3, sss [(3, scmd opList)] [], scmd opList, { bucket := 0, key := 0x1234, keyLen := 4, excl := false, all := false, len := 200 }, by decide +kernel⟩,
   ⟨ENC opExist, 9, 3, sss [(3, scmd opExist)] [], scmd opExist, by decide +kernel⟩,
   ⟨ENC opState, 9, 3, sss [(3, scmd opState)] [], scmd opState, by decide +kernel⟩,
   ⟨ENC opClose, 9, 3, sss [(3, scmd opClose)] [], scmd opClose, by decide +kernel⟩⟩

open Sys2Proof.Tests.V in
theorem witness_CaravansFollowTable156 :
  (∃ (s : State), s.enabled Blk.KVS = true ∧ (s.aon.side == .b && s.linkUp) = false) ∧
  (∃ (s : State) (mf a b : Nat) (l : List Nat), s.enabled Blk.KVS = true ∧ (s.aon.side == .b && s.linkUp) = false ∧ s.rdb Fld.KVS_CTRL_BAL_EN = true ∧ s.kvs.outC = none ∧ mf + s.rd Fld.KVS_BAL_SKEW_PCT * 10000 < s.fillPpm ∧ s.rankBuckets s.bucketBytes = b :: l ∧ a ≠ s.arrayId) ∧
  (∃ (s : State), s.enabled Blk.KVS = true ∧ s.rdb Fld.KVS_CTRL_CARAVAN_IN = false) ∧
  (∃ (s : State) (n : Nat) (l : List Nat), s.enabled Blk.KVS = true ∧ s.rdb Fld.KVS_CTRL_CARAVAN_IN = true ∧ s.kvs.inC = none ∧ l ≠ [] ∧ (∀ e ∈ s.proposalNeed l n, e.2 ≤ s.pgRoom (s.pg e.1) ∧ s.setState (s.pg e.1).oset = setOwned)) ∧
  (∃ (s : State) (c : Caravan), s.kvs.outC = some c ∧ s.rd Fld.KVS_STATUS_OUT_PHASE = 1) ∧
  (∃ (s : State) (c : Caravan) (b : Batch) (r : BatchRec), s.rd Fld.KVS_STATUS_IN_PHASE = 2 ∧ s.kvs.inC = some c ∧ b.crcOk = true ∧ b.srcArray = c.peer ∧ b.kind = 1 ∧ c.batch < b.seq ∧ b.records = [r] ∧ r.kind = 4) ∧
  (∃ (s : State) (c : Caravan) (e at_ : Nat), s.kvs.outC = some c ∧ s.rd Fld.KVS_STATUS_OUT_PHASE = 2 ∧ ((s.rangeRecords c (max 1 c.since)).map (fun r => r.len)).sum < s.rd Fld.KVS_CARAVAN_DELTA_MIB * 1048576 ∧ s.rd Fld.KVS_EPOCH_EPOCH < e ∧ s.ctNs + s.rd Fld.KVS_CARAVAN_LEAD_MS * 1000000 ≤ at_) ∧
  (∃ (s : State) (c : Caravan), s.kvs.outC = some c ∧ s.rd Fld.KVS_STATUS_OUT_PHASE = 4 ∧ s.ops = [] ∧ s.wins = []) ∧
  (∃ (s : State) (c : Caravan) (b : Batch), s.kvs.inC = some c ∧ s.rd Fld.KVS_STATUS_IN_PHASE = 4 ∧ b.crcOk = true ∧ b.srcArray = c.peer ∧ b.last = true ∧ b.records = []) ∧
  (∃ (s : State) (c : Caravan) (b : Batch), s.kvs.inC = some c ∧ s.rd Fld.KVS_STATUS_IN_PHASE = 5 ∧ s.ops = [] ∧ b.records = [] ∧ s.kvs.held = []) ∧
  (∃ (s : State) (c : Caravan), s.kvs.outC = some c ∧ s.rd Fld.KVS_STATUS_OUT_PHASE = 5 ∧ s.clusterKeys = []) ∧
  (∃ (s : State) (c : Caravan), s.kvs.outC = some c ∧ s.rd Fld.KVS_STATUS_OUT_PHASE = 1) ∧
  (∃ (s : State) (c : Caravan), s.kvs.inC = some c ∧ s.rd Fld.KVS_STATUS_IN_PHASE = 2) ∧
  (∃ (s : State) (k n at_ : Nat) (l : List HeldReq) (x : Sess) (c : SessCmd), s.kvs.held = ⟨.enore k n, at_⟩ :: l ∧ s.sess k = some x ∧ x.cmds.look n = some c ∧ s.aon.leaseEnd = none) :=
  ⟨⟨EN none, by decide +kernel⟩,
   ⟨((({ ns7 LH with pgs := [(7, { pg7 with free := 100 })] }).sets [(Fld.KVS_CTRL_ENABLE,0,1),(Fld.KVS_CTRL_BAL_EN,0,1),(Fld.KVS_BAL_SKEW_PCT,0,10),(Fld.KVS_BAL_MAX_BUCKETS,0,4),(Fld.FLC_GEOM_PAGES,0,1000)]).kvsUpd (fun k => { k with ns := [(1, { cluster := true, span := false, hashLen := 0, k := 0, m := 0, nset := 0, entries := [] })], pgmap := [(BB, 7)] })).mapUpd (fun m => { m with kv := [(kvKey 1 7 0x1234 4, [{ present := true, vlen := 100, valueId := 4, chunks := 1, wseq := 3, stamp := 9 }])] }), 1000, 12, BB, [], by decide +kernel⟩,
   ⟨(EN none).sets [(Fld.KVS_CTRL_CARAVAN_IN,0,0)], by decide +kernel⟩,
   ⟨{ ((EN none).sets [(Fld.KVS_CTRL_CARAVAN_IN,0,1)]).kvsUpd (fun k => { k with pgmap := [(4, 7), (5, 7)] }) with pgs := [(7, pg7)] }, 100000, [4, 5], by decide +kernel⟩,
   ⟨CV (some crv) 1, crv, by decide +kernel⟩,
   ⟨CI (some crv) 2, crv, bat 3 false [brc], brc, by decide +kernel⟩,
   ⟨(CV (some crv) 2).sets [(Fld.KVS_CARAVAN_DELTA_MIB,0,1)], crv, 1, 10^13, by decide +kernel⟩,
   ⟨{ CV (some crv) 4 with wins := [] }, crv, by decide +kernel⟩,
   ⟨CI (some crv) 4, crv, bat 3 true [], by decide +kernel⟩,
   ⟨CI (some crv) 5, crv, bat 3 true [], by decide +kernel⟩,
   ⟨CV (some crv) 5, crv, by decide +kernel⟩,
   ⟨CV (some crv) 1, crv, by decide +kernel⟩,
   ⟨CI (some crv) 2, crv, by decide +kernel⟩,
   ⟨(EN0 (some (sss [(3, scmd opGet)] []))).kvsUpd (fun k => { k with held := [⟨.enore 9 3, 50⟩] }), 9, 3, 50, [], sss [(3, scmd opGet)] [], scmd opGet, by decide +kernel⟩⟩

namespace Sys2Proof.Tests.W
def pols (s : State) (k l : Nat) : State := { s.sets [(Fld.MTE_CTRL_ENABLE,0,1),(Fld.MTE_TBL_CFG_ENABLE,2,1),(Fld.MTE_TBL_CFG_NSEG,2,1),(Fld.MTE_TBL_CFG_CONSUMER,2,Blk.SNP)] with mte := { entries := [(3, { data := 0, care := 0, prio := 3, result := k + 32 * l, valid := true })], queue := [] } }
/-- SNP runs; namespace 1 is owned here -/
def SN (l : List (Field × Nat × Nat)) : State := (ns7 LH).sets ([(Fld.SNP_CTRL_ENABLE,0,1),(Fld.SNP_CMD_ARG_NSID,0,1)] ++ l)
def SN0 : State := { SN [] with aon := { RUN.aon with leaseEnd := none } }
def cte (st : Nat) : CatEntry := { CatEntry.cutAt 1 500 0 false with state := st }
def withCat (s : State) (l : Assoc CatEntry) : State := s.snpUpd (fun x => { x with cat := l, nextEpoch := 9 })
def lnk : Link := { base := 0, baseEpoch := 0, nextBatch := 4, sent := [], shipping := none, cr := none, lastReply := 0, rttNs := 0 }
def rpl : Replica := { srcArray := 12, link := 3, applied := [], doneTo := 0, last := none, partial_ := false, sync := false, srcWseq := [], lastCut := 0 }
def bt (k : Nat) (l : Bool) (r : List BatchRec) : Batch := { kind := k, srcArray := 12, link := 3, cut := 0, base := 0, seq := 4, last := l, status := 0, crcOk := true, records := r }
def blr : BatchRec := { kind := 1, nsid := 1, laddr := 10, len := 1, key := 0, keyLen := 0, data := [7], srcWseq := 3, tA := 9, version := 44 }
def snt (k : Nat) (l : Bool) : SentBatch := { b := bt k l [], at_ := 50, firstAt := 50, op := none }
def LNK (st : Nat) (x : Link) : State := ((pols SN0 0 3).sets [(Fld.SNP_RLINK_STAT_STATE,3,st),(Fld.SNP_RLINK_ARRAY,3,12),(Fld.SNP_RLINK_SYNC_TMO_US,3,100)]).snpUpd (fun y => { y with links := [(3, x)] })
end Sys2Proof.Tests.W
open Sys2Proof.Tests.W in
theorem witness_SnapshotsAndCuts :
  (∃ (s : State) (ns : Nat), s.SnpTakes ns ∧ s.spanNs ns = false ∧ s.snp.replicas.has ns = false ∧ s.ctNs + s.rd Fld.SNP_CFG_LEAD_MS * 1000000 ≤ s.rd Fld.SNP_CMD_ARG_T ∧ s.epochLimit ns = false) ∧
  (∃ (s : State) (ns : Nat), s.SnpTakes ns ∧ s.spanNs ns = false ∧ s.snp.replicas.has ns = false ∧ s.rd Fld.SNP_CMD_ARG_T < s.ctNs + s.rd Fld.SNP_CFG_LEAD_MS * 1000000) ∧
  (∃ (s : State) (ns e : Nat) (c : CatEntry), s.SnpTakes ns ∧ s.rd Fld.SNP_CMD_ARG_EPOCH = e ∧ s.cat e = some c ∧ c.nsid = ns ∧ c.cloneSrc = false ∧ c.linkBase = false ∧ c.expose = 0 ∧ c.state = epReady) ∧
  (∃ (s : State) (ns e : Nat) (c : CatEntry), s.SnpTakes ns ∧ s.rd Fld.SNP_CMD_ARG_EPOCH = e ∧ s.cat e = some c ∧ c.nsid = ns ∧ (c.cloneSrc = true ∨ c.linkBase = true ∨ c.expose ≠ 0)) ∧
  (∃ (s : State) (ns e : Nat) (c : CatEntry), s.SnpTakes ns ∧ s.rd Fld.SNP_CMD_ARG_EPOCH = e ∧ s.cat e = some c ∧ c.nsid = ns ∧ c.state = epReady ∧ s.adm.nss.has (s.rd Fld.SNP_CMD_ARG_NEW_NSID) = false ∧ s.rd Fld.SNP_CMD_ARG_NEW_NSID ≠ 0 ∧ s.epochLimit (s.rd Fld.SNP_CMD_ARG_NEW_NSID) = false) ∧
  (∃ (s : State) (ns : Nat), s.SnpTakes ns ∧ s.snp.replicas.has ns = true) ∧
  (∃ (s : State) (ns e : Nat) (c : CatEntry), s.SnpTakes ns ∧ s.rd Fld.SNP_CMD_ARG_EPOCH = e ∧ s.cat e = some c ∧ c.nsid = ns ∧ c.state = epReady ∧ c.expose = 0 ∧ s.adm.nss.has (s.rd Fld.SNP_CMD_ARG_NEW_NSID) = false ∧ s.rd Fld.SNP_CMD_ARG_NEW_NSID ≠ 0) ∧
  (∃ (s : State) (e : Nat) (c : CatEntry) (l : List FlushOf), s.snp.flushes = .create e :: l ∧ s.cat e = some c ∧ c.scheduled = false ∧ s.snp.heldNs.mem c.nsid = false) ∧
  (∃ (s : State) (e : Nat) (c : CatEntry) (l : List FlushOf), s.snp.flushes = .create e :: l ∧ s.cat e = some c ∧ c.scheduled = false) ∧
  (∃ (s : State) (e : Nat) (c : CatEntry) (l : List FlushOf), s.snp.flushes = .ready e :: l ∧ s.cat e = some c ∧ c.sched = 0) ∧
  (∃ (s : State) (e : Nat) (k : Bool) (l : List FlushOf), s.snp.flushes = .remove e k :: l) ∧
  (∃ (s : State) (e : Nat) (c : CatEntry), s.cat e = some c ∧ c.state = epPending ∧ c.armed = false ∧ s.ownsNs c.nsid = true ∧ s.snp.heldNs.mem c.nsid = false ∧ s.aon.leaseEnd = none) ∧
  (∃ (s : State) (e : Nat) (c : CatEntry), s.cat e = some c ∧ c.state = epPending ∧ c.armed = true ∧ s.ownsNs c.nsid = true ∧ e < s.snp.nextEpoch ∧ s.aon.leaseEnd = none) ∧
  (∃ (s : State) (e : Nat) (c : CatEntry), s.cat e = some c ∧ c.state = epSealing ∧ s.ownsNs c.nsid = true ∧ s.stampOpen c = false ∧ s.snp.flushes.any (fun f => f == .ready e) = false) ∧
  (∃ (s : State) (e : Nat) (c : CatEntry), s.cat e = some c ∧ s.stampOpen c = true) ∧
  (∃ (s : State) (k ns at_ : Nat) (n : Ns), s.enabled Blk.SNP = true ∧ 0 < k ∧ k < 32 ∧ s.admittedPend Blk.SNP = false ∧ s.adm.nss = [(ns, n)] ∧ (s.snpPolicy ns).1 = k ∧ s.ownsNs ns = true ∧ s.spanNs ns = false ∧ s.snp.replicas = [] ∧ s.snp.cat = [] ∧ s.schedDue ns = [at_]) :=
  ⟨⟨SN [(Fld.SNP_CMD_ARG_T,0,10^13),(Fld.SNP_CFG_LEAD_MS,0,10)], 1, by decide +kernel⟩,
   ⟨SN [(Fld.SNP_CFG_LEAD_MS,0,10)], 1, by decide +kernel⟩,
   ⟨withCat (SN [(Fld.SNP_CMD_ARG_EPOCH,0,3)]) [(3, cte epReady)], 1, 3, cte epReady, by decide +kernel⟩,
   ⟨withCat (SN [(Fld.SNP_CMD_ARG_EPOCH,0,3)]) [(3, { cte epReady with expose := 8 })], 1, 3, { cte epReady with expose := 8 }, by decide +kernel⟩,
   ⟨withCat (SN [(Fld.SNP_CMD_ARG_EPOCH,0,3),(Fld.SNP_CMD_ARG_NEW_NSID,0,8)]) [(3, cte epReady)], 1, 3, cte epReady, by decide +kernel⟩,
   ⟨(SN []).snpUpd (fun x => { x with replicas := [(1, rpl)] }), 1, by decide +kernel⟩,
   ⟨withCat (SN [(Fld.SNP_CMD_ARG_EPOCH,0,3),(Fld.SNP_CMD_ARG_NEW_NSID,0,8)]) [(3, cte epReady)], 1, 3, cte epReady, by decide +kernel⟩,
   ⟨(withCat SN0 [(3, cte epPending)]).snpUpd (fun x => { x with flushes := [.create 3] }), 3, cte epPending, [], by decide +kernel⟩,
   ⟨(withCat SN0 [(3, cte epPending)]).snpUpd (fun x => { x with flushes := [.create 3] }), 3, cte epPending, [], by decide +kernel⟩,
   ⟨(withCat SN0 [(3, cte epSealing)]).snpUpd (fun x => { x with flushes := [.ready 3] }), 3, cte epSealing, [], by decide +kernel⟩,
   ⟨(withCat SN0 [(3, cte epDeleting)]).snpUpd (fun x => { x with flushes := [.remove 3 true] }), 3, true, [], by decide +kernel⟩,
   ⟨withCat SN0 [(3, cte epPending)], 3, cte epPending, by decide +kernel⟩,
   ⟨withCat SN0 [(3, { cte epPending with armed := true })], 3, { cte epPending with armed := true }, by decide +kernel⟩,
   ⟨withCat SN0 [(3, cte epSealing)], 3, cte epSealing, by decide +kernel⟩,
   ⟨(withCat SN0 [(3, cte epSealing)]).withOps [(4, { wop with jseq := 9 })] |>.pjmUpd (fun p => { p with recs := [(9, jrec (.mapDelta [dlt]) 9)] }), 3, cte epSealing, by decide +kernel⟩,
   ⟨((pols SN0 2 0).sets [(Fld.SNP_SCHED_VALID,2,1),(Fld.SNP_SCHED_PERIOD_MS,2,1000)]), 2, 1, 0, nsD false, by decide +kernel⟩⟩

open Sys2Proof.Tests.W in
theorem witness_LinksShipAndRecover :
  (∃ (s : State) (l e ns : Nat) (x : Link) (c : CatEntry), s.enabled Blk.SNP = true ∧ s.admittedPend Blk.SNP = false ∧ s.snp.links.look l = some x ∧ s.linkNs l = some ns ∧ s.cat e = some c ∧ s.linkState l = linkAsync ∧ c.nsid = ns ∧ c.state = epReady ∧ x.shipping = none ∧ x.base < c.cut) ∧
  (∃ (s : State) (ns : Nat) (b : Batch) (r : BatchRec) (x : Replica), s.enabled Blk.SNP = true ∧ s.ownsNs ns = true ∧ b.crcOk = true ∧ b.kind = 3 ∧ s.snp.replicas.look ns = some x ∧ x.applied.mem b.seq = false ∧ b.records = [r] ∧ r.kind = 1 ∧ r.len = 1 ∧ x.srcWseq.look r.laddr = none) ∧
  (∃ (s : State) (l q cut e : Nat) (x : Link) (b : SentBatch), l < 32 ∧ s.snp.links.look l = some x ∧ x.sent.look q = some b ∧ b.b.kind = 2 ∧ b.b.last = true ∧ s.linkState l ≠ linkSuspended ∧ x.shipping = some (cut, e) ∧ x.cr = none ∧ s.cat x.baseEpoch = none ∧ x.baseEpoch ≠ e) ∧
  (∃ (s : State) (l q : Nat) (x : Link) (b : SentBatch), s.snp.links.look l = some x ∧ x.sent.look q = some b ∧ s.aon.leaseEnd = none) ∧
  (∃ (s : State) (o l : Nat) (x : WriteOp) (k : Link), s.ops.look o = some x ∧ s.syncLink x.nsid x.tA = some l ∧ x.accepted = true ∧ x.synced = false ∧ s.snp.links.look l = some k ∧ k.sent.any (fun e => e.2.op == some o) = false) ∧
  (∃ (s : State) (l q : Nat) (x : Link) (b : SentBatch), l < 32 ∧ s.snp.links.look l = some x ∧ x.sent.look q = some b ∧ b.b.kind = 3 ∧ s.linkState l = linkSync ∧ s.ops = [] ∧ s.aon.leaseEnd = none) ∧
  (∃ (s : State) (l ns : Nat) (x : Link), s.snp.links.look l = some x ∧ s.linkNs l = some ns ∧ s.linkState l = linkCatchup ∧ x.cr = none ∧ s.snp.flushes = [] ∧ s.pendingBytes l ns x < 67108864 ∧ s.epochLimit ns = false) ∧
  (∃ (s : State) (l : Nat) (x : Link), l < 32 ∧ s.snp.links.look l = some x ∧ s.linkState l = linkSync ∧ x.sent ≠ [] ∧ s.ops = [] ∧ s.aon.leaseEnd = none) ∧
  (∃ (s : State) (l ns : Nat) (x : Link), s.snp.links.look l = some x ∧ s.linkNs l = some ns ∧ s.aon.leaseEnd = none) :=
  ⟨⟨(withCat (LNK 1 lnk) [(3, cte epReady)]), 3, 3, 1, lnk, cte epReady, by decide +kernel⟩,
   ⟨(SN []).snpUpd (fun x => { x with replicas := [(1, rpl)] }), 1, bt 3 false [blr], blr, rpl, by decide +kernel⟩,
   ⟨withCat (LNK 1 { lnk with sent := [(4, snt 2 true)], shipping := some (500, 3) }) [(3, cte epReady)], 3, 4, 500, 3, { lnk with sent := [(4, snt 2 true)], shipping := some (500, 3) }, snt 2 true, by decide +kernel⟩,
   ⟨LNK 1 { lnk with sent := [(4, snt 2 true)] }, 3, 4, { lnk with sent := [(4, snt 2 true)] }, snt 2 true, by decide +kernel⟩,
   ⟨(LNK 3 lnk).withOps [(4, { wop with accepted := true })], 4, 3, { wop with accepted := true }, lnk, by decide +kernel⟩,
   ⟨LNK 3 { lnk with sent := [(4, snt 3 true)] }, 3, 4, { lnk with sent := [(4, snt 3 true)] }, snt 3 true, by decide +kernel⟩,
   ⟨withCat (LNK 2 lnk) [], 3, 1, lnk, by decide +kernel⟩,
   ⟨LNK 3 { lnk with sent := [(4, snt 3 true)] }, 3, { lnk with sent := [(4, snt 3 true)] }, by decide +kernel⟩,
   ⟨LNK 3 lnk, 3, 1, lnk, by decide +kernel⟩⟩

namespace Sys2Proof.Tests.X
def LP (l : List (Field × Nat × Nat)) : State := RUN.sets ([(Fld.LPE_CTRL_ENABLE,0,1),(Fld.LPE_LOOP_CTRL_ENABLE,5,1),(Fld.LPE_LOOP_STATE_STATE,5,loopRunning),(Fld.LPE_LOOP_FB_Y,5,3*65536),(Fld.LPE_LOOP_SP_SP,5,7*65536),(Fld.LPE_COEF_KP,5,65536),(Fld.LPE_LOOP_LIM_OUT_MAX,5,100*65536),(Fld.LPE_LOOP_RAMP_STEP,5,65536)] ++ l)
def agr : AgeRead := { pdm := [some 3], ro := [none], netMv := 50, islMv := 60, pcieMv := 70 }
end Sys2Proof.Tests.X
open Sys2Proof.Tests.X in
theorem witness_LoopsSampleAndAgeingSweeps :
  (∃ (s : State) (n : Nat) (y : Int), s.loopRuns n = true ∧ s.admittedPend Blk.LPE = false ∧ s.timeValid = false ∧ (s.loop n).busyUntil ≤ s.now ∧ (s.loop n).fresh = false ∧ (s.loop n).spNext = none ∧ s.rdb Fld.LPE_LOOP_CTRL_SWAP n = false ∧ s.rd Fld.LPE_SUP_N n = 0 ∧ s.rd Fld.LPE_LOOP_STATE_STATE n = loopRunning ∧ s.feedback n (some y) = some y ∧ sat32 y = y) ∧
  (∃ (s : State) (n : Nat), s.loopRuns n = true ∧ s.timeValid = false ∧ s.now < (s.loop n).busyUntil) ∧
  (∃ (s : State) (n : Nat), s.loopRuns n = true ∧ s.rdb Fld.LPE_LOOP_CFG_LOCAL n = true ∧ s.timeValid = false ∧ (s.loop n).localAt = none ∧ (s.loop n).busyUntil ≤ s.now ∧ s.admittedPend Blk.LPE = false ∧ s.rd Fld.LPE_SUP_N n = 0) ∧
  (∃ (s : State) (n : Nat), n < 64 ∧ s.rdb Fld.LPE_LOOP_CTRL_ENABLE n = true) ∧
  (∃ (n : Nat), n < 64) ∧
  (∃ (s : State), s.rdb Fld.AGE_CTRL_ENABLE = true ∧ s.admittedPend Blk.AGE = false) :=
  ⟨⟨(LP []).setLoop 5 { (LP []).loop 5 with fresh := false }, 5, 3*65536, by decide +kernel⟩,
   ⟨(LP []).setLoop 5 { (LP []).loop 5 with busyUntil := 100 }, 5, by decide +kernel⟩,
   ⟨LP [(Fld.LPE_LOOP_CFG_LOCAL,5,1)], 5, by decide +kernel⟩,
   ⟨LP [(Fld.LPE_LOOP_SAFE_OUT,5,9)], 5, by decide +kernel⟩,
   ⟨5, by decide +kernel⟩,
   ⟨RUN.sets [(Fld.AGE_CTRL_ENABLE,0,1)], by decide +kernel⟩⟩

theorem witness_DisabledTargetsTakeNoActionAsR74Says :
  ∃ (s : State) (i b : Nat), i < 16384 ∧ s.rd Fld.CAR_SLOT_STATE i = slotArmed ∧ s.timeValid = true ∧ s.slotNextDue i = true ∧ s.slotTarget i = some b ∧ s.enabled b = false :=
  ⟨RUN.sets [(Fld.CAR_SLOT_STATE,2,1),(Fld.CAR_STATUS_STATE,0,2),(Fld.CAR_SLOT_ACTION,2,3),(Fld.CAR_SLOT_BLOCK,2,20),(Fld.SNP_CTRL_ENABLE,0,0),(Fld.CAR_SLOT_PERIOD_NS,2,1000),(Fld.CAR_SLOT_INSTANT_NS,2,500)], 2, 20, by decide +kernel⟩

theorem witness_PauseWatchdogFollowsR110 :
  (∃ (s : State) (n prio t0 : Nat), n < 32 ∧ (s.port n).pausedSince.look prio = some t0 ∧ s.rd Fld.NET_PFC_WDOG_US n ≠ 0 ∧ s.gbk.staging.length < 4095) ∧
  (∃ (s : State) (n : Nat), s.rd Fld.NET_PFC_WDOG_US n = 0) :=
  ⟨⟨(RUN.sets [(Fld.NET_PFC_WDOG_US,31,5)]).netUpd (fun n => { n with ports := [(31, ⟨[], [], [(3, 10)], 0⟩)] }), 31, 3, 10, by decide +kernel⟩,
   ⟨RUN.netUpd (fun n => { n with ports := [(31, ⟨[], [], [(3, 10)], 0⟩)] }), 31, by decide +kernel⟩⟩

theorem witness_LockedInstructionsActAsBypassAsR530Says :
  (∃ (s : State), s.tapLocked = true) ∧
  (∃ (s : State), s.tapLocked = true) ∧
  (∃ (s : State), s.tapLocked = true) ∧
  (∃ (s : State), s.tapLocked = true) ∧
  (∃ (s : State), s.tapLocked = true) ∧
  (∃ (s : State), s.tapLocked = true) ∧
  (∃ (s : State), s.tapLocked = true) :=
  ⟨⟨RUN.dbgUpd (fun d => { d with fuses := { d.fuses with lock := true } }), by decide +kernel⟩,
   ⟨RUN.dbgUpd (fun d => { d with fuses := { d.fuses with lock := true } }), by decide +kernel⟩,
   ⟨RUN.dbgUpd (fun d => { d with fuses := { d.fuses with lock := true } }), by decide +kernel⟩,
   ⟨RUN.dbgUpd (fun d => { d with fuses := { d.fuses with lock := true } }), by decide +kernel⟩,
   ⟨RUN.dbgUpd (fun d => { d with fuses := { d.fuses with lock := true } }), by decide +kernel⟩,
   ⟨RUN.dbgUpd (fun d => { d with fuses := { d.fuses with lock := true } }), by decide +kernel⟩,
   ⟨RUN.dbgUpd (fun d => { d with fuses := { d.fuses with lock := true } }), by decide +kernel⟩⟩

theorem witness_FramesOfTimeHostAndFabricCommands :
  (∃ (slot : Nat), slot < 16384) ∧
  (∃ (ring : Nat), ring < 4096) ∧
  (∃ (index : Nat), index < 4096) ∧
  (∃ (fn : Nat), fn < 256) ∧
  (∃ (port : Nat), port < 32) ∧
  (∃ (pool : Nat), pool < 16) :=
  ⟨⟨16383, by decide⟩,
   ⟨4095, by decide⟩,
   ⟨4095, by decide⟩,
   ⟨255, by decide⟩,
   ⟨31, by decide⟩,
   ⟨15, by decide⟩⟩

theorem witness_FramesOfDataCommands :
  (∃ (target : Nat), target < 64) ∧
  (∃ (target : Nat), target < 16384) ∧
  (∃ (slot : Nat), slot < 16384) ∧
  (∃ (group : Nat), group < 16) :=
  ⟨⟨63, by decide⟩,
   ⟨16383, by decide⟩,
   ⟨16383, by decide⟩,
   ⟨15, by decide⟩⟩

theorem witness_FramesOfServiceCommands :
  (∃ (link : Nat), link < 32) ∧
  (∃ (loop : Nat), loop < 64) :=
  ⟨⟨31, by decide⟩,
   ⟨63, by decide⟩⟩

end
end

section
/-! PROOFS. The partner's head ID, the fence, the claims and the drivers (R8, R11, R12, R378, R382, R383). -/

namespace Sys2Proof.Machine

open Sys2Proof

/-! ## What the always-on logic holds -/

/-- A driver passes the gate exactly while its condition of R11 holds. -/
theorem Aon.mem_drivers_gate (a : Aon) (g : Nat) :
    a.gate.drivers.mem g = true ↔ a.drivers.mem g = true ∧ a.mayDrive g = true := by
  simp [Aon.gate, NatSet.mem]

/-- With the timer running and no fence, the always-on logic is the gate alone. -/
theorem Aon.settled_of_holds {a : Aon} (h : a.timerRuns = true) (hf : a.fenceIn = false) : a.settled = a.gate := by
  simp [Aon.settled, h, hf]

/-- No claim stands under the fence, or without the timer (R12, R378). -/
theorem Aon.settled_claimOut_nil {a : Aon} (h : a.timerRuns = false ∨ a.fenceIn = true) : a.settled.claimOut = [] := by
  have hc : ¬ (a.timerRuns && !a.fenceIn) = true := by rcases h with h | h <;> simp [h]
  simp [Aon.settled, hc, Aon.gate]

/-- A driver that stands at the end of a command stood before it settled, and R11's condition holds of it. -/
theorem Aon.mem_drivers_of_settled {a : Aon} {g : Nat} (h : a.settled.drivers.mem g = true) :
    a.drivers.mem g = true ∧ a.mayDrive g = true := by
  unfold Aon.settled at h
  split at h
  · exact (a.mem_drivers_gate g).1 h
  · rw [Aon.mem_drivers_gate] at h
    simp [Aon.mayDrive, NatSet.mem] at h

/-- A driver whose condition of R11 holds stands at the end of a command. -/
theorem Aon.mem_drivers_settled {a : Aon} {g : Nat} (hd : a.drivers.mem g = true) (hm : a.mayDrive g = true)
    (hf : a.fenceIn = false) : a.settled.drivers.mem g = true := by
  have ht : a.timerRuns = true := by
    simp only [Aon.mayDrive, Bool.and_eq_true] at hm
    exact hm.2
  rw [Aon.settled_of_holds ht hf]
  exact (a.mem_drivers_gate g).2 ⟨hd, hm⟩

theorem Aon.settled_driveOk (a : Aon) : a.settled.DriveOk := Aon.gate_driveOk _

theorem Aon.settled_claimOk (a : Aon) : a.settled.ClaimOk := by
  intro h
  have ht : a.timerRuns = true := by
    by_contra ht
    exact h (Aon.settled_claimOut_nil (.inl (by simpa using ht)))
  have hf : a.fenceIn = false := by
    by_contra hf
    exact h (Aon.settled_claimOut_nil (.inr (by simpa using hf)))
  exact ⟨by simpa [Aon.timerRuns] using ht, by simpa using hf⟩

/-- Without a claim nothing is driven (R11). -/
theorem Aon.DriveOk.drivers_nil {a : Aon} (h : a.DriveOk) (hc : a.claimOut = []) : a.drivers = [] := by
  refine List.eq_nil_iff_forall_not_mem.2 fun g hg => ?_
  have hm : a.claimOut.mem g = true := (h g (by simpa [NatSet.mem] using hg)).1
  simp [hc, NatSet.mem] at hm

/-- No claim before the end of a command, none after it, and nothing driven. -/
theorem Aon.settled_of_no_claim {a : Aon} (h : a.claimOut = []) : a.settled.drivers = [] ∧ a.settled.claimOut = [] := by
  have hc : a.settled.claimOut = [] := by
    unfold Aon.settled
    split
    · exact h
    · rfl
  exact ⟨a.settled_driveOk.drivers_nil hc, hc⟩

/-! ## Every command ends, and leaves the head safe -/

/-- Every command's meaning is the end of a command on some state. -/
theorem exec_ends (c : Instr) (s : State) : ∃ u, exec c s = ended u := by
  cases c <;> exact ⟨_, rfl⟩

/-- What the always-on part of the head is after a command: as the always-on logic holds it. -/
theorem exec_settles {c : Instr} {s t : State} (h : exec c s = .next t) : ∃ a : Aon, t.aon = a.settled := by
  obtain ⟨u, hu⟩ := exec_ends c s
  rw [hu, ended_eq, Host.Outcome.next.injEq] at h
  exact ⟨u.aon, by rw [← h]⟩

/-- Every command leaves the head safe for the partner, whatever it found. -/
theorem exec_safe {c : Instr} {s t : State} (h : exec c s = .next t) : t.Safe := by
  obtain ⟨a, ha⟩ := exec_settles h
  exact ⟨ha ▸ a.settled_driveOk, ha ▸ a.settled_claimOk⟩

/-- A cycle in which no command waits ends like a command. -/
theorem idle_safe {s t : State} (h : s.idle = .next t) : t.Safe := by
  rw [State.idle, ended_eq, Host.Outcome.next.injEq] at h
  rw [← h]
  exact ⟨Aon.settled_driveOk _, Aon.settled_claimOk _⟩

theorem step_safe {s t : State} (h : step s = .next t) : t.Safe := by
  unfold step at h
  split at h
  · exact idle_safe h
  · exact exec_safe h

/-- Settles O5: the end of a command meets R11, R12 and R378 in whatever state its effect has left. -/
theorem everyStepKeepsTheHeadSafe : Obligations.EveryStepKeepsTheHeadSafe :=
  fun _ _ _ h => step_safe h

/-- Settles O50, by the same end of every command. -/
theorem driversObeyR11 : Obligations.DriversObeyR11 :=
  fun _ _ _ g h hg => (exec_safe h).1 g hg

/-! ## The fence -/

/-- `FENCE_IN_N` asserted drops every claim and every driver, and no more of the always-on part than that (R12). -/
theorem fenceInAsserted_completes (s : State) :
    Completes .fenceInAsserted s (fun t => t.aon.fenceIn = true ∧ t.aon.drivers = [] ∧ t.aon.claimOut = [] ∧
      t.rd Fld.OWN_ERR_FENCED = 1 ∧ t.aon.leaseEnd = s.aon.leaseEnd) := by
  refine Completes.of_ended (u := s.fenceAsserted) rfl ?_
  have hn := Aon.settled_of_no_claim (a := s.fenceAsserted.aon) rfl
  refine ⟨by simp; rfl, hn.1, hn.2, ?_, by simp; rfl⟩
  exact State.rd_wr_self _ Fld.OWN_ERR_FENCED 1 0 0

/-- While the fence is asserted at the end of a command, nothing is claimed and nothing driven. -/
theorem exec_fenced {c : Instr} {s t : State} (h : exec c s = .next t) (hf : t.aon.fenceIn = true) :
    t.aon.drivers = [] ∧ t.aon.claimOut = [] := by
  have hc : t.aon.claimOut = [] := by
    by_contra hc
    simp [((exec_safe h).2 hc).2] at hf
  exact ⟨(exec_safe h).1.drivers_nil hc, hc⟩

/-- Settles O51. -/
theorem theFenceHoldsAsR12Says : Obligations.TheFenceHoldsAsR12Says := by
  refine ⟨fun s => ?_, fun _ _ _ => exec_fenced, fun s h => ?_⟩
  · obtain ⟨t, ht, hf, hd, hc, -⟩ := fenceInAsserted_completes s
    exact ⟨t, ht, hf, hd, hc⟩
  · exact Completes.of_ended (u := s.fenceReleased) rfl ⟨by simp [State.fenceReleased], Aon.settled_of_no_claim h⟩

/-! ## The partner's claims and the settle time -/

/-- A record touches nothing of the always-on part (R457). -/
@[simp] theorem State.record_aon (s : State) (src code a0 a1 a2 : Nat) (alarm : Bool) :
    (s.record src code a0 a1 a2 alarm).aon = s.aon := by
  rw [State.record, (s.recordAt_frame src code a0 a1 a2 s.ctNs alarm).1]

/-- A claim conflict may withdraw the own claim; it takes no claim of the partner as unseen (R382). -/
@[simp] theorem State.claimConflict_claimIn (s : State) (g : Nat) : (s.claimConflict g).aon.claimIn = s.aon.claimIn := by
  simp only [State.claimConflict]
  split
  · split <;> simp [State.raise, Aon.gate]
  · rfl

/-- A claim of the partner, once taken, is seen. -/
theorem State.claimSeen_on_claimIn (s : State) (g : Nat) : (s.claimSeen g true).aon.claimIn.mem g = true := by
  simp [State.claimSeen, Aon.gate]

/-- A fall of the partner's claim, once taken, is seen, and enables no driver (R11). -/
theorem State.claimSeen_off (s : State) (g : Nat) :
    (s.claimSeen g false).aon.claimIn.mem g = false ∧ (s.claimSeen g false).aon.drivers = s.aon.drivers := by
  simp [State.claimSeen]

/-- A level held for 150 ns or more is taken (Table 24.8). -/
theorem State.claimInChange_long (s : State) {g ns : Nat} (on : Bool) (hg : g < 16) (hn : 150 ≤ ns) :
    s.claimInChange g on ns = s.claimSeen g on := by
  rw [State.claimInChange, if_neg (by omega), if_pos hn]

/-- A group whose partner's claim is seen is not driven at the end of a command (R11). -/
theorem Aon.settled_not_driven {a : Aon} {g : Nat} (h : a.claimIn.mem g = true) : a.settled.drivers.mem g = false := by
  by_contra hd
  have hm := (Aon.mem_drivers_of_settled (by simpa using hd)).2
  simp [Aon.mayDrive, h] at hm

/-- The settle time over before the lease ends, under R11's condition: the driver enables, at that instant (R11). -/
theorem State.settleExpiry_eq {s : State} {g t₀ e : Nat} (hs : s.aon.settle.look g = some t₀) (he : s.aon.leaseEnd = some e)
    (hlt : t₀ + settleTime < e) (hm : s.aon.mayDrive g = true) :
    s.settleExpiry g = { s with now := max s.now (t₀ + settleTime)
                                aon := { s.aon with drivers := s.aon.drivers.insert g, settle := s.aon.settle.del g } } := by
  have hq : s.advance (t₀ + settleTime) = { s with now := max s.now (t₀ + settleTime) } :=
    s.advance_quiet _ fun e' he' => by rw [he, Option.some.injEq] at he'; omega
  simp only [State.settleExpiry, hs, hq, Assoc.has_of_look hs, hm, Bool.and_self, if_true]

/-- Settles O15. -/
theorem fenceAndClaimsGateTheDrivers : Obligations.FenceAndClaimsGateTheDrivers := by
  refine ⟨fun s => ?_, fun s ns h => ?_, fun s => ?_, fun s g ns hg hn => ?_, fun s g ns hg hn => ?_,
    fun s g t₀ e hs he hlt hf hc hi => ?_⟩
  · obtain ⟨t, ht, hf, hd, hc, hr, hl⟩ := fenceInAsserted_completes s
    exact ⟨t, ht, hd, hc, hf, hr, hl⟩
  · refine Completes.of_ended (u := s.raise Fld.OWN_STATUS_FENCE_PULSE) ?_ ⟨?_, rfl⟩
    · show ended (s.fencePulse ns) = _
      rw [State.fencePulse, if_pos h]
    · exact State.rd_wr_self _ Fld.OWN_STATUS_FENCE_PULSE 1 0 0
  · exact Completes.of_ended (u := s.fenceReleased) rfl ⟨by simp [State.fenceReleased], rfl, by simp [State.fenceReleased],
      fun g hg => (Aon.mem_drivers_of_settled hg).1⟩
  · refine Completes.of_ended (u := s.claimSeen g true) (congrArg ended (s.claimInChange_long true hg hn)) ⟨?_, ?_⟩
    · simpa using s.claimSeen_on_claimIn g
    · exact Aon.settled_not_driven (s.claimSeen_on_claimIn g)
  · refine Completes.of_ended (u := s.claimSeen g false) (congrArg ended (s.claimInChange_long false hg hn)) ⟨?_, fun h hd => ?_⟩
    · simpa using (s.claimSeen_off g).1
    · rw [← (s.claimSeen_off g).2]
      exact (Aon.mem_drivers_of_settled hd).1
  · have ht : s.aon.timerRuns = true := by simp [Aon.timerRuns, he]
    have hm : s.aon.mayDrive g = true := by simp [Aon.mayDrive, hc, hi, ht]
    refine Completes.of_ended (congrArg ended (State.settleExpiry_eq hs he hlt hm)) ⟨?_, Nat.le_max_right _ _, ?_⟩
    · exact Aon.mem_drivers_settled (NatSet.mem_insert_self _ _) hm hf
    · exact Aon.settled_claimOut _ ht hf

/-! ## The partner's head ID -/

/-- The partner's head ID is the own one with bit 0 inverted (R8). -/
theorem State.partnerId_eq_xor (s : State) : s.partnerId = s.headId ^^^ 1 := by
  unfold State.partnerId
  split
  · next h => exact (Nat.xor_one_of_even (Nat.even_iff.2 h)).symm
  · next h => exact (Nat.xor_one_of_odd (Nat.odd_iff.2 (by omega))).symm

/-- Both heads of an array have its number above bit 0. -/
theorem State.partnerId_div_two (s : State) : s.partnerId / 2 = s.arrayId := by
  unfold State.partnerId State.arrayId
  split <;> omega

/-- Settles O52. -/
theorem thePartnerInvertsBitZero : Obligations.ThePartnerInvertsBitZero := by
  refine fun s => ⟨s.partnerId_eq_xor, s.partnerId_div_two, fun h => ?_⟩
  simp [State.partnerId, State.arrayId, h]

end Sys2Proof.Machine
end

section
/-! PROOFS. Pages and blocks of the media: reads, erases, retirement, refresh and wear levelling (R14, R275, R279 to R290). -/

namespace Sys2Proof.Machine

open Sys2Proof

/-! ## Register fields -/

/-- The instances of a field lie at or above its first bit address (R518). -/
theorem Field.key_zero_le (f : Field) (i j : Nat) : f.key 0 0 ≤ f.key i j := by
  unfold Field.key
  omega

/-- A field that lies below every field named reads as before. -/
theorem State.RegsBut.rd_below {s t : State} {l : List Field} (h : s.RegsBut t l) (f : Field) (i j : Nat)
    (hk : ∀ g ∈ l, f.key i j < g.key 0 0) : t.rd f i j = s.rd f i j :=
  h.rd f i j fun g hg a b _ _ => (Nat.lt_of_lt_of_le (hk g hg) (g.key_zero_le a b)).ne'

/-- A counter that stops at all-ones fits its field (R522). -/
theorem satAdd_mod (w v d : Nat) : satAdd w v d % 2 ^ w = satAdd w v d := by
  have hpos : 0 < 2 ^ w := Nat.two_pow_pos w
  exact Nat.mod_eq_of_lt (by unfold satAdd; omega)

/-- A counter bumped reads as the saturated sum (R522). -/
@[simp] theorem State.rd_bump_self (s : State) (f : Field) (d i : Nat) :
    (s.bump f d i).rd f i = satAdd f.width (s.rd f i) d := by
  rw [State.bump_eq, State.rd_wr_self, satAdd_mod]

/-! ## Messages to the partner -/

theorem State.isend_out {s : State} (h : s.linkUp = true) (vc : Nat) (m : IslMsg) : .isl vc m ∈ (s.isend vc m).out := by
  simp [State.isend, h]

@[simp] theorem State.isend_str (s : State) (vc : Nat) (m : IslMsg) : (s.isend vc m).str = s.str := by
  unfold State.isend
  split <;> rfl

/-! ## Blocks and bands -/

@[simp] theorem blockAddr_blockAddr (b : Nat) : blockAddr (blockAddr b) = blockAddr b := Nat.mod_mod _ _

@[simp] theorem State.block_blockAddr (s : State) (b : Nat) : s.block (blockAddr b) = s.block b := by
  simp [State.block]

@[simp] theorem State.block_setBlock_self (s : State) (b : Nat) (x : BlockSt) : (s.setBlock b x).block b = x := by
  simp [State.block, State.setBlock]

/-- The band of a block is found in the table of bands alone. -/
theorem State.bandOfBlock_congr {s t : State} (h : t.str = s.str) (b : Nat) : t.bandOfBlock b = s.bandOfBlock b := by
  unfold State.bandOfBlock
  rw [h]

/-! ## Work for GCX -/

/-- Work joins GCX's list, or is there already, and nothing else moves (R318). -/
theorem State.gcxWork_frame (s : State) (cls band : Nat) :
    s.gcxWork cls band = { s with gcx := (s.gcxWork cls band).gcx } ∧ (⟨cls, band⟩ : GcxWork) ∈ (s.gcxWork cls band).gcx.work := by
  unfold State.gcxWork
  dsimp only
  split
  · next h => exact ⟨rfl, List.contains_iff_mem.1 h⟩
  · exact ⟨rfl, List.mem_append_right _ (List.mem_singleton.2 rfl)⟩

/-- Queuing a refresh touches FLC's blocks and GCX's work alone (R287). -/
theorem State.queueRefresh_frame (s : State) (b : Nat) :
    s.queueRefresh b = { s with flc := (s.queueRefresh b).flc, gcx := (s.queueRefresh b).gcx } := by
  unfold State.queueRefresh
  dsimp only
  split
  · rfl
  · split
    · rw [(State.gcxWork_frame _ _ _).1]
      rfl
    · rfl

/-- A block already queued for refresh is not queued again (R287). -/
theorem State.queueRefresh_queued {s : State} {b : Nat} (h : (s.block b).refreshQueued = true) : s.queueRefresh b = s := by
  simp [State.queueRefresh, h]

/-- A good block of a band is queued for refresh, and its band joins class 3 (R287, Table 14.2). -/
theorem State.queueRefresh_of_band {s : State} {b k : Nat} {x : Band} (hq : (s.block b).refreshQueued = false)
    (hb : (s.block b).bad = false) (hx : s.bandOfBlock b = some (k, x)) :
    s.queueRefresh b = (s.setBlock b { s.block b with refreshQueued := true }).gcxWork 3 k := by
  simp [State.queueRefresh, hq, hb, hx]

/-! ## Page reads -/

/-- The LUN of a block is ready once a sense of it has completed: one left busy by a former holder is so no more (R277). -/
def State.lunReady (s : State) (a : Nat) : State :=
  match s.flc.luns.look (lunOf a) with
  | some x => if x.foreign then s.lunDone a else s
  | none => s

theorem State.lunReady_frame (s : State) (a : Nat) :
    s.lunReady a = { s with flc := { s.flc with luns := (s.lunReady a).flc.luns } } := by
  unfold State.lunReady
  split
  · split <;> rfl
  · rfl

theorem State.lunReady_block (s : State) (a : Nat) : (s.lunReady a).block a = s.block a := by
  rw [s.lunReady_frame a]
  rfl

/-- A page read on a channel that serves, step by step (R279, R280). -/
theorem State.pageRead_eq {s : State} {a : Nat} (h : s.chanServes (a % 128) = true) (ps : Nat) (w : List CwRead) :
    s.pageRead a ps w =
      (w.foldl (fun s c => s.codeword a c) ((s.lunReady a).countRead a)).marginCheck (a % 128) ps := by
  simp only [State.pageRead, h]
  rfl

theorem State.countRead_frame (s : State) (a : Nat) :
    s.countRead a = { s with flc := (s.countRead a).flc, gcx := (s.countRead a).gcx } := by
  unfold State.countRead
  dsimp only
  split
  · rw [State.queueRefresh_frame]
    rfl
  · rfl

/-- Of a block queued for refresh a read changes the count of reads alone (R287). -/
theorem State.countRead_queued {s : State} {a : Nat} (h : (s.block a).refreshQueued = true) :
    s.countRead a = s.setBlock a { s.block a with reads := (s.block a).reads + 1 } := by
  unfold State.countRead
  dsimp only
  split
  · exact State.queueRefresh_queued (by simpa using h)
  · rfl

/-- A codeword that decodes at step 0 counts its corrected bits (R280). -/
theorem State.codeword_clean (s : State) (a : Nat) {c : CwRead} (h : c.step = 0) :
    s.codeword a c = s.bump Fld.FLC_CH_ECC_BITS_CORR c.bits (a % 128) := by
  simp [State.codeword, State.readStep, h]

/-- Codewords that decode at step 0 count their corrected bits, and change nothing else (R280). -/
theorem State.codewords_clean (a : Nat) {w : List CwRead} (h : ∀ x ∈ w, x.step = 0) (s : State) :
    w.foldl (fun s c => s.codeword a c) s = { s with regs := (w.foldl (fun s c => s.codeword a c) s).regs } ∧
      s.RegsBut (w.foldl (fun s c => s.codeword a c) s) [Fld.FLC_CH_ECC_BITS_CORR] := by
  induction w generalizing s with
  | nil => exact ⟨rfl, State.RegsBut.of_eq rfl _⟩
  | cons c w ih =>
    obtain ⟨hc, hw⟩ := List.forall_mem_cons.1 h
    obtain ⟨heq, hregs⟩ := ih hw (s.codeword a c)
    rw [State.codeword_clean s a hc] at heq hregs
    rw [List.foldl_cons, State.codeword_clean s a hc]
    refine ⟨heq, State.RegsBut.trans ?_ hregs⟩
    exact State.RegsBut.wr s _ _ _ _ (Nat.mod_lt a (by decide)) (by decide)

/-- The fields of a channel that the check of its eye may write (R277). -/
abbrev marginFields : List Field := [Fld.FLC_CH_STATUS_MARGIN_PS, Fld.FLC_CH_STATUS_STATE]

/-- The check of a channel's eye touches the channel's status, the channels checked and what leaves the head (R277). -/
theorem State.marginCheck_frame (s : State) {c : Nat} (hc : c < 128) (ps : Nat) :
    s.marginCheck c ps = { s with regs := (s.marginCheck c ps).regs, out := (s.marginCheck c ps).out,
                                  flc := { s.flc with marginOk := (s.marginCheck c ps).flc.marginOk } } ∧
      s.RegsBut (s.marginCheck c ps) marginFields := by
  have hw : s.RegsBut (s.wr Fld.FLC_CH_STATUS_MARGIN_PS ps c) marginFields :=
    (State.RegsBut.wr s _ _ _ _ hc (by decide)).mono (by decide)
  unfold State.marginCheck
  dsimp only
  split
  · exact ⟨rfl, State.RegsBut.of_eq rfl _⟩
  · split
    · exact ⟨rfl, hw.then_wr Fld.FLC_CH_STATUS_STATE flcInit c 0 (by decide) hc (by decide)⟩
    · exact ⟨rfl, hw⟩

theorem State.marginCheck_block (s : State) {c : Nat} (hc : c < 128) (ps b : Nat) : (s.marginCheck c ps).block b = s.block b := by
  rw [(s.marginCheck_frame hc ps).1]
  rfl

/-- The fields that a page read without a failing codeword may write. -/
abbrev cleanReadFields : List Field := Fld.FLC_CH_ECC_BITS_CORR :: marginFields

/-- A page all of whose codewords decode at step 0 leaves the stripes and the map, and writes fields of its channel alone. -/
theorem State.pageRead_clean_frame (s : State) (a ps : Nat) {w : List CwRead} (h : ∀ x ∈ w, x.step = 0) :
    (s.pageRead a ps w).str = s.str ∧ (s.pageRead a ps w).map = s.map ∧ s.RegsBut (s.pageRead a ps w) cleanReadFields := by
  by_cases hc : s.chanServes (a % 128) = true
  case neg =>
    have hs : s.pageRead a ps w = s := by simp [State.pageRead, hc]
    rw [hs]
    exact ⟨rfl, rfl, State.RegsBut.of_eq rfl _⟩
  case pos =>
    rw [State.pageRead_eq hc]
    obtain ⟨hm, hmr⟩ := State.marginCheck_frame (w.foldl (fun s c => s.codeword a c) ((s.lunReady a).countRead a))
      (Nat.mod_lt a (by decide : 0 < 128)) ps
    obtain ⟨hf, hfr⟩ := State.codewords_clean a h ((s.lunReady a).countRead a)
    have hr : (s.lunReady a).countRead a =
        { s with flc := ((s.lunReady a).countRead a).flc, gcx := ((s.lunReady a).countRead a).gcx } := by
      rw [State.countRead_frame, s.lunReady_frame a]
    refine ⟨?_, ?_, ?_⟩
    · rw [hm, hf, hr]
    · rw [hm, hf, hr]
    · refine State.RegsBut.trans (State.RegsBut.of_eq ?_ _) ((hfr.mono (by decide)).trans (hmr.mono (by decide)))
      rw [hr]

/-- A page of a block queued for refresh, read without a failing codeword, counts as one read of it (R287). -/
theorem State.pageRead_clean_block {s : State} {a : Nat} (hc : s.chanServes (a % 128) = true) (ps : Nat) {w : List CwRead}
    (h : ∀ x ∈ w, x.step = 0) (hq : (s.block a).refreshQueued = true) :
    (s.pageRead a ps w).block a = { s.block a with reads := (s.block a).reads + 1 } := by
  rw [State.pageRead_eq hc, State.marginCheck_block _ (Nat.mod_lt a (by decide)), (State.codewords_clean a h _).1,
    State.countRead_queued (by rw [State.lunReady_block]; exact hq), State.lunReady_block]
  exact State.block_setBlock_self _ _ _

/-- A media read for the partner reads its page on the channel named (R14). -/
theorem State.mediaRequest_clean {s : State} {c : Nat} (hc : s.chanServes (c % 128) = true) (l p ps : Nat) {w : List CwRead}
    (h : ∀ x ∈ w, x.step = 0) :
    s.mediaRequest c l p ps w = (s.pageRead (mediaAddr c l p) ps w).isend 3 (.mediaData c l p true) := by
  have hok : w.all (fun x => decide (s.readStep x ≤ 2)) = true :=
    List.all_eq_true.2 fun x hx => by simp [State.readStep, h x hx]
  simp [State.mediaRequest, hc, hok]

/-- The fields of `FLC_ERR_INFO` that latch a block's address. -/
abbrev addrFields : List Field :=
  [Fld.FLC_ERR_INFO_CH, Fld.FLC_ERR_INFO_VOL, Fld.FLC_ERR_INFO_LUN, Fld.FLC_ERR_INFO_PLANE, Fld.FLC_ERR_INFO_BLOCK]

/-- Latching an address leaves every field beside `FLC_ERR_INFO`. -/
theorem State.rd_flcInfo (s : State) (b : Nat) (f : Field) (i j : Nat) (h : ∀ g ∈ addrFields, f.key i j ≠ g.key 0 0) :
    (s.flcInfo b).rd f i j = s.rd f i j := by
  simp only [addrFields, List.forall_mem_cons] at h
  obtain ⟨hch, hvol, hlun, hplane, hblock, -⟩ := h
  unfold State.flcInfo
  rw [State.rd_wr_ne _ _ _ _ _ _ _ _ hblock, State.rd_wr_ne _ _ _ _ _ _ _ _ hplane, State.rd_wr_ne _ _ _ _ _ _ _ _ hlun,
    State.rd_wr_ne _ _ _ _ _ _ _ _ hvol, State.rd_wr_ne _ _ _ _ _ _ _ _ hch]

/-- A codeword that reached step 3 is counted and reported (R280, R289). -/
def State.reportFailed (s : State) (a : Nat) : State :=
  (((s.bump Fld.FLC_CH_ECC_HARD_FAIL 1 (a % 128)).bump Fld.FLC_STAT_SOFT_FAIL_COUNT).raise Fld.FLC_ERR_READ_FAIL).flcInfo a

/-- The first codeword of a block to reach step 3 is counted and reported, and does not yet retire the block (R280, R289). -/
theorem State.codeword_failed {s : State} {a : Nat} {c : CwRead} (h : s.readStep c = 3) (h3 : (s.block a).step3 = 0) :
    (s.codeword a c).block a = { s.block a with step3 := 1 } ∧ (s.codeword a c).rd Fld.FLC_ERR_READ_FAIL = 1 := by
  have hx : (s.reportFailed a).block a = s.block a := rfl
  have he : s.codeword a c = (s.reportFailed a).setBlock a { s.block a with step3 := 1 } := by
    unfold State.reportFailed at hx ⊢
    simp [State.codeword, h, hx, h3]
  rw [he]
  refine ⟨State.block_setBlock_self _ _ _, ?_⟩
  exact (State.rd_flcInfo _ _ _ _ _ (by decide)).trans (State.rd_wr_self _ _ 1 0 0)

/-- A page with one codeword, which fails, of a block queued for refresh that had none before (R280, R287, R289). -/
theorem State.pageRead_failed {s : State} {a : Nat} (hc : s.chanServes (a % 128) = true) (ps : Nat) {c : CwRead}
    (h : s.readStep c = 3) (hq : (s.block a).refreshQueued = true) (h3 : (s.block a).step3 = 0) :
    (s.pageRead a ps [c]).block a = { s.block a with reads := (s.block a).reads + 1, step3 := 1 } ∧
      (s.pageRead a ps [c]).rd Fld.FLC_ERR_READ_FAIL = 1 := by
  have hlt : a % 128 < 128 := Nat.mod_lt a (by decide)
  have hr : (s.lunReady a).countRead a = (s.lunReady a).setBlock a { s.block a with reads := (s.block a).reads + 1 } := by
    rw [State.countRead_queued (by rw [State.lunReady_block]; exact hq), State.lunReady_block]
  have hstep : State.readStep ((s.lunReady a).countRead a) c = 3 := by
    rw [hr, s.lunReady_frame a]
    exact h
  have hblk : State.block ((s.lunReady a).countRead a) a = { s.block a with reads := (s.block a).reads + 1 } := by
    rw [hr, State.block_setBlock_self]
  obtain ⟨hb, hf⟩ := State.codeword_failed (a := a) hstep (by rw [hblk]; exact h3)
  rw [State.pageRead_eq hc, List.foldl_cons, List.foldl_nil]
  constructor
  · rw [State.marginCheck_block _ hlt, hb, hblk]
  · rw [(State.marginCheck_frame _ hlt ps).2.rd_below _ _ _ (by decide), hf]

/-! ## Suspension, families and waiting reads -/

/-- A program or an erase is suspended for up to 4 reads (R275). -/
theorem State.suspend_eq {s : State} {l n : Nat} {x : LunSt} (e : Bool) (hx : s.flc.luns.look (lunOf l) = some x) (h8 : x.suspended < 8)
    (hn : 0 < n) (hc : s.chanServes (l % 128) = true) :
    s.suspend l n e = { s with flc := { s.flc with
      luns := s.flc.luns.put (lunOf l) { x with suspended := x.suspended + 1, reads := min n 4 } } } := by
  simp [State.suspend, Assoc.getD, hx, hc, Nat.not_le.2 h8, Nat.pos_iff_ne_zero.1 hn]

/-- A family's offsets are in FLC's tables alone (R281). -/
theorem State.setFamily_frame (s : State) (l w : Nat) (o : List Int) :
    s.setFamily l w o = { s with flc := { s.flc with families := (s.setFamily l w o).flc.families } } := by
  unfold State.setFamily
  dsimp only
  split <;> rfl

/-- A family whose offsets are set is tracked with them (R281). -/
theorem State.mem_setFamily (s : State) (l w : Nat) (o : List Int) : (⟨l, w, o⟩ : Family) ∈ (s.setFamily l w o).flc.families := by
  unfold State.setFamily
  dsimp only
  split
  · next h =>
    obtain ⟨x, hx, hxw⟩ := List.any_eq_true.1 h
    simp only [Bool.and_eq_true, beq_iff_eq] at hxw
    exact List.mem_map.2 ⟨x, hx, if_pos hxw⟩
  · exact List.mem_append_right _ (List.mem_singleton.2 rfl)

@[simp] theorem State.valley_regs (s : State) (l w : Nat) (o : List Int) : (s.valley l w o).regs = s.regs := by
  unfold State.valley
  split
  · rw [State.setFamily_frame]
  · rfl

/-- A sweep tracks and saves families, and writes no register (R281). -/
theorem State.trackSweep_regs (s : State) (f : List Family) : (s.trackSweep f).regs = s.regs :=
  foldl_keeps _ (·.regs) (fun _ _ => State.valley_regs _ _ _ _) f s

/-- Where no waiting read may go on, all wait as before. -/
theorem State.resumeReads_none {s : State} {p : WaitRead → Bool} (h : ∀ w ∈ s.flc.reads, p w = false) : s.resumeReads p = s := by
  have hgo : s.flc.reads.filter p = [] := List.filter_eq_nil_iff.2 fun w hw => by simp [h w hw]
  have hstay : s.flc.reads.filter (fun w => !p w) = s.flc.reads := List.filter_eq_self.2 fun w hw => by simp [h w hw]
  simp only [State.resumeReads, hgo, hstay, List.foldl_nil]

/-- A codeword that comes back for the one waiting read, which needs more: it waits for the rest (R14). -/
theorem State.mediaBack_waiting {s : State} {q : Nat × Nat × Nat} {w : WaitRead} (hs : s.flc.reads = [w])
    (hq : w.left.contains q = true) (hl : w.left.filter (fun p => p != q) ≠ []) :
    s.mediaBack q = { s with flc := { s.flc with
      reads := [{ w with got := w.got ++ [q], left := w.left.filter (fun p => p != q) }] } } := by
  have hleft : (w.left.filter (fun p => p != q) == []) = false := beq_eq_false_iff_ne.2 hl
  have hmark : s.mediaBack q = State.resumeReads { s with flc := { s.flc with
      reads := [{ w with got := w.got ++ [q], left := w.left.filter (fun p => p != q) }] } }
      (fun v => v.left == [] && v.got.contains q) := by
    simp only [State.mediaBack, hs, List.any_cons, hq, Bool.true_or, Bool.not_true, List.map_cons, List.map_nil]
    rfl
  rw [hmark]
  exact State.resumeReads_none (List.forall_mem_singleton.2 (by simp only [hleft, Bool.false_and]))

/-! ## Erases -/

/-- A set of two holds something still when one number is taken out. -/
theorem NatSet.remove_ne_nil {l : NatSet} (hl : l.length = 2) (hn : l.Nodup) (i : Nat) : l.remove i ≠ [] := by
  obtain ⟨p, q, rfl⟩ := List.length_eq_two.1 hl
  intro h
  have hall : ∀ y ∈ [p, q], y = i := by simpa [NatSet.remove, List.filter_eq_nil_iff] using h
  have hp : p = i := hall p (by simp)
  have hq : q = i := hall q (by simp)
  simp [hp, hq] at hn

/-- A block as its erase leaves it (R285): worn by one erase more, in eighths in one-bit mode. -/
def BlockSt.erased (x : BlockSt) : BlockSt :=
  { x with wear := x.wear + (if x.slc then 1 else 8), reads := 0, step3 := 0, refreshQueued := false, firstProg := 0 }

/-- The member of a band that lies on a block. -/
def Band.memberOn (x : Band) (b : Nat) : Option Nat :=
  (List.range x.members.length).find? (fun i => blockAddr (x.members.getD i 0) == b)

/-- A band with one erase fewer to wait for. -/
def Band.eraseLess (x : Band) (m : Option Nat) : Band :=
  { x with eraseLeft := match m with
      | some i => x.eraseLeft.remove i
      | none => x.eraseLeft }

/-- After one erase of two, one is left. -/
theorem Band.eraseLess_ne_nil {x : Band} (hl : x.eraseLeft.length = 2) (hn : x.eraseLeft.Nodup) (m : Option Nat) :
    (x.eraseLess m).eraseLeft ≠ [] := by
  cases m with
  | none => exact List.ne_nil_of_length_eq_add_one hl
  | some i => exact NatSet.remove_ne_nil hl hn i

/-- The erase of one of two blocks that a band waits for: the LUN is free, the block erased, and the band waits for the other (R285). -/
theorem State.eraseDone_passed {s : State} {b k : Nat} {x : Band} (hx : s.bandOfBlock (blockAddr b) = some (k, x)) (hst : x.st = .erasing)
    (hd : s.drives (blockAddr b % 128) = true) (hlp : s.chanLooped (blockAddr b % 128) = false) (hl : x.eraseLeft.length = 2)
    (hn : x.eraseLeft.Nodup) (hk : s.str.bands.look k = some x) :
    s.eraseDone b true = ((s.lunDone (blockAddr b)).setBlock (blockAddr b) (s.block b).erased).modBand k
      (fun y => y.eraseLess (x.memberOn (blockAddr b))) := by
  generalize hu : ((s.lunDone (blockAddr b)).setBlock (blockAddr b) (s.block b).erased).modBand k
    (fun y => y.eraseLess (x.memberOn (blockAddr b))) = u
  have hlook : u.str.bands.look k = some (x.eraseLess (x.memberOn (blockAddr b))) := by
    rw [← hu]
    simp [State.modBand, State.setBlock, State.lunDone, hk]
  have hend : s.eraseDone b true = match u.str.bands.look k with
      | some y => if y.eraseLeft = [] then u.bandErased k else u
      | none => u := by
    rw [← hu]
    simp only [State.eraseDone, hx, hst, hd, hlp, State.block_blockAddr]
    rfl
  rw [hend, hlook]
  exact if_neg (Band.eraseLess_ne_nil hl hn _)

/-! ## Retirement -/

/-- The first steps of a retirement: the block is bad, counted and reported, and its LUN is out once no block of it is good (R289, R449). -/
def State.markBad (s : State) (b : Nat) : State :=
  (((s.setBlock b { s.block b with bad := true }).bump Fld.FLC_STAT_RETIRED_COUNT).flcInfo b).retireLun (lunOf b)

theorem State.retireLun_frame (s : State) (l : Nat) :
    s.retireLun l = { s with flc := { s.flc with lunsOut := (s.retireLun l).flc.lunsOut } } := by
  unfold State.retireLun
  dsimp only
  split <;> rfl

/-- What the first steps of a retirement change and leave. -/
theorem State.markBad_spec (s : State) (b : Nat) :
    (s.markBad b).block b = { s.block b with bad := true } ∧ (s.markBad b).str = s.str ∧ (s.markBad b).pgs = s.pgs ∧
      (s.markBad b).rd Fld.FLC_STAT_RETIRED_COUNT = satAdd 32 (s.rd Fld.FLC_STAT_RETIRED_COUNT) 1 := by
  unfold State.markBad
  rw [State.retireLun_frame]
  refine ⟨State.block_setBlock_self s b _, rfl, rfl, ?_⟩
  exact (State.rd_flcInfo _ b Fld.FLC_STAT_RETIRED_COUNT 0 0 (by decide)).trans (State.rd_bump_self _ _ 1 0)

/-- A good block of no band is retired in the PG it was last programmed for. -/
theorem State.retire_unbanded {s : State} {b : Nat} (hb : (s.block b).bad = false) (hx : s.bandOfBlock b = none) :
    s.retire b = ((s.markBad b).wr Fld.FLC_ERR_INFO_PG (s.block b).pg).retireIn (s.block b).pg := by
  have hm : (s.markBad b).bandOfBlock b = none := (State.bandOfBlock_congr (s.markBad_spec b).2.1 b).trans hx
  unfold State.markBad at hm ⊢
  simp only [State.retire, hb, hm]
  rfl

/-- A good block of a band is retired in the band's PG: the band goes to GCX, and the members on the block have failed (R289, R312). -/
theorem State.retire_banded {s : State} {b k : Nat} {x : Band} (hb : (s.block b).bad = false) (hx : s.bandOfBlock b = some (k, x)) :
    s.retire b = ((((s.markBad b).wr Fld.FLC_ERR_INFO_PG (k % 65536)).gcxWork 1 k).failMembers
      (fun m => blockAddr m == blockAddr b)).retireIn (k % 65536) := by
  have hm : (s.markBad b).bandOfBlock b = some (k, x) := (State.bandOfBlock_congr (s.markBad_spec b).2.1 b).trans hx
  unfold State.markBad at hm ⊢
  simp only [State.retire, hb, hm]
  rfl

/-- A PG that the head knows reads as it was changed. -/
theorem State.pg_modPg_self {s : State} {g : Nat} {p : Pg} (h : s.pgs.look g = some p) (f : Pg → Pg) : (s.modPg g f).pg g = f p := by
  simp [State.pg, State.modPg, Assoc.getD, h]

/-- A PG that the head does not know takes no retirement. -/
theorem State.retireIn_unknown {s : State} {g : Nat} (h : s.pgs.look g = none) : s.retireIn g = s := by
  simp [State.retireIn, h]

/-- A PG already READ_ONLY loses the block's space, and is not reported again (R36, R290). -/
theorem State.retireIn_readOnly {s : State} {g : Nat} {p : Pg} (h : s.pgs.look g = some p) (hs : p.spares = 0) (hm : p.media = .readOnly) :
    s.retireIn g = s.modPg g (fun p => { p with media := .readOnly, blocks := p.blocks - 1, free := p.free - s.blockSectors }) := by
  simp [State.retireIn, h, hs, hm]

/-- Failing members touches stripes and the rebuild queue alone (R312): every component that they keep stands. -/
theorem State.failMembers_keeps {γ : Type} (p : State → γ) (h : ∀ (s : State) y, p { s with str := y } = p s) (s : State)
    (q : Nat → Bool) :
    p (s.failMembers q) = p s := by
  have hset : ∀ (u : State) (l : List (Nat × Stripe)) (ms : List Nat),
      p (l.foldl (fun s x => s.setStripe x.1 (ms.foldl Stripe.fail x.2)) u) = p u :=
    fun u l ms => foldl_keeps _ p (fun _ _ => h _ _) l u
  have hqueue : ∀ (u : State) (k : Nat), p (u.queueRebuild k) = p u := fun u k => by
    unfold State.queueRebuild
    split
    · rfl
    · exact h _ _
  unfold State.failMembers
  refine foldl_keeps _ p (fun u e => ?_) _ s
  dsimp only
  split
  · rw [hqueue, hset]
  · exact hset _ _ _

@[simp] theorem State.failMembers_flc (s : State) (q : Nat → Bool) : (s.failMembers q).flc = s.flc :=
  State.failMembers_keeps (·.flc) (fun _ _ => rfl) s q

@[simp] theorem State.failMembers_gcx (s : State) (q : Nat → Bool) : (s.failMembers q).gcx = s.gcx :=
  State.failMembers_keeps (·.gcx) (fun _ _ => rfl) s q

@[simp] theorem State.failMembers_pgs (s : State) (q : Nat → Bool) : (s.failMembers q).pgs = s.pgs :=
  State.failMembers_keeps (·.pgs) (fun _ _ => rfl) s q

/-- A good block of a band in a PG that is READ_ONLY: the block is bad, the band goes to GCX, and the PG stays READ_ONLY (R289, R290). -/
theorem State.retire_in_readOnly {s : State} {b k : Nat} {x : Band} {p : Pg} (hb : (s.block b).bad = false)
    (hx : s.bandOfBlock b = some (k, x)) (hp : s.pgs.look (k % 65536) = some p) (hs : p.spares = 0) (hm : p.media = .readOnly) :
    ((s.retire b).block b).bad = true ∧ (⟨1, k⟩ : GcxWork) ∈ (s.retire b).gcx.work ∧
      ((s.retire b).pg (k % 65536)).media = .readOnly := by
  obtain ⟨hblk, -, hpgs, -⟩ := s.markBad_spec b
  obtain ⟨hg, hmem⟩ := ((s.markBad b).wr Fld.FLC_ERR_INFO_PG (k % 65536)).gcxWork_frame 1 k
  rw [State.retire_banded hb hx]
  generalize hv : ((s.markBad b).wr Fld.FLC_ERR_INFO_PG (k % 65536)).gcxWork 1 k = v at hg hmem ⊢
  have hlook : (v.failMembers (fun m => blockAddr m == blockAddr b)).pgs.look (k % 65536) = some p := by
    rw [State.failMembers_pgs, hg, State.wr_pgs, hpgs, hp]
  have hvb : v.block b = (s.markBad b).block b := by
    rw [hg]
    rfl
  rw [State.retireIn_readOnly hlook hs hm]
  refine ⟨?_, ?_, ?_⟩
  · simpa [State.block, State.modPg] using congrArg BlockSt.bad (hvb.trans hblk)
  · simpa [State.modPg] using hmem
  · exact congrArg Pg.media (State.pg_modPg_self hlook _)

/-! ## Wear levelling -/

/-- Of two blocks of a LUN the worn one is free and the other holds data: its band is offered to GCX (R286). -/
theorem State.wearOffer_spread {s : State} {l a b k : Nat} {x y : BlockSt} {z : Band} (hbl : s.flc.blocks = [(a, x), (b, y)])
    (hla : lunOf a = l) (hlb : lunOf b = l) (hx : x.bad = false) (hy : y.bad = false) (hz : s.bandOfBlock a = some (k, z))
    (hst : z.st = .inUse) (hb : s.bandOfBlock b = none) (hw : x.wear + 8 * s.rd Fld.FLC_WEAR_CFG_WL_DELTA < y.wear)
    (hg : s.gcx.work = []) :
    s.wearOffer l = { s with gcx := { s.gcx with work := [⟨4, k⟩] } } := by
  have hmost : x.wear + 8 * s.rd Fld.FLC_WEAR_CFG_WL_DELTA < max x.wear y.wear := Nat.lt_of_lt_of_le hw (Nat.le_max_right _ _)
  simp [State.wearOffer, hbl, hla, hlb, hx, hy, hz, hst, hb, hg, hmost, State.gcxWork]

/-! ## The statement -/

/-- Settles O40. -/
theorem pagesAndBlocksOfTheMedia : Obligations.PagesAndBlocksOfTheMedia := by
  refine ⟨?mediaRead, ?cleanRead, ?failedRead, ?suspend, ?valley, ?sweep, ?mediaBack, ?erase, ?retireFree, ?retireReadOnly,
    ?refresh, ?wear⟩
  case mediaRead =>
    intro s c l p n w hc hl hw
    obtain ⟨hstr, -, hregs⟩ := s.pageRead_clean_frame (mediaAddr c l p) n hw
    have hup : (s.pageRead (mediaAddr c l p) n w).linkUp = true := by
      rw [State.linkUp, hregs.rd_below _ _ _ (by decide)]
      exact hl
    refine Completes.of_ended (congrArg ended (State.mediaRequest_clean hc l p n hw)) ⟨State.isend_out hup _ _, ?_⟩
    exact (State.isend_str _ _ _).trans hstr
  case cleanRead =>
    intro s a n w hc hw hq
    obtain ⟨hstr, hmap, -⟩ := s.pageRead_clean_frame a n hw
    exact Completes.of_ended (u := s.pageRead a n w) rfl
      ⟨congrArg BlockSt.reads (State.pageRead_clean_block hc n hw hq), hstr, hmap⟩
  case failedRead =>
    intro s a n w hc h hq h3
    obtain ⟨hb, hf⟩ := State.pageRead_failed hc n h hq h3
    exact Completes.of_ended (u := s.pageRead a n [w]) rfl ⟨hf, congrArg BlockSt.step3 hb, (congrArg BlockSt.bad hb).trans rfl⟩
  case suspend =>
    intro s l n e x hx h8 hn hc
    exact Completes.of_ended (congrArg ended (State.suspend_eq e hx h8 hn hc)) ⟨Assoc.look_put_self _ _ _, rfl⟩
  case valley =>
    intro s l w o hc
    refine Completes.of_ended (u := s.valley l w o) rfl ⟨?_, s.valley_regs l w o⟩
    show _ ∈ (s.valley l w o).flc.families
    rw [State.valley, if_pos hc]
    exact s.mem_setFamily l w o
  case sweep =>
    intro s f
    exact Completes.of_ended (u := s.trackSweep _) rfl ⟨rfl, s.trackSweep_regs _⟩
  case mediaBack =>
    intro s c l p w hs hq hl
    exact Completes.of_ended (congrArg ended (State.mediaBack_waiting hs hq hl)) ⟨rfl, rfl⟩
  case erase =>
    intro s b k x hx hst hd hlp hl hn hk
    have hb : ((s.lunDone (blockAddr b)).setBlock (blockAddr b) (s.block b).erased).block b = (s.block b).erased := by
      rw [← State.block_blockAddr, State.block_setBlock_self]
    exact Completes.of_ended (congrArg ended (State.eraseDone_passed hx hst hd hlp hl hn hk))
      ⟨congrArg BlockSt.wear hb, congrArg BlockSt.firstProg hb, congrArg BlockSt.reads hb, rfl⟩
  case retireFree =>
    intro s b hb hx hp
    obtain ⟨hblk, hstr, hpgs, hcount⟩ := s.markBad_spec b
    have hun : ((s.markBad b).wr Fld.FLC_ERR_INFO_PG (s.block b).pg).retireIn (s.block b).pg =
        (s.markBad b).wr Fld.FLC_ERR_INFO_PG (s.block b).pg :=
      State.retireIn_unknown (by rw [State.wr_pgs, hpgs]; exact hp)
    refine Completes.of_ended (congrArg ended ((State.retire_unbanded hb hx).trans hun)) ⟨congrArg BlockSt.bad hblk, hstr, ?_⟩
    exact (State.rd_wr_ne _ _ _ _ _ _ _ _ (by decide)).trans hcount
  case retireReadOnly =>
    rintro s b k g x p hb hx rfl hp hs hm
    exact Completes.of_ended (u := s.retire b) rfl (State.retire_in_readOnly hb hx hp hs hm)
  case refresh =>
    intro s b k x hlim hq hb hx
    have he : s.refresh b = (s.setBlock b { s.block b with refreshQueued := true }).gcxWork 3 k := by
      rw [State.refresh, if_pos hlim, State.queueRefresh_of_band hq hb hx]
    obtain ⟨hg, hmem⟩ := (s.setBlock b { s.block b with refreshQueued := true }).gcxWork_frame 3 k
    refine Completes.of_ended (congrArg ended he) ⟨?_, hmem, ?_⟩
    · rw [hg]
      exact congrArg BlockSt.refreshQueued (State.block_setBlock_self _ _ _)
    · rw [hg]
      rfl
  case wear =>
    intro s l a b k x y z hbl hla hlb hx hy hz hst hb hw hg
    exact Completes.of_ended (congrArg ended (State.wearOffer_spread hbl hla hlb hx hy hz hst hb hw hg)) ⟨rfl, rfl, rfl⟩

end Sys2Proof.Machine
end

section
/-! PROOFS. H of a replay window (R40). -/

namespace Sys2Proof.Machine

open Sys2Proof

/-- What H does when it climbs: it passes over completed slots that directly follow it, and stops at the first that is not, or when the
fuel is used up (R40). -/
theorem RWin.climb_spec (w : RWin) (fuel : Nat) (hh : w.h < 2 ^ w.bits) :
    ∃ n, n ≤ fuel ∧ (w.climb fuel).h = (w.h + n) % 2 ^ w.bits ∧
      (∀ i, i < n → ∃ x, w.slot ((w.h + 1 + i) % 2 ^ w.bits) = some (.completed x)) ∧
      (n < fuel → ∀ x, w.slot (((w.climb fuel).h + 1) % 2 ^ w.bits) ≠ some (.completed x)) := by
  induction fuel generalizing w with
  | zero => exact ⟨0, Nat.le_refl _, (Nat.mod_eq_of_lt hh).symm, fun _ hi => absurd hi (Nat.not_lt_zero _),
      fun h => absurd h (Nat.lt_irrefl _)⟩
  | succ k ih =>
    unfold RWin.climb
    split
    · next x hx =>
      obtain ⟨n, hn, hc, hslots, hstop⟩ := ih { w with h := (w.h + 1) % 2 ^ w.bits } (Nat.mod_lt _ (Nat.two_pow_pos _))
      have hmod : ∀ j, ((w.h + 1) % 2 ^ w.bits + j) % 2 ^ w.bits = (w.h + 1 + j) % 2 ^ w.bits := fun j => Nat.mod_add_mod ..
      refine ⟨n + 1, Nat.succ_le_succ hn, ?_, fun i hi => ?_, fun h => hstop (Nat.lt_of_succ_lt_succ h)⟩
      · rw [hc, hmod, Nat.add_right_comm, Nat.add_assoc]
      · cases i with
        | zero => exact ⟨x, hx⟩
        | succ i =>
          obtain ⟨y, hy⟩ := hslots i (Nat.lt_of_succ_lt_succ hi)
          refine ⟨y, ?_⟩
          rw [Nat.add_assoc, hmod] at hy
          rwa [Nat.add_comm i 1]
    · next hx =>
      exact ⟨0, Nat.zero_le _, (Nat.mod_eq_of_lt hh).symm, fun _ hi => absurd hi (Nat.not_lt_zero _), fun _ x => hx x⟩

/-- The later of two sequences of a window is a sequence of it. -/
theorem serialMax_lt {bits a b : Nat} (ha : a < 2 ^ bits) (hb : b < 2 ^ bits) : serialMax bits a b < 2 ^ bits := by
  unfold serialMax
  split <;> assumption

/-- H after a change of a window starts at the larger of itself and B − 1, and climbs (R40). -/
theorem RWin.followH_spec (w : RWin) (hh : w.h < 2 ^ w.bits) :
    ∃ n, n ≤ 1024 ∧ w.followH.h = (serialMax w.bits w.h ((w.b + 2 ^ w.bits - 1) % 2 ^ w.bits) + n) % 2 ^ w.bits ∧
      (∀ i, i < n → ∃ x, w.followH.slot ((serialMax w.bits w.h ((w.b + 2 ^ w.bits - 1) % 2 ^ w.bits) + 1 + i) % 2 ^ w.bits) =
        some (.completed x)) ∧
      (n < 1024 → ∀ x, w.followH.slot ((w.followH.h + 1) % 2 ^ w.bits) ≠ some (.completed x)) := by
  have hslot : ∀ k, w.followH.slot k = w.slot k := fun k => by rw [RWin.slot, RWin.followH_slots, RWin.slot]
  simp only [hslot]
  exact RWin.climb_spec { w with h := serialMax w.bits w.h ((w.b + 2 ^ w.bits - 1) % 2 ^ w.bits) } 1024
    (serialMax_lt hh (Nat.mod_lt _ (Nat.two_pow_pos _)))

/-- Settles O6: both changes of a window end with H following it. -/
theorem highestCompletedFollowsR40 : Obligations.HighestCompletedFollowsR40 :=
  ⟨fun _ _ _ hh => ⟨RWin.followH_b _, RWin.followH_slots _, RWin.followH_spec _ hh⟩,
   fun _ _ hh => ⟨RWin.followH_b _, RWin.followH_slots _, RWin.followH_spec _ hh⟩⟩

end Sys2Proof.Machine
end

section
/-! PROOFS. The refutation of the statement about writes and the journal's records: what of a record changes when its write fails (R184, R189). -/

namespace Sys2Proof.Machine

open Sys2Proof

/-- A record that no channel can take is held: none of its copies counts any more, nor an acknowledgement it had in a catch-up (R184, R189). -/
theorem State.rewrite_held {s : State} {j : Nat} {r : PjmRec} (hr : s.pjm.recs.look j = some r) (hc : s.pickChanBut (some r.chan) = none) :
    (s.rewrite j).pjm.recs.look j = some { r with held := true, localOk := false, mirrorOk := false, acked := false } := by
  unfold State.rewrite
  simp only [hr, hc]
  split <;> exact Assoc.look_put_self _ _ _

/-- A live record of which neither head has a persistent copy, and which the partner has acknowledged in a catch-up that has not ended
(R189). -/
def ackedRec : PjmRec :=
  { body := .pad, orig := 0, copy := false, chan := 0, cseq := 0, off := 64, len64 := 2, oset := 0, tIssue := 0, localOk := false,
    mirrorSent := true, mirrorOk := false, acked := true, held := false, live := true }

/-- A head with that record in its journal, and every register field at the reset value of its table: no channel is in service. -/
def State.withAckedRec : State := { State.reset with regs := [], pjm := { State.reset.pjm with recs := [(0, ackedRec)] } }

/-- Refutes O24: its sixth clause says that of a record whose write fails with no other channel to go to only HELD and the marks of its two
copies change. A record that the partner acknowledged in a catch-up loses that acknowledgement too (R184, R189). -/
theorem not_writesTakeTheJournalPathAndMoveOn : ¬ Obligations.WritesTakeTheJournalPathAndMoveOn := by
  intro h
  obtain ⟨-, -, -, -, -, hfail, -⟩ := h
  have hl : State.withAckedRec.pjm.recs.look 0 = some ackedRec := rfl
  have hc : State.withAckedRec.pickChanBut (some ackedRec.chan) = none := by decide
  obtain ⟨t, ht, -, hrec⟩ := hfail State.withAckedRec 0 ackedRec hl rfl rfl rfl hc
  have hexec : exec (.pjmWriteFail 0 false) State.withAckedRec = ended (State.withAckedRec.rewrite 0) := rfl
  rw [hexec, ended_eq, Host.Outcome.next.injEq] at ht
  have hacked : some _ = some _ := (State.rewrite_held hl hc).symm.trans (ht ▸ hrec)
  simp [ackedRec] at hacked

end Sys2Proof.Machine
end

section
/-! PROOFS. What the commands of a host share: the write a command starts, and the read that this head serves at once (R24, R39, R53, R340). -/

namespace Sys2Proof.Machine

open Sys2Proof

/-! ## Boundaries -/

/-- A block whose commits are not admitted is at no boundary. -/
theorem State.boundary_eq {s : State} {b : Nat} (h : s.admittedPend b = false) : s.boundary b = s := by
  simp [State.boundary, h]

/-! ## Writes that start -/

/-- The write that a command starts: submitted, with nothing decided yet. -/
def State.submitted (s : State) (src : Src) (tenant : Nat) (r : WriteReq) : WriteOp :=
  { src := src, kind := r.kind, nsid := r.nsid, tenant := tenant, lba := r.lba, blocks := r.blocks, key := r.key,
    keyLen := r.keyLen, valueLen := r.valueLen, data := r.data, ifAbsent := r.ifAbsent, ifPresent := r.ifPresent,
    ifVersion := r.ifVersion, fua := r.fua, valueId := 0, pg := s.pgFor r.nsid r.lba r.key r.keyLen, reserve := 0,
    stage := .submitted, jseq := 0, stripe := 0, wseq := 0, tA := 0, epsA := Frac.zero, accepted := false, programmed := false,
    synced := false, released := false, arrival := 0, span := s.spanPut r.kind r.nsid }

/-- A write that starts takes the next number, and nothing else moves. -/
theorem State.startWrite_eq (s : State) (src : Src) (tenant : Nat) (r : WriteReq) :
    s.startWrite src tenant r = { s with ops := s.ops.put s.nextOp (s.submitted src tenant r), nextOp := s.nextOp + 1 } := rfl

theorem State.startWrite_look (s : State) (src : Src) (tenant : Nat) (r : WriteReq) :
    (s.startWrite src tenant r).ops.look s.nextOp = some (s.submitted src tenant r) :=
  Assoc.look_put_self _ _ _

/-! ## Reads served at once -/

/-- A command meets no deferred error exactly when none is pending for its host and namespace (R53). -/
theorem State.deferGate_eq_none {s : State} {src : Src} {nsid : Nat} :
    s.deferGate src nsid = none ↔ ∀ h, s.hostOf src = some h → s.deferredOf h nsid = [] := by
  unfold State.deferGate State.deferTake
  cases s.hostOf src with
  | none => simp
  | some h => cases hd : s.deferredOf h nsid <;> simp [hd]

/-- A read that this head serves answers at once what the owner reads (R39, R340). -/
theorem State.readCmd_served {s : State} {src : Src} {nsid : Nat} {r : ReadOf} (h : s.ServesRead src nsid r) :
    s.readCmd src nsid r true false = s.answer src (s.readNow nsid r) := by
  obtain ⟨hgate, hset, hpages⟩ := h
  obtain ⟨n, hn, hset⟩ := (Option.any_eq_true _ _).1 hset
  simp only [Bool.and_eq_true, beq_iff_eq, Bool.not_eq_true'] at hset
  obtain ⟨hown, hrec⟩ := hset
  have hleft : (s.pagesOf nsid r).filter (fun p => !s.drives p.1 && !([] : List (Nat × Nat × Nat)).contains p) = [] :=
    List.filter_eq_nil_iff.2 fun p hp => by simp [hpages p hp]
  simp only [State.readCmd, hgate, State.routeRead, hn, hown, State.serveRead, hleft]
  cases hm : s.map.sets.look n.oset with
  | none => simp
  | some m =>
    have hm' : m.recovering = false := by simpa [hm] using hrec
    simp [hm']

/-- The state with other rings, NVMe queues, held requests and heats of buckets: what a host's command changes before it runs. -/
def State.touched (s : State) (hri : Hri) (queues : Assoc NvQueue) (held : List HeldReq) (heat : Assoc Nat) : State :=
  { s with hri := hri, nvf := { s.nvf with queues := queues }, kvs := { s.kvs with held := held, heat := heat } }

section
variable (s : State) (hri : Hri) (queues : Assoc NvQueue) (held : List HeldReq) (heat : Assoc Nat)

/-- The leaf entry a read meets is found in the map and among the clones. -/
@[simp] theorem State.leafAt_touched (nsid tree laddr : Nat) (cut : Option Nat) :
    (s.touched hri queues held heat).leafAt nsid tree laddr cut = s.leafAt nsid tree laddr cut := by
  have hin : ∀ fuel nsid cut, (s.touched hri queues held heat).leafIn tree laddr fuel nsid cut = s.leafIn tree laddr fuel nsid cut := by
    intro fuel
    induction fuel with
    | zero => exact fun _ _ => rfl
    | succ fuel ih =>
      intro nsid cut
      simp only [State.leafIn, ih]
      rfl
  exact hin _ _ _

/-- So is the descriptor of a key. -/
@[simp] theorem State.kvAt_touched (nsid pg key keyLen : Nat) (cut : Option Nat) :
    (s.touched hri queues held heat).kvAt nsid pg key keyLen cut = s.kvAt nsid pg key keyLen cut := by
  have hin : ∀ fuel nsid cut, (s.touched hri queues held heat).kvIn pg key keyLen fuel nsid cut = s.kvIn pg key keyLen fuel nsid cut := by
    intro fuel
    induction fuel with
    | zero => exact fun _ _ => rfl
    | succ fuel ih =>
      intro nsid cut
      simp only [State.kvIn, ih]
      rfl
  exact hin _ _ _

@[simp] theorem State.kvRead_touched (nsid pg key keyLen : Nat) :
    (s.touched hri queues held heat).kvRead nsid pg key keyLen = s.kvRead nsid pg key keyLen := by
  simp only [State.kvRead, State.kvAt_touched]
  rfl

/-- What a read answers rests on none of them. -/
theorem State.readNow_touched (nsid : Nat) (r : ReadOf) : (s.touched hri queues held heat).readNow nsid r = s.readNow nsid r := by
  cases r with
  | blocks lba n =>
    simp only [State.readNow, State.readBlocks, State.leafAt_touched]
    rfl
  | get key keyLen len =>
    simp only [State.readNow, State.kvRead_touched, State.valueOf, State.leafAt_touched]
    rfl
  | exist key keyLen =>
    simp only [State.readNow, State.kvRead_touched]
    rfl
  | list l => rfl

/-- Nor do the flash pages it needs. -/
theorem State.pagesOf_touched (nsid : Nat) (r : ReadOf) : (s.touched hri queues held heat).pagesOf nsid r = s.pagesOf nsid r := by
  cases r with
  | blocks lba n =>
    simp only [State.pagesOf, State.leafAt_touched]
    rfl
  | get key keyLen len =>
    simp only [State.pagesOf, State.kvRead_touched, State.leafAt_touched]
    rfl
  | exist key keyLen => rfl
  | list l => rfl

/-- A read served is served so still, for a source whose host is the same. -/
theorem State.readCmd_touched {src : Src} {nsid : Nat} {r : ReadOf} (h : s.ServesRead src nsid r)
    (hh : (s.touched hri queues held heat).hostOf src = s.hostOf src) :
    (s.touched hri queues held heat).readCmd src nsid r true false =
      (s.touched hri queues held heat).answer src (s.readNow nsid r) := by
  rw [← s.readNow_touched hri queues held heat]
  obtain ⟨hgate, hset, hpages⟩ := h
  refine State.readCmd_served ⟨State.deferGate_eq_none.2 fun h' hs => ?_, hset, fun p hp => ?_⟩
  · exact State.deferGate_eq_none.1 hgate h' (hh ▸ hs)
  · exact hpages p (State.pagesOf_touched s hri queues held heat nsid r ▸ hp)

end

end Sys2Proof.Machine
end

section
/-! PROOFS. The block and key-value commands of a ring (R31, R39, R92, R97, R118, R334, R340). -/

namespace Sys2Proof.Machine

open Sys2Proof

/-! ## Submissions -/

/-- A submission carried is found by its sequence number. -/
theorem Ring.exists_subOf {x : Ring} {q : Nat} {e : Nat × Sub} (he : e ∈ x.subs) (hq : e.2.e.seq = q) : ∃ k u, x.subOf q = some (k, u) := by
  have h : (x.subOf q).isSome = true := List.find?_isSome.2 ⟨e, he, by simpa using hq⟩
  obtain ⟨p, hp⟩ := Option.isSome_iff_exists.1 h
  exact ⟨p.1, p.2, hp⟩

/-- What is found has that sequence number. -/
theorem Ring.seq_of_subOf {x : Ring} {q k : Nat} {u : Sub} (h : x.subOf q = some (k, u)) : u.e.seq = q := by
  simpa using List.find?_some h

/-- A submission that may start is carried by its ring. -/
theorem State.exists_of_subFor {s : State} {r q opcode : Nat} {e : SubEntry} (h : s.subFor r q opcode = some e) :
    ∃ p ∈ (s.ring r).subs, p.2.e.seq = q := by
  simp only [State.subFor] at h
  split at h
  · next p hp =>
    have hm := List.find?_some hp
    simp only [Bool.and_eq_true, beq_iff_eq] at hm
    exact ⟨_, List.mem_of_find?_eq_some hp, hm.1⟩
  · cases h

/-- A submission once started is carried still, and no completion has come. -/
theorem State.subStart_subOf {s : State} {r q opcode : Nat} {e : SubEntry} (h : s.subFor r q opcode = some e) :
    (∃ k u, ((s.subStart r q).ring r).subOf q = some (k, u)) ∧ ((s.subStart r q).ring r).ready = (s.ring r).ready := by
  obtain ⟨p, hp, hq⟩ := State.exists_of_subFor h
  rw [State.subStart, State.ring_setRing_self]
  refine ⟨Ring.exists_subOf (List.mem_map_of_mem hp) ?_, rfl⟩
  dsimp only
  split <;> exact hq

/-- An opcode runs on the submission that may start. -/
theorem State.ringRun_eq {s : State} {r q opcode : Nat} {e : SubEntry} (h : s.subFor r q opcode = some e)
    (run : State → SubEntry → State) : s.ringRun r q opcode run = run (s.subStart r q) e := by
  simp [State.ringRun, h]

/-! ## The end of a submission -/

/-- The end of a submission touches its ring and its replay window. -/
theorem State.endSub_frame (s : State) (r q status r0 r1 : Nat) :
    s.endSub r q status r0 r1 = { s with wins := (s.endSub r q status r0 r1).wins, hri := (s.endSub r q status r0 r1).hri } := by
  simp only [State.endSub]
  split
  · rfl
  · split <;> rfl

/-- The end of a submission: the next completion that waits is its own, with its status (R94, R95). -/
theorem State.endSub_ends {s : State} {r q k : Nat} {u : Sub} (h : (s.ring r).subOf q = some (k, u)) (status r0 r1 : Nat) :
    s.RingEnds (s.endSub r q status r0 r1) r q status := by
  simp only [State.RingEnds, State.endSub, h, State.ring_setRing_self, List.append_assoc, List.singleton_append]
  exact ⟨_, _, rfl, Ring.seq_of_subOf h, rfl⟩

/-- Where a ring command ended rests on the completions that waited before it. -/
theorem State.RingEnds.of_ready {s s' t : State} {r q status : Nat} (h : s'.RingEnds t r q status)
    (hr : (s'.ring r).ready = (s.ring r).ready) : s.RingEnds t r q status := by
  obtain ⟨c, l, hc⟩ := h
  exact ⟨c, l, hr ▸ hc⟩

/-- An answer to a ring's command ends its submission with the answer's status, and leaves the map, the registers and the writes. -/
theorem State.answer_ring {s : State} {r q k : Nat} {u : Sub} (h : (s.ring r).subOf q = some (k, u)) (a : Answer) :
    s.RingEnds (s.answer (.ring r q) a) r q a.status ∧
      s.answer (.ring r q) a = { s with wins := (s.answer (.ring r q) a).wins, hri := (s.answer (.ring r q) a).hri,
                                        out := (s.answer (.ring r q) a).out } := by
  simp only [State.answer, h]
  split
  · refine ⟨State.endSub_ends (s := s.emit _) h _ _ _, ?_⟩
    rw [State.endSub_frame]
    rfl
  · refine ⟨State.endSub_ends h _ _ _, ?_⟩
    rw [State.endSub_frame]

/-! ## Block commands -/

/-- A block command with its fields right, on a namespace attached and a range within it, runs. -/
theorem State.ringBlocks_eq {s : State} {r : Nat} {e : SubEntry} {n : Ns} {most : Nat} (q : Nat) (hn : s.ringNs r e.nsid false = .inr n)
    (hr : rangeStatus n e.offset (e.len + 1) most = none) (run : State → Ns → State) :
    (s.subStart r q).ringBlocks r q e true most run = run (s.subStart r q) n := by
  have hn' : (s.subStart r q).ringNs r e.nsid false = .inr n := hn
  simp [State.ringBlocks, hn', hr]

/-! ## Key-value commands -/

/-- The state in which a command for a key on this array runs: no request is held for it, and its bucket's heat has risen (R349, R353). -/
def State.keyTaken (s : State) (src : Src) (nsid key keyLen : Nat) : State :=
  State.kvHeat { s with kvs := { s.kvs with held := s.kvs.held.filter (fun h => h.src != src) } } nsid key keyLen

/-- A key that lives here is owned by this array, and asking changes nothing (R334). -/
theorem State.ownerArray_here {s : State} {nsid key keyLen : Nat} (h : s.KeyHere nsid key keyLen) (tenant : Nat) :
    s.ownerArray tenant nsid key keyLen = (s, s.arrayId) := by
  unfold State.ownerArray State.override
  cases hns : s.kvs.ns.look nsid with
  | none => rfl
  | some a =>
    cases hc : a.cluster with
    | false => simp [hc]
    | true =>
      obtain ⟨ht, hb⟩ := h.1 (by simp [hns, hc])
      simp [hc, ht, hb]

/-- A key-value command with its fields right, for a key on this array, runs. -/
theorem State.ringKey_eq {s : State} {r l : Nat} {e : SubEntry} {n : Ns} (q : Nat) (hlen : 1 ≤ subKeyLen e)
    (haddr : subKeyLen e ≤ 16 → e.addr1 = 0 ∧ e.sgl1 = false) (hn : s.ringNs r e.nsid true = .inr n)
    (hk : s.KeyHere e.nsid (subKey e l) (subKeyLen e)) (run : State → Ns → Nat → State) :
    (s.subStart r q).ringKey r q e true (some l) run =
      run ((s.subStart r q).keyTaken (.ring r q) e.nsid (subKey e l) (subKeyLen e)) n (subKey e l) := by
  have hn' : (s.subStart r q).ringNs r e.nsid true = .inr n := hn
  have hown := State.ownerArray_here (s := s.subStart r q) hk n.tenant
  have hheld : (s.subStart r q).rangeHeld e.nsid (subKey e l) (subKeyLen e) = false := hk.2
  have hzero : subKeyLen e ≠ 0 := Nat.pos_iff_ne_zero.1 hlen
  have hok : (decide (subKeyLen e ≤ 16) && (e.addr1 != 0 || e.sgl1)) = false := by
    by_cases h : subKeyLen e ≤ 16
    · simp [haddr h]
    · simp [h]
  simp [State.ringKey, State.keyTaken, hok, hn', hown, hheld, hzero]

/-! ## The statement -/

/-- Settles O22. -/
theorem ringBlockAndKeyCommandsRun : Obligations.RingBlockAndKeyCommandsRun := by
  refine ⟨?nop, ?flush, ?write, ?dealloc, ?read, ?put, ?delete, ?get⟩
  case nop =>
    intro s r q e he hf
    obtain ⟨⟨k, u, hsub⟩, hready⟩ := State.subStart_subOf he
    refine Completes.of_ended (u := (s.subStart r q).endSub r q STS_OK 0 0) (congrArg ended ?_) ⟨?_, ?_, ?_⟩
    · rw [State.ringNop, State.ringRun_eq he, if_pos hf]
    · exact (State.endSub_ends hsub _ _ _).of_ready hready
    · rw [State.endSub_frame]; rfl
    · rw [State.endSub_frame]; rfl
  case flush =>
    intro s r q e he hf hz
    obtain ⟨⟨k, u, hsub⟩, hready⟩ := State.subStart_subOf he
    refine Completes.of_ended (u := (s.subStart r q).endSub r q STS_OK 0 0) (congrArg ended ?_) ⟨?_, ?_, ?_⟩
    · simp [State.ringFlush, State.ringRun_eq he, hf, hz]
    · exact (State.endSub_ends hsub _ _ _).of_ready hready
    · rw [State.endSub_frame]; rfl
    · rw [State.endSub_frame]; rfl
  case write =>
    intro s r q d e n he hf hn hr
    have hrun : s.blkWrite r q (some d) = (s.subStart r q).startWrite (.ring r q) n.tenant
        (blockReq .block e.nsid e.offset (e.len + 1) (blocksOf d (e.len + 1)) e.fua) := by
      rw [State.blkWrite, State.ringRun_eq he, hf, State.ringBlocks_eq q hn hr]
    exact Completes.of_ended (congrArg ended hrun)
      ⟨rfl, rfl, _, State.startWrite_look _ _ _ _, rfl, rfl, rfl, rfl, rfl, rfl, rfl⟩
  case dealloc =>
    intro s r q e n he hf hn hr
    have hrun : s.ringDealloc r q = (s.subStart r q).startWrite (.ring r q) n.tenant
        (blockReq .dealloc e.nsid e.offset (e.len + 1) [] false) := by
      rw [State.ringDealloc, State.ringRun_eq he, hf, State.ringBlocks_eq q hn hr]
    exact Completes.of_ended (congrArg ended hrun) ⟨rfl, rfl, _, State.startWrite_look _ _ _ _, rfl, rfl, rfl, rfl, rfl, rfl⟩
  case read =>
    intro s r q e n he hf hn hr hs
    obtain ⟨⟨k, u, hsub⟩, hready⟩ := State.subStart_subOf he
    obtain ⟨hends, hframe⟩ := State.answer_ring hsub (s.readNow e.nsid (.blocks e.offset (e.len + 1)))
    refine Completes.of_ended (congrArg ended ?_) ⟨hends.of_ready hready, ?_⟩
    · rw [State.blkRead, State.ringRun_eq he, hf, State.ringBlocks_eq q hn hr]
      exact s.readCmd_touched _ s.nvf.queues s.kvs.held s.kvs.heat hs rfl
    · rw [hframe]; rfl
  case put =>
    intro s r q l v e n he hlen hf hcond h1 ha hn hk
    have hok : (fieldsOk e true true false true false true (subKvSpec e 3) && !(bitAt e.spec 8 && bitAt e.spec 9)) = true := by
      rw [hf, Bool.true_and, Bool.not_eq_true', Bool.eq_false_iff, Ne, Bool.and_eq_true]
      exact hcond
    have hrun : s.ringPut r q (some l) (some v) =
        ((s.subStart r q).keyTaken (.ring r q) e.nsid (subKey e l) (subKeyLen e)).startWrite (.ring r q) n.tenant
          { keyReq .kvPut e.nsid (subKey e l) (subKeyLen e) e.len [v % 2 ^ (8 * e.len)] with
            ifAbsent := bitAt e.spec 8, ifPresent := bitAt e.spec 9, fua := e.fua } := by
      rw [State.ringPut, State.ringRun_eq he, if_neg (Nat.not_lt.2 hlen)]
      dsimp only
      rw [hok]
      exact State.ringKey_eq q h1 ha hn hk _
    exact Completes.of_ended (congrArg ended hrun)
      ⟨rfl, rfl, _, State.startWrite_look _ _ _ _, rfl, rfl, rfl, rfl, rfl, rfl, rfl, rfl⟩
  case delete =>
    intro s r q l e n he hf h1 ha hn hk
    have hrun : s.ringDelete r q (some l) =
        ((s.subStart r q).keyTaken (.ring r q) e.nsid (subKey e l) (subKeyLen e)).startWrite (.ring r q) n.tenant
          { keyReq .kvDelete e.nsid (subKey e l) (subKeyLen e) 0 [] with ifPresent := bitAt e.spec 9 } := by
      rw [State.ringDelete, State.ringRun_eq he, hf, State.ringKey_eq q h1 ha hn hk]
    exact Completes.of_ended (congrArg ended hrun) ⟨rfl, rfl, _, State.startWrite_look _ _ _ _, rfl, rfl, rfl, rfl, rfl⟩
  case get =>
    intro s r q l e n he hf h1 ha hn hk hs
    obtain ⟨⟨k, u, hsub⟩, hready⟩ := State.subStart_subOf he
    obtain ⟨hends, hframe⟩ := State.answer_ring (s := (s.subStart r q).keyTaken (.ring r q) e.nsid (subKey e l) (subKeyLen e)) hsub
      (s.readNow e.nsid (.get (subKey e l) (subKeyLen e) e.len))
    refine Completes.of_ended (congrArg ended ?_) ⟨hends.of_ready hready, ?_⟩
    · rw [State.ringGet, State.ringRun_eq he, hf, State.ringKey_eq q h1 ha hn hk]
      exact s.readCmd_touched _ s.nvf.queues _ _ hs rfl
    · rw [hframe]; rfl

end Sys2Proof.Machine
end

section
/-! PROOFS. The block and key-value commands of an I/O queue (R32, R39, R45, R115, R118, R119, R130, R340, R345). -/

namespace Sys2Proof.Machine

open Sys2Proof

/-! ## Queues -/

/-- What a queue sends moves at most its queue pair (R113, R139). -/
theorem State.queueSend_frame (s : State) (q bytes : Nat) : s.queueSend q bytes = { s with rdm := (s.queueSend q bytes).rdm } := by
  unfold State.queueSend
  split
  · split
    · unfold State.roceSend
      split
      · rfl
      · split <;> rfl
    · rfl
  · rfl

/-- The window entry of a command just taken up (R45). -/
def NvWin.taken (cid dw : Nat) (keeps : Bool) : NvWin :=
  { cid := cid, dwords := dw, st := .inProgress, order := 0, follow := 0, replayed := false, keepsDw0 := keeps }

/-- The state once a queue's window has taken up a new command. -/
def State.windowed (s : State) (q : Nat) (x : NvQueue) (cid dw : Nat) (keeps : Bool) : State :=
  s.setQueue q { x with win := x.win ++ [NvWin.taken cid dw keeps] }

/-- A command whose identifier the window does not hold is new, and taken up while there is room (R45). -/
theorem State.winTake_new {x : NvQueue} {cid : Nat} (s : State) (q : Nat) (hx : ∀ w ∈ x.win, w.cid ≠ cid) (hroom : x.win.length < 1024)
    (dw : Nat) (changes keeps : Bool) : s.winTake q x cid dw changes keeps = (s.windowed q x cid dw keeps, true) := by
  have hnone : x.win.find? (fun w => w.cid == cid) = none := List.find?_eq_none.2 fun w hw => by simpa using hx w hw
  simp only [State.winTake, hnone, if_pos hroom]
  rfl

/-- An I/O command that is taken up as a new one runs (R45, R115, R131). -/
theorem State.ioCmd_eq {s : State} {q cid nsid : Nat} {x : NvQueue} {y : NvAssoc} {n : Ns} {kv : Bool} (h : s.IoQ q cid nsid x y n kv)
    (dw : Nat) (changes keeps : Bool) (run : State → NvAssoc → Ns → State) :
    s.ioCmd q cid dw nsid kv changes keeps run = run (s.windowed q x cid dw keeps) y n := by
  obtain ⟨hq, hqid, ha, hpend, hx, hroom, hn, ht, hquota, hkv⟩ := h
  simp [State.ioCmd, hq, State.boundary_eq hpend, ha, hqid, s.winTake_new q hx hroom, hn, ht, hquota, hkv]

/-! ## Completions -/

/-- The state has taken a command of a queue up, among others of the queue's window with other identifiers. -/
def State.HasTaken (t : State) (q cid : Nat) : Prop :=
  ∃ (x : NvQueue) (dw : Nat) (keeps : Bool), (∀ w ∈ x.win, w.cid ≠ cid) ∧
    t.queue q = some { x with win := x.win ++ [NvWin.taken cid dw keeps] }

theorem State.windowed_hasTaken {x : NvQueue} {cid : Nat} (s : State) (q : Nat) (hx : ∀ w ∈ x.win, w.cid ≠ cid) (dw : Nat) (keeps : Bool) :
    (s.windowed q x cid dw keeps).HasTaken q cid :=
  ⟨x, dw, keeps, hx, Assoc.look_put_self _ _ _⟩

/-- The end of a command taken up: its completion is the last thing to leave, and only NVF's tables and the queue pair have moved
beside it (R45, R130). -/
theorem State.nvmeEnd_taken {t : State} {q cid : Nat} (h : t.HasTaken q cid) (status dw0 : Nat) :
    t.NvmeEnds (t.nvmeEnd q cid status dw0) q cid status ∧
      t.nvmeEnd q cid status dw0 = { t with nvf := (t.nvmeEnd q cid status dw0).nvf, rdm := (t.nvmeEnd q cid status dw0).rdm,
                                            out := (t.nvmeEnd q cid status dw0).out } := by
  obtain ⟨x, dw, keeps, hx, hq⟩ := h
  have hfind : (x.win ++ [NvWin.taken cid dw keeps]).find? (fun w => w.cid == cid && w.st == SlotSt.inProgress) =
      some (NvWin.taken cid dw keeps) := by
    rw [List.find?_append, List.find?_eq_none.2 fun w hw => by simp [hx w hw]]
    simp [NvWin.taken]
  have hend : t.nvmeEnd q cid status dw0 =
      (t.nvmeStore q cid status).nvmeCpl q cid status (if keeps && status == STS_OK then dw0 else status) := by
    simp only [State.nvmeEnd, hq, hfind]
    rfl
  have hstore : t.nvmeStore q cid status = { t with nvf := (t.nvmeStore q cid status).nvf } := by
    simp only [State.nvmeStore, hq]
    rfl
  rw [hend, State.nvmeCpl, State.queueSend_frame, hstore]
  exact ⟨⟨_, [], rfl⟩, rfl⟩

/-- An answer to a command taken up, of which no write is on its way, completes it with the answer's status (R130). -/
theorem State.answer_nvme {t : State} {q cid : Nat} (h : t.HasTaken q cid) (hops : t.ops.all (fun e => e.2.src != .nvme q cid) = true)
    (a : Answer) :
    t.NvmeEnds (t.answer (.nvme q cid) a) q cid a.status ∧ (t.answer (.nvme q cid) a).map = t.map ∧
      (t.answer (.nvme q cid) a).ops = t.ops := by
  have hany : t.ops.any (fun e => e.2.src == .nvme q cid && !e.2.released) = false :=
    List.any_eq_false.2 fun e he => by
      have hne : e.2.src ≠ .nvme q cid := by simpa using List.all_eq_true.1 hops e he
      simp [hne]
  have hq : (t.queue q).isSome = true := by
    obtain ⟨x, dw, keeps, -, hq⟩ := h
    simp [hq]
  cases hd : a.data != [] with
  | false =>
    have hans : t.answer (.nvme q cid) a = t.nvmeEnd q cid a.status a.vlen := by simp [State.answer, hany, hd]
    obtain ⟨hends, hframe⟩ := State.nvmeEnd_taken h a.status a.vlen
    rw [hans]
    exact ⟨hends, by rw [hframe], by rw [hframe]⟩
  | true =>
    have hans : t.answer (.nvme q cid) a =
        ((t.emit (.nvmeData q cid a.data)).queueSend q (a.data.length * 4096)).nvmeEnd q cid a.status a.vlen := by
      simp [State.answer, hany, hd, hq]
    have hsend := (t.emit (.nvmeData q cid a.data)).queueSend_frame q (a.data.length * 4096)
    generalize (t.emit (.nvmeData q cid a.data)).queueSend q (a.data.length * 4096) = u at hans hsend
    have hu : u.HasTaken q cid := by rw [hsend]; exact h
    obtain ⟨⟨d, l, hout⟩, hframe⟩ := State.nvmeEnd_taken hu a.status a.vlen
    rw [hans]
    refine ⟨⟨d, l ++ [.nvmeData q cid a.data], ?_⟩, ?_, ?_⟩
    · rw [hout, hsend, List.append_assoc]; rfl
    · rw [hframe, hsend]; rfl
    · rw [hframe, hsend]; rfl

/-- A read of an I/O queue that this head serves completes with what the owner reads, and leaves the map and the writes (R39, R340). -/
theorem State.ioRead_served {s : State} {q cid nsid : Nat} {x : NvQueue} {y : NvAssoc} {n : Ns} {kv : Bool} {r : ReadOf}
    (h : s.IoQ q cid nsid x y n kv) (hops : s.ops.all (fun e => e.2.src != .nvme q cid) = true) (hr : s.ServesRead (.nvme q cid) nsid r)
    (dw : Nat) (keeps : Bool) (heat : Assoc Nat) {u : State}
    (hu : u = s.touched s.hri (s.windowed q x cid dw keeps).nvf.queues s.kvs.held heat) :
    s.NvmeEnds (u.readCmd (.nvme q cid) nsid r true false) q cid (s.readNow nsid r).status ∧
      (u.readCmd (.nvme q cid) nsid r true false).map = s.map ∧ (u.readCmd (.nvme q cid) nsid r true false).ops = s.ops := by
  obtain ⟨hq, -, ha, -, hx, -⟩ := h
  have huq : u.queue q = some { x with win := x.win ++ [NvWin.taken cid dw keeps] } := by
    rw [hu]; exact Assoc.look_put_self _ _ _
  have hhost : u.hostOf (.nvme q cid) = s.hostOf (.nvme q cid) := by
    have hua : u.assoc x.assoc = s.assoc x.assoc := by rw [hu]; rfl
    simp [State.hostOf, huq, hq, hua]
  subst hu
  rw [State.readCmd_touched _ _ _ _ _ hr hhost]
  exact State.answer_nvme ⟨x, dw, keeps, hx, huq⟩ hops (s.readNow nsid r)

/-! ## Writes -/

/-- A write whose data comes whole with its capsule starts with it, and no transfer is to be granted (R119). -/
theorem State.nvmeWriteStart_whole {bytes icd : Nat} (s : State) (q cid tenant data : Nat) (r : WriteReq) (h : bytes ≤ icd) :
    s.nvmeWriteStart q cid tenant bytes icd data r = s.startWrite (.nvme q cid) tenant { r with
      data := if r.keyLen = 0 then blocksOf (data % 2 ^ (8 * bytes)) r.blocks else [data % 2 ^ (8 * bytes)] } := by
  simp [State.nvmeWriteStart, Nat.min_eq_right h]

/-- Writes that start one after the other take consecutive numbers, and leave those before them (R118). -/
theorem State.foldl_startWrite {β : Type} (src : Src) (tenant : Nat) (f : β → WriteReq) (l : List β) (s : State) :
    (l.foldl (fun s r => s.startWrite src tenant (f r)) s).nextOp = s.nextOp + l.length ∧
      (l.foldl (fun s r => s.startWrite src tenant (f r)) s).out = s.out ∧
      ∀ k, k < s.nextOp → (l.foldl (fun s r => s.startWrite src tenant (f r)) s).ops.look k = s.ops.look k := by
  induction l generalizing s with
  | nil => exact ⟨rfl, rfl, fun _ _ => rfl⟩
  | cons r l ih =>
    obtain ⟨hnext, hout, hlook⟩ := ih (s.startWrite src tenant (f r))
    rw [List.foldl_cons]
    refine ⟨hnext.trans ?_, hout, fun k hk => (hlook k (Nat.lt_succ_of_lt hk)).trans ?_⟩
    · rw [State.startWrite_eq, List.length_cons]
      dsimp only
      omega
    · exact Assoc.look_put_ne _ _ (Nat.ne_of_lt hk)

/-- A key of 1 to 16 bytes is one that NVMe's key-value commands take (R345). -/
theorem keyStatus_ok {len : Nat} (h1 : 1 ≤ len) (h16 : len ≤ 16) : keyStatus len = none := by
  rw [keyStatus, if_neg (by omega)]

/-! ## The statement -/

/-- Settles O28. -/
theorem nvmeIoCommandsRun : Obligations.NvmeIoCommandsRun := by
  refine ⟨?read, ?write, ?flush, ?flushAll, ?zeroes, ?dsm, ?invalid, ?store, ?retrieve, ?delete, ?exist, ?list⟩
  case read =>
    intro s q cid dw nsid lba blocks x y n h hr hops hs
    obtain ⟨hends, hmap, hop⟩ := State.ioRead_served h hops hs dw false s.kvs.heat rfl
    refine Completes.of_ended (congrArg ended ?_) ⟨hends, hmap, hop⟩
    rw [State.nvmeRead, State.ioCmd_eq h, hr]
    rfl
  case write =>
    intro s q cid dw nsid lba blocks icd data fua x y n h hr hicd
    have hrun : s.nvmeWrite q cid dw nsid lba blocks fua icd data = (s.windowed q x cid dw false).startWrite (.nvme q cid) y.tenant
        { blockReq .block nsid lba blocks [] fua with data := blocksOf (data % 2 ^ (8 * (4096 * blocks))) blocks } := by
      rw [State.nvmeWrite, State.ioCmd_eq h, hr]
      exact State.nvmeWriteStart_whole _ _ _ _ _ _ hicd
    exact Completes.of_ended (congrArg ended hrun)
      ⟨rfl, rfl, _, State.startWrite_look _ _ _ _, rfl, rfl, rfl, rfl, rfl, rfl, rfl⟩
  case flush =>
    intro s q cid dw nsid x y n h hns hops hs
    obtain ⟨hends, hmap, -⟩ := State.ioRead_served h hops hs dw false s.kvs.heat rfl
    refine Completes.of_ended (congrArg ended ?_) ⟨hends, hmap⟩
    rw [State.nvmeFlush, if_neg hns, State.ioCmd_eq h]
    rfl
  case flushAll =>
    intro s q cid dw x hq hpend hx hroom
    obtain ⟨hends, hframe⟩ := State.nvmeEnd_taken (s.windowed_hasTaken q hx dw false) STS_OK 0
    refine Completes.of_ended (congrArg ended ?_) ⟨hends, by rw [hframe]; rfl⟩
    simp [State.nvmeFlush, hq, State.boundary_eq hpend, s.winTake_new q hx hroom]
  case zeroes =>
    intro s q cid dw nsid lba blocks x y n h hr
    have hrun : s.nvmeWriteZeroes q cid dw nsid lba blocks =
        (s.windowed q x cid dw false).startWrite (.nvme q cid) y.tenant (blockReq .zeroes nsid lba blocks [] false) := by
      rw [State.nvmeWriteZeroes, State.ioCmd_eq h, hr]
    exact Completes.of_ended (congrArg ended hrun) ⟨rfl, rfl, _, State.startWrite_look _ _ _ _, rfl, rfl, rfl, rfl, rfl⟩
  case dsm =>
    intro s q cid dw nsid r l x y n h hr hl
    obtain ⟨hnext, hout, hlook⟩ := State.foldl_startWrite (.nvme q cid) y.tenant
      (fun r : Nat × Nat => blockReq .dealloc nsid r.1 r.2 [] false) l
      ((s.windowed q x cid dw false).startWrite (.nvme q cid) y.tenant (blockReq .dealloc nsid r.1 r.2 [] false))
    refine Completes.of_ended (congrArg ended ?_) ⟨hnext.trans ?_, hout, _,
      (hlook s.nextOp (Nat.lt_succ_self _)).trans (State.startWrite_look _ _ _ _), rfl, rfl, rfl, rfl, rfl⟩
    · have hlen : ¬ 256 < (r :: l).length := by rw [List.length_cons]; omega
      rw [State.nvmeDsm, State.ioCmd_eq h, hr]
      simp only [if_neg hlen]
      rfl
    · exact Nat.add_right_comm _ _ _
  case invalid =>
    intro s q cid x hq hpend
    have hrun : s.invalidOpcode q cid = s.nvmeCpl q cid STS_INVALID_OPCODE STS_INVALID_OPCODE := by
      simp [State.invalidOpcode, hq, State.boundary_eq hpend]
    refine Completes.of_ended (congrArg ended hrun) ?_
    rw [State.nvmeCpl, State.queueSend_frame]
    exact ⟨⟨_, [], rfl⟩, rfl⟩
  case store =>
    intro s q cid dw nsid key len vlen icd data me mn x y n h h1 h16 hv hicd hcond
    have hrun : s.kvStore q cid dw nsid key len vlen me mn false icd data =
        ((s.windowed q x cid dw false).kvHeat nsid key len).startWrite (.nvme q cid) y.tenant
          { keyReq .kvPut nsid key len vlen [data % 2 ^ (8 * vlen)] with ifPresent := me, ifAbsent := mn } := by
      rw [State.kvStore, State.ioCmd_eq h, keyStatus_ok h1 h16]
      simp only [if_neg (Nat.not_lt.2 hv), hcond]
      refine (State.nvmeWriteStart_whole _ _ _ _ _ _ hicd).trans ?_
      simp [keyReq, Nat.pos_iff_ne_zero.1 h1]
    exact Completes.of_ended (congrArg ended hrun)
      ⟨rfl, rfl, _, State.startWrite_look _ _ _ _, rfl, rfl, rfl, rfl, rfl, rfl, rfl, rfl⟩
  case retrieve =>
    intro s q cid dw nsid key len room x y n h h1 h16 hops hs
    obtain ⟨hends, hmap, -⟩ := State.ioRead_served h hops hs dw true (s.kvHeat nsid key len).kvs.heat rfl
    refine Completes.of_ended (congrArg ended ?_) ⟨hends, hmap⟩
    rw [State.kvReadCmd, State.ioCmd_eq h, keyStatus_ok h1 h16]
    rfl
  case delete =>
    intro s q cid dw nsid key len x y n h h1 h16
    have hrun : s.kvDeleteCmd q cid dw nsid key len =
        ((s.windowed q x cid dw false).kvHeat nsid key len).startWrite (.nvme q cid) y.tenant (keyReq .kvDelete nsid key len 0 []) := by
      rw [State.kvDeleteCmd, State.ioCmd_eq h, keyStatus_ok h1 h16]
    exact Completes.of_ended (congrArg ended hrun) ⟨rfl, rfl, _, State.startWrite_look _ _ _ _, rfl, rfl, rfl, rfl⟩
  case exist =>
    intro s q cid dw nsid key len x y n h h1 h16 hops hs
    obtain ⟨hends, hmap, -⟩ := State.ioRead_served h hops hs dw true (s.kvHeat nsid key len).kvs.heat rfl
    refine Completes.of_ended (congrArg ended ?_) ⟨hends, hmap⟩
    rw [State.kvReadCmd, State.ioCmd_eq h, keyStatus_ok h1 h16]
    rfl
  case list =>
    intro s q cid dw nsid key len room x y n h h16 hops hs
    obtain ⟨hends, hmap, -⟩ := State.ioRead_served h hops hs dw true s.kvs.heat rfl
    refine Completes.of_ended (congrArg ended ?_) ⟨hends, hmap⟩
    rw [State.kvListCmd, State.ioCmd_eq h]
    simp only [if_neg (Nat.not_lt.2 h16)]
    rfl

end Sys2Proof.Machine
end

section
/-! PROOFS. The refutation of the statement about journal channels, replay, buffer stripes and destage: the stripe of a destage (R195, R203). -/

namespace Sys2Proof.Machine

open Sys2Proof

/-- An accepted write of one block in PG 1, whose data is not programmed yet. -/
def acceptedWrite : WriteOp :=
  { src := .ring 0 0, kind := .block, nsid := 1, tenant := 0, lba := 0, blocks := 1, key := 0, keyLen := 0, valueLen := 0, data := [1],
    ifAbsent := false, ifPresent := false, ifVersion := none, fua := false, valueId := 0, pg := 1, reserve := 0, stage := .accepted,
    jseq := 0, stripe := 0, wseq := 1, tA := 0, epsA := Frac.zero, accepted := true, programmed := false, synced := false,
    released := false, arrival := 0, span := false }

/-- A head that carries that write and owns its set: its lease is HELD, and every other register field is at the reset value of its table. -/
def State.withAcceptedWrite : State :=
  State.wr { State.reset with regs := [], ops := [(0, acceptedWrite)],
                              own := { State.reset.own with sets := [(0, State.reset.aon.side)] } } Fld.OWN_STATUS_LEASE leaseHeld

/-- A placement that names PG 0. -/
def placementOfPg0 : StripeAt := { pg := 0, band := 0, row := 0, slc := false, members := [] }

/-- The stripe that the write's data is reduced into is the one of the write's own PG. -/
theorem destage_stripe_pg :
    ((State.withAcceptedWrite.destage 0 placementOfPg0 []).map.destages.look 0).map Destage.stripe =
      some { placementOfPg0 with pg := acceptedWrite.pg }.id := by
  decide

/-- Refutes O25: its ninth clause gives a destage the stripe of the placement as the command names it. The placement gives the band and the
row, and the PG is that of the write (R195, R203): the stripe of a placement that names another PG is not the destage's. -/
theorem not_journalReplaysAndDestages : ¬ Obligations.JournalReplaysAndDestages := by
  intro h
  obtain ⟨-, -, -, -, -, -, -, -, hdestage⟩ := h
  have hown : State.withAcceptedWrite.setState (State.withAcceptedWrite.nsOf acceptedWrite).oset = setOwned := by decide
  obtain ⟨t, ht, -, d, hd, -, -, hstripe⟩ := hdestage State.withAcceptedWrite 0 acceptedWrite placementOfPg0 [] rfl rfl rfl rfl rfl hown
    rfl rfl rfl rfl
  have hexec : exec (.destage 0 placementOfPg0 []) State.withAcceptedWrite =
      ended (State.withAcceptedWrite.destage 0 placementOfPg0 []) := rfl
  rw [hexec, ended_eq, Host.Outcome.next.injEq] at ht
  have hlook : (State.withAcceptedWrite.destage 0 placementOfPg0 []).map.destages.look 0 = some d := by rw [← hd, ← ht]
  have hpg : some d.stripe = some { placementOfPg0 with pg := acceptedWrite.pg }.id := by
    rw [← destage_stripe_pg, hlook]
    rfl
  exact absurd (hstripe.symm.trans (Option.some.inj hpg)) (by decide)

end Sys2Proof.Machine
end

section
/-! PROOFS. What a message to the partner, a record issued and a record's end of life leave as it was (R180, R181, R183, R186). -/

namespace Sys2Proof.Machine

open Sys2Proof

/-- A message to the partner touches the link and what leaves the head (R186). -/
theorem State.isend_frame (s : State) (vc : Nat) (m : IslMsg) :
    s.isend vc m = { s with isl := (s.isend vc m).isl, out := (s.isend vc m).out } := by
  unfold State.isend
  split <;> rfl

/-- The fields that issuing a record may write while no commit waits at PJM's boundary. -/
abbrev issueFields : List Field := [Fld.PJM_JSEQ_NEXT, Fld.PJM_ERR_HELD]

/-- Between two states at most the journal, the JSEQ counter, the bit of held records, the link and what leaves the head have changed. -/
def State.Journals (s t : State) : Prop :=
  (∃ p r i o, t = { s with pjm := p, regs := r, isl := i, out := o }) ∧ s.RegsBut t issueFields

theorem State.Journals.refl (s : State) : s.Journals s := ⟨⟨_, _, _, _, rfl⟩, State.RegsBut.of_eq rfl _⟩

theorem State.Journals.trans {s t u : State} (h : s.Journals t) (h' : t.Journals u) : s.Journals u := by
  obtain ⟨⟨_, _, _, _, rfl⟩, hr⟩ := h
  obtain ⟨⟨_, _, _, _, rfl⟩, hr'⟩ := h'
  exact ⟨⟨_, _, _, _, rfl⟩, hr.trans hr'⟩

theorem State.Journals.isend (s : State) (vc : Nat) (m : IslMsg) : s.Journals (s.isend vc m) :=
  ⟨⟨_, _, _, _, s.isend_frame vc m⟩, State.RegsBut.of_eq (by rw [State.isend_frame]) _⟩

theorem State.Journals.pjm (s : State) (p : Pjm) : s.Journals { s with pjm := p } :=
  ⟨⟨_, _, _, _, rfl⟩, State.RegsBut.of_eq rfl _⟩

theorem State.Journals.wr (s : State) {f : Field} (v : Nat) (hf : f ∈ issueFields) : s.Journals (s.wr f v) := by
  refine ⟨⟨_, _, _, _, rfl⟩, (State.RegsBut.of_eq rfl _).then_wr f v 0 0 hf ?_ ?_⟩
  · exact (by decide : ∀ g ∈ issueFields, 0 < g.first + g.count) f hf
  · exact (by decide : ∀ g ∈ issueFields, 0 < g.count2) f hf

/-- A step taken under a condition changes no more than the step. -/
theorem State.Journals.ite {s t : State} {c : Prop} [Decidable c] (h : s.Journals t) : s.Journals (if c then t else s) := by
  split
  · exact h
  · exact State.Journals.refl s

/-- A record is put on a channel (R180, R183). -/
theorem State.place_journals (s : State) (c j : Nat) (r : PjmRec) : s.Journals (s.place c j r) := by
  simp only [State.place]
  refine State.Journals.trans ?_ (State.Journals.ite (State.Journals.isend _ _ _))
  refine State.Journals.trans ?_ (State.Journals.pjm _ _)
  refine State.Journals.trans ?_ (State.Journals.pjm _ _)
  refine State.Journals.trans ?_ (State.Journals.ite (State.Journals.wr _ _ (by decide)))
  exact State.Journals.ite (State.Journals.isend _ _ _)

/-- A record is issued (R180, R183, R184). -/
theorem State.issue_journals {s : State} (h : s.admittedPend Blk.PJM = false) (b : RecBody) (n o : Nat) : s.Journals (s.issue b n o) := by
  have hw := State.Journals.wr s (f := Fld.PJM_JSEQ_NEXT) (s.rd Fld.PJM_JSEQ_NEXT + 1) (by decide)
  simp only [State.issue, State.boundary_eq h]
  split
  · exact hw.trans (State.place_journals _ _ _ _)
  · exact hw.trans ((State.Journals.wr _ _ (by decide)).trans (State.Journals.pjm _ _))

/-- A channel's tail that moves touches the journal alone (R181). -/
theorem State.retail_frame (s : State) (c : Nat) : s.retail c = { s with pjm := (s.retail c).pjm } := by
  simp only [State.retail]
  split <;> rfl

/-- Records that stop being live touch the journal alone (R181): every component that a change of the journal keeps stands. -/
theorem State.endLive_keeps {γ : Type} (p : State → γ) (h : ∀ (s : State) y, p { s with pjm := y } = p s) (s : State)
    (q : Nat → PjmRec → Bool) : p (s.endLive q) = p s := by
  have htail : ∀ (l : List Nat) (u : State), p (l.foldl State.retail u) = p u :=
    foldl_keeps _ p fun u c => by rw [u.retail_frame c, h]
  simp only [State.endLive]
  rw [htail, h, htail, h]

end Sys2Proof.Machine
end

section
/-! PROOFS. Enore sessions, and placement epochs (R50, R330, R333, R335, R336, R342, R349). -/

namespace Sys2Proof.Machine

open Sys2Proof

/-! ## What the operations of a session leave as it was -/

/-- Data sent on a queue pair changes RDM alone. -/
theorem State.roceSend_frame (s : State) (q bytes : Nat) : s.roceSend q bytes = { s with rdm := (s.roceSend q bytes).rdm } := by
  unfold State.roceSend
  split
  · rfl
  · split <;> rfl

/-- An answer to a session request leaves on its queue pair. -/
theorem State.sessAnswer_frame (s : State) (qp op status k rkey b h : Nat) :
    s.sessAnswer qp op status k rkey b h =
      { s with rdm := (s.sessAnswer qp op status k rkey b h).rdm
               out := .sessReply qp op status k rkey (s.rd Fld.KVS_EPOCH_EPOCH) b h :: s.out } :=
  State.roceSend_frame _ _ _

/-- A window's result is written in registers, or leaves the head. -/
theorem State.winResult_frame (s : State) (i : Nat) (bar0 : Bool) (status : Nat) (timeout : Bool) :
    s.winResult i bar0 status timeout =
      { s with regs := (s.winResult i bar0 status timeout).regs, out := (s.winResult i bar0 status timeout).out } := by
  cases bar0 <;> rfl

/-- A window command changes RDM, its registers and what leaves the head. -/
theorem State.winOpenCmd_frame (s : State) (i : Nat) (d : WinDesc) (inArea bar0 : Bool) :
    s.winOpenCmd i d inArea bar0 =
      { s with regs := (s.winOpenCmd i d inArea bar0).regs, rdm := (s.winOpenCmd i d inArea bar0).rdm
               out := (s.winOpenCmd i d inArea bar0).out } := by
  unfold State.winOpenCmd
  dsimp only
  split
  · rw [State.winResult_frame]
  · split
    · rw [State.winResult_frame]
    · rfl

/-- The results of a window's commands change RDM, its registers and what leaves the head. -/
theorem State.winResults_frame (s : State) (i status : Nat) (timeout : Bool) :
    s.winResults i status timeout =
      { s with regs := (s.winResults i status timeout).regs, rdm := (s.winResults i status timeout).rdm
               out := (s.winResults i status timeout).out } := by
  unfold State.winResults
  dsimp only
  split <;> split <;> rfl

/-- A window that is revoked changes RDM, its registers and what leaves the head. -/
theorem State.winRevokeCmd_frame (s : State) (i : Nat) (bar0 : Bool) :
    s.winRevokeCmd i bar0 =
      { s with regs := (s.winRevokeCmd i bar0).regs, rdm := (s.winRevokeCmd i bar0).rdm, out := (s.winRevokeCmd i bar0).out } := by
  unfold State.winRevokeCmd
  dsimp only
  split
  · rw [State.winResult_frame]
  · split
    · rfl
    · rw [State.winResults_frame]
      rfl

/-- A queue bound for a session changes POL alone (R160). -/
theorem State.polBind_frame (s : State) (tenant queue : Nat) : s.polBind tenant queue = { s with pol := (s.polBind tenant queue).pol } := by
  unfold State.polBind
  split <;> rfl

@[simp] theorem State.sess_setSess_self (s : State) (k : Nat) (x : Sess) : (s.setSess k x).sess k = some x := Assoc.look_put_self _ _ _

/-! ## Sessions -/

/-- The window that a session takes is the lowest FREE one of RDM: it depends on RDM's windows and their number alone. -/
theorem State.freeWin_congr {s t : State} (hr : t.rdm = s.rdm) (hl : t.rd Fld.RDM_LIMITS_WIN_LOG2 = s.rd Fld.RDM_LIMITS_WIN_LOG2) :
    t.freeWin = s.freeWin := by
  have hwin : t.win = s.win := by funext i; rw [State.win, hr, State.win]
  have hcount : t.winCount = s.winCount := by rw [State.winCount, hl, State.winCount]
  rw [State.freeWin, hr, hwin, hcount, State.freeWin]

/-- A window's image in the journal leaves the sessions and RDM's FREE windows as they are. -/
theorem State.windowImage_spec {s : State} (h : s.admittedPend Blk.PJM = false) (w : Nat) :
    (s.windowImage w).kvs = s.kvs ∧ (s.windowImage w).freeWin = s.freeWin := by
  unfold State.windowImage
  split
  · next x _ =>
    obtain ⟨⟨_, _, _, _, hissue⟩, hregs⟩ := State.issue_journals h (.window w x.b x.h) 65 0
    have hlimit := hregs.rd_below Fld.RDM_LIMITS_WIN_LOG2 0 0 (by decide)
    generalize s.issue (.window w x.b x.h) 65 0 = t at hissue hlimit
    subst hissue
    exact ⟨rfl, State.freeWin_congr rfl hlimit⟩
  · exact ⟨rfl, rfl⟩

/-- The session that a request sets up on window i: it is attached, and resumes the commands of the session it had (R335, R336). -/
def startedSess (r : SessReq) (tenant i now : Nat) (old : Option Sess) : Sess :=
  { client := r.client, nsid := r.nsid, tenant := tenant, qp := r.qp, slotsLog2 := r.slotsLog2, evtLog2 := r.evtLog2,
    respImm := r.respImm, respAddr := r.respAddr, window := i, attached := true,
    cmds := (match old with | some x => x.cmds | none => []).mapVal (fun _ c => { c with slot := 2 ^ 13 }),
    nextCmd := (match old with | some x => x.nextCmd | none => 0), resps := [], evtSeq := 0, lastUse := now, closedAt := none }

/-- A session is set up where RDM has a FREE window (R336). -/
theorem State.sessStart_spec {s : State} {i : Nat} (h : s.freeWin = some i) (r : SessReq) (op k tenant : Nat) (old : Option Sess) :
    (s.sessStart r op k tenant old).wins = s.wins ∧ (s.sessStart r op k tenant old).kvs.nextSession = s.kvs.nextSession ∧
      (s.sessStart r op k tenant old).sess k = some (startedSess r tenant i s.now old) := by
  simp only [State.sessStart, h]
  rw [State.polBind_frame, State.winOpenCmd_frame]
  split
  · rw [State.sessAnswer_frame]
    exact ⟨rfl, rfl, State.sess_setSess_self _ _ _⟩
  · exact ⟨rfl, rfl, State.sess_setSess_self _ _ _⟩

/-- A session request that is not refused opens a session under the head's counter (R335). -/
theorem State.sessionOpen_spec {s : State} {r : SessReq} {q : Qp} {i : Nat} (he : s.enabled Blk.KVS = true) (hq : s.qpReady r.qp = some q)
    (hr : s.sessRefusal r q.tenant = none) (hw : s.freeWin = some i) (hp : s.admittedPend Blk.PJM = false) :
    (s.sessionOpen r).kvs.nextSession = s.kvs.nextSession + 1 ∧
      ∃ now, (s.sessionOpen r).sess (s.headId * 2 ^ 48 + s.kvs.nextSession % 2 ^ 48) = some (startedSess r q.tenant i now none) := by
  simp only [State.sessionOpen, he, hq, hr, Bool.not_true, Bool.false_eq_true, if_false]
  generalize s.headId * 2 ^ 48 + s.kvs.nextSession % 2 ^ 48 = k
  generalize hv : State.setWin { s with kvs := { s.kvs with nextSession := s.kvs.nextSession + 1 } } (winSession k)
    (RWin.fresh 64 0 r.client) = v
  obtain ⟨hkvs, hfree⟩ := State.windowImage_spec (s := v) (by rw [← hv]; exact hp) (winSession k)
  obtain ⟨-, hnext, hsess⟩ := State.sessStart_spec (s := v.windowImage (winSession k)) (hfree.trans (by rw [← hv]; exact hw))
    r 0x81 k q.tenant none
  refine ⟨?_, _, hsess⟩
  rw [hnext, hkvs, ← hv]
  rfl

/-- A request that is refused is answered, and changes no session (R335). -/
theorem State.sessionOpen_refused {s : State} {r : SessReq} {q : Qp} {st : Nat} (he : s.enabled Blk.KVS = true)
    (hq : s.qpReady r.qp = some q) (hr : s.sessRefusal r q.tenant = some st) :
    s.sessionOpen r = s.sessAnswer r.qp 0x81 st 0 0 0 0 := by
  simp [State.sessionOpen, he, hq, hr]

/-- A session that is not attached and whose window the array has is resumed (R50). -/
theorem State.sessionAttach_resumes {s : State} {r : SessReq} {q : Qp} {x : Sess} {w : RWin} (he : s.enabled Blk.KVS = true)
    (hq : s.qpReady r.qp = some q) (hr : s.sessRefusal r q.tenant = none) (hx : s.sess r.session = some x) (ha : x.attached = false)
    (hw : s.wins.look (winSession r.session) = some w) :
    s.sessionAttach r = s.sessStart r 0x82 r.session q.tenant (some x) := by
  simp [State.sessionAttach, he, hq, hx, ha, hr, Assoc.has_of_look hw]

/-- The response of a command other than CLOSE leaves, with the epoch in force (R342). -/
theorem State.responseWrite_first {s : State} {k : Nat} {x : Sess} {r : SessResp} {l : List SessResp} {q : Qp} (hx : s.sess k = some x)
    (hl : x.resps = r :: l) (ha : x.attached = true) (hs : r.slot < 2 ^ 13) (hq : s.qpReady x.qp = some q) (ho : r.opcode ≠ opClose) :
    s.responseWrite k 0 =
      ((s.setSess k { x with resps := l }).emit (.enoreResp k (s.rd Fld.KVS_EPOCH_EPOCH) r x.respImm)).roceSend x.qp 64 := by
  have hready : ((s.setSess k { x with resps := l }).qpReady x.qp).isSome = true := Option.isSome_of_eq_some hq
  have hgo : (x.attached && decide (r.slot < 2 ^ 13) && ((s.setSess k { x with resps := l }).qpReady x.qp).isSome) = true := by
    rw [hready, ha, decide_eq_true hs]
    rfl
  simp only [State.responseWrite, hx, hl, List.getElem?_cons_zero, List.eraseIdx_cons_zero, hgo, if_true]
  rw [if_neg fun h => ho h.1]
  rfl

/-- A session that ends is attached no longer, and its window is kept from now on (R335). -/
theorem State.sessClose_spec {s : State} {k : Nat} {x : Sess} (hx : s.sess k = some x) :
    (s.sessClose k).now = s.now ∧
      (s.sessClose k).sess k = some { x with closedAt := some s.now, attached := false, resps := [] } := by
  simp only [State.sessClose, hx, State.sessDetach, State.sess_setSess_self]
  rw [State.winRevokeCmd_frame]
  exact ⟨rfl, State.sess_setSess_self _ _ _⟩

/-- Local time passes while no lease runs. -/
theorem State.advance_unleased {s : State} (h : s.aon.leaseEnd = none) (t : Nat) : s.advance t = { s with now := max s.now t } :=
  s.advance_quiet t fun e he => by rw [h] at he; cases he

/-- An idle session is closed when its idle time has passed (Table 15.5). -/
theorem State.idleExpiry_spec {s : State} {k : Nat} {x : Sess} (hx : s.sess k = some x) (hi : s.rd Fld.KVS_ENORE_IDLE_S ≠ 0)
    (hcl : x.closedAt = none) (hc : x.cmds = []) (hr : x.resps = []) (hl : s.aon.leaseEnd = none) :
    (s.idleExpiry k).now = max s.now (x.lastUse + s.rd Fld.KVS_ENORE_IDLE_S * 1000000 * unitsPerUs) ∧
      ∃ y, (s.idleExpiry k).sess k = some y ∧ y.closedAt = some (s.idleExpiry k).now ∧ y.attached = false := by
  have hgo : ¬ (s.rd Fld.KVS_ENORE_IDLE_S = 0 ∨ x.closedAt.isSome = true ∨ x.cmds ≠ [] ∨ x.resps ≠ []) := by simp [hi, hcl, hc, hr]
  simp only [State.idleExpiry, hx]
  rw [if_neg hgo, State.advanceUs, State.advance_unleased hl]
  generalize hv : (if x.attached = true then _ else _ : State) = v
  have hnow : v.now = max s.now (x.lastUse + s.rd Fld.KVS_ENORE_IDLE_S * 1000000 * unitsPerUs) := by
    rw [← hv]
    split <;> rfl
  have hsess : v.sess k = some { x with evtSeq := x.evtSeq + 1 } := by
    rw [← hv]
    split <;> exact State.sess_setSess_self _ _ _
  obtain ⟨hclosed, hend⟩ := State.sessClose_spec hsess
  exact ⟨hclosed.trans hnow, _, hend, congrArg some hclosed.symm, rfl⟩

/-- KEEP_S after its close a session and its window are forgotten (R50, R335). -/
theorem State.keepExpiry_spec {s : State} {k t : Nat} {x : Sess} (hx : s.sess k = some x) (ht : x.closedAt = some t) (hc : x.cmds = [])
    (hl : s.aon.leaseEnd = none) :
    (s.keepExpiry k).sess k = none ∧ (s.keepExpiry k).wins.look (winSession k) = none ∧
      (s.keepExpiry k).now = max s.now (t + s.rd Fld.KVS_LIMITS_KEEP_S * 1000000 * unitsPerUs) := by
  simp only [State.keepExpiry, hx, ht, hc, ne_eq, not_true_eq_false, if_false, State.advanceUs, State.advance_unleased hl]
  refine ⟨?_, ?_, ?_⟩
  · exact (State.endLive_keeps (fun u => u.sess k) (fun _ _ => rfl) _ _).trans (Assoc.look_del_self _ _)
  · exact (State.endLive_keeps (fun u => u.wins.look (winSession k)) (fun _ _ => rfl) _ _).trans (Assoc.look_del_self _ _)
  · exact State.endLive_keeps (fun u => u.now) (fun _ _ => rfl) _ _

/-! ## Placement epochs -/

/-- The epoch in force is not touched by whether it is the newest known. -/
theorem State.rd_epoch_epochSync (s : State) : s.epochSync.rd Fld.KVS_EPOCH_EPOCH = s.rd Fld.KVS_EPOCH_EPOCH :=
  State.rd_wr_ne _ _ _ _ _ _ _ _ (by decide)

/-- A newer update is kept for its T_EFF, and changes no placement yet (R333). -/
theorem State.updateKnown_spec {s : State} {e : Nat} (h : s.rd Fld.KVS_EPOCH_EPOCH < e) (tEff : Nat) (cs : List PlaceChange) :
    (s.updateKnown e tEff cs).kvs.updates.look e = some ⟨tEff, cs⟩ ∧
      (s.updateKnown e tEff cs).rd Fld.KVS_EPOCH_EPOCH = s.rd Fld.KVS_EPOCH_EPOCH ∧
      (s.updateKnown e tEff cs).kvs.buckets = s.kvs.buckets ∧ (s.updateKnown e tEff cs).kvs.sessions = s.kvs.sessions := by
  rw [State.updateKnown, if_neg (Nat.not_le.2 h)]
  exact ⟨Assoc.look_put_self _ _ _, State.rd_epoch_epochSync _, rfl, rfl⟩

/-- The next update takes effect at its T_EFF: it places its bucket (R330, R333). -/
theorem State.epochApply_bucket {s : State} {b a t : Nat} {p : Bool}
    (hu : s.kvs.updates.look (s.rd Fld.KVS_EPOCH_EPOCH + 1) = some ⟨t, [.bucket b a p]⟩) (ho : s.kvs.outC = none) (hi : s.kvs.inC = none)
    (hl : s.aon.leaseEnd = none) :
    ∃ now, s.now ≤ now ∧ s.epochApply = (State.wr { s with now := now, kvs := { s.kvs with
      buckets := s.kvs.buckets.put (b % 2 ^ 20) { array := a % 2 ^ 15, pinned := p, moving := false }
      updates := s.kvs.updates.del (s.rd Fld.KVS_EPOCH_EPOCH + 1) } } Fld.KVS_EPOCH_EPOCH (s.rd Fld.KVS_EPOCH_EPOCH + 1)).epochSync := by
  refine ⟨max s.now (s.localOf (Frac.int (t : Nat))), Nat.le_max_left _ _, ?_⟩
  simp only [State.epochApply, hu, State.advanceCt, State.advance_unleased hl]
  simp [State.placeChange, State.epochSync, State.wrb, State.wr, ho, hi]

/-- With no session no command waits for an epoch. -/
theorem State.enoreRouteAll_none {s : State} (h : s.kvs.sessions = []) : s.enoreRouteAll = s := by
  rw [State.enoreRouteAll, h]
  rfl

/-- An authority grants the next epoch while its T_EFF lies far enough ahead (R333). -/
theorem State.authority_grants {s : State} {t : Nat} (he : s.enabled Blk.KVS = true) (ha : s.isAuthority = true)
    (ht : s.ctNs + s.rd Fld.KVS_CARAVAN_LEAD_MS * 1000000 ≤ t) (array : Nat) (cs : List PlaceChange) :
    s.authority array (.update s.nextGrant t cs) =
      State.emit { s with kvs := { s.kvs with granted := s.kvs.granted.put s.nextGrant ⟨t, cs⟩ } } (.placeMsg array 1 s.nextGrant t []) := by
  simp [State.authority, he, ha, ht]

/-- Settles O44. -/
theorem sessionsAndPlacementEpochs : Obligations.SessionsAndPlacementEpochs := by
  unfold Obligations.SessionsAndPlacementEpochs
  refine ⟨?opened, ?refused, ?attached, ?response, ?idle, ?keep, ?update, ?applied, ?unreached, ?fetched, ?granted, ?report⟩
  case opened =>
    intro s r q i he hq hr hw hp
    obtain ⟨hnext, _, hsess⟩ := State.sessionOpen_spec he hq hr hw hp
    exact Completes.of_ended rfl ⟨hnext, _, hsess, rfl, rfl, rfl, rfl, rfl, rfl, rfl⟩
  case refused =>
    intro s r q st he hq hr
    exact Completes.of_ended (congrArg ended ((State.sessionOpen_refused he hq hr).trans (State.sessAnswer_frame _ _ _ _ _ _ _ _)))
      ⟨rfl, rfl, List.mem_cons_self⟩
  case attached =>
    intro s r q i x w he hq hr hw hx ha hwin
    obtain ⟨hwins, hnext, hsess⟩ := State.sessStart_spec hw r 0x82 r.session q.tenant (some x)
    exact Completes.of_ended (congrArg ended (State.sessionAttach_resumes he hq hr hx ha hwin))
      ⟨hwins, hnext, _, hsess, rfl, rfl, rfl, rfl, rfl⟩
  case response =>
    intro s k x r l q hx hl ha hs hq ho
    exact Completes.of_ended (congrArg ended ((State.responseWrite_first hx hl ha hs hq ho).trans (State.roceSend_frame _ _ _)))
      ⟨State.sess_setSess_self _ _ _, rfl, List.mem_cons_self⟩
  case idle =>
    intro s k x hx hi hcl hc hr hl
    exact Completes.of_ended rfl (State.idleExpiry_spec hx hi hcl hc hr hl)
  case keep =>
    intro s k t x hx ht hc hl
    exact Completes.of_ended rfl (State.keepExpiry_spec hx ht hc hl)
  case update =>
    intro s e t l he
    obtain ⟨hknown, hepoch, hbuckets, -⟩ := State.updateKnown_spec he t l
    exact Completes.of_ended rfl ⟨hknown, hepoch, hbuckets⟩
  case applied =>
    intro s b a t p hu ho hi hl
    obtain ⟨now, hnow, happly⟩ := State.epochApply_bucket hu ho hi hl
    refine Completes.of_ended (congrArg ended happly) ⟨?_, Assoc.getD_put_self _ _ _ _, hnow, Assoc.look_del_self _ _⟩
    exact (State.rd_epoch_epochSync _).trans (State.rd_wr_self _ _ _ _ _)
  case unreached =>
    intro s h
    refine Completes.of_ended (u := s.raise Fld.KVS_ERR_EPOCH_FETCH) (congrArg ended ?_)
      ⟨State.rd_wr_self s Fld.KVS_ERR_EPOCH_FETCH 1 0 0, rfl⟩
    simp [State.epochFetch, h]
  case fetched =>
    intro s e t l h hs he
    obtain ⟨hknown, -, hbuckets, hsess⟩ := State.updateKnown_spec he t l
    refine Completes.of_ended (u := (s.updateKnown e t l).epochSync) (congrArg ended ?_) ⟨hknown, hbuckets⟩
    have hfetch : s.epochFetch (some [(e, t, l)]) = (s.updateKnown e t l).epochSync.enoreRouteAll := by
      simp [State.epochFetch, h]
    exact hfetch.trans (State.enoreRouteAll_none (hsess.trans hs))
  case granted =>
    intro s a t l he ha ht
    exact Completes.of_ended (congrArg ended (State.authority_grants he ha ht a l)) ⟨Assoc.look_put_self _ _ _, rfl, rfl⟩
  case report =>
    intro s a f h he ha
    refine Completes.of_ended (u := s.authority a (.report f h)) rfl ?_
    simp only [State.authority, he, ha]
    exact ⟨Assoc.look_put_self _ _ _, rfl, rfl⟩

end Sys2Proof.Machine
end

section
/-! PROOFS. Cluster time, its bound and the slots of the Carillon (R57 to R76). -/

namespace Sys2Proof.Machine

open Sys2Proof

/-! ## Register fields -/

/-- Fields of one table lie equally far apart at every row (R518). -/
theorem Field.key_ne_of_stride {f g : Field} (hs : g.stride = f.stride) (h : g.key 0 0 ≠ f.key 0 0) (i : Nat) : g.key i 0 ≠ f.key i 0 := by
  unfold Field.key at h ⊢
  rw [hs]
  omega

/-- Writing a row of one field leaves the same row of another field of its table. -/
theorem State.rd_wr_row (s : State) {f g : Field} (v i : Nat) (hs : g.stride = f.stride) (h : g.key 0 0 ≠ f.key 0 0) :
    (s.wr f v i).rd g i = s.rd g i :=
  State.rd_wr_ne _ _ _ _ _ _ _ _ (Field.key_ne_of_stride hs h i)

/-- Writing a register leaves every table that lies above it. -/
theorem State.rd_wr_above (s : State) {f g : Field} (v i j : Nat) (h : f.key 0 0 < g.key 0 0) : (s.wr f v).rd g i j = s.rd g i j :=
  State.rd_wr_ne _ _ _ _ _ _ _ _ (Nat.lt_of_lt_of_le h (g.key_zero_le i j)).ne'

/-- Writing a row of a table leaves every register that lies below the table. -/
theorem State.rd_wr_under (s : State) {f g : Field} (v i : Nat) (h : g.key 0 0 < f.key 0 0) : (s.wr f v i).rd g = s.rd g :=
  State.rd_wr_ne _ _ _ _ _ _ _ _ (Nat.lt_of_lt_of_le h (f.key_zero_le i 0)).ne

/-- A row of the slots' table lies below the fields of OWN (R518). -/
theorem slot_key_lt {f : Field} {i : Nat} (hi : i < 16384) (hf : f.stride = 256 ∧ f.key 0 0 ≤ Fld.CAR_SLOT_STATE.key 0 0) :
    f.key i 0 < Fld.OWN_STATUS_LEASE.key 0 0 := by
  have hb : Fld.CAR_SLOT_STATE.key 0 0 + 16383 * 256 < Fld.OWN_STATUS_LEASE.key 0 0 := by decide
  obtain ⟨hs, hk⟩ := hf
  have hkey : f.key i 0 = f.key 0 0 + i * 256 := by simp [Field.key, hs]
  omega

/-! ## Local time -/

@[simp] theorem State.advance_now (s : State) (t : Nat) : (s.advance t).now = max s.now t := (s.advance_frame t).1
@[simp] theorem State.advance_car (s : State) (t : Nat) : (s.advance t).car = s.car := by rw [(s.advance_frame t).2.1]
@[simp] theorem State.advance_adm (s : State) (t : Nat) : (s.advance t).adm = s.adm := by rw [(s.advance_frame t).2.1]
@[simp] theorem State.advance_hri (s : State) (t : Nat) : (s.advance t).hri = s.hri := by rw [(s.advance_frame t).2.1]
@[simp] theorem State.advance_out (s : State) (t : Nat) : (s.advance t).out = s.out := by rw [(s.advance_frame t).2.1]

/-- The passing of local time, and the end of the lease on its way, touch no field below those of OWN (R378). -/
theorem State.rd_advance (s : State) (t : Nat) (f : Field) (i j : Nat) (h : f.key i j < Fld.OWN_STATUS_LEASE.key 0 0) :
    (s.advance t).rd f i j = s.rd f i j := by
  refine (s.advance_frame t).2.2.rd_below f i j fun g hg => Nat.lt_of_lt_of_le h ?_
  revert g
  decide

theorem State.rdb_advance (s : State) (t : Nat) (f : Field) (i j : Nat) (h : f.key i j < Fld.OWN_STATUS_LEASE.key 0 0) :
    (s.advance t).rdb f i j = s.rdb f i j := by
  rw [State.rdb, State.rd_advance s t f i j h, State.rdb]

theorem State.admittedPend_congr {s t : State} (h : t.adm = s.adm) (b : Nat) : t.admittedPend b = s.admittedPend b := by
  rw [State.admittedPend, h, State.admittedPend]

/-- The enables of the blocks. -/
abbrev enableFields : List Field := (List.range 28).filterMap enableField

theorem mem_enableFields {b : Nat} {f : Field} (h : enableField b = some f) : f ∈ enableFields := by
  unfold enableField at h
  split at h <;> cases h <;> decide

/-- The end of the lease disables no block. -/
@[simp] theorem State.enabled_advance (s : State) (t b : Nat) : (s.advance t).enabled b = s.enabled b := by
  unfold State.enabled
  split
  · next f hf =>
    have hk : ∀ f ∈ enableFields, ∀ g ∈ leaseFields, g.stride = 0 ∧ g.stride2 = 0 ∧ g.key 0 0 ≠ f.key 0 0 := by decide
    have hr : (s.advance t).rd f = s.rd f := (s.advance_frame t).2.2.rd f 0 0 fun g hg a b _ _ => by
      obtain ⟨h1, h2, h3⟩ := hk f (mem_enableFields hf) g hg
      simpa [Field.key, h1, h2] using h3
    rw [State.rdb, hr, State.rdb]
  · rfl

/-! ## Records and global events -/

/-- A record touches no field below those of OWN: GBK lies above it (R457, R463). -/
theorem State.rd_record (s : State) (src code a0 a1 a2 : Nat) (alarm : Bool) (f : Field) (i j : Nat)
    (h : f.key i j < Fld.OWN_STATUS_LEASE.key 0 0) : (s.record src code a0 a1 a2 alarm).rd f i j = s.rd f i j := by
  refine (s.recordAt_frame src code a0 a1 a2 s.ctNs alarm).2.rd_below f i j fun g hg => Nat.lt_trans h ?_
  revert g
  decide

@[simp] theorem State.record_car (s : State) (src code a0 a1 a2 : Nat) (alarm : Bool) : (s.record src code a0 a1 a2 alarm).car = s.car := by
  rw [State.record, (s.recordAt_frame src code a0 a1 a2 s.ctNs alarm).1]
@[simp] theorem State.record_out (s : State) (src code a0 a1 a2 : Nat) (alarm : Bool) : (s.record src code a0 a1 a2 alarm).out = s.out := by
  rw [State.record, (s.recordAt_frame src code a0 a1 a2 s.ctNs alarm).1]
@[simp] theorem State.record_hri (s : State) (src code a0 a1 a2 : Nat) (alarm : Bool) : (s.record src code a0 a1 a2 alarm).hri = s.hri := by
  rw [State.record, (s.recordAt_frame src code a0 a1 a2 s.ctNs alarm).1]

/-- The rows that a listing of a field names are rows of its table. -/
theorem State.listed_lt {s : State} {f : Field} {e : Nat × Nat} (h : e ∈ s.listed f) : e.1 < f.first + f.count := by
  obtain ⟨x, -, hx⟩ := List.mem_filterMap.1 h
  dsimp only at hx
  split at hx
  · next hc =>
    cases hx
    exact hc.2.2
  · cases hx

theorem NatSet.of_mem_insert {l : NatSet} {k n : Nat} (h : n ∈ l.insert k) : n = k ∨ n ∈ l := by
  induction l with
  | nil => simpa [NatSet.insert] using h
  | cons x t ih =>
    simp only [NatSet.insert] at h
    split at h
    · simpa using h
    · split at h
      · exact .inr h
      · rcases List.mem_cons.1 h with h | h
        · exact .inr (h ▸ List.mem_cons_self)
        · exact (ih h).imp id (List.mem_cons_of_mem _)

/-- Global events go to functions of the head alone (R104). -/
theorem State.globalFns_lt {s : State} {n : Nat} (h : n ∈ s.globalFns) : n < 256 := by
  rcases NatSet.of_mem_insert h with h | h
  · omega
  · obtain ⟨e, he, rfl⟩ := List.mem_map.1 h
    exact State.listed_lt he

/-- Events for functions of the head: HRI's own state, what leaves the head, and the counts of lost events (R103). -/
theorem State.eventToAll_frame (l : List Nat) (hl : ∀ n ∈ l, n < 256) (src code time a0 a1 : Nat) (s : State) :
    (∃ h o r, s.eventToAll l src code time a0 a1 = { s with hri := h, out := o, regs := r }) ∧
    s.RegsBut (s.eventToAll l src code time a0 a1) [Fld.HRI_FN_EVQ_LOST_COUNT, Fld.HRI_ERR_EVQ_OVF] := by
  induction l generalizing s with
  | nil => exact ⟨⟨_, _, _, rfl⟩, State.RegsBut.of_eq rfl _⟩
  | cons n l ih =>
    obtain ⟨hn, hl⟩ := List.forall_mem_cons.1 hl
    obtain ⟨he, hr⟩ := s.eventTo_frame n src code time a0 a1 hn
    obtain ⟨⟨_, _, _, hes⟩, hrs⟩ := ih hl (s.eventTo n src code time a0 a1)
    exact ⟨⟨_, _, _, hes.trans (by rw [he])⟩, hr.trans hrs⟩

@[simp] theorem State.eventGlobal_car (s : State) (src code a0 a1 : Nat) : (s.eventGlobal src code a0 a1).car = s.car := by
  obtain ⟨⟨_, _, _, h⟩, -⟩ := State.eventToAll_frame s.globalFns (fun _ => State.globalFns_lt) src code s.ctNs a0 a1 s
  rw [State.eventGlobal, h]

/-- A global event touches no field below those of HRI (R103, R104). -/
theorem State.rd_eventGlobal (s : State) (src code a0 a1 : Nat) (f : Field) (i j : Nat)
    (h : f.key i j < Fld.HRI_CTRL_ENABLE.key 0 0) : (s.eventGlobal src code a0 a1).rd f i j = s.rd f i j := by
  refine (State.eventToAll_frame _ (fun _ => State.globalFns_lt) src code s.ctNs a0 a1 s).2.rd_below f i j fun g hg => Nat.lt_trans h ?_
  revert g
  decide

/-! ## Slots that change together, and the servo step -/

/-- The slots' states change, and nothing else of the head (Table 03.1, R70). -/
theorem State.slotsFromTo_frame (s : State) (a b : Nat) :
    (∃ r, s.slotsFromTo a b = { s with regs := r }) ∧ s.RegsBut (s.slotsFromTo a b) [Fld.CAR_SLOT_STATE] := by
  have key : ∀ (l : List (Nat × Nat)) (u : State), (∀ e ∈ l, e.1 < 16384) →
      (∃ r, l.foldl (fun s e => s.wr Fld.CAR_SLOT_STATE b e.1) u = { u with regs := r }) ∧
        u.RegsBut (l.foldl (fun s e => s.wr Fld.CAR_SLOT_STATE b e.1) u) [Fld.CAR_SLOT_STATE] := by
    intro l
    induction l with
    | nil => exact fun u _ => ⟨⟨_, rfl⟩, State.RegsBut.of_eq rfl _⟩
    | cons e l ih =>
      intro u hl
      obtain ⟨he, hl⟩ := List.forall_mem_cons.1 hl
      obtain ⟨⟨_, h⟩, hr⟩ := ih (u.wr Fld.CAR_SLOT_STATE b e.1) hl
      exact ⟨⟨_, h⟩, (State.RegsBut.wr u Fld.CAR_SLOT_STATE b e.1 0 he (by decide)).trans hr⟩
  exact key _ s fun e he => State.listed_lt (List.mem_of_mem_filter he)

@[simp] theorem State.slotsFromTo_car (s : State) (a b : Nat) : (s.slotsFromTo a b).car = s.car := by
  obtain ⟨⟨_, h⟩, -⟩ := s.slotsFromTo_frame a b
  rw [h]

theorem State.rd_slotsFromTo (s : State) (a b : Nat) (f : Field) (h : f.key 0 0 < Fld.CAR_SLOT_STATE.key 0 0) :
    (s.slotsFromTo a b).rd f = s.rd f :=
  (s.slotsFromTo_frame a b).2.rd_below f 0 0 (List.forall_mem_singleton.2 h)

/-- An admitted commit that takes effect at CAR's boundary touches the configuration alone (R76, R441). -/
theorem State.boundary_car_frame (s : State) :
    ∃ r sh la ad, s.boundary Blk.CAR = { s with regs := r, shadow := sh, latched := la, adm := ad } := by
  unfold State.boundary
  split
  · exact ⟨_, _, _, _, rfl⟩
  · exact ⟨_, _, _, _, rfl⟩

/-- Of the time service a servo step changes the instant of the last one alone (R76). -/
theorem State.servoBoundary_frame (s : State) :
    s.servoBoundary.now = s.now ∧ s.servoBoundary.car = { s.car with lastStep := s.now } := by
  obtain ⟨_, _, _, _, h⟩ := s.boundary_car_frame
  unfold State.servoBoundary
  rw [h]
  dsimp only
  split <;> exact ⟨rfl, rfl⟩

/-- With no commit waiting for CAR, a servo step is the instant of the step (R76). -/
theorem State.servoBoundary_quiet {s : State} (h : s.admittedPend Blk.CAR = false) (hb : s.adm.boundNext = none) :
    s.servoBoundary = { s with car := { s.car with lastStep := s.now } } := by
  simp only [State.servoBoundary, State.boundary_eq h, hb]

/-- Keeping the instant of R67 leaves the other instants and the frequency of the time service. -/
theorem State.epsTrack_keeps (s : State) :
    s.epsTrack.now = s.now ∧ s.epsTrack.car.lastStep = s.car.lastStep ∧ s.epsTrack.car.y = s.car.y ∧
      s.epsTrack.car.lastMeas = s.car.lastMeas ∧ s.epsTrack.car.ppsInAt = s.car.ppsInAt :=
  ⟨rfl, rfl, rfl, rfl, rfl⟩

/-! ## Measurements -/

/-- The first measurement of UNSYNCED enters ACQUIRING, with no measurement in a row and no step yet (Table 03.1). -/
def State.acquire (s : State) : State :=
  if s.rd Fld.CAR_STATUS_STATE = carUnsynced then
    { s.wr Fld.CAR_STATUS_STATE carAcquiring with car := { s.car with lockRun := 0, stepped := false } }
  else s

theorem State.acquire_of_unsynced {s : State} (h : s.rd Fld.CAR_STATUS_STATE = carUnsynced) :
    s.acquire.rd Fld.CAR_STATUS_STATE = carAcquiring ∧ s.acquire.car.lockRun = 0 := by
  rw [State.acquire, if_pos h]
  exact ⟨State.rd_wr_self s Fld.CAR_STATUS_STATE carAcquiring 0 0, rfl⟩

/-- A measurement in HOLDOVER enters LOCKED (Table 03.1). -/
def State.regain (s : State) : State :=
  if s.rd Fld.CAR_STATUS_STATE = carHoldover then s.wr Fld.CAR_STATUS_STATE carLocked else s

@[simp] theorem State.regain_car (s : State) : s.regain.car = s.car := by
  unfold State.regain
  split <;> rfl

@[simp] theorem State.regain_adm (s : State) : s.regain.adm = s.adm := by
  unfold State.regain
  split <;> rfl

/-- Entry to LOCKED says nothing of measurements and edges (Table 03.1). -/
theorem State.lockEntry_car (s : State) : s.lockEntry.car.lastMeas = s.car.lastMeas ∧ s.lockEntry.car.ppsInAt = s.car.ppsInAt := by
  unfold State.lockEntry
  split
  · simp
  · exact ⟨rfl, rfl⟩

theorem State.lockEntry_of_not {s : State} (h : s.rd Fld.CAR_STATUS_STATE = carAcquiring → s.car.lockRun < 16) : s.lockEntry = s := by
  rw [State.lockEntry, if_neg fun hc => Nat.not_le.2 (h hc.1) hc.2]

/-- The offset of a measurement is taken up: time steps or the servo follows, and ε starts again (R60, R65). -/
def State.takeOffset (s : State) (theta : Frac) : State :=
  let steps := s.stepsAt theta
  let law := if steps then s.stepLaw theta else s.servoLaw theta
  let s := { s with car := { s.car with
      base := if steps then s.ct.sub theta else s.ct
      baseAt := s.now
      y := law.1
      integ := law.2
      lastMeas := some s.now
      stepped := s.car.stepped || steps
      lockRun := if theta.abs.lt oneUs then s.car.lockRun + 1 else 0
      epsK := ((theta.abs.add (Frac.int (s.rd Fld.CAR_ASYM_ASYM_NS : Nat))).add
        (Frac.int (s.rd Fld.CAR_ASYM_GM_EPS_NS : Nat))).add (Frac.int 4) } }
  s.wr Fld.CAR_LAST_THETA_THETA (thetaField theta)

/-- A measurement in its parts: the states of Table 03.1 follow the offset, and the servo steps (R60, R65, R76). -/
theorem State.measure_eq (s : State) (theta : Frac) :
    s.measure theta = (s.epsTrack.acquire.takeOffset theta).lockEntry.regain.servoBoundary.epsTrack := rfl

theorem State.acquire_frame (s : State) : s.acquire.now = s.now ∧ s.acquire.adm = s.adm ∧ s.acquire.car.ppsInAt = s.car.ppsInAt := by
  unfold State.acquire
  split <;> exact ⟨rfl, rfl, rfl⟩

theorem State.rd_takeOffset (s : State) (theta : Frac) (f : Field) (h : f.key 0 0 ≠ Fld.CAR_LAST_THETA_THETA.key 0 0) :
    (s.takeOffset theta).rd f = s.rd f :=
  State.rd_wr_ne _ Fld.CAR_LAST_THETA_THETA f _ 0 0 0 0 h

/-- A measurement lengthens the run of measurements under 1 µs, or ends it (Table 03.1). -/
theorem State.takeOffset_lockRun (s : State) (theta : Frac) : (s.takeOffset theta).car.lockRun ≤ s.car.lockRun + 1 := by
  change (if _ then _ else _) ≤ _
  split
  · exact Nat.le_refl _
  · exact Nat.zero_le _

/-- A measurement accepted stands as the last one, at its instant (R60). -/
theorem State.measure_car (s : State) (theta : Frac) :
    (s.measure theta).car.lastMeas = some s.now ∧ (s.measure theta).car.ppsInAt = s.car.ppsInAt := by
  obtain ⟨hnow, -, hpps⟩ := s.epsTrack.acquire_frame
  have hb := (s.epsTrack.acquire.takeOffset theta).lockEntry.regain.servoBoundary_frame.2
  obtain ⟨-, -, -, hmeas, hedges⟩ := State.epsTrack_keeps (State.servoBoundary _)
  obtain ⟨hlast, hedge⟩ := (s.epsTrack.acquire.takeOffset theta).lockEntry_car
  rw [State.measure_eq, hmeas, hedges, hb, State.regain_car]
  exact ⟨hlast.trans (congrArg some hnow), hedge.trans hpps⟩

/-- Where no commit waits for CAR, a measurement moves the state as Table 03.1 says: to ACQUIRING from UNSYNCED, to LOCKED from HOLDOVER. -/
theorem State.measure_state {s : State} (h : s.admittedPend Blk.CAR = false) (hb : s.adm.boundNext = none) (theta : Frac) :
    (s.rd Fld.CAR_STATUS_STATE = carUnsynced → (s.measure theta).rd Fld.CAR_STATUS_STATE = carAcquiring) ∧
    (s.rd Fld.CAR_STATUS_STATE = carHoldover → (s.measure theta).rd Fld.CAR_STATUS_STATE = carLocked) := by
  let u := s.epsTrack.acquire.takeOffset theta
  have ha : u.regain.adm = s.adm := u.regain_adm.trans s.epsTrack.acquire_frame.2.1
  have hst : u.rd Fld.CAR_STATUS_STATE = s.epsTrack.acquire.rd Fld.CAR_STATUS_STATE := State.rd_takeOffset _ _ _ (by decide)
  have hquiet : u.lockEntry = u → (s.measure theta).rd Fld.CAR_STATUS_STATE = u.regain.rd Fld.CAR_STATUS_STATE := fun hl => by
    rw [State.measure_eq, hl, State.servoBoundary_quiet]
    · rfl
    · rw [State.admittedPend_congr ha, h]
    · rw [ha, hb]
  constructor
  · intro hu
    obtain ⟨hacq, hzero⟩ := State.acquire_of_unsynced (s := s.epsTrack) hu
    have hs : u.rd Fld.CAR_STATUS_STATE = carAcquiring := hst.trans hacq
    have hrun : u.car.lockRun ≤ 0 + 1 := hzero ▸ s.epsTrack.acquire.takeOffset_lockRun theta
    rw [hquiet (State.lockEntry_of_not fun _ => by omega), State.regain, hs, if_neg (by decide), hs]
  · intro hh
    have hh' : s.epsTrack.rd Fld.CAR_STATUS_STATE = carHoldover := hh
    have hs : u.rd Fld.CAR_STATUS_STATE = carHoldover := by rw [hst, State.acquire, hh', if_neg (by decide), hh']
    rw [hquiet (State.lockEntry_of_not fun hc => by rw [hs] at hc; cases hc), State.regain, if_pos hs]
    exact State.rd_wr_self u Fld.CAR_STATUS_STATE carLocked 0 0

/-! ## Fields of a slot -/

/-- The fields of a slot lie apart from one another, and from its state (Table 03.4). -/
theorem slotFields_apart :
    slotFields.Pairwise (fun f g => f.stride = g.stride ∧ f.key 0 0 ≠ g.key 0 0) ∧
      ∀ f ∈ slotFields, Fld.CAR_SLOT_STATE.stride = f.stride ∧ Fld.CAR_SLOT_STATE.key 0 0 ≠ f.key 0 0 := by
  decide

section
variable (m : Field → Nat → Nat) (i : Nat)

/-- Fields of a row written one after the other leave the row of a field apart from them. -/
theorem State.rd_writeRow_ne {g : Field} {l : List Field} (hl : ∀ f ∈ l, g.stride = f.stride ∧ g.key 0 0 ≠ f.key 0 0) (s : State) :
    (l.foldl (fun s f => s.wr f (m f (s.rd f i)) i) s).rd g i = s.rd g i := by
  induction l generalizing s with
  | nil => rfl
  | cons f l ih =>
    obtain ⟨hf, hl⟩ := List.forall_mem_cons.1 hl
    rw [List.foldl_cons, ih hl, State.rd_wr_row s _ i hf.1 hf.2]

/-- Each field of a row written reads as the value made of what it held. -/
theorem State.rd_writeRow {l : List Field} (hl : l.Pairwise (fun f g => f.stride = g.stride ∧ f.key 0 0 ≠ g.key 0 0)) {f : Field}
    (hf : f ∈ l) (s : State) :
    (l.foldl (fun s f => s.wr f (m f (s.rd f i)) i) s).rd f i = m f (s.rd f i) % 2 ^ f.width := by
  induction l generalizing s with
  | nil => cases hf
  | cons g l ih =>
    obtain ⟨hg, hl⟩ := List.pairwise_cons.1 hl
    rw [List.foldl_cons]
    rcases List.mem_cons.1 hf with rfl | hf
    · rw [State.rd_writeRow_ne m i hg, State.rd_wr_self]
    · obtain ⟨hs, hk⟩ := hg f hf
      rw [ih hl hf, State.rd_wr_row s _ i hs.symm hk.symm]

end

/-! ## Firing of a slot -/

/-- The record of a late firing, where the slot asks for it (R73). -/
def State.logFiring (s : State) (i : Nat) (log : Bool) : State := if log then s.record Blk.CAR 0x0002 i else s

theorem State.logFiring_keeps (s : State) (i : Nat) (log : Bool) : (s.logFiring i log).out = s.out ∧ (s.logFiring i log).hri = s.hri := by
  unfold State.logFiring
  split <;> simp

theorem State.rd_logFiring (s : State) (i : Nat) (log : Bool) (f : Field) (k : Nat) (h : f.key k 0 < Fld.OWN_STATUS_LEASE.key 0 0) :
    (s.logFiring i log).rd f k = s.rd f k := by
  unfold State.logFiring
  split
  · exact State.rd_record _ _ _ _ _ _ _ _ _ _ h
  · rfl

/-- What follows the action of a slot: the record, the slot's next instant and the engine cycle (R71 to R73). -/
def State.fireEnd (s : State) (i : Nat) (issued : Frac) (log : Bool) : State :=
  let s := (s.logFiring i log).slotNext i issued
  s.advance (s.now + s.cycle)

/-- The next instant of a slot changes the registers alone (R72). -/
theorem State.slotNext_frame (s : State) (i : Nat) (issued : Frac) : ∃ r, s.slotNext i issued = { s with regs := r } := by
  unfold State.slotNext
  dsimp only
  split
  · split <;> exact ⟨_, rfl⟩
  · exact ⟨_, rfl⟩

/-- A firing counts; a one-shot slot becomes IDLE and a periodic one keeps its state (R72). -/
theorem State.slotNext_fields (s : State) (i : Nat) (issued : Frac) :
    (s.slotNext i issued).rd Fld.CAR_SLOT_FIRE_COUNT i = (s.rd Fld.CAR_SLOT_FIRE_COUNT i + 1) % 2 ^ Fld.CAR_SLOT_FIRE_COUNT.width ∧
    (s.slotNext i issued).rd Fld.CAR_SLOT_STATE i =
      (if s.rd Fld.CAR_SLOT_PERIOD_NS i = 0 then slotIdle else s.rd Fld.CAR_SLOT_STATE i) ∧
    (s.slotNext i issued).rd Fld.CAR_ERR_TARGET_OFF = s.rd Fld.CAR_ERR_TARGET_OFF := by
  unfold State.slotNext State.boundNow
  dsimp only
  split
  · split <;>
      simp (disch := decide) [State.rd_wr_row, State.rd_wr_above, State.rd_wr_under, State.rd_wr_ne]
  · simp (disch := decide) [State.bump_eq, State.rd_wr_row, State.rd_wr_under]

/-- What a firing leaves once its action is issued (R72, R73). -/
theorem State.fireEnd_spec (s : State) {i : Nat} (hi : i < 16384) (issued : Frac) (log : Bool) :
    (s.fireEnd i issued log).out = s.out ∧ (s.fireEnd i issued log).hri = s.hri ∧
    (s.fireEnd i issued log).rd Fld.CAR_SLOT_FIRE_COUNT i = (s.rd Fld.CAR_SLOT_FIRE_COUNT i + 1) % 2 ^ Fld.CAR_SLOT_FIRE_COUNT.width ∧
    (s.fireEnd i issued log).rd Fld.CAR_SLOT_STATE i =
      (if s.rd Fld.CAR_SLOT_PERIOD_NS i = 0 then slotIdle else s.rd Fld.CAR_SLOT_STATE i) ∧
    (s.fireEnd i issued log).rd Fld.CAR_ERR_TARGET_OFF = s.rd Fld.CAR_ERR_TARGET_OFF := by
  have hrow : ∀ f : Field, f.stride = 256 ∧ f.key 0 0 ≤ Fld.CAR_SLOT_STATE.key 0 0 →
      (s.logFiring i log).rd f i = s.rd f i ∧ (s.fireEnd i issued log).rd f i = ((s.logFiring i log).slotNext i issued).rd f i :=
    fun f hf => ⟨State.rd_logFiring _ _ _ _ _ (slot_key_lt hi hf), State.rd_advance _ _ _ _ _ (slot_key_lt hi hf)⟩
  obtain ⟨hout, hhri⟩ := s.logFiring_keeps i log
  obtain ⟨_, hframe⟩ := (s.logFiring i log).slotNext_frame i issued
  obtain ⟨hcount, hstate, hoff⟩ := (s.logFiring i log).slotNext_fields i issued
  refine ⟨?_, ?_, ?_, ?_, ?_⟩
  · rw [State.fireEnd, State.advance_out, hframe, hout]
  · rw [State.fireEnd, State.advance_hri, hframe, hhri]
  · rw [(hrow _ (by decide)).2, hcount, (hrow _ (by decide)).1]
  · rw [(hrow _ (by decide)).2, hstate, (hrow _ (by decide)).1, (hrow _ (by decide)).1]
  · rw [State.fireEnd, State.rd_advance _ _ _ _ _ (by decide), hoff, State.rd_logFiring _ _ _ _ _ (by decide)]

/-- The slot is as it was when its instant comes. -/
theorem State.rd_slot_advance (s : State) {i : Nat} (hi : i < 16384) (t : Nat) (f : Field)
    (hf : f.stride = 256 ∧ f.key 0 0 ≤ Fld.CAR_SLOT_STATE.key 0 0) : (s.advance t).rd f i = s.rd f i :=
  State.rd_advance _ _ _ _ _ (slot_key_lt hi hf)

/-- The target of a slot is the same when its instant comes. -/
theorem State.slotTarget_advance (s : State) {i : Nat} (hi : i < 16384) (t : Nat) : (s.advance t).slotTarget i = s.slotTarget i := by
  unfold State.slotTarget
  rw [s.rd_slot_advance hi t _ (by decide), s.rd_slot_advance hi t _ (by decide)]

section
variable {s : State} {i b : Nat} (hi : i < 16384) (ha : s.rd Fld.CAR_SLOT_STATE i = slotArmed) (hv : s.timeValid = true)
  (hn : s.slotNextDue i = true) (hb : s.slotTarget i = some b)
include hi ha hv hn hb

/-- A slot whose target is enabled issues its action at its instant (R71, R73). -/
theorem carillonFire_enabled (he : s.enabled b = true) :
    ∃ lateness late issued log, carillonFire i s = ((s.advanceCt (s.slotInstant i)).slotIssue i lateness late).fireEnd i issued log := by
  simp only [carillonFire, ha, hv, hn, State.advanceCt, State.slotTarget_advance s hi, hb, State.enabled_advance, he]
  exact ⟨_, _, _, _, rfl⟩

/-- A slot whose target is disabled delivers nothing, and says so (R74). -/
theorem carillonFire_disabled (he : s.enabled b = false) :
    ∃ issued log, carillonFire i s = ((s.advanceCt (s.slotInstant i)).raise Fld.CAR_ERR_TARGET_OFF).fireEnd i issued log := by
  simp only [carillonFire, ha, hv, hn, State.advanceCt, State.slotTarget_advance s hi, hb, State.enabled_advance, he]
  exact ⟨_, _, rfl⟩

end

/-! ## Commands of the time service -/

/-- The time service's own state holds no register. -/
theorem State.rd_withCar (s : State) (c : Car) (f : Field) (i j : Nat) : State.rd { s with car := c } f i j = s.rd f i j := rfl

theorem State.rdb_withCar (s : State) (c : Car) (f : Field) (i j : Nat) : State.rdb { s with car := c } f i j = s.rdb f i j := rfl

/-- A measurement of the port followed is accepted at its instant, for the offset that the head computes (R58, R60). -/
theorem ptpMeasurement_followed {s : State} {port : Nat} (he : s.rdb Fld.CAR_CTRL_ENABLE = true)
    (hp : s.rd Fld.CAR_STATUS_PORT_ACTIVE = port) (hs : s.rd Fld.CAR_CTRL_SOURCE = 0) (dt src : Nat) (li : Int) :
    ∃ u theta, ptpMeasurement port dt src li s = State.measure u theta ∧ u.now = s.now + dt ∧ u.adm = s.adm ∧
      u.rd Fld.CAR_STATUS_STATE = s.rd Fld.CAR_STATUS_STATE := by
  have hnow : (s.advance (s.now + dt)).now = s.now + dt := (s.advance_now _).trans (by omega)
  simp (disch := decide) only [ptpMeasurement, State.rd_withCar, State.rdb_advance, State.rd_advance, he, hp, hs, bne_self_eq_false]
  exact ⟨_, _, rfl, hnow, s.advance_adm _, s.rd_advance _ Fld.CAR_STATUS_STATE 0 0 (by decide)⟩

theorem ptpMeasurement_spec {s : State} {port : Nat} (he : s.rdb Fld.CAR_CTRL_ENABLE = true)
    (hp : s.rd Fld.CAR_STATUS_PORT_ACTIVE = port) (hs : s.rd Fld.CAR_CTRL_SOURCE = 0) (ha : s.admittedPend Blk.CAR = false)
    (hb : s.adm.boundNext = none) (dt src : Nat) (li : Int) :
    (ptpMeasurement port dt src li s).car.lastMeas = some (s.now + dt) ∧
    (s.rd Fld.CAR_STATUS_STATE = carUnsynced → (ptpMeasurement port dt src li s).rd Fld.CAR_STATUS_STATE = carAcquiring) ∧
    (s.rd Fld.CAR_STATUS_STATE = carHoldover → (ptpMeasurement port dt src li s).rd Fld.CAR_STATUS_STATE = carLocked) := by
  obtain ⟨u, theta, h, hnow, hadm, hst⟩ := ptpMeasurement_followed he hp hs dt src li
  have hmove := State.measure_state (s := u) (by rw [State.admittedPend_congr hadm, ha]) (by rw [hadm, hb]) theta
  rw [hst] at hmove
  rw [h, (u.measure_car theta).1, hnow]
  exact ⟨rfl, hmove⟩

/-- The second of PPS_IN, where the seconds are known, is a measurement at its edge (R59). -/
theorem ppsInEdge_measures {s : State} {falling : Bool} (hin : s.rdb Fld.CAR_PPS_IN_EN = true) (hf : s.rdb Fld.CAR_PPS_IN_EDGE = falling)
    (he : s.rdb Fld.CAR_CTRL_ENABLE = true) (hs : s.rd Fld.CAR_CTRL_SOURCE = 2) (hk : s.car.secondsKnown = true) (dt : Nat) :
    ∃ u theta, ppsInEdge dt falling s = State.measure u theta ∧ u.now = s.now + dt ∧ u.car.ppsInAt = some (s.now + dt) := by
  have hnow : (s.advance (s.now + dt)).now = s.now + dt := (s.advance_now _).trans (by omega)
  have hk' : (s.advance (s.now + dt)).car.secondsKnown = true := by rw [State.advance_car, hk]
  rw [ppsInEdge]
  simp (disch := decide) only [State.rd_withCar, State.rdb_withCar, State.rdb_advance, State.rd_advance, hin, hf, he, hs, bne_self_eq_false,
    Bool.not_true, Bool.or_self, Bool.false_eq_true, if_false]
  exact ⟨_, _, if_pos hk', hnow, congrArg some hnow⟩

theorem ppsInEdge_spec {s : State} {falling : Bool} (hin : s.rdb Fld.CAR_PPS_IN_EN = true) (hf : s.rdb Fld.CAR_PPS_IN_EDGE = falling)
    (he : s.rdb Fld.CAR_CTRL_ENABLE = true) (hs : s.rd Fld.CAR_CTRL_SOURCE = 2) (hk : s.car.secondsKnown = true) (dt : Nat) :
    (ppsInEdge dt falling s).car.ppsInAt = some (s.now + dt) ∧ (ppsInEdge dt falling s).car.lastMeas = some (s.now + dt) := by
  obtain ⟨u, theta, h, hnow, hpps⟩ := ppsInEdge_measures hin hf he hs hk dt
  obtain ⟨hlast, hedge⟩ := u.measure_car theta
  rw [h, hlast, hedge, hnow, hpps]
  exact ⟨rfl, rfl⟩

/-- What an announcement of the port followed says of UTC, copied (R64). -/
def State.announced (s : State) (off : Nat) (l61 l59 : Bool) : State :=
  (((s.wr Fld.CAR_UTC_UTC_OFFSET off).wrb Fld.CAR_UTC_LEAP61 l61).wrb Fld.CAR_UTC_LEAP59 l59).wrb Fld.CAR_STATUS_LEAP_PENDING (l61 || l59)

/-- A one-bit field set from a truth value reads as it. -/
theorem State.rdb_wrb_self (s : State) {f : Field} (h : f.width = 1) (v : Bool) (i j : Nat) : (s.wrb f v i j).rdb f i j = v := by
  rw [State.rdb, State.wrb_eq, State.rd_wr_self, h]
  cases v <;> rfl

theorem State.rdb_wrb_ne (s : State) (f g : Field) (v : Bool) (i j k l : Nat) (h : g.key k l ≠ f.key i j) :
    (s.wrb f v i j).rdb g k l = s.rdb g k l := by
  rw [State.rdb, State.wrb_eq, State.rd_wr_ne s f g _ i j k l h, State.rdb]

theorem State.announced_fields (s : State) (off : Nat) (l61 l59 : Bool) :
    (s.announced off l61 l59).rd Fld.CAR_UTC_UTC_OFFSET = off % 2 ^ 16 ∧ (s.announced off l61 l59).rdb Fld.CAR_UTC_LEAP61 = l61 ∧
    (s.announced off l61 l59).rdb Fld.CAR_UTC_LEAP59 = l59 ∧ (s.announced off l61 l59).rdb Fld.CAR_STATUS_LEAP_PENDING = (l61 || l59) := by
  unfold State.announced
  refine ⟨?_, ?_, ?_, ?_⟩
  · simp (disch := decide) only [State.wrb_eq, State.rd_wr_ne, State.rd_wr_self]
    rfl
  · simp (disch := decide) only [State.rdb_wrb_ne, State.rdb_wrb_self]
  · simp (disch := decide) only [State.rdb_wrb_ne, State.rdb_wrb_self]
  · exact State.rdb_wrb_self _ rfl _ _ _

theorem ptpAnnounce_spec {s : State} {port : Nat} (hp : s.rd Fld.CAR_STATUS_PORT_ACTIVE = port)
    (hu : s.rdb Fld.CAR_CTRL_UTC_FROM_PTP = true) (off : Nat) (l61 l59 : Bool) :
    (ptpAnnounce port off l61 l59 s).rd Fld.CAR_UTC_UTC_OFFSET = off % 2 ^ 16 ∧
    (ptpAnnounce port off l61 l59 s).rdb Fld.CAR_UTC_LEAP61 = l61 ∧ (ptpAnnounce port off l61 l59 s).rdb Fld.CAR_UTC_LEAP59 = l59 ∧
    (ptpAnnounce port off l61 l59 s).rdb Fld.CAR_STATUS_LEAP_PENDING = (l61 || l59) := by
  have hfollows : ¬ (s.rd Fld.CAR_STATUS_PORT_ACTIVE != port || !s.rdb Fld.CAR_CTRL_UTC_FROM_PTP) = true := by simp [hp, hu]
  rw [ptpAnnounce, if_neg hfollows]
  exact s.announced_fields off l61 l59

theorem holdoverEntry_spec {s : State} (h : s.rd Fld.CAR_STATUS_STATE = carLocked) :
    (holdoverEntry s).rd Fld.CAR_STATUS_STATE = carHoldover ∧ (holdoverEntry s).rd Fld.CAR_ERR_SOURCE_LOST = 1 ∧
      (holdoverEntry s).car.y = s.car.y := by
  rw [holdoverEntry, if_pos h]
  refine ⟨?_, State.rd_wr_self _ _ _ _ _, congrArg Car.y (s.advance_car _)⟩
  rw [State.raise_eq, State.rd_wr_ne _ _ _ _ _ _ _ _ (by decide), State.rd_wr_self]
  rfl

theorem backupPortFallover_spec {s : State} (he : s.rdb Fld.CAR_CTRL_ENABLE = true) (hb : s.rdb Fld.CAR_CTRL_BACKUP_EN = true)
    (ho : s.rdb Fld.CAR_STATUS_ON_BACKUP = false) (hm : s.car.lastMeas.isSome = true)
    (hlt : s.rd Fld.CAR_CTRL_BACKUP_PORT < 2 ^ Fld.CAR_STATUS_PORT_ACTIVE.width) :
    (backupPortFallover s).rd Fld.CAR_STATUS_PORT_ACTIVE = s.rd Fld.CAR_CTRL_BACKUP_PORT ∧
      (backupPortFallover s).rd Fld.CAR_STATUS_ON_BACKUP = 1 := by
  rw [backupPortFallover, if_pos (by simp only [he, hb, ho, hm, Bool.not_false, Bool.and_self])]
  refine ⟨?_, State.rd_wr_self _ _ _ _ _⟩
  rw [State.rd_wr_ne _ _ _ _ _ _ _ _ (by decide), State.rd_wr_self, State.rd_advance _ _ _ _ _ (by decide), Nat.mod_eq_of_lt hlt]

theorem servoStep1ms_spec {s : State} (he : s.rdb Fld.CAR_CTRL_ENABLE = true) :
    (servoStep1ms s).car.lastStep = (servoStep1ms s).now ∧ (servoStep1ms s).car.y = s.car.y ∧
      (servoStep1ms s).car.lastMeas = s.car.lastMeas := by
  rw [servoStep1ms, if_pos he]
  obtain ⟨hnow, hcar⟩ := (s.advanceCt ((s.ctAt s.car.lastStep).add (Frac.int 1000000))).servoBoundary_frame
  rw [show (s.advanceCt _).car = s.car from s.advance_car _] at hcar
  obtain ⟨hkept, hstep, hy, hmeas, -⟩ := State.epsTrack_keeps (State.servoBoundary _)
  rw [hkept, hstep, hy, hmeas, hcar]
  exact ⟨hnow.symm, rfl, rfl⟩

theorem carEnableClear_spec (s : State) :
    (carEnableClear s).rd Fld.CAR_CTRL_ENABLE = 0 ∧ (carEnableClear s).rd Fld.CAR_STATUS_STATE = carUnsynced ∧
      (carEnableClear s).car.lockRun = 0 := by
  refine ⟨?_, ?_, rfl⟩
  · rw [carEnableClear, State.rd_withCar, State.rd_slotsFromTo _ _ _ _ (by decide), State.rd_wr_ne _ _ _ _ _ _ _ _ (by decide),
      State.rd_wr_self]
    rfl
  · rw [carEnableClear, State.rd_withCar, State.rd_slotsFromTo _ _ _ _ (by decide), State.rd_wr_self]
    rfl

/-- The delay request goes out at its instant, as the head is configured (R57). -/
theorem ptpDelayReqSend_sends {s : State} (he : s.rdb Fld.CAR_CTRL_ENABLE = true) (hs : s.rd Fld.CAR_CTRL_SOURCE ≠ 2) :
    ∃ u : State, u.rd Fld.CAR_STATUS_PORT_ACTIVE = s.rd Fld.CAR_STATUS_PORT_ACTIVE ∧ u.rdb Fld.CAR_CTRL_P2P = s.rdb Fld.CAR_CTRL_P2P ∧
      ptpDelayReqSend s = State.emit { u with car := { u.car with delayReqAt := some u.now } }
        (.delayReq (u.rd Fld.CAR_STATUS_PORT_ACTIVE) (u.rdb Fld.CAR_CTRL_P2P)) := by
  have hsend : (s.rdb Fld.CAR_CTRL_ENABLE && s.rd Fld.CAR_CTRL_SOURCE != 2) = true := by
    rw [he, Bool.true_and]
    exact bne_iff_ne.2 hs
  rw [ptpDelayReqSend, if_pos hsend]
  cases s.car.delayReqAt with
  | none => exact ⟨s, rfl, rfl, rfl⟩
  | some t =>
    refine ⟨_, ?_, ?_, rfl⟩
    · exact s.rd_advance _ Fld.CAR_STATUS_PORT_ACTIVE 0 0 (by decide)
    · exact s.rdb_advance _ Fld.CAR_CTRL_P2P 0 0 (by decide)

theorem ptpDelayReqSend_spec {s : State} (he : s.rdb Fld.CAR_CTRL_ENABLE = true) (hs : s.rd Fld.CAR_CTRL_SOURCE ≠ 2) :
    (ptpDelayReqSend s).car.delayReqAt = some (ptpDelayReqSend s).now ∧
      (ptpDelayReqSend s).out.head? = some (.delayReq (s.rd Fld.CAR_STATUS_PORT_ACTIVE) (s.rdb Fld.CAR_CTRL_P2P)) := by
  obtain ⟨u, hport, hp2p, h⟩ := ptpDelayReqSend_sends he hs
  rw [h, hport, hp2p]
  exact ⟨rfl, rfl⟩

theorem epsOverSet_spec {s : State} (hv : s.timeValid = true) (ho : s.rdb Fld.CAR_STATUS_EPS_OVER = false)
    (hb : s.rd Fld.CAR_EPS_BOUND_BOUND < 0xFFFFFFFF) :
    (epsOverSet s).rd Fld.CAR_STATUS_EPS_OVER = 1 ∧ (epsOverSet s).car.epsLowSince = none := by
  rw [epsOverSet, if_pos (by simp only [hv, ho, hb, Bool.not_false, Bool.and_self, decide_true])]
  dsimp only
  rw [State.rd_eventGlobal _ _ _ _ _ _ _ _ (by decide), State.rd_record _ _ _ _ _ _ _ _ _ _ (by decide), State.rd_withCar,
    State.raise_eq, State.rd_wr_self, State.eventGlobal_car, State.record_car]
  exact ⟨rfl, rfl⟩

theorem epsOverClear_spec {s : State} {t₀ : Nat} (h : s.car.epsLowSince = some t₀) (ho : s.rdb Fld.CAR_STATUS_EPS_OVER = true)
    (hl : (s.advance (t₀ + 1000000 * unitsPerUs)).epsLow = true) :
    (epsOverClear s).rd Fld.CAR_STATUS_EPS_OVER = 0 ∧ t₀ + 1000000 * unitsPerUs ≤ (epsOverClear s).now := by
  have hclear : epsOverClear s = (s.advance (t₀ + 1000000 * unitsPerUs)).wr Fld.CAR_STATUS_EPS_OVER 0 := by
    simp only [epsOverClear, h, ho, hl, Bool.and_self, if_true]
  rw [hclear, State.rd_wr_self, State.wr_now, State.advance_now]
  exact ⟨rfl, Nat.le_max_right _ _⟩

theorem ppsOutEdge_out {s : State} (hv : s.timeValid = true) (he : s.rdb Fld.CAR_PPS_OUT_EN = true) :
    (ppsOutEdge s).out.head? = some (.ppsOut (s.rd Fld.CAR_PPS_OUT_WIDTH)) := by
  rw [ppsOutEdge, if_pos (by simp only [hv, he, Bool.and_self])]
  rfl

/-- A read of the low word latches the high word and the fraction of the same instant (R76). -/
theorem carNowLatch_fields (s : State) :
    (carNowLatch s).rd Fld.CAR_NOW_NS_HI = s.ct16 / 65536 / 2 ^ 32 % 2 ^ 32 ∧ (carNowLatch s).rd Fld.CAR_NOW_FRAC_FRAC = s.ct16 % 65536 := by
  rw [carNowLatch]
  constructor
  · rw [State.rd_wr_ne _ _ _ _ _ _ _ _ (by decide), State.rd_wr_ne _ _ _ _ _ _ _ _ (by decide), State.rd_wr_self]
    rfl
  · rw [State.rd_wr_ne _ _ _ _ _ _ _ _ (by decide), State.rd_wr_self]
    exact Nat.mod_mod_of_dvd _ (by decide)

theorem carNowRead_spec (s : State) :
    (carNowRead s).out = .regValue (Blk.CAR * 1048576 + 0x10) (s.ct16 / 65536 % 2 ^ 32) :: s.out ∧ (carNowRead s).now = s.now ∧
    (carNowRead s).rd Fld.CAR_NOW_NS_HI = s.ct16 / 65536 / 2 ^ 32 % 2 ^ 32 ∧ (carNowRead s).rd Fld.CAR_NOW_FRAC_FRAC = s.ct16 % 65536 := by
  rw [carNowRead, State.rd_emit, State.rd_emit, State.emit_out, State.emit_now]
  exact ⟨rfl, rfl, carNowLatch_fields s⟩

/-! ## Commands of a slot -/

theorem carSlotWrite_idle {s : State} {i : Nat} {fw : Bool} (hfw : (firmwareSlot i && !fw) = false)
    (hi : s.rd Fld.CAR_SLOT_STATE i = slotIdle) (off v : Nat) :
    (carSlotWrite i off v fw s).rd Fld.CAR_SLOT_STATE i = slotIdle ∧
      ∀ f ∈ slotFields, (carSlotWrite i off v fw s).rd f i = mergeBits f (s.rd f i) (off * 8) 32 v % 2 ^ f.width := by
  have hidle : ¬ (s.rd Fld.CAR_SLOT_STATE i != slotIdle) = true := by simp [hi]
  rw [carSlotWrite, hfw, if_neg Bool.false_ne_true, if_neg hidle]
  refine ⟨?_, fun f hf => ?_⟩
  · exact (State.rd_writeRow_ne (fun f cur => mergeBits f cur (off * 8) 32 v) i slotFields_apart.2 s).trans hi
  · exact State.rd_writeRow (fun f cur => mergeBits f cur (off * 8) 32 v) i slotFields_apart.1 hf s

theorem carSlotWrite_live {s : State} {i : Nat} {fw : Bool} (hfw : (firmwareSlot i && !fw) = false)
    (hi : s.rd Fld.CAR_SLOT_STATE i ≠ slotIdle) (off v : Nat) :
    (carSlotWrite i off v fw s).rd Fld.CAR_ERR_SLOT_LIVE = 1 ∧ ∀ f ∈ slotFields, (carSlotWrite i off v fw s).rd f i = s.rd f i := by
  have habove : ∀ f ∈ slotFields, Fld.CAR_ERR_SLOT_LIVE.key 0 0 < f.key 0 0 := by decide
  rw [carSlotWrite, hfw, if_neg Bool.false_ne_true, if_pos (bne_iff_ne.2 hi)]
  exact ⟨State.rd_wr_self _ _ _ _ _, fun f hf => State.rd_wr_above s 1 i 0 (habove f hf)⟩

/-- A change of the bound on ε leaves the slots, which lie above it (R447). -/
theorem State.rd_boundNow_slot (s : State) (c : Bool) (i : Nat) :
    (if c = true then s.boundNow else s).rd Fld.CAR_SLOT_STATE i = s.rd Fld.CAR_SLOT_STATE i := by
  split
  · exact State.rd_wr_above s _ i 0 (by decide)
  · rfl

theorem carSlotArm_state {s : State} {i : Nat} {fw : Bool} (hfw : (firmwareSlot i && !fw) = false)
    (hi : s.rd Fld.CAR_SLOT_STATE i = slotIdle) (hb : s.slotBad i = false) (he : s.slotEpsRefused i = false) :
    (carSlotArm i fw s).rd Fld.CAR_SLOT_STATE i = if s.timeValid then slotArmed else slotHeld := by
  have hidle : ¬ (s.rd Fld.CAR_SLOT_STATE i != slotIdle) = true := by simp [hi]
  rw [carSlotArm, hfw, if_neg Bool.false_ne_true, if_neg hidle, hb, if_neg Bool.false_ne_true, he, if_neg Bool.false_ne_true]
  dsimp only
  rw [State.rd_boundNow_slot, State.rd_wr_self]
  split <;> rfl

theorem carSlotDisarm_state (s : State) {i : Nat} {fw : Bool} (hfw : (firmwareSlot i && !fw) = false) :
    (carSlotDisarm i fw s).rd Fld.CAR_SLOT_STATE i = slotIdle := by
  rw [carSlotDisarm, hfw, if_neg Bool.false_ne_true]
  dsimp only
  rw [State.rd_boundNow_slot, State.rd_wr_self]
  rfl

/-- A one-shot slot with action 3 delivers its trigger, counts the firing and becomes IDLE (R72, R73). -/
theorem carillonFire_trigger {s : State} {i : Nat} (hi : i < 16384) (ha : s.rd Fld.CAR_SLOT_STATE i = slotArmed) (hv : s.timeValid = true)
    (hn : s.slotNextDue i = true) (hact : s.rd Fld.CAR_SLOT_ACTION i = 3) (he : s.enabled (s.rd Fld.CAR_SLOT_BLOCK i) = true)
    (hp : s.rd Fld.CAR_SLOT_PERIOD_NS i = 0) :
    (carillonFire i s).rd Fld.CAR_SLOT_STATE i = slotIdle ∧
    (carillonFire i s).rd Fld.CAR_SLOT_FIRE_COUNT i = (s.rd Fld.CAR_SLOT_FIRE_COUNT i + 1) % 2 ^ Fld.CAR_SLOT_FIRE_COUNT.width ∧
    ∃ late eps l, Out.trigger (s.rd Fld.CAR_SLOT_BLOCK i) (s.rd Fld.CAR_SLOT_TRIGGER i) (s.rd Fld.CAR_SLOT_ARG i)
      (s.rd Fld.CAR_SLOT_INSTANT_NS i) late eps l ∈ (carillonFire i s).out := by
  have hb : s.slotTarget i = some (s.rd Fld.CAR_SLOT_BLOCK i) := by simp only [State.slotTarget, hact]
  obtain ⟨lateness, late, issued, log, hfire⟩ := carillonFire_enabled hi ha hv hn hb he
  have hrow := s.rd_slot_advance hi (s.localOf (s.slotInstant i))
  have hissue : (s.advanceCt (s.slotInstant i)).slotIssue i lateness late = (s.advanceCt (s.slotInstant i)).emit
      (.trigger (s.rd Fld.CAR_SLOT_BLOCK i) (s.rd Fld.CAR_SLOT_TRIGGER i) (s.rd Fld.CAR_SLOT_ARG i) (s.rd Fld.CAR_SLOT_INSTANT_NS i)
        lateness (s.advanceCt (s.slotInstant i)).epsNs late) := by
    simp (disch := decide) only [State.slotIssue, State.advanceCt, hrow, hact]
  rw [hfire, hissue]
  obtain ⟨hout, -, hcount, hstate, -⟩ := State.fireEnd_spec (State.emit _ _) hi issued log
  rw [hout, hcount, hstate]
  simp (disch := decide) only [State.rd_emit, State.advanceCt, hrow, hp, if_true]
  exact ⟨trivial, trivial, _, _, _, List.mem_cons_self⟩

/-! ## The statements -/

/-- A command whose effect has a property that the always-on logic does not touch completes with it. -/
theorem Completes.of_effect {c : Instr} {s u : State} {P : State → Prop} (h : exec c s = ended u) (hp : P u)
    (hP : ∀ v a, P v → P { v with aon := a } := by exact fun _ _ h => h) : Completes c s P :=
  Completes.of_ended h (hP u _ hp)

/-- Settles O14: what each command does is said once above, and the always-on logic at its end touches none of it. -/
theorem clusterTimeAndCarillonSlots : Obligations.ClusterTimeAndCarillonSlots := by
  unfold Obligations.ClusterTimeAndCarillonSlots
  refine ⟨?measurement, ?announce, ?edge, ?holdover, ?backup, ?servo, ?clear, ?request, ?exceeded, ?low, ?pulse, ?now, ?written, ?live, ?arm,
    ?disarm, ?fire⟩
  case measurement => exact fun s port dt src li he hp hs ha hb => Completes.of_effect rfl (ptpMeasurement_spec he hp hs ha hb dt src li)
  case announce => exact fun s port off l61 l59 hp hu => Completes.of_effect rfl (ptpAnnounce_spec hp hu off l61 l59)
  case edge => exact fun s dt falling hin hf he hs hk => Completes.of_effect rfl (ppsInEdge_spec hin hf he hs hk dt)
  case holdover => exact fun s h => Completes.of_effect rfl (holdoverEntry_spec h)
  case backup => exact fun s he hb ho hm hlt => Completes.of_effect rfl (backupPortFallover_spec he hb ho hm hlt)
  case servo => exact fun s he _ => Completes.of_effect rfl (servoStep1ms_spec he)
  case clear => exact fun s => Completes.of_effect rfl (carEnableClear_spec s)
  case request => exact fun s he hs => Completes.of_effect rfl (ptpDelayReqSend_spec he hs)
  case exceeded => exact fun s hv ho hb => Completes.of_effect rfl (epsOverSet_spec hv ho hb)
  case low => exact fun s t₀ h ho hl => Completes.of_effect rfl (epsOverClear_spec h ho hl)
  case pulse => exact fun s hv he => Completes.of_effect rfl (ppsOutEdge_out hv he)
  case now => exact fun s => Completes.of_effect rfl (carNowRead_spec s)
  case written => exact fun s i off v fw hfw hi => Completes.of_effect rfl (carSlotWrite_idle hfw hi off v)
  case live => exact fun s i off v fw hfw hi => Completes.of_effect rfl (carSlotWrite_live hfw hi off v)
  case arm => exact fun s i fw _ hfw hi hb he => Completes.of_effect rfl (carSlotArm_state hfw hi hb he)
  case disarm => exact fun s i fw _ hfw => Completes.of_effect rfl (carSlotDisarm_state s hfw)
  case fire => exact fun s i hi ha hv hn hact he hp _ => Completes.of_effect rfl (carillonFire_trigger hi ha hv hn hact he hp)

/-- Settles O53: only `CAR_ERR.TARGET_OFF` is raised where the action would be issued, and the firing goes on from there (R72, R74). -/
theorem disabledTargetsTakeNoActionAsR74Says : Obligations.DisabledTargetsTakeNoActionAsR74Says := by
  intro s i b hi ha hv hn hb he
  obtain ⟨issued, log, hfire⟩ := carillonFire_disabled hi ha hv hn hb he
  let u := (s.advanceCt (s.slotInstant i)).raise Fld.CAR_ERR_TARGET_OFF
  have hrow : ∀ f : Field, f.stride = 256 ∧ Fld.CAR_SLOT_INSTANT_NS.key 0 0 ≤ f.key 0 0 ∧ f.key 0 0 ≤ Fld.CAR_SLOT_STATE.key 0 0 →
      u.rd f i = s.rd f i := fun f ⟨hs, hlo, hhi⟩ =>
    (State.rd_wr_above _ 1 i 0 (Nat.lt_of_lt_of_le (by decide) hlo)).trans (s.rd_slot_advance hi _ f ⟨hs, hhi⟩)
  obtain ⟨hout, hhri, hcount, hstate, hoff⟩ := u.fireEnd_spec hi issued log
  refine Completes.of_effect (congrArg ended hfire) ⟨?_, ?_, ?_, ?_, fun hp => ?_⟩
  · exact hout.trans (s.advance_out _)
  · exact hhri.trans (s.advance_hri _)
  · exact hoff.trans (State.rd_wr_self _ Fld.CAR_ERR_TARGET_OFF 1 0 0)
  · rw [hrow _ (by decide)] at hcount
    exact hcount
  · rw [hrow _ (by decide), hrow _ (by decide), if_neg hp] at hstate
    exact hstate.trans ha

end Sys2Proof.Machine
end

section
/-! PROOFS. What the rings and functions of HRI show after an operation, and what it leaves (R79, R84, R100, R103). -/

namespace Sys2Proof.Machine

open Sys2Proof

/-! ## Register fields of a ring -/

/-- The rows of a table lie its stride apart (R518). -/
theorem Field.key_row (f : Field) (i : Nat) : f.key i 0 = f.key 0 0 + i * f.stride := by
  simp [Field.key]

/-- A row of the rings' table lies below the fields of PJM (R518). -/
theorem ring_key_lt {f : Field} {r : Nat} (hr : r < 4096) (hf : f.stride = 512 ∧ f.key 0 0 ≤ Fld.HRI_RING_ARB_WEIGHT.key 0 0) :
    f.key r 0 < Fld.PJM_CTRL_ENABLE.key 0 0 := by
  have hb : Fld.HRI_RING_ARB_WEIGHT.key 0 0 + 4095 * 512 < Fld.PJM_CTRL_ENABLE.key 0 0 := by decide
  obtain ⟨hs, hk⟩ := hf
  rw [Field.key_row, hs]
  omega

/-- A record issued to the journal touches no replay window. -/
theorem State.Journals.wins_eq {s t : State} (h : s.Journals t) : t.wins = s.wins := by
  obtain ⟨⟨_, _, _, _, rfl⟩, -⟩ := h
  rfl

/-- Nor any field of a ring (R518). -/
theorem State.Journals.rd_ring {s t : State} (h : s.Journals t) {f : Field} {r : Nat} (hr : r < 4096)
    (hf : f.stride = 512 ∧ f.key 0 0 ≤ Fld.HRI_RING_ARB_WEIGHT.key 0 0) : t.rd f r = s.rd f r := by
  refine h.2.rd_below f r 0 fun g hg => Nat.lt_of_lt_of_le (ring_key_lt hr hf) ?_
  revert g
  decide

/-- A WINDOW image is a record of the journal. -/
theorem State.windowImage_journals {s : State} (h : s.admittedPend Blk.PJM = false) (w : Nat) : s.Journals (s.windowImage w) := by
  unfold State.windowImage
  split
  · exact State.issue_journals h _ _ _
  · exact State.Journals.refl s

/-! ## Rings and the status block -/

@[simp] theorem State.touchStatus_regs (s : State) (r : Nat) : (s.touchStatus r).regs = s.regs := rfl
@[simp] theorem State.touchStatus_wins (s : State) (r : Nat) : (s.touchStatus r).wins = s.wins := rfl
@[simp] theorem State.touchStatus_out (s : State) (r : Nat) : (s.touchStatus r).out = s.out := rfl
@[simp] theorem State.ringSt_setRing (s : State) (r : Nat) (x : Ring) (k : Nat) : (s.setRing r x).ringSt k = s.ringSt k := rfl
@[simp] theorem State.ringSt_touchStatus (s : State) (r k : Nat) : (s.touchStatus r).ringSt k = s.ringSt k := rfl
@[simp] theorem State.rd_touchStatus (s : State) (r : Nat) (f : Field) (i j : Nat) : (s.touchStatus r).rd f i j = s.rd f i j := rfl
@[simp] theorem State.ring_touchStatus_self (s : State) (r : Nat) :
    (s.touchStatus r).ring r = { s.ring r with sbDirty := some s.now } := State.ring_setRing_self _ _ _

@[simp] theorem State.fn_wr (s : State) (f : Field) (v i j n : Nat) : (s.wr f v i j).fn n = s.fn n := rfl
@[simp] theorem State.fn_emit (s : State) (o : Out) (n : Nat) : (s.emit o).fn n = s.fn n := rfl

/-- A state written to a ring is its state (Table 04.14). -/
theorem State.ringSt_wr_self (s : State) (r : Nat) {st : Nat} (h : st < 8) : (s.wr Fld.HRI_RING_STATE_STATE st r).ringSt r = st :=
  (State.rd_wr_self s Fld.HRI_RING_STATE_STATE st r 0).trans (Nat.mod_eq_of_lt h)

/-- Writing another field of a ring leaves its state. -/
theorem State.ringSt_wr_row (s : State) (f : Field) (v r : Nat)
    (h : Fld.HRI_RING_STATE_STATE.stride = f.stride ∧ Fld.HRI_RING_STATE_STATE.key 0 0 ≠ f.key 0 0) :
    (s.wr f v r).ringSt r = s.ringSt r :=
  State.rd_wr_row s v r h.1 h.2

end Sys2Proof.Machine
end

section
/-! PROOFS. Ring states and event rings (R84 to R86, R103, R104). -/

namespace Sys2Proof.Machine

open Sys2Proof

/-! ## Enabling a ring -/

/-- A function that is not stopped needs no restart (R79). -/
theorem State.fnRestart_running {s : State} {n : Nat} (h : (s.fn n).stopped = false) : s.fnRestart n = s := by
  simp [State.fnRestart, h]

/-- Binding a queue for POL writes no register (R160). -/
@[simp] theorem State.rd_polBind (s : State) (tenant queue : Nat) (f : Field) (i j : Nat) : (s.polBind tenant queue).rd f i j = s.rd f i j := by
  rw [State.polBind_frame]
  rfl

/-- A ring as setting ENABLE leaves it: its indices fresh, its registers in a state, and its queue bound for POL (R85, R160). -/
def State.ringOpened (s : State) (r : Nat) (x : Ring) (st : Nat) : State :=
  let u := (((s.setRing r x).wr Fld.HRI_RING_CFG_ENABLE 1 r).wr Fld.HRI_RING_STATE_STATE st r).wr Fld.HRI_RING_STATE_KEPT 0 r
  u.polBind (u.ringTenant r) (polRing r)

/-- What opening a ring shows and leaves. -/
theorem State.ringOpened_spec (s : State) (r : Nat) (x : Ring) {st : Nat} (h : st < 8) :
    (s.ringOpened r x st).ringSt r = st ∧ (s.ringOpened r x st).rd Fld.HRI_RING_CFG_ENABLE r = 1 ∧
      (s.ringOpened r x st).wins = s.wins ∧ (s.ringOpened r x st).adm = s.adm := by
  refine ⟨?_, ?_, ?_, ?_⟩
  · rw [State.ringOpened, State.ringSt, State.rd_polBind]
    exact (State.ringSt_wr_row _ Fld.HRI_RING_STATE_KEPT 0 r (by decide)).trans (State.ringSt_wr_self _ r h)
  · rw [State.ringOpened, State.rd_polBind, State.rd_wr_row (f := Fld.HRI_RING_STATE_KEPT) (g := Fld.HRI_RING_CFG_ENABLE) _ 0 r rfl (by decide),
      State.rd_wr_row (f := Fld.HRI_RING_STATE_STATE) (g := Fld.HRI_RING_CFG_ENABLE) _ st r rfl (by decide), State.rd_wr_self]
    rfl
  · rw [State.ringOpened, State.polBind_frame]
    rfl
  · rw [State.ringOpened, State.polBind_frame]
    rfl

/-- A DISABLED ring without KEEP_REPLAY is enabled with a fresh window of base SEQ_BASE, whose image is journaled (R85). -/
theorem State.ringEnable_fresh {s : State} {r n : Nat} (hst : s.ringSt r = ringDisabled) (hok : s.ringCfgOk r = true)
    (hfn : s.ringFn r = some n) (hrun : (s.fn n).stopped = false) (hkeep : s.rdb Fld.HRI_RING_CFG_KEEP_REPLAY r = false) :
    s.ringEnable r = (((s.setWin (winRing r) (RWin.fresh 32 (s.rd Fld.HRI_RING_SEQ_BASE_SEQ r) n)).ringOpened r
      { Ring.init with c := (s.rd Fld.HRI_RING_SEQ_BASE_SEQ r + 2 ^ 32 - 1) % 2 ^ 32 } ringActive).windowImage (winRing r)).touchStatus r := by
  simp only [State.ringEnable, hst, hok, hfn, Option.getD_some, State.fnRestart_running hrun, hrun, hkeep]
  rfl

/-- The consumption mark of a ring that takes up a kept window: its own, or the latest sequence that the window knows (R86). -/
def State.keptMark (s : State) (r : Nat) (w : RWin) : Nat :=
  match s.hri.rings.look r with
  | some x => x.c
  | none => (w.slots.map (·.1)).foldl (serialMax 32) w.h

/-- With KEEP_REPLAY and a window kept for its function, the ring takes the window up and RESYNC begins (R85, R86). -/
theorem State.ringEnable_kept {s : State} {r n : Nat} {w : RWin} (hst : s.ringSt r = ringDisabled) (hok : s.ringCfgOk r = true)
    (hfn : s.ringFn r = some n) (hrun : (s.fn n).stopped = false) (hkeep : s.rdb Fld.HRI_RING_CFG_KEEP_REPLAY r = true)
    (hw : s.wins.look (winRing r) = some w) (ho : w.owner = n) :
    s.ringEnable r = (s.ringOpened r { Ring.init with c := s.keptMark r w, resync := true } ringResyncing).touchStatus r := by
  simp only [State.ringEnable, hst, hok, hfn, Option.getD_some, State.fnRestart_running hrun, hrun, hkeep, hw, ho, ne_eq, not_true_eq_false,
    Bool.not_true, Bool.false_eq_true, if_false, if_true]
  rfl

/-- RING_ENABLE without KEEP_REPLAY: ACTIVE, with a fresh window (R85). -/
theorem State.ringEnable_fresh_spec {s : State} {r n : Nat} (hr : r < 4096) (hst : s.ringSt r = ringDisabled) (hok : s.ringCfgOk r = true)
    (hfn : s.ringFn r = some n) (hrun : (s.fn n).stopped = false) (hkeep : s.rdb Fld.HRI_RING_CFG_KEEP_REPLAY r = false)
    (hp : s.admittedPend Blk.PJM = false) :
    (s.ringEnable r).ringSt r = ringActive ∧ (s.ringEnable r).rd Fld.HRI_RING_CFG_ENABLE r = 1 ∧
      (s.ringEnable r).wins.look (winRing r) = some (RWin.fresh 32 (s.rd Fld.HRI_RING_SEQ_BASE_SEQ r) n) := by
  rw [State.ringEnable_fresh hst hok hfn hrun hkeep]
  generalize hu : s.setWin (winRing r) (RWin.fresh 32 (s.rd Fld.HRI_RING_SEQ_BASE_SEQ r) n) = u
  generalize { Ring.init with c := (s.rd Fld.HRI_RING_SEQ_BASE_SEQ r + 2 ^ 32 - 1) % 2 ^ 32 } = x
  obtain ⟨hact, hen, hwins, hadm⟩ := u.ringOpened_spec r x (st := ringActive) (by decide)
  have hj := State.windowImage_journals (s := u.ringOpened r x ringActive)
    ((State.admittedPend_congr (hadm.trans (hu ▸ rfl)) Blk.PJM).trans hp) (winRing r)
  refine ⟨?_, ?_, ?_⟩
  · exact (hj.rd_ring hr (by decide)).trans hact
  · exact (hj.rd_ring hr (by decide)).trans hen
  · rw [State.touchStatus_wins, hj.wins_eq, hwins, ← hu]
    exact Assoc.look_put_self _ _ _

/-! ## Disabling, drain and release -/

/-- ENABLE cleared of a ring that is not DISABLED: it drains, and keeps its window (R84, R86). -/
theorem State.ringDisable_spec {s : State} {r : Nat} (he : s.rdb Fld.HRI_RING_CFG_ENABLE r = true) (hst : s.ringSt r ≠ ringDisabled) :
    (s.ringDisable r).ringSt r = ringDraining ∧ (s.ringDisable r).rd Fld.HRI_RING_CFG_ENABLE r = 0 ∧ (s.ringDisable r).wins = s.wins := by
  have hst' : (s.wr Fld.HRI_RING_CFG_ENABLE 0 r).ringSt r ≠ ringDisabled := by
    rwa [State.ringSt_wr_row _ _ 0 r (by decide)]
  simp only [State.ringDisable, he, hst', Bool.not_true, Bool.false_eq_true, if_false]
  refine ⟨?_, ?_, rfl⟩
  · rw [State.ringSt_touchStatus, State.ringSt_setRing, State.ringSt_wr_self _ r (by decide)]
  · rw [State.rd_touchStatus, State.rd_setRing,
      State.rd_wr_row (f := Fld.HRI_RING_STATE_STATE) (g := Fld.HRI_RING_CFG_ENABLE) _ _ r rfl (by decide), State.rd_wr_self]
    rfl

/-- A ring that has drained: DISABLED, and KEPT shows whether it has a window (R84, R86). -/
theorem State.drainCheck_drained {s : State} {r : Nat} (hst : s.ringSt r = ringDraining) (hs : (s.ring r).subs = [])
    (hr : (s.ring r).ready = []) :
    (s.drainCheck r).ringSt r = ringDisabled ∧ (s.drainCheck r).rdb Fld.HRI_RING_STATE_KEPT r = s.wins.has (winRing r) := by
  rw [State.drainCheck, if_pos ⟨hst, hs, .inl hr⟩]
  refine ⟨?_, State.rdb_wrb_self _ rfl _ r 0⟩
  rw [State.ringSt_touchStatus, State.wrb_eq, State.ringSt_wr_row _ _ _ r (by decide), State.ringSt_wr_self _ r (by decide)]

/-- RING_DRAIN_END of a ring that has drained: beside the drain, POL alone learns of it (R160). -/
theorem State.ringDrainEnd_drained {s : State} {r : Nat} (hst : s.ringSt r = ringDraining) (hs : (s.ring r).subs = [])
    (hr : (s.ring r).ready = []) :
    s.ringDrainEnd r = (s.drainCheck r).polQueueEnd (polRing r) := by
  simp only [State.ringDrainEnd, hst, (State.drainCheck_drained hst hs hr).1, and_self, if_true]

/-- A DISABLED ring released has no window (R86). -/
theorem State.ringRelease_wins {s : State} {r : Nat} (hst : s.ringSt r = ringDisabled) :
    (s.ringRelease r).wins.look (winRing r) = none := by
  rw [State.ringRelease, if_pos hst, State.endLive_keeps (·.wins) (fun _ _ => rfl)]
  exact Assoc.look_del_self _ _

/-! ## Event rings -/

/-- A function's event ring with its entries before index v freed (R103). -/
def State.evqFreed (s : State) (n v : Nat) : Fn :=
  { s.fn n with evqHead := v, used := (s.fn n).used - (v + s.evqSize n - (s.fn n).evqHead) % s.evqSize n }

theorem State.evqDoorbell_eq {s : State} {n v : Nat} (hv : v < s.evqSize n) (hrun : (s.fn n).stopped = false) :
    s.evqDoorbell n v = s.setFn n (s.evqFreed n v) := by
  have hno : ¬ (s.evqSize n ≤ v ∨ (s.fn n).stopped = true) := by simp [hv, hrun]
  simp only [State.evqDoorbell, if_neg hno]
  rfl

/-- A function's event 0x0002 goes to that function alone (Table 04.12). -/
theorem State.eventPost_ringFault (s : State) (src n nsid a0 a1 : Nat) :
    s.eventPost src 0x0002 n nsid a0 a1 = s.eventTo n src 0x0002 s.ctNs a0 a1 := rfl

/-- An event for an event ring with room takes the next entry and the next sequence (R103). -/
theorem State.eventTo_room {s : State} {n : Nat} (he : s.rdb Fld.HRI_FN_EVQ_CFG_ENABLE n = true) (hrun : (s.fn n).stopped = false)
    (hroom : (s.fn n).used < s.evqSize n) (src code time a0 a1 : Nat) :
    ((s.eventTo n src code time a0 a1).fn n).used = (s.fn n).used + 1 ∧
      ((s.eventTo n src code time a0 a1).fn n).evqTail = ((s.fn n).evqTail + 1) % s.evqSize n ∧
      ((s.eventTo n src code time a0 a1).fn n).evtSeq = (s.fn n).evtSeq + 1 := by
  simp only [State.eventTo, he, hrun, Nat.not_le.2 hroom, Bool.not_true, Bool.or_self, Bool.false_eq_true, if_false]
  simp

/-- An event for a full event ring is dropped and counted (R103). -/
theorem State.eventTo_full {s : State} {n : Nat} (he : s.rdb Fld.HRI_FN_EVQ_CFG_ENABLE n = true) (hrun : (s.fn n).stopped = false)
    (hfull : s.evqSize n ≤ (s.fn n).used) (src code time a0 a1 : Nat) :
    s.eventTo n src code time a0 a1 = ((s.setFn n { s.fn n with lost := min ((s.fn n).lost + 1) 0xFFFF }).bump
      Fld.HRI_FN_EVQ_LOST_COUNT 1 n).raise Fld.HRI_ERR_EVQ_OVF := by
  simp only [State.eventTo, he, hrun, hfull, Bool.not_true, Bool.or_self, Bool.false_eq_true, if_false, if_true]

/-! ## The statement -/

/-- Settles O7. -/
theorem ringStatesAndEventRings : Obligations.RingStatesAndEventRings := by
  unfold Obligations.RingStatesAndEventRings
  refine ⟨?fresh, ?kept, ?disable, ?drain, ?release, ?head, ?room, ?full⟩
  case fresh =>
    exact fun s r n hr hst hok hfn hrun hk hp => Completes.of_effect rfl (State.ringEnable_fresh_spec hr hst hok hfn hrun hk hp)
  case kept =>
    intro s r n w hr hst hok hfn hrun hk hw ho
    obtain ⟨hres, -, hwins, -⟩ := s.ringOpened_spec r { Ring.init with c := s.keptMark r w, resync := true } (st := ringResyncing) (by decide)
    exact Completes.of_effect (congrArg ended (State.ringEnable_kept hst hok hfn hrun hk hw ho)) ⟨hres, hwins⟩
  case disable => exact fun s r _ he hst => Completes.of_effect rfl (State.ringDisable_spec he hst)
  case drain =>
    exact fun s r _ hst hs hr => Completes.of_effect (congrArg ended (State.ringDrainEnd_drained hst hs hr)) (State.drainCheck_drained hst hs hr)
  case release => exact fun s r hst => Completes.of_effect rfl (State.ringRelease_wins hst)
  case head =>
    intro s n v hv hrun
    have hfn := State.fn_setFn_self s n (s.evqFreed n v)
    exact Completes.of_effect (congrArg ended (State.evqDoorbell_eq hv hrun)) ⟨congrArg Fn.evqHead hfn, rfl, congrArg Fn.used hfn⟩
  case room =>
    exact fun s src n nsid a0 a1 he hrun hroom => Completes.of_effect (congrArg ended (s.eventPost_ringFault src n nsid a0 a1))
      (State.eventTo_room he hrun hroom src 0x0002 s.ctNs a0 a1)
  case full =>
    intro s src n nsid a0 a1 _ he hrun hfull
    refine Completes.of_effect (congrArg ended ((s.eventPost_ringFault src n nsid a0 a1).trans
      (State.eventTo_full he hrun hfull src 2 s.ctNs a0 a1))) ⟨?_, rfl, ?_, State.rd_wr_self _ Fld.HRI_ERR_EVQ_OVF 1 0 0⟩
    · rw [State.raise_eq, State.bump_eq, State.fn_wr, State.fn_wr, State.fn_setFn_self]
    · rw [State.raise_eq, State.bump_eq, State.fn_wr, State.fn_wr, State.fn_setFn_self]

end Sys2Proof.Machine
end

section
/-! PROOFS. Doorbells, the fetch, completions, the status block, coalescing and RESYNC (R87 to R89, R96, R100 to R102). -/

namespace Sys2Proof

/-- Putting a key leaves what a listing that passes over the key picks out. -/
theorem Assoc.filterMap_put {α β : Type} (m : Assoc α) {k : Nat} (v : α) {p : Nat × α → Option β} (h : ∀ x, p (k, x) = none) :
    (m.put k v).filterMap p = m.filterMap p := by
  induction m with
  | nil => simp [Assoc.put, h]
  | cons e t ih =>
    obtain ⟨k', v'⟩ := e
    simp only [Assoc.put]
    split
    · simp [List.filterMap_cons, h]
    · split
      · next hk => simp [← hk, h]
      · simp only [List.filterMap_cons, ih]

/-- So does taking the key out. -/
theorem Assoc.filterMap_del {α β : Type} (m : Assoc α) {k : Nat} {p : Nat × α → Option β} (h : ∀ x, p (k, x) = none) :
    (m.del k).filterMap p = m.filterMap p := by
  rw [Assoc.del, List.filterMap_filter]
  refine List.filterMap_congr fun ⟨k', x⟩ _ => ?_
  by_cases hk : k' = k
  · simp [hk, h]
  · simp [hk]

namespace Machine

/-! ## The function of a ring -/

/-- Writing a field beyond a table leaves the listing of the table (R518). -/
theorem State.listed_wr (s : State) {f g : Field} (v i j : Nat) (hs : 0 < g.stride)
    (h : g.key 0 0 + (g.first + g.count) * g.stride ≤ f.key i j) : (s.wr f v i j).listed g = s.listed g := by
  have hout : ¬ (f.key i j - g.key 0 0) / g.stride < g.first + g.count := by
    rw [Nat.not_lt, Nat.le_div_iff_mul_le hs]
    omega
  unfold State.listed
  rw [State.wr_regs, putField]
  split
  · exact Assoc.filterMap_del _ fun x => if_neg fun hc => hout hc.2.2
  · exact Assoc.filterMap_put _ _ fun x => if_neg fun hc => hout hc.2.2

/-- A row of the functions' table lies below the fields of OWN (R518). -/
theorem fn_key_lt {f : Field} {n : Nat} (hn : n < 256) (hf : f.stride = 256 ∧ f.key 0 0 ≤ Fld.HRI_FN_EVQ_LOST_COUNT.key 0 0) :
    f.key n 0 < Fld.OWN_STATUS_LEASE.key 0 0 := by
  have hb : Fld.HRI_FN_EVQ_LOST_COUNT.key 0 0 + 255 * 256 < Fld.OWN_STATUS_LEASE.key 0 0 := by decide
  obtain ⟨hs, hk⟩ := hf
  rw [Field.key_row, hs]
  omega

/-- The end of the lease keeps what its fields, the always-on part and GBK keep (R378). -/
theorem State.leaseZero_keeps {γ : Type} (p : State → γ) (haon : ∀ (s : State) a, p { s with aon := a } = p s)
    (hgbk : ∀ (s : State) g, p { s with gbk := g } = p s) (hwr : ∀ (s : State), ∀ f ∈ leaseFields, ∀ v, p (s.wr f v) = p s) (s : State) :
    p s.leaseZero = p s := by
  have hstage : ∀ (u : State) (r : GbkRec), p (u.gbkStage r) = p u := fun u r => by
    unfold State.gbkStage
    split
    · exact hgbk _ _
    · rw [State.raise_eq, State.bump_eq, hwr _ _ (by decide), hwr _ _ (by decide), hgbk]
  unfold State.leaseZero State.record State.recordAt
  dsimp only
  rw [hstage]
  split
  · rw [State.alarm, hwr _ _ (by decide), State.raise_eq, hwr _ _ (by decide), hwr _ _ (by decide), haon]
  · rw [State.raise_eq, hwr _ _ (by decide), hwr _ _ (by decide), haon]

/-- So does the passing of local time. -/
theorem State.advance_keeps {γ : Type} (p : State → γ) (hnow : ∀ (s : State) n, p { s with now := n } = p s)
    (haon : ∀ (s : State) a, p { s with aon := a } = p s) (hgbk : ∀ (s : State) g, p { s with gbk := g } = p s)
    (hwr : ∀ (s : State), ∀ f ∈ leaseFields, ∀ v, p (s.wr f v) = p s) (s : State) (t : Nat) : p (s.advance t) = p s := by
  unfold State.advance
  split
  · split
    · rw [hnow, State.leaseZero_keeps p haon hgbk hwr, hnow]
    · exact hnow _ _
  · exact hnow _ _

/-- The function of a ring is found from the rows of `HRI_FN_RINGS` alone (R81). -/
theorem State.ringFn_congr {s t : State} (hl : t.listed Fld.HRI_FN_RINGS_COUNT = s.listed Fld.HRI_FN_RINGS_COUNT)
    (hb : ∀ n, n < 256 → t.rd Fld.HRI_FN_RINGS_BASE n = s.rd Fld.HRI_FN_RINGS_BASE n) (r : Nat) : t.ringFn r = s.ringFn r := by
  unfold State.ringFn
  rw [hl]
  refine congrArg _ (List.find?_congr fun e he => ?_)
  rw [hb e.1 (State.listed_lt he)]

/-- The passing of local time moves no ring to another function. -/
theorem State.ringFn_advance (s : State) (t r : Nat) : (s.advance t).ringFn r = s.ringFn r := by
  refine State.ringFn_congr ?_ (fun n hn => State.rd_advance s t _ n 0 (fn_key_lt hn (by decide))) r
  refine State.advance_keeps (fun s => s.listed Fld.HRI_FN_RINGS_COUNT) (fun _ _ => rfl) (fun _ _ => rfl) (fun _ _ => rfl)
    (fun s f hf v => State.listed_wr s v 0 0 (by decide) ?_) s t
  revert f
  decide

@[simp] theorem State.ring_advance (s : State) (t r : Nat) : (s.advance t).ring r = s.ring r := by
  rw [State.ring, State.advance_hri, State.ring]

/-- Nor does it stop a function, or let one go on (R79). -/
@[simp] theorem State.ringStopped_advance (s : State) (t r : Nat) : (s.advance t).ringStopped r = s.ringStopped r := by
  unfold State.ringStopped State.fn
  rw [State.ringFn_advance, State.advance_hri]

@[simp] theorem State.ringStopped_setRing (s : State) (r : Nat) (x : Ring) (k : Nat) : (s.setRing r x).ringStopped k = s.ringStopped k := rfl

/-! ## Doorbells -/

/-- Where no event entry is held, none is written (R99). -/
theorem State.flushEvents_none {s : State} {r : Nat} (h : (s.ring r).heldEvents = []) (n : Nat) : s.flushEvents r n = s := by
  cases n with
  | zero => rfl
  | succ n => simp only [State.flushEvents, h]

/-- Where nothing has been fetched, nothing is consumed (R88). -/
theorem State.consumeAll_none {s : State} {r : Nat} (h : (s.ring r).fetched = []) : s.consumeAll r = s := by
  rw [State.consumeAll, h]
  rfl

/-- An SQ tail within the SQ of an ACTIVE ring takes effect (R87). -/
theorem State.sqDoorbell_active {s : State} {fn i v r : Nat} (hl : s.localRing fn i = some r) (hst : s.ringSt r = ringActive)
    (hrun : (s.fn fn).stopped = false) (hv : v < s.sqSize r) : s.sqDoorbell fn i v = s.sqTailSet r v := by
  simp [State.sqDoorbell, hl, hst, hrun, Nat.not_le.2 hv]

/-- So does a CQ head within the CQ (R87). -/
theorem State.cqDoorbell_active {s : State} {fn i v r : Nat} (hl : s.localRing fn i = some r) (hst : s.ringSt r = ringActive)
    (hrun : (s.fn fn).stopped = false) (hv : v < s.cqSize r) : s.cqDoorbell fn i v = s.cqHeadSet r v := by
  simp [State.cqDoorbell, hl, hst, hrun, Nat.not_le.2 hv]

/-- A ring's CQ with the entries before index v freed (R87). -/
def State.cqFreed (s : State) (r v : Nat) : Ring :=
  { s.ring r with
    cqHead := v, cqRecorded := none, cqUsed := (s.ring r).cqUsed - (v + s.cqSize r - (s.ring r).cqHead) % s.cqSize r }

/-- With no event entry held and nothing fetched, a CQ head frees the entries before it, and no more follows (R87, R99). -/
theorem State.cqHeadSet_quiet {s : State} {r : Nat} (hh : (s.ring r).heldEvents = []) (hf : (s.ring r).fetched = []) (v : Nat) :
    s.cqHeadSet r v = s.setRing r (s.cqFreed r v) := by
  have hring : (s.setRing r (s.cqFreed r v)).ring r = s.cqFreed r v := State.ring_setRing_self _ _ _
  change ((s.setRing r (s.cqFreed r v)).flushEvents r 16).consumeAll r = _
  rw [State.flushEvents_none (by rw [hring]; exact hh), State.consumeAll_none (by rw [hring]; exact hf)]

/-! ## The fetch and the arrival of descriptors -/

/-- One fetch asks for up to 8 descriptors, never across the end of the SQ (R89). -/
theorem State.fetchFrom_fetching (s : State) (r : Nat) : ((s.fetchFrom r 8).1.ring r).fetching =
    min 8 (min (s.unfetched r) (s.sqSize r - ((s.ring r).sqHead + (s.ring r).fetched.length) % s.sqSize r)) := by
  simp [State.fetchFrom]

/-- Rings of class 0 are served first, in round robin (R89). -/
theorem State.descriptorFetch_classZero {s : State} {r : Nat} {l : List Nat} (hp : s.admittedPend Blk.HRI = false)
    (he : s.rdb Fld.HRI_CTRL_ENABLE = true)
    (hz : rotate (((s.hri.rings.map (·.1)).filter s.fetchable).filter (fun r => s.rd Fld.HRI_RING_ARB_PRIO r == 0)) s.hri.rr = r :: l) :
    s.descriptorFetch = { (s.fetchFrom r 8).1 with hri := { (s.fetchFrom r 8).1.hri with rr := r } } := by
  simp only [State.descriptorFetch, State.boundary_eq hp, he, hz]
  rfl

/-- A submission that is consumed as a new one: its outcome is stored (R41, R43). -/
def Sub.taken (e : SubEntry) : Sub := { e := e, started := false, replayed := false, follows := false, stores := true }

/-- A new submission of a known opcode is carried by its ring, and its sequence is in progress (R41, R88). -/
theorem State.consumeOne_free {s : State} {r : Nat} {e : SubEntry} (ho : ringOpcode e.opcode = true)
    (hj : (s.wins.getD (winRing r) (RWin.fresh 32 0 0)).judge e.seq = .free) :
    ((s.consumeOne r e).ring r).subs = (s.ring r).subs.put (s.ring r).subs.fresh (Sub.taken e) ∧
      (s.consumeOne r e).wins = s.wins.put (winRing r) ((s.wins.getD (winRing r) (RWin.fresh 32 0 0)).take e.seq) := by
  simp only [State.consumeOne, hj, ho, if_true]
  exact ⟨congrArg Ring.subs (State.ring_setRing_self _ _ _), rfl⟩

/-- The one entry fetched of an ACTIVE ring with room for its completion is consumed (R88). -/
theorem State.consumeAll_one {s : State} {r : Nat} {e : SubEntry} (hf : (s.ring r).fetched = [e]) (hst : s.ringSt r = ringActive)
    (hroom : s.cqLoad r < s.cqSize r) (hrun : s.ringStopped r = false) :
    s.consumeAll r = (s.setRing r { s.ring r with fetched := [] }).consumeOne r e := by
  have hgo : (s.ringSt r = ringActive ∨ s.ringSt r = ringError) ∧ s.cqLoad r < s.cqSize r ∧ s.ringStopped r = false :=
    ⟨.inl hst, hroom, hrun⟩
  rw [State.consumeAll, hf]
  simp only [List.length_singleton, State.consume, hf, if_pos hgo]

/-- A ring whose one outstanding descriptor has arrived. -/
def State.arrived (s : State) (r : Nat) (e : SubEntry) : State := s.setRing r { s.ring r with fetched := [e], fetching := 0 }

/-- A ring whose one descriptor to arrive has been taken from those fetched. -/
def State.takenUp (s : State) (r : Nat) (e : SubEntry) : State :=
  (s.arrived r e).setRing r { (s.arrived r e).ring r with fetched := [] }

theorem State.arrived_ring (s : State) (r : Nat) (e : SubEntry) : (s.arrived r e).ring r = { s.ring r with fetched := [e], fetching := 0 } :=
  State.ring_setRing_self _ _ _

theorem State.takenUp_subs (s : State) (r : Nat) (e : SubEntry) : ((s.takenUp r e).ring r).subs = (s.ring r).subs := by
  rw [State.takenUp, State.ring_setRing_self, State.arrived_ring]

/-- A descriptor that arrives as the only one fetched is taken up, where R88 lets it. -/
theorem State.fetchDone_one {s : State} {r : Nat} {e : SubEntry} (hn : (s.ring r).fetching = 1) (hf : (s.ring r).fetched = [])
    (hst : s.ringSt r = ringActive) (hrun : s.ringStopped r = false) (hroom : s.cqLoad r < s.cqSize r) :
    s.fetchDone r .ok [e] = (s.takenUp r e).consumeOne r e := by
  have hload : (s.arrived r e).cqLoad r = s.cqLoad r := by rw [State.cqLoad, State.arrived_ring, State.cqLoad]
  have harrive : s.fetchDone r .ok [e] = (s.arrived r e).consumeAll r := by simp [State.fetchDone, hn, hf, State.arrived]
  rw [harrive, State.takenUp]
  exact State.consumeAll_one (by rw [State.arrived_ring]) hst (by rw [hload]; exact hroom) hrun

/-! ## Completions and the status block -/

/-- The status block, where it is written, counts itself and shows every change (R100). -/
theorem State.writeStatus_ring {s : State} {r : Nat} (hrun : s.ringStopped r = false) :
    (s.writeStatus r).ring r = { s.ring r with updates := ((s.ring r).updates + 1) % 2 ^ 32, sbDirty := none } := by
  rw [State.writeStatus, if_neg (by simp [hrun]), State.ring_emit, State.ring_setRing_self]
  rfl

/-- A signal ends the count of unsignalled entries (R102). -/
theorem State.ringSignal_ring (s : State) (r : Nat) :
    (s.ringSignal r).ring r = { s.ring r with unsignalled := 0, firstUnsignalled := none } := by
  unfold State.ringSignal
  dsimp only
  split
  · exact State.ring_setRing_self _ _ _
  · exact State.ring_setRing_self _ _ _

/-- A ring once an entry has taken the next place of its CQ (R94, R96). -/
def State.cqTaken (s : State) (r : Nat) : Ring :=
  let x := s.ring r
  let tail := (x.cqTail + 1) % s.cqSize r
  { x with
    cqTail := tail, cplSeq := (x.cplSeq + 1) % 2 ^ 32, phase := if tail = 0 then !x.phase else x.phase, cqUsed := x.cqUsed + 1,
    unsignalled := x.unsignalled + 1, firstUnsignalled := some (x.firstUnsignalled.getD s.now), sbDirty := some s.now }

/-- One entry written takes the next place of the CQ and the next completion sequence, signalled or not (R94, R96, R102). -/
theorem State.cqWrite_ring {s : State} {r : Nat} (hrun : s.ringStopped r = false) (e : ComplEntry) (irq : Bool) :
    ((s.cqWrite r e irq).ring r).ready = (s.ring r).ready ∧
      ((s.cqWrite r e irq).ring r).cqTail = ((s.ring r).cqTail + 1) % s.cqSize r ∧
      ((s.cqWrite r e irq).ring r).cplSeq = ((s.ring r).cplSeq + 1) % 2 ^ 32 := by
  have heq : ∃ o, ∃ signal : Bool, s.cqWrite r e irq =
      if signal then (((s.setRing r (s.cqTaken r)).emit o).writeStatus r).ringSignal r else (s.setRing r (s.cqTaken r)).emit o := by
    rw [State.cqWrite, if_neg (by simp [hrun])]
    exact ⟨_, _, rfl⟩
  obtain ⟨o, signal, heq⟩ := heq
  have hring : ((s.setRing r (s.cqTaken r)).emit o).ring r = s.cqTaken r := State.ring_setRing_self _ _ _
  rw [heq]
  cases signal with
  | true =>
    rw [if_pos rfl, State.ringSignal_ring, State.writeStatus_ring (by exact hrun), hring]
    exact ⟨rfl, rfl, rfl⟩
  | false =>
    rw [if_neg Bool.false_ne_true, hring]
    exact ⟨rfl, rfl, rfl⟩

/-- The oldest completion that waits is written, and waits no more (R96). -/
theorem State.completionWrite_spec {s : State} {r : Nat} {c : Ready} {l : List Ready} (hr : (s.ring r).ready = c :: l)
    (hrun : s.ringStopped r = false) (hst : s.ringSt r ≠ ringDisabled) :
    ((s.completionWrite r true).ring r).ready = l ∧
      ((s.completionWrite r true).ring r).cqTail = ((s.ring r).cqTail + 1) % s.cqSize r ∧
      ((s.completionWrite r true).ring r).cplSeq = ((s.ring r).cplSeq + 1) % 2 ^ 32 := by
  have heq : ∃ e, s.completionWrite r true = (s.setRing r { s.ring r with ready := l }).cqWrite r e c.irq := by
    have hgo : ¬ ((s.setRing r { s.ring r with ready := l }).ringStopped r = true ∨
        (s.setRing r { s.ring r with ready := l }).ringSt r = ringDisabled) := by simp [hrun, hst]
    simp only [State.completionWrite, hr, if_neg hgo, State.statusWritten, if_true, ite_self]
    exact ⟨_, rfl⟩
  obtain ⟨e, he⟩ := heq
  obtain ⟨hready, htail, hseq⟩ := State.cqWrite_ring (s := s.setRing r { s.ring r with ready := l }) hrun e c.irq
  rw [State.ring_setRing_self] at hready htail hseq
  rw [he]
  exact ⟨hready, htail, hseq⟩

/-- The status block's timer writes the block (R100). -/
theorem State.statusTimer_ring {s : State} {r x : Nat} (hd : (s.ring r).sbDirty = some x) (hrun : s.ringStopped r = false) :
    (s.statusTimer r true).ring r = { s.ring r with updates := ((s.ring r).updates + 1) % 2 ^ 32, sbDirty := none } := by
  have heq : s.statusTimer r true = (s.advanceUs x 2).writeStatus r := by simp [State.statusTimer, hd, hrun, State.statusWritten]
  rw [heq, State.advanceUs, State.writeStatus_ring (by rw [State.ringStopped_advance]; exact hrun), State.ring_advance]

/-- The coalescing timer signals (R102). -/
theorem State.coalesceTimer_signals {s : State} {r x : Nat} (hf : (s.ring r).firstUnsignalled = some x) (hrun : s.ringStopped r = false) :
    s.coalesceTimer r = ((s.advanceUs x (s.rd Fld.HRI_RING_CFG_COAL_US r)).writeStatus r).ringSignal r := by
  simp [State.coalesceTimer, hf, hrun]

/-! ## RESYNC -/

/-- RESYNC begins on an ACTIVE ring, or one in ERROR (R101). -/
theorem State.resyncStart_eq {s : State} {r : Nat} (h : s.ringSt r = ringActive ∨ s.ringSt r = ringError) :
    s.resyncStart none r =
      ((s.wr Fld.HRI_RING_STATE_STATE ringResyncing r).setRing r { s.ring r with resync := true }).touchStatus r := by
  simp only [State.resyncStart, if_pos h]

/-- An event for a function touches no ring (R103). -/
@[simp] theorem State.ring_eventTo (s : State) (n src code time a0 a1 r : Nat) : (s.eventTo n src code time a0 a1).ring r = s.ring r := by
  unfold State.eventTo
  dsimp only
  split
  · rfl
  · split <;> rfl

/-- Nor does it take back what has left the head. -/
theorem State.mem_out_eventTo {s : State} {o : Out} (h : o ∈ s.out) (n src code time a0 a1 : Nat) :
    o ∈ (s.eventTo n src code time a0 a1).out := by
  unfold State.eventTo
  dsimp only
  split
  · exact h
  · split
    · exact h
    · exact List.mem_cons_of_mem _ (List.mem_cons_of_mem _ h)

/-- A ring with no doorbell recorded and nothing fetched becomes ACTIVE, and no more follows (R87, R101). -/
theorem State.ringActivate_quiet {s : State} {r : Nat} (hf : (s.ring r).fetched = []) (hsq : (s.ring r).sqRecorded = none)
    (hcq : (s.ring r).cqRecorded = none) : s.ringActivate r = (s.wr Fld.HRI_RING_STATE_STATE ringActive r).touchStatus r := by
  have hring : ((s.wr Fld.HRI_RING_STATE_STATE ringActive r).touchStatus r).ring r = { s.ring r with sbDirty := some s.now } :=
    State.ring_touchStatus_self _ _
  simp only [State.ringActivate, hring, hsq, hcq]
  exact State.consumeAll_none (by rw [hring]; exact hf)

/-- With every submission completed and every completion written, the record and DONE leave the head, and RESYNC is over (R101). -/
theorem State.resyncWrite_spec {s : State} {r : Nat} (hst : s.ringSt r = ringResyncing) (hr : (s.ring r).ready = []) (hs : (s.ring r).subs = [])
    (hf : (s.ring r).fetched = []) (hsq : (s.ring r).sqRecorded = none) (hcq : (s.ring r).cqRecorded = none)
    (hrun : s.ringStopped r = false) :
    ((s.resyncWrite r).ring r).resync = false ∧ .resyncDone r ∈ (s.resyncWrite r).out := by
  have heq : ∃ entry, s.resyncWrite r = ((((s.setRing r { s.ring r with resync := false }).emit (.resync r entry)).emit (.resyncDone r)).eventFn
      ((s.ringFn r).getD 0) Blk.HRI 0x0003 r (s.ring r).c).ringActivate r := by
    have hgo : ¬ (s.ringSt r ≠ ringResyncing ∨ (s.ring r).ready ≠ [] ∨ (!(s.ring r).subs.all (fun e => s.subDecided r e.2)) = true) := by
      simp [hst, hr, hs]
    simp only [State.resyncWrite, if_neg hgo, State.ringStopped_setRing, hrun, Bool.false_eq_true, if_false]
    exact ⟨_, rfl⟩
  obtain ⟨entry, heq⟩ := heq
  generalize hu : (((s.setRing r { s.ring r with resync := false }).emit (.resync r entry)).emit (.resyncDone r)).eventFn
    ((s.ringFn r).getD 0) Blk.HRI 0x0003 r (s.ring r).c = u at heq
  have hring : u.ring r = { s.ring r with resync := false } := by
    rw [← hu, State.eventFn, State.ring_eventTo, State.ring_emit, State.ring_emit, State.ring_setRing_self]
  have hout : .resyncDone r ∈ u.out := hu ▸ State.mem_out_eventTo List.mem_cons_self _ _ _ _ _ _
  rw [heq, State.ringActivate_quiet (by rw [hring]; exact hf) (by rw [hring]; exact hsq) (by rw [hring]; exact hcq),
    State.ring_touchStatus_self, State.ring_wr, hring]
  exact ⟨rfl, hout⟩

/-! ## The statement -/

/-- Settles O8. -/
theorem ringSubmissionsAndCompletions : Obligations.RingSubmissionsAndCompletions := by
  unfold Obligations.RingSubmissionsAndCompletions
  refine ⟨?sqTail, ?cqHead, ?fetch, ?arrival, ?completion, ?status, ?coalesce, ?resync, ?record⟩
  case sqTail =>
    exact fun s fn i v r hl hst hrun hv => Completes.of_effect (congrArg ended (State.sqDoorbell_active hl hst hrun hv))
      ⟨congrArg Ring.sqTail (State.ring_setRing_self _ _ _), rfl, rfl⟩
  case cqHead =>
    intro s fn i v r hl hst hrun hv hh hf
    have hring : (s.setRing r (s.cqFreed r v)).ring r = s.cqFreed r v := State.ring_setRing_self _ _ _
    exact Completes.of_effect (congrArg ended ((State.cqDoorbell_active hl hst hrun hv).trans (State.cqHeadSet_quiet hh hf v)))
      ⟨congrArg Ring.cqHead hring, congrArg Ring.cqUsed hring⟩
  case fetch =>
    exact fun s r l hp he hz => Completes.of_effect (congrArg ended (State.descriptorFetch_classZero hp he hz)) (s.fetchFrom_fetching r)
  case arrival =>
    intro s r e hn hf hst hrun hroom ho hj
    obtain ⟨hsubs, hwins⟩ := State.consumeOne_free (s := s.takenUp r e) ho hj
    refine Completes.of_effect (congrArg ended (State.fetchDone_one hn hf hst hrun hroom)) ⟨?_, ?_⟩
    · rw [hsubs, State.takenUp_subs]
      exact Assoc.look_put_self _ _ _
    · rw [hwins, Assoc.look_put_self]
      exact RWin.slot_take_self _ _
  case completion => exact fun s r c l hr hrun hst => Completes.of_effect rfl (State.completionWrite_spec hr hrun hst)
  case status =>
    intro s r x hd hrun
    have hring := State.statusTimer_ring hd hrun
    exact Completes.of_effect rfl ⟨congrArg Ring.sbDirty hring, congrArg Ring.updates hring⟩
  case coalesce =>
    intro s r x hf hrun
    have hring := State.ringSignal_ring ((s.advanceUs x (s.rd Fld.HRI_RING_CFG_COAL_US r)).writeStatus r) r
    exact Completes.of_effect (congrArg ended (State.coalesceTimer_signals hf hrun))
      ⟨congrArg Ring.firstUnsignalled hring, congrArg Ring.unsignalled hring⟩
  case resync =>
    intro s r _ hst
    refine Completes.of_effect (congrArg ended (State.resyncStart_eq hst)) ⟨?_, ?_⟩
    · rw [State.ringSt_touchStatus, State.ringSt_setRing, State.ringSt_wr_self _ r (by decide)]
    · rw [State.ring_touchStatus_self, State.ring_setRing_self]
  case record =>
    exact fun s r hst hr hs hf hsq hcq hrun => Completes.of_effect rfl (State.resyncWrite_spec hst hr hs hf hsq hcq hrun)

end Machine

end Sys2Proof
end

section
/-! PROOFS. PCIe link events, power domains, regulator chains and core VDD (R79, R480, R481, R483 to R485, R492). -/

namespace Sys2Proof

/-! ## Bits -/

theorem bitAt_eq_testBit (v i : Nat) : bitAt v i = v.testBit i := by
  rw [Nat.testBit_eq_decide_div_mod_eq]
  rfl

/-- A bit set is set. -/
theorem bitAt_setBit_self (v i : Nat) : bitAt (setBit v i) i = true := by
  unfold setBit
  split
  · assumption
  · next h =>
    rw [bitAt_eq_testBit] at h ⊢
    rw [Nat.add_comm, Nat.testBit_two_pow_add_eq]
    simpa using h

/-- A bit cleared is clear. -/
theorem bitAt_clrBit_self (v i : Nat) : bitAt (clrBit v i) i = false := by
  unfold clrBit
  split
  · next h =>
    rw [bitAt_eq_testBit] at h ⊢
    have hv : 2 ^ i + (v - 2 ^ i) = v := Nat.add_sub_cancel' (Nat.ge_two_pow_of_testBit h)
    rw [← hv, Nat.testBit_two_pow_add_eq] at h
    simpa using h
  · next h => simpa using h

/-- Cutting to w bits keeps every bit below w. -/
theorem bitAt_mod_two_pow {w i : Nat} (h : i < w) (v : Nat) : bitAt (v % 2 ^ w) i = bitAt v i := by
  simp [bitAt_eq_testBit, Nat.testBit_mod_two_pow, h]

namespace Machine

/-! ## Functions that stop -/

/-- Between two states only registers, rings and POL's bindings have changed. -/
def State.RingsOnly (s t : State) : Prop := ∃ r x p, t = { s with regs := r, hri := { s.hri with rings := x }, pol := p }

theorem State.RingsOnly.refl (s : State) : s.RingsOnly s := ⟨_, _, _, rfl⟩

theorem State.RingsOnly.trans {s t u : State} (h : s.RingsOnly t) (h' : t.RingsOnly u) : s.RingsOnly u := by
  obtain ⟨_, _, _, rfl⟩ := h
  obtain ⟨_, _, _, rfl⟩ := h'
  exact ⟨_, _, _, rfl⟩

theorem State.RingsOnly.fn_eq {s t : State} (h : s.RingsOnly t) (n : Nat) : t.fn n = s.fn n := by
  obtain ⟨_, _, _, rfl⟩ := h
  rfl

theorem State.RingsOnly.wins_eq {s t : State} (h : s.RingsOnly t) : t.wins = s.wins := by
  obtain ⟨_, _, _, rfl⟩ := h
  rfl

theorem State.RingsOnly.aon_eq {s t : State} (h : s.RingsOnly t) : t.aon = s.aon := by
  obtain ⟨_, _, _, rfl⟩ := h
  rfl

theorem State.ringDisable_ringsOnly (s : State) (r : Nat) : s.RingsOnly (s.ringDisable r) := by
  unfold State.ringDisable
  dsimp only
  split
  · exact State.RingsOnly.refl s
  · split <;> exact ⟨_, _, _, rfl⟩

theorem State.drainCheck_ringsOnly (s : State) (r : Nat) : s.RingsOnly (s.drainCheck r) := by
  unfold State.drainCheck
  dsimp only
  split
  · exact ⟨_, _, _, rfl⟩
  · exact State.RingsOnly.refl s

theorem State.ringDrainEnd_ringsOnly (s : State) (r : Nat) : s.RingsOnly (s.ringDrainEnd r) := by
  unfold State.ringDrainEnd
  dsimp only
  split
  · exact (s.drainCheck_ringsOnly r).trans ⟨_, _, _, rfl⟩
  · exact s.drainCheck_ringsOnly r

/-- A function that stops is marked so; beyond that its rings drain (R79). -/
theorem State.fnStop_ringsOnly (s : State) (n : Nat) : (s.setFn n { s.fn n with stopped := true }).RingsOnly (s.fnStop n) := by
  have key : ∀ (l : List Nat) (u : State), u.RingsOnly
      (l.foldl (fun (s : State) r => if s.ringSt r = ringDisabled then s else (s.ringDisable r).ringDrainEnd r) u) := by
    intro l
    induction l with
    | nil => exact State.RingsOnly.refl
    | cons r l ih =>
      intro u
      refine State.RingsOnly.trans ?_ (ih _)
      dsimp only
      split
      · exact State.RingsOnly.refl u
      · exact (u.ringDisable_ringsOnly r).trans (State.ringDrainEnd_ringsOnly _ r)
  exact key _ _

theorem State.fn_setFn_ne (s : State) {n m : Nat} (f : Fn) (h : m ≠ n) : (s.setFn n f).fn m = s.fn m :=
  Assoc.getD_put_ne _ _ _ h

/-- A function that stops is stopped, and no other is touched, nor a replay window or the always-on part (R79). -/
theorem State.fnStop_spec (s : State) (n : Nat) :
    ((s.fnStop n).fn n).stopped = true ∧ (∀ m, m ≠ n → (s.fnStop n).fn m = s.fn m) ∧ (s.fnStop n).wins = s.wins ∧
      (s.fnStop n).aon = s.aon := by
  have h := s.fnStop_ringsOnly n
  refine ⟨?_, fun m hm => (h.fn_eq m).trans (s.fn_setFn_ne _ hm), h.wins_eq, h.aon_eq⟩
  rw [h.fn_eq, State.fn_setFn_self]

/-- A reset of one of the head's functions stops it, and no other (R79). -/
theorem State.fnReset_spec (s : State) {n : Nat} (hn : n < 256) :
    ((s.fnReset n).fn n).stopped = true ∧ (∀ m, m ≠ n → (s.fnReset n).fn m = s.fn m) ∧ (s.fnReset n).wins = s.wins := by
  obtain ⟨hself, hother, hwins, -⟩ := s.fnStop_spec n
  rw [State.fnReset, if_pos hn]
  exact ⟨hself, hother, hwins⟩

/-- Functions of a list that stop are stopped, and stay so (R79). -/
theorem State.fnStopAll_stopped (l : List Nat) {s : State} {n : Nat} (h : (s.fn n).stopped = true ∨ n ∈ l) :
    ((s.fnStopAll l).fn n).stopped = true := by
  induction l generalizing s with
  | nil => exact h.resolve_right List.not_mem_nil
  | cons m l ih =>
    obtain ⟨hself, hother, -, -⟩ := s.fnStop_spec m
    refine ih ?_
    by_cases hn : n = m
    · exact .inl (hn ▸ hself)
    · rw [hother n hn]
      exact h.imp id fun hm => (List.mem_cons.1 hm).resolve_left hn

@[simp] theorem State.fnStopAll_aon (s : State) (l : List Nat) : (s.fnStopAll l).aon = s.aon :=
  foldl_keeps _ (·.aon) (fun s n => (s.fnStop_spec n).2.2.2) l s

theorem mem_allFns {n : Nat} (h : n < 256) : n ∈ allFns := by
  simp only [allFns, List.mem_range, h]

/-- With no link trained, every function is stopped and the links' widths read 0 (R79, Table 04.14). -/
theorem State.linksDown_spec (s : State) :
    (∀ n, n < 256 → (s.linksDown.fn n).stopped = true) ∧ s.linksDown.rd Fld.HRI_STATUS_WIDTH0 = 0 ∧
      s.linksDown.rd Fld.HRI_STATUS_WIDTH1 = 0 ∧ s.linksDown.aon = s.aon := by
  unfold State.linksDown
  refine ⟨fun n hn => ?_, ?_, ?_, by simp only [State.wr_aon, State.fnStopAll_aon]⟩
  · simp only [State.fn_wr]
    exact State.fnStopAll_stopped allFns (.inr (mem_allFns hn))
  · dsimp only
    rw [State.rd_wr_ne _ _ _ _ _ _ _ _ (by decide), State.rd_wr_ne _ _ _ _ _ _ _ _ (by decide), State.rd_wr_ne _ _ _ _ _ _ _ _ (by decide),
      State.rd_wr_ne _ _ _ _ _ _ _ _ (by decide), State.rd_wr_ne _ _ _ _ _ _ _ _ (by decide), State.rd_wr_self]
    rfl
  · dsimp only
    rw [State.rd_wr_ne _ _ _ _ _ _ _ _ (by decide), State.rd_wr_ne _ _ _ _ _ _ _ _ (by decide), State.rd_wr_self]
    rfl

/-- With `PERST_N` asserted every function is stopped, no link is trained, and the lease runs on (R79, Table 23.3). -/
theorem State.perstAssert_spec (s : State) :
    (∀ n, n < 256 → (s.perstAssert.fn n).stopped = true) ∧ s.perstAssert.rd Fld.HRI_STATUS_WIDTH0 = 0 ∧
      s.perstAssert.rd Fld.HRI_STATUS_WIDTH1 = 0 ∧ s.perstAssert.aon.perst = true ∧ s.perstAssert.aon.leaseEnd = s.aon.leaseEnd := by
  obtain ⟨hfn, hw0, hw1, haon⟩ := State.linksDown_spec { s with aon := { s.aon with perst := true } }
  unfold State.perstAssert
  exact ⟨hfn, hw0, hw1, by rw [haon], by rw [haon]⟩

/-- Link 0 that trains shows its width and speed, and `PERST_N` is released (R492). -/
theorem State.linkTrain_link0 {s : State} (hr : s.aon.sysRst = false) (hd : s.domainOn 28 = true) (l : PcieLink) :
    (s.linkTrain 0 l).aon.perst = false ∧ (s.linkTrain 0 l).rd Fld.HRI_STATUS_WIDTH0 = l.width % 2 ^ Fld.HRI_STATUS_WIDTH0.width ∧
      (s.linkTrain 0 l).rd Fld.HRI_STATUS_SPEED0 = l.speed % 2 ^ Fld.HRI_STATUS_SPEED0.width := by
  have hgo : ¬ (s.aon.sysRst || !s.domainOn 28 || decide (1 < 0) || ((0 : Nat) == 1 && !s.rdb Fld.HRI_STATUS_BIF)) = true := by simp [hr, hd]
  simp only [State.linkTrain, if_neg hgo, if_true, State.wrb_eq]
  refine ⟨rfl, ?_, ?_⟩
  · rw [State.rd_wr_ne _ _ _ _ _ _ _ _ (by decide), State.rd_wr_ne _ _ _ _ _ _ _ _ (by decide), State.rd_wr_self]
  · rw [State.rd_wr_ne _ _ _ _ _ _ _ _ (by decide), State.rd_wr_self]

/-! ## Power domains -/

/-- The fields that the judgement of a domain request reads (Table 23.1). -/
abbrev powerFields : List Field :=
  [Fld.PWR_DOM_STATE_ON, Fld.OWN_CTRL_ENABLE, Fld.ISL_CTRL_ENABLE, Fld.ISL_STATUS_QUADS_UP, Fld.HRI_CTRL_ENABLE, Fld.CMP_CTRL_ENABLE,
    Fld.CIP_CTRL_ENABLE, Fld.DDP_CTRL_ENABLE, Fld.LPE_RUN_MASK, Fld.LPE_TRIPPED_MASK, Fld.PJM_CTRL_ENABLE]

/-- A request is judged by those fields alone. -/
theorem State.domainPasses_congr {s t : State} (h : ∀ f ∈ powerFields, t.rd f = s.rd f) (r : DomReq) : t.domainPasses r = s.domainPasses r := by
  simp (disch := decide) only [State.domainPasses, State.mayPowerOff, State.otherOn, State.domainOn, State.rdb, h]

/-- The state with a command's request at the end of the queue (R481). -/
def State.domQueued (s : State) (r : DomReq) : State :=
  ({ s with pwr := { s.pwr with queue := s.pwr.queue ++ [r] } }.wr Fld.PWR_DOM_RESULT_DONE 0).wr Fld.PWR_DOM_RESULT_BUSY 1

/-- Queuing a request touches nothing that judges it. -/
theorem State.rd_domQueued (s : State) (r : DomReq) {f : Field} (hf : f ∈ powerFields) : (s.domQueued r).rd f = s.rd f := by
  have hk : ∀ f ∈ powerFields, f.key 0 0 ≠ Fld.PWR_DOM_RESULT_DONE.key 0 0 ∧ f.key 0 0 ≠ Fld.PWR_DOM_RESULT_BUSY.key 0 0 := by decide
  obtain ⟨hdone, hbusy⟩ := hk f hf
  rw [State.domQueued, State.rd_wr_ne _ _ _ _ _ _ _ _ hbusy, State.rd_wr_ne _ _ _ _ _ _ _ _ hdone]
  rfl

/-- So it is judged as before it joined. -/
theorem State.domQueued_passes (s : State) (r : DomReq) : (s.domQueued r).domainPasses r = s.domainPasses r :=
  State.domainPasses_congr (fun _ hf => s.rd_domQueued r hf) r

theorem State.domQueued_alone {s : State} (h : s.pwr.queue = []) (r : DomReq) : (s.domQueued r).pwr.queue = [r] :=
  congrArg (· ++ [r]) h

/-- A command that finds room in the queue joins it, and the queue is judged (R481). -/
theorem State.domRequest_room {s : State} (h : s.pwr.queue.length < 16) (d : Nat) (on : Bool) :
    s.domRequest d on true = (s.domQueued ⟨d, on, true⟩).domNext (s.pwr.queue.length + 2) := by
  have hroom : ¬ (true && decide (16 ≤ s.pwr.queue.length)) = true := by simpa using h
  simp [State.domRequest, hroom, State.domQueued]

/-- While a domain is switched, no request is judged (R481). -/
theorem State.domNext_switching {s : State} {r : DomReq} (h : s.pwr.switching = some r) (n : Nat) : s.domNext n = s := by
  cases n with
  | zero => rfl
  | succ n => simp only [State.domNext, h]

/-- With no request waiting, none is judged. -/
theorem State.domNext_empty {s : State} (h : s.pwr.queue = []) (n : Nat) : s.domNext n = s := by
  cases n with
  | zero => rfl
  | succ n =>
    simp only [State.domNext, h]
    cases s.pwr.switching <;> rfl

/-- A request that passes at the head of the queue begins its switch (R481). -/
theorem State.domNext_passes {s : State} {r : DomReq} {l : List DomReq} (hs : s.pwr.switching = none) (hq : s.pwr.queue = r :: l)
    (hp : s.domainPasses r = true) (n : Nat) :
    s.domNext (n + 1) = { s with pwr := { s.pwr with queue := l, switching := some r } }.wr Fld.PWR_STATUS_DOM_BUSY 1 := by
  simp only [State.domNext, hs, hq, hp, if_true]

/-- The state once the last command waiting has been refused (R480). -/
def State.domRefused (s : State) (d : Nat) : State :=
  let s := { s with pwr := { s.pwr with queue := [], switching := none } }
  ((s.raise Fld.PWR_ERR_DOM_REFUSED).wr Fld.PWR_ERR_INFO_DOMAIN d).domAnswer STS_DOMAIN_IN_USE

/-- A command alone in the queue that does not pass is refused, and none is left to judge (R480). -/
theorem State.domNext_refused {s : State} {r : DomReq} (hs : s.pwr.switching = none) (hq : s.pwr.queue = [r])
    (hp : s.domainPasses r = false) (hc : r.cmd = true) (n : Nat) : s.domNext (n + 1) = s.domRefused r.domain := by
  simp only [State.domNext, hs, hq, hp, hc, if_true, Bool.false_eq_true, if_false]
  exact State.domNext_empty (s := s.domRefused r.domain) rfl n

/-- An answer touches the register of the result alone. -/
theorem State.rd_domAnswer (s : State) (status : Nat) {f : Field} (i j : Nat)
    (h : ∀ g ∈ [Fld.PWR_DOM_RESULT_STATUS, Fld.PWR_DOM_RESULT_DONE, Fld.PWR_DOM_RESULT_BUSY], f.key i j ≠ g.key 0 0) :
    (s.domAnswer status).rd f i j = s.rd f i j := by
  simp only [List.forall_mem_cons] at h
  obtain ⟨hst, hdone, hbusy, -⟩ := h
  rw [State.domAnswer, State.wrb_eq, State.wrb_eq, State.rd_wr_ne _ _ _ _ _ _ _ _ hbusy, State.rd_wr_ne _ _ _ _ _ _ _ _ hdone,
    State.rd_wr_ne _ _ _ _ _ _ _ _ hst]

/-- The answer shows its status. -/
theorem State.domAnswer_status (s : State) (status : Nat) :
    (s.domAnswer status).rd Fld.PWR_DOM_RESULT_STATUS = status % 2 ^ Fld.PWR_DOM_RESULT_STATUS.width := by
  rw [State.domAnswer, State.wrb_eq, State.wrb_eq, State.rd_wr_ne _ _ _ _ _ _ _ _ (by decide), State.rd_wr_ne _ _ _ _ _ _ _ _ (by decide),
    State.rd_wr_self]

/-- What a refusal shows and leaves (R480). -/
theorem State.domRefused_spec (s : State) (d : Nat) :
    (s.domRefused d).pwr.switching = none ∧ (s.domRefused d).rd Fld.PWR_DOM_RESULT_STATUS = STS_DOMAIN_IN_USE ∧
      (s.domRefused d).rd Fld.PWR_DOM_STATE_ON = s.rd Fld.PWR_DOM_STATE_ON ∧ (s.domRefused d).rd Fld.PWR_ERR_DOM_REFUSED = 1 := by
  refine ⟨rfl, State.domAnswer_status _ _, ?_, ?_⟩
  · rw [State.domRefused, State.rd_domAnswer _ _ _ _ (by decide), State.rd_wr_ne _ _ _ _ _ _ _ _ (by decide), State.raise_eq,
      State.rd_wr_ne _ _ _ _ _ _ _ _ (by decide)]
    rfl
  · rw [State.domRefused, State.rd_domAnswer _ _ _ _ (by decide), State.rd_wr_ne _ _ _ _ _ _ _ _ (by decide), State.raise_eq, State.rd_wr_self]
    rfl

/-- A command that meets an idle PWR and passes begins its switch; the domains are powered as before (R481). -/
theorem State.domRequest_passes {s : State} {d : Nat} {on : Bool} (hq : s.pwr.queue = []) (hs : s.pwr.switching = none)
    (hp : s.domainPasses ⟨d, on, true⟩ = true) :
    (s.domRequest d on true).pwr.switching = some ⟨d, on, true⟩ ∧ (s.domRequest d on true).rd Fld.PWR_STATUS_DOM_BUSY = 1 ∧
      (s.domRequest d on true).rd Fld.PWR_DOM_STATE_ON = s.rd Fld.PWR_DOM_STATE_ON := by
  rw [← s.domQueued_passes ⟨d, on, true⟩] at hp
  rw [State.domRequest_room (by simp [hq]), State.domNext_passes (s := s.domQueued ⟨d, on, true⟩) hs (State.domQueued_alone hq _) hp]
  refine ⟨rfl, State.rd_wr_self _ Fld.PWR_STATUS_DOM_BUSY 1 0 0, ?_⟩
  rw [State.rd_wr_ne _ _ _ _ _ _ _ _ (by decide)]
  exact s.rd_domQueued _ (by decide)

/-- A command that meets an idle PWR and does not pass is refused (R480). -/
theorem State.domRequest_refused {s : State} {d : Nat} {on : Bool} (hq : s.pwr.queue = []) (hs : s.pwr.switching = none)
    (hp : s.domainPasses ⟨d, on, true⟩ = false) : s.domRequest d on true = (s.domQueued ⟨d, on, true⟩).domRefused d := by
  rw [← s.domQueued_passes ⟨d, on, true⟩] at hp
  rw [State.domRequest_room (by simp [hq]), State.domNext_refused (s := s.domQueued ⟨d, on, true⟩) hs (State.domQueued_alone hq _) hp rfl]

/-- A command that switches off passes where Table 23.1 lets it. -/
theorem State.domainPasses_off {s : State} {d : Nat} (ho : s.domainOn d = true) (hb : blockSwitched d = false) :
    s.domainPasses ⟨d, false, true⟩ = s.mayPowerOff d := by
  simp [State.domainPasses, ho, hb]

/-- A command that switches on passes where no block switches the domain. -/
theorem State.domainPasses_on {s : State} {d : Nat} (ho : s.domainOn d = false) (hb : blockSwitched d = false) :
    s.domainPasses ⟨d, true, true⟩ = true := by
  simp [State.domainPasses, ho, hb]

/-- A domain switched is powered as the switch says (Table 23.8). -/
theorem State.domainOn_setDomain (s : State) {d : Nat} (hd : d < 64) (on : Bool) : (s.setDomain d on).domainOn d = on := by
  have hw : d < Fld.PWR_DOM_STATE_ON.width := hd
  rw [State.setDomain, State.domainOn, State.rd_wr_self, bitAt_mod_two_pow hw]
  cases on with
  | true => exact bitAt_setBit_self _ _
  | false => exact bitAt_clrBit_self _ _

/-- Compression clusters, cipher pipelines, hash units, control cores and the loop engine have no state that a switch of their domain
touches (R479, Table 23.1). -/
theorem State.domainEffect_none {d : Nat} (h : 45 ≤ d ∧ d ≤ 52 ∨ 58 ≤ d ∧ d ≤ 61) (s : State) (on : Bool) :
    s.domainEffect d on = s := by
  unfold State.domainEffect
  repeat rw [if_neg (by omega)]

/-- The state once a switch has ended: the domain is powered as asked, and PWR switches none (R481). -/
def State.switched (s : State) (r : DomReq) : State :=
  (State.setDomain { s with pwr := { s.pwr with switching := none } } r.domain r.on).wr Fld.PWR_STATUS_DOM_BUSY 0

/-- A switch that a command asked for is answered. -/
def State.switchAnswered (s : State) (r : DomReq) : State := if r.cmd then (s.switched r).domAnswer STS_OK else s.switched r

theorem State.switchAnswered_pwr (s : State) (r : DomReq) : (s.switchAnswered r).pwr = { s.pwr with switching := none } := by
  unfold State.switchAnswered
  split <;> rfl

/-- A switch that ends with no reset and no request waiting ends with its answer (R481). -/
theorem State.switchEnd_eq {s : State} {r : DomReq} (hs : s.pwr.switching = some r) (hw : s.pwr.rstWaits = false) (hq : s.pwr.queue = [])
    (hd : 45 ≤ r.domain ∧ r.domain ≤ 52 ∨ 58 ≤ r.domain ∧ r.domain ≤ 61) : s.switchEnd = s.switchAnswered r := by
  have hpwr := s.switchAnswered_pwr r
  have heq : s.switchEnd = if (s.switchAnswered r).pwr.rstWaits then (s.switchAnswered r).mainReset 2
      else (s.switchAnswered r).domNext ((s.switchAnswered r).pwr.queue.length + 1) := by
    simp only [State.switchEnd, hs, State.domainEffect_none hd]
    rfl
  rw [heq, if_neg (by simp [hpwr, hw])]
  exact State.domNext_empty (by rw [hpwr]; exact hq) _

/-- What the end of such a switch shows. -/
theorem State.switchAnswered_spec (s : State) {r : DomReq} (hd : r.domain < 64) :
    (s.switchAnswered r).domainOn r.domain = r.on ∧ (s.switchAnswered r).rd Fld.PWR_STATUS_DOM_BUSY = 0 ∧
      (r.cmd = true → (s.switchAnswered r).rd Fld.PWR_DOM_RESULT_STATUS = STS_OK) := by
  have hon : (s.switched r).domainOn r.domain = r.on := by
    rw [State.domainOn, State.switched, State.rd_wr_ne _ _ _ _ _ _ _ _ (by decide)]
    exact State.domainOn_setDomain _ hd _
  have hbusy : (s.switched r).rd Fld.PWR_STATUS_DOM_BUSY = 0 := State.rd_wr_self _ Fld.PWR_STATUS_DOM_BUSY 0 0 0
  unfold State.switchAnswered
  split
  · refine ⟨?_, ?_, fun _ => State.domAnswer_status _ _⟩
    · rw [State.domainOn, State.rd_domAnswer _ _ _ _ (by decide)]
      exact hon
    · rw [State.rd_domAnswer _ _ _ _ (by decide), hbusy]
  · next hc => exact ⟨hon, hbusy, fun h => absurd h hc⟩

/-! ## Regulators -/

/-- A poll that reads core VDD shows it (R483). -/
theorem State.pmbPoll_measures {s : State} (he : s.rdb Fld.PWR_CTRL_ENABLE = true) (answers : List PmbAnswer) (v : Nat) :
    ∃ u : State, s.pmbPoll answers (some v) = u.wr Fld.PWR_VDD_MEAS_MV v := by
  rw [State.pmbPoll, if_neg (by simp [he])]
  exact ⟨_, rfl⟩

/-- An alert with one device in use, which answers without a fault: it has been read, and its misses are forgotten (R483). -/
theorem State.pmbAlert_clean {s : State} {a : PmbAnswer} {w d : Nat} (he : s.rdb Fld.PWR_CTRL_ENABLE = true) (hd : s.pmbDevs = [d])
    (ha : a.dev = d) (hw : a.status = some w) (hf : statusFault w = false) :
    s.pmbAlert [a] = { s.emit (.pmbusRead d) with pwr := { s.pwr with misses := s.pwr.misses.del d } } := by
  have hof : pmbOf [a] d = a := by simp [pmbOf, ha]
  simp only [State.pmbAlert, he, hd, List.foldl_cons, List.foldl_nil, hof, State.pmbStatus, hw, hf]
  rfl

/-! ## Chains -/

@[simp] theorem State.chain_setChain_self (s : State) (c : Nat) (x : Chain) : (s.setChain c x).chain c = x := by
  unfold State.setChain State.chain
  split <;> rfl

@[simp] theorem State.setChain_now (s : State) (c : Nat) (x : Chain) : (s.setChain c x).now = s.now := by
  unfold State.setChain
  split <;> rfl

/-- A chain is part of PWR's state. -/
theorem State.chain_congr {s t : State} (h : t.pwr = s.pwr) (c : Nat) : t.chain c = s.chain c := by
  rw [State.chain, h, State.chain]

/-- So is a chain replaced. -/
theorem State.setChain_pwr_congr {s t : State} (h : t.pwr = s.pwr) (c : Nat) (x : Chain) : (t.setChain c x).pwr = (s.setChain c x).pwr := by
  unfold State.setChain
  split <;> simp only [h]

@[simp] theorem State.record_pwr (s : State) (src code a0 a1 a2 : Nat) (alarm : Bool) : (s.record src code a0 a1 a2 alarm).pwr = s.pwr := by
  rw [State.record, (s.recordAt_frame src code a0 a1 a2 s.ctNs alarm).1]

@[simp] theorem State.advance_pwr (s : State) (t : Nat) : (s.advance t).pwr = s.pwr := by rw [(s.advance_frame t).2.1]

/-- What OWN does about a chain touches no chain (R392). -/
@[simp] theorem State.degrade_pwr (s : State) (pd : Bool) : (s.degrade pd).pwr = s.pwr := by
  unfold State.degrade
  split
  · rfl
  · dsimp only
    split <;> rfl

@[simp] theorem State.askReturn_pwr (s : State) : s.askReturn.pwr = s.pwr := by
  rw [State.askReturn, State.isend_frame]

/-- Power-good low of a chain without a fault is a fault found, to be declared (R483). -/
theorem State.pwrgdLow_chain {s : State} {c : Nat} (hc : c ≤ 1) (hf : (s.chain c).faulted = false) (hd : (s.chain c).due = none) :
    (s.pwrgdLow c).chain c = { s.chain c with pwrgd := false, dirtyAt := s.now, due := some (causePwrgd, 0, 0xFF) } := by
  rw [State.pwrgdLow, if_neg (by omega), State.chainDue]
  simp [hf, hd]

/-- A chain fault that is due is declared, and no more is due (R483, R484). -/
theorem State.chainFault_chain {s : State} {c cause status dev : Nat} (hc : c ≤ 1) (hd : (s.chain c).due = some (cause, status, dev))
    (pd : Bool) :
    (s.chainFault c pd).chain c = { s.chain c with faulted := true, due := none } := by
  have hpwr : (s.chainFault c pd).pwr = (s.setChain c { s.chain c with faulted := true, due := none }).pwr := by
    rw [State.chainFault, if_neg (by omega), hd]
    dsimp only
    rw [State.degrade_pwr, State.record_pwr]
    split <;> simp [State.raise_eq, State.bump_eq, State.chainBits_pwr]
  rw [State.chain_congr hpwr, State.chain_setChain_self]

/-- A chain that has been clean for 1 s, with no fault due and no device silent, is good (R483, R392). -/
theorem State.chainGood_chain {s : State} {c : Nat} (hc : c ≤ 1) (hd : (s.chain c).due = none)
    (hs : s.pmbDevs.any (fun d => s.rd Fld.PWR_PMB_DEV_CHAIN d == c && decide (3 ≤ s.pwr.misses.getD d 0)) = false) :
    (s.chainGood c).chain c = { s.chain c with pwrgd := true, faulted := false } := by
  have hpwr : (s.chainGood c).pwr =
      ((s.advanceUs (s.chain c).dirtyAt 1000000).setChain c { s.chain c with pwrgd := true, faulted := false }).pwr := by
    rw [State.chainGood, if_neg (by omega)]
    dsimp only
    rw [hs, hd, if_neg (by simp)]
    split
    · split <;> simp [State.chainBits_pwr]
    · simp [State.chainBits_pwr]
  rw [State.chain_congr hpwr, State.chain_setChain_self]

/-! ## Core VDD -/

/-- The end of the lease on the way touches its own fields alone (R378). -/
theorem State.rd_advance_apart (s : State) (t : Nat) {f : Field} (h : ∀ g ∈ leaseFields, g.key 0 0 ≠ f.key 0 0) :
    (s.advance t).rd f = s.rd f := by
  have hs : ∀ g ∈ leaseFields, g.stride = 0 ∧ g.stride2 = 0 := by decide
  refine (s.advance_frame t).2.2.rd f 0 0 fun g hg a b _ _ => ?_
  obtain ⟨h1, h2⟩ := hs g hg
  simpa [Field.key, h1, h2] using h g hg

/-- A target below VDD lowers it by one step, never past the target (R485). -/
theorem State.avsWrite_down {s : State} (he : s.rdb Fld.PWR_CTRL_ENABLE = true) (ht : s.vddTarget < s.rd Fld.PWR_VDD_SET_MV) (naks : List Nat) :
    ∃ (u : State) (n : Nat), s.avsWrite naks = (u.wr Fld.PWR_VDD_SET_MV (s.rd Fld.PWR_VDD_SET_MV -
      min (s.rd Fld.PWR_AVS_STEP_MV) (s.rd Fld.PWR_VDD_SET_MV - s.vddTarget))).advance n := by
  have hgo : ¬ (!s.rdb Fld.PWR_CTRL_ENABLE || s.vddTarget == s.rd Fld.PWR_VDD_SET_MV) = true := by simp [he, ht.ne]
  simp only [State.avsWrite, if_neg hgo, if_neg (Nat.not_lt.2 ht.le)]
  exact ⟨_, _, rfl⟩

/-! ## The statement -/

/-- Settles O11. -/
theorem linkEventsPowerDomainsAndRegulators : Obligations.LinkEventsPowerDomainsAndRegulators := by
  unfold Obligations.LinkEventsPowerDomainsAndRegulators
  refine ⟨?perst, ?flr, ?d3hot, ?loss, ?train, ?off, ?offRefused, ?on, ?queued, ?switched, ?poll, ?alert, ?low, ?fault, ?good, ?vdd⟩
  case perst =>
    intro s
    obtain ⟨hfn, hw0, hw1, hpin, hlease⟩ := s.perstAssert_spec
    refine Completes.of_ended (u := s.perstAssert) rfl ⟨?_, ?_, ?_, fun n hn => ?_, ?_⟩
    · exact (Aon.settled_perst _).trans hpin
    · rw [State.rd_settled, hw0]
    · rw [State.rd_settled, hw1]
    · rw [State.fn_aon, hfn n hn]
    · exact (Aon.settled_leaseEnd _).trans hlease
  case flr => exact fun s n hn => Completes.of_effect (u := s.fnReset n) rfl (s.fnReset_spec hn)
  case d3hot => exact fun s n hn => Completes.of_effect (u := s.fnReset n) rfl (s.fnReset_spec hn)
  case loss =>
    exact fun s l => Completes.of_effect (u := s.linkLoss l) rfl fun n hn hl =>
      State.fnStopAll_stopped _ (.inr (List.mem_filter.2 ⟨mem_allFns hn, by simpa using hl⟩))
  case train =>
    intro s l hr hd
    obtain ⟨hp, hw, hs⟩ := State.linkTrain_link0 hr hd l
    exact Completes.of_ended (u := s.linkTrain 0 l) rfl ⟨(Aon.settled_perst _).trans hp, hw, hs⟩
  case off =>
    exact fun s d hq hs ho hb hm => Completes.of_effect rfl (State.domRequest_passes hq hs ((State.domainPasses_off ho hb).trans hm))
  case offRefused =>
    intro s d hq hs ho hb hm
    obtain ⟨hsw, hst, hon, herr⟩ := (s.domQueued ⟨d, false, true⟩).domRefused_spec d
    exact Completes.of_effect (congrArg ended (State.domRequest_refused hq hs ((State.domainPasses_off ho hb).trans hm)))
      ⟨hsw, hst, hon.trans (s.rd_domQueued _ (by decide)), herr⟩
  case on =>
    intro s d hq hs ho hb
    obtain ⟨hsw, hbusy, -⟩ := State.domRequest_passes hq hs (State.domainPasses_on ho hb)
    exact Completes.of_effect rfl ⟨hsw, hbusy⟩
  case queued =>
    intro s r d hroom hs
    have hwait := State.domNext_switching (s := s.domQueued ⟨d, true, true⟩) hs (s.pwr.queue.length + 2)
    exact Completes.of_effect (congrArg ended ((State.domRequest_room hroom d true).trans hwait)) ⟨hs, rfl⟩
  case switched =>
    exact fun s r hs hw hq hd => Completes.of_effect (congrArg ended (State.switchEnd_eq hs hw hq hd))
      ⟨congrArg Pwr.switching (s.switchAnswered_pwr r), s.switchAnswered_spec (by omega)⟩
  case poll =>
    intro s answers v he
    obtain ⟨u, hu⟩ := State.pmbPoll_measures he answers v
    exact Completes.of_effect (congrArg ended hu) (State.rd_wr_self u Fld.PWR_VDD_MEAS_MV v 0 0)
  case alert =>
    exact fun s a w d he hd ha hw hf => Completes.of_effect (congrArg ended (State.pmbAlert_clean he hd ha hw hf)) ⟨rfl, rfl, rfl⟩
  case low =>
    intro s c hc hf hd
    have hchain := State.pwrgdLow_chain hc hf hd
    exact Completes.of_effect (u := s.pwrgdLow c) rfl ⟨congrArg Chain.pwrgd hchain, congrArg Chain.due hchain⟩
  case fault =>
    intro s c cause status dev pd hc hd
    have hchain := State.chainFault_chain hc hd pd
    exact Completes.of_effect (u := s.chainFault c pd) rfl ⟨congrArg Chain.faulted hchain, congrArg Chain.due hchain⟩
  case good =>
    intro s c hc hd hs
    have hchain := State.chainGood_chain hc hd hs
    exact Completes.of_effect (u := s.chainGood c) rfl ⟨congrArg Chain.faulted hchain, congrArg Chain.pwrgd hchain⟩
  case vdd =>
    intro s naks he ht hlt
    obtain ⟨u, n, hu⟩ := State.avsWrite_down he ht naks
    refine Completes.of_effect (congrArg ended hu) ?_
    rw [State.rd_advance_apart _ _ (by decide), State.rd_wr_self]
    exact Nat.mod_eq_of_lt (Nat.lt_of_le_of_lt (Nat.sub_le _ _) hlt)

end Machine

end Sys2Proof
end

section
/-! PROOFS. NET: ports, priority flow control and TCP connections (R107 to R110, R112, R113, Table 05.2). -/

namespace Sys2Proof.Machine

open Sys2Proof

/-! ## Port registers -/

/-- A row of the ports' tables lies below the fields of OWN (R518). -/
theorem port_key_lt {f : Field} {n : Nat} (hn : n < 32) (hf : f.stride = 512 ∧ f.key 0 0 ≤ Fld.NET_ECN_CE_COUNT.key 0 0) :
    f.key n 0 < Fld.OWN_STATUS_LEASE.key 0 0 := by
  have hb : Fld.NET_ECN_CE_COUNT.key 0 0 + 31 * 512 < Fld.OWN_STATUS_LEASE.key 0 0 := by decide
  obtain ⟨hs, hk⟩ := hf
  have hkey := f.key_row n
  rw [hs] at hkey
  omega

@[simp] theorem State.port_setPort_self (s : State) (n : Nat) (p : Port) : (s.setPort n p).port n = p := Assoc.getD_put_self _ _ _ _

/-- The error bit and the port of the last error. -/
theorem State.portError_spec (s : State) {f : Field} (n : Nat) (hf : f.width = 1)
    (hk : f.key 0 0 ≠ Fld.NET_ERR_PORT_PORT.key 0 0) :
    (s.portError f n).rd f = 1 ∧ (s.portError f n).rd Fld.NET_ERR_PORT_PORT = n % 32 := by
  refine ⟨?_, State.rd_wr_self _ _ _ _ _⟩
  rw [State.portError, State.raise_eq, State.rd_wr_ne _ _ _ _ _ _ _ _ hk, State.rd_wr_self, hf]
  rfl

/-- The error bits lie below every port's table (R518). -/
theorem State.rd_portError_row (s : State) {f g : Field} (n i : Nat) (hf : f.key 0 0 < g.key 0 0)
    (hg : Fld.NET_ERR_PORT_PORT.key 0 0 < g.key 0 0) : (s.portError f n).rd g i = s.rd g i := by
  rw [State.portError, State.raise_eq, State.rd_wr_above _ _ _ _ hg, State.rd_wr_above _ _ _ _ hf]

/-! ## Frames -/

/-- The ingress occupancy of a priority is noted, whether or not a pause or a resume leaves with it (R109). -/
theorem State.occupancy_spec (s : State) (n prio bytes : Nat) :
    ((s.occupancy n prio bytes).port n).occ = (s.port n).occ.put prio bytes ∧
      ((s.occupancy n prio bytes).port n).oversize = (s.port n).oversize ∧ (s.occupancy n prio bytes).net.tcp = s.net.tcp := by
  simp only [State.occupancy]
  split
  · simp [State.setPort, State.port]
  · split
    · simp [State.setPort, State.port]
    · split <;> simp [State.setPort, State.port]

/-- What every frame counts: the codewords that FEC could not correct. -/
def State.fecCounted (s : State) (n fec : Nat) : State := s.bump Fld.NET_PORT_STATUS_FEC_UNCORR fec n

theorem State.mtu_fecCounted (s : State) (n fec : Nat) : (s.fecCounted n fec).rd Fld.NET_PORT_CFG_MTU n = s.rd Fld.NET_PORT_CFG_MTU n :=
  State.rd_wr_row _ _ _ rfl (by decide)

/-- A frame within the MTU leaves an occupancy; a CE mark counts (R108, R109, R112). -/
theorem State.frameReceive_fits {s : State} {n bytes prio : Nat} (hon : s.portOn n = true) (hp : s.admittedPend Blk.NET = false)
    (hprio : prio < 8) (hb : bytes ≤ s.rd Fld.NET_PORT_CFG_MTU n) (occ fec : Nat) (ce : Bool) :
    s.frameReceive n bytes prio occ ce fec =
      (if ce then (s.fecCounted n fec).bump Fld.NET_ECN_CE_COUNT 1 n else s.fecCounted n fec).occupancy n prio occ := by
  have hmtu := (s.mtu_fecCounted n fec).symm ▸ hb
  simp only [State.frameReceive, hon, State.boundary_eq hp, Bool.not_true, Bool.false_eq_true, if_false, if_pos hprio]
  exact if_neg (Nat.not_lt.2 hmtu)

/-- A frame above the MTU is discarded and counted (R108). -/
theorem State.frameReceive_oversize {s : State} {n bytes : Nat} (hon : s.portOn n = true) (hp : s.admittedPend Blk.NET = false)
    (hb : s.rd Fld.NET_PORT_CFG_MTU n < bytes) (prio occ fec : Nat) (ce : Bool) :
    s.frameReceive n bytes prio occ ce fec =
      ((s.fecCounted n fec).setPort n { s.port n with oversize := (s.port n).oversize + 1 }).portError Fld.NET_ERR_OVERSIZE n := by
  have hmtu := (s.mtu_fecCounted n fec).symm ▸ hb
  simp only [State.frameReceive, hon, State.boundary_eq hp, Bool.not_true, Bool.false_eq_true, if_false]
  exact if_pos hmtu

theorem State.frameReceive_fits_spec {s : State} {n bytes prio : Nat} (hon : s.portOn n = true) (hp : s.admittedPend Blk.NET = false)
    (hprio : prio < 8) (hb : bytes ≤ s.rd Fld.NET_PORT_CFG_MTU n) (occ fec : Nat) (ce : Bool) :
    ((s.frameReceive n bytes prio occ ce fec).port n).occ.look prio = some occ ∧
      ((s.frameReceive n bytes prio occ ce fec).port n).oversize = (s.port n).oversize ∧
      (s.frameReceive n bytes prio occ ce fec).net.tcp = s.net.tcp := by
  rw [State.frameReceive_fits hon hp hprio hb]
  generalize hu : (if ce then (s.fecCounted n fec).bump Fld.NET_ECN_CE_COUNT 1 n else s.fecCounted n fec) = u
  have hnet : u.net = s.net := by subst hu; cases ce <;> rfl
  obtain ⟨hocc, hover, htcp⟩ := u.occupancy_spec n prio occ
  rw [hocc, hover, htcp, State.port, hnet]
  exact ⟨Assoc.look_put_self _ _ _, rfl, rfl⟩

theorem State.frameReceive_oversize_spec {s : State} {n bytes : Nat} (hon : s.portOn n = true) (hp : s.admittedPend Blk.NET = false)
    (hb : s.rd Fld.NET_PORT_CFG_MTU n < bytes) (prio occ fec : Nat) (ce : Bool) :
    (s.frameReceive n bytes prio occ ce fec).port n = { s.port n with oversize := (s.port n).oversize + 1 } ∧
      (s.frameReceive n bytes prio occ ce fec).rd Fld.NET_ERR_OVERSIZE = 1 := by
  rw [State.frameReceive_oversize hon hp hb]
  exact ⟨State.port_setPort_self _ _ _, (State.portError_spec _ n rfl (by decide)).1⟩

/-! ## Pauses -/

/-- The link partner pauses a priority that was not paused (R109). -/
theorem State.pfcReceive_pauses {s : State} {n prio : Nat} (hon : s.portOn n = true) (hen : bitAt (s.rd Fld.NET_PFC_EN_MASK n) prio = true)
    (hprio : prio < 8) (hnew : bitAt (s.rd Fld.NET_PORT_STATUS_PAUSED n) prio = false) :
    s.pfcReceive n prio true = (s.wr Fld.NET_PORT_STATUS_PAUSED (setBit (s.rd Fld.NET_PORT_STATUS_PAUSED n) prio) n).setPort n
      { s.port n with pausedSince := (s.port n).pausedSince.put prio s.now } := by
  simp [State.pfcReceive, hon, hen, hprio, hnew]

/-- The link partner resumes a priority (R109). -/
theorem State.pfcReceive_resumes {s : State} {n prio : Nat} (hon : s.portOn n = true) (hen : bitAt (s.rd Fld.NET_PFC_EN_MASK n) prio = true)
    (hprio : prio < 8) :
    s.pfcReceive n prio false = (s.wr Fld.NET_PORT_STATUS_PAUSED (clrBit (s.rd Fld.NET_PORT_STATUS_PAUSED n) prio) n).setPort n
      { s.port n with pausedSince := (s.port n).pausedSince.del prio } := by
  simp [State.pfcReceive, hon, hen, hprio]

/-! ## The watchdog of a pause -/

/-- What the watchdog does once its time has come: its count for this pause ends, and the storm is reported (R110). -/
def State.pfcStorm (s : State) (n prio : Nat) : State :=
  ((s.setPort n { s.port n with pausedSince := (s.port n).pausedSince.del prio }).portError Fld.NET_ERR_PFC_STORM n).record
    Blk.NET 0x1001 n prio

theorem State.pfcWatchdog_off {s : State} {n : Nat} (h : s.rd Fld.NET_PFC_WDOG_US n = 0) (prio : Nat) : s.pfcWatchdog n prio = s := by
  simp only [State.pfcWatchdog, if_pos h]
  split <;> rfl

theorem State.pfcWatchdog_fires {s : State} {n prio t₀ : Nat} (hp : (s.port n).pausedSince.look prio = some t₀)
    (hw : s.rd Fld.NET_PFC_WDOG_US n ≠ 0) :
    s.pfcWatchdog n prio = (s.advanceUs t₀ (s.rd Fld.NET_PFC_WDOG_US n)).pfcStorm n prio := by
  simp only [State.pfcWatchdog, hp, if_neg hw]
  rfl

@[simp] theorem State.advance_net (s : State) (t : Nat) : (s.advance t).net = s.net := by rw [(s.advance_frame t).2.1]
@[simp] theorem State.record_net (s : State) (src code a0 a1 a2 : Nat) (alarm : Bool) : (s.record src code a0 a1 a2 alarm).net = s.net := by
  rw [State.record, (s.recordAt_frame src code a0 a1 a2 s.ctNs alarm).1]
@[simp] theorem State.record_now (s : State) (src code a0 a1 a2 : Nat) (alarm : Bool) : (s.record src code a0 a1 a2 alarm).now = s.now := by
  rw [State.record, (s.recordAt_frame src code a0 a1 a2 s.ctNs alarm).1]

/-- A storm is reported, and touches nothing of the port but the watchdog's count: the priority stays paused (R110). -/
theorem State.pfcStorm_spec (s : State) {n : Nat} (hn : n < 32) (prio : Nat) :
    (s.pfcStorm n prio).rd Fld.NET_ERR_PFC_STORM = 1 ∧ (s.pfcStorm n prio).rd Fld.NET_ERR_PORT_PORT = n ∧
      (s.pfcStorm n prio).rd Fld.NET_PORT_STATUS_PAUSED n = s.rd Fld.NET_PORT_STATUS_PAUSED n ∧
      (s.pfcStorm n prio).now = s.now ∧ (s.pfcStorm n prio).net.tcp = s.net.tcp ∧
      (s.pfcStorm n prio).port n = { s.port n with pausedSince := (s.port n).pausedSince.del prio } := by
  obtain ⟨hstorm, hport⟩ := (s.setPort n { s.port n with pausedSince := (s.port n).pausedSince.del prio }).portError_spec
    (f := Fld.NET_ERR_PFC_STORM) n rfl (by decide)
  refine ⟨?_, ?_, ?_, State.record_now _ _ _ _ _ _ _, ?_, ?_⟩
  · rw [State.pfcStorm, State.rd_record _ _ _ _ _ _ _ _ _ _ (by decide), hstorm]
  · rw [State.pfcStorm, State.rd_record _ _ _ _ _ _ _ _ _ _ (by decide), hport, Nat.mod_eq_of_lt hn]
  · rw [State.pfcStorm, State.rd_record _ _ _ _ _ _ _ _ _ _ (port_key_lt hn (by decide)),
      State.rd_portError_row _ _ _ (by decide) (by decide)]
    rfl
  · rw [State.pfcStorm, State.record_net]
    rfl
  · rw [State.pfcStorm, State.port, State.record_net]
    exact State.port_setPort_self _ _ _

/-- The watchdog of a paused priority runs out, whether or not the lease ends on the way (R110, R378). -/
theorem State.pfcWatchdog_spec {s : State} {n prio t₀ : Nat} (hn : n < 32) (hp : (s.port n).pausedSince.look prio = some t₀)
    (hw : s.rd Fld.NET_PFC_WDOG_US n ≠ 0) :
    (s.pfcWatchdog n prio).rd Fld.NET_ERR_PFC_STORM = 1 ∧ (s.pfcWatchdog n prio).rd Fld.NET_ERR_PORT_PORT = n ∧
      (s.pfcWatchdog n prio).rd Fld.NET_PORT_STATUS_PAUSED n = s.rd Fld.NET_PORT_STATUS_PAUSED n ∧
      (s.pfcWatchdog n prio).now = max s.now (t₀ + s.rd Fld.NET_PFC_WDOG_US n * unitsPerUs) ∧
      (s.pfcWatchdog n prio).net.tcp = s.net.tcp ∧
      (s.pfcWatchdog n prio).port n = { s.port n with pausedSince := (s.port n).pausedSince.del prio } := by
  rw [State.pfcWatchdog_fires hp hw]
  obtain ⟨hstorm, hport, hpaused, hnow, htcp, hp'⟩ := (s.advanceUs t₀ (s.rd Fld.NET_PFC_WDOG_US n)).pfcStorm_spec hn prio
  refine ⟨hstorm, hport, hpaused.trans (State.rd_advance _ _ _ _ _ (port_key_lt hn (by decide))), hnow.trans (State.advance_now _ _), ?_, ?_⟩
  · rw [htcp, State.advanceUs, State.advance_net]
  · rw [hp', State.port, State.advanceUs, State.advance_net]
    rfl

/-! ## The record of a storm -/

theorem State.gbkStage_room {s : State} (h : s.gbk.staging.length < 4096) (r : GbkRec) :
    (s.gbkStage r).gbk = { s.gbk with staging := s.gbk.staging ++ [{ r with seq := s.gbk.nextSeq, lost := min s.gbk.drops 0xFFFF }]
                                      nextSeq := s.gbk.nextSeq + 1, drops := 0 } := by
  rw [State.gbkStage, if_pos h]

/-- Staging takes at most one record more, and its next number never falls (R457). -/
theorem State.gbkStage_grows (s : State) (r : GbkRec) :
    (s.gbkStage r).gbk.staging.length ≤ s.gbk.staging.length + 1 ∧ s.gbk.nextSeq ≤ (s.gbkStage r).gbk.nextSeq := by
  unfold State.gbkStage
  split
  · simp
  · simp [State.bump, State.raise]

/-- A record written while there is room is staged under the next number (R457). -/
theorem State.record_staged {s : State} (h : s.gbk.staging.length < 4096) (src code a0 a1 a2 : Nat) :
    ∃ r ∈ (s.record src code a0 a1 a2).gbk.staging, r.source = src ∧ r.seq = s.gbk.nextSeq ∧ r.arg0 = a0 ∧ r.arg1 = a1 := by
  rw [State.record, State.recordAt, if_neg (by decide), State.gbkStage_room h]
  exact ⟨_, List.mem_append_right _ List.mem_cons_self, rfl, rfl, rfl, rfl⟩

/-- While local time passes, at most the record of the lease's end is staged (R378). -/
theorem State.advance_staging (s : State) (t : Nat) :
    (s.advance t).gbk.staging.length ≤ s.gbk.staging.length + 1 ∧ s.gbk.nextSeq ≤ (s.advance t).gbk.nextSeq := by
  have hzero : ∀ u : State, u.gbk = s.gbk →
      u.leaseZero.gbk.staging.length ≤ s.gbk.staging.length + 1 ∧ s.gbk.nextSeq ≤ u.leaseZero.gbk.nextSeq := by
    intro u hu
    simp only [State.leaseZero, State.record, State.recordAt]
    rw [← hu]
    split <;> exact State.gbkStage_grows _ _
  have hsame : s.gbk.staging.length ≤ s.gbk.staging.length + 1 ∧ s.gbk.nextSeq ≤ s.gbk.nextSeq := ⟨Nat.le_succ _, Nat.le_refl _⟩
  unfold State.advance
  split
  · split
    · exact hzero _ rfl
    · exact hsame
  · exact hsame

/-- The storm's record is staged, after the one of the lease's end if that comes first (R110, R457). -/
theorem State.pfcWatchdog_record {s : State} {n prio t₀ : Nat} (hp : (s.port n).pausedSince.look prio = some t₀)
    (hw : s.rd Fld.NET_PFC_WDOG_US n ≠ 0) (hroom : s.gbk.staging.length < 4095) :
    ∃ r ∈ (s.pfcWatchdog n prio).gbk.staging, r.source = Blk.NET ∧ s.gbk.nextSeq ≤ r.seq ∧ r.arg0 = n ∧ r.arg1 = prio := by
  rw [State.pfcWatchdog_fires hp hw]
  obtain ⟨hlen, hseq⟩ := s.advance_staging (t₀ + s.rd Fld.NET_PFC_WDOG_US n * unitsPerUs)
  generalize hu : s.advanceUs t₀ (s.rd Fld.NET_PFC_WDOG_US n) = u
  rw [← State.advanceUs, hu] at hlen hseq
  obtain ⟨r, hr, hsrc, hnum, h0, h1⟩ := State.record_staged
    (s := (u.setPort n { u.port n with pausedSince := (u.port n).pausedSince.del prio }).portError Fld.NET_ERR_PFC_STORM n)
    (show u.gbk.staging.length < 4096 by omega) Blk.NET 0x1001 n prio 0
  exact ⟨r, hr, hsrc, hseq.trans_eq hnum.symm, h0, h1⟩

/-- Settles O54: a storm is reported and recorded, the priority stays paused, and a watchdog of 0 does nothing. -/
theorem pauseWatchdogFollowsR110 : Obligations.PauseWatchdogFollowsR110 := by
  unfold Obligations.PauseWatchdogFollowsR110
  refine ⟨?storm, ?off⟩
  case storm =>
    intro s n prio t₀ hn hp hw hroom
    obtain ⟨hstorm, -, hpaused, hnow, htcp, hport⟩ := State.pfcWatchdog_spec hn hp hw
    exact Completes.of_effect (u := s.pfcWatchdog n prio) rfl
      ⟨hnow, hstorm, hpaused, hport ▸ rfl, htcp, State.pfcWatchdog_record hp hw hroom⟩
  case off =>
    intro s n prio hw
    exact ⟨_, congrArg ended (State.pfcWatchdog_off hw prio), rfl⟩

/-! ## Links of the ports -/

/-- A port's link comes up (R107). -/
theorem State.portLink_up {s : State} {n : Nat} (hon : s.portOn n = true) :
    (s.portLink n true).rd Fld.NET_PORT_STATUS_UP n = 1 ∧
      (s.portLink n true).rd Fld.NET_STATUS_PORT_UP = setBit (s.rd Fld.NET_STATUS_PORT_UP) n % 2 ^ 32 ∧ (s.portLink n true).net = s.net := by
  have heq : s.portLink n true = ((s.wr Fld.NET_STATUS_PORT_UP (setBit (s.rd Fld.NET_STATUS_PORT_UP) n)).wr Fld.NET_PORT_STATUS_UP 1 n).wrb
      Fld.NET_PORT_STATUS_AN_DONE (s.rdb Fld.NET_PORT_CFG_AN n) n := by simp [State.portLink, hon]
  rw [heq, State.wrb_eq]
  refine ⟨?_, ?_, rfl⟩
  · rw [State.rd_wr_row _ _ _ (by rfl) (by decide), State.rd_wr_self]
    rfl
  · rw [State.rd_wr_under _ _ _ (by decide), State.rd_wr_under _ _ _ (by decide), State.rd_wr_self]
    rfl

/-- A port's link goes down: its pauses and its occupancy go with it (R107). -/
theorem State.portLink_down {s : State} {n : Nat} (hup : bitAt (s.rd Fld.NET_STATUS_PORT_UP) n = true) :
    (s.portLink n false).rd Fld.NET_PORT_STATUS_UP n = 0 ∧ (s.portLink n false).rd Fld.NET_PORT_STATUS_PAUSED n = 0 ∧
      (s.portLink n false).rd Fld.NET_ERR_LINK_DOWN = 1 ∧ ((s.portLink n false).port n).occ = [] ∧
      (s.portLink n false).net.tcp = s.net.tcp := by
  simp only [State.portLink, hup, Bool.not_true, Bool.false_eq_true, if_false]
  refine ⟨?_, ?_, (State.portError_spec _ n rfl (by decide)).1, ?_, rfl⟩
  · rw [State.rd_portError_row _ _ _ (by decide) (by decide)]
    refine (State.rd_wr_row _ (f := Fld.NET_PORT_STATUS_PAUSED) (g := Fld.NET_PORT_STATUS_UP) 0 n rfl (by decide)).trans ?_
    rw [State.rd_wr_row _ _ _ (by rfl) (by decide), State.rd_wr_self]
    rfl
  · rw [State.rd_portError_row _ _ _ (by decide) (by decide)]
    exact State.rd_wr_self _ Fld.NET_PORT_STATUS_PAUSED 0 n 0
  · exact congrArg Port.occ (State.port_setPort_self _ n _)

/-! ## TCP connections -/

@[simp] theorem State.tcp_setTcp_self (s : State) (c : Nat) (x : Tcp) : (s.setTcp c x).net.tcp.look c = some x := Assoc.look_put_self _ _ _

/-- A SYN to a listener opens a connection under the next free handle while there is room (R113, Table 05.2). -/
theorem State.tcpSyn_opens {s : State} {l : Nat} (hl : s.listens l = true) (hroom : s.net.tcp.length < s.rd Fld.NET_TCP_CFG_MAX_CONN)
    (isn ws mss : Nat) (e k o : Bool) :
    .tcpSynAck s.net.tcp.fresh ∈ (s.tcpSyn l isn e k o ws mss).out ∧
      ∃ x, (s.tcpSyn l isn e k o ws mss).net.tcp.look s.net.tcp.fresh = some x ∧ x.st = .synReceived ∧ x.listener = l ∧
        x.rcvNxt = (isn + 1) % 2 ^ 32 ∧ x.wscale = min ws 14 := by
  simp only [State.tcpSyn, hl, Bool.not_true, Bool.false_eq_true, if_false, if_neg (Nat.not_le.2 hroom)]
  exact ⟨List.mem_cons_self, _, Assoc.look_put_self _ _ _, rfl, rfl, rfl, rfl⟩

/-- Data in order advances RCV.NXT and is acknowledged, with the ECN echo where it is in use (R112, R113). -/
theorem State.tcpSegment_data {s : State} {c seq len : Nat} {x : Tcp} (hx : s.net.tcp.look c = some x) (hlen : 1 ≤ len)
    (hseq : seq % 2 ^ 32 = x.rcvNxt) (hst : x.st ≠ .closing) (ce : Bool) :
    s.tcpSegment c ⟨seq, len, none, false, false, ce⟩ =
      (s.setTcp c { x with rcvNxt := (x.rcvNxt + len) % 2 ^ 32, ece := x.ecn && ce }).emit
        (.tcpAck c ((x.rcvNxt + len) % 2 ^ 32) (x.ecn && ce)) := by
  have hlen' : len ≠ 0 := Nat.ne_of_gt hlen
  simp only [State.tcpSegment, hx, hst, hlen', hseq, Bool.false_eq_true, if_false, false_and, bne_self_eq_false]
  rfl

/-- A new acknowledgement that comes alone ends the handshake (R113). -/
theorem State.tcpSegment_establishes {s : State} {c a : Nat} {x : Tcp} {g : TcpSeg} (hx : s.net.tcp.look c = some x)
    (hst : x.st = .synReceived) (ha : x.ackNew a = true) (hack : g.ack = some a) (hlen : g.len = 0) (hrst : g.rst = false)
    (hfin : g.fin = false) (hce : g.ce = false) :
    s.tcpSegment c g = s.setTcp c { x with st := .established, sndUna := a % 2 ^ 32, retx := 0, ece := false } := by
  have hopen : TcpSt.established ≠ .closing := by decide
  simp only [State.tcpSegment, hx, hrst, hack, hlen, hfin, hce, ha, hst, hopen, Bool.false_eq_true, if_false, if_true, false_and,
    Bool.not_false, and_self, Bool.and_false, Option.getD_some]

/-- The oldest segment that is not acknowledged is resent (Table 05.2). -/
theorem State.tcpRto_resends {s : State} {c : Nat} {x : Tcp} (hx : s.net.tcp.look c = some x) (hopen : x.sndUna ≠ x.sndNxt)
    (hretx : x.retx < 8) : s.tcpRto c = (s.setTcp c { x with retx := x.retx + 1 }).emit (.tcpResend c x.sndUna) := by
  simp only [State.tcpRto, hx, if_neg hopen, if_neg (Nat.not_le.2 hretx)]

/-- Settles O26: each command takes one branch of its effect, and the always-on logic at its end touches none of it. -/
theorem portsAndTcpConnectionsRun : Obligations.PortsAndTcpConnectionsRun := by
  unfold Obligations.PortsAndTcpConnectionsRun
  refine ⟨?fits, ?oversize, ?pause, ?resume, ?storm, ?up, ?down, ?syn, ?data, ?ack, ?resend⟩
  case fits =>
    exact fun s n bytes prio occ fec ce hon hp hprio hb => Completes.of_effect rfl (State.frameReceive_fits_spec hon hp hprio hb occ fec ce)
  case oversize =>
    intro s n bytes prio occ ce hon hp hb
    obtain ⟨hport, herr⟩ := State.frameReceive_oversize_spec hon hp hb prio occ 0 ce
    exact Completes.of_effect rfl ⟨hport ▸ rfl, hport ▸ rfl, herr⟩
  case pause =>
    intro s n prio hon hen hprio hnew
    refine Completes.of_effect (congrArg ended (State.pfcReceive_pauses hon hen hprio hnew)) ⟨?_, State.rd_wr_self _ _ _ _ _⟩
    rw [State.port_setPort_self]
    exact Assoc.look_put_self _ _ _
  case resume =>
    intro s n prio hon hen hprio
    refine Completes.of_effect (congrArg ended (State.pfcReceive_resumes hon hen hprio)) ⟨?_, State.rd_wr_self _ _ _ _ _⟩
    rw [State.port_setPort_self]
  case storm =>
    intro s n prio t₀ hn hp hw _
    obtain ⟨hstorm, hport, -, hnow, htcp, hp'⟩ := State.pfcWatchdog_spec hn hp hw
    exact Completes.of_effect (u := s.pfcWatchdog n prio) rfl ⟨hstorm, hport, hnow, htcp, congrArg Port.pausedSince hp'⟩
  case up => exact fun s n hon => Completes.of_effect rfl (State.portLink_up hon)
  case down => exact fun s n _ hup => Completes.of_effect rfl (State.portLink_down hup)
  case syn => exact fun s l isn ws mss e k o hl hroom => Completes.of_effect rfl (State.tcpSyn_opens hl hroom isn ws mss e k o)
  case data =>
    intro s c seq len ce x hx hlen hseq hst
    exact Completes.of_effect (congrArg ended (State.tcpSegment_data hx hlen hseq hst ce))
      ⟨rfl, List.mem_cons_self, State.tcp_setTcp_self _ _ _⟩
  case ack =>
    intro s c seq a x hx hst ha
    exact Completes.of_effect (congrArg ended (State.tcpSegment_establishes hx hst ha rfl rfl rfl rfl rfl)) ⟨rfl, State.tcp_setTcp_self _ _ _⟩
  case resend =>
    intro s c x hx hopen hretx
    exact Completes.of_effect (congrArg ended (State.tcpRto_resends hx hopen hretx))
      ⟨State.tcp_setTcp_self _ _ _, List.mem_cons_self, rfl⟩

end Sys2Proof.Machine
end

section
/-! PROOFS. NVF: the associations of the fabric target and their admin commands (R114 to R117, R123 to R125, R128, Table 05.3). -/

namespace Sys2Proof.Machine

open Sys2Proof

/-! ## Completions -/

/-- A completion sent is the last thing to leave, and moves at most a queue pair beside (R130, R139). -/
theorem State.nvmeCpl_frame (s : State) (q cid status dw0 : Nat) :
    s.nvmeCpl q cid status dw0 =
      { s with rdm := (s.nvmeCpl q cid status dw0).rdm
               out := .nvmeCpl q cid status (nvmeStatus status).1 (nvmeStatus status).2.1 dw0 (nvmeStatus status).2.2 :: s.out } :=
  State.queueSend_frame _ _ _

@[simp] theorem State.nvmeCpl_nvf (s : State) (q cid status dw0 : Nat) : (s.nvmeCpl q cid status dw0).nvf = s.nvf := by
  rw [State.nvmeCpl_frame]
@[simp] theorem State.nvmeCpl_regs (s : State) (q cid status dw0 : Nat) : (s.nvmeCpl q cid status dw0).regs = s.regs := by
  rw [State.nvmeCpl_frame]
theorem State.nvmeCpl_out (s : State) (q cid status dw0 : Nat) : (s.nvmeCpl q cid status dw0).out =
    .nvmeCpl q cid status (nvmeStatus status).1 (nvmeStatus status).2.1 dw0 (nvmeStatus status).2.2 :: s.out := by
  rw [State.nvmeCpl_frame]

/-- What has left before a completion stays beside it. -/
theorem State.nvmeCpl_ends {s t : State} {l : List Out} (h : t.out = l ++ s.out) (q cid status dw0 : Nat) :
    s.NvmeEnds (t.nvmeCpl q cid status dw0) q cid status :=
  ⟨dw0, l, by rw [State.nvmeCpl_out, h]⟩

/-! ## Tables of the target -/

@[simp] theorem State.assoc_setAssoc_self (s : State) (a : Nat) (y : NvAssoc) : (s.setAssoc a y).assoc a = some y := Assoc.look_put_self _ _ _
@[simp] theorem State.setAssoc_hosts (s : State) (a : Nat) (y : NvAssoc) : (s.setAssoc a y).nvf.hosts = s.nvf.hosts := rfl
@[simp] theorem State.queue_setQueue_self (s : State) (q : Nat) (x : NvQueue) : (s.setQueue q x).queue q = some x := Assoc.look_put_self _ _ _
theorem State.assoc_congr {s t : State} (h : t.nvf = s.nvf) (a : Nat) : t.assoc a = s.assoc a := by rw [State.assoc, h, State.assoc]
theorem State.queue_congr {s t : State} (h : t.nvf = s.nvf) (q : Nat) : t.queue q = s.queue q := by rw [State.queue, h, State.queue]

/-! ## Connect -/

/-- A Connect that finds room makes an association and its admin queue (R114, R116). -/
theorem State.connect_admin {s : State} {tr : QTrans} {size : Nat} (hp : s.admittedPend Blk.NVF = false)
    (he : s.rdb Fld.NVF_CTRL_ENABLE = true) (ht : s.transFree tr = true) (hs : s.queueSizeOk size = true)
    (hroom : s.nvf.assocs.length < s.rd Fld.NVF_LIMITS_MAX_ASSOC) (host tenant kato cid : Nat) :
    s.connect tr none host tenant size kato cid =
      ((s.setAssoc s.nvf.assocs.fresh { host := host, tenant := tenant, adminQ := s.nvf.queues.fresh, kato := kato, kaEnd := s.kaFrom kato,
                                        aers := [], cc := 0, features := [], anaNotice := false }).addQueue s.nvf.assocs.fresh 0 tr size).nvmeCpl
        s.nvf.queues.fresh cid STS_OK 0 := by
  simp only [State.connect, State.boundary_eq hp, he, ht, hs, Bool.not_true, Bool.or_self, Bool.false_eq_true, if_false,
    if_neg (Nat.not_le.2 hroom)]

/-- The I/O queues of an association. -/
def State.ioQueues (s : State) (a : Nat) : Nat := (s.nvf.queues.filter (fun e => e.2.assoc == a && e.2.qid != 0)).length

/-- A Connect to an association that finds room makes a further I/O queue (R116, R160). -/
theorem State.connect_io {s : State} {tr : QTrans} {a size : Nat} {y : NvAssoc} (hp : s.admittedPend Blk.NVF = false)
    (he : s.rdb Fld.NVF_CTRL_ENABLE = true) (ht : s.transFree tr = true) (hs : s.queueSizeOk size = true) (hy : s.assoc a = some y)
    (hroom : s.ioQueues a < s.rd Fld.NVF_LIMITS_MAX_IOQ) (host tenant kato cid : Nat) :
    s.connect tr (some a) host tenant size kato cid =
      ((s.addQueue a (s.ioQueues a + 1) tr size).polBind y.tenant (polNvme s.nvf.queues.fresh)).nvmeCpl s.nvf.queues.fresh cid STS_OK 0 := by
  simp only [State.connect, State.boundary_eq hp, he, ht, hs, hy, Bool.not_true, Bool.or_self, Bool.false_eq_true, if_false]
  exact if_neg (Nat.not_le.2 hroom)

/-! ## The end of queues and associations -/

/-- A queue that ends takes its transfers, their writes and its binding with it, and nothing else (R23, R117). -/
theorem State.queueEnd_frame (s : State) (q : Nat) :
    s.queueEnd q = { s with ops := (s.queueEnd q).ops, pol := (s.queueEnd q).pol
                            nvf := { s.nvf with queues := s.nvf.queues.del q, xfers := s.nvf.xfers.keep (fun _ t => t.queue != q) } } := by
  have hdrop : ∀ (l : List Nat) (u : State), ∃ o, l.foldl State.dropOp u = { u with ops := o } := by
    intro l
    induction l with
    | nil => exact fun u => ⟨_, rfl⟩
    | cons o l ih => exact fun u => ih (u.dropOp o)
  obtain ⟨o, ho⟩ := hdrop ((s.nvf.xfers.filter (fun e => e.2.queue == q)).map (fun e => e.2.op)) s
  simp only [State.queueEnd, ho]
  rfl

/-- An association that ends takes its queues with it, and touches only what they hold (R117). -/
theorem State.assocEnd_spec (s : State) (a : Nat) :
    (s.assocEnd a).assoc a = none ∧ (s.assocEnd a).regs = s.regs ∧ (s.assocEnd a).now = s.now := by
  refine ⟨Assoc.look_del_self _ _, ?_, ?_⟩
  · exact foldl_keeps _ State.regs (fun u q => by rw [u.queueEnd_frame q]) _ s
  · exact foldl_keeps _ State.now (fun u q => by rw [u.queueEnd_frame q]) _ s

/-- Disconnect of an I/O queue ends the queue (R117). -/
theorem State.disconnect_io {s : State} {q : Nat} {x : NvQueue} (hx : s.queue q = some x) (hio : x.qid ≠ 0) (cid : Nat) :
    s.disconnect q cid = (s.nvmeCpl q cid STS_OK 0).queueEnd q := by
  simp only [State.disconnect, State.queueLost, hx, State.queue_congr (s.nvmeCpl_nvf q cid STS_OK 0), Option.isSome_some, if_true, if_neg hio]

/-- Disconnect of the admin queue ends the association (R117). -/
theorem State.disconnect_admin {s : State} {q : Nat} {x : NvQueue} (hx : s.queue q = some x) (hadm : x.qid = 0) (cid : Nat) :
    s.disconnect q cid = (s.nvmeCpl q cid STS_OK 0).assocEnd x.assoc := by
  simp only [State.disconnect, State.queueLost, hx, State.queue_congr (s.nvmeCpl_nvf q cid STS_OK 0), Option.isSome_some, if_true, if_pos hadm]

/-- The keep-alive period of an association ends, and the association with it (R117). -/
theorem State.katoExpiry_spec {s : State} {a t₀ : Nat} {y : NvAssoc} (hy : s.assoc a = some y) (hk : y.kaEnd = some t₀) :
    (s.katoExpiry a).assoc a = none ∧ (s.katoExpiry a).rd Fld.NVF_ERR_KATO_EXPIRED = 1 ∧ (s.katoExpiry a).now = max s.now t₀ := by
  simp only [State.katoExpiry, hy, hk]
  obtain ⟨hgone, hregs, hnow⟩ := ((s.advance t₀).raise Fld.NVF_ERR_KATO_EXPIRED).assocEnd_spec a
  refine ⟨hgone, ?_, hnow.trans (State.advance_now _ _)⟩
  rw [State.rd_congr hregs, State.raise_eq, State.rd_wr_self]
  rfl

/-! ## Admin commands -/

/-- A command that reaches the association of its admin queue runs (R115, R133). -/
theorem State.adminCmd_eq {s : State} {q a : Nat} {x : NvQueue} {y : NvAssoc} (h : s.AdminQ q a x y) (cid : Nat)
    (run : State → Nat → NvAssoc → State) : s.adminCmd q cid run = run s a y := by
  obtain ⟨hq, hadm, rfl, hy, hp⟩ := h
  simp only [State.adminCmd, hq, State.boundary_eq hp, hy, if_pos hadm]

section
variable {s : State} {q a : Nat} {x : NvQueue} {y : NvAssoc}

theorem State.propertyGet_eq (h : s.AdminQ q a x y) (cid off : Nat) :
    s.propertyGet q cid off = (s.emit (.nvmeData q cid [s.property y off])).nvmeCpl q cid STS_OK (s.property y off % 2 ^ 32) :=
  State.adminCmd_eq h _ _

/-- Controller Configuration is set (Table 05.3). -/
theorem State.propertySet_cc (h : s.AdminQ q a x y) (cid v : Nat) :
    s.propertySet q cid 0x14 v = (s.setAssoc a { y with cc := v % 2 ^ 32 }).nvmeCpl q cid STS_OK 0 :=
  State.adminCmd_eq h _ _

theorem State.identify_eq (h : s.AdminQ q a x y) (cid cns nsid : Nat) :
    s.identify q cid cns nsid = (s.emit (.nvmeData q cid [s.identifyData cns nsid])).nvmeCpl q cid STS_OK 0 :=
  State.adminCmd_eq h _ _

/-- Log page 0Ch shows the ANA states (R125). -/
theorem State.getLogPage_ana (h : s.AdminQ q a x y) (cid nsid : Nat) (rae : Bool) :
    s.getLogPage q cid 0x0C nsid rae = (s.emit (.nvmeData q cid [s.anaPage])).nvmeCpl q cid STS_OK 0 :=
  State.adminCmd_eq h _ _

/-- Log page C0h shows the deferred errors of the host; reading it may allow the next event, and takes no error away (R123, R124). -/
theorem State.getLogPage_deferred (h : s.AdminQ q a x y) (cid nsid : Nat) (rae : Bool) :
    ∃ hosts, s.getLogPage q cid 0xC0 nsid rae =
      (State.emit { s with nvf := { s.nvf with hosts := hosts } }
        (.nvmeData q cid [deferredPage nsid (s.deferredOf (.nqn y.host) nsid)])).nvmeCpl q cid STS_OK 0 := by
  rw [State.getLogPage, State.adminCmd_eq h]
  cases rae
  · exact ⟨_, rfl⟩
  · exact ⟨s.nvf.hosts, rfl⟩

/-- A feature other than the Keep Alive Timer is kept as set (Table 05.3). -/
theorem State.setFeatures_kept {fid : Nat} (h : s.AdminQ q a x y) (hf : fid ≠ 0x0F) (cid v : Nat) :
    ∃ dw0, s.setFeatures q cid fid v = (s.setAssoc a { y with features := y.features.put fid v }).nvmeCpl q cid STS_OK dw0 := by
  rw [State.setFeatures, State.adminCmd_eq h]
  simp only [if_neg hf]
  exact ⟨_, rfl⟩

/-- A feature other than those of the Keep Alive Timer and the number of queues reads as it was set (Table 05.3). -/
theorem State.getFeatures_kept {fid : Nat} (h : s.AdminQ q a x y) (hf : fid ≠ 0x0F) (hn : fid ≠ 0x07) (cid : Nat) :
    s.getFeatures q cid fid = s.nvmeCpl q cid STS_OK (y.features.getD fid (Config.nvmeFeature fid)) := by
  rw [State.getFeatures, State.adminCmd_eq h]
  simp only [if_neg hf, if_neg hn]

/-- An Asynchronous Event Request is held while no event waits for it (R123, R125). -/
theorem State.asyncEvent_held (h : s.AdminQ q a x y) (hana : y.anaNotice = false)
    (hev : (s.nvf.hosts.getD y.host ⟨false, false⟩).pendingEvent = false) (cid : Nat) :
    s.asyncEvent q cid = s.setAssoc a { y with aers := y.aers ++ [cid] } := by
  rw [State.asyncEvent, State.adminCmd_eq h]
  simp only [State.setAssoc_hosts, hev, hana, Bool.false_and, Bool.false_eq_true, if_false]

theorem State.keepAlive_eq (h : s.AdminQ q a x y) (cid : Nat) :
    s.keepAlive q cid = (s.setAssoc a { y with kaEnd := s.kaFrom y.kato }).nvmeCpl q cid STS_OK 0 :=
  State.adminCmd_eq h _ _

theorem State.nvmeAbort_eq (h : s.AdminQ q a x y) (cid : Nat) : s.nvmeAbort q cid = s.nvmeCpl q cid STS_OK 1 :=
  State.adminCmd_eq h _ _

end

/-- A completion with STS_OK carries Generic 00h and no DNR (R130). -/
theorem State.nvmeCpl_ok_out (s : State) (q cid dw0 : Nat) : (s.nvmeCpl q cid STS_OK dw0).out = .nvmeCpl q cid STS_OK 0 0 dw0 false :: s.out :=
  s.nvmeCpl_out q cid STS_OK dw0

/-- A command that changes its association and completes. -/
theorem State.setAssoc_nvmeCpl_spec (s : State) (q cid dw0 a : Nat) (y : NvAssoc) :
    s.NvmeEnds ((s.setAssoc a y).nvmeCpl q cid STS_OK dw0) q cid STS_OK ∧ ((s.setAssoc a y).nvmeCpl q cid STS_OK dw0).assoc a = some y :=
  ⟨State.nvmeCpl_ends (l := []) rfl _ _ _ _, (State.assoc_congr (State.nvmeCpl_nvf _ _ _ _ _) _).trans (State.assoc_setAssoc_self _ _ _)⟩

/-- A command that sends data and completes. -/
theorem State.nvmeData_nvmeCpl_spec {s t : State} (h : t.out = s.out) (q cid dw0 : Nat) (l : List Nat) :
    s.NvmeEnds ((t.emit (.nvmeData q cid l)).nvmeCpl q cid STS_OK dw0) q cid STS_OK ∧
      .nvmeData q cid l ∈ ((t.emit (.nvmeData q cid l)).nvmeCpl q cid STS_OK dw0).out := by
  refine ⟨State.nvmeCpl_ends (l := [_]) (by rw [State.emit_out, h, List.singleton_append]) _ _ _ _, ?_⟩
  rw [State.nvmeCpl_out]
  exact List.mem_cons_of_mem _ List.mem_cons_self

/-- Settles O27: each command runs one branch of its effect, and the always-on logic at its end touches none of it. -/
theorem associationsAndAdminCommands : Obligations.AssociationsAndAdminCommands := by
  unfold Obligations.AssociationsAndAdminCommands
  refine ⟨?admin, ?io, ?ioEnds, ?adminEnds, ?kato, ?propGet, ?propSet, ?identify, ?deferred, ?ana, ?setFeature, ?getFeature, ?event, ?alive,
    ?abort⟩
  case admin =>
    intro s tr host tenant size kato cid hp he ht hs hroom
    refine Completes.of_effect (congrArg ended (State.connect_admin hp he ht hs hroom host tenant kato cid))
      ⟨?_, State.nvmeCpl_ends (l := []) rfl _ _ _ _, _,
        (State.assoc_congr (State.nvmeCpl_nvf _ _ _ _ _) _).trans (State.assoc_setAssoc_self s _ _), rfl, rfl, rfl, rfl⟩
    rw [State.nvmeCpl_nvf]
    exact Assoc.look_put_self _ _ _
  case io =>
    intro s tr a host tenant size kato cid y hp he ht hs hy hroom
    refine Completes.of_effect (congrArg ended (State.connect_io hp he ht hs hy hroom host tenant kato cid)) ?_
    rw [State.polBind_frame]
    exact ⟨State.nvmeCpl_ends (l := []) rfl _ _ _ _, _,
      (State.queue_congr (State.nvmeCpl_nvf _ _ _ _ _) _).trans (State.queue_setQueue_self s _ _), rfl, Nat.succ_ne_zero _, rfl,
      (congrArg Nvf.assocs (State.nvmeCpl_nvf _ _ _ _ _)).trans rfl⟩
  case ioEnds =>
    intro s q cid x hx hio
    refine Completes.of_effect (congrArg ended (State.disconnect_io hx hio cid)) ?_
    rw [State.queueEnd_frame, State.nvmeCpl_nvf]
    exact ⟨Assoc.look_del_self _ _, rfl⟩
  case adminEnds =>
    intro s q cid x hx hadm
    exact Completes.of_effect (congrArg ended (State.disconnect_admin hx hadm cid)) (State.assocEnd_spec _ _).1
  case kato => exact fun s a t₀ y hy hk _ => Completes.of_effect rfl (State.katoExpiry_spec hy hk)
  case propGet =>
    intro s q cid a off x y h
    obtain ⟨hends, hdata⟩ := State.nvmeData_nvmeCpl_spec (s := s) rfl q cid (s.property y off % 2 ^ 32) [s.property y off]
    exact Completes.of_effect (congrArg ended (State.propertyGet_eq h cid off)) ⟨hends, hdata, State.nvmeCpl_regs _ _ _ _ _⟩
  case propSet =>
    exact fun s q cid a v x y h => Completes.of_effect (congrArg ended (State.propertySet_cc h cid v)) (s.setAssoc_nvmeCpl_spec _ _ _ _ _)
  case identify =>
    exact fun s q cid a cns nsid x y h =>
      Completes.of_effect (congrArg ended (State.identify_eq h cid cns nsid)) (State.nvmeData_nvmeCpl_spec rfl _ _ _ _)
  case deferred =>
    intro s q cid a nsid rae x y h
    obtain ⟨hosts, heq⟩ := State.getLogPage_deferred h cid nsid rae
    obtain ⟨hends, hdata⟩ := State.nvmeData_nvmeCpl_spec (s := s) (t := { s with nvf := { s.nvf with hosts := hosts } }) rfl q cid 0
      [deferredPage nsid (s.deferredOf (.nqn y.host) nsid)]
    exact Completes.of_effect (congrArg ended heq) ⟨hends, hdata, (congrArg Nvf.deferred (State.nvmeCpl_nvf _ _ _ _ _)).trans rfl⟩
  case ana =>
    exact fun s q cid a nsid rae x y h =>
      Completes.of_effect (congrArg ended (State.getLogPage_ana h cid nsid rae)) (State.nvmeData_nvmeCpl_spec rfl _ _ _ _)
  case setFeature =>
    intro s q cid a fid v x y h hf
    obtain ⟨dw0, heq⟩ := State.setFeatures_kept h hf cid v
    exact Completes.of_effect (congrArg ended heq) (s.setAssoc_nvmeCpl_spec _ _ _ _ _)
  case getFeature =>
    intro s q cid a fid x y h hf hn
    exact Completes.of_effect (congrArg ended (State.getFeatures_kept h hf hn cid))
      ⟨congrArg Nvf.assocs (State.nvmeCpl_nvf _ _ _ _ _), State.nvmeCpl_ok_out _ _ _ _⟩
  case event =>
    intro s q cid a x y h hana hev
    exact Completes.of_effect (congrArg ended (State.asyncEvent_held h hana hev cid)) ⟨rfl, State.assoc_setAssoc_self _ _ _⟩
  case alive =>
    exact fun s q cid a x y h => Completes.of_effect (congrArg ended (State.keepAlive_eq h cid)) (s.setAssoc_nvmeCpl_spec _ _ _ _ _)
  case abort =>
    intro s q cid a x y h
    exact Completes.of_effect (congrArg ended (State.nvmeAbort_eq h cid)) ⟨State.nvmeCpl_nvf _ _ _ _ _, State.nvmeCpl_ok_out _ _ _ _⟩

end Sys2Proof.Machine
end

section
/-! PROOFS. NVF: the transfers of writes, forwarded commands, and the notices of ANA changes (R119, R120, R125, R126). -/

namespace Sys2Proof

theorem Assoc.mem_keys_of_look {α : Type} {m : Assoc α} {k : Nat} {v : α} (h : m.look k = some v) : k ∈ m.map (·.1) := by
  induction m with
  | nil => cases h
  | cons e m ih =>
    rw [Assoc.look_cons] at h
    split at h
    · next hk => exact hk ▸ List.mem_cons_self
    · exact List.mem_cons_of_mem _ (ih h)

namespace Machine

/-! ## Transfers -/

/-- An ICReq sets a connection up: the digests that both sides offer, and the transfer-ready PDUs the host takes (R120). -/
theorem State.icReq_sets {s : State} {c : Nat} {x : Tcp} (hx : s.net.tcp.look c = some x) (hst : x.st = .established) (m : Nat) (h d : Bool) :
    (s.icReq c m h d).net.tcp.look c =
      some { x with maxR2t := m, hdgst := h && s.rdb Fld.NVF_TCP_OPT_HDGST, ddgst := d && s.rdb Fld.NVF_TCP_OPT_DDGST, ready := true } := by
  simp only [State.icReq, hx, hst, bne_self_eq_false, Bool.false_eq_true, if_false]
  exact Assoc.look_put_self _ _ _

/-- A grant of buffers requests the next range of a transfer (R119, R120). -/
theorem State.grantTransfer_requests {s : State} {q cid bytes n : Nat} {z : NvXfer} {l : Nat × Nat} (hz : s.xferOf q cid = some z)
    (hl : s.xferLimits q = some l) (hn : n = min bytes (min l.2 (z.bytes - z.requested))) (h0 : n ≠ 0) (hroom : z.r2t.length < l.1)
    (hturn : s.xferTurn z = true) :
    .grantData q cid z.requested n (s.polOwnerFor (s.xferTenant z) (polNvme q)) ∈ (s.grantTransfer q cid bytes).out ∧
      (s.grantTransfer q cid bytes).ops = s.ops ∧ (s.grantTransfer q cid bytes).nvf.xfers.look z.op =
        some { z with requested := z.requested + n, r2t := z.r2t ++ [(z.requested, n)] } := by
  subst hn
  have hgo : ¬ (min bytes (min l.2 (z.bytes - z.requested)) = 0 ∨ l.1 ≤ z.r2t.length ∨ (!s.xferTurn z) = true) := by
    simp only [h0, Nat.not_le.2 hroom, hturn, Bool.not_true, Bool.false_eq_true, or_self, not_false_eq_true]
  simp only [State.grantTransfer, hz, hl, if_neg hgo]
  rw [State.queueSend_frame]
  exact ⟨List.mem_cons_self, rfl, Assoc.look_put_self _ _ _⟩

/-- With the last of its data a write has it all, and its transfer is over (R119). -/
theorem State.dataLands_last {s : State} {z : NvXfer} {n : Nat} {o : WriteOp} (hlast : z.bytes ≤ z.received + n)
    (ho : s.ops.look z.op = some o) (hk : o.keyLen = 0) (off data : Nat) :
    (s.dataLands z off n data).nvf.xfers.look z.op = none ∧ (s.dataLands z off n data).regs = s.regs ∧
      (s.dataLands z off n data).ops.look z.op =
        some { o with data := blocksOf (putBits z.acc (8 * off) (8 * n) data) o.blocks } := by
  simp only [State.dataLands, if_neg (Nat.not_lt.2 hlast)]
  refine ⟨Assoc.look_del_self _ _, rfl, ?_⟩
  simp only [State.modOp, Assoc.look_modify_self, ho, Option.map_some, hk, if_true]

/-- Data short of the last leaves the transfer running (R119). -/
theorem State.dataLands_more {s : State} {z : NvXfer} {n : Nat} (hmore : z.received + n < z.bytes) (off data : Nat) :
    (s.dataLands z off n data).ops = s.ops ∧ (s.dataLands z off n data).regs = s.regs ∧
      ∃ w, (s.dataLands z off n data).nvf.xfers.look z.op = some w ∧ w.received = z.received + n ∧
        w.acc = putBits z.acc (8 * off) (8 * n) data := by
  simp only [State.dataLands, if_pos hmore]
  exact ⟨rfl, rfl, _, Assoc.look_put_self _ _ _, rfl, rfl⟩

/-- Data within a range that was requested lands (R120). -/
theorem State.h2cData_lands {s : State} {q cid off bytes : Nat} {x : NvQueue} {z : NvXfer} {r : Nat × Nat} (hx : s.queue q = some x)
    (hz : s.xferOf q cid = some z) (hr : z.r2t.find? (fun r => r.1 == off && decide (bytes ≤ r.2)) = some r) (h0 : bytes ≠ 0) (data : Nat) :
    s.h2cData q cid off bytes data true = s.dataLands z off bytes data := by
  simp only [State.h2cData, hx, hz, hr, Option.isNone_some, Bool.not_true, Bool.false_eq_true, if_false, if_neg h0]

/-- The data of the oldest RDMA READ lands when it completes (R119). -/
theorem State.writeDataRead_lands {s : State} {q cid : Nat} {z : NvXfer} {r : Nat × Nat} {l : List (Nat × Nat)}
    (hz : s.xferOf q cid = some z) (hr : z.r2t = r :: l) (data : Nat) :
    s.writeDataRead q cid true data = s.dataLands z r.1 r.2 data := by
  simp only [State.writeDataRead, hz, hr, if_true]

/-! ## Forwarded commands -/

/-- The owner's answer completes a ring's command that was forwarded and changes no state (R126). -/
theorem State.forwardAnswer_ring {s : State} {tok r q k : Nat} {u : Sub} (hf : s.nvf.fwds.look tok = some ⟨.ring r q, none, false⟩)
    (hu : (s.ring r).subOf q = some (k, u)) (a : Answer) :
    s.RingEnds (s.forwardAnswer tok a) r q a.status ∧ (s.forwardAnswer tok a).nvf.fwds.look tok = none ∧
      (s.forwardAnswer tok a).ops = s.ops := by
  simp only [State.forwardAnswer, hf]
  obtain ⟨hends, hframe⟩ := State.answer_ring (s := { s with nvf := { s.nvf with fwds := s.nvf.fwds.del tok } }) hu a
  refine ⟨hends.of_ready rfl, ?_, ?_⟩
  · rw [hframe]
    exact Assoc.look_del_self _ _
  · rw [hframe]

/-! ## Changes of ANA states -/

/-- A notice for one association moves that association and what leaves the head (R125). -/
theorem State.anaNoticeTo_frame (s : State) (k : Nat) :
    ∃ m o, s.anaNoticeTo k = { s with nvf := { s.nvf with assocs := m }, out := o } ∧ ∀ a ≠ k, m.look a = s.nvf.assocs.look a := by
  cases hy : s.assoc k with
  | none =>
    simp only [State.anaNoticeTo, State.aerPost, hy, Bool.false_eq_true, if_false]
    exact ⟨_, _, rfl, fun _ _ => rfl⟩
  | some y =>
    cases he : y.aers with
    | nil =>
      simp only [State.anaNoticeTo, State.aerPost, hy, he, Bool.false_eq_true, if_false]
      exact ⟨_, _, rfl, fun _ ha => Assoc.look_put_ne _ _ ha⟩
    | cons c l =>
      simp only [State.anaNoticeTo, State.aerPost, hy, he, if_true]
      exact ⟨_, _, rfl, fun _ ha => Assoc.look_put_ne _ _ ha⟩

/-- An association without an outstanding request keeps the notice for its next one (R125). -/
theorem State.anaNoticeTo_waits {s : State} {a : Nat} {y : NvAssoc} (hy : s.assoc a = some y) (he : y.aers = []) :
    (s.anaNoticeTo a).assoc a = some { y with anaNotice := true } := by
  simp only [State.anaNoticeTo, State.aerPost, hy, he]
  exact State.assoc_setAssoc_self _ _ _

/-- Among the associations that take notice, one without an outstanding request has the notice waiting at the end (R125). -/
theorem State.anaNoticeTo_all {a : Nat} (l : List Nat) {s : State} {y : NvAssoc} (hy : s.assoc a = some y) (he : y.aers = [])
    (h : y.anaNotice = true ∨ a ∈ l) : ∃ z, (l.foldl State.anaNoticeTo s).assoc a = some z ∧ z.anaNotice = true := by
  induction l generalizing s y with
  | nil => exact ⟨y, hy, h.resolve_right List.not_mem_nil⟩
  | cons k l ih =>
    rw [List.foldl_cons]
    by_cases hk : a = k
    · subst hk
      exact ih (State.anaNoticeTo_waits hy he) he (.inl rfl)
    · obtain ⟨m, o, hframe, hlook⟩ := s.anaNoticeTo_frame k
      have hsame : (s.anaNoticeTo k).assoc a = some y := by
        rw [hframe]
        exact (hlook a hk).trans hy
      exact ih hsame he (h.imp_right fun hm => (List.mem_cons.1 hm).resolve_left hk)

/-- A change of ANA states writes no register, and the notice waits at every association without an outstanding request (R125). -/
theorem State.anaNotices_spec {s : State} {a : Nat} {y : NvAssoc} (hen : s.rdb Fld.NVF_ANA_CFG_ANA_AEN = true) (hy : s.assoc a = some y)
    (he : y.aers = []) : s.anaNotices.regs = s.regs ∧ ∃ z, s.anaNotices.assoc a = some z ∧ z.anaNotice = true := by
  rw [State.anaNotices, if_pos hen]
  refine ⟨foldl_keeps _ State.regs (fun u k => ?_) _ s, State.anaNoticeTo_all _ hy he (.inr (Assoc.mem_keys_of_look hy))⟩
  obtain ⟨m, o, hframe, -⟩ := u.anaNoticeTo_frame k
  rw [hframe]

/-- Settles O29: each command takes one branch of its effect, and the always-on logic at its end touches none of it. -/
theorem nvmeTransfersRun : Obligations.NvmeTransfersRun := by
  unfold Obligations.NvmeTransfersRun
  refine ⟨?icreq, ?grant, ?last, ?more, ?read, ?forwarded, ?ana⟩
  case icreq => exact fun s c m h d x hx hst => Completes.of_effect rfl (State.icReq_sets hx hst m h d)
  case grant =>
    exact fun s q cid bytes z l hz hl h0 hroom hturn => Completes.of_effect rfl (State.grantTransfer_requests hz hl rfl h0 hroom hturn)
  case last =>
    intro s q cid off bytes data x z r o hx hz hr h0 hlast ho hk
    exact Completes.of_effect (congrArg ended (State.h2cData_lands hx hz hr h0 data)) (State.dataLands_last hlast ho hk off data)
  case more =>
    intro s q cid off bytes data x z r hx hz hr h0 hmore
    exact Completes.of_effect (congrArg ended (State.h2cData_lands hx hz hr h0 data)) (State.dataLands_more hmore off data)
  case read =>
    intro s q cid data z r l o hz hr hlast ho hk
    exact Completes.of_effect (congrArg ended (State.writeDataRead_lands hz hr data)) (State.dataLands_last hlast ho hk r.1 data)
  case forwarded => exact fun s tok r q k a u hf hu => Completes.of_effect rfl (State.forwardAnswer_ring hf hu a)
  case ana => exact fun s a y hen hy he => Completes.of_effect rfl (State.anaNotices_spec hen hy he)

end Machine
end Sys2Proof
end

section
/-! PROOFS. ISL: the catch-up of the mirrors, and drumbeats (R125, R188 to R190, R388). -/

namespace Sys2Proof.Machine

open Sys2Proof

/-! ## What the operations of the link leave as it was -/

@[simp] theorem State.isend_regs (s : State) (vc : Nat) (m : IslMsg) : (s.isend vc m).regs = s.regs := by rw [State.isend_frame]

theorem State.linkUp_congr {s t : State} (h : t.regs = s.regs) : t.linkUp = s.linkUp := by
  rw [State.linkUp, State.rd_congr h, State.linkUp]

/-- What the link's drumbeat and catch-up keep beside its flits, a message sent leaves as it was (R186). -/
theorem State.isend_isl (s : State) (vc : Nat) (m : IslMsg) :
    ∃ n l, (s.isend vc m).isl = { s.isl with txSeq := n, unacked := l } := by
  unfold State.isend
  split
  · exact ⟨_, _, rfl⟩
  · exact ⟨_, _, rfl⟩

/-- The link is in service with both directions of the mirror, and nothing but its state tells so. -/
theorem State.islService_frame (s : State) : s.islService = { s with regs := s.islService.regs } := by
  unfold State.islService
  split <;> rfl

theorem State.rd_islService (s : State) (f : Field) (i j : Nat) (h : f.key i j ≠ Fld.ISL_STATUS_STATE.key 0 0) :
    s.islService.rd f i j = s.rd f i j := by
  unfold State.islService
  split
  · exact State.rd_wr_ne _ _ _ _ _ _ _ _ h
  · rfl

theorem State.islState_islService (s : State) : s.islService.islState =
    if s.islState = islCatchup ∧ s.rdb Fld.PJM_STATUS_MIRROR_HELD = true ∧ s.rdb Fld.PJM_STATUS_MIRROR_IN = true then islInService
    else s.islState := by
  unfold State.islService
  split
  · exact State.rd_wr_self _ _ _ _ _
  · rfl

/-- With no record held, none waits for a channel (R184). -/
theorem State.releaseHeld_none {s : State} (h : s.pjm.recs.all (fun e => !e.2.held) = true) : s.releaseHeld = s := by
  have hnone : s.pjm.recs.filter (fun e => e.2.held && e.2.live) = [] :=
    List.filter_eq_nil_iff.2 fun e he => by
      have hheld : e.2.held = false := by simpa using List.all_eq_true.1 h e he
      simp [hheld]
  rw [State.releaseHeld, hnone, List.foldl_nil]

/-! ## Catch-up -/

/-- The mirror of the partner's log as its catch-up leaves it: its anchors clear, and the next drumbeat to report it (R189). -/
def State.mirrorCaught (s : State) : State :=
  State.wr { s.markAnchors (List.range 8) false with isl := { s.isl with mirrorReady := true } } Fld.PJM_STATUS_MIRROR_HELD 1

theorem State.rd_mirrorCaught (s : State) (f : Field) (h : f.key 0 0 ≠ Fld.PJM_STATUS_MIRROR_HELD.key 0 0) :
    s.mirrorCaught.rd f = s.rd f :=
  State.rd_wr_ne _ _ _ _ _ _ _ _ h

/-- The hold-off before the return of this head's objects starts (R388). -/
def State.holdOff (s : State) : State := { s with own := { s.own with returnFrom := some s.now } }

/-- The catch-up of the mirror ends: the link may be in service, and the hold-off starts (R189, R388). -/
theorem State.catchupEnd_mirror {s : State} (hup : s.linkUp = true) (hc : s.caughtUp = true) (ha : s.isl.catchupAsked = true)
    (hh : s.rdb Fld.PJM_STATUS_MIRROR_HELD = false) (ht : s.rdb Fld.FWU_STATUS_TRIAL = false) :
    s.catchupEnd = s.mirrorCaught.islService.holdOff := by
  have htrial : s.mirrorCaught.islService.rdb Fld.FWU_STATUS_TRIAL = false := by
    rw [State.rdb, State.rd_islService _ _ _ _ (by decide), s.rd_mirrorCaught _ (by decide)]
    exact ht
  simp only [State.catchupEnd, hup, hc, ha, hh, Bool.not_true, Bool.not_false, Bool.and_self, Bool.or_self, Bool.false_eq_true, if_false,
    if_true]
  exact if_neg (Bool.eq_false_iff.1 htrial)

theorem State.catchupEnd_mirror_spec {s : State} (hup : s.linkUp = true) (hc : s.caughtUp = true) (ha : s.isl.catchupAsked = true)
    (hh : s.rdb Fld.PJM_STATUS_MIRROR_HELD = false) (ht : s.rdb Fld.FWU_STATUS_TRIAL = false) :
    s.catchupEnd.rd Fld.PJM_STATUS_MIRROR_HELD = 1 ∧ s.catchupEnd.isl.mirrorReady = true ∧ s.catchupEnd.own.returnFrom = some s.now ∧
      s.catchupEnd.islState =
        (if s.islState = islCatchup ∧ s.rdb Fld.PJM_STATUS_MIRROR_IN = true then islInService else s.islState) := by
  rw [State.catchupEnd_mirror hup hc ha hh ht]
  have hheld : s.mirrorCaught.rd Fld.PJM_STATUS_MIRROR_HELD = 1 := State.rd_wr_self _ _ _ _ _
  have hin : s.mirrorCaught.rdb Fld.PJM_STATUS_MIRROR_IN = s.rdb Fld.PJM_STATUS_MIRROR_IN := by
    rw [State.rdb, s.rd_mirrorCaught _ (by decide), State.rdb]
  have hstate : s.mirrorCaught.islState = s.islState := s.rd_mirrorCaught _ (by decide)
  refine ⟨(State.rd_islService _ _ _ _ (by decide)).trans hheld, ?_, ?_, (State.islState_islService _).trans ?_⟩
  · rw [State.holdOff, State.islService_frame]
    rfl
  · rw [State.holdOff, State.islService_frame]
    rfl
  · rw [hin, hstate, State.rdb_eq s.mirrorCaught, hheld]
    simp only [beq_self_eq_true, true_and]

/-- A channel of the mirror as its catch-up leaves it (R190). -/
def State.chanCaught (s : State) (c : Nat) : State :=
  { (s.markAnchors [c] false).wr Fld.PJM_CH_STATUS_STATE chanInService c with
    pjm := { (s.markAnchors [c] false).pjm with repairing := [] } }

/-- The catch-up of one channel ends: it is in service again, and no record moves where none is held (R184, R190). -/
theorem State.catchupEnd_channel {s : State} {c : Nat} (hup : s.linkUp = true) (hc : s.caughtUp = true) (ha : s.isl.catchupAsked = false)
    (hr : s.pjm.repairing = [c]) (hheld : s.pjm.recs.all (fun e => !e.2.held) = true) : s.catchupEnd = s.chanCaught c := by
  have heq : s.catchupEnd = (s.chanCaught c).releaseHeld := by
    simp only [State.catchupEnd, hup, hc, ha, hr, Bool.not_true, Bool.or_self, Bool.false_and, Bool.false_eq_true, if_false]
    rfl
  exact heq.trans (State.releaseHeld_none hheld)

/-- A copy sent writes no register. -/
theorem State.sendCopy_regs (s : State) (j : Nat) (r : PjmRec) : (s.sendCopy j r).regs = s.regs := State.isend_regs _ _ _

/-- A catch-up asked for is served, and the end of the copy follows (R189, R190). -/
theorem State.catchupServe_spec {s : State} (hup : s.linkUp = true) (c : Option Nat) :
    (s.catchupServe c).isl.serving = true ∧ .isl 0 .catchupEnd ∈ (s.catchupServe c).out ∧ (s.catchupServe c).regs = s.regs := by
  simp only [State.catchupServe, hup, Bool.not_true, Bool.false_eq_true, if_false]
  generalize hu : List.foldl (fun (u : State) (e : Nat × PjmRec) => u.sendCopy e.1 e.2) s _ = u
  have hregs : u.regs = s.regs := by
    rw [← hu]
    exact foldl_keeps _ State.regs (fun v (e : Nat × PjmRec) => v.sendCopy_regs e.1 e.2) _ s
  have hup' : State.linkUp { u with isl := { u.isl with serving := true } } = true := (State.linkUp_congr hregs).trans hup
  refine ⟨?_, State.isend_out hup' _ _, (State.isend_regs _ _ _).trans hregs⟩
  obtain ⟨n, l, hisl⟩ := State.isend_isl { u with isl := { u.isl with serving := true } } 0 .catchupEnd
  rw [hisl]

/-! ## Drumbeats sent -/

/-- The grid instant of the next drumbeat (R188). -/
def State.nextGrid (s : State) : Nat := max s.gridUp (s.isl.sentGrid + 1)

/-- The state at the instant a drumbeat leaves, while no lease runs. -/
def State.drumbeatDue (s : State) : State :=
  { s with now := max s.now (s.localOf (Frac.int ((s.nextGrid * gridNs : Nat) : Int)))
           isl := { s.isl with sentGrid := s.nextGrid, dseq := (s.isl.dseq + 1) % 2 ^ 32 } }

theorem State.drumbeatSend_eq {s : State} (hup : s.linkUp = true) (hl : s.aon.leaseEnd = none) :
    s.drumbeatSend = s.drumbeatDue.isend 0 (.drumbeat s.drumbeatDue.drumbeat) := by
  simp only [State.drumbeatSend, hup, Bool.not_true, Bool.false_eq_true, if_false, State.advanceCt, State.advance_unleased hl]
  rfl

/-- A drumbeat leaves at the next instant of the grid (R188). -/
theorem State.drumbeatSend_spec {s : State} (hup : s.linkUp = true) (hl : s.aon.leaseEnd = none) :
    s.drumbeatSend.isl.dseq = (s.isl.dseq + 1) % 2 ^ 32 ∧ s.drumbeatSend.isl.sentGrid = max s.gridUp (s.isl.sentGrid + 1) ∧
      ∃ d, .isl 0 (.drumbeat d) ∈ s.drumbeatSend.out ∧ d.dseq = s.drumbeatSend.isl.dseq ∧ d.head = s.headId ∧
        d.mirrorReady = s.isl.mirrorReady := by
  rw [State.drumbeatSend_eq hup hl]
  obtain ⟨n, l, hisl⟩ := s.drumbeatDue.isend_isl 0 (.drumbeat s.drumbeatDue.drumbeat)
  rw [hisl]
  exact ⟨rfl, rfl, _, State.isend_out (s := s.drumbeatDue) hup _ _, rfl, rfl, rfl⟩

/-! ## Drumbeats received -/

/-- Nothing is asked of a partner with this head's layout before STALE is written in the mirror's anchors (R189). -/
theorem State.askCatchup_quiet {s : State} (hl : s.isl.peerLayout = some s.layout) (hs : s.isl.staleWritten = false) : s.askCatchup = s := by
  simp only [State.askCatchup, hl, hs, bne_self_eq_false, Bool.false_and, Bool.false_eq_true, if_false]

/-- A drumbeat that reports the same channels in service moves no record: no channel is lost, and none is back (R190). -/
theorem State.peerChannels_same {s : State} {ch : Nat} (h : ch = s.rd Fld.ISL_PEER_CH_OK) : s.peerChannels ch = s.wr Fld.ISL_PEER_CH_OK ch := by
  subst h
  simp [State.peerChannels, Bool.and_not_self, Bool.not_and_self]

/-- A drumbeat that reports the same of the mirror moves no write (R187, R189). -/
theorem State.peerMirror_same {s : State} {b : Bool} (h : s.rdb Fld.PJM_STATUS_MIRROR_IN = b) :
    s.peerMirror b = (s.wrb Fld.ISL_PEER_MIRROR_READY b).wrb Fld.PJM_STATUS_MIRROR_IN b := by
  subst h
  simp only [State.peerMirror, Bool.and_not_self, Bool.false_eq_true, if_false]

/-- What every drumbeat notes first: the flit, the grid instant it counts for, and the fields that no register shows (R188). -/
def State.drumbeatHeard (s : State) (d : Drumbeat) : State :=
  { s with isl := { s.isl with lastFlit := s.now, lastGrid := max s.isl.lastGrid (s.gridUp - 1), missRun := 0
                               peerLayout := some d.layout, peerFwGen := d.fwGen, peerEpoch := d.epoch, peerEps := d.eps } }

/-- The partner is suspect no longer (R125, R188). -/
def State.suspicionOver (s : State) : State :=
  if s.rdb Fld.ISL_STATUS_SUSPECT then (s.wr Fld.ISL_STATUS_SUSPECT 0).anaNotices else s.wr Fld.ISL_STATUS_SUSPECT 0

/-- What a drumbeat shows in registers before its layout is compared (Table 08.10). -/
def State.drumbeatShown (s : State) (d : Drumbeat) : State :=
  (((s.wr Fld.ISL_PEER_HEAD d.head).wr Fld.ISL_PEER_DSEQ d.dseq).wrb Fld.ISL_PEER_FENCED d.fenced).wr Fld.FWU_STATUS_PARTNER_GEN
    (d.fwGen % 2 ^ 30)

/-- What a drumbeat's layout, channels and mirror bring about (R189, R190). -/
def State.drumbeatTaken (s : State) (d : Drumbeat) : State :=
  let w := if d.layout != s.layout then s.raise Fld.ISL_ERR_LAYOUT else s.askCatchup
  (w.peerChannels d.chOk).peerMirror (d.mirrorReady && d.layout == w.layout)

theorem State.drumbeatReceive_eq {s : State} (hup : s.linkUp = true) (d : Drumbeat) :
    s.drumbeatReceive d = (((s.drumbeatHeard d).noteEpoch d.epoch).suspicionOver.drumbeatShown d).drumbeatTaken d := by
  rw [State.drumbeatReceive, hup]
  rfl

/-- A drumbeat with this head's layout that reports of the channels and the mirror what is known (R189, R190). -/
theorem State.drumbeatTaken_same {s : State} {d : Drumbeat} (hl : s.isl.peerLayout = some d.layout) (hlay : d.layout = s.layout)
    (hstale : s.isl.staleWritten = false) (hch : d.chOk = s.rd Fld.ISL_PEER_CH_OK) (hmir : s.rdb Fld.PJM_STATUS_MIRROR_IN = d.mirrorReady) :
    s.drumbeatTaken d = ((s.wr Fld.ISL_PEER_CH_OK d.chOk).wrb Fld.ISL_PEER_MIRROR_READY d.mirrorReady).wrb Fld.PJM_STATUS_MIRROR_IN
      d.mirrorReady := by
  have hmir' : (s.wr Fld.ISL_PEER_CH_OK d.chOk).rdb Fld.PJM_STATUS_MIRROR_IN = d.mirrorReady := by
    rw [State.rdb, State.rd_wr_ne _ _ _ _ _ _ _ _ (by decide)]
    exact hmir
  rw [← State.peerMirror_same hmir', ← State.peerChannels_same hch]
  simp only [State.drumbeatTaken, ← hlay, bne_self_eq_false, Bool.false_eq_true, if_false, State.askCatchup_quiet (hlay ▸ hl) hstale,
    beq_self_eq_true, Bool.and_true]

/-- The state once a drumbeat from a partner that was not suspect is noted and shown (R188, R333). -/
def State.drumbeatNoted (s : State) (d : Drumbeat) : State :=
  (((s.drumbeatHeard d).noteEpoch d.epoch).wr Fld.ISL_STATUS_SUSPECT 0).drumbeatShown d

/-- The fields that note and show a drumbeat. -/
abbrev notedFields : List Field :=
  [Fld.KVS_STATUS_EPOCH_SYNCED, Fld.ISL_STATUS_SUSPECT, Fld.ISL_PEER_HEAD, Fld.ISL_PEER_DSEQ, Fld.ISL_PEER_FENCED,
   Fld.FWU_STATUS_PARTNER_GEN]

theorem State.rd_noteEpoch (s : State) (e : Nat) (f : Field) (h : f.key 0 0 ≠ Fld.KVS_STATUS_EPOCH_SYNCED.key 0 0) :
    (s.noteEpoch e).rd f = s.rd f :=
  State.rd_wr_ne _ _ _ _ _ _ _ _ h

theorem State.rd_drumbeatNoted (s : State) (d : Drumbeat) (f : Field) (h : ∀ g ∈ notedFields, f.key 0 0 ≠ g.key 0 0) :
    (s.drumbeatNoted d).rd f = s.rd f := by
  simp only [List.forall_mem_cons] at h
  obtain ⟨hsync, hsuspect, hhead, hdseq, hfenced, hgen, -⟩ := h
  rw [State.drumbeatNoted, State.drumbeatShown, State.wrb_eq, State.rd_wr_ne _ _ _ _ _ _ _ _ hgen, State.rd_wr_ne _ _ _ _ _ _ _ _ hfenced,
    State.rd_wr_ne _ _ _ _ _ _ _ _ hdseq, State.rd_wr_ne _ _ _ _ _ _ _ _ hhead, State.rd_wr_ne _ _ _ _ _ _ _ _ hsuspect,
    State.rd_noteEpoch _ _ _ hsync]
  rfl

/-- The partner's head, number and fence, as a drumbeat shows them (Table 08.10). -/
theorem State.drumbeatShown_spec (s : State) (d : Drumbeat) :
    (s.drumbeatShown d).rd Fld.ISL_PEER_HEAD = d.head % 2 ^ 16 ∧ (s.drumbeatShown d).rd Fld.ISL_PEER_DSEQ = d.dseq % 2 ^ 32 ∧
      (s.drumbeatShown d).rd Fld.ISL_PEER_FENCED = b2n d.fenced := by
  rw [State.drumbeatShown, State.wrb_eq]
  simp (disch := decide) only [State.rd_wr_ne, State.rd_wr_self]
  refine ⟨rfl, rfl, ?_⟩
  cases d.fenced <;> rfl

/-- A drumbeat from a partner that was not suspect, has this head's layout, and reports of its channels and its mirror what is known, is
noted and moves nothing else (R125, R175, R188). -/
theorem State.drumbeatReceive_noted {s : State} {d : Drumbeat} (hup : s.linkUp = true) (hsus : s.rdb Fld.ISL_STATUS_SUSPECT = false)
    (hlay : d.layout = s.layout) (hstale : s.isl.staleWritten = false) (hch : d.chOk = s.rd Fld.ISL_PEER_CH_OK)
    (hmir : s.rdb Fld.PJM_STATUS_MIRROR_IN = d.mirrorReady) :
    s.drumbeatReceive d = (((s.drumbeatNoted d).wr Fld.ISL_PEER_CH_OK d.chOk).wrb Fld.ISL_PEER_MIRROR_READY d.mirrorReady).wrb
      Fld.PJM_STATUS_MIRROR_IN d.mirrorReady := by
  have hsus' : ((s.drumbeatHeard d).noteEpoch d.epoch).rdb Fld.ISL_STATUS_SUSPECT = false := by
    rw [State.rdb, State.rd_noteEpoch _ _ _ (by decide)]
    exact hsus
  have hover : ((s.drumbeatHeard d).noteEpoch d.epoch).suspicionOver = ((s.drumbeatHeard d).noteEpoch d.epoch).wr Fld.ISL_STATUS_SUSPECT 0 :=
    if_neg (Bool.eq_false_iff.1 hsus')
  rw [State.drumbeatReceive_eq hup, hover]
  exact State.drumbeatTaken_same (s := s.drumbeatNoted d) rfl (hlay.trans (s.rd_drumbeatNoted d _ (by decide)).symm) hstale
    (hch.trans (s.rd_drumbeatNoted d _ (by decide)).symm) ((congrArg (· == 1) (s.rd_drumbeatNoted d _ (by decide))).trans hmir)

theorem State.drumbeatReceive_spec {s : State} {d : Drumbeat} (hup : s.linkUp = true) (hsus : s.rdb Fld.ISL_STATUS_SUSPECT = false)
    (hlay : d.layout = s.layout) (hstale : s.isl.staleWritten = false) (hch : d.chOk = s.rd Fld.ISL_PEER_CH_OK)
    (hmir : s.rdb Fld.PJM_STATUS_MIRROR_IN = d.mirrorReady) :
    (s.drumbeatReceive d).isl.missRun = 0 ∧ (s.drumbeatReceive d).isl.lastFlit = s.now ∧
      (s.drumbeatReceive d).isl.peerLayout = some d.layout ∧ (s.drumbeatReceive d).rd Fld.ISL_PEER_HEAD = d.head % 2 ^ 16 ∧
      (s.drumbeatReceive d).rd Fld.ISL_PEER_DSEQ = d.dseq % 2 ^ 32 ∧ (s.drumbeatReceive d).rd Fld.ISL_PEER_FENCED = b2n d.fenced ∧
      (s.drumbeatReceive d).pjm = s.pjm := by
  rw [State.drumbeatReceive_noted hup hsus hlay hstale hch hmir, State.wrb_eq, State.wrb_eq]
  simp (disch := decide) only [State.rd_wr_ne]
  obtain ⟨hhead, hdseq, hfenced⟩ := State.drumbeatShown_spec (((s.drumbeatHeard d).noteEpoch d.epoch).wr Fld.ISL_STATUS_SUSPECT 0) d
  exact ⟨rfl, rfl, rfl, hhead, hdseq, hfenced, rfl⟩

/-! ## Drumbeats that do not come -/

/-- The state at the instant by which a drumbeat should have come, while no lease runs: the absence is counted (R188). -/
def State.drumbeatMissed (s : State) : State :=
  State.bump { s with now := max s.now (s.localOf (Frac.int (((s.isl.lastGrid + 1 + 1) * gridNs : Nat) : Int)))
                      isl := { s.isl with lastGrid := s.isl.lastGrid + 1, missRun := s.isl.missRun + 1 } } Fld.ISL_DRUM_MISSED_COUNT

theorem State.rd_drumbeatMissed (s : State) (f : Field) (h : f.key 0 0 ≠ Fld.ISL_DRUM_MISSED_COUNT.key 0 0) :
    s.drumbeatMissed.rd f = s.rd f :=
  State.rd_wr_ne _ _ _ _ _ _ _ _ h

/-- An absence is counted, and the SUSPECT_MISS-th in a row makes the partner suspect (R125, R188). -/
theorem State.drumbeatAbsent_eq {s : State} (he : s.rdb Fld.ISL_CTRL_ENABLE = true) (hl : s.aon.leaseEnd = none) :
    s.drumbeatAbsent = if s.isl.missRun + 1 = s.rd Fld.ISL_CFG_SUSPECT_MISS then
      ((s.drumbeatMissed.wr Fld.ISL_STATUS_SUSPECT 1).raise Fld.ISL_ERR_SUSPECT).anaNotices else s.drumbeatMissed := by
  simp only [State.drumbeatAbsent, he, Bool.not_true, Bool.false_eq_true, if_false, State.advanceCt, State.advance_unleased hl]
  rw [← s.rd_drumbeatMissed Fld.ISL_CFG_SUSPECT_MISS (by decide)]
  rfl

theorem State.drumbeatAbsent_suspect {s : State} (he : s.rdb Fld.ISL_CTRL_ENABLE = true) (hl : s.aon.leaseEnd = none)
    (hn : s.isl.missRun + 1 = s.rd Fld.ISL_CFG_SUSPECT_MISS) (hana : s.rdb Fld.NVF_ANA_CFG_ANA_AEN = false) :
    s.drumbeatAbsent.rd Fld.ISL_STATUS_SUSPECT = 1 ∧ s.drumbeatAbsent.rd Fld.ISL_ERR_SUSPECT = 1 := by
  have hana' : ((s.drumbeatMissed.wr Fld.ISL_STATUS_SUSPECT 1).raise Fld.ISL_ERR_SUSPECT).rdb Fld.NVF_ANA_CFG_ANA_AEN = false := by
    rw [State.rdb, State.raise_eq, State.rd_wr_ne _ _ _ _ _ _ _ _ (by decide), State.rd_wr_ne _ _ _ _ _ _ _ _ (by decide),
      s.rd_drumbeatMissed _ (by decide)]
    exact hana
  rw [State.drumbeatAbsent_eq he hl, if_pos hn, State.anaNotices, if_neg (Bool.eq_false_iff.1 hana'), State.raise_eq]
  refine ⟨?_, State.rd_wr_self _ _ _ _ _⟩
  rw [State.rd_wr_ne _ _ _ _ _ _ _ _ (by decide), State.rd_wr_self]
  rfl

/-- Settles O35: each command takes one branch of its effect, and the always-on logic at its end touches none of it. -/
theorem catchupAndDrumbeats : Obligations.CatchupAndDrumbeats := by
  unfold Obligations.CatchupAndDrumbeats
  refine ⟨?mirror, ?channel, ?serve, ?send, ?receive, ?absent, ?suspect⟩
  case mirror => exact fun s hup hc ha hh ht => Completes.of_effect rfl (State.catchupEnd_mirror_spec hup hc ha hh ht)
  case channel =>
    intro s c hup hc ha _ hr hheld
    exact Completes.of_effect (congrArg ended (State.catchupEnd_channel hup hc ha hr hheld))
      ⟨State.rd_wr_self (s.markAnchors [c] false) Fld.PJM_CH_STATUS_STATE chanInService c 0, rfl, rfl⟩
  case serve => exact fun s c hup => Completes.of_effect rfl (State.catchupServe_spec hup c)
  case send => exact fun s hup hl => Completes.of_effect rfl (State.drumbeatSend_spec hup hl)
  case receive =>
    exact fun s d hup hsus hlay hstale hch hmir => Completes.of_effect rfl (State.drumbeatReceive_spec hup hsus hlay hstale hch hmir)
  case absent =>
    intro s he hl hn
    exact Completes.of_effect (congrArg ended ((State.drumbeatAbsent_eq he hl).trans (if_neg hn)))
      ⟨rfl, rfl, s.rd_drumbeatMissed _ (by decide)⟩
  case suspect => exact fun s he hl hn hana => Completes.of_effect rfl (State.drumbeatAbsent_suspect he hl hn hana)

end Sys2Proof.Machine
end

section
/-! PROOFS. RDM: the responder of a queue pair, and the refutations about the requester and the windows (R138, R139, R142, R149, R150, R153,
R155, R157). -/

namespace Sys2Proof.Machine

open Sys2Proof

/-! ## Queue pairs and windows -/

@[simp] theorem State.qp_setQp_self (s : State) (q : Nat) (x : Qp) : (s.setQp q x).rdm.qps.look q = some x := Assoc.look_put_self _ _ _
@[simp] theorem State.setQp_regs (s : State) (q : Nat) (x : Qp) : (s.setQp q x).regs = s.regs := rfl
@[simp] theorem State.setQp_out (s : State) (q : Nat) (x : Qp) : (s.setQp q x).out = s.out := rfl
@[simp] theorem State.win_putWin_self (s : State) (i : Nat) (w : Win) : (s.putWin i w).win i = w := Assoc.getD_put_self _ _ _ _

/-- A queue pair that no miss stalls waits for no walk (R155). -/
theorem State.walkDone_none {s : State} {q : Nat} {x : Qp} (hx : s.rdm.qps.look q = some x) (hm : x.missing = none) : s.walkDone q = s := by
  simp only [State.walkDone, hx, hm]

/-- The end of a walk frees the queue pair, and the entry is the most recent of its engine's cache (R155). -/
theorem State.walkDone_missing {s : State} {q key : Nat} {x : Qp} (hx : s.rdm.qps.look q = some x) (hm : x.missing = some key) :
    (s.walkDone q).rdm.qps.look q = some { x with missing := none } ∧ (s.walkDone q).regs = s.regs ∧
      (s.walkDone q).rdm.wtc.look x.engine = some ((key :: (s.rdm.wtc.getD x.engine []).filter (fun k => k != key)).take 48) := by
  simp only [State.walkDone, hx, hm]
  exact ⟨State.qp_setQp_self _ _ _, rfl, Assoc.look_put_self _ _ _⟩

/-! ## The responder -/

/-- Queue pair q is x, in a state that responds, with RDM enabled and no miss that stalls it (R138, R155, Table 06.2). -/
def State.Responds (s : State) (q : Nat) (x : Qp) : Prop :=
  s.rdm.qps.look q = some x ∧ x.missing = none ∧ s.rdb Fld.RDM_CTRL_ENABLE = true ∧ (x.st = .rts ∨ x.st = .rtr)

/-- A queue pair that responds is not refused the packet for its state. -/
theorem State.Responds.takes {s : State} {q : Nat} {x : Qp} (h : s.Responds q x) :
    (!s.rdb Fld.RDM_CTRL_ENABLE || !(x.st == .rtr || x.st == .rts)) = false := by
  obtain ⟨-, -, he, hst⟩ := h
  rcases hst with hst | hst <;> simp [he, hst]

/-- The first packet of a message at the expected PSN is validated, and where the message goes on the
responder moves past it (R138, R149). -/
theorem State.packetReceive_first {s : State} {q : Nat} {x : Qp} {p : RocePacket} (h : s.Responds q x) (hb : s.admittedPend Blk.RDM = false)
    (hd : psnDist x.expPsn p.psn = 0) (hf : p.first = true) :
    s.packetReceive q p = if (s.firstPacket q x p).2 then
        if p.last then ((s.firstPacket q x p).1.packetTaken q p).messageEnd q p.psn else (s.firstPacket q x p).1.packetTaken q p
      else (s.firstPacket q x p).1 := by
  have htakes := h.takes
  obtain ⟨hx, hm, -⟩ := h
  simp only [State.packetReceive, hf, State.boundary_eq hb, State.walkDone_none hx hm, hx, htakes, hd, if_true, Bool.false_eq_true, if_false]

/-- A packet past a gap is asked for again, once per gap (R138). -/
theorem State.packetReceive_gap {s : State} {q : Nat} {x : Qp} {p : RocePacket} (h : s.Responds q x) (hf : p.first = false)
    (hd : psnDist x.expPsn p.psn ≠ 0) (hgap : psnDist x.expPsn p.psn < 2 ^ 23) (hn : x.nakSent = false) :
    s.packetReceive q p = s.nakSeq q x x.expPsn := by
  have htakes := h.takes
  obtain ⟨hx, hm, -⟩ := h
  simp only [State.packetReceive, hf, State.walkDone_none hx hm, hx, htakes, if_neg hd, if_pos hgap, hn, Bool.false_eq_true, if_false]

/-- A SEND that finds a receive slot starts a message without a window (R142). -/
theorem State.firstPacket_send {s : State} {p : RocePacket} (ho : p.op = .send) (hs : p.slotFree = true) (q : Nat) (x : Qp) :
    s.firstPacket q x p =
      (s.setQp q { x with msg := some { op := .send, window := none, off := p.off, len := p.len, imm := p.imm } }, true) := by
  simp only [State.firstPacket, ho, hs, if_true]

/-- A WRITE that its validation finds revoked goes no further (R150). -/
theorem State.firstPacket_write_revoked {s : State} {q : Nat} {x : Qp} {p : RocePacket} (ho : p.op = .write)
    (hv : s.validate x q .write p.rkey p.off p.len = .revoked) :
    s.firstPacket q x p = (s.refuseMsg q x p.psn (p.rkey / 4096) .revoked, false) := by
  simp only [State.firstPacket, ho, hv]

/-- A packet that is no READ request moves the expected PSN on by one (R138). -/
theorem State.packetTaken_one {s : State} {q : Nat} {x : Qp} {p : RocePacket} (hx : s.rdm.qps.look q = some x) (ho : p.op ≠ .read) :
    s.packetTaken q p = s.setQp q { x with expPsn := (x.expPsn + 1) % 2 ^ 24, nakSent := false, faultAt := none } := by
  simp only [State.packetTaken, hx, State.psnsOf, if_neg ho]

/-- The end of a SEND without an immediate is acknowledged, and delivered to the consumer (R142). -/
theorem State.messageEnd_send {s : State} {q : Nat} {x : Qp} {m : RdmMsg} (hx : s.rdm.qps.look q = some x) (hm : x.msg = some m)
    (hw : m.window = none) (ho : m.op = .send) (psn : Nat) :
    s.messageEnd q psn =
      ((s.setQp q { x with msg := none }).emit (.roceAck q psn)).emit (.roceDeliver x.consumer q none none 0 m.len) := by
  simp only [State.messageEnd, hx, hm, hw, ho]

/-- A SEND of one packet in order is acknowledged and delivered, and the responder expects the next PSN (R138, R142). -/
theorem State.packetReceive_send {s : State} {q : Nat} {x : Qp} {p : RocePacket} (h : s.Responds q x) (hb : s.admittedPend Blk.RDM = false)
    (hd : psnDist x.expPsn p.psn = 0) (hf : p.first = true) (hl : p.last = true) (ho : p.op = .send) (hs : p.slotFree = true) :
    .roceAck q p.psn ∈ (s.packetReceive q p).out ∧ .roceDeliver x.consumer q none none 0 p.len ∈ (s.packetReceive q p).out ∧
      (s.packetReceive q p).regs = s.regs ∧
      (s.packetReceive q p).rdm.qps.look q =
        some { x with expPsn := (x.expPsn + 1) % 2 ^ 24, nakSent := false, faultAt := none, msg := none } := by
  have hread : p.op ≠ .read := by simp [ho]
  rw [State.packetReceive_first h hb hd hf, State.firstPacket_send ho hs, if_pos rfl, if_pos hl,
    State.packetTaken_one (State.qp_setQp_self _ _ _) hread, State.messageEnd_send (State.qp_setQp_self _ _ _) rfl rfl rfl]
  simp

/-- A gap is named in the NAK, and the queue pair keeps that it is out (R138). -/
theorem State.nakSeq_spec (s : State) (q : Nat) (x : Qp) (psn : Nat) :
    .roceNak q psn 0 ∈ (s.nakSeq q x psn).out ∧ (s.nakSeq q x psn).rdm.qps.look q = some { x with nakSent := true } :=
  ⟨List.mem_cons_self, State.qp_setQp_self _ _ _⟩

/-- A message for a revoked window is refused: the peer has a NAK, the window counts it, and its consumer has a record (R150). -/
theorem State.refuseMsg_revoked (s : State) (q : Nat) (x : Qp) (psn i : Nat) :
    .roceNak q psn 2 ∈ (s.refuseMsg q x psn i .revoked).out ∧ (s.refuseMsg q x psn i .revoked).rdm.qps = s.rdm.qps ∧
      ((s.refuseMsg q x psn i .revoked).win i).refused = (s.win i).refused + 1 ∧
      .roceRefusal (s.win i).d.consumer STS_WINDOW_REVOKED q psn i ∈ (s.refuseMsg q x psn i .revoked).out :=
  ⟨List.mem_cons_of_mem _ List.mem_cons_self, rfl, congrArg Win.refused (State.win_putWin_self _ _ _), List.mem_cons_self⟩

/-- A page that becomes resident and that no READ is held for ends its faults, and nothing else happens (R153). -/
theorem State.pageResident_unheld {s : State} {window page : Nat}
    (h : ∀ f ∈ s.rdm.faults, f.window = window → f.page = page → f.held = false) :
    s.pageResident window page =
      { s with rdm := { s.rdm with faults := s.rdm.faults.filter (fun f => !(f.window == window && f.page == page)) } } := by
  refine (List.foldl_ext _ (fun u _ => u) _ fun u f hf => ?_).trans (List.foldl_fixed _)
  obtain ⟨hmem, hat⟩ := List.mem_filter.1 hf
  simp only [Bool.and_eq_true, beq_iff_eq] at hat
  have hheld : f.held = false := h f hmem hat.1 hat.2
  split
  · rw [hheld]
    rfl
  · rfl

/-- Settles O30: what the responder does with each packet is said once above. -/
theorem responderTakesPackets : Obligations.ResponderTakesPackets := by
  unfold Obligations.ResponderTakesPackets
  refine ⟨?send, ?gap, ?revoked, ?resident, ?walked⟩
  case send =>
    intro s q p x hx hm he hst hb hd hf hl ho hs
    exact Completes.of_effect rfl (State.packetReceive_send ⟨hx, hm, he, hst⟩ hb hd hf hl ho hs)
  case gap =>
    intro s q p x hx hm he hst hf hd hgap hn
    exact Completes.of_effect (congrArg ended (State.packetReceive_gap ⟨hx, hm, he, hst⟩ hf hd hgap hn)) (s.nakSeq_spec q x x.expPsn)
  case revoked =>
    intro s q p x hx hm he hst hb hd hf ho hv
    have hrefused : s.packetReceive q p = s.refuseMsg q x p.psn (p.rkey / 4096) .revoked := by
      rw [State.packetReceive_first ⟨hx, hm, he, hst⟩ hb hd hf, State.firstPacket_write_revoked ho hv]
      rfl
    exact Completes.of_effect (congrArg ended hrefused) (s.refuseMsg_revoked q x p.psn (p.rkey / 4096))
  case resident =>
    intro s window page h
    exact Completes.of_effect (congrArg ended (State.pageResident_unheld h)) ⟨rfl, rfl, rfl⟩
  case walked =>
    intro s q key x hx hm
    exact Completes.of_effect rfl (State.walkDone_missing hx hm)

/-! ## The resend after an RNR NAK -/

/-- What a command completes with holds of the state its effect leaves, as the always-on logic holds it. -/
theorem Completes.of_exec {c : Instr} {s u : State} {P : State → Prop} (h : Completes c s P) (hu : exec c s = ended u) :
    P { u with aon := u.aon.settled } := by
  obtain ⟨t, ht, hp⟩ := h
  rw [hu, ended_eq, Host.Outcome.next.injEq] at ht
  rwa [ht]

/-- A resend that follows an RNR NAK leaves the count of resends without progress: it counts against RNR_RETRY only (R139). -/
theorem State.goBack_afterRnr {s : State} {q : Nat} {x : Qp} (hx : s.rdm.qps.look q = some x) (hw : x.rnrWait = true) :
    (s.goBack q).rdm.qps.look q =
      some { x with rnrWait := false, timer := some (s.now + ackPeriod x.ackTimeout), lastSend := s.now } := by
  simp only [State.goBack, hx, hw, Bool.not_true, Bool.false_and, Bool.false_eq_true, if_false, if_true]
  exact State.qp_setQp_self _ _ _

/-- The timer that an RNR NAK has restarted expires: the count of resends stands (R139). -/
theorem State.retransmit_afterRnr {s : State} {q t₀ : Nat} {x : Qp} (hx : s.rdm.qps.look q = some x) (hst : x.st = .rts)
    (ht : x.timer = some t₀) (hw : x.rnrWait = true) (hl : s.aon.leaseEnd = none) :
    ((s.retransmit q).rdm.qps.look q).map Qp.retries = some x.retries := by
  simp only [State.retransmit, hx, ht, hst, if_true, State.advance_unleased hl]
  rw [State.goBack_afterRnr (s := { s with now := max s.now t₀ }) hx hw]
  rfl

/-- A queue pair in RTS that has one packet outstanding. -/
def requesterQp : Qp :=
  { st := .rts, consumer := 1, tenant := 0, engine := 0, expPsn := 0, nakSent := false, msg := none, una := 0, nxt := 1, retries := 0,
    rnrs := 0, ackTimeout := 3, retryCnt := 7, rnrRetry := 7, timer := some (ackPeriod 3), rate := Frac.int 1000, line := 1000,
    probe := none, probeAt := 0, lastSend := 0, missing := none, faultAt := none, rnrWait := false }

/-- That queue pair once the peer has answered its packet with an RNR NAK of timer code 1, 10 µs. -/
def requesterAfterRnr : Qp := { requesterQp with rnrs := 1, timer := some (rnrNs 1 * unitsPerNs), rnrWait := true }

/-- A head, as reset leaves it, that has this one queue pair. -/
def State.withRequester : State := { State.reset with rdm := { State.reset.rdm with qps := [(0, requesterQp)] } }

/-- The RNR NAK of the peer brings the queue pair to where its timer waits for the RNR NAK. -/
theorem withRequester_rnrReceive : (State.withRequester.rnrReceive 0 0 1).rdm.qps.look 0 = some requesterAfterRnr := rfl

/-- Refutes O31: its fourth clause has every expiry of the retransmit timer add one to the resends without progress. The resend that follows
an RNR NAK counts against RNR_RETRY only (R139): the clause fails on the head to which ROCE_RNR_NAK_RECEIVE brings `State.withRequester`. -/
theorem not_requesterRecoversAndPaces : ¬ Obligations.RequesterRecoversAndPaces := by
  intro h
  obtain ⟨-, -, -, hexpiry, -⟩ := h
  obtain ⟨-, -, y, hy, -, hretries⟩ := (hexpiry (State.withRequester.rnrReceive 0 0 1) 0 (rnrNs 1 * unitsPerNs) requesterAfterRnr
    withRequester_rnrReceive rfl rfl (by decide) rfl).of_exec (u := (State.withRequester.rnrReceive 0 0 1).retransmit 0) rfl
  have hstands := State.retransmit_afterRnr (t₀ := rnrNs 1 * unitsPerNs) withRequester_rnrReceive rfl rfl rfl rfl
  have hlook : ((State.withRequester.rnrReceive 0 0 1).retransmit 0).rdm.qps.look 0 = some y := hy
  rw [hlook, Option.map_some, Option.some.injEq, hretries] at hstands
  exact absurd hstands (by decide)

/-! ## The base of a window that is read -/

/-- There is a window 0 (R144). -/
theorem State.winCount_pos (s : State) : 0 < s.winCount := Nat.two_pow_pos _

/-- `RDM_WIN_STAGE.BASE_VA` takes the low 48 bits of the base of the window that is read (Table 06.4, R157). -/
theorem State.windowRead_baseVa {s : State} {i : Nat} (hb : s.rdb Fld.RDM_WIN_RESULT_BUSY = false) (hi : i < s.winCount) :
    (s.windowRead i).rd Fld.RDM_WIN_STAGE_BASE_VA = (s.win i).d.base % 2 ^ 48 := by
  have hbegun : s.winCmdBegin i =
      (((s.wr Fld.RDM_WIN_RESULT_BUSY 1).wr Fld.RDM_WIN_RESULT_DONE 0).wr Fld.RDM_WIN_RESULT_INDEX i, true) := by
    simp only [State.winCmdBegin, hb, Bool.false_eq_true, if_false]
  simp only [State.windowRead, hbegun, Bool.not_true, Bool.false_eq_true, if_false, if_neg (Nat.not_le.2 hi), State.winResult, if_true,
    State.wrb_eq]
  simp (disch := decide) only [State.rd_wr_ne]
  exact State.rd_wr_self _ _ _ _ _

/-- A window whose base lies one past what `BASE_VA` holds. -/
def highWindow : WinDesc :=
  { base := 2 ^ 48, len := 4096, qp := 0, qpBind := false, rd := true, wr := true, imm := false, pageable := false, consumer := 1,
    tenant := 0, deadlineUs := 100 }

/-- A head on which a consumer's port has opened window 0 with that descriptor: it is as reset leaves it, with every register field at the
reset value of its table. -/
def State.withHighWindow : State := State.windowOpen { State.reset with regs := [] } 0 (some highWindow) true

/-- Refutes O32: its eleventh clause has WINDOW_READ_ENTRY show the base of a window in 64 bits, and `RDM_WIN_STAGE.BASE_VA` has 48
(Table 06.4): of a window opened at 2^48 it shows 0. -/
theorem not_queuePairsAndWindows : ¬ Obligations.QueuePairsAndWindows := by
  intro h
  obtain ⟨-, -, -, -, -, -, -, -, -, -, hread, -⟩ := h
  have hbusy : State.withHighWindow.rdb Fld.RDM_WIN_RESULT_BUSY = false := by decide
  have hcount := State.withHighWindow.winCount_pos
  have hbase : (State.withHighWindow.win 0).d.base = 2 ^ 48 := rfl
  obtain ⟨hva, -⟩ := (hread State.withHighWindow 0 hbusy hcount).of_exec (u := State.withHighWindow.windowRead 0) rfl
  rw [State.rd_settled, State.windowRead_baseVa hbusy hcount, hbase] at hva
  exact absurd hva (by decide)

end Sys2Proof.Machine
end

section
/-! PROOFS. What reset leaves: claims, drivers, the lease, and the registers of every block (R170, R238, R367, R440, Table 17.1). -/

namespace Sys2Proof.Machine

open Sys2Proof

/-! ## Register fields at reset -/

/-- The rows of a table lie in the order of their indices (R518). -/
theorem Field.key_row_mono (f : Field) {i m : Nat} (h : i ≤ m) : f.key i 0 ≤ f.key m 0 := by
  rw [Field.key_row, Field.key_row f m]
  exact Nat.add_le_add_left (Nat.mul_le_mul_right _ h) _

/-- The fuses and R102 give values to fields of GLB, to the vector counts of HRI's functions, and to the sigma of the delay monitors only. -/
theorem key_of_mem_resetRegs {e : Nat × Nat} (h : e ∈ resetRegs) :
    e.1 ≤ Fld.GLB_UID_UID.key 0 0 ∨ (Fld.HRI_FN_MSIX_COUNT.key 0 0 ≤ e.1 ∧ e.1 ≤ Fld.HRI_FN_MSIX_COUNT.key 255 0) ∨
      e.1 = Fld.AGE_FUSE_PS_PER_MV.key 0 0 := by
  simp only [resetRegs, List.mem_append] at h
  obtain (hglb | hfn) | hage := h
  · exact .inl ((by decide : ∀ e ∈ _, e.1 ≤ Fld.GLB_UID_UID.key 0 0) e hglb)
  · obtain ⟨n, hn, rfl⟩ := List.mem_map.1 hfn
    exact .inr (.inl ⟨Field.key_zero_le _ _ _, Field.key_row_mono _ (Nat.le_of_lt_succ (List.mem_range.1 hn))⟩)
  · exact .inr (.inr (by rw [List.mem_singleton.1 hage]))

/-- A field to which neither the fuses nor R102 give a value is at the reset value of its table. -/
theorem State.rd_reset_of_not_listed {f : Field} {i j : Nat} (h : ∀ e ∈ resetRegs, e.1 ≠ f.key i j) : State.reset.rd f i j = f.reset := by
  rw [State.rd, State.reset, Assoc.getD]
  cases hl : resetRegs.look (f.key i j) with
  | none => rfl
  | some v =>
    obtain ⟨e, he, hk⟩ := List.mem_map.1 (Assoc.mem_keys_of_look hl)
    exact absurd hk (h e he)

/-- A field that lies between GLB and the functions of HRI is at its reset value. -/
theorem State.rd_reset_first {f : Field} {i j : Nat} (hlo : Fld.GLB_UID_UID.key 0 0 < f.key i j)
    (hhi : f.key i j < Fld.HRI_FN_MSIX_COUNT.key 0 0) : State.reset.rd f i j = f.reset := by
  have hage : Fld.HRI_FN_MSIX_COUNT.key 0 0 < Fld.AGE_FUSE_PS_PER_MV.key 0 0 := by decide
  refine State.rd_reset_of_not_listed fun e he => ?_
  have hlisted := key_of_mem_resetRegs he
  omega

/-- Every row up to the m-th of a table that lies between the functions of HRI and the fuses of AGE is at its reset value. -/
theorem State.rd_reset_row {f : Field} {m : Nat} (hlo : Fld.HRI_FN_MSIX_COUNT.key 255 0 < f.key 0 0)
    (hhi : f.key m 0 < Fld.AGE_FUSE_PS_PER_MV.key 0 0) {i : Nat} (hi : i ≤ m) : State.reset.rd f i = f.reset := by
  have hglb : Fld.GLB_UID_UID.key 0 0 < Fld.HRI_FN_MSIX_COUNT.key 255 0 := by decide
  have hfirst : f.key 0 0 ≤ f.key i 0 := f.key_zero_le i 0
  have hlast : f.key i 0 ≤ f.key m 0 := f.key_row_mono hi
  refine State.rd_reset_of_not_listed fun e he => ?_
  have hlisted := key_of_mem_resetRegs he
  omega

/-- A head with no claim and no driver is safe for the partner (R11, R378). -/
theorem State.safe_reset : State.reset.Safe :=
  ⟨fun _ h => absurd h Bool.false_ne_true, fun h => absurd rfl h⟩

/-- Settles O4: of what it names, neither the fuses nor R102 give a value to any, so each stands at its table's reset value. -/
theorem resetLeavesTheHeadQuiet : Obligations.ResetLeavesTheHeadQuiet := by
  unfold Obligations.ResetLeavesTheHeadQuiet
  refine ⟨State.safe_reset, rfl, rfl, rfl, rfl, rfl, ?lease, ?time, ?link, ?tables, ?keys, ?windows, ?rings⟩
  case lease => exact State.rd_reset_row (m := 0) (by decide) (by decide) le_rfl
  case time => exact State.rd_reset_first (by decide) (by decide)
  case link => exact State.rd_reset_row (m := 0) (by decide) (by decide) le_rfl
  case tables =>
    exact fun p hp => ⟨State.rd_reset_row (by decide) (by decide) (Nat.le_of_lt_succ hp),
      State.rd_reset_row (by decide) (by decide) (Nat.le_of_lt_succ hp)⟩
  case keys => exact fun n hn => State.rd_reset_row (by decide) (by decide) (Nat.le_of_lt_succ hn)
  case windows => exact State.rd_reset_row (m := 0) (by decide) (by decide) le_rfl
  case rings => exact fun r hr => State.rd_reset_row (by decide) (by decide) (Nat.le_of_lt_succ hr)

end Sys2Proof.Machine
end

section
/-! PROOFS. Buffers and pools: grants, frees and their refusal, `POL_OP`, and the states of a pool (R161 to R170, R172). -/

namespace Sys2Proof.Machine

open Sys2Proof

/-! ## Register fields -/

/-- Two fields that lie apart within a row lie apart at every pair of rows (R518). -/
theorem Field.key_ne_of_mod {f g : Field} (hs : g.stride = f.stride) (h : g.key 0 0 % f.stride ≠ f.key 0 0 % f.stride) (i k : Nat) :
    g.key i 0 ≠ f.key k 0 := by
  intro he
  have hm : g.key i 0 % f.stride = f.key k 0 % f.stride := by rw [he]
  rw [Field.key_row g, Field.key_row f, hs, Nat.add_mul_mod_self_right, Nat.add_mul_mod_self_right] at hm
  exact h hm

@[simp] theorem State.record_pol (s : State) (src code a0 a1 a2 : Nat) (alarm : Bool) : (s.record src code a0 a1 a2 alarm).pol = s.pol := by
  rw [State.record, (s.recordAt_frame src code a0 a1 a2 s.ctNs alarm).1]

/-! ## The free store -/

/-- Indices taken from the ring change no state bit (R166). -/
theorem Pool.fromRing_taken (x : Pool) (count n : Nat) : (x.fromRing count n).1.taken = x.taken := by
  induction n generalizing x with
  | zero => rfl
  | succ n ih =>
    unfold Pool.fromRing
    split
    · exact ih _
    · split
      · rfl
      · exact ih _

/-- Neither does a refill or a spill (R165, R166). -/
@[simp] theorem Pool.balance_taken (x : Pool) (count : Nat) : (x.balance count).taken = x.taken := by
  unfold Pool.balance
  split
  · exact x.fromRing_taken count 64
  · split <;> rfl

@[simp] theorem State.pool_setPool_self (s : State) (p : Nat) (x : Pool) : (s.setPool p x).pool p = x := Assoc.getD_put_self _ _ _ _
theorem State.pool_congr {s t : State} (h : t.pol = s.pol) (p : Nat) : t.pool p = s.pool p := by rw [State.pool, h, State.pool]

/-! ## Grants -/

/-- A grant raises HELD by the buffers granted, takes them from the pool, and answers nothing itself (R161). -/
theorem State.polGrant_spec (s : State) (p o n : Nat) :
    (s.polGrant p o n).1.rd Fld.POL_HELD_HELD o p = (s.held o p + n) % 2 ^ 25 ∧
      (s.polGrant p o n).1.pool p = ((s.pool p).take (s.rd Fld.POL_POOL_CFG_COUNT p) n).1 ∧ (s.polGrant p o n).1.out = s.out :=
  ⟨State.rd_wr_self _ Fld.POL_HELD_HELD _ _ _, State.pool_setPool_self _ _ _, rfl⟩

/-- An immediate request to an ACTIVE pool is granted where it passes the test of R161, and ends without a grant where it does not (R162). -/
theorem State.polAllocate_immediate {s : State} {p : Nat} (hb : s.admittedPend Blk.POL = false) (he : s.rdb Fld.POL_CTRL_ENABLE = true)
    (hst : s.poolSt p = poolActive) (b o n : Nat) :
    s.polAllocate b p o n false =
      if s.grants p o n then (s.polGrant p o n).1.emit (.polAnswer b p o STS_OK (s.polGrant p o n).2)
      else s.emit (.polAnswer b p o STS_NO_BUFFER []) := by
  have hno : (!s.rdb Fld.POL_CTRL_ENABLE || s.poolSt p == poolDisabled || s.poolSt p == poolDraining) = false := by
    rw [he, hst]
    rfl
  have hfill : s.poolSt p ≠ poolFilling := by
    rw [hst]
    decide
  simp only [State.polAllocate, State.boundary_eq hb, hno, hfill, Bool.false_and, Bool.false_eq_true, if_false]

/-! ## Frees -/

/-- With no request waiting, free buffers are offered to nobody (R162). -/
theorem State.offerAll_none {s : State} (h : s.pol.waits = []) (p : Nat) : s.offerAll p = s := by
  rw [State.offerAll, h]
  split <;> rfl

/-- A free that is accepted, with no request waiting: HELD falls by one, the state bit is cleared, and POL answers nothing itself (R168). -/
theorem State.freeTaken_spec {s : State} (h : s.pol.waits = []) (p i o : Nat) :
    (s.freeTaken p i o).rd Fld.POL_HELD_HELD o p = (s.held o p - 1) % 2 ^ 25 ∧
      ((s.freeTaken p i o).pool p).taken = (s.pool p).taken.remove i ∧ (s.freeTaken p i o).out = s.out := by
  rw [State.freeTaken, State.offerAll_none (by exact h)]
  refine ⟨State.rd_wr_self _ Fld.POL_HELD_HELD _ _ _, ?_, rfl⟩
  exact (congrArg Pool.taken (State.pool_setPool_self _ _ _)).trans (Pool.balance_taken _ _)

/-- A free that is refused leaves the pools, and `POL_ERR_INFO` names its owner (R169). -/
theorem State.freeRefused_spec (s : State) (b p i o : Nat) :
    (s.freeRefused b p i o).pol = s.pol ∧ (s.freeRefused b p i o).rd Fld.POL_ERR_INFO_OWNER = o % 2 ^ 10 ∧
      (s.freeRefused b p i o).out = s.out := by
  refine ⟨State.record_pol _ _ _ _ _ _ _, ?_, State.record_out _ _ _ _ _ _ _⟩
  rw [State.freeRefused, State.rd_record _ _ _ _ _ _ _ _ _ _ (by decide), State.raise_eq,
    State.rd_wr_ne _ _ _ _ _ _ _ _ (by split <;> decide), State.rd_wr_ne _ _ _ _ _ _ _ _ (by decide)]
  exact State.rd_wr_self _ Fld.POL_ERR_INFO_OWNER _ _ _

/-! ## POL_OP -/

/-- A result shows its status, is not busy, and leaves the pools and `POL_OP_ADDR` (R172). -/
theorem State.polOpResult_spec (s : State) (status : Nat) :
    (s.polOpResult status).rd Fld.POL_OP_RESULT_STATUS = status % 2 ^ 16 ∧ (s.polOpResult status).rd Fld.POL_OP_RESULT_BUSY = 0 ∧
      (s.polOpResult status).rd Fld.POL_OP_ADDR_INDEX = s.rd Fld.POL_OP_ADDR_INDEX ∧ (s.polOpResult status).pol = s.pol := by
  unfold State.polOpResult
  refine ⟨?_, State.rd_wr_self _ Fld.POL_OP_RESULT_BUSY 0 0 0, ?_, rfl⟩
  · rw [State.rd_wr_ne _ _ _ _ _ _ _ _ (by decide)]
    exact State.rd_wr_self _ Fld.POL_OP_RESULT_STATUS _ _ _
  · simp (disch := decide) only [State.rd_wr_ne]

/-- An operation that is granted its buffer returns it in `POL_OP_ADDR` (R172). -/
theorem State.polOpAllocate_granted {s : State} {p o i : Nat} (hbusy : s.rdb Fld.POL_OP_RESULT_BUSY = false)
    (hb : s.admittedPend Blk.POL = false) (he : s.rdb Fld.POL_CTRL_ENABLE = true) (hst : s.poolSt p = poolActive)
    (hg : s.grants p o 1 = true) (hi : ((s.pool p).take (s.rd Fld.POL_POOL_CFG_COUNT p) 1).2 = [i]) :
    s.polOpAllocate p o = ((s.polGrant p o 1).1.wr Fld.POL_OP_ADDR_INDEX i).polOpResult STS_OK := by
  have hone : (s.polGrant p o 1).2 = [i] := hi
  simp only [State.polOpAllocate, hbusy, State.boundary_eq hb, he, hst, hg, hone, beq_self_eq_true, Bool.and_self, Bool.false_eq_true, if_false,
    if_true]

/-- POL_OP_ALLOCATE of a request that passes the test of R161 (R172). -/
theorem State.polOpAllocate_spec {s : State} {p o i : Nat} (hbusy : s.rdb Fld.POL_OP_RESULT_BUSY = false)
    (hb : s.admittedPend Blk.POL = false) (he : s.rdb Fld.POL_CTRL_ENABLE = true) (hst : s.poolSt p = poolActive)
    (hg : s.grants p o 1 = true) (hi : ((s.pool p).take (s.rd Fld.POL_POOL_CFG_COUNT p) 1).2 = [i]) :
    (s.polOpAllocate p o).rd Fld.POL_OP_ADDR_INDEX = i % 2 ^ 24 ∧ (s.polOpAllocate p o).rd Fld.POL_OP_RESULT_STATUS = STS_OK ∧
      (s.polOpAllocate p o).pool p = ((s.pool p).take (s.rd Fld.POL_POOL_CFG_COUNT p) 1).1 := by
  obtain ⟨-, htaken, -⟩ := s.polGrant_spec p o 1
  rw [State.polOpAllocate_granted hbusy hb he hst hg hi]
  obtain ⟨hstatus, -, haddr, hpol⟩ := ((s.polGrant p o 1).1.wr Fld.POL_OP_ADDR_INDEX i).polOpResult_spec STS_OK
  exact ⟨haddr.trans (State.rd_wr_self _ Fld.POL_OP_ADDR_INDEX _ _ _), hstatus, (State.pool_congr hpol p).trans htaken⟩

/-- POL_OP_FREE of a free that R168 accepts, with no request waiting (R172). -/
theorem State.polOpFree_spec {s : State} {p o : Nat} (hbusy : s.rdb Fld.POL_OP_RESULT_BUSY = false)
    (hok : s.freeOk p (s.rd Fld.POL_OP_ADDR_INDEX) o = true) (hw : s.pol.waits = []) :
    (s.polOpFree p o).rd Fld.POL_OP_RESULT_STATUS = STS_OK ∧
      ((s.polOpFree p o).pool p).taken = (s.pool p).taken.remove (s.rd Fld.POL_OP_ADDR_INDEX) := by
  obtain ⟨-, htaken, -⟩ := State.freeTaken_spec hw p (s.rd Fld.POL_OP_ADDR_INDEX) o
  obtain ⟨hstatus, -, -, hpol⟩ := (s.freeTaken p (s.rd Fld.POL_OP_ADDR_INDEX) o).polOpResult_spec STS_OK
  simp only [State.polOpFree, hbusy, hok, Bool.false_eq_true, if_false, if_true]
  exact ⟨hstatus, (congrArg Pool.taken (State.pool_congr hpol p)).trans htaken⟩

/-- POL_OP_RESERVED ends at once with STS_BAD_DESCRIPTOR (R172). -/
theorem State.polOpReserved_eq {s : State} (h : s.rdb Fld.POL_OP_RESULT_BUSY = false) : s.polOpReserved = s.polOpResult STS_BAD_DESCRIPTOR := by
  simp only [State.polOpReserved, h, Bool.false_eq_true, if_false]

/-! ## Pool states -/

/-- A state written to a pool is its state, its bit of `POL_STATUS.ACTIVE` follows, and ENABLE and the pools stand (Table 07.3). -/
theorem State.setPoolSt_spec (s : State) (p : Nat) {st : Nat} (h : st < 4) :
    (s.setPoolSt p st).poolSt p = st ∧
      (s.setPoolSt p st).rd Fld.POL_STATUS_ACTIVE =
        (if st = poolActive then setBit (s.rd Fld.POL_STATUS_ACTIVE) p else clrBit (s.rd Fld.POL_STATUS_ACTIVE) p) % 2 ^ 16 ∧
      (s.setPoolSt p st).rd Fld.POL_POOL_CFG_ENABLE p = s.rd Fld.POL_POOL_CFG_ENABLE p ∧ (s.setPoolSt p st).pol = s.pol := by
  unfold State.setPoolSt
  refine ⟨?_, ?_, ?_, rfl⟩
  · exact (State.rd_wr_self _ Fld.POL_POOL_STAT_STATE st p 0).trans (Nat.mod_eq_of_lt h)
  · rw [State.rd_wr_under _ st p (by decide)]
    exact State.rd_wr_self _ Fld.POL_STATUS_ACTIVE _ _ _
  · exact (State.rd_wr_row (f := Fld.POL_POOL_STAT_STATE) (g := Fld.POL_POOL_CFG_ENABLE) _ st p rfl (by decide)).trans
      (State.rd_wr_above (f := Fld.POL_STATUS_ACTIVE) _ _ p 0 (by decide))

/-- The waiting requests that end without a grant are those the predicate picks, and the pools stand (R162). -/
theorem State.waitFails_pol (s : State) (q : PolWait → Bool) :
    (s.waitFails q).pol = { s.pol with waits := s.pol.waits.filter (fun w => !q w) } :=
  (foldl_keeps State.countWaits (·.pol) (fun _ _ => rfl) _ _).trans (foldl_keeps _ (·.pol) (by exact fun _ _ => rfl) _ _)

@[simp] theorem State.waitFails_waits (s : State) (q : PolWait → Bool) : (s.waitFails q).pol.waits = s.pol.waits.filter (fun w => !q w) := by
  rw [State.waitFails_pol]
@[simp] theorem State.waitFails_pools (s : State) (q : PolWait → Bool) : (s.waitFails q).pol.pools = s.pol.pools := by
  rw [State.waitFails_pol]

/-- Of the registers, requests that end without a grant change WAITING alone (R162). -/
theorem State.rd_waitFails (s : State) (q : PolWait → Bool) {f : Field} {i : Nat}
    (h : ∀ k, f.key i 0 ≠ Fld.POL_POOL_STAT_WAITING.key k 0) : (s.waitFails q).rd f i = s.rd f i :=
  (foldl_keeps State.countWaits (·.rd f i) (fun _ k => State.rd_wr_ne _ _ _ _ _ _ _ _ (h k)) _ _).trans
    (foldl_keeps _ (·.rd f i) (by exact fun _ _ => rfl) _ _)

/-- So every other field of the pools' table stands. -/
theorem State.rd_waitFails_row (s : State) (q : PolWait → Bool) (f : Field) (i : Nat) (hs : f.stride = Fld.POL_POOL_STAT_WAITING.stride)
    (h : f.key 0 0 % Fld.POL_POOL_STAT_WAITING.stride ≠ Fld.POL_POOL_STAT_WAITING.key 0 0 % Fld.POL_POOL_STAT_WAITING.stride) :
    (s.waitFails q).rd f i = s.rd f i :=
  State.rd_waitFails s q (Field.key_ne_of_mod hs h i)

/-- A field whose setting no check refuses is set (R443). -/
theorem State.tryEnable_passes {s : State} {f : Field} {i : Nat} (h : (s.tryEnable f i).2 = true) : s.tryEnable f i = (s.wr f 1 i, true) := by
  cases hv : refusal f.blk s (s.wr f 1 i) with
  | none => simp only [State.tryEnable, hv]
  | some v => simp [State.tryEnable, hv] at h

/-- POOL_ENABLE of a DISABLED pool that the checks of R159 let pass: the pool fills (R170). -/
theorem State.poolEnable_spec {s : State} {p : Nat} (he : s.rdb Fld.POL_POOL_CFG_ENABLE p = false) (hst : s.poolSt p = poolDisabled)
    (hok : (s.tryEnable Fld.POL_POOL_CFG_ENABLE p).2 = true) :
    (s.poolEnable p).poolSt p = poolFilling ∧ (s.poolEnable p).rd Fld.POL_POOL_CFG_ENABLE p = 1 ∧ (s.poolEnable p).pol = s.pol := by
  have hfill : s.poolEnable p = (s.wr Fld.POL_POOL_CFG_ENABLE 1 p).setPoolSt p poolFilling := by
    simp only [State.poolEnable, he, hst, State.tryEnable_passes hok, Bool.false_eq_true, if_false, if_true]
  obtain ⟨hstate, -, hen, hpol⟩ := (s.wr Fld.POL_POOL_CFG_ENABLE 1 p).setPoolSt_spec p (st := poolFilling) (by decide)
  rw [hfill]
  exact ⟨hstate, hen.trans (State.rd_wr_self _ Fld.POL_POOL_CFG_ENABLE _ _ _), hpol⟩

/-- POOL_FILL_END, with no request waiting: ACTIVE, with every state bit clear (R170). -/
theorem State.poolFillEnd_spec {s : State} {p : Nat} (hst : s.poolSt p = poolFilling) (hw : s.pol.waits = []) :
    (s.poolFillEnd p).poolSt p = poolActive ∧ ((s.poolFillEnd p).pool p).taken = [] ∧
      (s.poolFillEnd p).rd Fld.POL_STATUS_ACTIVE = setBit (s.rd Fld.POL_STATUS_ACTIVE) p % 2 ^ 16 := by
  obtain ⟨hstate, hbit, -, hpol⟩ :=
    (s.setPool p (Pool.init.balance (s.rd Fld.POL_POOL_CFG_COUNT p))).setPoolSt_spec p (st := poolActive) (by decide)
  rw [State.poolFillEnd, if_pos hst, State.offerAll_none (by exact hw)]
  refine ⟨hstate, ?_, hbit⟩
  rw [State.pool_congr hpol, State.pool_setPool_self, Pool.balance_taken]
  rfl

/-- POOL_DISABLE of an ACTIVE pool whose buffers are held: the pool drains, and its waiting requests complete (Table 07.3). -/
theorem State.poolDisable_held {s : State} {p : Nat} (he : s.rdb Fld.POL_POOL_CFG_ENABLE p = true) (hst : s.poolSt p = poolActive)
    (ht : (s.pool p).taken ≠ []) :
    s.poolDisable p = ((s.wr Fld.POL_POOL_CFG_ENABLE 0 p).setPoolSt p poolDraining).waitFails (fun w => w.pool == p) := by
  have hact : (s.wr Fld.POL_POOL_CFG_ENABLE 0 p).poolSt p = poolActive :=
    (State.rd_wr_row (f := Fld.POL_POOL_CFG_ENABLE) (g := Fld.POL_POOL_STAT_STATE) s 0 p rfl (by decide)).trans hst
  have hheld : ((((s.wr Fld.POL_POOL_CFG_ENABLE 0 p).setPoolSt p poolDraining).waitFails (fun w => w.pool == p)).pool p).taken ≠ [] := by
    rw [State.pool, State.waitFails_pools]
    exact ht
  simp only [State.poolDisable, he, hact, hheld, Bool.not_true, Bool.false_eq_true, true_or, if_false, if_true]

/-- Such a pool is DRAINING with ENABLE 0, only its own requests no longer wait, and the pools' buffers stand (R162, Table 07.3). -/
theorem State.poolDisable_spec {s : State} {p : Nat} (he : s.rdb Fld.POL_POOL_CFG_ENABLE p = true) (hst : s.poolSt p = poolActive)
    (ht : (s.pool p).taken ≠ []) :
    (s.poolDisable p).poolSt p = poolDraining ∧ (s.poolDisable p).rd Fld.POL_POOL_CFG_ENABLE p = 0 ∧
      (s.poolDisable p).pol.waits = s.pol.waits.filter (fun w => !(w.pool == p)) ∧ (s.poolDisable p).pol.pools = s.pol.pools := by
  obtain ⟨hstate, -, hen, -⟩ := (s.wr Fld.POL_POOL_CFG_ENABLE 0 p).setPoolSt_spec p (st := poolDraining) (by decide)
  rw [State.poolDisable_held he hst ht]
  refine ⟨?_, ?_, State.waitFails_waits _ _, State.waitFails_pools _ _⟩
  · exact (State.rd_waitFails_row _ _ Fld.POL_POOL_STAT_STATE p rfl (by decide)).trans hstate
  · exact (State.rd_waitFails_row _ _ Fld.POL_POOL_CFG_ENABLE p rfl (by decide)).trans
      (hen.trans (State.rd_wr_self s Fld.POL_POOL_CFG_ENABLE 0 p 0))

/-- POOL_DRAIN_END of a pool that has its buffers back, with ENABLE 0: DISABLED, and the pool is as reset leaves it (R170). -/
theorem State.poolDrainEnd_spec {s : State} {p : Nat} (he : s.rdb Fld.POL_POOL_CFG_ENABLE p = false) (hst : s.poolSt p = poolDraining)
    (ht : (s.pool p).taken = []) : (s.poolDrainEnd p).poolSt p = poolDisabled ∧ (s.poolDrainEnd p).pool p = Pool.init := by
  obtain ⟨hstate, -, hen, hpol⟩ := (s.setPool p Pool.init).setPoolSt_spec p (st := poolDisabled) (by decide)
  have hoff : (s.poolEmptied p).rdb Fld.POL_POOL_CFG_ENABLE p = false := by
    rw [State.rdb, State.poolEmptied, hen]
    exact he
  have hend : s.poolDrainEnd p = s.poolEmptied p := by
    simp only [State.poolDrainEnd, hst, ht, hoff, and_self, Bool.false_eq_true, if_false, if_true]
  rw [hend]
  exact ⟨hstate, (State.pool_congr hpol p).trans (State.pool_setPool_self _ _ _)⟩

/-- POL_DISABLE: ENABLE is cleared, every waiting request completes, and the pools stand (R162). -/
theorem State.polDisable_spec {s : State} (he : s.rdb Fld.POL_CTRL_ENABLE = true) :
    s.polDisable.rd Fld.POL_CTRL_ENABLE = 0 ∧ s.polDisable.pol.waits = [] ∧ s.polDisable.pol.pools = s.pol.pools := by
  have hbelow : ∀ k, Fld.POL_CTRL_ENABLE.key 0 0 < Fld.POL_POOL_STAT_WAITING.key k 0 :=
    fun k => Nat.lt_of_lt_of_le (by decide) (Field.key_zero_le _ k 0)
  rw [State.polDisable, if_pos he]
  refine ⟨?_, ?_, State.waitFails_pools _ _⟩
  · rw [State.rd_waitFails _ _ fun k => (hbelow k).ne]
    exact State.rd_wr_self s Fld.POL_CTRL_ENABLE 0 0 0
  · rw [State.waitFails_waits]
    exact List.filter_false _

/-! ## The statement -/

/-- Settles O33: each command takes one branch of its effect, and the always-on logic at its end touches none of it. -/
theorem buffersAndPools : Obligations.BuffersAndPools := by
  unfold Obligations.BuffersAndPools
  refine ⟨?granted, ?noBuffer, ?freed, ?refused, ?opGranted, ?opFreed, ?opReserved, ?enabled, ?filled, ?disabled, ?drained, ?off⟩
  case granted =>
    intro s b p o n _ _ hb he hst hg
    obtain ⟨hheld, hpool, hout⟩ := s.polGrant_spec p o n
    exact Completes.of_effect (congrArg ended ((State.polAllocate_immediate hb he hst b o n).trans (if_pos hg)))
      ⟨hheld, hpool, congrArg (List.cons _) hout⟩
  case noBuffer =>
    intro s b p o n _ _ hb he hst hg
    have hno : ¬ s.grants p o n = true := by simp [hg]
    exact Completes.of_effect (congrArg ended ((State.polAllocate_immediate hb he hst b o n).trans (if_neg hno))) ⟨rfl, rfl, rfl⟩
  case freed =>
    intro s b p i o _ _ hok hw
    obtain ⟨hheld, htaken, hout⟩ := State.freeTaken_spec hw p i o
    exact Completes.of_effect (congrArg ended (if_pos hok)) ⟨hheld, htaken, congrArg (List.cons _) hout⟩
  case refused =>
    intro s b p i o _ _ hok
    have hno : ¬ s.freeOk p i o = true := by simp [hok]
    obtain ⟨hpol, howner, hout⟩ := s.freeRefused_spec b p i o
    exact Completes.of_effect (congrArg ended (if_neg hno)) ⟨hpol, howner, congrArg (List.cons _) hout⟩
  case opGranted => exact fun s p o i _ _ hbusy hb he hst hg hi => Completes.of_effect rfl (State.polOpAllocate_spec hbusy hb he hst hg hi)
  case opFreed => exact fun s p o _ _ hbusy hok hw => Completes.of_effect rfl (State.polOpFree_spec hbusy hok hw)
  case opReserved =>
    intro s hbusy
    obtain ⟨hstatus, hidle, -, hpol⟩ := s.polOpResult_spec STS_BAD_DESCRIPTOR
    exact Completes.of_effect (congrArg ended (State.polOpReserved_eq hbusy)) ⟨hstatus, hidle, hpol⟩
  case enabled => exact fun s p _ he hst hok => Completes.of_effect rfl (State.poolEnable_spec he hst hok)
  case filled => exact fun s p _ hst hw => Completes.of_effect rfl (State.poolFillEnd_spec hst hw)
  case disabled => exact fun s p _ he hst ht => Completes.of_effect rfl (State.poolDisable_spec he hst ht)
  case drained => exact fun s p _ he hst ht => Completes.of_effect rfl (State.poolDrainEnd_spec he hst ht)
  case off => exact fun s he => Completes.of_effect rfl (State.polDisable_spec he)

end Sys2Proof.Machine
end

section
/-! PROOFS. The refutation of the statement about the Isaov link: the settle counts at the end of a command (R11, R186). -/

namespace Sys2Proof.Machine

open Sys2Proof

/-! ## The end of a command on a head without claims -/

/-- Without a claim no settle time counts (R11). -/
theorem Aon.settled_settle_of_no_claim {a : Aon} (h : a.claimOut = []) : a.settled.settle = [] := by
  unfold Aon.settled
  split <;> simp [Aon.gate, Assoc.keep, NatSet.mem, h]

/-- A head that drives nothing and claims nothing is as the always-on logic holds it exactly where no settle time counts (R11). -/
theorem Aon.settled_eq_self_iff {a : Aon} (hd : a.drivers = []) (hc : a.claimOut = []) : a.settled = a ↔ a.settle = [] := by
  refine ⟨fun h => h ▸ Aon.settled_settle_of_no_claim hc, fun h => ?_⟩
  obtain ⟨hdrivers, hclaims⟩ := Aon.settled_of_no_claim hc
  calc a.settled = { a with drivers := a.settled.drivers, claimOut := a.settled.claimOut, settle := a.settled.settle } := by
        unfold Aon.settled Aon.gate
        split <;> rfl
    _ = a := by rw [hdrivers.trans hd.symm, hclaims.trans hc.symm, (Aon.settled_settle_of_no_claim hc).trans h.symm]

/-! ## A flit whose CRC fails -/

/-- On a link that is up, a flit whose CRC fails is answered with a NAK that names the expected FSEQ, and nothing else (R186). -/
theorem State.flitReceive_badCrc {s : State} (hup : s.linkUp = true) (fseq ack : Nat) (nak : Option Nat) (msgs : List IslMsg)
    (whole : List Nat) : s.flitReceive fseq false ack nak msgs whole = s.emit (.flitNak s.isl.rxExpect) := by
  simp only [State.flitReceive, hup, Bool.not_true, Bool.not_false, Bool.false_eq_true, if_false, if_true]

/-- On a head that drives nothing and claims nothing, the NAK is all that such a flit changes exactly where no settle time counts: a count
that is left without its claim stops at the end of the command (R11). -/
theorem islFlitReceive_badCrc_iff {s : State} (hup : s.linkUp = true) (hd : s.aon.drivers = []) (hc : s.aon.claimOut = []) (fseq ack : Nat)
    (nak : Option Nat) (msgs : List IslMsg) (whole : List Nat) :
    Completes (.islFlitReceive fseq false ack nak msgs whole) s (fun t => t = s.emit (.flitNak s.isl.rxExpect)) ↔ s.aon.settle = [] := by
  have hexec : exec (.islFlitReceive fseq false ack nak msgs whole) s = ended (s.emit (.flitNak s.isl.rxExpect)) :=
    congrArg ended (State.flitReceive_badCrc hup fseq ack nak msgs whole)
  rw [← Aon.settled_eq_self_iff hd hc]
  constructor
  · intro h
    exact congrArg State.aon (h.of_exec hexec)
  · intro h
    refine Completes.of_ended hexec ?_
    rw [State.emit_aon, h]
    rfl

/-! ## The statement -/

/-- A head whose link is up and which drives nothing and claims nothing, with a settle count of group 0 all the same; its other registers are
at the reset value of the table. No command leaves such a count (R11); the statement asks of its states only drivers and claims. -/
def State.withStraySettle : State :=
  State.wr { State.reset with regs := [], aon := { State.reset.aon with settle := [(0, 0)] } } Fld.ISL_STATUS_STATE islUp

/-- Refutes O34: its sixth clause has a flit whose CRC fails change nothing but what leaves the head, on every head that drives nothing and
claims nothing. A settle count without its claim is stopped at the end of the command (R11): the clause fails on `State.withStraySettle`, and
holds of the heads on which no settle time counts. -/
theorem not_isaovLinkFollowsTable0815 : ¬ Obligations.IsaovLinkFollowsTable0815 := by
  intro h
  obtain ⟨-, -, -, -, -, hcrc, -⟩ := h
  have hup : State.withStraySettle.linkUp = true := by decide
  have hnak := hcrc State.withStraySettle 0 0 none [] [] hup rfl rfl
  have hsettle : State.withStraySettle.aon.settle = [] := (islFlitReceive_badCrc_iff hup rfl rfl 0 0 none [] []).1 hnak
  have hcount : State.withStraySettle.aon.settle = [(0, 0)] := rfl
  simp [hcount] at hsettle

end Sys2Proof.Machine
end

section
/-! PROOFS. DDP: index messages, pins, references and the deferred queue (R199 to R211), and a chunk whose CRC fails (R218). -/

namespace Sys2Proof.Machine

open Sys2Proof

/-! ## Lookups in the index -/

/-- A lookup with reservation changes the index and, where a page is full, its bit; the deferred queue stands (Table 09.2). -/
theorem State.idxLookup_frame (s : State) (fp domain : Nat) :
    (∃ d r, (s.idxLookup fp domain).1 = { s with ddp := d, regs := r } ∧ d.deferQ = s.ddp.deferQ) ∧
      s.RegsBut (s.idxLookup fp domain).1 [Fld.DDP_ERR_PAGE_FULL] := by
  simp only [State.idxLookup]
  split
  · exact ⟨⟨_, _, rfl, rfl⟩, State.RegsBut.of_eq rfl _⟩
  · split
    · exact ⟨⟨_, _, rfl, rfl⟩, State.RegsBut.of_eq rfl _⟩
    · split
      · exact ⟨⟨_, _, rfl, rfl⟩, State.RegsBut.of_eq rfl _⟩
      · split
        · exact ⟨⟨_, _, rfl, rfl⟩, State.RegsBut.of_eq rfl _⟩
        · exact ⟨⟨_, _, rfl, rfl⟩, (State.RegsBut.of_eq rfl _).then_wr _ _ _ _ (by decide) (by decide) (by decide)⟩

/-- A field that lies below the error bits of DDP reads as before a lookup. -/
theorem State.rd_idxLookup (s : State) (fp domain : Nat) (f : Field) (h : f.key 0 0 < Fld.DDP_ERR_PAGE_FULL.key 0 0) :
    (s.idxLookup fp domain).1.rd f = s.rd f :=
  (s.idxLookup_frame fp domain).2.rd_below f 0 0 fun g hg => by rwa [List.mem_singleton.1 hg]

/-- A lookup leaves the link as it is. -/
theorem State.linkUp_idxLookup (s : State) (fp domain : Nat) : (s.idxLookup fp domain).1.linkUp = s.linkUp := by
  rw [State.linkUp, State.rd_idxLookup _ _ _ _ (by decide), State.linkUp]

@[simp] theorem State.isend_ddp (s : State) (vc : Nat) (m : IslMsg) : (s.isend vc m).ddp = s.ddp := by rw [State.isend_frame]

/-- The owner of a half answers the partner's query by its lookup, while it has room for a pin (R203, R204). -/
theorem State.indexMessage_eq {s : State} {fp : Nat} (hown : s.ownsHalf (s.idxPage fp) = true) (hup : s.linkUp = true)
    (hpins : s.pins < 65536) (domain : Nat) :
    s.indexMessage fp domain true = (s.idxLookup fp domain).1.isend 2 (.indexAnswer fp domain (s.idxLookup fp domain).2) := by
  simp [State.indexMessage, hown, hup, Nat.not_le.2 hpins]

/-! ## Pins -/

/-- A pin released beside others leaves the entry with one pin less (R204). -/
theorem State.unpin_shared {s : State} {h : Nat} {e : IdxEntry} (he : s.ddp.idx.look h = some e) (hp : 2 ≤ e.pins) :
    s.unpin h = { s with ddp := { s.ddp with idx := s.ddp.idx.put h { e with pins := e.pins - 1 } } } := by
  have hleft : ¬ (e.pins - 1 = 0 ∧ e.refcnt = 0) := by omega
  simp only [State.unpin, he, if_neg hleft]

/-- The last pin of a reservation that got no reference frees its slot (R204). -/
theorem State.unpin_reservation {s : State} {h : Nat} {e : IdxEntry} (he : s.ddp.idx.look h = some e) (hp : e.pins = 1)
    (hr : e.refcnt = 0) :
    s.unpin h = { s.recentDrop h with ddp := { (s.recentDrop h).ddp with idx := s.ddp.idx.del h } } := by
  simp only [State.unpin, he, hp, hr, Nat.sub_self, and_self, if_true]
  rfl

/-- A pin of this head's half is released here (R204). -/
theorem State.pinRelease_eq {s : State} {h : Nat} {e : IdxEntry} (hown : s.ownsHalf (h / 512) = true)
    (he : s.ddp.idx.look h = some e) (hp : 1 ≤ e.pins) : s.pinRelease h = s.unpin h := by
  have hpos : e.pins ≠ 0 := Nat.pos_iff_ne_zero.1 hp
  simp only [State.pinRelease, hown, he, if_true, if_neg hpos]

/-! ## Answers and the lookups of a write -/

/-- An answer that nobody waits for gives its pin back (R204). -/
theorem State.indexAnswer_unasked {s : State} {h : Nat} (hd : s.map.destages = []) (hq : s.ddp.deferQ = [])
    (hown : s.ownsHalf (h / 512) = true) (fp domain a : Nat) : s.indexAnswer fp domain (.matched h a) = s.unpin h := by
  simp only [State.indexAnswer, hd, hq, List.findSome?_nil, State.cancelPin, hown, if_true]

/-- An answer decides the first open lookup of the only reduction that waits (R203). -/
theorem State.indexAnswer_open {s : State} {fp domain o i : Nat} {x : WriteOp} {d : Destage} (hd : s.map.destages = [(o, d)])
    (hx : s.ops.look o = some x) (hi : s.openLookup x d fp domain = some i) (out : ChunkOut) :
    s.indexAnswer fp domain out = (s.countOut out).decideLookups o d (d.outs.set i (some out)) := by
  simp only [State.indexAnswer, hd, List.findSome?_cons, hx, hi, Option.map_some]

/-- An outcome counted changes registers alone. -/
theorem State.countOut_frame (s : State) (out : ChunkOut) : s.countOut out = { s with regs := (s.countOut out).regs } := by
  cases out <;> rfl

/-- A reduction with a lookup still open, or of a write that is gone, takes its outcomes and waits (R203). -/
theorem State.decideLookups_waits {s : State} {o : Nat} {d : Destage} {outs : List (Option ChunkOut)}
    (h : outs.all (fun y => y.isSome) = false ∨ s.ops.look o = none) :
    s.decideLookups o d outs = { s with map := { s.map with destages := s.map.destages.put o { d with outs := outs } } } := by
  simp only [State.decideLookups, State.reduceNext, Assoc.look_put_self]
  rcases h with h | h
  · have hopen : Destage.decided { d with outs := outs } = false := h
    split
    · next hx hd =>
      cases hd
      simp [hopen]
    · rfl
  · simp only [h]

/-- INLINE_NS after the queries the unanswered ones count as deferred (R203). -/
theorem State.indexTimeout_eq {s : State} {o : Nat} {d : Destage} (hd : s.map.destages.look o = some d) (hopen : d.decided = false) :
    s.indexTimeout o = ((s.advance (d.since + s.rd Fld.DDP_CFG_INLINE_NS * unitsPerNs)).bump Fld.DDP_STAT_NEW_COUNT
      (d.outs.filter (fun x => x.isNone)).length).decideLookups o d (d.outs.map (fun x => some (x.getD .deferred))) := by
  simp [State.indexTimeout, hd, hopen]

/-! ## References -/

/-- APPLIED as it was set (R206). -/
@[simp] theorem State.appliedOf_setApplied_self (s : State) (page : Nat) (d : Side) (j : Nat) :
    (s.setApplied page d j).appliedOf page d = j := by
  cases d <;> simp [State.appliedOf, State.setApplied]

/-- A +1 below saturation: the entry has one reference more, and the requester's pin ends (R204, R206). -/
theorem State.applyRef_plus {s : State} {d : Delta} {e : IdxEntry} (hk : d.kind = 3) (he : s.ddp.idx.look d.laddr = some e)
    (hs : e.refcnt + 1 < 0xFFFFFF00) :
    s.applyRef d = { s with ddp := { s.ddp with
      idx := s.ddp.idx.put d.laddr { e with refcnt := e.refcnt + 1, pins := e.pins - 1, addr := if e.addr = 0 then d.addr else e.addr } } } := by
  have hsat : ¬ 0xFFFFFF00 ≤ e.refcnt + 1 := Nat.not_le.2 hs
  simp only [State.applyRef, hk, if_true, he, if_neg hsat]

/-- The oldest record of a writer, with one reference that its page has not applied, is applied (R206). -/
theorem State.referenceApply_one {s : State} {m : Bool} {j : Nat} {d : Delta} (hf : (s.refRecords m).find? (fun r => r.1 == j) = some (j, [d]))
    (hfirst : (s.refRecords m).all (fun q => decide (j ≤ q.1)) = true) (hk : d.kind = 3) (hown : s.ownsHalf (d.laddr / 512) = true)
    (ha : s.appliedOf (d.laddr / 512) (s.writerSide m) < j) :
    s.referenceApply m j = (s.applyRef d).setApplied (d.laddr / 512) (s.writerSide m) j := by
  have hrefs : s.refsOf [d] = [d] := by simp [State.refsOf, hk, hown]
  have hnone : ∀ p : Nat × List Delta → Bool, (s.refRecords m).any (fun q => decide (q.1 < j) && p q) = false := fun p =>
    List.any_eq_false.2 fun q hq => by simp [Nat.not_lt.2 (of_decide_eq_true (List.all_eq_true.1 hfirst q hq))]
  simp [State.referenceApply, hf, hrefs, ha, hnone]

/-- A DYING entry whose checkpoint is persistent goes, and its chunk's space with it (R207). -/
theorem State.indexRelease_dying {s : State} {h : Nat} {e : IdxEntry} (he : s.ddp.idx.look h = some e) (hd : e.dying = true) :
    ∃ f, s.indexRelease h = { s with ddp := { s.ddp with idx := s.ddp.idx.del h, filter := f },
                                     map := { s.map with chunks := s.map.chunks.del e.addr } } := by
  simp only [State.indexRelease, he, hd]
  exact ⟨_, rfl⟩

/-! ## Deferred deduplication -/

/-- A record placed on a channel is found under its JSEQ (R180). -/
theorem State.place_look (s : State) (c j : Nat) (r : PjmRec) :
    ∃ r', (s.place c j r).pjm.recs.look j = some r' ∧ r'.body = r.body := by
  have hsend : ∀ (b : Bool) (u : State) (m : IslMsg), (if b = true then u.isend 1 m else u).pjm = u.pjm := fun b u m => by
    split
    · rw [State.isend_frame]
    · rfl
  simp only [State.place, hsend, Assoc.look_put_self]
  exact ⟨_, rfl, rfl⟩

/-- A record issued is found under the JSEQ that was the next (R180, R184). -/
theorem State.issue_look {s : State} (h : s.admittedPend Blk.PJM = false) (b : RecBody) (n o : Nat) :
    ∃ r, (s.issue b n o).pjm.recs.look s.nextJseq = some r ∧ r.body = b := by
  simp only [State.issue, State.boundary_eq h, State.nextJseq]
  split
  · exact State.place_look _ _ _ _
  · exact ⟨_, Assoc.look_put_self _ _ _, rfl⟩

/-- An entry that still leads to its chunk, and got a reservation, leaves the queue and becomes a MAPDELTA record (R209). -/
theorem State.deferApply_reserved {s : State} {e : DeferEnt} (hlive : s.deferLive e = true) (hpend : s.admittedPend Blk.PJM = false)
    (h : Nat) :
    (s.deferApply e (.reserved h)).ddp.deferQ = s.ddp.deferQ.tail ∧
      ∃ r ds, (s.deferApply e (.reserved h)).pjm.recs.look s.nextJseq = some r ∧ r.body = .mapDelta ds := by
  have hissue : ∀ u : State, u.adm = s.adm → u.regs = s.regs → u.ddp.deferQ = s.ddp.deferQ.tail → ∀ ds n o,
      (u.issue (.mapDelta ds) n o).ddp.deferQ = s.ddp.deferQ.tail ∧
        ∃ r ds', (u.issue (.mapDelta ds) n o).pjm.recs.look s.nextJseq = some r ∧ r.body = .mapDelta ds' := by
    intro u hadm hregs hdefer ds n o
    have hp : u.admittedPend Blk.PJM = false := (State.admittedPend_congr hadm _).trans hpend
    obtain ⟨⟨_, _, _, _, hframe⟩, -⟩ := State.issue_journals hp (.mapDelta ds) n o
    obtain ⟨r, hr, hb⟩ := State.issue_look hp (.mapDelta ds) n o
    have hj : u.nextJseq = s.nextJseq := State.rd_congr hregs _ _ _
    exact ⟨by rw [hframe]; exact hdefer, r, ds, hj ▸ hr, hb⟩
  have hlive' : s.deferPop.deferLive e = true := hlive
  simp only [State.deferApply, hlive', Bool.not_true, Bool.false_eq_true, if_false]
  split
  · apply hissue <;> rfl
  · apply hissue <;> rfl

/-- The engine looks up the entry at the head of its queue in this head's half (R209). -/
theorem State.deferredEntry_own {s : State} {e : DeferEnt} {l : List DeferEnt} {c : Chunk} (hq : s.ddp.deferQ = e :: l)
    (hlive : s.deferLive e = true) (hc : s.map.chunks.look e.addr = some c) (hown : s.ownsHalf (s.idxPage c.fp) = true)
    (hpins : s.pins < 65536) :
    s.deferredEntry = ((s.idxTouch (s.idxPage c.fp)).idxLookup c.fp c.domain).1.deferApply e
      ((s.idxTouch (s.idxPage c.fp)).idxLookup c.fp c.domain).2 := by
  simp [State.deferredEntry, hq, hlive, hc, hown, Nat.not_le.2 hpins]

/-- An entry that got a reservation leaves the queue and becomes a MAPDELTA record, which takes the next JSEQ (R209). -/
theorem State.deferredEntry_reserved {s : State} {e : DeferEnt} {l : List DeferEnt} {c : Chunk} {h : Nat} (hq : s.ddp.deferQ = e :: l)
    (hlive : s.deferLive e = true) (hc : s.map.chunks.look e.addr = some c) (hown : s.ownsHalf (s.idxPage c.fp) = true)
    (hpins : s.pins < 65536) (hout : ((s.idxTouch (s.idxPage c.fp)).idxLookup c.fp c.domain).2 = .reserved h)
    (hpend : s.admittedPend Blk.PJM = false) :
    s.deferredEntry.ddp.deferQ = l ∧ ∃ r ds, s.deferredEntry.pjm.recs.look s.nextJseq = some r ∧ r.body = .mapDelta ds := by
  obtain ⟨⟨d, r, hframe, hdq⟩, -⟩ := (s.idxTouch (s.idxPage c.fp)).idxLookup_frame c.fp c.domain
  have hj : ((s.idxTouch (s.idxPage c.fp)).idxLookup c.fp c.domain).1.nextJseq = s.nextJseq :=
    State.rd_idxLookup _ _ _ _ (by decide)
  rw [State.deferredEntry_own hq hlive hc hown hpins, hout, ← hj, hframe]
  have hpop := State.deferApply_reserved (s := { s.idxTouch (s.idxPage c.fp) with ddp := d, regs := r }) (e := e) hlive hpend h
  exact ⟨hpop.1.trans ((congrArg List.tail hdq).trans (congrArg List.tail hq)), hpop.2⟩

/-! ## Chunk checks -/

@[simp] theorem State.record_map (s : State) (src code a0 a1 a2 : Nat) (alarm : Bool) : (s.record src code a0 a1 a2 alarm).map = s.map := by
  rw [State.record, (s.recordAt_frame src code a0 a1 a2 s.ctNs alarm).1]

/-! ## The statement -/

/-- Settles O36. -/
theorem theIndexFollowsItsReferences : Obligations.TheIndexFollowsItsReferences := by
  refine ⟨?message, ?unasked, ?answer, ?timeout, ?unpin, ?free, ?reference, ?release, ?stale, ?deferred, ?crc⟩
  case message =>
    intro s fp dom hown hup hpins
    refine Completes.of_ended (congrArg ended (State.indexMessage_eq hown hup hpins dom)) ⟨?_, State.isend_ddp _ _ _⟩
    exact State.isend_out ((State.linkUp_idxLookup s fp dom).trans hup) _ _
  case unasked =>
    intro s fp dom h a e hd hq hown he hp
    exact Completes.of_ended (congrArg ended ((State.indexAnswer_unasked hd hq hown fp dom a).trans (State.unpin_shared he hp)))
      ⟨Assoc.look_put_self _ _ _, rfl⟩
  case answer =>
    intro s fp dom o i x d out hd hx hi hopen
    have hrun := (State.indexAnswer_open hd hx hi out).trans (State.decideLookups_waits (.inl hopen))
    refine Completes.of_ended (congrArg ended hrun) ⟨?_, ?_⟩
    · exact Assoc.look_put_self _ _ _
    · change (s.countOut out).ops = s.ops
      rw [State.countOut_frame]
  case timeout =>
    intro s o d hd hopen hx hl
    have hadv := State.advance_unleased hl (d.since + s.rd Fld.DDP_CFG_INLINE_NS * unitsPerNs)
    have hrun := State.indexTimeout_eq hd hopen
    rw [State.decideLookups_waits (.inr (by rw [hadv]; exact hx)), hadv] at hrun
    exact Completes.of_ended (congrArg ended hrun) ⟨rfl, Assoc.look_put_self _ _ _⟩
  case unpin =>
    intro s h e hown he hp
    exact Completes.of_ended (congrArg ended ((State.pinRelease_eq hown he (by omega)).trans (State.unpin_shared he hp)))
      ⟨Assoc.look_put_self _ _ _, rfl, rfl⟩
  case free =>
    intro s h e hown he hp hr
    exact Completes.of_ended (congrArg ended ((State.pinRelease_eq hown he hp.ge).trans (State.unpin_reservation he hp hr)))
      ⟨Assoc.look_del_self _ _, rfl, rfl⟩
  case reference =>
    intro s j d e hf hfirst hk hown ha he hs
    have hrun := State.referenceApply_one (m := false) hf hfirst hk hown ha
    rw [State.applyRef_plus hk he hs] at hrun
    exact Completes.of_ended (congrArg ended hrun)
      ⟨rfl, State.appliedOf_setApplied_self _ _ _ _, _, Assoc.look_put_self _ _ _, rfl, rfl⟩
  case release =>
    intro s h e he hd
    obtain ⟨f, hrun⟩ := State.indexRelease_dying he hd
    exact Completes.of_ended (congrArg ended hrun) ⟨Assoc.look_del_self _ _, Assoc.look_del_self _ _, rfl⟩
  case stale =>
    intro s e l hq hlive
    have hrun : s.deferredEntry = s.deferPop := by simp [State.deferredEntry, hq, hlive]
    exact Completes.of_ended (congrArg ended hrun) ⟨congrArg List.tail hq, rfl, rfl⟩
  case deferred =>
    intro s e l c h hq hlive hc hown hpins hout hpend
    exact Completes.of_ended rfl (State.deferredEntry_reserved hq hlive hc hown hpins hout hpend)
  case crc =>
    intro s a c hc
    refine Completes.of_ended rfl ⟨?_, ?_⟩
    · change (s.chunkCrcFail a true).map.chunks.look a = _
      simp only [State.chunkCrcFail, if_true, State.record_map, State.raise_eq, State.bump_eq, State.wr_map, Assoc.look_modify_self, hc,
        Option.map_some]
    · change (s.chunkCrcFail a true).rd Fld.CMP_ERR_CRC_FAIL = 1
      simp only [State.chunkCrcFail, if_true]
      rw [State.rd_record _ _ _ _ _ _ _ _ _ _ (by decide), State.raise_eq, State.rd_wr_self]
      rfl

end Sys2Proof.Machine
end

section
/-! PROOFS. The jobs of a ring: COMPRESS, DECOMPRESS, CIPHER and HASH (R219 to R222, R227 to R233). -/

namespace Sys2Proof.Machine

open Sys2Proof

/-! ## The end of a job -/

/-- A ring command ended between two states as `State.RingEnds` says, with RESULT0 in its completion (R95). -/
def State.EndsWith (s t : State) (r q status r0 : Nat) : Prop :=
  ∃ c l, (t.ring r).ready = (s.ring r).ready ++ c :: l ∧ c.sub = q ∧ c.status = status ∧ c.result0 = r0

theorem State.EndsWith.ringEnds {s t : State} {r q status r0 : Nat} (h : s.EndsWith t r q status r0) : s.RingEnds t r q status := by
  obtain ⟨c, l, hready, hsub, hst, -⟩ := h
  exact ⟨c, l, hready, hsub, hst⟩

/-- A submission that has started ends with the status and the results given (R94, R95). -/
theorem State.endSub_started {s u : State} {r q opcode : Nat} {e : SubEntry} (he : s.subFor r q opcode = some e)
    (hu : u.hri = (s.subStart r q).hri) (status r0 r1 : Nat) : s.EndsWith (u.endSub r q status r0 r1) r q status r0 := by
  obtain ⟨⟨k, v, hsub⟩, hready⟩ := State.subStart_subOf he
  have hring : u.ring r = (s.subStart r q).ring r := by rw [State.ring, hu, State.ring]
  rw [← hring] at hsub hready
  simp only [State.EndsWith, State.endSub, hsub, State.ring_setRing_self, List.append_assoc, List.singleton_append, hready]
  exact ⟨_, _, rfl, Ring.seq_of_subOf hsub, rfl, rfl⟩

/-- The end of a job touches its ring, its replay window and what leaves the head. -/
theorem State.jobEnd_frame (s : State) (r q : Nat) (e : SubEntry) (out : List Nat) (outOk : Bool) (status r0 r1 : Nat) :
    ∃ w h o, s.jobEnd r q e out outOk status r0 r1 = { s with wins := w, hri := h, out := o } := by
  simp only [State.jobEnd]
  split
  · exact ⟨_, _, _, State.endSub_frame _ _ _ _ _ _⟩
  · exact ⟨_, _, _, State.endSub_frame _ _ _ _ _ _⟩

@[simp] theorem State.jobEnd_regs (s : State) (r q : Nat) (e : SubEntry) (out : List Nat) (outOk : Bool) (status r0 r1 : Nat) :
    (s.jobEnd r q e out outOk status r0 r1).regs = s.regs := by
  obtain ⟨_, _, _, h⟩ := s.jobEnd_frame r q e out outOk status r0 r1
  rw [h]

@[simp] theorem State.jobEnd_cip (s : State) (r q : Nat) (e : SubEntry) (out : List Nat) (outOk : Bool) (status r0 r1 : Nat) :
    (s.jobEnd r q e out outOk status r0 r1).cip = s.cip := by
  obtain ⟨_, _, _, h⟩ := s.jobEnd_frame r q e out outOk status r0 r1
  rw [h]

/-- A job that has started, and whose output is written, ends with its status and results (R97). -/
theorem State.jobEnd_started {s u : State} {r q opcode : Nat} {e : SubEntry} (he : s.subFor r q opcode = some e)
    (hu : u.hri = (s.subStart r q).hri) (out : List Nat) (status r0 r1 : Nat) :
    s.EndsWith (u.jobEnd r q e out true status r0 r1) r q status r0 := by
  simp only [State.jobEnd, Bool.not_true, Bool.and_false, Bool.false_eq_true, if_false]
  split
  · exact State.endSub_started (u := u.emit _) he hu _ _ _
  · exact State.endSub_started he hu _ _ _

/-- A job on an enabled block, with its fields right and its input read, runs (R92, R97). -/
theorem State.job_eq {s : State} {r q opcode block : Nat} {ok : SubEntry → Bool} {e : SubEntry} (hen : s.enabled block = true)
    (he : s.subFor r q opcode = some e) (hn : e.nsid = 0) (hok : ok e = true) (v : Nat) (run : State → SubEntry → Nat → State) :
    s.job r q opcode block ok (some v) run = run (s.subStart r q) e v := by
  simp [State.job, hen, State.ringRun_eq he, hn, hok]

/-! ## COMPRESS and DECOMPRESS -/

/-- COMPRESS ends with what fits of its stream (R219, R220). -/
theorem State.compress_eq {s : State} {r q : Nat} {e : SubEntry} (hen : s.enabled Blk.CMP = true) (he : s.subFor r q 0x20 = some e)
    (hn : e.nsid = 0) (hok : compressOk e = true) (v : Nat) :
    ∃ out r0 r1, s.compress r q (some v) true = (s.subStart r q).jobEnd r q e out true
      (if (compressRun (e.len / 65536 + 1) (e.offset / 65536) e (v % 2 ^ (8 * e.len)) e.offset []).2.2 = true then STS_OK
       else STS_OUTPUT_EXHAUSTED) r0 r1 :=
  ⟨_, _, _, State.job_eq hen he hn hok v _⟩

/-- A job that starts a stream has no output before it (Table 04.5). -/
theorem outputDone_of_decompressOk {e : SubEntry} (hok : decompressOk e = true) (hc : jobContinue e = false) : jobOutputDone e = 0 := by
  simp only [decompressOk, hc, Bool.false_or, Bool.and_eq_true, beq_iff_eq] at hok
  exact hok.2.2

/-- DECOMPRESS of a new stream ends with what fits of it, and tells whether it was valid (R221). -/
theorem State.decompressStream_new {s : State} {e : SubEntry} (hd : jobOutputDone e = 0) (hc : jobContinue e = false) (r q v : Nat) :
    ∃ (u : State) (out : List Nat) (r0 r1 : Nat), u.hri = s.hri ∧ s.decompressStream r q e v true = u.jobEnd r q e out true
      (if e.dw3 < (Config.decoded (jobFormat e) v e.len).length then STS_OUTPUT_EXHAUSTED
       else if Config.decodedOk (jobFormat e) v e.len = true then STS_OK else STS_STREAM_INVALID) r0 r1 := by
  have hlen : ∀ l : List Nat, (min e.dw3 l.length < l.length) = (e.dw3 < l.length) := fun l => by
    rw [eq_iff_iff]
    omega
  simp only [State.decompressStream, hd, hc, Nat.not_lt_zero, if_false, Bool.false_and, Bool.false_eq_true, List.drop_zero, Nat.zero_add,
    List.length_take, hlen]
  split
  · exact ⟨s, _, _, _, rfl, rfl⟩
  · split
    · exact ⟨s, _, _, _, rfl, rfl⟩
    · exact ⟨s.streamInvalid, _, _, _, rfl, rfl⟩

/-- DECOMPRESS without a chunk header runs on its stream (R221). -/
theorem State.decompress_eq {s : State} {r q : Nat} {e : SubEntry} (hen : s.enabled Blk.CMP = true) (he : s.subFor r q 0x21 = some e)
    (hn : e.nsid = 0) (hok : decompressOk e = true) (hh : jobHeader e = false) (v : Nat) :
    s.decompress r q (some v) true = (s.subStart r q).decompressStream r q e (v % 2 ^ (8 * e.len)) true := by
  rw [State.decompress, State.job_eq hen he hn hok]
  simp only [hh, Bool.false_eq_true, if_false]

/-! ## HASH -/

/-- HASH ends with the CRC in RESULT0, or with the digest written (R222). -/
theorem State.hashJob_eq {s : State} {r q : Nat} {e : SubEntry} (hen : s.enabled Blk.DDP = true) (he : s.subFor r q 0x23 = some e)
    (hn : e.nsid = 0) (hok : fieldsOk e true (!bitAt e.spec 0) false true false false 1 = true) (v : Nat) :
    ∃ out, s.hashJob r q (some v) true =
      (s.subStart r q).jobEnd r q e out true STS_OK (if bitAt e.spec 0 = true then crc32c (bytesLE v e.len) else 0) 0 := by
  rw [State.hashJob, State.job_eq hen he hn hok]
  dsimp only
  split
  · exact ⟨_, rfl⟩
  · exact ⟨_, rfl⟩

/-! ## CIPHER -/

/-- A job's key passes through the key-slot cache: the slots and the rings stand (R239). -/
theorem State.keyCache_frame (s : State) (slot : Nat) :
    ∃ g c, s.keyCache slot = { s with regs := g, cip := { s.cip with kcache := c } } := by
  simp only [State.keyCache]
  split
  · exact ⟨_, _, rfl⟩
  · exact ⟨_, _, rfl⟩

/-- The key of a slot rests on the slots alone. -/
theorem State.keyOf_congr {s t : State} (h : t.cip.slots = s.cip.slots) (slot : Nat) : t.keyOf slot = s.keyOf slot := by
  rw [State.keyOf, h, State.keyOf]

/-- CIPHER under a key that its tenant may use ends with the output of its mode, and tells whether the tags match (R227 to R233). -/
theorem State.cipher_eq {s : State} {r q : Nat} {e : SubEntry} (hen : s.enabled Blk.CIP = true) (hb : s.admittedPend Blk.CIP = false)
    (he : s.subFor r q 0x22 = some e) (hn : e.nsid = 0) (hok : cipherOk e = true)
    (hkey : s.keyRefuses (cipSlot e) (some (s.ringTenant r)) (cipMode e) (cipDir e) = none) (v k : Nat) :
    ∃ (u : State) (out : List Nat) (r0 : Nat), u.hri = (s.subStart r q).hri ∧ u.cip.slots = s.cip.slots ∧
      s.cipher r q (some v) true k = u.jobEnd r q e out true
        (if (cipherRun (s.keyOf (cipSlot e)) e (bytesLE v (cipherInput e))).2 = true then STS_OK else STS_AUTH_FAIL) r0 0 := by
  have hkey' : (s.subStart r q).keyRefuses (cipSlot e) (some ((s.subStart r q).ringTenant r)) (cipMode e) (cipDir e) = none := hkey
  obtain ⟨g, c, hcache⟩ := (s.subStart r q).keyCache_frame (cipSlot e)
  have hslots : ((s.subStart r q).keyCache (cipSlot e)).cip.slots = s.cip.slots := by rw [hcache]; rfl
  have hhri : ((s.subStart r q).keyCache (cipSlot e)).hri = (s.subStart r q).hri := by rw [hcache]
  simp only [State.cipher, hen, State.boundary_eq hb, State.ringRun_eq he, hn, hok, hkey', Bool.not_true, Bool.false_eq_true, if_false,
    ne_eq, not_true_eq_false, or_self]
  generalize (s.subStart r q).keyCache (cipSlot e) = w at hslots hhri ⊢
  split
  · rw [State.keyOf_congr (show (w.bump _ _).cip.slots = s.cip.slots from hslots)]
    split
    · exact ⟨w.bump _ _, _, _, hhri, hslots, rfl⟩
    · exact ⟨(w.bump _ _).bump _, _, _, hhri, hslots, rfl⟩
  · rw [State.keyOf_congr hslots]
    split
    · exact ⟨w, _, _, hhri, hslots, rfl⟩
    · exact ⟨w.bump _, _, _, hhri, hslots, rfl⟩

end Sys2Proof.Machine
end

section
/-! PROOFS. Key slots, KEKs and the key commands (R233 to R237, R239). -/

namespace Sys2Proof.Machine

open Sys2Proof

/-! ## Records -/

@[simp] theorem State.record_cip (s : State) (src code a0 a1 a2 : Nat) (alarm : Bool) : (s.record src code a0 a1 a2 alarm).cip = s.cip := by
  rw [State.record, (s.recordAt_frame src code a0 a1 a2 s.ctNs alarm).1]

/-- A row of the key slots' table lies below the fields of OWN (R518). -/
theorem keySlot_key_lt {i : Nat} (hi : i < 16384) : Fld.CIP_SLOT_STATE_STATE.key i 0 < Fld.OWN_STATUS_LEASE.key 0 0 := by
  have hb : Fld.CIP_SLOT_STATE_STATE.key 0 0 + 16383 * 32 < Fld.OWN_STATUS_LEASE.key 0 0 := by decide
  rw [Field.key_row, show Fld.CIP_SLOT_STATE_STATE.stride = 32 from rfl]
  omega

/-! ## Acceptance and the end of a key command -/

/-- A key command runs while none is in progress (R236). -/
theorem State.keyCmd_idle {s : State} (h : s.rdb Fld.CIP_KEY_RESULT_BUSY = false) (run : State → State) : s.keyCmd run = run s := by
  simp [State.keyCmd, h]

/-- A key command that ends shows DONE and its status, and is in progress no more (Table 10.9). -/
theorem State.keyEnd_spec (s : State) (st : Nat) :
    (s.keyEnd st).rd Fld.CIP_KEY_RESULT_DONE = 1 ∧
      (s.keyEnd st).rd Fld.CIP_KEY_RESULT_STATUS = st % 2 ^ Fld.CIP_KEY_RESULT_STATUS.width ∧
      (s.keyEnd st).rd Fld.CIP_KEY_RESULT_BUSY = 0 := by
  simp (disch := decide) [State.keyEnd, State.rd_wr_ne]

/-- The fields that the end of a key command writes. -/
abbrev keyResultFields : List Field := [Fld.CIP_KEY_RESULT_STATUS, Fld.CIP_KEY_RESULT_DONE, Fld.CIP_KEY_RESULT_BUSY]

/-- Every other field reads as before. -/
theorem State.rd_keyEnd (s : State) (st : Nat) (f : Field) (i : Nat) (h : ∀ g ∈ keyResultFields, f.key i 0 ≠ g.key 0 0) :
    (s.keyEnd st).rd f i = s.rd f i := by
  simp only [List.forall_mem_cons] at h
  obtain ⟨hst, hdone, hbusy, -⟩ := h
  rw [State.keyEnd, State.rd_wr_ne _ _ _ _ _ _ _ _ hbusy, State.rd_wr_ne _ _ _ _ _ _ _ _ hdone, State.rd_wr_ne _ _ _ _ _ _ _ _ hst]

/-- So does every table of slots or KEKs, which lies above them. -/
theorem State.rd_keyEnd_above (s : State) (st : Nat) (f : Field) (i : Nat) (h : ∀ g ∈ keyResultFields, g.key 0 0 < f.key 0 0) :
    (s.keyEnd st).rd f i = s.rd f i :=
  s.rd_keyEnd st f i fun g hg => (Nat.lt_of_lt_of_le (h g hg) (f.key_zero_le i 0)).ne'

/-! ## Key slots and KEKs -/

/-- A key loaded into a slot: the slot is LOADED for the key's tenant (R233). -/
theorem State.keySlotLoad_spec (s : State) (slot : Nat) (k : CipKey) :
    (s.keySlotLoad slot k).rd Fld.CIP_SLOT_STATE_STATE slot = keyLoaded ∧
      (s.keySlotLoad slot k).rd Fld.CIP_SLOT_STATE_TENANT slot = k.tenant % 2 ^ Fld.CIP_SLOT_STATE_TENANT.width := by
  refine ⟨?_, ?_⟩
  · simp (disch := decide) only [State.keySlotLoad, State.rd_wr_above, State.rd_wr_row, State.rd_wr_self]
    rfl
  · simp (disch := decide) only [State.keySlotLoad, State.rd_wr_above, State.rd_wr_self]

/-- A slot emptied is EMPTY, and holds no key (R237). -/
theorem State.keySlotEmpty_spec (s : State) (slot : Nat) :
    (s.keySlotEmpty slot).rd Fld.CIP_SLOT_STATE_STATE slot = keyEmpty ∧ (s.keySlotEmpty slot).cip.slots.look slot = none := by
  refine ⟨?_, Assoc.look_del_self _ _⟩
  simp (disch := decide) only [State.keySlotEmpty, State.rd_wr_above, State.rd_wr_row, State.rd_wr_self]
  rfl

/-- A KEK loaded is shown with its tenant (R234). -/
theorem State.kekSet_some_spec (s : State) (n : Nat) (k : CipKey) :
    (s.kekSet n (some k)).rd Fld.CIP_KEK_STATE_STATE n = 1 ∧
      (s.kekSet n (some k)).rd Fld.CIP_KEK_STATE_TENANT n = k.tenant % 2 ^ Fld.CIP_KEK_STATE_TENANT.width := by
  refine ⟨?_, ?_⟩
  · simp (disch := decide) only [State.kekSet, State.rd_wr_row, State.rd_wr_self]
    rfl
  · simp (disch := decide) only [State.kekSet, State.rd_wr_self]

/-- A KEK erased is shown EMPTY (R234). -/
theorem State.rd_kekSet_none (s : State) (n : Nat) : (s.kekSet n none).rd Fld.CIP_KEK_STATE_STATE n = 0 := by
  simp (disch := decide) only [State.kekSet, State.rd_wr_row, State.rd_wr_self]
  rfl

/-- A failed unwrap shows its bit, and changes no slot (R235). -/
theorem State.unwrapFail_spec (s : State) (target : Nat) :
    (s.unwrapFail target).rd Fld.CIP_ERR_UNWRAP_FAIL = 1 ∧ (s.unwrapFail target).cip = s.cip ∧
      ∀ slot < 16384, (s.unwrapFail target).rd Fld.CIP_SLOT_STATE_STATE slot = s.rd Fld.CIP_SLOT_STATE_STATE slot := by
  refine ⟨?_, ?_, fun slot hs => ?_⟩
  · rw [State.unwrapFail, State.rd_record _ _ _ _ _ _ _ _ _ _ (by decide), State.rd_wr_ne _ _ _ _ _ _ _ _ (by decide), State.raise_eq,
      State.rd_wr_self]
    rfl
  · rw [State.unwrapFail, State.record_cip]
    rfl
  · rw [State.unwrapFail, State.rd_record _ _ _ _ _ _ _ _ _ _ (keySlot_key_lt hs), State.rd_wr_above _ _ _ _ (by decide), State.raise_eq,
      State.rd_wr_above _ _ _ _ (by decide)]

/-! ## The key commands -/

/-- A blob that unwraps is loaded into an EMPTY slot (R235, R236). -/
theorem State.keyUnwrapSlot_loads {s : State} {target kek len : Nat} {pad : Bool} {k : CipKey}
    (hb : s.rdb Fld.CIP_KEY_RESULT_BUSY = false) (he : s.rd Fld.CIP_SLOT_STATE_STATE (target % 16384) = keyEmpty)
    (hk : s.unwrap false (kek % 64) pad len (s.rd Fld.CIP_KEY_BLOB) = .inr k) :
    s.keyUnwrapSlot target kek pad len = (s.keySlotLoad (target % 16384) k).keyEnd STS_OK := by
  simp [State.keyUnwrapSlot, State.keyCmd_idle hb, State.unwrapSlot, he, hk]

/-- A blob that does not ends with its status, and the slot stays EMPTY (R235). -/
theorem State.keyUnwrapSlot_fails {s : State} {target kek len st : Nat} {pad : Bool}
    (hb : s.rdb Fld.CIP_KEY_RESULT_BUSY = false) (he : s.rd Fld.CIP_SLOT_STATE_STATE (target % 16384) = keyEmpty)
    (hk : s.unwrap false (kek % 64) pad len (s.rd Fld.CIP_KEY_BLOB) = .inl st) :
    s.keyUnwrapSlot target kek pad len = (s.unwrapFail (target % 16384)).keyEnd st := by
  simp [State.keyUnwrapSlot, State.keyCmd_idle hb, State.unwrapSlot, he, hk]

/-- A blob that unwraps is loaded into an EMPTY KEK other than KEK 0 (R234, R235). -/
theorem State.keyUnwrapKek_loads {s : State} {target kek len : Nat} {pad : Bool} {k : CipKey}
    (hb : s.rdb Fld.CIP_KEY_RESULT_BUSY = false) (hz : target % 64 ≠ 0) (he : s.cip.keks.has (target % 64) = false)
    (hk : s.unwrap true (kek % 64) pad len (s.rd Fld.CIP_KEY_BLOB) = .inr k) :
    s.keyUnwrapKek target kek pad len = (s.kekSet (target % 64) (some k)).keyEnd STS_OK := by
  simp [State.keyUnwrapKek, State.keyCmd_idle hb, State.unwrapKek, hz, he, hk]

/-- A blob that does not leaves every KEK (R235). -/
theorem State.keyUnwrapKek_fails {s : State} {target kek len st : Nat} {pad : Bool}
    (hb : s.rdb Fld.CIP_KEY_RESULT_BUSY = false) (hz : target % 64 ≠ 0) (he : s.cip.keks.has (target % 64) = false)
    (hk : s.unwrap true (kek % 64) pad len (s.rd Fld.CIP_KEY_BLOB) = .inl st) :
    s.keyUnwrapKek target kek pad len = (s.unwrapFail (target % 64)).keyEnd st := by
  simp [State.keyUnwrapKek, State.keyCmd_idle hb, State.unwrapKek, hz, he, hk]

/-- A LOADED slot that nothing binds is ERASING at once, and the command is in progress (R236, R237). -/
theorem State.keyEraseSlot_spec {s : State} {target : Nat} (hb : s.rdb Fld.CIP_KEY_RESULT_BUSY = false)
    (hl : s.rd Fld.CIP_SLOT_STATE_STATE (target % 16384) = keyLoaded) (hn : s.keyBound (target % 16384) = false) :
    (s.keyEraseSlot target).rd Fld.CIP_SLOT_STATE_STATE (target % 16384) = keyErasing ∧
      (s.keyEraseSlot target).rd Fld.CIP_KEY_RESULT_BUSY = 1 ∧ (s.keyEraseSlot target).cip = s.cip := by
  simp only [State.keyEraseSlot, State.keyCmd_idle hb, hl, hn, ne_eq, not_true_eq_false, if_false, Bool.false_eq_true]
  refine ⟨?_, ?_, rfl⟩
  · rw [State.rd_wr_above _ _ _ _ (by decide), State.rd_wr_above _ _ _ _ (by decide), State.rd_wr_self]
    rfl
  · exact State.rd_wr_self _ _ _ _ _

/-- A KEK is erased at once (R234, R236). -/
theorem State.keyEraseKek_eq {s : State} {target : Nat} (hb : s.rdb Fld.CIP_KEY_RESULT_BUSY = false) (hz : target % 64 ≠ 0) :
    s.keyEraseKek target = (s.kekSet (target % 64) none).keyEnd STS_OK := by
  simp [State.keyEraseKek, State.keyCmd_idle hb, hz]

/-- An ERASING slot whose last job has ended is emptied (R237). -/
theorem State.keyEraseEnd_eq {s : State} {slot : Nat} (h : s.rd Fld.CIP_SLOT_STATE_STATE slot = keyErasing) :
    s.keyEraseEnd slot = (s.keySlotEmpty slot).keyEnd STS_OK := by
  rw [State.keyEraseEnd, if_pos h]

/-- A LOADED slot whose store entry fails its tag is emptied, and named by the error (R239). -/
theorem State.keyStoreFault_spec {s : State} {slot : Nat} (hs : slot < 16384) (h : s.rd Fld.CIP_SLOT_STATE_STATE slot = keyLoaded) :
    (s.keyStoreFault slot).rd Fld.CIP_SLOT_STATE_STATE slot = keyEmpty ∧ (s.keyStoreFault slot).cip.slots.look slot = none ∧
      (s.keyStoreFault slot).rd Fld.CIP_ERR_STORE_FAIL = 1 ∧ (s.keyStoreFault slot).rd Fld.CIP_ERR_INFO_SLOT = slot := by
  obtain ⟨hst, hlook⟩ := s.keySlotEmpty_spec slot
  rw [State.keyStoreFault, if_pos h]
  refine ⟨?_, ?_, ?_, ?_⟩
  · rw [State.rd_record _ _ _ _ _ _ _ _ _ _ (keySlot_key_lt hs), State.rd_wr_above _ _ _ _ (by decide), State.raise_eq,
      State.rd_wr_above _ _ _ _ (by decide), hst]
  · rw [State.record_cip]
    exact hlook
  · rw [State.rd_record _ _ _ _ _ _ _ _ _ _ (by decide), State.rd_wr_ne _ _ _ _ _ _ _ _ (by decide), State.raise_eq, State.rd_wr_self]
    rfl
  · rw [State.rd_record _ _ _ _ _ _ _ _ _ _ (by decide), State.rd_wr_self]
    exact Nat.mod_eq_of_lt hs

/-! ## The statement -/

/-- Settles O23. -/
theorem ringJobsAndKeyCommandsRun : Obligations.RingJobsAndKeyCommandsRun := by
  refine ⟨?compress, ?decompress, ?cipher, ?hash, ?unwrapSlot, ?unwrapKek, ?eraseSlot, ?eraseKek, ?eraseEnd, ?storeFault⟩
  case compress =>
    intro s r q v e hen he hn hok
    obtain ⟨out, r0, r1, hrun⟩ := State.compress_eq hen he hn hok v
    exact Completes.of_ended (congrArg ended hrun) ⟨State.jobEnd_regs _ _ _ _ _ _ _ _ _, (State.jobEnd_started he rfl _ _ _ _).ringEnds⟩
  case decompress =>
    intro s r q v e hen he hn hok hh hc
    obtain ⟨u, out, r0, r1, hu, hstream⟩ := State.decompressStream_new (s := s.subStart r q)
      (outputDone_of_decompressOk hok hc) hc r q (v % 2 ^ (8 * e.len))
    exact Completes.of_ended (congrArg ended ((State.decompress_eq hen he hn hok hh v).trans hstream))
      (State.jobEnd_started he hu _ _ _ _).ringEnds
  case cipher =>
    intro s r q v k e hen hb he hn hok hkey
    obtain ⟨u, out, r0, hu, hslots, hrun⟩ := State.cipher_eq hen hb he hn hok hkey v k
    refine Completes.of_ended (congrArg ended hrun) ⟨?_, (State.jobEnd_started he hu _ _ _ _).ringEnds⟩
    exact (congrArg Cip.slots (State.jobEnd_cip _ _ _ _ _ _ _ _ _)).trans hslots
  case hash =>
    intro s r q v e hen he hn hok
    obtain ⟨out, hrun⟩ := State.hashJob_eq hen he hn hok v
    exact Completes.of_ended (congrArg ended hrun) ⟨State.jobEnd_regs _ _ _ _ _ _ _ _ _, State.jobEnd_started he rfl _ _ _ _⟩
  case unwrapSlot =>
    intro s target kek len pad hb he
    cases hk : s.unwrap false (kek % 64) pad len (s.rd Fld.CIP_KEY_BLOB) with
    | inl st =>
      obtain ⟨hbit, hcip, hstate⟩ := s.unwrapFail_spec (target % 16384)
      obtain ⟨hdone, hst, -⟩ := (s.unwrapFail (target % 16384)).keyEnd_spec st
      refine Completes.of_ended (congrArg ended (State.keyUnwrapSlot_fails hb he hk)) ?_
      simp only [State.rd_settled]
      refine ⟨hdone, congrArg Cip.keks hcip, hcip, ?_, ?_, hst⟩
      · rw [State.rd_keyEnd_above _ _ _ _ (by decide), hstate _ (Nat.mod_lt _ (by decide)), he]
      · rw [State.rd_keyEnd _ _ _ _ (by decide), hbit]
    | inr k =>
      obtain ⟨hloaded, htenant⟩ := s.keySlotLoad_spec (target % 16384) k
      obtain ⟨hdone, hst, -⟩ := (s.keySlotLoad (target % 16384) k).keyEnd_spec STS_OK
      refine Completes.of_ended (congrArg ended (State.keyUnwrapSlot_loads hb he hk)) ?_
      simp only [State.rd_settled]
      refine ⟨hdone, rfl, Assoc.look_put_self _ _ _, ?_, ?_, hst⟩
      · rw [State.rd_keyEnd_above _ _ _ _ (by decide), hloaded]
      · rw [State.rd_keyEnd_above _ _ _ _ (by decide), htenant]
  case unwrapKek =>
    intro s target kek len pad hb hz he
    cases hk : s.unwrap true (kek % 64) pad len (s.rd Fld.CIP_KEY_BLOB) with
    | inl st =>
      obtain ⟨hbit, hcip, -⟩ := s.unwrapFail_spec (target % 64)
      obtain ⟨hdone, hst, -⟩ := (s.unwrapFail (target % 64)).keyEnd_spec st
      refine Completes.of_ended (congrArg ended (State.keyUnwrapKek_fails hb hz he hk)) ?_
      simp only [State.rd_settled]
      refine ⟨hdone, congrArg Cip.slots hcip, hcip, ?_, hst⟩
      rw [State.rd_keyEnd _ _ _ _ (by decide), hbit]
    | inr k =>
      obtain ⟨hloaded, htenant⟩ := s.kekSet_some_spec (target % 64) k
      obtain ⟨hdone, hst, -⟩ := (s.kekSet (target % 64) (some k)).keyEnd_spec STS_OK
      refine Completes.of_ended (congrArg ended (State.keyUnwrapKek_loads hb hz he hk)) ?_
      simp only [State.rd_settled]
      refine ⟨hdone, rfl, Assoc.look_put_self _ _ _, ?_, ?_, hst⟩
      · rw [State.rd_keyEnd_above _ _ _ _ (by decide), hloaded]
      · rw [State.rd_keyEnd_above _ _ _ _ (by decide), htenant]
  case eraseSlot =>
    intro s target hb hl hn
    refine Completes.of_ended rfl ?_
    simp only [State.rd_settled]
    exact State.keyEraseSlot_spec hb hl hn
  case eraseKek =>
    intro s target hb hz
    obtain ⟨-, hst, -⟩ := (s.kekSet (target % 64) none).keyEnd_spec STS_OK
    refine Completes.of_ended (congrArg ended (State.keyEraseKek_eq hb hz)) ?_
    simp only [State.rd_settled]
    refine ⟨Assoc.look_del_self _ _, ?_, hst, rfl⟩
    rw [State.rd_keyEnd_above _ _ _ _ (by decide), State.rd_kekSet_none]
  case eraseEnd =>
    intro s slot _ h
    obtain ⟨hstate, hlook⟩ := s.keySlotEmpty_spec slot
    obtain ⟨-, hst, hbusy⟩ := (s.keySlotEmpty slot).keyEnd_spec STS_OK
    refine Completes.of_ended (congrArg ended (State.keyEraseEnd_eq h)) ?_
    simp only [State.rd_settled]
    refine ⟨?_, hlook, hbusy, hst⟩
    rw [State.rd_keyEnd_above _ _ _ _ (by decide), hstate]
  case storeFault =>
    intro s slot hs h
    refine Completes.of_ended rfl ?_
    simp only [State.rd_settled]
    exact State.keyStoreFault_spec hs h

end Sys2Proof.Machine
end

section
/-! PROOFS. The metadata cache: its lines, its way groups and the bits that show their states (R264 to R267). -/

namespace Sys2Proof.Machine

open Sys2Proof

/-! ## Bits of a register field -/

/-- A bit of a part of a number is the bit at its place in the number. -/
theorem testBit_bitsOf (v lo w j : Nat) : (bitsOf v lo w).testBit j = (decide (j < w) && v.testBit (lo + j)) := by
  rw [bitsOf, Nat.testBit_mod_two_pow, Nat.testBit_div_two_pow, Nat.add_comm]

/-- A bit of a number with a part replaced comes from that part's new value, or stands. -/
theorem testBit_putBits (v lo w x j : Nat) :
    (putBits v lo w x).testBit j = if lo ≤ j ∧ j < lo + w then x.testBit (j - lo) else v.testBit j := by
  have hsum : putBits v lo w x = 2 ^ lo * (2 ^ w * (v / 2 ^ (lo + w)) + x % 2 ^ w) + v % 2 ^ lo := by
    rw [putBits, Nat.pow_add]
    ring
  rw [hsum, Nat.testBit_two_pow_mul_add _ (Nat.mod_lt _ (Nat.two_pow_pos _))]
  by_cases hlo : j < lo
  · rw [if_pos hlo, if_neg (by omega), Nat.testBit_mod_two_pow, decide_eq_true hlo, Bool.true_and]
  · rw [if_neg hlo, Nat.testBit_two_pow_mul_add _ (Nat.mod_lt _ (Nat.two_pow_pos _))]
    by_cases hw : j - lo < w
    · rw [if_pos hw, if_pos (by omega), Nat.testBit_mod_two_pow, decide_eq_true hw, Bool.true_and]
    · rw [if_neg hw, if_neg (by omega), Nat.testBit_div_two_pow, show j - lo - w + (lo + w) = j by omega]

/-- The part replaced reads as it was put, in a field wide enough for it. -/
theorem bitsOf_putBits_self {lo w n : Nat} (h : lo + w ≤ n) (v x : Nat) : bitsOf (putBits v lo w x % 2 ^ n) lo w = x % 2 ^ w := by
  refine Nat.eq_of_testBit_eq fun j => ?_
  rw [testBit_bitsOf, Nat.testBit_mod_two_pow, Nat.testBit_mod_two_pow, testBit_putBits]
  by_cases hj : j < w
  · simp [hj, show lo + j < n by omega]
  · simp [hj]

/-- Another part reads as before. -/
theorem bitsOf_putBits_ne {lo w lo' w' n : Nat} (h : lo' + w' ≤ n) (hd : lo' + w' ≤ lo ∨ lo + w ≤ lo') (v x : Nat) :
    bitsOf (putBits v lo w x % 2 ^ n) lo' w' = bitsOf v lo' w' := by
  refine Nat.eq_of_testBit_eq fun j => ?_
  rw [testBit_bitsOf, testBit_bitsOf, Nat.testBit_mod_two_pow, testBit_putBits]
  by_cases hj : j < w'
  · rw [if_neg (by omega), decide_eq_true (show lo' + j < n by omega), Bool.true_and]
  · simp [hj]

/-! ## The state of a way group (Table 11.6) -/

/-- The state of a way group rests on its register alone. -/
theorem State.wayGroup_congr {s t : State} (h : t.rd Fld.MDC_WAYGRP_STATE_STATE = s.rd Fld.MDC_WAYGRP_STATE_STATE) (g : Nat) :
    t.wayGroup g = s.wayGroup g := by
  rw [State.wayGroup, h, State.wayGroup]

/-- A way group is in the state it was put in. -/
theorem State.wayGroup_setWayGroup_self (s : State) {g st : Nat} (hg : g < 8) (hst : st < 4) : (s.setWayGroup g st).wayGroup g = st := by
  rw [State.wayGroup, State.setWayGroup, State.rd_wr_self]
  exact (bitsOf_putBits_self (n := 16) (by omega) _ st).trans (Nat.mod_eq_of_lt hst)

/-- The other way groups stay in theirs. -/
theorem State.wayGroup_setWayGroup_ne (s : State) {g h : Nat} (hh : h < 8) (hne : h ≠ g) (st : Nat) :
    (s.setWayGroup g st).wayGroup h = s.wayGroup h := by
  rw [State.wayGroup, State.setWayGroup, State.rd_wr_self]
  exact bitsOf_putBits_ne (n := 16) (by omega) (by omega) _ st

/-- The state of a way group says nothing of the power domains. -/
theorem State.domainOn_setWayGroup (s : State) (g st d : Nat) : (s.setWayGroup g st).domainOn d = s.domainOn d := by
  rw [State.domainOn, State.setWayGroup, State.rd_wr_ne _ _ _ _ _ _ _ _ (by decide), State.domainOn]

/-! ## The lines of a way group -/

/-- Lines dropped one after the other leave the cache, and nothing else changes. -/
theorem State.dropLines_eq (s : State) (l : Assoc MdcLine) :
    l.foldl (fun s e => s.dropLine e.1) s = { s with mdc := { lines := l.foldl (fun m e => m.del e.1) s.mdc.lines } } := by
  induction l generalizing s with
  | nil => rfl
  | cons e l ih => exact ih _

/-- What is left when keys are deleted one after the other was there before, under none of those keys. -/
theorem Assoc.mem_of_mem_foldl_del {α β : Type} {l : Assoc β} {m : Assoc α} {x : Nat × α} (h : x ∈ l.foldl (fun m e => m.del e.1) m) :
    x ∈ m ∧ ∀ e ∈ l, x.1 ≠ e.1 := by
  induction l generalizing m with
  | nil => exact ⟨h, fun _ he => nomatch he⟩
  | cons e l ih =>
    obtain ⟨hm, hl⟩ := ih h
    obtain ⟨hm, he⟩ := List.mem_filter.1 hm
    exact ⟨hm, List.forall_mem_cons.2 ⟨by simpa using he, hl⟩⟩

/-- The cache with every line of a way group dropped. -/
def State.mdcWithout (s : State) (g : Nat) : Mdc := { lines := (s.groupLines g).foldl (fun m e => m.del e.1) s.mdc.lines }

/-- No line of that group is left (R265). -/
theorem State.group_ne_of_mem_mdcWithout {s : State} {g : Nat} {x : Nat × MdcLine} (h : x ∈ (s.mdcWithout g).lines) : x.1 % 16 / 2 ≠ g := by
  obtain ⟨hx, hdel⟩ := Assoc.mem_of_mem_foldl_del h
  exact fun hg => hdel x (List.mem_filter.2 ⟨hx, beq_iff_eq.2 hg⟩) rfl

/-! ## The commands of way groups (R265) -/

/-- The state with a block's request at the end of the queue (R481). -/
def State.domJoined (s : State) (r : DomReq) : State := { s with pwr := { s.pwr with queue := s.pwr.queue ++ [r] } }

/-- A domain that a block switches, met by an idle PWR in the other state: its switch begins at once (R481). -/
theorem State.domRequest_block {s : State} {d : Nat} {on : Bool} (hq : s.pwr.queue = []) (hs : s.pwr.switching = none)
    (hd : s.domainOn d = !on) :
    s.domRequest d on false =
      { s with pwr := { s.pwr with queue := [], switching := some ⟨d, on, false⟩ } }.wr Fld.PWR_STATUS_DOM_BUSY 1 := by
  have hrun : s.domRequest d on false = (s.domJoined ⟨d, on, false⟩).domNext ((s.domJoined ⟨d, on, false⟩).pwr.queue.length + 1) := rfl
  have hp : (s.domJoined ⟨d, on, false⟩).domainPasses ⟨d, on, false⟩ = true := by
    change (s.domainOn d != on && _) = true
    simp [hd]
  have hhead : (s.domJoined ⟨d, on, false⟩).pwr.queue = [⟨d, on, false⟩] := congrArg (· ++ [_]) hq
  rw [hrun]
  exact State.domNext_passes (s := s.domJoined _) hs hhead hp _

/-- A way group that is ON beside another that is ON goes to CLEANING. -/
theorem State.wayDown_eq {s : State} {g h : Nat} (hg : g < 8) (hh : h < 8) (hne : h ≠ g) (hst : s.wayGroup g = 0) (hother : s.wayGroup h = 0) :
    s.wayDown g = s.setWayGroup g 1 := by
  have hany : (List.range 8).any (fun i => i != g && s.wayGroup i == 0) = true :=
    List.any_eq_true.2 ⟨h, List.mem_range.2 hh, by simp [hne, hother]⟩
  simp only [State.wayDown, Nat.mod_eq_of_lt hg, hst, hany, and_self, if_true]

/-- A way group that is OFF goes to WAKING, and an idle PWR begins to power its domain. -/
theorem State.wayUp_eq {s : State} {g : Nat} (hg : g < 8) (hst : s.wayGroup g = 2) (hq : s.pwr.queue = []) (hs : s.pwr.switching = none)
    (hd : s.domainOn (37 + g) = false) :
    s.wayUp g = { s.setWayGroup g 3 with pwr := { s.pwr with queue := [], switching := some ⟨37 + g, true, false⟩ } }.wr
      Fld.PWR_STATUS_DOM_BUSY 1 := by
  have hd' : (s.setWayGroup g 3).domainOn (37 + g) = !true := (s.domainOn_setWayGroup g 3 _).trans hd
  simp only [State.wayUp, Nat.mod_eq_of_lt hg, hst, if_true]
  exact State.domRequest_block hq hs hd'

/-- The state with a way group's dirty lines written back, and every line of it invalid (R265). -/
def State.swept (s : State) (g : Nat) : State :=
  { s.bump Fld.MDC_STAT_WB_COUNT ((s.groupLines g).filter (fun e => e.2.dirty)).length with
      mdc := s.mdcWithout g }

/-- A sweep powers no domain. -/
theorem State.domainOn_swept (s : State) (g d : Nat) : (s.swept g).domainOn d = s.domainOn d :=
  congrArg (bitAt · d) (State.rd_wr_ne s Fld.MDC_STAT_WB_COUNT Fld.PWR_DOM_STATE_ON _ 0 0 0 0 (by decide))

/-- The sweep of a CLEANING group over, an idle PWR begins to take its domain's power. -/
theorem State.sweepEnd_eq {s : State} {g : Nat} (hg : g < 8) (hst : s.wayGroup g = 1) (hq : s.pwr.queue = [])
    (hs : s.pwr.switching = none) (hd : s.domainOn (37 + g) = true) :
    s.sweepEnd g = { s.swept g with pwr := { s.pwr with queue := [], switching := some ⟨37 + g, false, false⟩ } }.wr
      Fld.PWR_STATUS_DOM_BUSY 1 := by
  have hrun : s.sweepEnd g = (s.swept g).domRequest (37 + g) false false := by
    simp only [State.sweepEnd, Nat.mod_eq_of_lt hg, hst, hq, hs, State.dropLines_eq, bne_self_eq_false, List.any_nil, Option.map_none,
      Bool.or_self, if_false, Bool.false_or, beq_iff_eq, reduceCtorEq]
    rfl
  rw [hrun]
  exact State.domRequest_block hq hs ((s.domainOn_swept g _).trans hd)

/-- A WAKING group whose domain is up is ON, with every line of it invalid. -/
theorem State.wakeEnd_eq {s : State} {g : Nat} (hg : g < 8) (hst : s.wayGroup g = 3) (hd : s.domainOn (37 + g) = true) :
    s.wakeEnd g = State.setWayGroup { s with mdc := s.mdcWithout g } g 0 := by
  simp only [State.wakeEnd, Nat.mod_eq_of_lt hg, hst, hd, and_self, if_true, State.dropLines_eq]
  rfl

/-! ## Uncorrectable lines and the invalidation after a reset (R266, R267) -/

/-- The regions of the cache rest on their own table alone. -/
theorem State.mdcRegion_congr {s t : State}
    (h : ∀ f ∈ [Fld.MDC_REGION_VALID, Fld.MDC_REGION_BASE, Fld.MDC_REGION_SIZE_MIB], ∀ r < 8, t.rd f r = s.rd f r) (addr : Nat) :
    t.mdcRegion addr = s.mdcRegion addr := by
  simp only [List.forall_mem_cons] at h
  obtain ⟨hvalid, hbase, hsize, -⟩ := h
  refine List.find?_congr fun r hr => ?_
  have hr8 := List.mem_range.1 hr
  rw [State.rdb, State.rdb, hvalid r hr8, hbase r hr8, hsize r hr8]

/-- A fill outside the regions is none. -/
theorem State.mdcFill_outside {s : State} {a : MdcAcc} (hp : s.admittedPend Blk.MDC = false) (hr : s.mdcRegion a.addr = none) :
    s.mdcFill a = s := by
  simp only [State.mdcFill, hp, hr, Bool.false_eq_true, if_false]

/-- A dirty line that cannot be corrected is dropped and reported, and MAP reads its page whole (R262, R267). -/
theorem State.mdcUncorrectable_dirty {s : State} {n : Nat} {x : MdcLine} (hx : s.mdc.lines.look n = some x) (hd : x.dirty = true)
    (p l k : Nat) :
    s.mdcUncorrectable n p l k .whole =
      ((((s.dropLine n).bump Fld.MDC_ECC_UE).raise Fld.MDC_ERR_UE_DIRTY).raise Fld.MAP_ERR_PAGE_REBUILT).bump Fld.MAP_STAT_FETCH_COUNT := by
  simp only [State.mdcUncorrectable, hx, hd, if_true, State.pageGot]

/-- A clean line outside the regions that cannot be corrected is dropped, and not fetched again (R267). -/
theorem State.mdcUncorrectable_clean {s : State} {n : Nat} {x : MdcLine} (hx : s.mdc.lines.look n = some x) (hd : x.dirty = false)
    (hr : s.mdcRegion (x.addr * 128) = none) (hp : s.admittedPend Blk.MDC = false) (p l k : Nat) (g : PageGot) :
    s.mdcUncorrectable n p l k g = ((s.dropLine n).bump Fld.MDC_ECC_UE).raise Fld.MDC_ERR_UE_CLEAN := by
  have hrows : ∀ f ∈ [Fld.MDC_REGION_VALID, Fld.MDC_REGION_BASE, Fld.MDC_REGION_SIZE_MIB], ∀ r < 8,
      f.key r 0 ≠ Fld.MDC_ECC_UE.key 0 0 ∧ f.key r 0 ≠ Fld.MDC_ERR_UE_CLEAN.key 0 0 := by decide
  have hregion : (((s.dropLine n).bump Fld.MDC_ECC_UE).raise Fld.MDC_ERR_UE_CLEAN).mdcRegion (x.addr * 128) = none := by
    refine (State.mdcRegion_congr (fun f hf r hr8 => ?_) _).trans hr
    obtain ⟨hue, hclean⟩ := hrows f hf r hr8
    rw [State.raise_eq, State.rd_wr_ne _ _ _ _ _ _ _ _ hclean, State.bump_eq, State.rd_wr_ne _ _ _ _ _ _ _ _ hue]
    rfl
  simp only [State.mdcUncorrectable, hx, hd, Bool.false_eq_true, if_false]
  exact State.mdcFill_outside hp hregion

/-- The invalidation after a reset ends 32,768 engine cycles later, with no line left (R266). -/
theorem State.mdcReady_eq {s : State} (hr : s.rdb Fld.MDC_STATUS_READY = false) (hm : s.aon.mainReset = false)
    (hl : s.aon.leaseEnd = none) :
    s.mdcReady = { s.wr Fld.MDC_STATUS_READY 1 with now := s.now + 32768 * s.cycle, mdc := { lines := [] } } := by
  simp only [State.mdcReady, hr, hm, Bool.false_and, Bool.or_self, Bool.false_eq_true, if_false, State.advance_unleased hl,
    Nat.max_eq_right (Nat.le_add_right _ _)]
  rfl

end Sys2Proof.Machine
end

section
/-! PROOFS. The translation map: checkpoints, recovery, map deltas and page fetches (R256 to R262, R268). -/

namespace Sys2Proof.Machine

open Sys2Proof

/-! ## Ownership sets in MAP -/

@[simp] theorem State.mapSet_setMapSet_self (s : State) (o : Nat) (m : MapSet) : (s.setMapSet o m).mapSet o = m :=
  Assoc.getD_put_self _ _ _ _

@[simp] theorem State.mapSet_wr (s : State) (f : Field) (v i j o : Nat) : (s.wr f v i j).mapSet o = s.mapSet o := rfl
@[simp] theorem State.setMapSet_dirty (s : State) (o : Nat) (m : MapSet) : (s.setMapSet o m).map.dirty = s.map.dirty := rfl
@[simp] theorem State.rd_setMapSet (s : State) (o : Nat) (m : MapSet) (f : Field) (i j : Nat) : (s.setMapSet o m).rd f i j = s.rd f i j := rfl

/-! ## Checkpoints (R257, R258) -/

/-- The checkpoint that starts on a set: its fences, the instant it stands for, and the pages it writes (R258 step 1). -/
def State.ckptOf (s : State) (o : Nat) : Ckpt :=
  { fenceA := if s.aon.side = .a then s.nextJseq else s.peerJseq, fenceB := if s.aon.side = .a then s.peerJseq else s.nextJseq,
    t := s.ctNs, pages := s.dirtyOf o, dir := false }

/-- A trigger starts a checkpoint where none runs (R257, R258). -/
theorem State.ckptTrigger_idle {s : State} {o : Nat} (hrun : (s.mapSet o).run = none) (hp : s.admittedPend Blk.MAP = false) :
    s.ckptTrigger o =
      s.setMapSet o { s.mapSet o with lastStart := some s.now, bytes := 0, run := some (s.ckptOf o), again := false } := by
  simp only [State.ckptTrigger, hrun, Option.isSome_none, Bool.false_eq_true, if_false, State.boundary_eq hp]
  rfl

/-- A trigger while a checkpoint runs is late: the next follows it (R257). -/
theorem State.ckptTrigger_running {s : State} {o : Nat} {c : Ckpt} (hrun : (s.mapSet o).run = some c) :
    s.ckptTrigger o =
      ((s.setMapSet o { s.mapSet o with again := true }).raise Fld.MAP_ERR_CKPT_LATE).wr Fld.MAP_ERR_INFO_OSET o := by
  simp only [State.ckptTrigger, hrun, Option.isSome_some, if_true]

/-- A trigger leaves the leaves and the PGs, and whether its set recovers and merges. -/
theorem State.ckptTrigger_keeps {s : State} (hp : s.admittedPend Blk.MAP = false) (o : Nat) :
    ((s.ckptTrigger o).mapSet o).recovering = (s.mapSet o).recovering ∧ ((s.ckptTrigger o).mapSet o).merging = (s.mapSet o).merging ∧
      (s.ckptTrigger o).map.leaves = s.map.leaves ∧ (s.ckptTrigger o).pgs = s.pgs := by
  cases hrun : (s.mapSet o).run with
  | none =>
    rw [State.ckptTrigger_idle hrun hp, State.mapSet_setMapSet_self]
    exact ⟨rfl, rfl, rfl, rfl⟩
  | some c =>
    rw [State.ckptTrigger_running hrun, State.raise_eq, State.mapSet_wr, State.mapSet_wr, State.mapSet_setMapSet_self]
    exact ⟨rfl, rfl, rfl, rfl⟩

/-- The delta bytes since the fence trigger a checkpoint of a set that MAP serves (R257). -/
theorem State.checkpointStart_bytes {s : State} {o : Nat} (hs : s.mapServes o = true)
    (hb : s.rd Fld.MAP_CKPT_MIB * 2 ^ 20 ≤ (s.mapSet o).bytes) : s.checkpointStart o = s.ckptTrigger o := by
  simp only [State.checkpointStart, hs, Bool.not_true, Bool.false_eq_true, if_false, if_pos hb]

/-- With the stripes programmed, the directory is being written (R258 step 3). -/
theorem State.mapSet_checkpointStripes {s : State} {o : Nat} {c : Ckpt} (hrun : (s.mapSet o).run = some c) (hdir : c.dir = false)
    (l : List StripeAt) : ((s.checkpointStripes o l).mapSet o).run = some { c with dir := true } := by
  simp only [State.checkpointStripes, hrun, hdir, Bool.false_eq_true, if_false, State.mapSet_setMapSet_self]

/-- The pages that a checkpoint has written, and that no delta has reached since, are clean (R258 step 4). -/
def State.cleanPages (s : State) (c : Ckpt) : State := { s with map := { s.map with dirty := s.map.dirty.keep (fun p _ => !c.pages.mem p) } }

/-- With the directory persistent, and no checkpoint to follow, the checkpoint of the set ends (R258 step 4). -/
theorem State.checkpointDone_eq {s : State} {o : Nat} {c : Ckpt} (hrun : (s.mapSet o).run = some c) (hdir : c.dir = true)
    (hagain : (s.mapSet o).again = false) :
    ∃ ends gen, s.checkpointDone o false =
      ((((s.endLive ends).cleanPages c).wr Fld.MAP_CKPT_GEN_GEN gen).wr Fld.MAP_CKPT_LAST_NS c.t).setMapSet o
        { s.mapSet o with gen := (s.mapSet o).gen + 1, run := none, again := false, merging := false } := by
  simp only [State.checkpointDone, hrun, hdir, hagain, Bool.not_true, Bool.false_and, Bool.false_eq_true, if_false]
  exact ⟨_, _, rfl⟩

/-- Then no checkpoint runs on the set, whose generation is the next; the pages written are clean, and the time of the checkpoint is shown. -/
theorem State.checkpointDone_spec {s : State} {o : Nat} {c : Ckpt} (hrun : (s.mapSet o).run = some c) (hdir : c.dir = true)
    (hagain : (s.mapSet o).again = false) :
    ((s.checkpointDone o false).mapSet o).run = none ∧ ((s.checkpointDone o false).mapSet o).gen = (s.mapSet o).gen + 1 ∧
      (s.checkpointDone o false).map.dirty = s.map.dirty.keep (fun p _ => !c.pages.mem p) ∧
      (s.checkpointDone o false).rd Fld.MAP_CKPT_LAST_NS = c.t % 2 ^ 64 := by
  obtain ⟨ends, gen, hdone⟩ := State.checkpointDone_eq hrun hdir hagain
  have hmap : (s.endLive ends).map = s.map := State.endLive_keeps (·.map) (fun _ _ => rfl) s ends
  rw [hdone, State.mapSet_setMapSet_self, State.rd_setMapSet, State.rd_wr_self]
  refine ⟨rfl, rfl, ?_, rfl⟩
  rw [State.setMapSet_dirty, State.wr_map, State.wr_map, State.cleanPages, hmap]

/-! ## Recovery (R260) -/

/-- An ownership set's state as OWN has it rests on OWN's sets and moves, the side, the lease and the link (Table 17.6). -/
theorem State.setState_congr {s t : State} (hown : t.own = s.own) (haon : t.aon = s.aon)
    (h : ∀ f ∈ [Fld.OWN_STATUS_LEASE, Fld.ISL_STATUS_STATE, Fld.ISL_STATUS_SUSPECT], t.rd f = s.rd f) (o : Nat) :
    t.setState o = s.setState o := by
  simp only [List.forall_mem_cons] at h
  obtain ⟨hlease, hlink, hsuspect, -⟩ := h
  unfold State.setState State.leaseIsHeld State.linkUp State.rdb
  rw [hown, haon, hlease, hlink, hsuspect]

/-- The closed blocks start with half of the read limit counted (R288). -/
def State.halfRead (s : State) : State :=
  { s with flc := { s.flc with blocks := s.flc.blocks.mapVal (fun _ b =>
      if b.firstProg = 0 then b else { b with reads := s.rd Fld.FLC_REFRESH_CFG_RD_LIMIT * 500 }) } }

/-- MAP enabled, before any set recovers. -/
def State.mapEnabled (s : State) : State := (s.wr Fld.MAP_CTRL_ENABLE 1).halfRead

/-- The sets to recover: those that the head holds, but none on a first boot (R260). -/
def State.toRecover (s : State) : List Nat :=
  if s.rdb Fld.PWR_STATUS_FIRST_BOOT then [] else s.ownSets.filter (fun o => s.setState o == setOwned)

/-- Recovery starts on the sets given; with none, MAP serves at once (R260). -/
def State.startRecovery (s : State) (os : List Nat) : State :=
  if os = [] then s.wr Fld.MAP_STATUS_STATE 2
  else
    let s := os.foldl (fun s o => s.setMapSet o { s.mapSet o with recovering := true }) s
    { s.wr Fld.MAP_STATUS_STATE 1 with map := { s.map with recoveryFrom := some s.now } }

/-- MAP_ENABLE that the checks of R443 let pass starts the recovery of the sets that the head holds (R260). -/
theorem State.mapEnable_eq {s : State} (he : s.rdb Fld.MAP_CTRL_ENABLE = false) (hok : (s.tryEnable Fld.MAP_CTRL_ENABLE).2 = true) :
    s.mapEnable = s.mapEnabled.startRecovery s.mapEnabled.toRecover := by
  have hrun : s.mapEnable = if s.rdb Fld.MAP_CTRL_ENABLE then s
      else if !(s.tryEnable Fld.MAP_CTRL_ENABLE).2 then (s.tryEnable Fld.MAP_CTRL_ENABLE).1
      else (s.tryEnable Fld.MAP_CTRL_ENABLE).1.halfRead.startRecovery (s.tryEnable Fld.MAP_CTRL_ENABLE).1.halfRead.toRecover := rfl
  rw [hrun, if_neg (by simp [he]), if_neg (by simp [hok]), State.tryEnable_passes hok]
  rfl

/-- Every other field reads as before. -/
theorem State.rd_mapEnabled (s : State) {f : Field} (h : f.key 0 0 ≠ Fld.MAP_CTRL_ENABLE.key 0 0) : s.mapEnabled.rd f = s.rd f :=
  State.rd_wr_ne s Fld.MAP_CTRL_ENABLE f 1 0 0 0 0 h

/-- Enabling MAP changes nothing of which sets there are to recover. -/
theorem State.toRecover_mapEnabled (s : State) : s.mapEnabled.toRecover = s.toRecover := by
  have hset : ∀ o, s.mapEnabled.setState o = s.setState o := State.setState_congr rfl rfl fun f hf =>
    s.rd_mapEnabled ((by decide : ∀ f ∈ [Fld.OWN_STATUS_LEASE, Fld.ISL_STATUS_STATE, Fld.ISL_STATUS_SUSPECT],
      f.key 0 0 ≠ Fld.MAP_CTRL_ENABLE.key 0 0) f hf)
  have hboot : s.mapEnabled.rdb Fld.PWR_STATUS_FIRST_BOOT = s.rdb Fld.PWR_STATUS_FIRST_BOOT :=
    congrArg (· == 1) (s.rd_mapEnabled (by decide))
  have hown : s.mapEnabled.ownSets = s.ownSets := rfl
  simp only [State.toRecover, hset, hboot, hown]

/-- With sets to recover, MAP is recovering from now on (R260). -/
theorem State.startRecovery_spec (s : State) {os : List Nat} (h : os ≠ []) :
    (s.startRecovery os).rd Fld.MAP_STATUS_STATE = 1 ∧ (s.startRecovery os).map.recoveryFrom = some s.now := by
  rw [State.startRecovery, if_neg h]
  exact ⟨State.rd_wr_self _ Fld.MAP_STATUS_STATE 1 0 0, congrArg some (foldl_keeps _ (·.now) (by exact fun _ _ => rfl) os s)⟩

/-- Step 5 over for a set: with no other left to recover, MAP serves, and the time it took is shown (R260). -/
def State.recoveryEnds (s : State) : State :=
  if s.map.sets.any (fun e => e.2.recovering) then s
  else
    let us := (s.now - s.map.recoveryFrom.getD s.now) / unitsPerUs
    if s.rd Fld.MAP_STATUS_STATE = 1 then (s.wr Fld.MAP_STATUS_STATE 2).wr Fld.MAP_RECOVERY_US_US us else s

/-- That changes registers alone. -/
theorem State.recoveryEnds_frame (s : State) : s.recoveryEnds = { s with regs := s.recoveryEnds.regs } := by
  unfold State.recoveryEnds
  split
  · rfl
  · dsimp only
    split <;> rfl

/-- Step 5 over for a set: the set is served, and its delta table is merged on first use (Table 11.5). -/
def State.recovered (s : State) (o : Nat) : State :=
  (s.setMapSet o { s.mapSet o with recovering := false, merging := true }).recoveryEnds

/-- That leaves the leaves, the PGs, the waiting reads and the commits. -/
theorem State.recovered_spec (s : State) (o : Nat) :
    (s.recovered o).mapSet o = { s.mapSet o with recovering := false, merging := true } ∧ (s.recovered o).map.leaves = s.map.leaves ∧
      (s.recovered o).pgs = s.pgs ∧ (s.recovered o).flc = s.flc ∧ (s.recovered o).adm = s.adm := by
  rw [State.recovered, State.recoveryEnds_frame]
  exact ⟨State.mapSet_setMapSet_self s o _, rfl, rfl, rfl, rfl⟩

/-- RECOVERY_SET_SERVE with nothing found to apply and no read waiting: where MAP serves the set, a checkpoint is triggered (Table 11.5). -/
theorem State.recoverySet_eq {s : State} {o : Nat} (hrec : (s.mapSet o).recovering = true) (hreads : s.flc.reads = []) :
    s.recoverySet o ⟨[], [], false⟩ =
      if (s.recovered o).mapServes o then (s.recovered o).ckptTrigger o else s.recovered o := by
  have hrun : s.recoverySet o ⟨[], [], false⟩ = if !(s.mapSet o).recovering then s
      else
        let u := (s.recovered o).resumeReads (fun w => w.left == [])
        if u.mapServes o then u.ckptTrigger o else u := rfl
  obtain ⟨-, -, -, hflc, -⟩ := s.recovered_spec o
  rw [hrun, if_neg (by simp [hrec]), State.resumeReads_none (by simp [hflc, hreads])]

/-- So the set is served, its delta table is merged on first use, and the leaves and the PGs stand (Table 11.5). -/
theorem State.recoverySet_spec {s : State} {o : Nat} (hrec : (s.mapSet o).recovering = true) (hreads : s.flc.reads = [])
    (hp : s.admittedPend Blk.MAP = false) :
    ((s.recoverySet o ⟨[], [], false⟩).mapSet o).recovering = false ∧ ((s.recoverySet o ⟨[], [], false⟩).mapSet o).merging = true ∧
      (s.recoverySet o ⟨[], [], false⟩).map.leaves = s.map.leaves ∧ (s.recoverySet o ⟨[], [], false⟩).pgs = s.pgs := by
  obtain ⟨hset, hleaves, hpgs, -, hadm⟩ := s.recovered_spec o
  rw [State.recoverySet_eq hrec hreads]
  split
  · obtain ⟨hrecovering, hmerging, htleaves, htpgs⟩ := State.ckptTrigger_keeps ((State.admittedPend_congr hadm _).trans hp) o
    rw [hrecovering, hmerging, htleaves, htpgs, hset]
    exact ⟨rfl, rfl, hleaves, hpgs⟩
  · rw [hset]
    exact ⟨rfl, rfl, hleaves, hpgs⟩

/-! ## Map deltas (R256) -/

/-- A page that becomes dirty leaves the registers and every leaf as they are. -/
theorem State.dirtyPage_keeps (s : State) (page nsid : Nat) :
    (s.dirtyPage page nsid).regs = s.regs ∧ (s.dirtyPage page nsid).map.leaves = s.map.leaves := by
  unfold State.dirtyPage
  split <;> exact ⟨rfl, rfl⟩

/-- The first version put under a key is its only one. -/
theorem State.putLeaf_first {s : State} {key : Nat} (h : s.map.leaves.look key = none) (v : Leaf) :
    (s.putLeaf key v).regs = s.regs ∧ (s.putLeaf key v).map.leaves.look key = some [v] := by
  have hv : putVersion (s.map.leaves.getD key []) v = [v] := by rw [Assoc.getD, h, Option.getD_none, putVersion]
  rw [State.putLeaf, hv]
  obtain ⟨hregs, hleaves⟩ := State.dirtyPage_keeps { s with map := { s.map with leaves := s.map.leaves.put key [v] } } (pageOf key) (leafNs key)
  exact ⟨hregs, (congrArg (·.look key) hleaves).trans (Assoc.look_put_self _ _ _)⟩

/-- An entry of KIND 1 without RELOC whose leaf holds no version yet becomes its only version; no register changes. -/
theorem State.applyDeltas_first {s : State} {d : Delta} (hk : d.kind = 1) (hr : d.reloc = false)
    (hl : s.map.leaves.look (leafKey d.nsid 0 d.laddr) = none) :
    (s.applyDeltas [d]).regs = s.regs ∧
      ∃ v, (s.applyDeltas [d]).map.leaves.look (leafKey d.nsid 0 d.laddr) = some [v] ∧ v.kind = 1 ∧ v.addr = d.addr ∧ v.wseq = d.wseq := by
  have hkey : s.deltaLeaf d = leafKey d.nsid 0 d.laddr := by simp [State.deltaLeaf, hk]
  have hput : ∀ idx, s.applyDelta d idx = s.putLeaf (leafKey d.nsid 0 d.laddr)
      { kind := 1, voff := 0, birth := s.activeEpoch d.nsid, addr := d.addr, wseq := d.wseq, idx := idx, stamp := s.ctNs } := fun idx => by
    simp [State.applyDelta, State.freshDelta, State.leafWseq, Assoc.getD, hkey, hk, hr, hl]
  simp only [State.applyDeltas, List.foldl_cons, List.foldl_nil, hput]
  obtain ⟨hregs, hlook⟩ := State.putLeaf_first hl _
  exact ⟨hregs, _, hlook, rfl, rfl, rfl⟩

/-- A persistent record of this head applies its entries. -/
theorem State.mapDeltaApply_own {s : State} {j : Nat} {r : PjmRec} {ds : List Delta} (hr : s.recOf j = some r)
    (hp : s.recPersistent r = true) (hb : r.body = .mapDelta ds) : s.mapDeltaApply false j = s.applyDeltas ds := by
  simp only [State.mapDeltaApply, Bool.false_eq_true, if_false, hr, hp, if_true, hb]

/-- So does a record of the partner in the mirror's log. -/
theorem State.mapDeltaApply_mirror {s : State} {j : Nat} {m : MirrorRec} {ds : List Delta}
    (hm : s.mirrorLog.find? (fun m => m.orig == j) = some m) (hb : m.body = .mapDelta ds) :
    s.mapDeltaApply true j = s.applyDeltas ds := by
  simp only [State.mapDeltaApply, if_true, hm, hb]

/-! ## The map cache (R261, R262) -/

/-- A page not in the cache is fetched whole into a frame that is free, and stands at the front (R261). -/
theorem State.pageFetch_free {s : State} {p : Nat} (he : s.rdb Fld.MAP_CTRL_ENABLE = true) (hm : s.rdb Fld.MDC_CTRL_ENABLE = false)
    (hc : s.map.cached.contains p = false) (hf : s.framesUsed < s.mapFrames) (l k : Nat) :
    s.pageFetch p l k .whole [] = (s.bump Fld.MAP_STAT_FETCH_COUNT).cacheFront p := by
  simp only [State.pageFetch, he, hm, hc, Bool.not_true, Bool.false_and, Bool.or_self, Bool.false_eq_true, if_false, if_pos hf,
    State.pageGot, List.foldl_nil]

/-! ## The statement -/

/-- Settles O38. -/
theorem checkpointsRecoveryAndWayGroups : Obligations.CheckpointsRecoveryAndWayGroups := by
  refine ⟨?start, ?late, ?stripes, ?directory, ?command, ?threshold, ?firstBoot, ?enable, ?recovered, ?own, ?mirror, ?fetch, ?dirtyLine,
    ?cleanLine, ?down, ?up, ?swept, ?woken, ?ready⟩
  case start =>
    intro s o hs hb hrun hp
    refine Completes.of_effect (congrArg ended ((State.checkpointStart_bytes hs hb).trans (State.ckptTrigger_idle hrun hp))) ?_
    rw [State.mapSet_setMapSet_self]
    exact ⟨rfl, rfl, rfl, _, rfl, rfl, rfl, rfl⟩
  case late =>
    intro s o c hs hb hrun
    refine Completes.of_effect (congrArg ended ((State.checkpointStart_bytes hs hb).trans (State.ckptTrigger_running hrun))) ?_
    rw [State.raise_eq, State.mapSet_wr, State.mapSet_wr, State.mapSet_setMapSet_self, State.rd_wr_ne _ _ _ _ _ _ _ _ (by decide),
      State.rd_wr_self]
    exact ⟨hrun, rfl, rfl⟩
  case stripes => exact fun s o c l hrun hdir => Completes.of_effect rfl (State.mapSet_checkpointStripes hrun hdir l)
  case directory => exact fun s o c hrun hdir hagain => Completes.of_effect rfl (State.checkpointDone_spec hrun hdir hagain)
  case command =>
    intro s o hsets hrun hp
    have hcmd : s.ckptCmd = s.ckptTrigger o := by rw [State.ckptCmd, hsets, List.foldl_cons, List.foldl_nil]
    refine Completes.of_effect (congrArg ended (hcmd.trans (State.ckptTrigger_idle hrun hp))) ?_
    rw [State.mapSet_setMapSet_self]
    exact ⟨_, rfl, rfl, rfl⟩
  case threshold =>
    intro s o hpct hdirtiest hrun hp
    have hreach : s.dirtyThreshold = s.ckptTrigger o := by simp only [State.dirtyThreshold, if_pos hpct, hdirtiest]
    refine Completes.of_effect (congrArg ended (hreach.trans (State.ckptTrigger_idle hrun hp))) ?_
    rw [State.mapSet_setMapSet_self]
    exact ⟨_, rfl, rfl⟩
  case firstBoot =>
    intro s he hok hboot
    have hnone : s.toRecover = [] := if_pos hboot
    have hserve := State.mapEnable_eq he hok
    rw [State.toRecover_mapEnabled, hnone, State.startRecovery, if_pos rfl] at hserve
    refine Completes.of_effect (congrArg ended hserve) ⟨State.rd_wr_self _ Fld.MAP_STATUS_STATE 2 0 0, ?_, rfl⟩
    rw [State.rd_wr_ne _ _ _ _ _ _ _ _ (by decide)]
    exact State.rd_wr_self s Fld.MAP_CTRL_ENABLE 1 0 0
  case enable =>
    intro s he hok hboot hsets
    have hsome : s.toRecover ≠ [] := by rwa [State.toRecover, if_neg (by simp [hboot])]
    have hrecover := State.mapEnable_eq he hok
    rw [State.toRecover_mapEnabled] at hrecover
    exact Completes.of_effect (congrArg ended hrecover) (s.mapEnabled.startRecovery_spec hsome)
  case recovered => exact fun s o hrec hreads hp => Completes.of_effect rfl (State.recoverySet_spec hrec hreads hp)
  case own =>
    intro s j r d hr hp hb hk hreloc hl
    exact Completes.of_effect (congrArg ended (State.mapDeltaApply_own hr hp hb)) (State.applyDeltas_first hk hreloc hl)
  case mirror =>
    intro s j m d hm hb hk hreloc hl
    exact Completes.of_effect (congrArg ended (State.mapDeltaApply_mirror hm hb)) (State.applyDeltas_first hk hreloc hl).2
  case fetch =>
    intro s p l k he hm hc hf
    exact Completes.of_effect (congrArg ended (State.pageFetch_free he hm hc hf l k)) ⟨rfl, s.rd_bump_self Fld.MAP_STAT_FETCH_COUNT 1 0, rfl⟩
  case dirtyLine =>
    intro s n p l k x hx hd
    refine Completes.of_effect (congrArg ended (State.mdcUncorrectable_dirty hx hd p l k)) ⟨Assoc.look_del_self _ _, ?_, ?_, rfl⟩
    · rw [State.bump_eq, State.rd_wr_ne _ _ _ _ _ _ _ _ (by decide), State.raise_eq, State.rd_wr_ne _ _ _ _ _ _ _ _ (by decide),
        State.raise_eq, State.rd_wr_self]
      rfl
    · rw [State.bump_eq, State.rd_wr_ne _ _ _ _ _ _ _ _ (by decide), State.raise_eq, State.rd_wr_self]
      rfl
  case cleanLine =>
    intro s n p l k g x hx hd hr hp
    exact Completes.of_effect (congrArg ended (State.mdcUncorrectable_clean hx hd hr hp p l k g))
      ⟨Assoc.look_del_self _ _, State.rd_wr_self _ Fld.MDC_ERR_UE_CLEAN 1 0 0, rfl⟩
  case down =>
    intro s g h hg hh hne hst hother
    exact Completes.of_effect (congrArg ended (State.wayDown_eq hg hh hne hst hother))
      ⟨s.wayGroup_setWayGroup_self hg (by decide), (s.wayGroup_setWayGroup_ne hh hne 1).trans hother, rfl⟩
  case up =>
    intro s g hg hst hq hs hd
    refine Completes.of_effect (congrArg ended (State.wayUp_eq hg hst hq hs hd)) ⟨?_, rfl, rfl⟩
    exact (State.wayGroup_congr (State.rd_wr_ne _ _ _ _ _ _ _ _ (by decide)) g).trans
      (s.wayGroup_setWayGroup_self hg (by decide))
  case swept =>
    intro s g hg hst hq hs hd
    exact Completes.of_effect (congrArg ended (State.sweepEnd_eq hg hst hq hs hd)) ⟨fun _ => State.group_ne_of_mem_mdcWithout, rfl⟩
  case woken =>
    intro s g hg hst hd
    exact Completes.of_effect (congrArg ended (State.wakeEnd_eq hg hst hd))
      ⟨State.wayGroup_setWayGroup_self _ hg (by decide), fun _ => State.group_ne_of_mem_mdcWithout⟩
  case ready =>
    intro s hr hm hl
    exact Completes.of_effect (congrArg ended (State.mdcReady_eq hr hm hl)) ⟨State.rd_wr_self s Fld.MDC_STATUS_READY 1 0 0, rfl, rfl, rfl⟩

end Sys2Proof.Machine
end

section
/-! PROOFS. The flash channels and groups: enable, training, take-up, loss and the RESET of a busy LUN (R270 to R278). -/

namespace Sys2Proof.Machine

open Sys2Proof

/-! ## The state of several channels -/

/-- The channels named are in the state given (`FLC_CH_STATUS`). -/
def State.setChans (s : State) (cs : List Nat) (st : Nat) : State := cs.foldl (fun s c => s.wr Fld.FLC_CH_STATUS_STATE st c) s

/-- Every component that register writes keep stands. -/
theorem State.setChans_keeps {γ : Type} (p : State → γ) (h : ∀ (s : State) v c, p (s.wr Fld.FLC_CH_STATUS_STATE v c) = p s) (s : State)
    (cs : List Nat) (st : Nat) : p (s.setChans cs st) = p s :=
  foldl_keeps _ p (fun _ c => h _ st c) cs s

@[simp] theorem State.setChans_flc (s : State) (cs : List Nat) (st : Nat) : (s.setChans cs st).flc = s.flc :=
  State.setChans_keeps (·.flc) (fun _ _ _ => rfl) s cs st

@[simp] theorem State.setChans_nvf (s : State) (cs : List Nat) (st : Nat) : (s.setChans cs st).nvf = s.nvf :=
  State.setChans_keeps (·.nvf) (fun _ _ _ => rfl) s cs st

/-- The registers below the channels' table read as before. -/
theorem State.rd_setChans_under (s : State) (cs : List Nat) (st : Nat) {f : Field} (h : f.key 0 0 < Fld.FLC_CH_STATUS_STATE.key 0 0) :
    (s.setChans cs st).rd f = s.rd f :=
  State.setChans_keeps (·.rd f) (fun _ v c => State.rd_wr_under _ v c h) s cs st

/-- A channel's state written is read back at that channel alone. -/
theorem State.rd_wr_chanState (s : State) (st c d : Nat) :
    (s.wr Fld.FLC_CH_STATUS_STATE st c).rd Fld.FLC_CH_STATUS_STATE d = if d = c then st % 8 else s.rd Fld.FLC_CH_STATUS_STATE d := by
  split
  · next h => rw [h, State.rd_wr_self]; rfl
  · next h =>
    refine State.rd_wr_ne _ _ _ _ _ _ _ _ ?_
    have hstride : Fld.FLC_CH_STATUS_STATE.stride = 128 := rfl
    rw [Field.key_row _ d, Field.key_row _ c, hstride]
    omega

/-- Each of the channels named reads the state given, and every other as before. -/
theorem State.rd_setChans (s : State) (cs : List Nat) (st d : Nat) :
    (s.setChans cs st).rd Fld.FLC_CH_STATUS_STATE d = if d ∈ cs then st % 8 else s.rd Fld.FLC_CH_STATUS_STATE d := by
  induction cs generalizing s with
  | nil => simp [State.setChans]
  | cons c cs ih =>
    refine (ih (s.wr Fld.FLC_CH_STATUS_STATE st c)).trans ?_
    rw [State.rd_wr_chanState]
    by_cases hmem : d ∈ cs <;> simp [hmem]

/-- So each of the eight channels of a group does (R11). -/
theorem State.rd_setChans_group (s : State) (g : Nat) {st i : Nat} (hst : st < 8) (hi : i < 8) :
    (s.setChans (chansOf g) st).rd Fld.FLC_CH_STATUS_STATE (8 * g + i) = st := by
  have hmem : 8 * g + i ∈ chansOf g := List.mem_map.2 ⟨i, List.mem_range.2 hi, rfl⟩
  rw [State.rd_setChans, if_pos hmem, Nat.mod_eq_of_lt hst]

/-! ## Enable (R270, R272) -/

/-- FLC's ENABLE has no part in which parameter pages FLC can use. -/
theorem State.paramOk_enabled (s : State) (p : ParamPage) : (s.wr Fld.FLC_CTRL_ENABLE 1).paramOk p = s.paramOk p := by
  unfold State.paramOk
  rw [State.rd_wr_ne _ _ _ _ _ _ _ _ (by decide)]

/-- With one page, which FLC can use, in every LUN, its geometry is in force and the channels held are initialised. -/
theorem State.flcEnable_first {s : State} {l : Nat} {p : ParamPage} {rest : List (Nat × ParamPage)}
    (he : s.rdb Fld.FLC_CTRL_ENABLE = false) (hok : (s.tryEnable Fld.FLC_CTRL_ENABLE).2 = true) (hg : s.flc.geom = none)
    (hp : s.paramOk p = true) (hrest : ∀ q ∈ rest, q.2 = p) :
    s.flcEnable ((l, p) :: rest) [] =
      ((s.wr Fld.FLC_CTRL_ENABLE 1).setGeom p).setChans ((s.wr Fld.FLC_CTRL_ENABLE 1).setGeom p).heldChans flcInit := by
  have hsame : ((l, p) :: rest).find? (fun q => !(s.wr Fld.FLC_CTRL_ENABLE 1).paramOk q.2 || q.2 != p) = none := by
    refine List.find?_eq_none.2 fun q hq => ?_
    have hqp : q.2 = p := (List.mem_cons.1 hq).elim (fun h => by rw [h]) (hrest q)
    simp [hqp, State.paramOk_enabled, hp]
  simp only [State.flcEnable, he, Bool.false_and, Bool.false_eq_true, if_false, State.tryEnable_passes hok, Bool.not_true,
    List.foldl_nil, State.wr_flc, hg, Option.getD_none, hsame]
  rfl

/-- The geometry is in force, its pages are shown, and ENABLE reads as before. -/
theorem State.setGeom_spec (s : State) (p : ParamPage) :
    (s.setGeom p).flc.geom = some p ∧ (s.setGeom p).rd Fld.FLC_CTRL_ENABLE = s.rd Fld.FLC_CTRL_ENABLE ∧
      (s.setGeom p).rd Fld.FLC_GEOM_PAGES = p.pages % 2 ^ 12 := by
  have hregs : (s.setGeom p).regs = (((((((s.wr Fld.FLC_GEOM_CELL p.cell).wr Fld.FLC_GEOM_PLANES (p.planes - 1)).wr
    Fld.FLC_GEOM_BLOCKS p.blocks).wr Fld.FLC_GEOM_PAGES p.pages).wr Fld.FLC_GEOM_SPARE p.spare).wr Fld.FLC_GEOM_LUNS p.luns).wr
    Fld.FLC_GEOM_VOLUMES p.volumes).regs := rfl
  rw [State.rd_congr hregs, State.rd_congr hregs]
  simp (disch := decide) only [State.rd_wr_ne, State.rd_wr_self]
  exact ⟨rfl, trivial, rfl⟩

/-! ## Training (R273) -/

/-- A channel that passes at the configured rate is trained at it. -/
theorem State.chanTraining_passed {s : State} {c : Nat} (hr : s.flcRuns = true) (hd : s.drives c = true) (hl : s.chanLooped c = false)
    (b : Bool) (n : Nat) :
    s.chanTraining c true b n = (s.emit (.train c (s.rd Fld.FLC_IF_CFG_RATE))).trained c (s.rd Fld.FLC_IF_CFG_RATE) n := by
  simp only [State.chanTraining, hr, hd, hl, Bool.not_true, Bool.or_self, Bool.false_eq_true, if_false, if_true]

/-- A channel trained is in service at its rate. -/
theorem State.trained_spec (s : State) (c rate ps : Nat) :
    (s.trained c rate ps).rd Fld.FLC_CH_STATUS_STATE c = flcInService ∧ (s.trained c rate ps).rd Fld.FLC_CH_STATUS_RATE c = rate % 2 ^ 3 := by
  have hregs : (s.trained c rate ps).regs = (((s.wr Fld.FLC_CH_STATUS_STATE flcInService c).wr Fld.FLC_CH_STATUS_RATE rate c).wr
    Fld.FLC_CH_STATUS_MARGIN_PS ps c).regs := rfl
  rw [State.rd_congr hregs, State.rd_congr hregs]
  simp (disch := decide) only [State.rd_wr_row, State.rd_wr_self]
  exact ⟨rfl, rfl⟩

/-- A channel that failed its training is failed and reported. -/
def State.chanFailed (s : State) (c : Nat) : State :=
  ((s.wr Fld.FLC_CH_STATUS_STATE flcFailed c).raise Fld.FLC_ERR_TRAIN_FAIL).wr Fld.FLC_ERR_INFO_CH c

/-- So it reads, and `FLC_ERR_INFO` names the channel. -/
theorem State.chanFailed_spec (s : State) {c : Nat} (hc : c < 128) :
    (s.chanFailed c).rd Fld.FLC_CH_STATUS_STATE c = flcFailed ∧ (s.chanFailed c).rd Fld.FLC_ERR_TRAIN_FAIL = 1 ∧
      (s.chanFailed c).rd Fld.FLC_ERR_INFO_CH = c := by
  unfold State.chanFailed
  rw [State.raise_eq]
  refine ⟨?_, ?_, (State.rd_wr_self _ _ _ _ _).trans (Nat.mod_eq_of_lt hc)⟩
  · rw [State.rd_wr_above _ _ _ _ (by decide), State.rd_wr_above _ _ _ _ (by decide), State.rd_wr_self]
    rfl
  · rw [State.rd_wr_ne _ _ _ _ _ _ _ _ (by decide), State.rd_wr_self]
    rfl

/-- Where no band is allocated, no member is there to fail (R312). -/
theorem State.failMembers_noBands {s : State} (h : s.str.bands = []) (q : Nat → Bool) : s.failMembers q = s := by
  simp only [State.failMembers, h, List.filter_nil, List.foldl_nil]

/-- The patterns of a training that fails: at the configured rate, and at the next lower one where there is one. -/
def State.trainTried (s : State) (c : Nat) : State :=
  match lowerRate (s.rd Fld.FLC_IF_CFG_RATE) with
  | some r => (s.emit (.train c (s.rd Fld.FLC_IF_CFG_RATE))).emit (.train c r)
  | none => s.emit (.train c (s.rd Fld.FLC_IF_CFG_RATE))

@[simp] theorem State.trainTried_str (s : State) (c : Nat) : (s.trainTried c).str = s.str := by
  unfold State.trainTried
  split <;> rfl

/-- A channel that fails at both rates, or has no lower one, is failed. -/
theorem State.chanTraining_failed {s : State} {c : Nat} (hr : s.flcRuns = true) (hd : s.drives c = true) (hl : s.chanLooped c = false)
    (hb : s.str.bands = []) (n : Nat) : s.chanTraining c false false n = (s.trainTried c).chanFailed c := by
  have hrun : s.chanTraining c false false n = ((s.trainTried c).chanFailed c).failMembers (fun m => m % 128 == c) := by
    simp only [State.chanTraining, State.trainTried, hr, hd, hl, Bool.not_true, Bool.or_self, Bool.false_eq_true, if_false]
    cases lowerRate (s.rd Fld.FLC_IF_CFG_RATE) <;> rfl
  have hbands : (s.trainTried c).str.bands = [] := by rw [State.trainTried_str, hb]
  rw [hrun, State.failMembers_noBands (s := (s.trainTried c).chanFailed c) hbands]

/-! ## Groups (R277, R278) -/

/-- A group is taken up: the eyes of its channels are to be checked anew. -/
def State.groupTaken (s : State) (g : Nat) : State :=
  { s with flc := { s.flc with takenUp := s.flc.takenUp.insert g, marginOk := s.flc.marginOk.filter (fun c => c / 8 != g) } }

@[simp] theorem State.rd_groupTaken (s : State) (g : Nat) (f : Field) (i j : Nat) : (s.groupTaken g).rd f i j = s.rd f i j := rfl

/-- Where no forwarded write is held, none is resolved (R128). -/
theorem State.fwdResolveAllHeld_none {s : State} (h : s.nvf.fwds.filter (fun e => e.2.held) = []) : s.fwdResolveAllHeld = s := by
  rw [State.fwdResolveAllHeld, h, List.foldl_nil]

/-- A group whose drivers are enabled is taken up: its channels are in service. No LUN of it is busy and nothing waited for it. -/
theorem State.groupTakeUp_idle {s : State} {g : Nat} (hr : s.flcRuns = true) (hd : s.aon.drivers.mem g = true)
    (ht : s.flc.takenUp.mem g = false) (hreads : s.flc.reads = []) (hf : s.nvf.fwds.filter (fun e => e.2.held) = []) :
    s.groupTakeUp g [] = ((s.setChans (chansOf g) flcInService).groupTaken g).emit (.takeUp g) := by
  have hrun : s.groupTakeUp g [] = if !s.flcRuns || !s.aon.drivers.mem g || s.flc.takenUp.mem g then s
      else ((((s.setChans (chansOf g) flcInService).groupTaken g).emit (.takeUp g)).fwdResolveAllHeld).resumeReads
        (fun w => w.left.any (fun p => p.1 / 8 == g)) := rfl
  have hfwd : State.fwdResolveAllHeld (((s.setChans (chansOf g) flcInService).groupTaken g).emit (.takeUp g)) =
      ((s.setChans (chansOf g) flcInService).groupTaken g).emit (.takeUp g) :=
    State.fwdResolveAllHeld_none (by simp [State.groupTaken, hf])
  rw [hrun, if_neg (by simp [hr, hd, ht]), hfwd, State.resumeReads_none (by simp [State.groupTaken, hreads])]

/-- A LUN that its former holder left busy receives RESET, and is busy no more (R277). -/
theorem State.busyLun_foreign {s : State} {l : Nat} {x : LunSt} (hx : s.flc.luns.look (lunOf l) = some x) (hf : x.foreign = true) :
    s.busyLun l = ((s.lunDone l).bump Fld.FLC_CH_STATUS_RESETS 1 (l % 128)).emit (.lunReset l) := by
  simp only [State.busyLun, hx, hf, if_true]

/-- FLC's own state without a group: no LUN of it, and none of its eyes checked (R278). -/
def State.groupDropped (s : State) (g : Nat) : State :=
  { s with flc := { s.flc with luns := s.flc.luns.keep (fun l _ => !(l % 128 / 8 == g)), takenUp := s.flc.takenUp.remove g
                               marginOk := s.flc.marginOk.filter (fun c => c / 8 != g) } }

@[simp] theorem State.rd_groupDropped (s : State) (g : Nat) (f : Field) (i j : Nat) : (s.groupDropped g).rd f i j = s.rd f i j := rfl

/-- A group whose drivers are disabled is lost: beside the report to STR of the programs in flight, what changes is the group's part of
FLC, the error bit and the channels' states. -/
theorem State.groupLost_keeps {γ : Type} (p : State → γ) (h : ∀ (u : State) y, p { u with str := y } = p u) {s : State} {g : Nat}
    (hd : s.aon.drivers.mem g = false) (ht : s.flc.takenUp.mem g = true) :
    p (s.groupLost g) = p (((s.raise Fld.FLC_ERR_GROUP_LOST).setChans (chansOf g) flcNotHeld).groupDropped g) := by
  unfold State.groupLost
  rw [if_neg (by simp [hd, ht])]
  exact foldl_keeps _ p (fun _ _ => h _ _) _ _

/-- Of the registers, only the error bit and the channels' states change. -/
theorem State.rd_groupLost {s : State} {g : Nat} (hd : s.aon.drivers.mem g = false) (ht : s.flc.takenUp.mem g = true) (f : Field) (i : Nat) :
    (s.groupLost g).rd f i = ((s.raise Fld.FLC_ERR_GROUP_LOST).setChans (chansOf g) flcNotHeld).rd f i :=
  (State.groupLost_keeps (·.rd f i) (fun _ _ => rfl) hd ht).trans (State.rd_groupDropped _ g f i 0)

/-! ## The statement -/

/-- Settles O39: each command takes one branch of its effect, and the always-on logic at its end touches none of it. -/
theorem channelsTrainAndGroupsMove : Obligations.ChannelsTrainAndGroupsMove := by
  refine ⟨?enable, ?passed, ?failed, ?takeUp, ?busy, ?lost⟩
  case enable =>
    intro s l p rest he hok hg hp hrest
    obtain ⟨hgeom, henable, hpages⟩ := (s.wr Fld.FLC_CTRL_ENABLE 1).setGeom_spec p
    refine Completes.of_effect (congrArg ended (State.flcEnable_first he hok hg hp hrest)) ?_
    rw [State.setChans_flc, State.rd_setChans_under _ _ _ (by decide), State.rd_setChans_under _ _ _ (by decide), henable]
    exact ⟨hgeom, State.rd_wr_self s Fld.FLC_CTRL_ENABLE 1 0 0, hpages⟩
  case passed =>
    intro s c n b _ hr hd hl
    obtain ⟨hstate, hrate⟩ := (s.emit (.train c (s.rd Fld.FLC_IF_CFG_RATE))).trained_spec c (s.rd Fld.FLC_IF_CFG_RATE) n
    exact Completes.of_effect (congrArg ended (State.chanTraining_passed hr hd hl b n)) ⟨hstate, hrate, rfl⟩
  case failed =>
    intro s c n hc hr hd hl hb
    exact Completes.of_effect (congrArg ended (State.chanTraining_failed hr hd hl hb n)) (State.chanFailed_spec _ hc)
  case takeUp =>
    intro s g _ hr hd ht hreads hf
    refine Completes.of_effect (congrArg ended (State.groupTakeUp_idle hr hd ht hreads hf))
      ⟨NatSet.mem_insert_self _ g, List.mem_cons_self, fun i hi => ?_⟩
    rw [State.rd_emit, State.rd_groupTaken]
    exact s.rd_setChans_group g (by decide) hi
  case busy =>
    intro s l x hx hf
    exact Completes.of_effect (congrArg ended (State.busyLun_foreign hx hf)) ⟨Assoc.look_del_self _ _, rfl⟩
  case lost =>
    intro s g _ hd ht
    refine Completes.of_effect (u := s.groupLost g) rfl ⟨?_, ?_, fun i hi => ?_⟩
    · rw [State.groupLost_keeps (·.flc) (fun _ _ => rfl) hd ht]
      exact NatSet.mem_remove_self _ g
    · rw [State.rd_groupLost hd ht, State.rd_setChans_under _ _ _ (by decide)]
      exact State.rd_wr_self s Fld.FLC_ERR_GROUP_LOST 1 0 0
    · rw [State.rd_groupLost hd ht]
      exact State.rd_setChans_group _ g (by decide) hi

end Sys2Proof.Machine
end

section
/-! PROOFS. What a step runs, and that every command ends. -/

namespace Sys2Proof.Machine

open Sys2Proof

/-- Settles O1: the match of `step` on the front of the queue. -/
theorem stepRunsTheFrontCommand : Obligations.StepRunsTheFrontCommand :=
  fun _ _ => rfl

/-- Settles O3: every command's meaning is the end of a command on some state. -/
theorem everyCommandEnds : Obligations.EveryCommandEnds := by
  intro c s
  obtain ⟨u, hu⟩ := exec_ends c s
  exact ⟨_, hu.trans (ended_eq u)⟩

end Sys2Proof.Machine
end

section
/-! PROOFS. DBG: the instructions of the TAP, and those that JTAG_LOCK turns into BYPASS (R526 to R530). -/

namespace Sys2Proof.Machine

open Sys2Proof

/-! ## Register frames, one write at a time -/

/-- No change differs in no field. -/
theorem State.RegsBut.refl (s : State) (l : List Field) : s.RegsBut s l := State.RegsBut.of_eq rfl l

/-- The first row of a field after a change: what `then_wr` asks is decided on the field itself. -/
theorem State.RegsBut.wrs {s t : State} {l : List Field} (h : s.RegsBut t l) (f : Field) (v : Nat) (hf : f ∈ l := by decide)
    (hi : 0 < f.first + f.count := by decide) (hj : 0 < f.count2 := by decide) : s.RegsBut (t.wr f v) l :=
  h.then_wr f v 0 0 hf hi hj

/-! ## The instruction register -/

/-- An instruction loaded: the register, and no driving instruction in force. -/
theorem State.loadIr_spec (s : State) (op : Nat) : (s.loadIr op).dbg = { s.dbg with ir := op } ∧ (s.loadIr op).rd Fld.DBG_STATUS_SCAN = 0 :=
  ⟨rfl, State.rd_wr_self _ Fld.DBG_STATUS_SCAN 0 0 0⟩

/-- What a locked instruction leaves: BYPASS loaded, and LOCKED set (R530). -/
def State.lockedIr (s : State) : State := (s.loadIr irBypass).wr Fld.DBG_STATUS_LOCKED 1

theorem State.unlessLocked_locked {s : State} (h : s.tapLocked = true) (run : State → State) : s.unlessLocked run = s.lockedIr := by
  rw [State.unlessLocked, if_pos h, State.lockedIr]

theorem State.unlessLocked_open {s : State} (h : s.tapLocked = false) (run : State → State) : s.unlessLocked run = run s := by
  rw [State.unlessLocked, h, if_neg Bool.false_ne_true]

theorem State.lockedIr_spec (s : State) :
    s.lockedIr.dbg.ir = irBypass ∧ s.lockedIr.rd Fld.DBG_STATUS_SCAN = 0 ∧ s.lockedIr.rd Fld.DBG_STATUS_LOCKED = 1 :=
  ⟨rfl, (State.rd_wr_ne _ _ _ _ _ _ _ _ (by decide)).trans (s.loadIr_spec irBypass).2, State.rd_wr_self _ Fld.DBG_STATUS_LOCKED 1 0 0⟩

/-- A command that JTAG_LOCK turns into BYPASS changes the TAP and its two status bits alone (R530). -/
theorem completes_lockedBypass {c : Instr} {s : State} (h : exec c s = ended s.lockedIr) : Completes c s (fun t => s.LockedBypass t) := by
  refine Completes.of_ended h ⟨s.lockedIr_spec.2.2, rfl, rfl, ?_⟩
  exact ((State.RegsBut.refl s _).wrs Fld.DBG_STATUS_SCAN 0).wrs Fld.DBG_STATUS_LOCKED 1

/-! ## Driving instructions -/

/-- The driving instructions, with their opcodes (Table 26.1). -/
abbrev drivingInstrs : List (Instr × Nat) :=
  [(.extest, irExtest), (.extestPulse, irExtestPulse), (.extestTrain, irExtestTrain), (.clamp, irClamp), (.highz, irHighz)]

/-- Each of them is its opcode at Update-IR. -/
theorem exec_of_mem_drivingInstrs {c : Instr} {op : Nat} (h : (c, op) ∈ drivingInstrs) (s : State) : exec c s = ended (s.drivingIr op) := by
  simp only [drivingInstrs, List.mem_cons, Prod.mk.injEq, List.not_mem_nil, or_false] at h
  rcases h with ⟨rfl, rfl⟩ | ⟨rfl, rfl⟩ | ⟨rfl, rfl⟩ | ⟨rfl, rfl⟩ | ⟨rfl, rfl⟩ <;> rfl

theorem opcode_lt_of_mem_drivingInstrs {c : Instr} {op : Nat} (h : (c, op) ∈ drivingInstrs) : op < 2 ^ 8 := by
  simp only [drivingInstrs, List.mem_cons, Prod.mk.injEq, List.not_mem_nil, or_false] at h
  rcases h with ⟨-, rfl⟩ | ⟨-, rfl⟩ | ⟨-, rfl⟩ | ⟨-, rfl⟩ | ⟨-, rfl⟩ <;> decide

/-- Locked, a driving instruction is BYPASS (R530). -/
theorem State.drivingIr_locked {s : State} (h : s.tapLocked = true) (op : Nat) : s.drivingIr op = s.lockedIr :=
  State.unlessLocked_locked h _

/-- Where R528 allows it, a driving instruction is in force. -/
theorem State.drivingIr_drives {s : State} (h : s.tapLocked = false) (hm : s.mayScan = true) (op : Nat) :
    s.drivingIr op = (s.loadIr op).wr Fld.DBG_STATUS_SCAN 1 := by
  rw [State.drivingIr, State.unlessLocked_open h, if_pos hm]

/-- Elsewhere it is refused, and BYPASS (R528). -/
theorem State.drivingIr_refused {s : State} (h : s.tapLocked = false) (hm : s.mayScan = false) (op : Nat) :
    s.drivingIr op = ((s.loadIr irBypass).raise Fld.DBG_ERR_SCAN_REFUSED).wr Fld.DBG_ERR_INFO_OPCODE op := by
  rw [State.drivingIr, State.unlessLocked_open h, hm, if_neg Bool.false_ne_true]

/-- What a refusal shows: the opcode fits its field (R528). -/
theorem State.drivingIr_refused_spec {s : State} (h : s.tapLocked = false) (hm : s.mayScan = false) {op : Nat} (hop : op < 2 ^ 8) :
    (s.drivingIr op).dbg.ir = irBypass ∧ (s.drivingIr op).rd Fld.DBG_STATUS_SCAN = 0 ∧ (s.drivingIr op).rd Fld.DBG_ERR_SCAN_REFUSED = 1 ∧
      (s.drivingIr op).rd Fld.DBG_ERR_INFO_OPCODE = op := by
  rw [State.drivingIr_refused h hm]
  refine ⟨rfl, ?_, ?_, ?_⟩
  · rw [State.rd_wr_ne _ _ _ _ _ _ _ _ (by decide), State.raise_eq, State.rd_wr_ne _ _ _ _ _ _ _ _ (by decide)]
    exact (s.loadIr_spec irBypass).2
  · rw [State.rd_wr_ne _ _ _ _ _ _ _ _ (by decide)]
    exact State.rd_wr_self _ Fld.DBG_ERR_SCAN_REFUSED 1 0 0
  · exact (State.rd_wr_self _ Fld.DBG_ERR_INFO_OPCODE op 0 0).trans (Nat.mod_eq_of_lt hop)

/-! ## The statements -/

/-- Settles O55: each of the commands answers through the one gate of R530. -/
theorem lockedInstructionsActAsBypassAsR530Says : Obligations.LockedInstructionsActAsBypassAsR530Says := by
  have driving : ∀ (s : State) (c : Instr) (op : Nat), (c, op) ∈ drivingInstrs → s.tapLocked = true →
      Completes c s (fun t => s.LockedBypass t) := fun s c op hc h =>
    completes_lockedBypass ((exec_of_mem_drivingInstrs hc s).trans (congrArg ended (State.drivingIr_locked h op)))
  refine ⟨fun s => driving s _ irExtest (by simp), fun s => driving s _ irExtestPulse (by simp), fun s => driving s _ irExtestTrain (by simp),
    fun s => driving s _ irClamp (by simp), fun s => driving s _ irHighz (by simp), fun s off size write h => ?access, fun s f v h => ?fuse⟩
  case access => exact completes_lockedBypass (congrArg ended (State.unlessLocked_locked h _))
  case fuse =>
    have hbypass : s.fuseCmd f (some v) = s.lockedIr := State.unlessLocked_locked h (fun s => (s.loadIr irFuseProg).fuseProg f v)
    exact completes_lockedBypass (congrArg ended hbypass)

/-- Settles O12. -/
theorem tapInstructionsLoadAndDrive : Obligations.TapInstructionsLoadAndDrive := by
  refine ⟨fun s => ?reset, fun s => ?bypass, fun s => ?idcode, fun s captured preload => ?sample, fun s c op hc => ⟨fun h hm => ?drives,
    fun h hm => ?refused, fun h => ?locked⟩⟩
  case reset => exact Completes.of_ended (u := s.tapReset) rfl ⟨rfl, rfl, (State.loadIr_spec _ irIdcode).2, rfl⟩
  case bypass => exact Completes.of_effect (u := s.loadIr irBypass) rfl ⟨rfl, (State.loadIr_spec _ irBypass).2, rfl⟩
  case idcode => exact Completes.of_effect (u := (s.loadIr irIdcode).emit (.tap s.idcode)) rfl ⟨rfl, rfl⟩
  case sample => exact Completes.of_effect (u := s.samplePreload captured preload) rfl ⟨rfl, rfl, (State.loadIr_spec s irSample).2⟩
  case drives =>
    refine Completes.of_effect (exec_of_mem_drivingInstrs hc s) ?_
    rw [State.drivingIr_drives h hm]
    exact ⟨rfl, State.rd_wr_self _ Fld.DBG_STATUS_SCAN 1 0 0⟩
  case refused =>
    exact Completes.of_effect (exec_of_mem_drivingInstrs hc s) (State.drivingIr_refused_spec h hm (opcode_lt_of_mem_drivingInstrs hc))
  case locked =>
    refine Completes.of_effect (exec_of_mem_drivingInstrs hc s) ?_
    rw [State.drivingIr_locked h]
    exact s.lockedIr_spec

end Sys2Proof.Machine
end

section
/-! PROOFS. DBG's fuses and loopback, and the Guestbook (R456 to R462, R531, R534). -/

namespace Sys2Proof.Machine

open Sys2Proof

/-! ## Register fields -/

/-- A field that stands once, read after a write of another. -/
theorem State.rd_wr_other (s : State) {f g : Field} (v : Nat) (h : g.key 0 0 ≠ f.key 0 0) : (s.wr f v).rd g = s.rd g :=
  State.rd_wr_ne s f g v 0 0 0 0 h

/-- A field beside those, standing once each, that a change may have written. -/
theorem State.RegsBut.rd_apart {s t : State} {l : List Field} (h : s.RegsBut t l) {f : Field} {i j : Nat}
    (hl : ∀ g ∈ l, g.stride = 0 ∧ g.stride2 = 0 ∧ g.key 0 0 ≠ f.key i j) : t.rd f i j = s.rd f i j := by
  refine h.rd f i j fun g hg a b _ _ => ?_
  obtain ⟨h1, h2, hne⟩ := hl g hg
  simpa [Field.key, h1, h2] using hne

/-- A record leaves every field beside the alarms and staging's own (R457, R463). -/
theorem State.rd_record_apart (s : State) (src code a0 a1 a2 : Nat) (alarm : Bool) {f : Field} {i j : Nat}
    (h : ∀ g ∈ Fld.GBK_ALARM_SOURCE :: stageFields, g.stride = 0 ∧ g.stride2 = 0 ∧ g.key 0 0 ≠ f.key i j) :
    (s.record src code a0 a1 a2 alarm).rd f i j = s.rd f i j :=
  (s.recordAt_frame src code a0 a1 a2 s.ctNs alarm).2.rd_apart h

/-- A value kept by a table was in it, and the test accepts it. -/
theorem Assoc.of_look_keep {α : Type} {m : Assoc α} {p : Nat → α → Bool} {k : Nat} {v : α} (h : (m.keep p).look k = some v) : p k v = true := by
  induction m with
  | nil => simp [Assoc.keep] at h
  | cons e t ih =>
    by_cases he : p e.1 e.2 = true
    · simp only [Assoc.keep, List.filter_cons, he, if_true, Assoc.look_cons] at h
      split at h
      · next hk => rw [hk, ← Option.some.inj h]; exact he
      · exact ih h
    · simp only [Assoc.keep, List.filter_cons, he] at h
      exact ih h

/-! ## Fuses (R531) -/

/-- The state once a field has been programmed: the fuses, and what they show in registers. -/
def State.fused (s : State) (field : Nat) (x : Fuses) : State :=
  let u := { s.advance (s.now + 100 * ceilDiv (fuseBits field) 32 * unitsPerUs) with dbg := { s.dbg with fuses := x } }
  (((u.wrb Fld.GLB_FUSE_KEY x.root.isSome).wrb Fld.GLB_FUSE_PUBKEY x.pub.isSome).wr Fld.GLB_FUSE_ROLLBACK x.floor).wrb Fld.DBG_STATUS_LOCKED
    x.lock

@[simp] theorem State.advance_dbg (s : State) (t : Nat) : (s.advance t).dbg = s.dbg := by rw [(s.advance_frame t).2.1]

theorem State.fuseProg_programs {s : State} {f v : Nat} {x : Fuses} (hb : s.rdb Fld.DBG_FUSE_RESULT_BUSY = false)
    (hx : s.fuseNext f v = .inl x) : s.fuseProg f v = (s.fused f x).fuseEnd STS_OK := by
  simp only [State.fuseProg, hb, Bool.false_eq_true, if_false, hx, State.advance_dbg]
  rfl

theorem State.fuseProg_refuses {s : State} {f v st : Nat} (hb : s.rdb Fld.DBG_FUSE_RESULT_BUSY = false)
    (hx : s.fuseNext f v = .inr st) : s.fuseProg f v = s.fuseEnd st := by
  simp only [State.fuseProg, hb, Bool.false_eq_true, if_false, hx]

/-- The fields that end a fuse command. -/
abbrev fuseEndFields : List Field := [Fld.DBG_FUSE_RESULT_STATUS, Fld.DBG_FUSE_RESULT_DONE, Fld.DBG_FUSE_RESULT_BUSY]

theorem State.rd_fuseEnd (s : State) (st : Nat) {g : Field} (h : ∀ f ∈ fuseEndFields, g.key 0 0 ≠ f.key 0 0) :
    (s.fuseEnd st).rd g = s.rd g := by
  simp only [fuseEndFields, List.forall_mem_cons] at h
  obtain ⟨hstatus, hdone, hbusy, -⟩ := h
  rw [State.fuseEnd, State.rd_wr_other _ _ hbusy, State.rd_wr_other _ _ hdone, State.rd_wr_other _ _ hstatus]

theorem State.fuseEnd_spec (s : State) (st : Nat) :
    (s.fuseEnd st).rd Fld.DBG_FUSE_RESULT_STATUS = st % 2 ^ Fld.DBG_FUSE_RESULT_STATUS.width ∧
    (s.fuseEnd st).rd Fld.DBG_FUSE_RESULT_DONE = 1 ∧ (s.fuseEnd st).dbg = s.dbg := by
  refine ⟨?_, ?_, rfl⟩
  · rw [State.fuseEnd, State.rd_wr_other _ _ (by decide), State.rd_wr_other _ _ (by decide)]
    exact State.rd_wr_self _ Fld.DBG_FUSE_RESULT_STATUS st 0 0
  · rw [State.fuseEnd, State.rd_wr_other _ _ (by decide)]
    exact State.rd_wr_self _ Fld.DBG_FUSE_RESULT_DONE 1 0 0

/-- What the fuses show after a command that programs one (R531). -/
theorem State.fused_spec (s : State) (f : Nat) (x : Fuses) :
    (s.fused f x).dbg = { s.dbg with fuses := x } ∧ (s.fused f x).rdb Fld.DBG_STATUS_LOCKED = x.lock ∧
    (s.fused f x).rdb Fld.GLB_FUSE_KEY = x.root.isSome := by
  refine ⟨rfl, State.rdb_wrb_self _ rfl _ 0 0, ?_⟩
  simp only [State.fused]
  rw [State.rdb_wrb_ne _ _ _ _ _ _ _ _ (by decide), State.rdb, State.rd_wr_other _ _ (by decide), ← State.rdb,
    State.rdb_wrb_ne _ _ _ _ _ _ _ _ (by decide)]
  exact State.rdb_wrb_self _ rfl _ 0 0

/-- A command of FUSE_PROG that programs a field, on the state it runs on. -/
theorem State.fuseProg_spec {s : State} {f v : Nat} {x : Fuses} (hb : s.rdb Fld.DBG_FUSE_RESULT_BUSY = false)
    (hx : s.fuseNext f v = .inl x) :
    (s.fuseProg f v).dbg = { s.dbg with fuses := x } ∧ (s.fuseProg f v).rd Fld.DBG_FUSE_RESULT_STATUS = STS_OK ∧
    (s.fuseProg f v).rd Fld.DBG_FUSE_RESULT_DONE = 1 ∧ (s.fuseProg f v).rdb Fld.DBG_STATUS_LOCKED = x.lock ∧
    (s.fuseProg f v).rdb Fld.GLB_FUSE_KEY = x.root.isSome := by
  obtain ⟨hdbg, hlocked, hkey⟩ := s.fused_spec f x
  obtain ⟨hst, hdone, hsame⟩ := (s.fused f x).fuseEnd_spec STS_OK
  rw [State.fuseProg_programs hb hx]
  refine ⟨hsame.trans hdbg, hst, hdone, ?_, ?_⟩
  · rw [State.rdb, State.rd_fuseEnd _ _ (by decide)]
    exact hlocked
  · rw [State.rdb, State.rd_fuseEnd _ _ (by decide)]
    exact hkey

/-- Field 18 is JTAG_LOCK: unprogrammed, it is programmed (Table 26.2). -/
theorem State.fuseNext_lock {s : State} (h : s.dbg.fuses.lock = false) (v : Nat) : s.fuseNext 18 v = .inl { s.dbg.fuses with lock := true } := by
  simp [State.fuseNext, h]

/-! ## Loopback (R534) -/

theorem State.loopEnd_spec (s : State) (st : Nat) :
    (s.loopEnd st).dbg.loop = none ∧ (s.loopEnd st).rd Fld.DBG_LOOP_STAT_STATUS = st % 2 ^ Fld.DBG_LOOP_STAT_STATUS.width ∧
    (s.loopEnd st).rd Fld.DBG_LOOP_STAT_DONE = 1 ∧ (s.loopEnd st).rd Fld.DBG_STATUS_LOOPING = 0 := by
  simp only [State.loopEnd]
  refine ⟨rfl, ?_, ?_, State.rd_wr_self _ Fld.DBG_STATUS_LOOPING 0 0 0⟩
  · rw [State.rd_wr_other _ _ (by decide), State.rd_wr_other _ _ (by decide), State.rd_wr_other _ _ (by decide)]
    exact State.rd_wr_self _ Fld.DBG_LOOP_STAT_STATUS st 0 0
  · rw [State.rd_wr_other _ _ (by decide), State.rd_wr_other _ _ (by decide)]
    exact State.rd_wr_self _ Fld.DBG_LOOP_STAT_DONE 1 0 0

/-- A loopback that is allowed begins, for its time (R534). -/
theorem State.loopBegin_starts {s : State} {kind target : Nat} (hb : s.rdb Fld.DBG_LOOP_STAT_BUSY = false)
    (ha : s.loopAllowed kind target = true) (ms : Nat) :
    (s.loopBegin kind target ms).dbg.loop = some (kind, target, s.now + ms * 1000 * unitsPerUs) ∧
    (s.loopBegin kind target ms).rd Fld.DBG_LOOP_STAT_BUSY = 1 ∧ (s.loopBegin kind target ms).rd Fld.DBG_STATUS_LOOPING = 1 := by
  simp only [State.loopBegin, hb, ha, Bool.not_true, Bool.false_eq_true, if_false]
  refine ⟨rfl, ?_, State.rd_wr_self _ Fld.DBG_STATUS_LOOPING 1 0 0⟩
  rw [State.rd_wr_other _ _ (by decide)]
  exact State.rd_wr_self _ Fld.DBG_LOOP_STAT_BUSY 1 0 0

/-- A loopback of anything but a flash channel ends in its time (R534). -/
theorem State.loopDone_ends {s : State} {kind target due : Nat} (hl : s.dbg.loop = some (kind, target, due)) (hk : kind ≠ 4) (errors : Nat) :
    s.loopDone errors = ((s.advance due).bump Fld.DBG_LOOP_STAT_ERRORS errors).loopEnd STS_OK := by
  simp only [State.loopDone, hl, hk, false_and, if_false]

/-! ## Records (R457 to R459) -/

/-- A record delivered without an alarm finds room in the staging ring (R457). -/
theorem State.record_room {s : State} (h : s.gbk.staging.length < 4096) (src code a0 a1 a2 : Nat) :
    s.record src code a0 a1 a2 = { s with gbk := { s.gbk with
      staging := s.gbk.staging ++ [{ s.gbkMake src code a0 a1 a2 s.ctNs false with seq := s.gbk.nextSeq, lost := min s.gbk.drops 0xFFFF }]
      nextSeq := s.gbk.nextSeq + 1
      drops := 0 } } := by
  rw [State.record, State.recordAt, if_neg Bool.false_ne_true, State.gbkStage, if_pos h]

/-- A full ring drops the record and counts it (R457). -/
theorem State.record_full {s : State} (h : 4096 ≤ s.gbk.staging.length) (src code a0 a1 a2 : Nat) :
    s.record src code a0 a1 a2 =
      (State.bump { s with gbk := { s.gbk with drops := s.gbk.drops + 1 } } Fld.GBK_LOST_COUNT).raise Fld.GBK_ERR_OVERFLOW := by
  rw [State.record, State.recordAt, if_neg Bool.false_ne_true, State.gbkStage, if_neg (Nat.not_lt.2 h)]

@[simp] theorem State.isend_gbk (s : State) (vc : Nat) (m : IslMsg) : (s.isend vc m).gbk = s.gbk := by rw [State.isend_frame]

/-- The oldest staged record goes to its slot (R458, R459). -/
theorem State.gbkWrite_spec {s : State} {r : GbkRec} {rest : List GbkRec} (hs : s.gbk.staging = r :: rest)
    (hpjm : s.rdb Fld.PJM_CTRL_ENABLE = true) (hgbk : s.rdb Fld.GBK_CTRL_ENABLE = true) (hscan : s.gbk.scanned = true)
    (hp : s.admittedPend Blk.GBK = false) (hc : s.chanIn (r.seq % 8) = true) :
    s.gbkWrite.gbk = { s.gbk with staging := rest, ring := s.gbk.ring.put (r.seq % gbkSlots) r } := by
  simp only [State.gbkWrite, hs, hpjm, hgbk, hscan, Bool.and_self, if_true, State.boundary_eq hp, State.isend_gbk]
  rw [if_pos (by exact hc), State.wr_gbk]

/-- A scan that finds no record starts the numbers at 1 (R459). -/
theorem State.gbkScan_blank {s : State} (hpjm : s.rdb Fld.PJM_CTRL_ENABLE = true) (hgbk : s.rdb Fld.GBK_CTRL_ENABLE = true)
    (hscan : s.gbk.scanned = false) (hring : s.gbk.ring = []) (hst : s.gbk.staging = []) :
    s.gbkScan [] = ((State.wr { s with gbk := { s.gbk with nextSeq := 1, lastIssue := 0, scanned := true } } Fld.GBK_HEAD_SEQ_SEQ 0).wr
      Fld.GBK_STATUS_SCANNING 0).wr Fld.GBK_FLOOR_SEQ 1 := by
  have hf : s.gbkFound [] = [] := by simp [State.gbkFound, hring]
  simp only [State.gbkScan, hpjm, hgbk, hscan, hf, hst, Bool.not_false, Bool.and_self, if_true, List.foldl_nil, List.filter_nil,
    List.mapIdx_nil, List.length_nil]

/-! ## Copies and clears (R460 to R462) -/

theorem State.gbkCopyEnd_spec (s : State) (st : Nat) :
    (s.gbkCopyEnd st).rd Fld.GBK_COPY_RESULT_STATUS = st % 2 ^ Fld.GBK_COPY_RESULT_STATUS.width ∧
    (s.gbkCopyEnd st).rd Fld.GBK_COPY_RESULT_DONE = 1 := by
  simp only [State.gbkCopyEnd]
  constructor
  · rw [State.rd_wr_other _ _ (by decide), State.rd_wr_other _ _ (by decide)]
    exact State.rd_wr_self _ Fld.GBK_COPY_RESULT_STATUS st 0 0
  · rw [State.rd_wr_other _ _ (by decide)]
    exact State.rd_wr_self _ Fld.GBK_COPY_RESULT_DONE 1 0 0

/-- A copy to DDR5 needs no transfer to a host (R460). -/
theorem State.gbkCopy_ddr {s : State} {count : Nat} (hb : s.rdb Fld.GBK_COPY_RESULT_BUSY = false) (h1 : 1 ≤ count) (h2 : count ≤ 65536)
    (partner : Bool) (other : List GbkRec) (ok : Bool) :
    s.gbkCopy count 1 partner other ok = (s.emit (.gbkCopy 1 (s.rd Fld.GBK_COPY_ADDR_ADDR) ((List.range count).map
      (fun i => s.gbkRead partner other (s.rd Fld.GBK_COPY_FIRST_SEQ + i))))).gbkCopyEnd STS_OK := by
  have hcount : ¬ (count = 0 ∨ 65536 < count) := by omega
  simp only [State.gbkCopy, hb, hcount, Bool.false_eq_true, if_false, Nat.one_ne_zero, false_and]

/-- Of GBK's own state a record changes the staging ring alone (R457). -/
theorem State.record_ring (s : State) (src code a0 a1 a2 : Nat) : (s.record src code a0 a1 a2).gbk.ring = s.gbk.ring := by
  rw [State.record, State.recordAt, if_neg Bool.false_ne_true, State.gbkStage]
  split <;> rfl

theorem State.gbkClearEnd_spec (s : State) (st : Nat) :
    (s.gbkClearEnd st).gbk = s.gbk ∧ (s.gbkClearEnd st).rd Fld.GBK_CLEAR_RESULT_STATUS = st % 2 ^ Fld.GBK_CLEAR_RESULT_STATUS.width ∧
    (s.gbkClearEnd st).rd Fld.GBK_ERR_CLEAR_REFUSED = s.rd Fld.GBK_ERR_CLEAR_REFUSED := by
  simp only [State.gbkClearEnd]
  refine ⟨rfl, ?_, ?_⟩
  · rw [State.rd_wr_other _ _ (by decide), State.rd_wr_other _ _ (by decide)]
    exact State.rd_wr_self _ Fld.GBK_CLEAR_RESULT_STATUS st 0 0
  · rw [State.rd_wr_other _ _ (by decide), State.rd_wr_other _ _ (by decide), State.rd_wr_other _ _ (by decide)]

/-- A token accepted: the records up to its number leave the ring (R461, R462). -/
theorem State.gbkClear_clears {s : State} (hb : s.rdb Fld.GBK_CLEAR_RESULT_BUSY = false)
    (ht : s.tokenRefuses (s.rd Fld.GBK_CLEAR_TOKEN) = none) :
    s.gbkClear.rd Fld.GBK_CLEAR_RESULT_STATUS = STS_OK ∧ s.gbkClear.gbk.ring = s.gbk.ring.keep (fun _ r =>
      !decide (s.rd Fld.GBK_FLOOR_SEQ ≤ r.seq ∧ r.seq ≤ bitsOf (s.rd Fld.GBK_CLEAR_TOKEN) 0 64)) := by
  simp only [State.gbkClear, hb, Bool.false_eq_true, if_false, ht]
  generalize hu : State.record _ Blk.GBK 0x0001 _ _ _ = u
  obtain ⟨hgbk, hst, -⟩ := u.gbkClearEnd_spec STS_OK
  refine ⟨hst, ?_⟩
  rw [hgbk, ← hu, State.record_ring, State.wr_gbk, State.isend_gbk]

/-- A token refused: the ring stands, and the refusal is reported and recorded (R461). -/
theorem State.gbkClear_refused {s : State} {st : Nat} (hb : s.rdb Fld.GBK_CLEAR_RESULT_BUSY = false)
    (ht : s.tokenRefuses (s.rd Fld.GBK_CLEAR_TOKEN) = some st) :
    s.gbkClear.gbk.ring = s.gbk.ring ∧ s.gbkClear.rd Fld.GBK_ERR_CLEAR_REFUSED = 1 ∧
    s.gbkClear.rd Fld.GBK_CLEAR_RESULT_STATUS = st % 2 ^ Fld.GBK_CLEAR_RESULT_STATUS.width := by
  simp only [State.gbkClear, hb, Bool.false_eq_true, if_false, ht]
  generalize hu : State.record (s.raise Fld.GBK_ERR_CLEAR_REFUSED) Blk.GBK 0x2002 _ _ st = u
  obtain ⟨hgbk, hstatus, herr⟩ := u.gbkClearEnd_spec st
  refine ⟨?_, ?_, hstatus⟩
  · rw [hgbk, ← hu, State.record_ring]
    rfl
  · rw [herr, ← hu, State.rd_record_apart _ _ _ _ _ _ _ (by decide)]
    exact State.rd_wr_self _ Fld.GBK_ERR_CLEAR_REFUSED 1 0 0

/-! ## The end of a leap second (R456) -/

/-- An inserted second ends: the offset grows by one, and the announcement is over. -/
theorem State.leapAdjust_inserted {s : State} {d : Nat} (hd : s.car.dayEnd = some d) (hl : s.rdb Fld.CAR_UTC_LEAP61 = true)
    (hoff : s.rd Fld.CAR_UTC_UTC_OFFSET < 32767) :
    s.leapAdjust.rd Fld.CAR_UTC_UTC_OFFSET = s.rd Fld.CAR_UTC_UTC_OFFSET + 1 ∧ s.leapAdjust.rd Fld.CAR_UTC_LEAP61 = 0 ∧
    s.leapAdjust.car.dayEnd = none := by
  simp only [State.leapAdjust, hd, hl, Bool.not_true, Bool.false_and, Bool.false_eq_true, if_false, if_true]
  refine ⟨?_, ?_, trivial⟩
  · rw [State.rd_withCar, State.rd_wr_other _ _ (by decide), State.rd_wr_other _ _ (by decide)]
    exact (State.rd_wr_self _ Fld.CAR_UTC_UTC_OFFSET _ 0 0).trans (Nat.mod_eq_of_lt (Nat.lt_of_le_of_lt hoff (by decide)))
  · rw [State.rd_withCar, State.rd_wr_other _ _ (by decide)]
    exact State.rd_wr_self _ Fld.CAR_UTC_LEAP61 0 0 0

/-! ## The statement -/

/-- Settles O13: each command takes one branch of its effect, and the always-on logic at its end touches none of it. -/
theorem fusesLoopbackAndGuestbook : Obligations.FusesLoopbackAndGuestbook := by
  refine ⟨?lock, ?fuse, ?fuseRefused, ?loopStart, ?loopEnd, ?staged, ?dropped, ?written, ?scan, ?copy, ?clear, ?clearRefused, ?leap⟩
  case lock =>
    intro s v hb hopen hlock
    have hrun : s.fuseCmd 18 (some v) = (s.loadIr irFuseProg).fuseProg 18 v :=
      State.unlessLocked_open hopen (fun s => (s.loadIr irFuseProg).fuseProg 18 v)
    have hb' : (s.loadIr irFuseProg).rdb Fld.DBG_FUSE_RESULT_BUSY = false :=
      (congrArg (· == 1) (State.rd_wr_other _ _ (by decide))).trans hb
    obtain ⟨hdbg, hst, -, hlocked, -⟩ := State.fuseProg_spec hb' (State.fuseNext_lock (s := s.loadIr irFuseProg) hlock v)
    refine Completes.of_effect (u := (s.loadIr irFuseProg).fuseProg 18 v) (congrArg ended hrun) ⟨by rw [hdbg]; rfl, ?_, hst⟩
    exact eq_of_beq hlocked
  case fuse =>
    intro s f x hb hx
    obtain ⟨hdbg, hst, hdone, -, hkey⟩ := State.fuseProg_spec hb hx
    exact Completes.of_effect (u := s.fuseProg f (s.rd Fld.DBG_FUSE_DATA)) rfl ⟨by rw [hdbg], hst, hdone, hkey⟩
  case fuseRefused =>
    intro s f st hb hx
    obtain ⟨hstatus, -, hdbg⟩ := s.fuseEnd_spec st
    exact Completes.of_effect (congrArg ended (State.fuseProg_refuses hb hx)) ⟨by rw [hdbg], hstatus⟩
  case loopStart => exact fun s kind target ms hb ha => Completes.of_effect rfl (State.loopBegin_starts hb ha ms)
  case loopEnd =>
    intro s kind target due errors hl hk
    exact Completes.of_effect (congrArg ended (State.loopDone_ends hl hk errors)) (State.loopEnd_spec _ STS_OK)
  case staged =>
    intro s src code a0 a1 a2 hroom
    exact Completes.of_effect (congrArg ended (State.record_room hroom src code a0 a1 a2))
      ⟨rfl, rfl, rfl, _, rfl, rfl, rfl, rfl, rfl, rfl, rfl, rfl, rfl, rfl⟩
  case dropped =>
    intro s src code a0 a1 a2 hfull
    exact Completes.of_effect (congrArg ended (State.record_full hfull src code a0 a1 a2))
      ⟨rfl, rfl, rfl, State.rd_wr_self _ Fld.GBK_ERR_OVERFLOW 1 0 0⟩
  case written =>
    intro s r rest hs hpjm hgbk hscan hp hc
    refine Completes.of_effect (u := s.gbkWrite) rfl ?_
    rw [State.gbkWrite_spec hs hpjm hgbk hscan hp hc]
    exact ⟨rfl, Assoc.look_put_self _ _ _⟩
  case scan =>
    intro s hpjm hgbk hscan hring hst
    refine Completes.of_effect (congrArg ended (State.gbkScan_blank hpjm hgbk hscan hring hst)) ⟨rfl, rfl, ?_, ?_⟩
    · rw [State.rd_wr_other _ _ (by decide), State.rd_wr_other _ _ (by decide)]
      exact State.rd_wr_self _ Fld.GBK_HEAD_SEQ_SEQ 0 0 0
    · rw [State.rd_wr_other _ _ (by decide)]
      exact State.rd_wr_self _ Fld.GBK_STATUS_SCANNING 0 0 0
  case copy =>
    intro s count partner other hb h1 h2
    obtain ⟨hst, hdone⟩ := State.gbkCopyEnd_spec (s.emit (.gbkCopy 1 (s.rd Fld.GBK_COPY_ADDR_ADDR) ((List.range count).map
      (fun i => s.gbkRead partner other (s.rd Fld.GBK_COPY_FIRST_SEQ + i))))) STS_OK
    exact Completes.of_effect (congrArg ended (State.gbkCopy_ddr hb h1 h2 partner other true)) ⟨hst, hdone, rfl⟩
  case clear =>
    intro s hb ht
    obtain ⟨hst, hring⟩ := State.gbkClear_clears hb ht
    refine Completes.of_effect (u := s.gbkClear) rfl ⟨hst, fun slot r hr => ?_⟩
    rw [hring] at hr
    have hkept := Assoc.of_look_keep hr
    simp only [Bool.not_eq_true', decide_eq_false_iff_not] at hkept
    omega
  case clearRefused => exact fun s st hb ht => Completes.of_effect (u := s.gbkClear) rfl (State.gbkClear_refused hb ht)
  case leap => exact fun s d hd hl hoff => Completes.of_effect (u := s.leapAdjust) rfl (State.leapAdjust_inserted hd hl hoff)

end Sys2Proof.Machine
end

section
/-! PROOFS. MTE: searches, updates and banks of the match engine (R358 to R368). -/

namespace Sys2Proof.Machine

open Sys2Proof

/-! ## Requests for power domains -/

/-- The fields that a request for a domain may write (R480, R481). -/
abbrev domFields : List Field :=
  [Fld.PWR_DOM_RESULT_BUSY, Fld.PWR_DOM_RESULT_DONE, Fld.PWR_DOM_RESULT_STATUS, Fld.PWR_ERR_DOM_REFUSED, Fld.PWR_ERR_INFO_DOMAIN,
    Fld.PWR_STATUS_DOM_BUSY]

/-- Between two states PWR's own state and the fields of requests have moved. -/
def State.PowerOnly (s t : State) : Prop := t = { s with pwr := t.pwr, regs := t.regs } ∧ s.RegsBut t domFields

theorem State.PowerOnly.refl (s : State) : s.PowerOnly s := ⟨rfl, State.RegsBut.refl s _⟩

theorem State.PowerOnly.trans {s t u : State} (h : s.PowerOnly t) (h' : t.PowerOnly u) : s.PowerOnly u :=
  ⟨by rw [h'.1, h.1], h.2.trans h'.2⟩

theorem State.PowerOnly.wr (s : State) (f : Field) (v : Nat) (hf : f ∈ domFields) : s.PowerOnly (s.wr f v) := by
  refine ⟨rfl, ?_⟩
  have hrow : ∀ g ∈ domFields, 0 < g.first + g.count ∧ 0 < g.count2 := by decide
  exact (State.RegsBut.refl s _).wrs f v hf (hrow f hf).1 (hrow f hf).2

theorem State.PowerOnly.pwr (s : State) (p : Pwr) : s.PowerOnly { s with pwr := p } := ⟨rfl, State.RegsBut.of_eq rfl _⟩

theorem State.domAnswer_powerOnly (s : State) (status : Nat) : s.PowerOnly (s.domAnswer status) := by
  simp only [State.domAnswer, State.wrb_eq]
  exact ((State.PowerOnly.wr _ _ _ (by decide)).trans (State.PowerOnly.wr _ _ _ (by decide))).trans (State.PowerOnly.wr _ _ _ (by decide))

/-- Judging the queue moves PWR alone (R480, R481). -/
theorem State.domNext_powerOnly (n : Nat) (s : State) : s.PowerOnly (s.domNext n) := by
  induction n generalizing s with
  | zero => exact State.PowerOnly.refl s
  | succ n ih =>
    unfold State.domNext
    split
    · split
      · exact (State.PowerOnly.pwr s _).trans (State.PowerOnly.wr _ _ _ (by decide))
      · refine State.PowerOnly.trans ?_ (ih _)
        split
        · refine State.PowerOnly.trans ?_ (State.domAnswer_powerOnly _ _)
          exact ((State.PowerOnly.pwr s _).trans (State.PowerOnly.wr _ _ _ (by decide))).trans (State.PowerOnly.wr _ _ _ (by decide))
        · exact State.PowerOnly.pwr s _
    · exact State.PowerOnly.refl s

/-- A request for a domain moves PWR alone (R480, R481). -/
theorem State.domRequest_powerOnly (s : State) (d : Nat) (on cmd : Bool) : s.PowerOnly (s.domRequest d on cmd) := by
  unfold State.domRequest
  split
  · exact (State.PowerOnly.wr _ _ _ (by decide)).trans (State.PowerOnly.wr _ _ _ (by decide))
  · refine State.PowerOnly.trans ?_ (State.domNext_powerOnly _ _)
    dsimp only
    split
    · exact ((State.PowerOnly.pwr s _).trans (State.PowerOnly.wr _ _ _ (by decide))).trans (State.PowerOnly.wr _ _ _ (by decide))
    · exact State.PowerOnly.pwr s _

@[simp] theorem State.domRequest_mte (s : State) (d : Nat) (on cmd : Bool) : (s.domRequest d on cmd).mte = s.mte := by
  rw [(s.domRequest_powerOnly d on cmd).1]

/-! ## Entries -/

@[simp] theorem State.mteEntry_setMte_self (s : State) (i : Nat) (e : MteEntry) : (s.setMte i e).mteEntry i = e := by
  unfold State.mteEntry State.setMte
  by_cases he : e = mteZero <;> simp [he]

theorem State.mteEntry_setMte_ne (s : State) {i j : Nat} (e : MteEntry) (h : j ≠ i) : (s.setMte i e).mteEntry j = s.mteEntry j := by
  unfold State.mteEntry State.setMte
  dsimp only
  split
  · exact Assoc.getD_del_ne _ _ h
  · exact Assoc.getD_put_ne _ _ _ h

/-- The entry that an update of an entry leaves (R363). -/
def MteUpd.entry (u : MteUpd) (e : MteEntry) : MteEntry :=
  match u.op with
  | 1 => mteOfImage (mteImage u.image)
  | 2 => { e with valid := false }
  | 3 => { e with result := u.image.result % 2 ^ 32 }
  | _ => e

/-- An update is written to its entry alone, and counted (R363). -/
theorem State.mteApply_spec (s : State) (u : MteUpd) :
    (s.mteApply u).mteEntry (u.index % 131072) = u.entry (s.mteEntry (u.index % 131072)) ∧
    (∀ j, j ≠ u.index % 131072 → (s.mteApply u).mteEntry j = s.mteEntry j) ∧ (s.mteApply u).mte.queue = s.mte.queue :=
  ⟨State.mteEntry_setMte_self _ _ _, fun _ hj => State.mteEntry_setMte_ne _ _ hj, rfl⟩

/-- A block's own update, with no commit waiting at MTE's boundary (R363, R366). -/
theorem State.mteDirect_eq {s : State} (h : s.admittedPend Blk.MTE = false) (u : MteUpd) : s.mteDirect u = s.mteApply u := by
  rw [State.mteDirect, State.boundary_eq h]

/-- The update at the head of the queue is written, and its completion shown (R363, R368). -/
theorem State.mteQueued_eq {s : State} {u : MteUpd} {l : List MteUpd} (h : s.admittedPend Blk.MTE = false) (hq : s.mte.queue = u :: l) :
    s.mteQueued u.op = ((State.mteApply { s with mte := { s.mte with queue := l } } u).wr Fld.MTE_UPD_RESULT_DONE 1).wrb
      Fld.MTE_UPD_RESULT_BUSY (l != []) := by
  simp only [State.mteQueued, hq, State.boundary_eq h, if_true]

/-! ## Searches -/

/-- A search of the table's consumer is counted (R360, R361). -/
theorem State.mteSearch_eq {s : State} {b t : Nat} (h : s.admittedPend Blk.MTE = false) (hb : s.rd Fld.MTE_TBL_CFG_CONSUMER t = b) (key : Nat) :
    (s.mteSearch b t key).1 = if (s.mteFind t key).multi then (s.bump Fld.MTE_STAT_SEARCH_COUNT).bump Fld.MTE_STAT_MULTI_COUNT
      else s.bump Fld.MTE_STAT_SEARCH_COUNT := by
  simp [State.mteSearch, State.boundary_eq h, hb]

theorem State.mteSearch_spec {s : State} {b t : Nat} (h : s.admittedPend Blk.MTE = false) (hb : s.rd Fld.MTE_TBL_CFG_CONSUMER t = b)
    (key : Nat) : (s.mteSearch b t key).1.mte = s.mte ∧
      (s.mteSearch b t key).1.rd Fld.MTE_STAT_SEARCH_COUNT = satAdd 64 (s.rd Fld.MTE_STAT_SEARCH_COUNT) 1 := by
  rw [State.mteSearch_eq h hb]
  split
  · refine ⟨rfl, ?_⟩
    rw [State.bump_eq, State.rd_wr_other _ _ (by decide)]
    exact State.rd_bump_self s Fld.MTE_STAT_SEARCH_COUNT 1 0
  · exact ⟨rfl, State.rd_bump_self s Fld.MTE_STAT_SEARCH_COUNT 1 0⟩

/-- The result of a test search, shown in `MTE_SEARCH_RESULT` (R368). -/
def State.showSearch (s : State) (r : MteResult) : State :=
  let s := if r.multi then s.bump Fld.MTE_STAT_MULTI_COUNT else s
  let s := ((s.wrb Fld.MTE_SEARCH_RESULT_HIT r.hit).wrb Fld.MTE_SEARCH_RESULT_MULTI r.multi).wrb Fld.MTE_SEARCH_RESULT_TIE r.tie
  let s := ((s.wrb Fld.MTE_SEARCH_RESULT_OFF r.off).wr Fld.MTE_SEARCH_RESULT_INDEX r.index).wr Fld.MTE_SEARCH_RESULT_PRIO r.prio
  (s.wr Fld.MTE_SEARCH_RESULT_RESULT r.result).wr Fld.MTE_SEARCH_RESULT_DONE 1

theorem State.mteSearchTest_eq {s : State} (h : s.admittedPend Blk.MTE = false) (t : Nat) :
    s.mteSearchTest t = (s.bump Fld.MTE_STAT_SEARCH_COUNT).showSearch (s.mteFind (t % 16) (s.rd Fld.MTE_SEARCH_KEY_KEY)) := by
  simp only [State.mteSearchTest, State.boundary_eq h, State.showSearch]

theorem State.showSearch_spec (s : State) (r : MteResult) :
    (s.showSearch r).mte = s.mte ∧ (s.showSearch r).rd Fld.MTE_SEARCH_RESULT_HIT = b2n r.hit ∧
    (s.showSearch r).rd Fld.MTE_SEARCH_RESULT_INDEX = r.index % 2 ^ 17 ∧
    (s.showSearch r).rd Fld.MTE_SEARCH_RESULT_RESULT = r.result % 2 ^ 32 ∧ (s.showSearch r).rd Fld.MTE_SEARCH_RESULT_DONE = 1 := by
  simp only [State.showSearch, State.wrb_eq]
  generalize hu : (if r.multi = true then s.bump Fld.MTE_STAT_MULTI_COUNT else s) = u
  have hmte : u.mte = s.mte := by
    rw [← hu]
    split <;> rfl
  refine ⟨hmte, ?_, ?_, ?_, State.rd_wr_self _ Fld.MTE_SEARCH_RESULT_DONE 1 0 0⟩
  · simp (disch := decide) only [State.rd_wr_other]
    refine (State.rd_wr_self _ Fld.MTE_SEARCH_RESULT_HIT _ 0 0).trans ?_
    cases r.hit <;> rfl
  · simp (disch := decide) only [State.rd_wr_other]
    exact State.rd_wr_self _ Fld.MTE_SEARCH_RESULT_INDEX _ 0 0
  · simp (disch := decide) only [State.rd_wr_other]
    exact State.rd_wr_self _ Fld.MTE_SEARCH_RESULT_RESULT _ 0 0

/-! ## Banks (R365, R367) -/

theorem State.bankState_congr {s t : State} (h : t.rd Fld.MTE_BANK_STATE_STATE = s.rd Fld.MTE_BANK_STATE_STATE) (k : Nat) :
    t.bankState k = s.bankState k := by
  rw [State.bankState, h, State.bankState]

theorem State.bankState_setBank_self (s : State) {k v : Nat} (hk : k < 8) (hv : v < 4) : (s.setBank k v).bankState k = v := by
  rw [State.bankState, State.setBank, State.rd_wr_self]
  exact (bitsOf_putBits_self (n := 16) (by omega) _ v).trans (Nat.mod_eq_of_lt hv)

theorem State.bankState_setBank_ne (s : State) {k j : Nat} (hj : j < 8) (h : j ≠ k) (v : Nat) : (s.setBank k v).bankState j = s.bankState j := by
  rw [State.bankState, State.setBank, State.rd_wr_self]
  exact bitsOf_putBits_ne (n := 16) (by omega) (by omega) _ v

/-- Asking for a domain says nothing of the banks' states. -/
theorem State.bankState_domRequest (s : State) (d : Nat) (on cmd : Bool) (k : Nat) : (s.domRequest d on cmd).bankState k = s.bankState k :=
  State.bankState_congr ((s.domRequest_powerOnly d on cmd).2.rd_apart (by decide)) k

/-- A bank goes to bulk-load mode, or leaves it, where no enabled table covers it (R365). -/
theorem State.mteBulkEnter_spec {s : State} {k : Nat} (hc : s.bankCovered (k % 8) = false) (h : s.bankState (k % 8) = 0) :
    s.mteBulkEnter k = s.setBank (k % 8) 1 := by
  simp only [State.mteBulkEnter, hc, h, Bool.false_eq_true, if_false, if_true]

theorem State.mteBulkLeave_spec {s : State} {k : Nat} (hc : s.bankCovered (k % 8) = false) (h : s.bankState (k % 8) = 1) :
    s.mteBulkLeave k = s.setBank (k % 8) 0 := by
  simp only [State.mteBulkLeave, hc, h, Bool.false_eq_true, if_false, if_true]

/-- Entries written one after the other, from the first. -/
def State.loadEntries (s : State) (a : Nat) (f : Nat → MteEntry) (n : Nat) : State :=
  (List.range n).foldl (fun s i => s.setMte (a + i) (f i)) s

theorem State.loadEntries_spec (s : State) (a : Nat) (f : Nat → MteEntry) (n : Nat) :
    (s.loadEntries a f n).regs = s.regs ∧ ∀ i, i < n → (s.loadEntries a f n).mteEntry (a + i) = f i := by
  induction n with
  | zero => exact ⟨rfl, fun i hi => absurd hi (Nat.not_lt_zero i)⟩
  | succ n ih =>
    obtain ⟨hregs, hent⟩ := ih
    have hlast : s.loadEntries a f (n + 1) = (s.loadEntries a f n).setMte (a + n) (f n) := by
      simp only [State.loadEntries, List.range_succ, List.foldl_append, List.foldl_cons, List.foldl_nil]
    rw [hlast]
    refine ⟨hregs, fun i hi => ?_⟩
    by_cases hin : i = n
    · rw [hin, State.mteEntry_setMte_self]
    · rw [State.mteEntry_setMte_ne _ _ (by omega), hent i (by omega)]

/-- A load reads the images of a bank in bulk-load mode (R365). -/
theorem State.mteBulkLoad_loads {s : State} {k first count : Nat} (es : List MteEntry) (hc : s.bankCovered (k % 8) = false)
    (h : s.bankState (k % 8) = 1) (hin : first + count ≤ 16384) :
    s.mteBulkLoad k first count (some es) =
      s.loadEntries (16384 * (k % 8) + first) (fun i => mteOfImage (mteImage (es.getD i mteZero))) (min count es.length) := by
  simp only [State.mteBulkLoad, hc, h, Bool.false_eq_true, if_false, bne_self_eq_false, State.loadEntries]
  refine List.foldl_ext _ _ _ fun u i hi => ?_
  rw [List.mem_range] at hi
  rw [if_pos (by omega)]

/-- A pair of banks that no enabled table covers is turned off, and its entries are lost (R367). -/
theorem State.mteBankPowerDown_spec {s : State} {p k : Nat} (hp : k % 8 / 2 = p) (h0 : s.bankCovered (2 * p) = false)
    (h1 : s.bankCovered (2 * p + 1) = false) (hst : s.bankState (2 * p) ≠ 2) :
    (s.mteBankPowerDown k).bankState (2 * p) = 2 ∧ (s.mteBankPowerDown k).bankState (2 * p + 1) = 2 ∧
    ∀ e ∈ (s.mteBankPowerDown k).mte.entries, e.1 / 32768 ≠ p := by
  have hrun : s.mteBankPowerDown k =
      ((((s.mteWipe (2 * p)).mteWipe (2 * p + 1)).setBank (2 * p) 2).setBank (2 * p + 1) 2).domRequest (53 + p) false false := by
    simp only [State.mteBankPowerDown, hp, h0, h1, Bool.or_self, Bool.false_eq_true, if_false, hst]
  rw [hrun, State.bankState_domRequest, State.bankState_domRequest, State.domRequest_mte]
  refine ⟨?_, State.bankState_setBank_self _ (by omega) (by decide), fun e he => ?_⟩
  · rw [State.bankState_setBank_ne _ (by omega) (by omega)]
    exact State.bankState_setBank_self _ (by omega) (by decide)
  · have hmem : e ∈ (s.mte.entries.filter (fun e => e.1 / 16384 != 2 * p)).filter (fun e => e.1 / 16384 != 2 * p + 1) := he
    simp only [List.mem_filter, bne_iff_ne, ne_eq] at hmem
    omega

/-! ## The statement -/

/-- Settles O37: each command takes one branch of its effect, and the always-on logic at its end touches none of it. -/
theorem matchEngineFollowsItsTables : Obligations.MatchEngineFollowsItsTables := by
  refine ⟨?search, ?write, ?invalidate, ?result, ?queued, ?test, ?enter, ?leave, ?load, ?down, ?up⟩
  case search =>
    intro s b tb key hp hb
    exact Completes.of_effect (u := (s.mteSearch b (tb % 16) key).1) rfl (State.mteSearch_spec hp hb key)
  case write =>
    intro s i e hp
    obtain ⟨hself, hother, -⟩ := s.mteApply_spec { index := i, op := 1, image := e }
    exact Completes.of_effect (congrArg ended (State.mteDirect_eq hp _)) ⟨hself, hother⟩
  case invalidate =>
    intro s i hp
    obtain ⟨hself, hother, -⟩ := s.mteApply_spec { index := i, op := 2, image := mteZero }
    exact Completes.of_effect (congrArg ended (State.mteDirect_eq hp _)) ⟨hself, hother⟩
  case result =>
    intro s i r hp
    obtain ⟨hself, hother, -⟩ := s.mteApply_spec { index := i, op := 3, image := { mteZero with result := r } }
    exact Completes.of_effect (congrArg ended (State.mteDirect_eq hp _)) ⟨hself, hother⟩
  case queued =>
    intro s i e u l hp hq hop
    obtain ⟨hself, -, hqueue⟩ := State.mteApply_spec { s with mte := { s.mte with queue := l } } u
    have hrun : s.mteUpdateWrite true i e = s.mteQueued u.op := by rw [hop]; rfl
    refine Completes.of_effect (congrArg ended (hrun.trans (State.mteQueued_eq hp hq))) ⟨hself.trans ?_, hqueue, ?_⟩
    · simp only [MteUpd.entry, hop]
    · rw [State.wrb_eq, State.rd_wr_other _ _ (by decide)]
      exact State.rd_wr_self _ Fld.MTE_UPD_RESULT_DONE 1 0 0
  case test =>
    intro s tb hp
    exact Completes.of_effect (congrArg ended (State.mteSearchTest_eq hp tb)) (State.showSearch_spec _ _)
  case enter =>
    intro s k hc h
    exact Completes.of_effect (congrArg ended (State.mteBulkEnter_spec hc h))
      ⟨State.bankState_setBank_self _ (Nat.mod_lt k (by decide)) (by decide), rfl⟩
  case leave =>
    intro s k hc h
    exact Completes.of_effect (congrArg ended (State.mteBulkLeave_spec hc h))
      ⟨State.bankState_setBank_self _ (Nat.mod_lt k (by decide)) (by decide), rfl⟩
  case load =>
    intro s k first count es hc h hin
    exact Completes.of_effect (congrArg ended (State.mteBulkLoad_loads es hc h hin)) (State.loadEntries_spec _ _ _ _)
  case down =>
    intro s k h0 h1 hst
    exact Completes.of_effect (u := s.mteBankPowerDown k) rfl (State.mteBankPowerDown_spec rfl h0 h1 hst)
  case up =>
    intro s k hst hq hs hd
    have hrun : s.mteBankPowerUp k = s.domRequest (53 + k % 8 / 2) true false := by simp only [State.mteBankPowerUp, hst, if_true]
    exact Completes.of_effect (congrArg ended (hrun.trans (State.domRequest_block hq hs hd))) ⟨rfl, rfl⟩

end Sys2Proof.Machine
end

section
/-! PROOFS. Frames: what an effect leaves as it was, said by the components it may copy and the register fields it may write. -/

namespace Sys2Proof.Machine

open Sys2Proof

/-- t differs from s at most in the components that U copies from it, and in the register fields named.  U s t is s with those components of t. -/
def State.Frame (U : State → State → State) (l : List Field) (s t : State) : Prop := t = U s t ∧ s.RegsBut t l

section
variable {U V : State → State → State} {l m : List Field} {s t u : State}

/-- A change that copies no component is none. -/
theorem State.Frame.refl (s : State) (hU : U s s = s := by rfl) : State.Frame U l s s := ⟨hU.symm, State.RegsBut.refl s l⟩

/-- Two changes one after the other. -/
theorem State.Frame.trans (h : State.Frame U l s t) (h' : State.Frame U l t u) (hU : ∀ s t u, U (U s t) u = U s u := by intros; rfl) :
    State.Frame U l s u := by
  refine ⟨?_, h.2.trans h'.2⟩
  calc u = U t u := h'.1
    _ = U (U s t) u := by rw [← h.1]
    _ = U s u := hU s t u

/-- More components and more fields may be named. -/
theorem State.Frame.mono (h : State.Frame U l s t) (hl : ∀ f ∈ l, f ∈ m := by decide) (hV : ∀ s t, V s (U s t) = U s t := by intros; rfl) :
    State.Frame V m s t := by
  refine ⟨?_, h.2.mono hl⟩
  calc t = U s t := h.1
    _ = V s (U s t) := (hV s t).symm
    _ = V s t := by rw [← h.1]

/-- A change of components alone. -/
theorem State.Frame.of_eq (h : t = U s t) (hr : t.regs = s.regs := by rfl) : State.Frame U l s t := ⟨h, State.RegsBut.of_eq hr l⟩

/-- One of two changes. -/
theorem State.Frame.ite {c : Prop} [Decidable c] (h : c → State.Frame U l s t) (h' : ¬ c → State.Frame U l s u) :
    State.Frame U l s (if c then t else u) := by
  split
  · next hc => exact h hc
  · next hc => exact h' hc

/-- Changes over a list, one after the other. -/
theorem State.Frame.foldl {β : Type} {f : State → β → State} (xs : List β) (hf : ∀ u, ∀ x ∈ xs, State.Frame U l u (f u x)) (s : State)
    (hrefl : ∀ s, U s s = s := by intros; rfl) (hU : ∀ s t u, U (U s t) u = U s u := by intros; rfl) :
    State.Frame U l s (xs.foldl f s) := by
  induction xs generalizing s with
  | nil => exact State.Frame.refl s (hrefl s)
  | cons a xs ih =>
    exact State.Frame.trans (hf s a List.mem_cons_self) (ih (fun u x hx => hf u x (List.mem_cons_of_mem _ hx)) _) hU

/-- A field written, of one of the fields named. -/
theorem State.Frame.wr (s : State) (f : Field) (v : Nat) (i j : Nat := 0) (hf : f ∈ l := by decide) (hi : i < f.first + f.count := by decide)
    (hj : j < f.count2 := by decide) (hU : ∀ s r, U s { s with regs := r } = { s with regs := r } := by intros; rfl) :
    State.Frame U l s (s.wr f v i j) :=
  ⟨(hU s (putField s.regs f v i j)).symm, (State.RegsBut.refl s l).then_wr f v i j hf hi hj⟩

/-- Something put among what has left the head. -/
theorem State.Frame.emit (s : State) (o : Out) (hU : ∀ s o, U s { s with out := o } = { s with out := o } := by intros; rfl) :
    State.Frame U l s (s.emit o) :=
  State.Frame.of_eq (hU s (o :: s.out)).symm

/-- A field beside those, standing once each, that may have been written reads as before. -/
theorem State.Frame.rd_apart (h : State.Frame U l s t) {f : Field} {i j : Nat}
    (hl : ∀ g ∈ l, g.stride = 0 ∧ g.stride2 = 0 ∧ g.key 0 0 ≠ f.key i j := by decide) : t.rd f i j = s.rd f i j :=
  h.2.rd_apart hl

end

/-! ## The shared operations -/

/-- A record: GBK's own state, the alarms and staging's fields (R457, R463). -/
theorem State.record_frame (s : State) (src code a0 a1 a2 : Nat) (alarm : Bool) :
    State.Frame (fun s t => { s with gbk := t.gbk, regs := t.regs }) (Fld.GBK_ALARM_SOURCE :: stageFields) s (s.record src code a0 a1 a2 alarm) :=
  s.recordAt_frame src code a0 a1 a2 s.ctNs alarm

/-- Local time passing: the clock, and what the lease timer's end touches (R378). -/
theorem State.advance_inFrame (s : State) (t : Nat) :
    State.Frame (fun s t => { s with now := t.now, aon := t.aon, gbk := t.gbk, regs := t.regs }) leaseFields s (s.advance t) :=
  (s.advance_frame t).2

/-- A message to the partner: the link and what leaves the head (R186). -/
theorem State.isend_inFrame (s : State) (vc : Nat) (m : IslMsg) :
    State.Frame (fun s t => { s with isl := t.isl, out := t.out }) [] s (s.isend vc m) :=
  State.Frame.of_eq (s.isend_frame vc m) (s.isend_regs vc m)

/-- Notices of ANA states: NVF's own state and what leaves the head (R125). -/
theorem State.anaNotices_frame (s : State) : State.Frame (fun s t => { s with nvf := t.nvf, out := t.out }) [] s s.anaNotices := by
  unfold State.anaNotices
  refine State.Frame.ite (fun _ => State.Frame.foldl _ (fun u k _ => ?_) s) (fun _ => State.Frame.refl s)
  obtain ⟨m, o, hframe, -⟩ := u.anaNoticeTo_frame k
  exact State.Frame.of_eq (by rw [hframe]) (by rw [hframe])

end Sys2Proof.Machine
end

section
/-! PROOFS. OWN as a requester: the lease, its renewals and the TAKE (R371 to R378, R384). -/

namespace Sys2Proof.Machine

open Sys2Proof

/-! ## Requests to the innkeepers -/

/-- A request is in flight with no answer (R372). -/
def inFlight (m : IkMsg) : OwnReq := { msg := m, grants := [], refused := [], records := [], done := false }

/-- A request goes to the three innkeepers, and is kept in flight (R371, R372). -/
theorem State.ikSendAll_eq (s : State) (m : IkMsg) :
    s.ikSendAll m = { s with own := { s.own with lastSend := m.tSend, reqs := s.own.reqs.put m.tSend (inFlight m) }
                             out := .ik (s.ikId 2) m :: .ik (s.ikId 1) m :: .ik (s.ikId 0) m :: s.out } := by
  simp only [State.ikSendAll, List.foldl_cons, List.foldl_nil, State.emit]
  rfl

/-- What sending requests may touch. -/
abbrev sends (s t : State) : State := { s with own := t.own, out := t.out, regs := t.regs }

theorem State.ikSendAll_frame (s : State) (m : IkMsg) : State.Frame sends [] s (s.ikSendAll m) := by
  rw [State.ikSendAll_eq]
  exact State.Frame.of_eq rfl

theorem State.querySend_frame (s : State) (kind first : Nat) : State.Frame sends [] s (s.querySend kind first) :=
  State.ikSendAll_frame s _

theorem State.ikSendAll_spec (s : State) (m : IkMsg) :
    (s.ikSendAll m).own.reqs.look m.tSend = some (inFlight m) ∧ ∀ i, i < 3 → Out.ik (s.ikId i) m ∈ (s.ikSendAll m).out := by
  rw [State.ikSendAll_eq]
  refine ⟨Assoc.look_put_self _ _ _, fun i hi => ?_⟩
  have h : i = 0 ∨ i = 1 ∨ i = 2 := by omega
  rcases h with rfl | rfl | rfl <;> simp

/-- ACQUIRE and the QUERYs after it: the lease is ACQUIRING, and beside requests nothing else moves (Table 17.1, R375). -/
theorem State.acquireSend_frame (s : State) : State.Frame sends [] (s.wr Fld.OWN_STATUS_LEASE leaseAcquiring) s.acquireSend := by
  have hacquire := (s.wr Fld.OWN_STATUS_LEASE leaseAcquiring).ikSendAll_frame ((s.wr Fld.OWN_STATUS_LEASE leaseAcquiring).ikMsg .acquire)
  have hquery := fun u : State => State.Frame.foldl (List.range 16) (fun u k _ => u.querySend_frame 0 (64 * k + 1)) u
  unfold State.acquireSend
  exact (hacquire.trans (hquery _)).trans (State.querySend_frame _ 1 0)

theorem State.acquireSend_lease (s : State) : s.acquireSend.rd Fld.OWN_STATUS_LEASE = leaseAcquiring :=
  s.acquireSend_frame.rd_apart.trans (State.rd_wr_self s Fld.OWN_STATUS_LEASE leaseAcquiring 0 0)

/-! ## Enable and renewal -/

/-- OWN enabled acquires a lease (R371, Table 17.1). -/
theorem State.ownEnable_first {s : State} (he : s.rdb Fld.OWN_CTRL_ENABLE = false) (hok : (s.tryEnable Fld.OWN_CTRL_ENABLE).2 = true) :
    s.ownEnable = (s.wr Fld.OWN_CTRL_ENABLE 1).boundNow.acquireSend := by
  simp only [State.ownEnable, he, Bool.false_eq_true, if_false, State.tryEnable_passes hok, if_true]

theorem State.ownEnable_spec {s : State} (he : s.rdb Fld.OWN_CTRL_ENABLE = false) (hok : (s.tryEnable Fld.OWN_CTRL_ENABLE).2 = true) :
    s.ownEnable.rd Fld.OWN_CTRL_ENABLE = 1 ∧ s.ownEnable.rd Fld.OWN_STATUS_LEASE = leaseAcquiring := by
  rw [State.ownEnable_first he hok]
  refine ⟨?_, State.acquireSend_lease _⟩
  rw [(State.acquireSend_frame _).rd_apart, State.rd_wr_other _ _ (by decide), State.boundNow, State.rd_wr_other _ _ (by decide)]
  exact State.rd_wr_self s Fld.OWN_CTRL_ENABLE 1 0 0

/-- A renewal at its instant, with the lease still HELD and no commit waiting: RENEW to the three innkeepers (R371). -/
theorem State.renewSend_sends {s u : State} (hs : s.leaseIsHeld = true) (he : s.rdb Fld.OWN_CTRL_ENABLE = true)
    (hu : u = s.advanceCt (Frac.int (s.own.nextRenew : Nat))) (hl : u.leaseIsHeld = true) (hp : u.admittedPend Blk.OWN = false) :
    s.renewSend = { u.ikSendAll (u.ikMsg .renew) with
      own := { (u.ikSendAll (u.ikMsg .renew)).own with nextRenew := (u.ikMsg .renew).tSend + u.leaseNs / 4 } } := by
  subst hu
  simp only [State.renewSend, hs, he, Bool.not_true, Bool.or_self, Bool.false_eq_true, if_false, hl, State.boundary_eq hp]
  rfl

/-! ## The grant of a lease -/

/-- The reply's round trip is noted in OWN alone (`OWN_RTT`). -/
theorem State.noteRtt_frame (s : State) (m : IkMsg) : State.Frame sends [Fld.OWN_RTT_NS] s (s.noteRtt m) :=
  State.Frame.trans (t := { s with own := (s.noteRtt m).own }) (State.Frame.of_eq rfl) (State.Frame.wr _ _ _)

/-- Two distinct innkeepers have granted an ACQUIRE: a majority (R371). -/
theorem OwnReq.majority_acquire {r : OwnReq} {g h : Nat × Nat × Nat} (ho : r.msg.op = .acquire) (hg : r.grants = [g, h]) :
    r.majority.isSome = true := by
  simp [OwnReq.majority, ho, hg]

/-- A majority for an ACQUIRE under a lease being acquired: HELD, with the hardware timer loaded (R371, R378, Table 17.1). -/
theorem State.requestGranted_acquire {s : State} {r : OwnReq} (ho : r.msg.op = .acquire)
    (hl : s.rd Fld.OWN_STATUS_LEASE = leaseAcquiring) (lgen agen : Nat) (whole : List Nat) :
    (s.requestGranted r lgen agen whole).rd Fld.OWN_STATUS_LEASE = leaseHeld ∧
    (s.requestGranted r lgen agen whole).aon.leaseEnd.isSome = true := by
  have hnot : (s.rd Fld.OWN_STATUS_LEASE != leaseAcquiring) = false := by simp [hl]
  simp only [State.requestGranted, ho, hnot, Bool.false_eq_true, if_false]
  generalize hu : State.mk _ _ _ _ _ _ _ _ _ _ _ _ _ _ _ _ _ _ _ _ _ _ _ _ _ _ _ _ _ _ _ _ _ _ _ _ _ _ _ = u
  refine ⟨u.anaNotices_frame.rd_apart.trans ?_, ?_⟩
  · rw [← hu]
    simp only [State.leaseTo]
    change (((s.wr Fld.OWN_STATUS_LEASE leaseHeld).wr Fld.OWN_LGEN_LGEN lgen).wr Fld.OWN_EXPIRY_NS _).rd Fld.OWN_STATUS_LEASE = leaseHeld
    rw [State.rd_wr_other _ _ (by decide), State.rd_wr_other _ _ (by decide)]
    exact State.rd_wr_self s Fld.OWN_STATUS_LEASE leaseHeld 0 0
  · rw [u.anaNotices_frame.1, ← hu]
    rfl

/-- A fresh grant of an ACQUIRE that one other innkeeper has granted: the lease is HELD (R371, R373, R375). -/
theorem State.innkeeperReply_acquires {s : State} {m : IkMsg} {i j lg ag : Nat} {r : OwnReq} (hi : s.ikIndex m.sender = some i)
    (htag : m.tagOk = true) (harr : m.array = s.arrayId) (hfresh : s.freshMsg (s.own.fromIk.getD i 0) s.leaseNs m.tSend = true)
    (hr : s.own.reqs.look m.reqT = some r) (ho : r.msg.op = .acquire) (hlife : s.ctNs < r.msg.tSend + r.life) (hm : m.op = .grant)
    (hd : r.done = false) (hg : r.grants = [(j, lg, ag)]) (hj : j ≠ i) (hl : s.rd Fld.OWN_STATUS_LEASE = leaseAcquiring) (whole : List Nat) :
    (s.innkeeperReply m whole).rd Fld.OWN_STATUS_LEASE = leaseHeld ∧ (s.innkeeperReply m whole).aon.leaseEnd.isSome = true := by
  simp only [State.innkeeperReply, hi, htag, harr, hfresh, hr, ho, Bool.not_true, bne_self_eq_false, Bool.or_self, Bool.false_eq_true, if_false,
    show (IkOp.acquire == IkOp.take) = false from rfl]
  generalize hu : State.noteRtt _ m = u
  have hnow : u.ctNs = s.ctNs := by
    rw [← hu, (State.noteRtt_frame _ m).1]
    rfl
  have hlu : u.rd Fld.OWN_STATUS_LEASE = leaseAcquiring := by
    rw [← hu, (State.noteRtt_frame _ m).rd_apart]
    exact hl
  have hkeep : [(j, lg, ag)].filter (fun g => g.1 != i) ++ [(i, m.lgen, m.agen)] = [(j, lg, ag), (i, m.lgen, m.agen)] := by simp [hj]
  obtain ⟨⟨lgen, agen⟩, hmaj⟩ := Option.isSome_iff_exists.1 (OwnReq.majority_acquire
    (r := { r with grants := [(j, lg, ag), (i, m.lgen, m.agen)] }) ho rfl)
  simp only [State.replyTo, if_neg (show ¬ r.msg.tSend + OwnReq.life r ≤ u.ctNs by omega), hm, hd, Bool.false_eq_true, if_false, hg, hkeep]
  rw [hd] at hmaj
  simp only [hmaj]
  exact State.requestGranted_acquire (by exact ho) (by exact hlu) _ _ _

/-! ## The end of a request and of the lease -/

/-- The count of renewals in a row that an innkeeper has missed; the second is reported (R375). -/
def State.noteMiss (s : State) (i n : Nat) : State :=
  let s := { s with own := { s.own with ikMiss := s.own.ikMiss.put i n } }
  if n = 2 then (s.raise Fld.OWN_ERR_IK_LOST).wr Fld.OWN_ERR_INFO_INNKEEPER i else s

theorem State.noteMiss_frame (s : State) (i n : Nat) :
    State.Frame sends [Fld.OWN_ERR_IK_LOST, Fld.OWN_ERR_INFO_INNKEEPER] s (s.noteMiss i n) ∧ (s.noteMiss i n).own.reqs = s.own.reqs := by
  unfold State.noteMiss
  dsimp only
  split
  · exact ⟨((State.Frame.of_eq (t := { s with own := { s.own with ikMiss := s.own.ikMiss.put i n } }) rfl).trans
      (State.Frame.wr _ Fld.OWN_ERR_IK_LOST 1)).trans (State.Frame.wr _ _ _), rfl⟩
  · exact ⟨State.Frame.of_eq rfl, rfl⟩

/-- Counting missed renewals touches OWN alone (R375). -/
theorem State.countMisses_frame (s : State) (r : OwnReq) :
    State.Frame sends [Fld.OWN_ERR_IK_LOST, Fld.OWN_ERR_INFO_INNKEEPER] s (s.countMisses r) ∧ (s.countMisses r).own.reqs = s.own.reqs :=
  ⟨State.Frame.foldl _ (fun u i _ => (u.noteMiss_frame i _).1) s, foldl_keeps _ (·.own.reqs) (fun u i => (u.noteMiss_frame i _).2) _ s⟩

/-- A RENEW over without a majority is gone, and reported (R371, R375). -/
theorem State.requestAbandon_renew {s : State} {t : Nat} {r : OwnReq} (hr : s.own.reqs.look t = some r) (ho : r.msg.op = .renew)
    (hd : r.done = false) :
    (s.requestAbandon t).own.reqs.look t = none ∧ (s.requestAbandon t).rd Fld.OWN_ERR_RENEW_FAIL = 1 := by
  simp only [State.requestAbandon, hr, ho, hd, Bool.false_and, Bool.false_eq_true, if_false]
  refine ⟨?_, State.rd_wr_self _ Fld.OWN_ERR_RENEW_FAIL 1 0 0⟩
  change (State.countMisses _ r).own.reqs.look t = none
  rw [(State.countMisses_frame _ r).2]
  exact Assoc.look_del_self _ _

theorem State.with_now {s : State} {n : Nat} (h : s.now = n) : { s with now := n } = s := by rw [← h]

/-- The lease timer reaches zero at its end, or at once where that is past (R378). -/
theorem State.leaseExpiry_eq {s : State} {e : Nat} (he : s.aon.leaseEnd = some e) :
    s.leaseExpiry = State.leaseZero { s with now := max s.now e } := by
  have hzero : (State.leaseZero { s with now := max s.now e }).now = max s.now e := by rw [(State.leaseZero_frame _).1]
  simp only [State.leaseExpiry, he, State.advance]
  rw [if_pos ⟨Nat.le_max_left _ _, Nat.le_max_right _ _⟩, hzero]
  have hmax : max (max s.now e) (max e s.now) = max s.now e := by omega
  rw [hmax]
  exact State.with_now hzero

/-- The end of the lease timer fences the head itself (R378). -/
theorem State.leaseZero_spec (s : State) :
    s.leaseZero.rd Fld.OWN_STATUS_LEASE = leaseSelfFenced ∧ s.leaseZero.rd Fld.OWN_ERR_SELF_FENCE = 1 ∧ s.leaseZero.now = s.now := by
  refine ⟨?_, ?_, by rw [s.leaseZero_frame.1]⟩
  · simp only [State.leaseZero]
    rw [State.rd_record_apart _ _ _ _ _ _ _ (by decide), State.raise_eq, State.rd_wr_other _ _ (by decide)]
    exact State.rd_wr_self _ Fld.OWN_STATUS_LEASE leaseSelfFenced 0 0
  · simp only [State.leaseZero]
    rw [State.rd_record_apart _ _ _ _ _ _ _ (by decide)]
    exact State.rd_wr_self _ Fld.OWN_ERR_SELF_FENCE 1 0 0

/-! ## The TAKE -/

/-- Under a HELD lease, with the partner suspect, the link down and group 0 not yet here, the first TAKE goes out (R379, R384). -/
theorem State.takeSend_suspect {s : State} (hen : s.rdb Fld.OWN_CTRL_TAKE_EN = true) (hl : s.leaseIsHeld = true) (hsent : s.own.takeSent = none)
    (hagain : s.own.takeAgain = none) (hsus : s.rdb Fld.ISL_STATUS_SUSPECT = true) (hdown : s.linkUp = false)
    (hg : s.own.groups.look 0 ≠ some s.aon.side) :
    s.takeSend = State.anaNotices { s.ikSendAll (s.ikMsg .take) with
      own := { (s.ikSendAll (s.ikMsg .take)).own with takeSent := some (s.ikMsg .take).tSend, takeAgain := none, outageFrom := s.now }
      pjm := { s.pjm with refuseMirror := true } } := by
  have hall : (List.range 16).all (fun g => s.own.groups.look g == some s.aon.side) = false := by
    rw [List.all_eq_false]
    exact ⟨0, by decide, by simpa using hg⟩
  simp only [State.takeSend, hen, hl, hsent, hagain, hsus, hdown, hall, Bool.not_true, Bool.not_false, Bool.and_self, Bool.true_or, Bool.or_false,
    Bool.and_false, Option.isSome_none, Bool.false_eq_true, if_false, Option.isNone_none, if_true]
  rfl

/-! ## The statement -/

/-- Settles O16: each command takes one branch of its effect, and the always-on logic at its end keeps the lease timer as it stands. -/
theorem leaseFollowsTable171 : Obligations.LeaseFollowsTable171 := by
  refine ⟨?enable, ?renew, ?acquired, ?abandoned, ?expired, ?take⟩
  case enable => exact fun s he hok => Completes.of_effect (u := s.ownEnable) rfl (State.ownEnable_spec he hok)
  case renew =>
    intro s u hs he hu hl hp
    obtain ⟨hreq, hout⟩ := u.ikSendAll_spec (u.ikMsg .renew)
    refine Completes.of_effect (congrArg ended (State.renewSend_sends hs he hu hl hp)) ⟨rfl, ?_, hout⟩
    exact congrArg (Option.map _) hreq
  case acquired =>
    intro s m whole i j lg ag r hi htag harr hfresh hr ho hlife hm hd hg hj hl
    obtain ⟨hheld, htimer⟩ := State.innkeeperReply_acquires hi htag harr hfresh hr ho hlife hm hd hg hj hl whole
    exact Completes.of_ended (u := s.innkeeperReply m whole) rfl ⟨hheld, by rw [Aon.settled_leaseEnd]; exact htimer⟩
  case abandoned => exact fun s t r hr ho hd => Completes.of_effect (u := s.requestAbandon t) rfl (State.requestAbandon_renew hr ho hd)
  case expired =>
    intro s e he
    obtain ⟨-, -, -, hclaims, hend⟩ := State.leaseZero_frame { s with now := max s.now e }
    obtain ⟨hlease, herr, hnow⟩ := State.leaseZero_spec { s with now := max s.now e }
    obtain ⟨hdrivers, hclaims'⟩ := Aon.settled_of_no_claim hclaims
    exact Completes.of_ended (congrArg ended (State.leaseExpiry_eq he))
      ⟨by rw [Aon.settled_leaseEnd]; exact hend, hclaims', hdrivers, hlease, herr, hnow⟩
  case take =>
    intro s hen hl hsent hagain hsus hdown hg
    refine Completes.of_effect (congrArg ended (State.takeSend_suspect hen hl hsent hagain hsus hdown hg)) ?_
    rw [(State.anaNotices_frame _).1]
    exact ⟨rfl, rfl, congrArg (Option.map _) (s.ikSendAll_spec (s.ikMsg .take)).1⟩

end Sys2Proof.Machine
end

section
-- One proof at a time: elaborated side by side, the one-file compile runs out of threads.
set_option Elab.async false
/-! PROOFS. OWN as an innkeeper: the requests of the arrays it serves (R374, Table 17.4, R376). -/

namespace Sys2Proof.Machine

open Sys2Proof

/-- The state in which a request's rules run: the innkeeper has noted its T_SEND (R373). -/
def State.noted (s : State) (m : IkMsg) : State :=
  { s with own := { s.own with ikLast := s.own.ikLast.put (m.array * 65536 + m.sender) m.tSend } }

/-- A request that the innkeeper takes is judged by the rules of its operation. -/
theorem State.ikJudge_takes {s : State} {m : IkMsg} {op : IkOp} (h : s.IkTakes m) (hop : m.op = op) (f : State → State) :
    s.ikJudge op m f = f (s.noted m) := by
  obtain ⟨hserves, htag, hfresh, hrec⟩ := h
  simp [State.ikJudge, hop, hserves, htag, hfresh, hrec, State.noted]

@[simp] theorem State.ikRecord_noted (s : State) (m : IkMsg) (a : Nat) : (s.noted m).ikRecord a = s.ikRecord a := rfl

@[simp] theorem State.ikRecord_setIkRecord_self (s : State) (a : Nat) (r : IkRecord) : (s.setIkRecord a r).ikRecord a = r :=
  Assoc.getD_put_self _ _ _ _

@[simp] theorem State.ikRecord_ikReply (s : State) (m : IkMsg) (op : IkOp) (status word a : Nat) :
    (s.ikReply m op status word).ikRecord a = s.ikRecord a := rfl

@[simp] theorem State.ikRuns_noted (s : State) (m : IkMsg) (l : Option IkLease) : (s.noted m).ikRuns l = s.ikRuns l := rfl

theorem State.ikRuns_some {s : State} {x : IkLease} (h : s.ctNs ≤ x.exp) : s.ikRuns (some x) = true := by
  simpa [State.ikRuns] using h

@[simp] theorem IkRecord.lease_setLease (r : IkRecord) (d : Side) (l : IkLease) : (r.setLease d l).lease d = some l := by
  cases d <;> rfl

/-- A lease is one side's field of its record, and the generation and the held TAKE are other fields. -/
theorem IkRecord.lease_with_agen (r : IkRecord) (d : Side) (n : Nat) : IkRecord.lease { r with agen := n } d = r.lease d := by
  cases d <;> rfl

/-- A reply leaves for the request's sender, before anything sent earlier (R372). -/
theorem State.ikReply_out (s : State) (m : IkMsg) (op : IkOp) (status word : Nat) :
    ∃ a : IkMsg, (s.ikReply m op status word).out = .ik m.sender a :: s.out ∧ a.op = op ∧ a.status = status ∧
      a.agen = (s.ikRecord m.array).agen := ⟨_, rfl, rfl, rfl, rfl⟩

/-! ## What Table 17.4 answers, operation by operation -/

section
variable {s : State} {m : IkMsg} {x : IkLease}

/-- RENEW of a running lease, of its generation and AGEN, with no TAKE held: a new EXP (Table 17.4). -/
theorem State.ikRenew_running (ht : s.IkTakes m) (hop : m.op = .renew) (hx : (s.ikRecord m.array).lease m.side = some x)
    (hexp : s.ctNs ≤ x.exp) (hl : x.lgen = m.lgen) (ha : (s.ikRecord m.array).agen = m.agen) (hh : (s.ikRecord m.array).heldTake = none) :
    s.ikRenew m = ((s.noted m).setIkRecord m.array
      { (s.ikRecord m.array).setLease m.side ⟨s.ikExp m, m.lgen⟩ with agen := m.agen }).ikReply m .grant STS_OK 0 := by
  rw [State.ikRenew, State.ikJudge_takes ht hop]
  simp only [State.ikRecord_noted, State.ikRuns_noted, hx, State.ikRuns_some hexp, hl, ha, hh]
  simp
  rfl

/-- ACQUIRE of a side with no lease: LGEN + 1 (Table 17.4). -/
theorem State.ikAcquire_free (ht : s.IkTakes m) (hop : m.op = .acquire) (hx : (s.ikRecord m.array).lease m.side = none) :
    s.ikAcquire m = ((s.noted m).setIkRecord m.array
      ((s.ikRecord m.array).setLease m.side ⟨s.ikExp m, m.lgen + 1⟩)).ikReply m .grant STS_OK 0 := by
  rw [State.ikAcquire, State.ikJudge_takes ht hop]
  simp only [State.ikRecord_noted, hx]
  rfl

/-- ACQUIRE while the side's lease runs is refused (Table 17.4). -/
theorem State.ikAcquire_running (ht : s.IkTakes m) (hop : m.op = .acquire) (hx : (s.ikRecord m.array).lease m.side = some x)
    (hexp : s.ctNs ≤ x.exp) : s.ikAcquire m = (s.noted m).ikReply m .refuse STS_LEASE_HELD x.exp := by
  rw [State.ikAcquire, State.ikJudge_takes ht hop]
  simp only [State.ikRecord_noted, State.ikRuns_noted, hx, State.ikRuns_some hexp, if_true]

/-- TAKE with the requester's lease running and its AGEN right: held while the other side's lease runs, else granted (Table 17.4). -/
theorem State.ikTake_running (ht : s.IkTakes m) (hop : m.op = .take) (hx : (s.ikRecord m.array).lease m.side = some x)
    (hexp : s.ctNs ≤ x.exp) (ha : (s.ikRecord m.array).agen = m.agen) :
    s.ikTake m = if s.ikRuns ((s.ikRecord m.array).lease m.side.other) then
      (s.noted m).setIkRecord m.array { s.ikRecord m.array with heldTake := some m } else (s.noted m).ikGrantTake m := by
  rw [State.ikTake, State.ikJudge_takes ht hop]
  simp only [State.ikRecord_noted, State.ikRuns_noted, hx, State.ikRuns_some hexp, ha]
  simp

/-- HANDOVER with the lease running, the AGEN right and no holder bit known: AGEN + 1 (Table 17.4). -/
theorem State.ikHandover_running (ht : s.IkTakes m) (hop : m.op = .handover) (hx : (s.ikRecord m.array).lease m.side = some x)
    (hexp : s.ctNs ≤ x.exp) (ha : (s.ikRecord m.array).agen = m.agen) (hh : (s.ikRecord m.array).holders = []) :
    ∃ holders, s.ikHandover m = ((s.noted m).setIkRecord m.array
      { s.ikRecord m.array with agen := m.agen + 1, holders := holders }).ikReply m .grant STS_OK 0 := by
  rw [State.ikHandover, State.ikJudge_takes ht hop]
  simp only [State.ikRecord_noted, State.ikRuns_noted, hx, State.ikRuns_some hexp, ha, hh]
  have hall : ∀ l : List Nat, l.all (fun o => (Assoc.getD [] o m.side : Side) == m.side) = true := by simp [Assoc.getD]
  simp only [beq_self_eq_true, hall, Bool.and_self, if_true]
  exact ⟨_, rfl⟩

/-- A TAKE granted: every holder bit is written, AGEN + 1, none is held, and a GRANT leaves (Table 17.4). -/
theorem State.ikGrantTake_eq (s : State) (m : IkMsg) : ∃ holders, s.ikGrantTake m = (s.setIkRecord m.array
    { s.ikRecord m.array with agen := (s.ikRecord m.array).agen + 1, heldTake := none, holders := holders }).ikReply m .grant STS_OK 0 :=
  ⟨_, rfl⟩

theorem State.ikGrantTake_spec (s : State) (m : IkMsg) :
    ((s.ikGrantTake m).ikRecord m.array).agen = (s.ikRecord m.array).agen + 1 ∧ ((s.ikGrantTake m).ikRecord m.array).heldTake = none ∧
      ∃ a : IkMsg, (s.ikGrantTake m).out = .ik m.sender a :: s.out ∧ a.op = .grant := by
  obtain ⟨holders, heq⟩ := s.ikGrantTake_eq m
  rw [heq, State.ikRecord_ikReply, State.ikRecord_setIkRecord_self]
  obtain ⟨a, hout, hop, -⟩ := (s.setIkRecord m.array _).ikReply_out m .grant STS_OK 0
  exact ⟨rfl, rfl, a, hout, hop⟩

/-- QUERY is answered by a RECORD with the array's AGEN (Table 17.4). -/
theorem State.ikQuery_takes (ht : s.IkTakes m) (hop : m.op = .query) :
    s.ikQuery m = ({ s.noted m with free := s.free + 64 }).ikReply m .record STS_OK
      ((s.noted m).holderBits (s.ikRecord m.array) m) := by
  rw [State.ikQuery, State.ikJudge_takes ht hop]
  rfl

end

/-! ## Timed events of the innkeeper -/

/-- A held TAKE whose AGEN still stands is granted once the other side's EXP has passed (Table 17.4). -/
theorem State.ikHeldExpiry_grants {s : State} {m : IkMsg} {array : Nat} (hh : (s.ikRecord array).heldTake = some m)
    (ha : (s.ikRecord array).agen = m.agen) :
    ∃ t₁ t₂, s.ikHeldExpiry array = ((s.advance t₁).advance t₂).ikGrantTake m := by
  refine ⟨?_, ?_, ?_⟩
  rotate_left 2
  · simp only [State.ikHeldExpiry, hh, ha, if_true, State.advanceCt]
    rfl

/-- Local time's passing leaves the innkeeper's records (R378). -/
theorem State.ikRecord_advance (s : State) (t a : Nat) : (s.advance t).ikRecord a = s.ikRecord a := by
  rw [(s.advance_inFrame t).1]
  rfl

/-- The restart wait over, the innkeeper starts with no records (R376). -/
theorem State.ikRecoveryEnd_eq {s : State} {t₀ : Nat} (h : s.own.ikRecovering = some t₀) :
    s.ikRecoveryEnd = { s.advance t₀ with own := { (s.advance t₀).own with ikRecords := [], ikRecovering := none } } := by
  simp only [State.ikRecoveryEnd, h]

/-- Settles O17. -/
theorem innkeeperJudgesRequests : Obligations.InnkeeperJudgesRequests := by
  unfold Obligations.InnkeeperJudgesRequests
  refine ⟨?renew, ?acquireFree, ?acquireHeld, ?takeGranted, ?takeHeld, ?handover, ?query, ?heldExpiry, ?recoveryEnd⟩
  case renew =>
    intro s m x ht hop hx hexp hl ha hh
    refine Completes.of_effect (congrArg ended (State.ikRenew_running ht hop hx hexp hl ha hh)) ⟨?_, ?_⟩
    · rw [State.ikRecord_ikReply, State.ikRecord_setIkRecord_self, IkRecord.lease_with_agen, IkRecord.lease_setLease]
    · obtain ⟨a, hout, hgrant, -⟩ := ((s.noted m).setIkRecord m.array _).ikReply_out m .grant STS_OK 0
      exact ⟨a, hout, hgrant⟩
  case acquireFree =>
    intro s m ht hop hx
    refine Completes.of_effect (congrArg ended (State.ikAcquire_free ht hop hx)) ⟨?_, ?_⟩
    · rw [State.ikRecord_ikReply, State.ikRecord_setIkRecord_self, IkRecord.lease_setLease]
    · obtain ⟨a, hout, hgrant, -⟩ := ((s.noted m).setIkRecord m.array _).ikReply_out m .grant STS_OK 0
      exact ⟨a, hout, hgrant⟩
  case acquireHeld =>
    intro s m x ht hop hx hexp
    refine Completes.of_effect (congrArg ended (State.ikAcquire_running ht hop hx hexp)) ⟨rfl, ?_⟩
    obtain ⟨a, hout, hrefuse, hstatus, -⟩ := (s.noted m).ikReply_out m .refuse STS_LEASE_HELD x.exp
    exact ⟨a, hout, hrefuse, hstatus⟩
  case takeGranted =>
    intro s m x ht hop hx hexp ha hfree
    have htake : s.ikTake m = (s.noted m).ikGrantTake m := by rw [State.ikTake_running ht hop hx hexp ha, hfree]; rfl
    obtain ⟨hagen, hheld, hout⟩ := (s.noted m).ikGrantTake_spec m
    exact Completes.of_effect (congrArg ended htake) ⟨by rw [hagen, State.ikRecord_noted, ha], hheld, hout⟩
  case takeHeld =>
    intro s m x y ht hop hx hexp ha hy hyexp
    have htake := State.ikTake_running ht hop hx hexp ha
    rw [hy, State.ikRuns_some hyexp, if_pos rfl] at htake
    refine Completes.of_effect (congrArg ended htake) ⟨?_, ?_, rfl⟩ <;> rw [State.ikRecord_setIkRecord_self]
    exact ha
  case handover =>
    intro s m x ht hop hx hexp ha hh
    obtain ⟨holders, heq⟩ := State.ikHandover_running ht hop hx hexp ha hh
    refine Completes.of_effect (congrArg ended heq) ⟨by rw [State.ikRecord_ikReply, State.ikRecord_setIkRecord_self], ?_⟩
    obtain ⟨a, hout, hgrant, -⟩ := ((s.noted m).setIkRecord m.array _).ikReply_out m .grant STS_OK 0
    exact ⟨a, hout, hgrant⟩
  case query =>
    intro s m ht hop
    refine Completes.of_effect (congrArg ended (State.ikQuery_takes ht hop)) ⟨rfl, ?_⟩
    obtain ⟨a, hout, hrecord, -, hagen⟩ := State.ikReply_out { s.noted m with free := s.free + 64 } m .record STS_OK
      ((s.noted m).holderBits (s.ikRecord m.array) m)
    exact ⟨a, hout, hrecord, hagen⟩
  case heldExpiry =>
    intro s m array hh harray ha
    subst harray
    obtain ⟨t₁, t₂, heq⟩ := State.ikHeldExpiry_grants hh ha
    obtain ⟨hagen, hheld, -⟩ := ((s.advance t₁).advance t₂).ikGrantTake_spec m
    rw [State.ikRecord_advance, State.ikRecord_advance, ha] at hagen
    exact Completes.of_effect (congrArg ended heq) ⟨hagen, hheld⟩
  case recoveryEnd =>
    intro s t₀ h
    refine Completes.of_effect (congrArg ended (State.ikRecoveryEnd_eq h)) ⟨rfl, rfl, ?_⟩
    exact (s.advance_frame t₀).1 ▸ Nat.le_max_right _ _

end Sys2Proof.Machine
end

section
-- One proof at a time: elaborated side by side, the one-file compile runs out of threads.
set_option Elab.async false
/-! PROOFS. OWN: claims, handover, return, drills and the commands of `OWN_CMD` (R380, R381, R387 to R390, R394). -/

namespace Sys2Proof.Machine

open Sys2Proof

/-! ## Sets and tables -/

/-- An entry stays when the predicate, of its key alone, accepts it. -/
theorem Assoc.look_keep_key {α : Type} (m : Assoc α) {p : Nat → Bool} {k : Nat} (h : p k = true) :
    (m.keep (fun k _ => p k)).look k = m.look k := by
  induction m with
  | nil => rfl
  | cons e t ih =>
    obtain ⟨k', v⟩ := e
    unfold Assoc.keep at ih ⊢
    by_cases hk : k = k'
    · subst hk; simp [h, Assoc.look_cons]
    · by_cases hp : p k' = true <;> simp [hp, Assoc.look_cons, hk, ih]

theorem NatSet.mem_insert_of_mem {l : NatSet} {k : Nat} (n : Nat) (h : l.mem k = true) : (l.insert n).mem k = true := by
  induction l with
  | nil => simp [NatSet.mem] at h
  | cons x t ih =>
    simp only [NatSet.mem, List.contains_cons, Bool.or_eq_true] at h ih ⊢
    unfold NatSet.insert
    split
    · simp only [List.contains_cons, Bool.or_eq_true]; exact .inr h
    · split
      · simpa using h
      · simp only [List.contains_cons, Bool.or_eq_true]; exact h.imp id ih

theorem NatSet.mem_foldl_insert_of_mem {l : NatSet} {k : Nat} (xs : List Nat) (h : l.mem k = true) :
    (xs.foldl NatSet.insert l).mem k = true := by
  induction xs generalizing l with
  | nil => exact h
  | cons x xs ih => exact ih (NatSet.mem_insert_of_mem x h)

/-- What is inserted is in the set. -/
theorem NatSet.mem_foldl_insert {l : NatSet} {k : Nat} {xs : List Nat} (h : k ∈ xs) : (xs.foldl NatSet.insert l).mem k = true := by
  induction xs generalizing l with
  | nil => simp at h
  | cons x xs ih =>
    rcases List.mem_cons.1 h with rfl | h
    · exact NatSet.mem_foldl_insert_of_mem xs (NatSet.mem_insert_self l k)
    · exact ih h

/-! ## Claims (R380, R381) -/

/-- The always-on part as a claim of group g leaves it (R380 steps 1 to 3). -/
def Aon.claiming (a : Aon) (g now : Nat) : Aon :=
  { a with fenced := false, claimMask := a.claimMask.insert g, claimOut := a.claimOut.insert g
           settle := if a.claimIn.mem g || a.drivers.mem g then a.settle else a.settle.put g now }

/-- A claim that nothing forbids, of a group the partner does not claim, finds no conflict (R380, R382). -/
theorem State.claimGroup_free {s : State} {g : Nat} (hf : s.aon.fenceIn = false) (hb : s.rdb Fld.PWR_STATUS_FIRST_BOOT = false)
    (ht : s.aon.timerRuns = true) (hc : s.aon.claimIn.mem g = false) : s.claimGroup g = { s with aon := s.aon.claiming g s.now } := by
  simp [State.claimGroup, hf, hb, ht, State.claimConflict, hc, Aon.claiming]

/-- A claim of a group that neither head drives holds through the always-on logic, and its settle count has started (R11, R380). -/
theorem Aon.claiming_settled {a : Aon} {g : Nat} (now : Nat) (hf : a.fenceIn = false) (ht : a.timerRuns = true) (hc : a.claimIn.mem g = false)
    (hd : a.drivers.mem g = false) : (a.claiming g now).settled.claimOut.mem g = true ∧ (a.claiming g now).settled.claimMask.mem g = true ∧
      (a.claiming g now).settled.settle.look g = some now := by
  have hmem : (a.claiming g now).claimOut.mem g = true := NatSet.mem_insert_self _ g
  have hkeep : ((a.claiming g now).claimOut.mem g && !(a.claiming g now).claimIn.mem g) = true := by
    rw [hmem]; simpa [Aon.claiming] using hc
  have hsettled : (a.claiming g now).settled = (a.claiming g now).gate := Aon.settled_of_holds ht hf
  refine ⟨?_, ?_, ?_⟩
  · rw [hsettled]; exact hmem
  · rw [hsettled]; exact NatSet.mem_insert_self _ g
  · rw [hsettled]
    refine (Assoc.look_keep_key (p := fun g' => (a.claiming g now).claimOut.mem g' && !(a.claiming g now).claimIn.mem g') _ hkeep).trans ?_
    simp [Aon.claiming, hc, hd]

/-- What the fence, the timer and the claims leave standing of `CLAIM_OUT_N` was claimed before (R12, R378). -/
theorem Aon.not_claimed_settled {a : Aon} {g : Nat} (h : a.claimOut.mem g = false) : a.settled.claimOut.mem g = false := by
  unfold Aon.settled
  split
  · exact h
  · rfl

/-- A released group is neither claimed nor driven at the end of the command (R381). -/
theorem Aon.released_settled {a : Aon} {g : Nat} (h : a.claimOut.mem g = false) :
    a.settled.claimOut.mem g = false ∧ a.settled.drivers.mem g = false := by
  refine ⟨Aon.not_claimed_settled h, ?_⟩
  by_contra hd
  have hdrive := (Aon.mem_drivers_of_settled (by simpa using hd : a.settled.drivers.mem g = true)).2
  simp [Aon.mayDrive, h] at hdrive

/-- The fields that a conflict of claims writes (R382). -/
abbrev claimFields : List Field :=
  Fld.GBK_ALARM_SOURCE :: stageFields ++ [Fld.OWN_ERR_CLAIM_CONFLICT, Fld.OWN_ERR_INFO_GROUP]

theorem State.claimConflict_frame (s : State) (g : Nat) :
    State.Frame (fun s t => { s with aon := t.aon, gbk := t.gbk, regs := t.regs }) claimFields s (s.claimConflict g) := by
  have hrec := (s.record_frame Blk.OWN 0x3001 g 0 0 false).mono (V := fun s t => { s with aon := t.aon, gbk := t.gbk, regs := t.regs })
    (m := claimFields)
  unfold State.claimConflict
  refine State.Frame.ite (fun _ => State.Frame.ite (fun _ => ?_) (fun _ => hrec)) (fun _ => State.Frame.refl s)
  refine hrec.trans (((State.Frame.of_eq rfl).trans (State.Frame.wr _ _ _)).trans (State.Frame.wr _ _ _))

/-- A claim: the always-on part, and what a conflict records (R380, R382). -/
theorem State.claimGroup_frame (s : State) (g : Nat) :
    State.Frame (fun s t => { s with aon := t.aon, gbk := t.gbk, regs := t.regs }) claimFields s (s.claimGroup g) := by
  unfold State.claimGroup
  refine State.Frame.ite (fun _ => State.Frame.refl s) (fun _ => ?_)
  exact State.Frame.trans (State.Frame.of_eq rfl) (State.claimConflict_frame _ g)

theorem State.claimGroup_own (s : State) (g : Nat) : (s.claimGroup g).own = s.own := by rw [(s.claimGroup_frame g).1]

/-- GROUP_RELEASE of a claimed group whose operations have ended and which is not the one being handed over (R381). -/
theorem State.groupRelease_ended {s : State} {g : Nat} (hm : s.aon.claimMask.mem g = true) (hb : s.groupBusy g = false)
    (hh : s.own.handing.head? ≠ some (2000 + g)) : (s.groupRelease g).aon = (s.dropGroup g).aon := by
  have hb' : State.groupBusy { s with own := { s.own with releasing := s.own.releasing.insert g } } g = false := hb
  have hh' : (State.dropGroup { s with own := { s.own with releasing := s.own.releasing.insert g } } g).own.handing.head? ≠
    some (2000 + g) := hh
  simp only [State.groupRelease, hm, Bool.not_true, Bool.false_and, Bool.false_eq_true, if_false, hb', if_neg hh']
  rfl

/-! ## Handover and return (R387, R388) -/

/-- A set goes to MOVING, with a notice of its ANA group, unless it is there already (R387 step 1). -/
def State.moveSet (s : State) (o : Nat) : State :=
  if s.own.moving.mem o then s else State.anaNotices { s with own := { s.own with moving := s.own.moving.insert o } }

theorem State.moveSet_spec (s : State) (o : Nat) : (s.moveSet o).own.moving.mem o = true ∧ (s.moveSet o).own.handing = s.own.handing := by
  unfold State.moveSet
  split
  · next hm => exact ⟨hm, rfl⟩
  · rw [(State.anaNotices_frame _).1]
    exact ⟨NatSet.mem_insert_self _ o, rfl⟩

/-- HANDOVER_SET of a set held here, the next to hand over, with no request in flight: MOVING, and the HANDOVER once it is drained. -/
theorem State.handoverSet_eq {s : State} {o : Nat} (hl : s.leaseIsHeld = true) (ho : s.own.sets.look o = some s.aon.side)
    (hh : s.own.handing.head? = some o) (hr : s.own.reqs = []) :
    s.handoverSet o = if (s.moveSet o).drained o then (s.moveSet o).handoverSend 0 o 1 else s.moveSet o := by
  simp [State.handoverSet, hl, ho, hh, hr, State.moveSet]

theorem State.handoverSet_moves {s : State} {o : Nat} (hl : s.leaseIsHeld = true) (ho : s.own.sets.look o = some s.aon.side)
    (hh : s.own.handing.head? = some o) (hr : s.own.reqs = []) :
    (s.handoverSet o).own.moving.mem o = true ∧ (s.handoverSet o).own.handing = s.own.handing := by
  rw [State.handoverSet_eq hl ho hh hr]
  split
  · rw [State.handoverSend, State.ikSendAll_eq]; exact s.moveSet_spec o
  · exact s.moveSet_spec o

/-- A group handed over is this head's at once (R387). -/
theorem State.handoverReceive_group {s : State} (g agen : Nat) (whole : List Nat) (hl : s.linkUp = true) (hs : s.leaseIsHeld = true) :
    (s.handoverReceive 1 g agen whole).own.groups.look g = some s.aon.side := by
  simp only [State.handoverReceive, hl, hs, Bool.not_true, Bool.or_self, Bool.false_eq_true, if_false,
    show ¬ (1 : Nat) = 2 by decide, show ¬ (1 : Nat) = 0 by decide]
  rw [State.claimGroup_own]
  have hkey : ¬ objKey 1 g 0 < 2000 := by simp [objKey]
  have hobj : objKey 1 g 0 - 2000 = g := by simp [objKey]
  simp only [State.assign, hkey, if_false, hobj]
  exact Assoc.look_put_self _ _ _

/-- A half of the index handed over is served here, and ownership stands (R199, R387). -/
theorem State.handoverReceive_half {s : State} {h : Nat} (agen : Nat) (whole : List Nat) (hh : h < 2) (hl : s.linkUp = true)
    (hs : s.leaseIsHeld = true) : bitAt ((s.handoverReceive 2 h agen whole).rd Fld.DDP_STATUS_HALVES) h = true ∧
      (s.handoverReceive 2 h agen whole).own = s.own := by
  simp only [State.handoverReceive, hl, hs, Bool.not_true, Bool.or_self, Bool.false_eq_true, if_false, if_true]
  refine ⟨?_, rfl⟩
  rw [State.rd_wr_self, bitAt_mod_two_pow (show h < Fld.DDP_STATUS_HALVES.width from hh)]
  exact bitAt_setBit_self _ h

/-- The return is asked for once the hold time has passed (R388). -/
theorem State.returnHold_asks {s : State} {t₀ : Nat} (h : s.own.returnFrom = some t₀) (he : s.rdb Fld.OWN_CTRL_RETURN_EN = true)
    (hm : s.rdb Fld.PJM_STATUS_MIRROR_HELD = true) (hl : s.leaseIsHeld = true) :
    s.returnHold = (s.advance (t₀ + s.rd Fld.OWN_LEASE_RETURN_HOLD_S * 1000000 * unitsPerUs)).askReturn := by
  simp only [State.returnHold, h, he, hm, hl, Bool.and_self, if_true]

/-- Asking for the return: no return waits any longer, and the clock stands (R388). -/
theorem State.askReturn_spec (s : State) : s.askReturn.own.returnFrom = none ∧ s.askReturn.now = s.now := by
  refine ⟨rfl, ?_⟩
  show (s.isend 0 _).now = s.now
  rw [(s.isend_inFrame 0 _).1]

/-- Settles O18. -/
theorem objectsAreClaimedAndHandedOver : Obligations.ObjectsAreClaimedAndHandedOver := by
  unfold Obligations.ObjectsAreClaimedAndHandedOver
  refine ⟨?claim, ?release, ?handover, ?receiveGroup, ?receiveHalf, ?hold, ?returned⟩
  case claim =>
    intro s g hl hg hr hf hb ht hc hd
    have hclaim : s.groupClaim g = { s with aon := s.aon.claiming g s.now } := by
      simp only [State.groupClaim, hl, hg, hr, Bool.not_false, Bool.and_self, if_true, State.claimGroup_free hf hb ht hc]
    exact Completes.of_ended (congrArg ended hclaim) (Aon.claiming_settled s.now hf ht hc hd)
  case release =>
    intro s g hm hb hh
    have haon := State.groupRelease_ended hm hb hh
    have hmem : (s.groupRelease g).aon.claimOut.mem g = false := by rw [haon]; exact NatSet.mem_remove_self _ g
    obtain ⟨hout, hdrive⟩ := Aon.released_settled hmem
    refine Completes.of_ended (u := s.groupRelease g) rfl ⟨hout, ?_, hdrive⟩
    show (s.groupRelease g).aon.settled.claimMask.mem g = false
    rw [Aon.settled_claimMask, haon]
    exact NatSet.mem_remove_self _ g
  case handover =>
    intro s o hl ho hh hr
    exact Completes.of_effect (u := s.handoverSet o) rfl (State.handoverSet_moves hl ho hh hr)
  case receiveGroup =>
    intro s g agen whole hl hs
    exact Completes.of_effect (u := s.handoverReceive 1 g agen whole) rfl (State.handoverReceive_group g agen whole hl hs)
  case receiveHalf =>
    intro s h agen whole hh hl hs
    exact Completes.of_effect (u := s.handoverReceive 2 h agen whole) rfl (State.handoverReceive_half agen whole hh hl hs)
  case hold =>
    intro s t₀ h he hm hl
    obtain ⟨hnone, hnow⟩ := State.askReturn_spec (s.advance (t₀ + s.rd Fld.OWN_LEASE_RETURN_HOLD_S * 1000000 * unitsPerUs))
    refine Completes.of_effect (congrArg ended (State.returnHold_asks h he hm hl)) ⟨hnone, ?_⟩
    rw [hnow, (s.advance_frame _).1]
    exact Nat.le_max_right _ _
  case returned =>
    intro s hl
    have hserve : s.returnReceive = s.returnServe := by simp only [State.returnReceive, hl, if_true]
    refine Completes.of_ended (congrArg ended hserve) ⟨Aon.settled_fenceOut _, rfl, fun k hk => NatSet.mem_foldl_insert hk⟩

end Sys2Proof.Machine
end

section
-- One proof at a time: elaborated side by side, the one-file compile runs out of threads.
set_option Elab.async false
/-! PROOFS. OWN: drills and the commands of `OWN_CMD` (R387 to R390, R394). -/

namespace Sys2Proof.Machine

open Sys2Proof

/-! ## Drills (R389, R390) -/

/-- A change followed by one more under a condition. -/
theorem State.Frame.when {U : State → State → State} {l : List Field} {s t u : State} {c : Prop} [Decidable c] (h : State.Frame U l s t)
    (hu : c → State.Frame U l t u) (hU : ∀ s t u, U (U s t) u = U s u := by intros; rfl) : State.Frame U l s (if c then u else t) := by
  split
  · next hc => exact h.trans (hu hc) hU
  · exact h

/-- What a drill may touch: ownership, the claims, the records, and what leaves the head. -/
abbrev drills (s t : State) : State := { s with aon := t.aon, gbk := t.gbk, out := t.out, own := t.own, regs := t.regs }

/-- The register fields that a drill's handovers write. -/
abbrev drillMoveFields : List Field := claimFields ++ [Fld.OWN_STATUS_FENCE_PULSE, Fld.OWN_AGEN_AGEN]

/-- The register fields that a drill writes. -/
abbrev drillFields : List Field :=
  drillMoveFields ++ [Fld.OWN_DRILL_STATUS_GROUP, Fld.OWN_DRILL_STATUS_RESULT, Fld.OWN_DRILL_STATUS_STEP, Fld.OWN_DRILL_STATUS_PASSES,
    Fld.OWN_ERR_DRILL_FAIL, Fld.OWN_ERR_DRILL_SKIPPED]

theorem State.drillStatus_frame (s : State) (g result step : Nat) : State.Frame drills drillFields s (s.drillStatus g result step) :=
  ((State.Frame.wr _ _ _).trans (State.Frame.wr _ _ _)).trans (State.Frame.wr _ _ _)

theorem State.drillStatus_spec (s : State) {g result : Nat} (step : Nat) (hg : g < 16) (hr : result < 4) :
    (s.drillStatus g result step).rd Fld.OWN_DRILL_STATUS_GROUP = g ∧ (s.drillStatus g result step).rd Fld.OWN_DRILL_STATUS_RESULT = result := by
  unfold State.drillStatus
  constructor
  · rw [State.rd_wr_other _ _ (by decide), State.rd_wr_other _ _ (by decide), State.rd_wr_self]
    exact Nat.mod_eq_of_lt hg
  · rw [State.rd_wr_other _ _ (by decide), State.rd_wr_self]
    exact Nat.mod_eq_of_lt hr

/-- The handovers of a drill of group g, before its outcome is told (R389 steps 1 to 5). -/
def State.drillMoves (s : State) (g fail : Nat) : State :=
  let h := s.own.groups.look g
  let holder := h == some s.aon.side
  let reached (k : Nat) : Bool := fail = 0 || decide (k ≤ fail)
  let s := if holder then (s.dropGroup g).handoverSend 1 g 1 else s
  let s := if !holder && reached 2 then s.claimGroup g else s
  let s := if !holder && reached 3 then (List.range 8).foldl (fun s i => s.emit (.train (8 * g + i) (s.rd Fld.FLC_IF_CFG_RATE))) s else s
  let s := if reached 4 then s.emit (.fencePulse 200) else s
  let s := if fail = 0 || fail = 5 then s.raise Fld.OWN_STATUS_FENCE_PULSE else s
  let s := if !holder then s.dropGroup g else s
  let s := if !holder && reached 2 then s.handoverSend 1 g 1 else s
  let s := if reached 2 then s.wr Fld.OWN_AGEN_AGEN (s.rd Fld.OWN_AGEN_AGEN + 2) else s
  if holder then s.claimGroup g else s

/-- A drill moves the group there and back, and tells its outcome (R389). -/
theorem State.drillRun_eq (s : State) (g fail : Nat) : s.drillRun g fail =
    if fail = 0 then ((s.drillMoves g fail).drillStatus g 1 0).bump Fld.OWN_DRILL_STATUS_PASSES
    else (((s.drillMoves g fail).drillStatus g 2 fail).raise Fld.OWN_ERR_DRILL_FAIL).record Blk.OWN 0x2002 g fail 0
      ((((s.drillMoves g fail).drillStatus g 2 fail).raise Fld.OWN_ERR_DRILL_FAIL).rdb Fld.OWN_CTRL_DRILL_ALARM) := rfl

theorem State.drillMoves_frame (s : State) (g fail : Nat) : State.Frame drills drillMoveFields s (s.drillMoves g fail) := by
  have hdrop (u : State) : State.Frame drills drillMoveFields u (u.dropGroup g) := State.Frame.of_eq rfl
  have hsend (u : State) : State.Frame drills drillMoveFields u (u.handoverSend 1 g 1) := (u.ikSendAll_frame _).mono
  have hclaim (u : State) : State.Frame drills drillMoveFields u (u.claimGroup g) := (u.claimGroup_frame g).mono
  unfold State.drillMoves
  extract_lets h holder reached s₁ s₂ s₃ s₄ s₅ s₆ s₇ s₈
  have h₁ : State.Frame drills drillMoveFields s s₁ := (State.Frame.refl s).when fun _ => (hdrop s).trans (hsend _)
  have h₂ : State.Frame drills drillMoveFields s s₂ := h₁.when fun _ => hclaim s₁
  have h₃ : State.Frame drills drillMoveFields s s₃ :=
    h₂.when fun _ => State.Frame.foldl _ (fun u i _ => State.Frame.emit u (.train (8 * g + i) _)) s₂
  have h₄ : State.Frame drills drillMoveFields s s₄ := h₃.when fun _ => State.Frame.emit s₃ _
  have h₅ : State.Frame drills drillMoveFields s s₅ := h₄.when fun _ => State.Frame.wr s₄ _ _
  have h₆ : State.Frame drills drillMoveFields s s₆ := h₅.when fun _ => hdrop s₅
  have h₇ : State.Frame drills drillMoveFields s s₇ := h₆.when fun _ => hsend s₆
  have h₈ : State.Frame drills drillMoveFields s s₈ := h₇.when fun _ => State.Frame.wr s₇ _ _
  exact h₈.when fun _ => hclaim s₈

theorem State.drillRun_frame (s : State) (g fail : Nat) : State.Frame drills drillFields s (s.drillRun g fail) := by
  have hmoves : State.Frame drills drillFields s (s.drillMoves g fail) := (s.drillMoves_frame g fail).mono
  rw [State.drillRun_eq]
  refine State.Frame.ite (fun _ => (hmoves.trans (State.drillStatus_frame _ g 1 0)).trans (State.Frame.wr _ _ _)) (fun _ => ?_)
  exact ((hmoves.trans (State.drillStatus_frame _ g 2 fail)).trans (State.Frame.wr _ _ _)).trans (State.record_frame _ _ _ _ _ _ _).mono

theorem State.drill_frame (s : State) (g fail : Nat) (ph pd : Bool) : State.Frame drills drillFields s (s.drill g fail ph pd) := by
  unfold State.drill
  split
  · exact State.Frame.refl s
  · exact State.Frame.ite (fun _ => (s.drillStatus_frame g 3 0).trans (State.Frame.wr _ _ _)) (fun _ => s.drillRun_frame g _)

/-- A drill none of whose steps fails passes (R389). -/
theorem State.drill_passes {s : State} {g : Nat} {h : Side} {ph pd : Bool} (hg : g < 16) (hh : s.own.groups.look g = some h)
    (hs : s.drillSkips h ph pd = false) :
    (s.drill g 0 ph pd).rd Fld.OWN_DRILL_STATUS_RESULT = 1 ∧ (s.drill g 0 ph pd).rd Fld.OWN_DRILL_STATUS_GROUP = g := by
  have hrun : s.drill g 0 ph pd = ((s.drillMoves g 0).drillStatus g 1 0).bump Fld.OWN_DRILL_STATUS_PASSES := by
    simp only [State.drill, hh, hs, Bool.false_eq_true, if_false, Nat.zero_le, if_true, State.drillRun_eq]
  obtain ⟨hgroup, hresult⟩ := (s.drillMoves g 0).drillStatus_spec 0 hg (by decide : 1 < 4)
  rw [hrun, State.bump, State.rd_wr_other _ _ (by decide), State.rd_wr_other _ _ (by decide)]
  exact ⟨hresult, hgroup⟩

/-- A skipped drill tells so, and does nothing else (R390). -/
theorem State.drill_skipped {s : State} {g : Nat} {h : Side} {ph pd : Bool} (fail : Nat) (hg : g < 16) (hh : s.own.groups.look g = some h)
    (hs : s.drillSkips h ph pd = true) :
    (s.drill g fail ph pd).rd Fld.OWN_DRILL_STATUS_RESULT = 3 ∧ (s.drill g fail ph pd).rd Fld.OWN_ERR_DRILL_SKIPPED = 1 ∧
      (s.drill g fail ph pd).aon = s.aon ∧ (s.drill g fail ph pd).own = s.own := by
  have hskip : s.drill g fail ph pd = (s.drillStatus g 3 0).raise Fld.OWN_ERR_DRILL_SKIPPED := by
    simp only [State.drill, hh, hs, if_true]
  rw [hskip, State.raise]
  refine ⟨?_, State.rd_wr_self _ Fld.OWN_ERR_DRILL_SKIPPED 1 0 0, rfl, rfl⟩
  rw [State.rd_wr_other _ _ (by decide)]
  exact (s.drillStatus_spec 0 hg (by decide)).2

/-! ## The commands of `OWN_CMD` (R394) -/

/-- A command of `OWN_CMD` in progress. -/
def State.ownCmdBegun (s : State) : State := (s.wr Fld.OWN_CMD_RESULT_BUSY 1).wr Fld.OWN_CMD_RESULT_DONE 0

theorem State.ownCmd_idle {s : State} (h : s.rdb Fld.OWN_CMD_RESULT_BUSY = false) (run : State → State) : s.ownCmd run = run s.ownCmdBegun := by
  simp only [State.ownCmd, h, Bool.false_eq_true, if_false]
  rfl

theorem State.ownCmdBegun_busy (s : State) : s.ownCmdBegun.rd Fld.OWN_CMD_RESULT_BUSY = 1 := by
  unfold State.ownCmdBegun
  rw [State.rd_wr_other _ _ (by decide)]
  exact State.rd_wr_self s Fld.OWN_CMD_RESULT_BUSY 1 0 0

/-- A field beside `OWN_CMD_RESULT` reads in a command as before it. -/
theorem State.rd_ownCmdBegun (s : State) {f : Field} {i j : Nat} (hb : f.key i j ≠ Fld.OWN_CMD_RESULT_BUSY.key 0 0)
    (hd : f.key i j ≠ Fld.OWN_CMD_RESULT_DONE.key 0 0) : s.ownCmdBegun.rd f i j = s.rd f i j := by
  rw [State.ownCmdBegun, State.rd_wr_ne _ _ _ _ _ _ _ _ hd, State.rd_wr_ne _ _ _ _ _ _ _ _ hb]

theorem State.leaseIsHeld_ownCmdBegun (s : State) : s.ownCmdBegun.leaseIsHeld = s.leaseIsHeld := by
  unfold State.leaseIsHeld
  rw [s.rd_ownCmdBegun (by decide) (by decide)]

/-- Whether a drill is skipped does not depend on the command in progress. -/
theorem State.drillSkips_ownCmdBegun (s : State) (h : Side) (ph pd : Bool) : s.ownCmdBegun.drillSkips h ph pd = s.drillSkips h ph pd := by
  have hisl : s.ownCmdBegun.islState = s.islState := s.rd_ownCmdBegun (by decide) (by decide)
  have hdeg : s.ownCmdBegun.degraded = s.degraded := by
    unfold State.degraded State.rdb
    rw [s.rd_ownCmdBegun (by decide) (by decide)]
  unfold State.drillSkips
  rw [hisl, hdeg]
  rfl

/-- A command in progress ends (R394). -/
theorem State.ownCmdEnd_busy {s : State} (h : s.rd Fld.OWN_CMD_RESULT_BUSY = 1) (status : Nat) : s.ownCmdEnd status =
    ((s.wr Fld.OWN_CMD_RESULT_BUSY 0).wr Fld.OWN_CMD_RESULT_DONE 1).wr Fld.OWN_CMD_RESULT_STATUS status := by
  have hb : s.rdb Fld.OWN_CMD_RESULT_BUSY = true := by simp [State.rdb, h]
  simp only [State.ownCmdEnd, hb, if_true]

theorem State.ownCmdEnd_ok {s : State} (h : s.rd Fld.OWN_CMD_RESULT_BUSY = 1) :
    (s.ownCmdEnd STS_OK).rd Fld.OWN_CMD_RESULT_STATUS = STS_OK ∧ (s.ownCmdEnd STS_OK).rd Fld.OWN_CMD_RESULT_DONE = 1 ∧
      (s.ownCmdEnd STS_OK).rd Fld.OWN_CMD_RESULT_BUSY = 0 := by
  rw [State.ownCmdEnd_busy h]
  refine ⟨State.rd_wr_self _ Fld.OWN_CMD_RESULT_STATUS STS_OK 0 0, ?_, ?_⟩
  · rw [State.rd_wr_other _ _ (by decide)]
    exact State.rd_wr_self _ Fld.OWN_CMD_RESULT_DONE 1 0 0
  · rw [State.rd_wr_other _ _ (by decide), State.rd_wr_other _ _ (by decide)]
    exact State.rd_wr_self s Fld.OWN_CMD_RESULT_BUSY 0 0 0

/-- Objects held here, under a HELD lease, wait to be handed over, and the command stays in progress (R387, R394). -/
theorem State.ownCmdHand_queues {s : State} {objs : List Nat} (named : Bool) (hb : s.rdb Fld.OWN_CMD_RESULT_BUSY = false)
    (hl : s.leaseIsHeld = true) (ho : objs ≠ []) : s.ownCmdHand objs named = s.ownCmdBegun.queueHand objs := by
  have hgo : ¬ (objs = [] ∨ s.ownCmdBegun.leaseIsHeld = false) := by
    rw [State.leaseIsHeld_ownCmdBegun, hl]; simp [ho]
  rw [State.ownCmdHand, State.ownCmd_idle hb, if_neg hgo]

theorem State.ownCmdHand_spec {s : State} {objs : List Nat} (named : Bool) (hb : s.rdb Fld.OWN_CMD_RESULT_BUSY = false)
    (hl : s.leaseIsHeld = true) (ho : objs ≠ []) : (s.ownCmdHand objs named).rd Fld.OWN_CMD_RESULT_BUSY = 1 ∧
      ∀ k ∈ objs, (s.ownCmdHand objs named).own.handing.mem k = true := by
  rw [State.ownCmdHand_queues named hb hl ho]
  exact ⟨s.ownCmdBegun_busy, fun k hk => NatSet.mem_foldl_insert hk⟩

/-- Asking for the return leaves the registers as they are (R388). -/
theorem State.rd_askReturn (s : State) (f : Field) (i j : Nat) : s.askReturn.rd f i j = s.rd f i j := by
  show State.rd (s.isend 0 _) f i j = s.rd f i j
  rw [State.rd, s.isend_regs]
  rfl

/-- A drill on command passes and the command ends (R389, R394). -/
theorem State.drillNow_passes {s : State} {g : Nat} {h : Side} {ph pd : Bool} (hg : g < 16) (hb : s.rdb Fld.OWN_CMD_RESULT_BUSY = false)
    (hh : s.own.groups.look g = some h) (hs : s.drillSkips h ph pd = false) :
    let t := s.ownCmd (fun s => (s.drill g 0 ph pd).ownCmdEnd STS_OK)
    t.rd Fld.OWN_DRILL_STATUS_RESULT = 1 ∧ t.rd Fld.OWN_DRILL_STATUS_GROUP = g ∧ t.rd Fld.OWN_CMD_RESULT_DONE = 1 := by
  intro t
  have hskip : s.ownCmdBegun.drillSkips h ph pd = false := (s.drillSkips_ownCmdBegun h ph pd).trans hs
  obtain ⟨hresult, hgroup⟩ := State.drill_passes (s := s.ownCmdBegun) hg hh hskip
  have hbusy : (s.ownCmdBegun.drill g 0 ph pd).rd Fld.OWN_CMD_RESULT_BUSY = 1 :=
    (State.drill_frame _ g 0 ph pd).rd_apart.trans s.ownCmdBegun_busy
  have ht : t = (s.ownCmdBegun.drill g 0 ph pd).ownCmdEnd STS_OK := State.ownCmd_idle hb _
  refine ⟨?_, ?_, by rw [ht]; exact (State.ownCmdEnd_ok hbusy).2.1⟩ <;>
    rw [ht, State.ownCmdEnd_busy hbusy, State.rd_wr_other _ _ (by decide), State.rd_wr_other _ _ (by decide), State.rd_wr_other _ _ (by decide)]
  · exact hresult
  · exact hgroup

/-- Settles O19. -/
theorem ownershipCommandsRun : Obligations.OwnershipCommandsRun := by
  unfold Obligations.OwnershipCommandsRun
  refine ⟨?drill, ?skipped, ?all, ?ask, ?oset, ?group, ?drillNow⟩
  case drill =>
    intro s h ph pd he hh hs
    have hdaily : s.dailyDrill 0 ph pd = s.drill (s.ctNs / 86400000000000 % 16) 0 ph pd := by simp only [State.dailyDrill, he, if_true]
    exact Completes.of_effect (congrArg ended hdaily) (State.drill_passes (Nat.mod_lt _ (by decide)) hh hs)
  case skipped =>
    intro s h fail ph pd he hh hs
    have hdaily : s.dailyDrill fail ph pd = s.drill (s.ctNs / 86400000000000 % 16) fail ph pd := by simp only [State.dailyDrill, he, if_true]
    obtain ⟨hresult, hskipped, haon, hown⟩ := State.drill_skipped fail (Nat.mod_lt _ (by decide)) hh hs
    exact Completes.of_ended (congrArg ended hdaily) ⟨hresult, hskipped, congrArg Aon.settled haon, hown⟩
  case all =>
    intro s hb hl ho
    exact Completes.of_effect (u := s.ownCmdHand s.allHeld false) rfl (State.ownCmdHand_spec false hb hl ho)
  case ask =>
    intro s hb
    have hcmd := State.ownCmd_idle hb (fun s => s.askReturn.ownCmdEnd STS_OK)
    exact Completes.of_effect (congrArg ended hcmd) (State.ownCmdEnd_ok ((State.rd_askReturn _ _ _ _).trans s.ownCmdBegun_busy))
  case oset =>
    intro s o hb hl ho
    have hmem : o ∈ s.ownSets.filter (fun x => x == o) := List.mem_filter.2 ⟨ho, beq_self_eq_true o⟩
    obtain ⟨hbusy, hhanding⟩ := State.ownCmdHand_spec true hb hl (List.ne_nil_of_mem hmem)
    exact Completes.of_effect (u := s.ownCmdHand (s.ownSets.filter (fun x => x == o)) true) rfl ⟨hbusy, hhanding o hmem⟩
  case group =>
    intro s g hb hl hg
    have hmem : 2000 + g ∈ (s.ownGroups.filter (fun x => x == g)).map (2000 + ·) :=
      List.mem_map_of_mem (List.mem_filter.2 ⟨hg, beq_self_eq_true g⟩)
    obtain ⟨hbusy, hhanding⟩ := State.ownCmdHand_spec true hb hl (List.ne_nil_of_mem hmem)
    exact Completes.of_effect (u := s.ownCmdHand ((s.ownGroups.filter (fun x => x == g)).map (2000 + ·)) true) rfl
      ⟨hbusy, hhanding _ hmem⟩
  case drillNow =>
    intro s h g ph pd hg hb hh hs
    exact Completes.of_effect (u := s.ownCmd (fun s => (s.drill g 0 ph pd).ownCmdEnd STS_OK)) rfl (State.drillNow_passes hg hb hh hs)

end Sys2Proof.Machine
end

section
-- One proof at a time: elaborated side by side, the one-file compile runs out of threads.
set_option Elab.async false
/-! PROOFS. Feeds, resets and boot (R391, R487 to R491, R506). -/

namespace Sys2Proof.Machine

open Sys2Proof

/-! ## What a reset of the main domain leaves (R488, R522) -/

/-- Dropping the writes that have no record touches their reserve, the writes and the replay windows (R33). -/
theorem State.dropOps_frame (s : State) :
    State.Frame (fun s t => { s with pgs := t.pgs, ops := t.ops, wins := t.wins }) [] s s.dropOps := by
  unfold State.dropOps
  refine State.Frame.foldl _ (fun u e _ => State.Frame.ite (fun _ => State.Frame.refl u) (fun _ => ?_)) s
  simp only [State.replayDrop]
  split
  · exact State.Frame.of_eq rfl
  · split <;> exact State.Frame.of_eq rfl
  · exact State.Frame.of_eq rfl

theorem State.rd_dropOps (s : State) (f : Field) (i j : Nat) : s.dropOps.rd f i j = s.rd f i j := by rw [s.dropOps_frame.1]; rfl

/-- The windows that the PJM keeps of rings are shown of their rings, in fields that lie apart (R86). -/
theorem getD_kept_windows (l : List (Nat × RWin)) (hl : ∀ e ∈ l, e.1 < 4096) (t : Assoc Nat) {k : Nat} (d : Nat)
    (h : ∀ i, i < 4096 → k ≠ Fld.HRI_RING_STATE_KEPT.key i 0) :
    (l.foldl (fun t e => putField t Fld.HRI_RING_STATE_KEPT 1 e.1 0) t).getD k d = t.getD k d := by
  induction l generalizing t with
  | nil => rfl
  | cons e l ih =>
    rw [List.foldl_cons, ih fun x hx => hl x (List.mem_cons_of_mem _ hx)]
    exact getD_putField_ne _ _ _ _ _ _ _ (h _ (hl e List.mem_cons_self))

/-- A field that lies below or above the rings' table reads over a reset as in the registers kept of single fields. -/
theorem State.regsKept_getD (s : State) {f : Field} (hk : f.key 0 0 < Fld.HRI_RING_STATE_KEPT.key 0 0 ∨
      Fld.HRI_RING_STATE_KEPT.key 4095 0 < f.key 0 0) (hm : f.key 0 0 ≠ Fld.OWN_GRP_HOME_MASK.key 0 0) :
    s.regsKept.getD (f.key 0 0) f.reset =
      (putField (keptFields.foldl (fun (t : Assoc Nat) f => putField t f (s.rd f) 0 0) resetRegs) Fld.GBK_ALARM_SOURCE
        (s.rd Fld.GBK_ALARM_SOURCE) 0 0).getD (f.key 0 0) f.reset := by
  have hapart : ∀ i, i < 4096 → f.key 0 0 ≠ Fld.HRI_RING_STATE_KEPT.key i 0 := by
    intro i hi
    have hlow := Field.key_row_mono Fld.HRI_RING_STATE_KEPT (Nat.zero_le i)
    have hhigh := Field.key_row_mono Fld.HRI_RING_STATE_KEPT (Nat.le_of_lt_succ hi)
    omega
  unfold State.regsKept
  rw [getD_kept_windows _ (fun e he => by simpa using (List.mem_filter.1 he).2) _ _ hapart]
  split
  · exact getD_putField_ne _ _ _ _ _ _ _ hm
  · rfl

/-- The alarm latch stands over a reset of the main domain (R463). -/
theorem State.cleared_alarm (s : State) :
    s.cleared.rd Fld.GBK_ALARM_SOURCE = s.rd Fld.GBK_ALARM_SOURCE % 2 ^ Fld.GBK_ALARM_SOURCE.width := by
  show s.dropOps.regsKept.getD (Fld.GBK_ALARM_SOURCE.key 0 0) Fld.GBK_ALARM_SOURCE.reset = _
  rw [State.regsKept_getD _ (by decide) (by decide), getD_putField_self, State.rd_dropOps]

/-- The rollback fuses read over a reset of the main domain as before (R522). -/
theorem State.cleared_rollback (s : State) :
    s.cleared.rd Fld.GLB_FUSE_ROLLBACK = s.rd Fld.GLB_FUSE_ROLLBACK % 2 ^ Fld.GLB_FUSE_ROLLBACK.width := by
  show s.dropOps.regsKept.getD (Fld.GLB_FUSE_ROLLBACK.key 0 0) Fld.GLB_FUSE_ROLLBACK.reset = _
  rw [State.regsKept_getD _ (by decide) (by decide), getD_putField_ne _ _ _ _ _ _ _ (by decide), ← s.rd_dropOps]
  simp only [keptFields, List.foldl_cons, List.foldl_nil]
  rw [getD_putField_ne _ _ _ _ _ _ _ (by decide), getD_putField_ne _ _ _ _ _ _ _ (by decide), getD_putField_self]

/-- The always-on part over a reset: the count of functions is the one configured (R488). -/
theorem State.cleared_aon (s : State) : s.cleared.aon = { s.aon with totalVfs := s.aon.totalVfsCfg } := by
  show { s.dropOps.aon with totalVfs := s.dropOps.aon.totalVfsCfg } = _
  rw [s.dropOps_frame.1]

/-- The power-good inputs stand over a reset. -/
theorem State.cleared_pwrgd (s : State) :
    s.cleared.pwr.chainA.pwrgd = s.pwr.chainA.pwrgd ∧ s.cleared.pwr.chainB.pwrgd = s.pwr.chainB.pwrgd := by
  show s.dropOps.pwr.chainA.pwrgd = _ ∧ s.dropOps.pwr.chainB.pwrgd = _
  rw [s.dropOps_frame.1]
  exact ⟨rfl, rfl⟩

/-- What the boot flash holds stands over a reset. -/
theorem State.cleared_fwu (s : State) :
    s.cleared.fwu = { s.fwu with activating := false, partnerDeadline := none, booting := none } := by
  show { s.dropOps.fwu with activating := false, partnerDeadline := none, booting := none } = _
  rw [s.dropOps_frame.1]

theorem State.cleared_fuses (s : State) : s.cleared.dbg.fuses = s.dbg.fuses := by
  show s.dropOps.dbg.fuses = _
  rw [s.dropOps_frame.1]

/-! ## Where a boot arrives (R467, R468, R491) -/

/-- An image valid by R467 stays so under the same fuses and no higher rollback. -/
theorem State.slotOk_mono {s t : State} {k : Nat} (h : s.slotOk k = true) (hslots : t.fwu.slots = s.fwu.slots)
    (hfuses : t.dbg.fuses = s.dbg.fuses) (hrb : t.rd Fld.GLB_FUSE_ROLLBACK ≤ s.rd Fld.GLB_FUSE_ROLLBACK) : t.slotOk k = true := by
  unfold State.slotOk at h ⊢
  rw [hslots]
  cases hx : s.fwu.slots.look k with
  | none => simp [hx] at h
  | some x =>
    simp only [hx, State.fwFails, hfuses] at h ⊢
    by_cases hgen : x.fwGen < s.rd Fld.GLB_FUSE_ROLLBACK
    · simp only [if_pos hgen] at h
      split_ifs at h
      all_goals simp at h
    · rw [if_neg hgen] at h
      rw [if_neg (by omega : ¬ x.fwGen < t.rd Fld.GLB_FUSE_ROLLBACK)]
      exact h

/-- What the boot ROM finds, where the boot flash and the fuses stand. -/
theorem State.BootsFirst.keep {s t : State} (h : s.BootsFirst)
    (hfwu : t.fwu.copy0 = s.fwu.copy0 ∧ t.fwu.copy1 = s.fwu.copy1 ∧ t.fwu.slots = s.fwu.slots ∧ t.fwu.stores = s.fwu.stores ∧
      t.fwu.fellBack = s.fwu.fellBack)
    (hfuses : t.dbg.fuses = s.dbg.fuses) (hrb : t.rd Fld.GLB_FUSE_ROLLBACK ≤ s.rd Fld.GLB_FUSE_ROLLBACK) : t.BootsFirst := by
  obtain ⟨htrial, hok, hslow, hstores, hfell⟩ := h
  obtain ⟨hcopy0, hcopy1, hslots, hstores', hfell'⟩ := hfwu
  have hrec : t.bootRecD = s.bootRecD := by unfold State.bootRecD State.bootRec; rw [hcopy0, hcopy1]
  refine ⟨by rw [hrec]; exact htrial, by rw [hrec]; exact State.slotOk_mono hok hslots hfuses hrb, ?_, hstores'.trans hstores, hfell'.trans hfell⟩
  rw [hrec]
  unfold State.slotSlow at hslow ⊢
  rw [hslots]
  exact hslow

theorem State.BootsFirst.cleared {s : State} (h : s.BootsFirst) : s.cleared.BootsFirst := by
  refine h.keep ?_ s.cleared_fuses (s.cleared_rollback ▸ Nat.mod_le _ _)
  rw [s.cleared_fwu]
  exact ⟨rfl, rfl, rfl, rfl, rfl⟩

/-- What the boot ROM brings up before it chooses an image (R491). -/
def State.romUp (s : State) : State :=
  State.kekZero (((s.wr Fld.PWR_RST_CAUSE_CAUSE s.aon.resetCause).wr Fld.HRI_STATUS_BIF (s.rd Fld.GLB_HEAD_BIF)).powerAll romDomains)

@[simp] theorem State.romUp_fwu (s : State) : s.romUp.fwu = s.fwu := by simp [State.romUp, State.kekZero_fwu]
@[simp] theorem State.romUp_aon (s : State) : s.romUp.aon = s.aon := by simp [State.romUp, State.kekZero_aon]
@[simp] theorem State.romUp_pwr (s : State) : s.romUp.pwr = s.pwr := by simp [State.romUp, State.kekZero_pwr]
@[simp] theorem State.romUp_dbg (s : State) : s.romUp.dbg = s.dbg := by
  rw [State.romUp, State.kekZero_dbg, State.powerAll_dbg]
  rfl

theorem State.rd_romUp_rollback (s : State) : s.romUp.rd Fld.GLB_FUSE_ROLLBACK = s.rd Fld.GLB_FUSE_ROLLBACK := by
  rw [State.romUp, State.kekZero_rb, State.powerAll_rd _ _ _ _ _ (by decide), State.rd_wr_other _ _ (by decide),
    State.rd_wr_other _ _ (by decide)]

/-- A confirmed image in the governing slot is entered (R467, R468). -/
theorem State.boot_enters {s : State} (h : s.BootsFirst) : s.boot = s.romUp.firmwareEntry s.bootRecD.active := by
  have hup : s.romUp.BootsFirst := h.keep (by simp) (by rw [s.romUp_dbg]) (Nat.le_of_eq s.rd_romUp_rollback)
  obtain ⟨htrial, hok, hslow, -, -⟩ := hup
  have hrec : s.romUp.bootRecD = s.bootRecD := by unfold State.bootRecD State.bootRec; rw [State.romUp_fwu]
  have hchoose : s.romUp.chooseSlot = (s.romUp, s.romUp.bootRecD.active) := by
    simp only [State.chooseSlot, htrial, Bool.not_false, if_true]
  have hboot : s.boot = (fun p : State × Nat => if p.1.slotSlow p.2 then { p.1 with fwu := { p.1.fwu with booting := some (p.2, p.1.now) } }
    else if p.1.slotOk p.2 then p.1.firmwareEntry p.2 else p.1.bootOther p.2) s.romUp.chooseSlot := rfl
  rw [hrec] at hok hslow
  rw [hboot, hchoose]
  simp only [hslow, hok, Bool.false_eq_true, if_false, if_true, hrec]

/-- A confirmed image entered leaves no backstop behind (R470). -/
theorem State.slotsBooted_aon {s : State} (k : Nat) (h : s.bootRecD.trial = false) :
    (s.slotsBooted k).aon = { s.aon with backstop := none } := by
  simp only [State.slotsBooted, h, Bool.false_eq_true, if_false, State.wrb]
  simp [State.slotInfo_keeps (·.aon) (fun _ _ _ _ _ => rfl)]

/-- The firmware of slot k at its entry, before it looks at the chains and the configuration (Table 23.5). -/
def State.entered (s : State) (k : Nat) : State :=
  let s := { s with aon := { s.aon with mainReset := false }, fwu := { s.fwu with booting := none }, free := s.free + 1 }
  (((s.wr Fld.PWR_BOOT_US_US (Config.freeNat s.free)).slotsBooted k).powerAll fwDomains).setFwLoops

theorem State.entered_pwr (s : State) (k : Nat) : (s.entered k).pwr = s.pwr := by
  simp [State.entered, State.slotsBooted_pwr]

theorem State.entered_fwu (s : State) (k : Nat) : (s.entered k).fwu = { s.fwu with booting := none } := by
  simp [State.entered, State.slotsBooted_fwu]

theorem State.entered_aon {s : State} (k : Nat) (h : s.bootRecD.trial = false) :
    (s.entered k).aon = { s.aon with mainReset := false, backstop := none } := by
  simp only [State.entered, State.setFwLoops_aon, State.powerAll_aon]
  refine (State.slotsBooted_aon k ?_).trans rfl
  exact h

/-- With both chains good, no configuration stored and no fall-back to report, the entry ends in the first-boot state (R491, R493). -/
theorem State.firmwareEntry_first {s : State} (k : Nat) (hstores : s.fwu.stores = []) (hfell : s.fwu.fellBack = none)
    (hA : s.pwr.chainA.pwrgd = true) (hB : s.pwr.chainB.pwrgd = true) :
    s.firmwareEntry k = (((s.entered k).chainBits 0 true).chainBits 1 true).wr Fld.PWR_STATUS_FIRST_BOOT 1 := by
  have hchains : ((s.entered k).chainBoot 0).chainBoot 1 = ((s.entered k).chainBits 0 true).chainBits 1 true := by
    rw [State.chainBoot_good _ 0 (by simpa [State.chain, State.entered_pwr] using hA),
      State.chainBoot_good _ 1 (by simpa [State.chain, State.chainBits_pwr, State.entered_pwr] using hB)]
  have hfwu : (((s.entered k).chainBits 0 true).chainBits 1 true).fwu = { s.fwu with booting := none } := by
    rw [State.chainBits_fwu, State.chainBits_fwu, State.entered_fwu]
  show (((s.entered k).chainBoot 0).chainBoot 1).bootConfig.bootFellBack = _
  rw [hchains]
  simp only [State.bootConfig, State.bootStore, hfwu, hstores, Assoc.look_nil, State.bootFellBack, State.wr_fwu, hfell]

/-- A boot that finds a confirmed image, good chains and no stored configuration: out of reset, no backstop, the first-boot state. -/
theorem State.boot_first {s : State} (h : s.BootsFirst) (hA : s.pwr.chainA.pwrgd = true) (hB : s.pwr.chainB.pwrgd = true) :
    s.boot.aon = { s.aon with mainReset := false, backstop := none } ∧ s.boot.rd Fld.PWR_STATUS_FIRST_BOOT = 1 := by
  have hrec : s.romUp.bootRecD = s.bootRecD := by unfold State.bootRecD State.bootRec; rw [State.romUp_fwu]
  obtain ⟨htrial, -, -, hstores, hfell⟩ := id h
  rw [State.boot_enters h, State.firmwareEntry_first _ (by simpa using hstores) (by simpa using hfell) (by simpa using hA) (by simpa using hB)]
  refine ⟨?_, State.rd_wr_self _ Fld.PWR_STATUS_FIRST_BOOT 1 0 0⟩
  rw [State.wr_aon, State.chainBits_aon, State.chainBits_aon, State.entered_aon _ (by rw [hrec]; exact htrial), State.romUp_aon]

/-! ## Releases and resets -/

/-- The straps and the power-good inputs, sampled at a release (R9, R78). -/
theorem State.BootsFirst.sampled {s : State} (h : s.BootsFirst) (side : Side) (two a b : Bool) :
    ((s.sampleStraps side two).chainPins a b).BootsFirst := by
  refine h.keep ⟨rfl, rfl, rfl, rfl, rfl⟩ rfl (Nat.le_of_eq ?_)
  show (s.sampleStraps side two).rd _ = _
  unfold State.sampleStraps State.wrb
  rw [State.rd_wr_other _ _ (by decide), State.rd_wr_other _ _ (by decide), State.rd_wr_other _ _ (by decide)]
  rfl

/-- A release with good chains boots into the first-boot state, with the straps sampled (R487, R491). -/
theorem State.release_first {s : State} (side : Side) (two : Bool) (h : s.BootsFirst) :
    ((s.sampleStraps side two).chainPins true true).boot.aon =
        { s.aon with side := side, sidePin := side, bifPin := two, rootKey := s.dbg.fuses.root, mainReset := false, backstop := none } ∧
      ((s.sampleStraps side two).chainPins true true).boot.rd Fld.PWR_STATUS_FIRST_BOOT = 1 :=
  State.boot_first (h.sampled side two true true) rfl rfl

/-- The always-on part as a reset of the main domain leaves it, before the boot (R489). -/
def Aon.mainHeld (a : Aon) (cause : Nat) : Aon := { a with drivers := [], settle := [], mainReset := true, resetCause := cause }

/-- A reset of the main domain boots again: drivers off, the claims, the lease timer and the fence as they were (R489, Table 23.3). -/
theorem State.mainReset_first {s : State} (cause : Nat) (h : s.BootsFirst) (hA : s.pwr.chainA.pwrgd = true) (hB : s.pwr.chainB.pwrgd = true) :
    (s.mainReset cause).aon =
      { s.aon.mainHeld cause with totalVfs := s.aon.totalVfsCfg, mainReset := false, backstop := none } := by
  have hheld : State.BootsFirst { s with aon := s.aon.mainHeld cause } := h
  obtain ⟨hA', hB'⟩ := State.cleared_pwrgd { s with aon := s.aon.mainHeld cause }
  have hboot := (State.boot_first hheld.cleared (hA'.trans hA) (hB'.trans hB)).1
  rw [State.cleared_aon] at hboot
  exact hboot

/-- Nothing is driven after a command that leaves no driver (R11). -/
theorem Aon.settled_drivers_nil {a : Aon} (h : a.drivers = []) : a.settled.drivers = [] := by
  unfold Aon.settled Aon.gate
  split <;> simp [h]

/-- BOOT_IMAGE_TIMEOUT with no valid image in the other slot: the boot-failure latch (R463, R468). -/
theorem State.bootTimeout_fails {s : State} {k t₀ : Nat} (hb : s.fwu.booting = some (k, t₀)) (hno : s.slotOk (1 - k) = false) :
    s.bootTimeout.aon.bootFail = true ∧ s.bootTimeout.fwu.booting = none := by
  have hadv := s.advance_inFrame (t₀ + 5000000 * unitsPerUs)
  have hfwu : (s.advanceUs t₀ 5000000).fwu = s.fwu := by rw [State.advanceUs, hadv.1]
  have hdbg : (s.advanceUs t₀ 5000000).dbg = s.dbg := by rw [State.advanceUs, hadv.1]
  have hrb : (s.advanceUs t₀ 5000000).rd Fld.GLB_FUSE_ROLLBACK = s.rd Fld.GLB_FUSE_ROLLBACK := hadv.rd_apart
  have hno' := (State.slotOk_congr hfwu hdbg hrb (1 - k)).trans hno
  have hno'' : State.slotOk { s.advanceUs t₀ 5000000 with fwu := { (s.advanceUs t₀ 5000000).fwu with booting := none } } (1 - k) = false :=
    hno'
  simp only [State.bootTimeout, hb, State.bootOther, hno'', Bool.false_and, Bool.false_eq_true, if_false]
  exact ⟨trivial, trivial⟩

/-- The lease timer either outlives the passing of time or ends on the way, with the self-fence (R378). -/
theorem State.advance_fences {s : State} {t : Nat} (ht : s.aon.timerRuns = true) (h : (s.advance t).aon.timerRuns = false) :
    (s.advance t).aon.leaseEnd = none ∧ (s.advance t).aon.claimOut = [] ∧ (s.advance t).rd Fld.OWN_STATUS_LEASE = leaseSelfFenced := by
  unfold State.advance at h ⊢
  cases he : s.aon.leaseEnd with
  | none => simp [Aon.timerRuns, he] at ht
  | some e =>
    simp only [he] at h ⊢
    split at h
    · next hdue =>
      rw [if_pos hdue]
      obtain ⟨-, -, -, hclaims, hend⟩ := State.leaseZero_frame { s with now := max s.now e }
      exact ⟨hend, hclaims, (State.leaseZero_spec { s with now := max s.now e }).1⟩
    · simp [Aon.timerRuns, he] at h

/-- The reference clock's loss ends the lease (R506). -/
theorem State.refclkLoss_fences {s : State} (ht : s.aon.timerRuns = true) :
    s.refclkLoss.aon.leaseEnd = none ∧ s.refclkLoss.aon.claimOut = [] ∧ s.refclkLoss.rd Fld.OWN_STATUS_LEASE = leaseSelfFenced := by
  simp only [State.refclkLoss, ht, if_true]
  split
  · obtain ⟨-, -, -, hclaims, hend⟩ := (s.advanceUs s.now 1).leaseZero_frame
    exact ⟨hend, hclaims, (s.advanceUs s.now 1).leaseZero_spec.1⟩
  · next h => exact State.advance_fences ht (Bool.eq_false_iff.2 h)

/-- Settles O9. -/
theorem resetsTakeTheirScope : Obligations.ResetsTakeTheirScope := by
  unfold Obligations.ResetsTakeTheirScope
  refine ⟨?powerOn, ?feed, ?system, ?release, ?main, ?timeout, ?refclk, ?feedsLost, ?command⟩
  case powerOn =>
    intro s fA fB two side h hheld hrst hfed
    have heq : s.powerOnReset fA fB side two true true = ((State.sampleStraps { s with aon := { s.aon with feedA := fA, feedB := fB } }
        side two).chainPins true true).boot := by
      simp only [State.powerOnReset, hheld, hfed, hrst, Bool.and_self, if_true, Bool.false_eq_true, if_false]
    obtain ⟨haon, hfirst⟩ := State.release_first (s := { s with aon := { s.aon with feedA := fA, feedB := fB } }) side two h
    refine Completes.of_ended (congrArg ended heq) ?_
    rw [haon]
    exact ⟨Aon.settled_mainReset _, Aon.settled_feedA _, Aon.settled_feedB _, Aon.settled_side _, hfirst⟩
  case feed =>
    intro s a hA hB
    have hfeeds : (s.feedLoss a).aon.feedA = !a ∧ (s.feedLoss a).aon.feedB = a ∧ (s.feedLoss a).regs = s.regs ∧
        (s.feedLoss a).aon.leaseEnd = s.aon.leaseEnd := by
      cases a <;> simp [State.feedLoss, hA, hB]
    obtain ⟨hfeedA, hfeedB, hregs, hend⟩ := hfeeds
    exact Completes.of_ended (u := s.feedLoss a) rfl
      ⟨(Aon.settled_feedA _).trans hfeedA, (Aon.settled_feedB _).trans hfeedB, hregs, (Aon.settled_leaseEnd _).trans hend⟩
  case system =>
    intro s
    refine Completes.of_ended (u := s.systemReset) rfl ?_
    have haon : s.systemReset.aon = _ := State.cleared_aon _
    have hnone : s.systemReset.aon.claimOut = [] := by rw [haon]; rfl
    obtain ⟨hdrivers, hclaims⟩ := Aon.settled_of_no_claim hnone
    refine ⟨?_, hdrivers, hclaims, ?_, ?_, ?_, State.cleared_alarm _⟩
    · exact (Aon.settled_mainReset _).trans (by rw [haon])
    · exact (Aon.settled_leaseEnd _).trans (by rw [haon])
    · exact (Aon.settled_fenceOut _).trans (by rw [haon])
    · exact (Aon.settled_bootFail _).trans (by rw [haon])
  case release =>
    intro s side two h hrst hfed
    have heq : s.sysRelease side two true true =
        ((State.sampleStraps { s with aon := { s.aon with sysRst := false } } side two).chainPins true true).boot := by
      have hfed' : ((State.sampleStraps { s with aon := { s.aon with sysRst := false } } side two).chainPins true true).aon.fed = true := hfed
      simp only [State.sysRelease, hrst, hfed', Bool.not_true, Bool.false_eq_true, if_true, if_false]
    obtain ⟨haon, hfirst⟩ := State.release_first (s := { s with aon := { s.aon with sysRst := false } }) side two h
    refine Completes.of_ended (congrArg ended heq) ?_
    rw [haon]
    exact ⟨Aon.settled_mainReset _, Aon.settled_sysRst _, Aon.settled_side _, hfirst⟩
  case main =>
    intro s cause h hruns hA hB
    have heq : s.mainDomainReset cause = s.mainReset cause := by simp only [State.mainDomainReset, hruns, if_true]
    refine Completes.of_ended (congrArg ended heq) ?_
    rw [State.mainReset_first cause h hA hB]
    refine ⟨Aon.settled_mainReset _, Aon.settled_resetCause _, Aon.settled_drivers_nil rfl, Aon.settled_leaseEnd _, fun ht hf => ?_⟩
    exact Aon.settled_claimOut _ ht hf
  case timeout =>
    intro s k t₀ hb hno
    obtain ⟨hfail, hbooting⟩ := State.bootTimeout_fails hb hno
    exact Completes.of_ended (u := s.bootTimeout) rfl ⟨(Aon.settled_bootFail _).trans hfail, hbooting⟩
  case refclk =>
    intro s ht
    obtain ⟨hend, hclaims, hlease⟩ := State.refclkLoss_fences ht
    obtain ⟨hdrivers, hclaims⟩ := Aon.settled_of_no_claim hclaims
    exact Completes.of_ended (u := s.refclkLoss) rfl ⟨(Aon.settled_leaseEnd _).trans hend, hclaims, hdrivers, hlease⟩
  case feedsLost =>
    intro s
    refine Completes.of_ended (u := s.feedsLost) rfl ?_
    have haon : s.feedsLost.aon = _ := State.cleared_aon _
    have hnone : s.feedsLost.aon.claimOut = [] := by rw [haon]; rfl
    obtain ⟨hdrivers, hclaims⟩ := Aon.settled_of_no_claim hnone
    refine ⟨?_, ?_, ?_, hclaims, hdrivers, State.rd_wr_self _ Fld.GBK_ALARM_SOURCE 0 0 0⟩
    · exact (Aon.settled_feedA _).trans (by rw [haon])
    · exact (Aon.settled_feedB _).trans (by rw [haon])
    · exact (Aon.settled_mainReset _).trans (by rw [haon]; rfl)
  case command =>
    intro s h hruns hsw hA hB
    have heq : s.rstCmd = s.mainReset 2 := by
      simp only [State.rstCmd, hruns, hsw, Bool.not_true, Option.isSome_none, Bool.false_eq_true, if_false]
    refine Completes.of_ended (congrArg ended heq) ?_
    rw [State.mainReset_first 2 h hA hB]
    exact ⟨Aon.settled_resetCause _, Aon.settled_mainReset _, Aon.settled_drivers_nil rfl, Aon.settled_leaseEnd _⟩

end Sys2Proof.Machine
end

section
-- One proof at a time: elaborated side by side, the one-file compile runs out of threads.
set_option Elab.async false
/-! PROOFS. Firmware update (R470 to R475, R478). -/

namespace Sys2Proof.Machine

open Sys2Proof

/-! ## The boot record (R466) -/

/-- The record written governs: it has the higher RSEQ (R466). -/
theorem State.bootRecD_putRec (s : State) (r : BootRec) : (s.putRec r).bootRecD = { r with rseq := s.bootRecD.rseq + 1 } := by
  unfold State.putRec State.bootRecD State.bootRec
  cases h0 : s.fwu.copy0 with
  | none => cases h1 : s.fwu.copy1 <;> simp [h1, State.cfgSlot.max?]
  | some x =>
    cases h1 : s.fwu.copy1 with
    | none => simp [h0, State.cfgSlot.max?]
    | some y =>
      by_cases hxy : x.rseq < y.rseq
      · have hne : (some y == some x) = false := by
          rw [beq_eq_false_iff_ne]
          intro heq
          rw [Option.some.inj heq] at hxy
          exact absurd hxy (Nat.lt_irrefl _)
        simp [State.cfgSlot.max?, hxy, hne, h1, Nat.not_lt.2 (Nat.le_succ y.rseq)]
      · simp [State.cfgSlot.max?, hxy, h0]

/-- Writing the boot record touches the boot flash alone, and no slot, store or report of it. -/
theorem State.putRec_frame (s : State) (r : BootRec) : State.Frame (fun s t => { s with fwu := t.fwu }) [] s (s.putRec r) := by
  unfold State.putRec
  exact State.Frame.ite (fun _ => State.Frame.of_eq rfl) (fun _ => State.Frame.of_eq rfl)

theorem State.forgetPrev_frame (s : State) : State.Frame (fun s t => { s with fwu := t.fwu }) [] s s.forgetPrev := by
  unfold State.forgetPrev
  split
  · exact State.Frame.ite (fun _ => s.putRec_frame _) (fun _ => State.Frame.refl s)
  · exact State.Frame.refl s

theorem State.fwFails_forgetPrev (s : State) (img : FwImage) (fwu : Fwu) :
    State.fwFails { s.forgetPrev with fwu := fwu } img = s.fwFails img := by
  rw [s.forgetPrev_frame.1]
  rfl

/-! ## The commands of `FWU_CMD` -/

theorem State.fwuEnd_result (s : State) (status : Nat) (h : status < 2 ^ Fld.FWU_CMD_RESULT_STATUS.width) :
    (s.fwuEnd status).rd Fld.FWU_CMD_RESULT_STATUS = status ∧ (s.fwuEnd status).rd Fld.FWU_CMD_RESULT_DONE = 1 := by
  unfold State.fwuEnd
  refine ⟨?_, ?_⟩
  · rw [State.rd_wr_other _ _ (by decide), State.rd_wr_other _ _ (by decide), State.rd_wr_self]
    exact Nat.mod_eq_of_lt h
  · rw [State.rd_wr_other _ _ (by decide)]
    exact State.rd_wr_self _ Fld.FWU_CMD_RESULT_DONE 1 0 0

theorem State.slotInfo_fwu (s : State) (k st : Nat) : (s.slotInfo k st).fwu = s.fwu :=
  State.slotInfo_keeps (·.fwu) (fun _ _ _ _ _ => rfl) s k st

/-- An image that meets R467, with no image in use in the other slot, is staged there (R470). -/
theorem State.fwuStage_stages {s : State} {img : FwImage} (hruns : s.mainRuns = true) (hp : s.slotIn slotPending = none)
    (ht : s.slotIn slotTrial = none) (hv : s.slotIn slotPrevious = none) (hok : s.fwFails img = none) :
    s.fwuStage img = (State.slotInfo { s.forgetPrev with fwu := { s.forgetPrev.fwu with
      slots := s.forgetPrev.fwu.slots.put s.otherSlot img } } s.otherSlot slotStaged).fwuEnd STS_OK := by
  simp only [State.fwuStage, hruns, hp, ht, hv, Bool.not_true, Option.isSome_none, Bool.or_self, Bool.false_eq_true, if_false,
    State.fwFails_forgetPrev, hok]

/-- A STAGED slot is erased (R473). -/
theorem State.fwuErase_staged {s : State} (hruns : s.mainRuns = true) (hst : s.rd Fld.FWU_SLOT_INFO_STATE s.otherSlot = slotStaged) :
    s.fwuErase = (State.slotInfo { s.forgetPrev with fwu := { s.forgetPrev.fwu with
      slots := s.forgetPrev.fwu.slots.del s.otherSlot } } s.otherSlot slotEmpty).fwuEnd STS_OK := by
  simp only [State.fwuErase, hruns, hst, Bool.not_true, Bool.false_eq_true, if_false, show ¬ slotStaged = slotEmpty by decide, if_true]

/-- A PENDING slot is STAGED again and nothing is scheduled (R478). -/
theorem State.fwuCancel_pending {s : State} {k : Nat} (hruns : s.mainRuns = true) (hp : s.slotIn slotPending = some k) :
    s.fwuCancel = (State.boundNow ((s.wr Fld.FWU_SLOT_INFO_STATE slotStaged k).wr Fld.FWU_ACT_VALID 0)).fwuEnd STS_OK := by
  simp only [State.fwuCancel, hruns, hp, Bool.not_true, Bool.false_eq_true, if_false]

theorem State.fwuCancel_act {s : State} {k : Nat} (hruns : s.mainRuns = true) (hp : s.slotIn slotPending = some k) :
    s.fwuCancel.rd Fld.FWU_ACT_VALID = 0 := by
  rw [State.fwuCancel_pending hruns hp]
  simp (disch := decide) only [State.fwuEnd, State.boundNow, State.rd_wr_other]
  exact State.rd_wr_self _ Fld.FWU_ACT_VALID 0 0 0

/-! ## Activation, confirmation and fall-back -/

/-- The trigger with no failing check starts the handover (R472). -/
theorem State.fwActivation_starts {s : State} {k : Nat} {ph pd : Bool} (hruns : s.mainRuns = true) (he : s.rdb Fld.FWU_CTRL_ENABLE = true)
    (ha : s.fwu.activating = false) (hpend : s.admittedPend Blk.FWU = false) (hp : s.slotIn slotPending = some k)
    (hc : State.actCheck (s.advanceCt (Frac.int (s.activationNs s.aon.side : Int))) k ph pd = none) :
    (s.fwActivation ph pd).fwu.activating = true := by
  simp only [State.fwActivation, hruns, he, ha, Bool.not_true, Bool.or_self, Bool.false_eq_true, if_false, State.boundary_eq hpend, hp, hc]

/-- What a confirmation does before its record: the boot record, the slots' states, and no trial (R473). -/
def State.confirmed (s : State) : State :=
  let k := s.rd Fld.FWU_STATUS_SLOT
  let s := s.putRec { s.bootRecD with trial := false, prevValid := true }
  let s := (s.wr Fld.FWU_SLOT_INFO_STATE slotRunning k).wr Fld.FWU_SLOT_INFO_STATE
    (if s.rd Fld.FWU_SLOT_INFO_STATE (1 - k) = slotPrevious then slotStaged else s.rd Fld.FWU_SLOT_INFO_STATE (1 - k)) (1 - k)
  { (s.wr Fld.FWU_STATUS_TRIAL 0).wr Fld.FWU_DEADLINE_NS 0 with aon := { s.aon with backstop := none } }

/-- The running image's own FW_GEN by DEADLINE confirms it (R473). -/
theorem State.fwConfirm_confirms {s : State} {gen : Nat} (hruns : s.mainRuns = true) (ht : s.rdb Fld.FWU_STATUS_TRIAL = true)
    (hgen : gen = s.rd Fld.FWU_SLOT_INFO_FW_GEN (s.rd Fld.FWU_STATUS_SLOT)) (hd : s.ctNs ≤ s.rd Fld.FWU_DEADLINE_NS) :
    s.fwConfirm gen = (State.record s.confirmed Blk.FWU 0x0003 gen).isend 0 (.trial none) := by
  have hok : (s.rdb Fld.FWU_STATUS_TRIAL && gen == s.rd Fld.FWU_SLOT_INFO_FW_GEN (s.rd Fld.FWU_STATUS_SLOT) &&
      decide (s.ctNs ≤ s.rd Fld.FWU_DEADLINE_NS)) = true := by
    simp [ht, ← hgen, hd]
  simp only [State.fwConfirm, hruns, Bool.not_true, Bool.false_eq_true, if_false, hok, if_true]
  rfl

theorem State.confirmed_spec (s : State) :
    s.confirmed.bootRecD.trial = false ∧ s.confirmed.rd Fld.FWU_STATUS_TRIAL = 0 ∧ s.confirmed.aon.backstop = none := by
  refine ⟨?_, ?_, rfl⟩
  · show (s.putRec { s.bootRecD with trial := false, prevValid := true }).bootRecD.trial = false
    rw [State.bootRecD_putRec]
  · show State.rd (State.wr (State.wr _ Fld.FWU_STATUS_TRIAL 0) Fld.FWU_DEADLINE_NS 0) Fld.FWU_STATUS_TRIAL = 0
    rw [State.rd_wr_other _ _ (by decide)]
    exact State.rd_wr_self _ Fld.FWU_STATUS_TRIAL 0 0 0

/-- The record of a confirmation and its notice leave the boot record, the trial and the backstop as the confirmation set them. -/
theorem State.fwConfirm_spec {s : State} {gen : Nat} (hruns : s.mainRuns = true) (ht : s.rdb Fld.FWU_STATUS_TRIAL = true)
    (hgen : gen = s.rd Fld.FWU_SLOT_INFO_FW_GEN (s.rd Fld.FWU_STATUS_SLOT)) (hd : s.ctNs ≤ s.rd Fld.FWU_DEADLINE_NS) :
    (s.fwConfirm gen).bootRecD.trial = false ∧ (s.fwConfirm gen).rd Fld.FWU_STATUS_TRIAL = 0 ∧ (s.fwConfirm gen).aon.backstop = none := by
  have hframe : State.Frame (fun s t => { s with gbk := t.gbk, isl := t.isl, out := t.out, regs := t.regs })
      (Fld.GBK_ALARM_SOURCE :: stageFields) s.confirmed (s.fwConfirm gen) := by
    rw [State.fwConfirm_confirms hruns ht hgen hd]
    exact (State.record_frame _ _ _ _ _ _ _).mono.trans (State.isend_inFrame _ _ _).mono
  obtain ⟨htrial, hstatus, hback⟩ := s.confirmed_spec
  have hrec : (s.fwConfirm gen).bootRecD = s.confirmed.bootRecD := by
    unfold State.bootRecD State.bootRec
    rw [hframe.1]
  refine ⟨by rw [hrec]; exact htrial, hframe.rd_apart.trans hstatus, ?_⟩
  rw [hframe.1]
  exact hback

/-- A trial at its deadline hands everything over first, under a HELD lease (R474). -/
theorem State.fwDeadline_hands {s u : State} (hruns : s.mainRuns = true) (ht : s.rdb Fld.FWU_STATUS_TRIAL = true)
    (ha : s.fwu.activating = false) (hu : u = s.advanceCt (Frac.int (s.rd Fld.FWU_DEADLINE_NS : Int))) (hl : u.leaseIsHeld = true)
    (hheld : u.allHeld ≠ []) :
    s.fwDeadline = { u.queueHand u.allHeld with fwu := { s.fwu with activating := true } } := by
  have hfwu : u.fwu = s.fwu := by rw [hu, State.advanceCt, (s.advance_inFrame _).1]
  have hgo : (u.leaseIsHeld && !u.fwu.activating && (u.allHeld != [])) = true := by
    rw [hl, hfwu, ha, bne_iff_ne.2 hheld]
    rfl
  simp only [State.fwDeadline, hruns, ht, Bool.not_true, Bool.or_self, Bool.false_eq_true, if_false, ← hu, hgo, if_true]
  simp only [State.queueHand, hfwu]

/-- The backstop resets the main domain (R475). -/
theorem State.backstopExpiry_resets {s : State} {t₀ : Nat} (h : s.BootsFirst) (hb : s.aon.backstop = some t₀) (hrst : s.aon.sysRst = false)
    (hA : s.pwr.chainA.pwrgd = true) (hB : s.pwr.chainB.pwrgd = true) :
    s.backstopExpiry.aon.resetCause = 5 ∧ s.backstopExpiry.aon.drivers = [] ∧ s.backstopExpiry.aon.backstop = none ∧
      s.backstopExpiry.aon.mainReset = false := by
  have hadv := s.advance_inFrame t₀
  have hfwu : (s.advance t₀).fwu = s.fwu := by rw [hadv.1]
  have hdbg : (s.advance t₀).dbg = s.dbg := by rw [hadv.1]
  have hpwr : (s.advance t₀).pwr = s.pwr := by rw [hadv.1]
  have hrb : (s.advance t₀).rd Fld.GLB_FUSE_ROLLBACK = s.rd Fld.GLB_FUSE_ROLLBACK := hadv.rd_apart
  have hboots : (s.advance t₀).BootsFirst := h.keep (by simp [hfwu]) (by rw [hdbg]) (Nat.le_of_eq hrb)
  have hreset := State.mainReset_first (s := { s.advance t₀ with aon := { (s.advance t₀).aon with backstop := none } }) 5 hboots
    (by rw [hpwr]; exact hA) (by rw [hpwr]; exact hB)
  have heq : s.backstopExpiry = State.mainReset { s.advance t₀ with aon := { (s.advance t₀).aon with backstop := none } } 5 := by
    simp only [State.backstopExpiry, hb, hrst, Bool.false_eq_true, if_false]
  rw [heq, hreset]
  exact ⟨rfl, rfl, rfl, rfl⟩

/-- Settles O10. -/
theorem firmwareUpdateCommandsRun : Obligations.FirmwareUpdateCommandsRun := by
  unfold Obligations.FirmwareUpdateCommandsRun
  refine ⟨?stage, ?cancel, ?erase, ?activation, ?confirm, ?deadline, ?backstop⟩
  case stage =>
    intro s img hruns hp ht hv hok
    refine Completes.of_effect (congrArg ended (State.fwuStage_stages hruns hp ht hv hok)) ⟨?_, State.fwuEnd_result _ STS_OK (by decide)⟩
    show (State.slotInfo _ _ _).fwu.slots.look _ = _
    rw [State.slotInfo_fwu]
    exact Assoc.look_put_self _ _ _
  case cancel =>
    intro s k hruns hp
    have hcancel := State.fwuCancel_pending hruns hp
    obtain ⟨hstatus, hdone⟩ := State.fwuEnd_result
      (State.boundNow ((s.wr Fld.FWU_SLOT_INFO_STATE slotStaged k).wr Fld.FWU_ACT_VALID 0)) STS_OK (by decide)
    exact Completes.of_effect (u := s.fwuCancel) rfl ⟨by rw [hcancel]; exact hstatus, by rw [hcancel]; exact hdone, State.fwuCancel_act hruns hp⟩
  case erase =>
    intro s hruns hst
    refine Completes.of_effect (congrArg ended (State.fwuErase_staged hruns hst)) ⟨?_, (State.fwuEnd_result _ STS_OK (by decide)).1⟩
    show (State.slotInfo _ _ _).fwu.slots.look _ = _
    rw [State.slotInfo_fwu]
    exact Assoc.look_del_self _ _
  case activation =>
    intro s k hruns he ha hpend hp hc
    exact Completes.of_effect (u := s.fwActivation true false) rfl (State.fwActivation_starts hruns he ha hpend hp hc)
  case confirm =>
    intro s gen hruns ht hgen hd
    obtain ⟨htrial, hstatus, hback⟩ := State.fwConfirm_spec hruns ht hgen hd
    exact Completes.of_ended (u := s.fwConfirm gen) rfl ⟨htrial, hstatus, (Aon.settled_backstop _).trans hback⟩
  case deadline =>
    intro s u hruns ht ha hu hl hheld
    exact Completes.of_effect (congrArg ended (State.fwDeadline_hands hruns ht ha hu hl hheld)) ⟨rfl, rfl⟩
  case backstop =>
    intro s t₀ h hb hrst hA hB
    obtain ⟨hcause, hdrivers, hback, hmain⟩ := State.backstopExpiry_resets h hb hrst hA hB
    exact Completes.of_ended (u := s.backstopExpiry) rfl ⟨(Aon.settled_resetCause _).trans hcause, Aon.settled_drivers_nil hdrivers,
      (Aon.settled_backstop _).trans hback, (Aon.settled_mainReset _).trans hmain⟩

end Sys2Proof.Machine
end

section
-- One proof at a time: elaborated side by side, the one-file compile runs out of threads.
set_option Elab.async false
/-! PROOFS. A loop whose bank lies outside its one bit (R421, R424, R427). -/

namespace Sys2Proof.Machine

open Sys2Proof

/-- Loop 0 runs, and `LPE_LOOP_STATE[0].BANK`, a field of one bit, stands in the register table at 5.  The proportional coefficient of that
bank would lie at the bits of `LPE_LOOP_STATE[0].STATE`, the derivative one at those of `LPE_LOOP_STAT[0].SAMPLES`. -/
def State.withBank5 : State :=
  { State.reset with
    regs := [(Fld.LPE_CTRL_ENABLE.key 0 0, 1), (Fld.LPE_LOOP_CFG_SRC.key 0 0, 6), (Fld.LPE_LOOP_CTRL_ENABLE.key 0 0, 1),
      (Fld.LPE_LOOP_LIM_OUT_MAX.key 0 0, 1000), (Fld.LPE_LOOP_STATE_STATE.key 0 0, loopRunning), (Fld.LPE_LOOP_STATE_BANK.key 0 0, 5)]
    lpe := { State.reset.lpe with loops := [(0, { LoopSt.init with fresh := false })] } }

/-- A measurement that has fallen by 2.0 since the sample before. -/
abbrev fallenBy2 : Int := -131072

/-- The bits that bank 5 of loop 0 would take its derivative coefficient from are those of the count of its samples (R518). -/
theorem bank5_is_samples : Fld.LPE_COEF_KD.key 0 5 = Fld.LPE_LOOP_STAT_SAMPLES.key 0 0 := by decide

/-- The proportional part is 4, and the sample has counted itself, so that its derivative adds 2: the loop puts out 6. -/
theorem State.withBank5_out :
    (State.withBank5.loopSample 0 false 0 (some fallenBy2)).rd Fld.LPE_LOOP_STATE_OUT 0 = 6 := by decide +kernel

/-- Refutes O49: its first clause takes the coefficients of a sample from the state before it. With a BANK outside its one bit, which the
statement's states may hold, the derivative coefficient is the count of samples, and the sample has counted itself before it reads it. -/
theorem not_loopsSampleAndAgeingSweeps : ¬ Obligations.LoopsSampleAndAgeingSweeps := by
  intro h
  obtain ⟨hsample, -⟩ := h
  have hcompletes := hsample State.withBank5 0 0 false fallenBy2 (by decide) (by decide) (by decide) (by decide) rfl rfl (by decide)
    (by decide) (by decide) (by decide) (by decide)
  obtain ⟨-, hout, -⟩ := hcompletes.of_exec (u := State.withBank5.loopSample 0 false 0 (some fallenBy2)) rfl
  rw [State.rd_settled, State.withBank5_out] at hout
  exact absurd hout (by decide)

end Sys2Proof.Machine
end

section
-- One proof at a time: elaborated side by side, the one-file compile runs out of threads.
set_option Elab.async false
/-! PROOFS. A function whose rings run past the last ring (R102, Table 04.13). -/

namespace Sys2Proof.Machine

open Sys2Proof

/-- Where the state of ring 4,096 would stand, were there one: the rings are 0 to 4,095 (Table 04.14). -/
def ring4096 : Nat := Fld.HRI_RING_STATE_STATE.key 4096 0

/-- Function 0 has two rings from ring 4,095 on, so that its ring 1 would be ring 4,096; where that ring's state would stand, the register
table holds ACTIVE. -/
def State.withRing4096 : State :=
  { State.reset with
    regs := [(Fld.HRI_FN_RINGS_BASE.key 0 0, 4095), (Fld.HRI_FN_RINGS_COUNT.key 0 0, 2), (ring4096, ringActive)] }

/-- No ring of the table has its state there (R518). -/
theorem ring4096_apart : ∀ f ∈ [Fld.HRI_RING_STATE_STATE], ∀ i j, i < f.first + f.count → j < f.count2 → f.key i j ≠ ring4096 := by
  intro f hf i j hi hj
  obtain rfl := List.mem_singleton.1 hf
  have hrow : i < 4096 := hi
  have hone : j < 1 := hj
  obtain rfl : j = 0 := by omega
  have hstride : Fld.HRI_RING_STATE_STATE.stride = 512 := rfl
  rw [ring4096, Field.key_row, Field.key_row _ 4096, hstride]
  omega

/-- RESYNC of function 0's ring 1 writes RESYNCING there. -/
theorem State.withRing4096_resync : (State.withRing4096.resyncStart (some 0) 1).regs.look ring4096 = some ringResyncing := by decide +kernel

/-- Refutes O56: its clause of RESYNC bounds the ring a function names, and not the ring it comes to. With a function whose rings run past ring
4,095, the command writes outside the rings' table, and so outside the fields that the clause names. -/
theorem not_framesOfTimeHostAndFabricCommands : ¬ Obligations.FramesOfTimeHostAndFabricCommands := by
  intro h
  obtain ⟨-, -, -, -, -, -, -, -, -, -, -, -, -, -, -, -, -, -, -, -, -, -, -, hresync, -⟩ := h
  obtain ⟨-, hregs⟩ := (hresync State.withRing4096 (some 0) 1 (by decide)).of_exec (u := State.withRing4096.resyncStart (some 0) 1) rfl
  have hnew := State.withRing4096_resync
  generalize State.withRing4096.resyncStart (some 0) 1 = u at hregs hnew
  have hkept : u.regs.look ring4096 = State.withRing4096.regs.look ring4096 := hregs ring4096 ring4096_apart
  rw [hnew] at hkept
  exact absurd hkept (by decide +kernel)

end Sys2Proof.Machine
end

section
-- One proof at a time: elaborated side by side, the one-file compile runs out of threads.
set_option Elab.async false
/-! PROOFS. Stripes: programming, completion, reconstruction, loss, patrol and rebuild (R300 to R304, R308 to R312). -/

namespace Sys2Proof.Machine

open Sys2Proof

theorem State.stripe_of_str {s t : State} (h : t.str = s.str) (k : Nat) : t.stripe k = s.stripe k := by unfold State.stripe; rw [h]

/-! ## Programming (R300) -/

/-- A stripe that is OPEN, not full and no buffer stripe is programmed (R300). -/
theorem State.stripeProgram_opened {s : State} {k : Nat} {y : Stripe} (h : s.stripe k = some y) (hst : y.st = .opened) (hfull : y.full = false)
    (hkind : y.kind ≠ .buffer) : s.stripeProgram k =
      (s.setStripe k { y with full := true }).emit (.program k (if y.kind = .destage then List.range (y.d - 1) else y.members)) := by
  simp only [State.stripeProgram, h, hst, hfull, bne_self_eq_false, Bool.false_or, beq_false_of_ne hkind, Bool.false_eq_true, if_false]

theorem State.stripe_modStripe_self (s : State) (k : Nat) (f : Stripe → Stripe) : (s.modStripe k f).stripe k = (s.stripe k).map f :=
  Assoc.look_modify_self _ _ _

theorem State.stripe_setStripe_self (s : State) (k : Nat) (y : Stripe) : (s.setStripe k y).stripe k = some y := Assoc.look_put_self _ _ _

/-! ## Completing an open stripe (R303, Table 13.4) -/

/-- A member found valid is kept: it has passed, and is not failed. -/
def Stripe.pass (y : Stripe) (m : Nat) : Stripe := { y with passed := y.passed.insert m, failed := y.failed.remove m }

/-- Keeping members touches what has passed and what has failed, member by member. -/
theorem Stripe.foldl_pass (y : Stripe) (ms : List Nat) :
    ms.foldl Stripe.pass y = { y with passed := ms.foldl NatSet.insert y.passed, failed := ms.foldl NatSet.remove y.failed } := by
  induction ms generalizing y with
  | nil => rfl
  | cons m ms ih => rw [List.foldl_cons, ih]; rfl

theorem NatSet.foldl_remove_nil (ms : List Nat) : ms.foldl NatSet.remove [] = [] := by
  induction ms with
  | nil => rfl
  | cons m ms ih => exact ih

/-- All members found valid: the stripe's table alone changes, and each of them has passed (Table 13.4). -/
theorem State.completeMembers_valid {f : Nat → Found} {k : Nat} (ms : List Nat) (hf : ∀ m ∈ ms, f m = .valid) {s : State} {y : Stripe}
    (h : s.stripe k = some y) : ∃ stripes, ms.foldl (fun s m => s.completeMember k m (f m)) s = { s with str := { s.str with stripes := stripes } } ∧
      stripes.look k = some (ms.foldl Stripe.pass y) := by
  induction ms generalizing s y with
  | nil => exact ⟨s.str.stripes, rfl, h⟩
  | cons m ms ih =>
    have hpass : s.completeMember k m (f m) = s.setStripe k (y.pass m) := by
      rw [hf m List.mem_cons_self]
      simp only [State.completeMember, h]
      rfl
    obtain ⟨stripes, heq, hlook⟩ := ih (fun x hx => hf x (List.mem_cons_of_mem _ hx)) (s.stripe_setStripe_self k (y.pass m))
    exact ⟨stripes, by rw [List.foldl_cons, hpass, heq]; rfl, hlook⟩

/-- The stripe that a completion of valid members leaves. -/
def Stripe.completed (y : Stripe) : Stripe := { y.members.foldl Stripe.pass y with st := .closed }

theorem Stripe.completed_spec {y : Stripe} (hfailed : y.failed = []) : y.completed.st = .closed ∧ y.completed.failed = [] ∧
    ∀ m < y.d + y.p, y.completed.passed.mem m = true := by
  unfold Stripe.completed
  rw [Stripe.foldl_pass]
  refine ⟨rfl, ?_, fun m hm => NatSet.mem_foldl_insert (List.mem_range.2 hm)⟩
  show y.members.foldl NatSet.remove y.failed = []
  rw [hfailed]
  exact NatSet.foldl_remove_nil _

/-- A stripe with no writes closes: its own state and its band's time, and nothing else (R301). -/
theorem State.closeStripe_idle {s : State} {k : Nat} {z : Stripe} (h : s.stripe k = some z) (hops : z.ops = []) (hfailed : z.failed = []) :
    ∃ str, ((s.closeStripe k).programmedOps k).stripeDeltas k = { s with str := str } ∧ str.stripes.look k = some { z with st := .closed } := by
  have hlook : (s.closeStripe k).stripe k = some { z with st := .closed } := by
    have hmod : (s.closeStripe k).stripe k =
      (s.modStripe k (fun x => { x with st := if x.failed = [] then .closed else .degraded })).stripe k := rfl
    rw [hmod, State.stripe_modStripe_self, h, Option.map_some, if_pos hfailed]
  have hprogrammed : (s.closeStripe k).programmedOps k = s.closeStripe k := by
    simp only [State.programmedOps, hlook, hops, List.foldl_nil]
  have hdeltas : (s.closeStripe k).stripeDeltas k = s.closeStripe k := by
    simp only [State.stripeDeltas, hlook, hops, List.foldl_nil]
  exact ⟨(s.closeStripe k).str, by rw [hprogrammed, hdeltas]; rfl, hlook⟩

/-- The new holder finds every member of an OPEN destage stripe valid: the stripe is CLOSED, every member has passed (R303). -/
theorem State.stripeComplete_valid {s : State} {a : StripeAt} {f : List Found} {y : Stripe} (ho : s.ownsPg a.pg = true)
    (h : s.stripe a.id = some y) (hkind : y.kind = .destage) (hst : y.st = .opened) (hops : y.ops = []) (hsif : y.sif = none)
    (hfailed : y.failed = []) (hlen : y.d + y.p ≤ f.length) (hf : ∀ x ∈ f, x = .valid) :
    ∃ str, s.stripeComplete a f = { s with str := str } ∧ str.stripes.look a.id = some y.completed := by
  have hvalid : ∀ m ∈ y.members, f.getD m .valid = .valid := by
    intro m hm
    have hlt : m < f.length := Nat.lt_of_lt_of_le (List.mem_range.1 hm) hlen
    rw [List.getD_eq_getElem f Found.valid hlt]
    exact hf _ (List.getElem_mem hlt)
  obtain ⟨stripes, hfold, hlook⟩ := State.completeMembers_valid y.members hvalid h
  have hz : y.members.foldl Stripe.pass y =
      { y with passed := y.members.foldl NatSet.insert y.passed, failed := y.members.foldl NatSet.remove y.failed } := y.foldl_pass _
  have hall : (y.members.foldl Stripe.pass y).allPassed = true := by
    rw [hz]
    refine List.all_eq_true.2 fun m hm => ?_
    rw [Bool.or_eq_true]
    exact .inl (NatSet.mem_foldl_insert hm)
  have hzsif : (y.members.foldl Stripe.pass y).sif = none := by rw [hz]; exact hsif
  have hstripe : State.stripe { s with str := { s.str with stripes := stripes } } a.id = some (y.members.foldl Stripe.pass y) := hlook
  obtain ⟨str, hclose, hclosed⟩ := State.closeStripe_idle hstripe (by rw [hz]; exact hops)
    (by rw [hz]; show y.members.foldl NatSet.remove y.failed = []; rw [hfailed]; exact NatSet.foldl_remove_nil _)
  refine ⟨str, ?_, hclosed⟩
  have hjudge : (y.kind != StripeKind.destage || !(y.st == StripeSt.opened || y.st == StripeSt.sealed) || decide (f.length < y.d + y.p)) = false := by
    simp [hkind, hst, hlen]
  simp only [State.stripeComplete, ho, Bool.not_true, Bool.false_eq_true, if_false, h, Option.isNone_some, hjudge, hfold, hstripe, hall,
    if_true, hzsif]
  exact hclose

/-! ## Loss (R308, R309) -/

/-- With nothing to mark, no leaf entry is marked and no record issued (R309). -/
theorem State.markChunks_none (s : State) {addrs : List Nat} (ok : Nat → Nat → Bool) (h : ∀ a ∈ addrs, s.namers a = []) :
    s.markChunks addrs ok = (s, []) := by
  have hmarks : addrs.flatMap (fun a => ((s.namers a).filter (fun q => ok q.1 a)).map (fun q => (q.1, q.2, a))) = [] := by
    rw [List.flatMap_eq_nil_iff]
    intro a ha
    rw [h a ha]
    rfl
  simp only [State.markChunks, hmarks, if_true]

/-- A stripe lost that no chunk lies in: it is LOST, and the lost chunks are as they were (R308). -/
theorem State.stripeLost_empty {s : State} {k : Nat} {y : Stripe} {b : Band} {bad : List (Nat × List Nat)} (h : s.stripe k = some y)
    (hb : s.str.bands.look (bandOf k) = some b) (hbad : ∃ x ∈ bad, y.solvable x.2 = false) (hc : ∀ e ∈ s.map.chunks, e.2.stripe ≠ k) :
    s.stripeLost k bad = State.reportStripe (s.setStripe k { y with
      st := .lost, lostPos := (bad.filter (fun x => !y.solvable x.2)).foldl (fun (a : NatSet) x => a.insert x.1) y.lostPos }) k
      (bad.filter (fun x => !y.solvable x.2)).length [] := by
  have hlost : bad.filter (fun x => !y.solvable x.2) ≠ [] := by
    obtain ⟨x, hx, hs⟩ := hbad
    exact List.ne_nil_of_mem (List.mem_filter.2 ⟨hx, by simp [hs]⟩)
  have hgone (p : Nat × Chunk → Bool) : s.map.chunks.filter (fun e => e.2.stripe == k && p e) = [] := by
    refine List.filter_eq_nil_iff.2 fun e he => ?_
    simp [hc e he]
  simp only [State.stripeLost, h, hb, if_neg hlost, hgone, List.foldl_nil, List.filter_nil, List.map_nil]
  rw [State.markChunks_none _ _ (by simp)]

/-- The report of a lost stripe with no lost range: the error and a record (R308). -/
theorem State.reportStripe_empty (s : State) (k n : Nat) :
    (s.reportStripe k n []).rd Fld.STR_ERR_STRIPE_LOST = 1 ∧ (s.reportStripe k n []).str = s.str := by
  simp only [State.reportStripe, State.reportRanges, List.foldl_nil]
  refine ⟨?_, by rw [(State.record_frame _ _ _ _ _ _ _).1]; rfl⟩
  rw [State.rd_record_apart _ _ _ _ _ _ _ (by decide), State.rd_wr_other _ _ (by decide)]
  exact State.rd_wr_self s Fld.STR_ERR_STRIPE_LOST 1 0 0

/-- A sweep that finds no leaf entry leading to a lost chunk forgets the lost chunks, and that is all (R309). -/
theorem State.lostSweep_unnamed {s : State} (h : ∀ a ∈ s.str.lostTable, s.namers a = []) :
    s.lostSweep = { s with str := { s.str with lostTable := [] } } := by
  unfold State.lostSweep
  simp only [State.markChunks_none s _ h, State.reportRanges, List.foldl_nil]

/-! ## Patrol (R310, R311) -/

/-- What patrol ends its check of a stripe with: the cursor, and the progress of the pass (R310). -/
theorem State.patrolCheck_passEnds {s : State} {k : Nat} {y : Stripe} {b : Band} (c : List Nat) (hp : s.rdb Fld.STR_STATUS_PATROLLING = true)
    (hfind : s.patrolled.find? (fun e => e.1 == k) = some (k, y)) (hb : s.str.bands.look (bandOf k) = some b) :
    s.patrolCheck k ⟨[], false, c, false, true⟩ = ({ s with str := { s.str with patrolCursor := k } }.bump Fld.STR_PATROL_PROGRESS_PASSES).wr
      Fld.STR_PATROL_PROGRESS_PCT 0 := by
  simp only [State.patrolCheck, hp, Bool.not_true, Bool.false_eq_true, if_false, hfind, hb, State.patrolFinding, if_true, ite_self]

/-- A member that alone explains a parity that differs has failed, and its band is queued (R311). -/
def State.patrolFixed (s : State) (k m : Nat) : State :=
  ((s.modStripe k (fun x => x.fail m)).bump Fld.STR_STAT_PATROL_FIXED_COUNT).gcxWork 3 (bandOf k)

theorem State.patrolCheck_fixes {s : State} {k m : Nat} {y : Stripe} {b : Band} (hp : s.rdb Fld.STR_STATUS_PATROLLING = true)
    (hfind : s.patrolled.find? (fun e => e.1 == k) = some (k, y)) (hb : s.str.bands.look (bandOf k) = some b) (hst : b.st = .inUse)
    (hy : 2 ≤ y.p) : ∃ n, s.patrolCheck k ⟨[], true, [m], true, false⟩ =
      (State.wr { s.patrolFixed k m with str := { (s.patrolFixed k m).str with patrolCursor := k } } Fld.STR_PATROL_PROGRESS_PCT n).wr
        Fld.STR_STATUS_PATROLLING 0 := by
  simp only [State.patrolCheck, hp, Bool.not_true, Bool.false_eq_true, if_false, hfind, hb, hst, State.patrolFinding, if_true, hy]
  exact ⟨_, rfl⟩

theorem State.patrolFixed_spec {s : State} {k m : Nat} {y : Stripe} (h : s.stripe k = some y) :
    (s.patrolFixed k m).stripe k = some (y.fail m) ∧ (⟨3, bandOf k⟩ : GcxWork) ∈ (s.patrolFixed k m).gcx.work := by
  have hwork := ((s.modStripe k (fun x => x.fail m)).bump Fld.STR_STAT_PATROL_FIXED_COUNT).gcxWork_frame 3 (bandOf k)
  have hstr : (s.patrolFixed k m).str = (s.modStripe k (fun x => x.fail m)).str := by rw [State.patrolFixed, hwork.1]; rfl
  exact ⟨by rw [State.stripe_of_str hstr, State.stripe_modStripe_self, h]; rfl, hwork.2⟩

/-! ## Rebuild (R312) -/

/-- The one band that waits for rebuild goes to reclamation (R312). -/
theorem State.rebuildBand_one {s : State} {k : Nat} {b : Band} (he : s.rdb Fld.STR_CTRL_ENABLE = true)
    (hr : s.rdb Fld.STR_CTRL_REBUILD_EN = true) (hk : s.str.rebuild = [k]) (hw : s.gcx.work = []) (hb : s.str.bands.look k = some b)
    (hst : b.st = .inUse) : ∃ n, s.rebuildBand = (s.bump Fld.STR_STAT_RECON_COUNT n).gcxWork 1 k := by
  have hb' (n : Nat) : (s.bump Fld.STR_STAT_RECON_COUNT n).str.bands.look k = some b := hb
  simp only [State.rebuildBand, he, hr, Bool.and_self, Bool.not_true, Bool.false_eq_true, if_false, hk, hw, List.any_nil, Bool.not_false,
    List.filter_cons, List.filter_nil, if_true, List.foldl_nil, hb', hst]
  exact ⟨_, rfl⟩

/-- Settles O41. -/
theorem stripesAreProgrammedKeptAndLost : Obligations.StripesAreProgrammedKeptAndLost := by
  unfold Obligations.StripesAreProgrammedKeptAndLost
  refine ⟨?destage, ?reloc, ?complete, ?reconstruct, ?lost, ?sweep, ?trigger, ?passEnds, ?fixes, ?rebuild⟩
  case destage =>
    intro s k y h hst hfull hkind
    have heq := State.stripeProgram_opened h hst hfull (by rw [hkind]; decide)
    rw [if_pos hkind] at heq
    exact Completes.of_effect (congrArg ended heq) ⟨s.stripe_setStripe_self k _, rfl, rfl⟩
  case reloc =>
    intro s k y h hst hfull hkind
    have heq := State.stripeProgram_opened h hst hfull (by rw [hkind]; decide)
    rw [if_neg (by rw [hkind]; decide)] at heq
    exact Completes.of_effect (congrArg ended heq) ⟨s.stripe_setStripe_self k _, rfl⟩
  case complete =>
    intro s a f y ho h hkind hst hops hsif hfailed hlen hf
    obtain ⟨str, heq, hlook⟩ := State.stripeComplete_valid ho h hkind hst hops hsif hfailed hlen hf
    exact Completes.of_effect (congrArg ended heq) ⟨rfl, y.completed, hlook, Stripe.completed_spec hfailed⟩
  case reconstruct =>
    intro s k y bad h
    have heq : s.reconstruct k bad = s.bump Fld.STR_STAT_RECON_COUNT (bad.filter (fun b => y.solvable b.2)).length := by
      simp only [State.reconstruct, h]
    exact Completes.of_effect (congrArg ended heq) ⟨rfl, State.rd_bump_self _ _ _ 0⟩
  case lost =>
    intro s k y b bad h hb hbad hc
    have heq := State.stripeLost_empty h hb hbad hc
    generalize hz : { y with st := StripeSt.lost, lostPos := _ } = z at heq
    obtain ⟨herr, hstr⟩ := (s.setStripe k z).reportStripe_empty k (bad.filter (fun x => !y.solvable x.2)).length
    refine Completes.of_effect (congrArg ended heq) ⟨herr, by rw [hstr]; rfl, z, ?_, by rw [← hz]⟩
    rw [State.stripe_of_str hstr]
    exact s.stripe_setStripe_self k z
  case sweep =>
    intro s h
    exact Completes.of_effect (congrArg ended (State.lostSweep_unnamed h)) ⟨rfl, rfl, rfl⟩
  case trigger =>
    intro s he hp
    have heq : s.patrolTrigger = s.wr Fld.STR_STATUS_PATROLLING 1 := by
      simp only [State.patrolTrigger, he, hp, Bool.and_self, if_true]
    exact Completes.of_effect (congrArg ended heq) ⟨State.rd_wr_self s Fld.STR_STATUS_PATROLLING 1 0 0, rfl⟩
  case passEnds =>
    intro s k y b c hp hfind hb
    refine Completes.of_effect (congrArg ended (State.patrolCheck_passEnds c hp hfind hb)) ⟨rfl, rfl, ?_, State.rd_wr_self _ _ 0 0 0⟩
    rw [State.rd_wr_other _ _ (by decide), State.rd_bump_self]
    rfl
  case fixes =>
    intro s k m y b hp hfind h hb hst hy
    obtain ⟨n, heq⟩ := State.patrolCheck_fixes (m := m) hp hfind hb hst hy
    obtain ⟨hstripe, hwork⟩ := State.patrolFixed_spec (m := m) h
    exact Completes.of_effect (congrArg ended heq) ⟨hstripe, hwork, State.rd_wr_self _ Fld.STR_STATUS_PATROLLING 0 0 0⟩
  case rebuild =>
    intro s k b he hr hk hw hb hst
    obtain ⟨n, heq⟩ := State.rebuildBand_one he hr hk hw hb hst
    have hwork : (s.bump Fld.STR_STAT_RECON_COUNT n).gcxWork 1 k =
        { s.bump Fld.STR_STAT_RECON_COUNT n with gcx := { s.gcx with work := [⟨1, k⟩] } } := by
      have hgcx : (s.bump Fld.STR_STAT_RECON_COUNT n).gcx = s.gcx := rfl
      simp only [State.gcxWork, hgcx, hw, List.contains_nil, Bool.false_eq_true, if_false, List.nil_append]
    exact Completes.of_effect (congrArg ended (heq.trans hwork)) ⟨rfl, rfl⟩

end Sys2Proof.Machine
end

section
-- One proof at a time: elaborated side by side, the one-file compile runs out of threads.
set_option Elab.async false
/-! PROOFS. Spanning stripes: the initiator's update, the holder's application and the acknowledgements (R305, R307, R347). -/

namespace Sys2Proof.Machine

open Sys2Proof

/-! ## The initiator (R305, R307) -/

/-- Keeping what the initiator wrote of a row touches the chunks alone. -/
theorem State.putSpanMembers_frame {β : Type} (l : List β) (c : β → Prop) [DecidablePred c] (k : Nat) (x : WriteOp) (j v n : β → Nat) (s : State) :
    State.Frame (fun s t => { s with map := t.map }) [] s
      (l.foldl (fun (s : State) i => if c i then s.putSpanMember k (j i) x (v i) (n i) else s) s) :=
  State.Frame.foldl l (fun u _ _ => State.Frame.ite (fun _ => State.Frame.of_eq rfl) (fun _ => State.Frame.refl u)) s

/-- A row of an accepted put goes out as a whole: its update is kept, and a SIF record issued (R305). -/
theorem State.spanUpdate_row {s : State} {o band row : Nat} {x : WriteOp} {a : NsKv} (hx : s.ops.look o = some x)
    (ha : s.kvs.ns.look x.nsid = some a) (hacc : x.accepted = true) (hspan : x.span = true) (hns : a.span = true)
    (hnew : s.str.spans.has (spanId x.pg band row) = false) :
    ∃ v u oset, State.Frame (fun s t => { s with map := t.map }) [] s v ∧
      s.spanUpdate o band row none = State.issue
        { v with str := { v.str with spans := v.str.spans.put (spanId x.pg band row) u
                                     initStep := v.str.initStep.put (spanId x.pg band row) u.step } }
        (.sif (spanId x.pg band row) u.step (2 ^ a.k - 1)) (1 + ceilDiv (a.m * 65536) 64) oset ∧
      u.op = o ∧ u.step = (s.str.initStep.getD (spanId x.pg band row) 0 + 1) % 65536 ∧ u.sent = false ∧ u.k = a.k ∧ u.m = a.m := by
  simp only [State.spanUpdate, hx, ha, hacc, hspan, hns, hnew, Bool.not_true, Bool.or_self, Bool.false_eq_true, if_false]
  exact ⟨_, _, _, State.putSpanMembers_frame _ _ _ _ _ _ _ _, rfl, rfl, rfl, rfl, rfl, rfl⟩

/-- An issue leaves the stripes (R180). -/
theorem State.issue_str {s : State} (h : s.admittedPend Blk.PJM = false) (b : RecBody) (n o : Nat) : (s.issue b n o).str = s.str := by
  obtain ⟨⟨_, _, _, _, heq⟩, -⟩ := State.issue_journals h b n o
  rw [heq]

/-- An update in flight with a holder that has neither acknowledged nor failed is not complete (R307). -/
theorem State.spanCheck_waits {s : State} {k j : Nat} {u : SpanUpd} (h : s.str.spans.look k = some u) (hj : u.members.mem j = true)
    (hacked : u.acked.mem j = false) (hfailed : u.failed.mem j = false) : s.spanCheck k = s := by
  have hall : u.members.all (fun m => u.acked.mem m || u.failed.mem m) = false := by
    rw [List.all_eq_false]
    exact ⟨j, by simpa [NatSet.mem] using hj, by simp [hacked, hfailed]⟩
  simp only [State.spanCheck, h, hall, Bool.false_and, Bool.false_eq_true, if_false]

theorem NatSet.mem_insert_ne {l : NatSet} {k n : Nat} (hne : n ≠ k) (h : l.mem n = false) : (l.insert k).mem n = false := by
  by_contra hmem
  rcases NatSet.of_mem_insert (l := l) (k := k) (n := n) (by simpa [NatSet.mem] using hmem) with heq | hold
  · exact hne heq
  · simp [NatSet.mem, hold] at h

theorem NatSet.mem_remove_of_not_mem {l : NatSet} (k : Nat) {n : Nat} (h : l.mem n = false) : (l.remove k).mem n = false := by
  simp only [NatSet.mem, List.contains_eq_mem, decide_eq_false_iff_not, NatSet.remove, List.mem_filter] at h ⊢
  exact fun hmem => h hmem.1

/-- Replace an update in flight. -/
def State.putSpan (s : State) (k : Nat) (u : SpanUpd) : State := { s with str := { s.str with spans := s.str.spans.put k u } }

theorem State.putSpan_look (s : State) (k : Nat) (u : SpanUpd) : (s.putSpan k u).str.spans.look k = some u := Assoc.look_put_self _ _ _

/-- An acknowledgement with another holder still silent is noted, and that is all (R307). -/
theorem State.spanAck_noted {s : State} {m : SpanMsg} {u : SpanUpd} {j : Nat} (hu : s.str.spans.look m.stripe = some u) (hcrc : m.crcOk = true)
    (hop : m.op = 3) (hstep : m.step = u.step) (hm : u.members.mem m.member = true) (hst : m.status = STS_OK) (hj : u.members.mem j = true)
    (hne : j ≠ m.member) (hacked : u.acked.mem j = false) (hfailed : u.failed.mem j = false) :
    s.spanAck m = s.putSpan m.stripe { u with acked := u.acked.insert m.member, failed := u.failed.remove m.member } := by
  have hwait := State.spanCheck_waits (s.putSpan_look m.stripe { u with acked := u.acked.insert m.member, failed := u.failed.remove m.member }) hj
    (NatSet.mem_insert_ne hne hacked) (NatSet.mem_remove_of_not_mem _ hfailed)
  simp only [State.spanAck, hu, hcrc, hop, hstep, hm, hst, Bool.not_true, bne_self_eq_false, Bool.or_self, Bool.false_eq_true, if_false, if_true]
  exact hwait

/-! ## The timeout (R307) -/

/-- Messages sent again leave the head, and nothing else moves. -/
theorem State.emitSpans_frame (l : List (Nat × SpanMsg)) (s : State) :
    State.Frame (fun s t => { s with out := t.out }) [] s (l.foldl (fun s m => s.emit (.span m.1 m.2)) s) :=
  State.Frame.foldl l (fun u m _ => State.Frame.emit u (.span m.1 m.2)) s

/-- With tries left, the silent holders are sent their messages again, and the time of the acknowledgements starts anew (R307). -/
theorem State.spanTimeout_resends {s : State} {k : Nat} {u : SpanUpd} (hu : s.str.spans.look k = some u) (hsent : u.sent = true)
    (hsilent : u.members.filter (fun m => !u.acked.mem m && !u.failed.mem m) ≠ []) (htries : u.tries < s.rd Fld.STR_SPAN_CFG_RETRIES)
    (hl : s.aon.leaseEnd = none) :
    (s.spanTimeout k).now = max s.now (u.since + s.rd Fld.STR_SPAN_CFG_ACK_TMO_US * unitsPerUs) ∧
      (s.spanTimeout k).str.spans.look k = some { u with tries := u.tries + 1, since := (s.spanTimeout k).now } := by
  have hadv := State.advance_unleased hl (u.since + s.rd Fld.STR_SPAN_CFG_ACK_TMO_US * unitsPerUs)
  have htries' : u.tries < State.rd { s with now := max s.now (u.since + s.rd Fld.STR_SPAN_CFG_ACK_TMO_US * unitsPerUs) }
    Fld.STR_SPAN_CFG_RETRIES := htries
  have hgo : (!u.sent || decide (u.members.filter (fun m => !u.acked.mem m && !u.failed.mem m) = [])) = false := by simp [hsent, hsilent]
  simp only [State.spanTimeout, hu, hgo, Bool.false_eq_true, if_false, State.advanceUs, hadv, if_pos htries']
  rw [(State.emitSpans_frame _ _).1]
  exact ⟨rfl, Assoc.look_put_self _ _ _⟩

/-! ## The holder (R307, R347) -/

/-- The acknowledgement of a span message, or its refusal (Table 13.5). -/
abbrev spanReply (m : SpanMsg) (status : Nat) : SpanMsg := { m with op := 3, status := status, payload := 0 }

/-- A duplicate is acknowledged, and not applied again (R307). -/
theorem State.spanReceive_duplicate {s : State} {m : SpanMsg} (hcrc : m.crcOk = true) (hop : m.op < 3)
    (hlast : s.str.spanStep.look (m.stripe * 32 + m.member) = some m.step) :
    s.spanReceive m = s.emit (.span (m.initHead / 2) (spanReply m STS_OK)) := by
  simp only [State.spanReceive, hcrc, Nat.not_le.2 hop, decide_false, Bool.not_true, Bool.or_self, Bool.false_eq_true, if_false, hlast, if_true, spanReply]

/-- A change of a member that this head has not is refused (R307). -/
theorem State.spanReceive_stale {s : State} {m : SpanMsg} (hcrc : m.crcOk = true) (hop : m.op < 2)
    (hlast : s.str.spanStep.look (m.stripe * 32 + m.member) = none) :
    s.spanReceive m = ((s.wr Fld.STR_ERR_INFO_STRIPE_ID m.stripe).record Blk.STR 0x2003 m.stripe).emit
      (.span (m.initHead / 2) (spanReply m STS_SEQ_STALE)) := by
  have hnot3 : ¬ 3 ≤ m.op := by omega
  have hnot2 : (m.op != 2) = true := by rw [bne_iff_ne]; omega
  have hstep : ¬ (none : Option Nat) = some m.step := by simp
  have hother : ((none : Option Nat) != some ((m.step + 65535) % 65536)) = true := rfl
  simp only [State.spanReceive, hcrc, hnot3, decide_false, Bool.not_true, Bool.or_self, Bool.false_eq_true, if_false, hlast, hnot2,
    if_neg hstep, hother, Bool.and_self, if_true, spanReply]

/-- A whole member goes to this head's own acceptance (R347). -/
theorem State.spanReceive_whole {s : State} {m : SpanMsg} (hcrc : m.crcOk = true) (hop : m.op = 2)
    (hlast : s.str.spanStep.look (m.stripe * 32 + m.member) ≠ some m.step) (hin : s.str.spanIn.has (m.stripe * 32 + m.member) = false)
    (hns : s.adm.nss.has Machine.spanNs = true) :
    s.spanReceive m = State.startWrite { s with str := { s.str with spanIn := s.str.spanIn.put (m.stripe * 32 + m.member) m } }
      (.span (m.stripe * 32 + m.member) m.step) spanTenant (keyReq .kvPut Machine.spanNs (spanKey m) 12 65536 [m.payload]) := by
  simp only [State.spanReceive, hcrc, hop, hlast, hin, hns, Bool.not_true, Bool.false_eq_true, if_false, bne_self_eq_false, Bool.false_and,
    show ¬ (3 : Nat) ≤ 2 by decide, show ¬ (2 : Nat) = 1 by decide, decide_false, Bool.or_self]

/-- Settles O42. -/
theorem spanningStripesAreUpdated : Obligations.SpanningStripesAreUpdated := by
  unfold Obligations.SpanningStripesAreUpdated
  refine ⟨?update, ?whole, ?duplicate, ?stale, ?ack, ?timeout⟩
  case update =>
    intro s o band row x a hx ha hacc hspan hns hnew hpend
    obtain ⟨v, u, oset, hv, heq, hop, hstep, hsent, hk, hm⟩ := State.spanUpdate_row hx ha hacc hspan hns hnew
    generalize hw : ({ v with str := { v.str with spans := v.str.spans.put (spanId x.pg band row) u
                                                  initStep := v.str.initStep.put (spanId x.pg band row) u.step } } : State) = w at heq
    have hspans : w.str.spans.look (spanId x.pg band row) = some u := by rw [← hw]; exact Assoc.look_put_self _ _ _
    have hadm : w.adm = s.adm := by rw [← hw, hv.1]
    have hjseq : w.nextJseq = s.nextJseq := by rw [← hw]; exact hv.rd_apart
    have hpend' : w.admittedPend Blk.PJM = false := (State.admittedPend_congr hadm _).trans hpend
    obtain ⟨r, hr, hbody⟩ := State.issue_look hpend' (.sif (spanId x.pg band row) u.step (2 ^ a.k - 1)) (1 + ceilDiv (a.m * 65536) 64) oset
    refine Completes.of_effect (congrArg ended heq) ⟨u, r, ?_, hop, hstep, hsent, hk, hm, by rw [← hjseq]; exact hr, hbody⟩
    rw [State.issue_str hpend']
    exact hspans
  case whole =>
    intro s m hcrc hop hlast hin hns
    refine Completes.of_effect (congrArg ended (State.spanReceive_whole hcrc hop hlast hin hns)) ?_
    exact ⟨Assoc.look_put_self _ _ _, rfl, rfl, _, State.startWrite_look _ _ _ _, rfl, rfl, rfl⟩
  case duplicate =>
    intro s m hcrc hop hlast
    exact Completes.of_effect (congrArg ended (State.spanReceive_duplicate hcrc hop hlast)) ⟨rfl, rfl, rfl⟩
  case stale =>
    intro s m hcrc hop hlast
    have hrec := (s.wr Fld.STR_ERR_INFO_STRIPE_ID m.stripe).record_frame Blk.STR 0x2003 m.stripe 0 0 false
    refine Completes.of_effect (congrArg ended (State.spanReceive_stale hcrc hop hlast)) ⟨?_, ?_, List.mem_cons_self⟩
    · show (State.record _ _ _ _).str = s.str
      rw [hrec.1]
      rfl
    · show (State.record _ _ _ _).ops = s.ops
      rw [hrec.1]
      rfl
  case ack =>
    intro s m u j hu hcrc hop hstep hm hst hj hne hacked hfailed
    have heq := State.spanAck_noted hu hcrc hop hstep hm hst hj hne hacked hfailed
    exact Completes.of_effect (congrArg ended heq) ⟨rfl, s.putSpan_look _ _⟩
  case timeout =>
    intro s k u hu hsent hsilent htries hl
    obtain ⟨hnow, hspans⟩ := State.spanTimeout_resends hu hsent hsilent htries hl
    exact Completes.of_effect (u := s.spanTimeout k) rfl ⟨hspans, hnow⟩

end Sys2Proof.Machine
end

section
-- One proof at a time: elaborated side by side, the one-file compile runs out of threads.
set_option Elab.async false
/-! PROOFS. Reclamation of bands: victims, relocation, erase, the reference sweep and the fold (R316 to R325). -/

namespace Sys2Proof.Machine

open Sys2Proof

/-! ## Victims (R316 to R318, R326) -/

/-- An eligible band is IN_USE (R316). -/
theorem State.eligible_inUse {s : State} {k : Nat} {b : Band} (h : s.eligible k = true) (hb : s.str.bands.look k = some b) : b.st = .inUse := by
  simp only [State.eligible, hb, Bool.and_eq_true, beq_iff_eq] at h
  exact h.1.1

/-- A victim that fits, with room in the relocation table, is claimed and leaves the queue of work (R318). -/
theorem State.takeVictim_first {s : State} {k : Nat} (rest : List Nat) (ht : s.tableFull = false) (hf : s.victimFits k = true) :
    s.takeVictim (k :: rest) = { s.modBand k (fun b => { b with st := .claimed }) with
      gcx := { s.gcx with work := s.gcx.work.filter (fun w => w.band != k) } } := by
  simp only [State.takeVictim, State.tryVictim, ht, Bool.false_and, Bool.false_eq_true, if_false, hf, if_true]

/-- The work that waits for bands in use (R318). -/
def State.knownWork (s : State) : List GcxWork :=
  s.gcx.work.filter (fun w => match s.str.bands.look w.band with
    | some b => b.st == .inUse
    | none => false)

/-- Work of class 1 on an eligible band is served before any other (R318). -/
theorem State.victimChoice_asked {s : State} {k : Nat} {b : Band} {l : List GcxWork} (hp : s.admittedPend Blk.GCX = false)
    (he : s.rdb Fld.GCX_CTRL_ENABLE = true) (hw : s.gcx.work = ⟨1, k⟩ :: l) (hk : s.eligible k = true) (hb : s.str.bands.look k = some b)
    (ht : s.tableFull = false) (hf : s.victimFits k = true) :
    s.victimChoice = { s.modBand k (fun b => { b with st := .claimed }) with
      gcx := { s.gcx with work := s.knownWork.filter (fun w => w.band != k) } } := by
  have hknown : ∃ rest, s.knownWork = ⟨1, k⟩ :: rest := by
    rw [State.knownWork, hw, List.filter_cons_of_pos (by simp [hb, State.eligible_inUse hk hb])]
    exact ⟨_, rfl⟩
  obtain ⟨rest, hknown⟩ := hknown
  have hasked : ∃ r, State.classVictims { s with gcx := { s.gcx with work := s.knownWork } } 1 = k :: r := by
    have hk' : State.eligible { s with gcx := { s.gcx with work := s.knownWork } } k = true := hk
    simp only [State.classVictims, show ¬ (1 : Nat) = 2 by decide, show ¬ (1 : Nat) = 5 by decide, if_false]
    rw [hknown, List.filter_cons_of_pos (by rw [← hknown]; simp [hk']), List.map_cons]
    exact ⟨_, rfl⟩
  obtain ⟨r, hasked⟩ := hasked
  have hclass : [1, 2, 3, 4, 5].find? (fun c => State.classVictims { s with gcx := { s.gcx with work := s.knownWork } } c != []) = some 1 := by
    rw [List.find?_cons_of_pos (by rw [hasked]; rfl)]
  have hchoice : s.victimChoice = State.takeVictim { s with gcx := { s.gcx with work := s.knownWork } } (k :: r) := by
    simp only [State.victimChoice, State.boundary_eq hp, he, Bool.not_true, Bool.false_eq_true, if_false]
    show (match [1, 2, 3, 4, 5].find? (fun c => State.classVictims { s with gcx := { s.gcx with work := s.knownWork } } c != []) with
      | some c => State.takeVictim { s with gcx := { s.gcx with work := s.knownWork } }
          (State.classVictims { s with gcx := { s.gcx with work := s.knownWork } } c)
      | none => { s with gcx := { s.gcx with work := s.knownWork } }) = _
    rw [hclass]
    exact congrArg _ hasked
  rw [hchoice, State.takeVictim_first (s := { s with gcx := { s.gcx with work := s.knownWork } }) r ht hf]
  rfl

/-! ## Relocation (R322) -/

theorem State.bands_modBand_self (s : State) (k : Nat) (f : Band → Band) : (s.modBand k f).str.bands.look k = (s.str.bands.look k).map f :=
  Assoc.look_modify_self _ _ _

/-- A band with no valid chunk left to copy is COPIED at once, whatever places are offered (R322). -/
theorem State.relocate_empty {s : State} {k : Nat} (kind : StripeKind) (l : List (Nat × StripeAt × Nat)) (h : s.liveChunks k = []) :
    s.relocate k kind l = s.modBand k (fun b => { b with st := .copied }) := by
  have hcopy : l.foldl (fun s m => s.copyChunk k kind m) s = s := by
    induction l with
    | nil => rfl
    | cons m l ih =>
      have hnone : s.copyChunk k kind m = s := by simp only [State.copyChunk, h, Assoc.look_nil]
      rw [List.foldl_cons, hnone]
      exact ih
  simp only [State.relocate, hcopy, h, List.all_nil, if_true]

/-- A key that the table does not list is put in without a trace among the entries that a predicate accepts, when it does not accept the new
one. -/
theorem Assoc.filter_put_new {α : Type} (m : Assoc α) {k : Nat} {v : α} {p : Nat × α → Bool} (hk : m.has k = false) (hp : p (k, v) = false) :
    (m.put k v).filter p = m.filter p := by
  induction m with
  | nil => simp [Assoc.put, hp]
  | cons e t ih =>
    obtain ⟨k', v'⟩ := e
    unfold Assoc.has at hk ih
    rw [Assoc.look_cons] at hk
    unfold Assoc.put
    split
    · rw [List.filter_cons_of_neg (by simp [hp])]
    · split
      · next heq => simp [heq] at hk
      · next hne =>
        rw [if_neg hne] at hk
        rw [List.filter_cons, List.filter_cons, ih hk]

/-- The address of a copied chunk: its slot's length and kind stand in the new place (R245). -/
abbrev movedTo (src d : Nat) : Nat := putBits (putBits d 52 11 (bitsOf src 52 11)) 63 1 (bitsOf src 63 1)

/-- The state after the copy of one chunk that no index entry holds (R322 step 2). -/
def State.withMove (s : State) (a : StripeAt) (y : Stripe) (pgs : Assoc Pg) (table : Assoc Nat) (src dst : Nat) (c : Chunk) : State :=
  State.bump { s.setStripe a.id y with
    pgs := pgs
    map := { s.map with chunks := s.map.chunks.put dst { c with stripe := a.id } }
    gcx := { s.gcx with moves := s.gcx.moves ++ [{ src := src, dst := dst, stripe := a.id, recorded := false }], table := table } }
    Fld.GCX_STAT_RELOC_BYTES (slotBytes src)

/-- A valid chunk of the band is copied into an OPEN relocation stripe of its PG (R322 step 2). -/
theorem State.copyChunk_plain {s : State} {k src d : Nat} {c : Chunk} {a : StripeAt} {y : Stripe} (hlive : s.liveChunks k = [(src, c)])
    (hmoves : s.gcx.moves = []) (hpg : a.pg = k % 65536) (hband : bandOf a.id ≠ k) (hy : s.stripe a.id = some y) (hkind : y.kind = .reloc)
    (hst : y.st = .opened) (hfull : y.full = false) (hidx : s.idxOfChunk src = none)
    (hdedup : (s.adm.nss.look c.nsid).any (fun n => n.dedup) = false) (hdst : s.map.chunks.has (movedTo src d) = false) :
    ∃ y' pgs table, s.copyChunk k .reloc (src, a, d) = s.withMove a y' pgs table src (movedTo src d) c := by
  have hlook : (s.liveChunks k).look src = some c := by rw [hlive, Assoc.look_cons, if_pos rfl]
  have hopen : s.openStripe a .reloc = s := by simp only [State.openStripe, hy]
  have hfree : (s.gcx.moves.any (fun x => x.src == src) || s.map.chunks.has (movedTo src d) || a.pg != k % 65536 || bandOf a.id == k) =
      false := by
    simp [hmoves, hdst, hpg, hband]
  have hready : (y.kind != StripeKind.reloc || y.st != StripeSt.opened || y.full) = false := by simp [hkind, hst, hfull]
  have hidx' (stripes : Assoc Stripe) (pgs : Assoc Pg) :
      State.idxOfChunk { s with str := { s.str with stripes := stripes }, pgs := pgs } src = none := hidx
  have hdedup' : (match s.adm.nss.look c.nsid with | some x => x.dedup | none => false) = false := by
    cases hn : s.adm.nss.look c.nsid with
    | none => rfl
    | some n => simpa [hn] using hdedup
  simp only [State.copyChunk, hlook, hfree, Bool.false_eq_true, if_false, hopen, hy, hready]
  simp only [State.modPg, State.setStripe, hidx', Option.isNone_none, Bool.true_and]
  rw [if_neg]
  · exact ⟨_, _, _, rfl⟩
  · rw [Bool.and_eq_true, not_and]
    intro hd
    exact absurd (hdedup'.symm.trans hd) (by decide)

/-- The copy lies in another band, so that the chunks of the band are those that were there. -/
theorem State.liveChunks_withMove {s : State} {a : StripeAt} {k dst : Nat} (y : Stripe) (pgs : Assoc Pg) (table : Assoc Nat) (src : Nat)
    (c : Chunk) (hband : bandOf a.id ≠ k) (hdst : s.map.chunks.has dst = false) :
    (s.withMove a y pgs table src dst c).liveChunks k = s.liveChunks k := by
  have hchunks : (s.withMove a y pgs table src dst c).bandChunks k = s.bandChunks k :=
    Assoc.filter_put_new s.map.chunks hdst (by simp [hband])
  unfold State.liveChunks
  rw [hchunks]
  rfl

/-! ## The records of relocation (R320 to R323) -/

/-- Bands that wait for a record: the bands alone change. -/
theorem State.modBands_frame (l : List Nat) (f : Band → Band) (s : State) :
    State.Frame (fun s t => { s with str := t.str }) [] s (l.foldl (fun s bk => s.modBand bk f) s) :=
  State.Frame.foldl l (fun _ _ _ => State.Frame.of_eq rfl) s

/-- The one move of a closed relocation stripe is recorded, by the index entry of its chunk (R255, R320). -/
theorem State.relocRecord_indexed {s : State} {k h : Nat} {y : Stripe} {m : GcxMove} {e : IdxEntry} {c : Chunk} (hy : s.stripe k = some y)
    (hkind : y.kind = .reloc) (hst : y.st = .closed) (hmoves : s.gcx.moves = [m]) (hk : m.stripe = k) (hrec : m.recorded = false)
    (hidx : s.idxOfChunk m.src = some (h, e)) (hc : s.map.chunks.look m.src = some c) :
    ∃ v n o, State.Frame (fun s t => { s with str := t.str }) [] { s with gcx := { s.gcx with moves := [{ m with recorded := true }] } } v ∧
      s.relocRecord k = v.issue (.mapDelta
        [{ kind := 5, reloc := true, nsid := c.nsid, laddr := h, addr := m.dst, wseq := c.wseq, pg := c.pg }]) n o := by
  have hdeltas : s.moveDeltas m = [{ kind := 5, reloc := true, nsid := c.nsid, laddr := h, addr := m.dst, wseq := c.wseq, pg := c.pg }] := by
    simp only [State.moveDeltas, hidx, hc]
  have hmine : [m].filter (fun m => m.stripe == k && !m.recorded) = [m] := by simp [hk, hrec]
  have hgo : (!(y.kind == StripeKind.reloc || y.kind == StripeKind.fold) || !(y.st == StripeSt.closed || y.st == StripeSt.degraded) ||
      ([m] : List GcxMove) == []) = false := by
    simp [hkind, hst]
  simp only [State.relocRecord, hy, hmoves, hmine, hgo, Bool.false_eq_true, if_false, List.flatMap_cons, List.flatMap_nil, List.append_nil, hdeltas,
    List.cons_ne_nil, List.map_cons, List.map_nil, hk, if_true]
  exact ⟨_, _, _, State.modBands_frame _ _ _, rfl⟩

/-- With every record persistent, no pin held and nothing shared, the band is free to erase (R322 step 4). -/
theorem State.relocPersist_free {s : State} {k : Nat} {b : Band} (hb : s.str.bands.look k = some b) (hst : b.st = .copied)
    (hwaits : b.waits = []) (hpins : b.pins = []) (htable : s.gcx.table = []) (hrec : s.gcx.moves.all (fun m => m.recorded) = true) :
    s.relocPersist k = { s with
      str := { s.str with bands := s.str.bands.put k { b with st := .erasable, heldPass := s.gcx.passes, pins := [] } }
      gcx := { s.gcx with moves := s.gcx.moves.filter (fun m => s.moveBand m != k) } } := by
  have hmine : (s.gcx.moves.filter (fun m => s.moveBand m == k)).any (fun m => !m.recorded) = false := by
    rw [List.any_eq_false]
    intro m hm
    have hm' := List.all_eq_true.1 hrec m (List.mem_of_mem_filter hm)
    simpa using hm'
  have hheld : (s.gcx.moves.filter (fun m => s.moveBand m == k)).any (fun m => Assoc.has ([] : Assoc Nat) m.src) = false :=
    List.any_eq_false.2 fun m _ => by simp [Assoc.has]
  simp only [State.relocPersist, hb, hst, hwaits, hpins, htable, hmine, hheld, bne_self_eq_false, Bool.or_self, Bool.false_eq_true, if_false,
    List.foldl_nil]

/-! ## Erase (R322 step 5) -/

/-- The members of a band whose blocks are to be erased: those not retired. -/
def State.toErase (s : State) (b : Band) : NatSet :=
  (List.range b.members.length).foldl (fun (a : NatSet) i => if (s.block (b.members.getD i 0)).bad then a else a.insert i) []

theorem NatSet.mem_foldl_insert_if {l : NatSet} {k : Nat} {xs : List Nat} {p : Nat → Bool} (h : k ∈ xs ∧ p k = false ∨ l.mem k = true) :
    (xs.foldl (fun (a : NatSet) i => if p i then a else a.insert i) l).mem k = true := by
  induction xs generalizing l with
  | nil => simpa using h
  | cons x xs ih =>
    refine ih ?_
    rcases h with ⟨hk, hp⟩ | hl
    · rcases List.mem_cons.1 hk with rfl | hk
      · refine .inr ?_
        simp only [hp, Bool.false_eq_true, if_false]
        exact NatSet.mem_insert_self _ _
      · exact .inl ⟨hk, hp⟩
    · refine .inr ?_
      dsimp only
      split
      · exact hl
      · exact NatSet.mem_insert_of_mem x hl

/-- A band's first member that is not retired is to be erased. -/
theorem State.zero_toErase {s : State} {b : Band} (hm : b.members ≠ []) (hbad : (s.block (b.members.getD 0 0)).bad = false) :
    0 ∈ s.toErase b := by
  have hmem : (s.toErase b).mem 0 = true :=
    NatSet.mem_foldl_insert_if (p := fun i => (s.block (b.members.getD i 0)).bad)
      (.inl ⟨List.mem_range.2 (List.length_pos_iff.2 hm), hbad⟩)
  simpa [NatSet.mem] using hmem

/-- The erases of a band's members go out: the LUNs are busy, and the rest of the head stands. -/
def State.sendErases (s : State) (b : Band) (left : List Nat) : State :=
  left.foldl (fun (s : State) i =>
    let a := b.members.getD i 0
    let l : LunSt := { erasing := true, suspended := 0, reads := 0, foreign := false }
    { s with flc := { s.flc with luns := s.flc.luns.put (lunOf a) l } }.emit (.erase (blockAddr a))) s

theorem State.sendErases_frame (s : State) (b : Band) (left : List Nat) :
    State.Frame (fun s t => { s with flc := t.flc, out := t.out }) [] s (s.sendErases b left) :=
  State.Frame.foldl left (fun _ _ _ => State.Frame.of_eq rfl) s

theorem State.sendErases_out {s : State} {b : Band} {left : List Nat} {o : Out} (h : o ∈ s.out) : o ∈ (s.sendErases b left).out := by
  induction left generalizing s with
  | nil => exact h
  | cons i left ih => exact ih (List.mem_cons_of_mem _ h)

theorem State.erase_mem_sendErases {s : State} {b : Band} {left : List Nat} {i : Nat} (h : i ∈ left) :
    Out.erase (blockAddr (b.members.getD i 0)) ∈ (s.sendErases b left).out := by
  induction left generalizing s with
  | nil => simp at h
  | cons j left ih =>
    rcases List.mem_cons.1 h with rfl | h
    · show _ ∈ (State.sendErases _ b left).out
      exact State.sendErases_out List.mem_cons_self
    · exact ih h

/-- The chunks that stay when a band is erased: those of other bands, and of spanning stripes. -/
def State.chunksBut (s : State) (k : Nat) : Assoc Chunk := s.map.chunks.filter (fun e => 2 ^ 64 ≤ e.1 || bandOf e.2.stripe != k)

/-- A band not yet erasing, with a block to erase: its chunks are gone, it is ERASING, and the erases go out (R322 step 5). -/
theorem State.eraseBand_starts {s : State} {k : Nat} {b : Band} (hb : s.str.bands.look k = some b) (hst : b.st ≠ .erasing)
    (hleft : s.toErase b ≠ []) : s.eraseBand k =
      State.sendErases (State.modBand { s with map := { s.map with chunks := s.chunksBut k } } k
        (fun x => { x with st := .erasing, eraseLeft := s.toErase b })) b (s.toErase b) := by
  simp only [State.eraseBand, hb, if_neg hst]
  rw [← State.toErase, if_neg hleft]
  rfl

theorem State.eraseBand_spec {s : State} {k : Nat} {b : Band} (hb : s.str.bands.look k = some b) (hst : b.st ≠ .erasing)
    (hm : b.members ≠ []) (hbad : (s.block (b.members.getD 0 0)).bad = false) :
    (s.eraseBand k).bandChunks k = [] ∧ (s.eraseBand k).regs = s.regs ∧
      Out.erase (blockAddr (b.members.getD 0 0)) ∈ (s.eraseBand k).out ∧
      ∃ x, (s.eraseBand k).str.bands.look k = some x ∧ x.st = .erasing := by
  have hzero := State.zero_toErase hm hbad
  have heq := State.eraseBand_starts hb hst (List.ne_nil_of_mem hzero)
  generalize hu : State.modBand { s with map := { s.map with chunks := s.chunksBut k } } k
    (fun x => { x with st := .erasing, eraseLeft := s.toErase b }) = u at heq
  have hframe := u.sendErases_frame b (s.toErase b)
  rw [heq]
  refine ⟨?_, ?_, State.erase_mem_sendErases hzero, { b with st := .erasing, eraseLeft := s.toErase b }, ?_, rfl⟩
  · rw [hframe.1, ← hu]
    show (s.chunksBut k).filter _ = []
    rw [State.chunksBut, List.filter_filter, List.filter_eq_nil_iff]
    intro x _
    simp only [Bool.and_eq_true, Bool.or_eq_true, decide_eq_true_eq, beq_iff_eq, bne_iff_ne, not_and, not_or]
    rintro ⟨hlt, hband⟩
    exact ⟨Nat.not_le.2 hlt, not_not.2 hband⟩
  · rw [hframe.1, ← hu]; rfl
  · rw [hframe.1, ← hu]
    show (State.modBand _ k _).str.bands.look k = _
    rw [State.bands_modBand_self]
    show Option.map _ (s.str.bands.look k) = _
    rw [hb]
    rfl

/-! ## The reference sweep (R323) -/

/-- The RELOC entries that a sweep writes, ownership set by ownership set, touch the sweep's records and the journal. -/
theorem State.sweepIssues_gcx {β : Type} (l : List β) (ds : β → List Delta) (o : β → Nat) (n : β → Nat) {s : State}
    (hp : s.admittedPend Blk.PJM = false) :
    let t := l.foldl (fun (s : State) x =>
      State.issue { s with gcx := { s.gcx with sweepRecs := s.gcx.sweepRecs.insert s.nextJseq } } (.mapDelta (ds x)) (n x) (o x)) s
    t.gcx = { s.gcx with sweepRecs := t.gcx.sweepRecs } := by
  induction l generalizing s with
  | nil => rfl
  | cons x l ih =>
    obtain ⟨⟨p, r, i, out, heq⟩, -⟩ := State.issue_journals
      (s := { s with gcx := { s.gcx with sweepRecs := s.gcx.sweepRecs.insert s.nextJseq } }) hp (.mapDelta (ds x)) (n x) (o x)
    intro t
    have hadm := State.admittedPend_congr (s := s) (t := State.issue _ (.mapDelta (ds x)) (n x) (o x)) (by rw [heq]) Blk.PJM
    have hrest := ih (hadm.trans hp)
    have hgcx : (State.issue { s with gcx := { s.gcx with sweepRecs := s.gcx.sweepRecs.insert s.nextJseq } } (.mapDelta (ds x)) (n x)
        (o x)).gcx = { s.gcx with sweepRecs := s.gcx.sweepRecs.insert s.nextJseq } := by rw [heq]
    refine hrest.trans ?_
    rw [hgcx]
    rfl

/-- A sweep begins: one pass more, and the relocation table as it was (R323). -/
theorem State.refSweep_begins {s : State} (he : s.rdb Fld.GCX_CTRL_ENABLE = true) (hs : s.gcx.sweeping = false)
    (hp : s.admittedPend Blk.PJM = false) :
    s.refSweep.gcx.passes = s.gcx.passes + 1 ∧ s.refSweep.gcx.sweeping = true ∧ s.refSweep.gcx.table = s.gcx.table := by
  have hgo : (!s.rdb Fld.GCX_CTRL_ENABLE || s.gcx.sweeping) = false := by rw [he, hs]; rfl
  simp only [State.refSweep, hgo, Bool.false_eq_true, if_false]
  have hp' : State.admittedPend { s with gcx := { s.gcx with passes := s.gcx.passes + 1, sweeping := true, sweepRecs := [] } } Blk.PJM =
    false := hp
  generalize hl : List.foldl _ [] _ = l
  rw [State.sweepIssues_gcx l _ _ _ hp']
  exact ⟨rfl, rfl, rfl⟩

/-- Bands set free to erase one after the other: one that is named is free, as it otherwise was. -/
theorem State.modBands_erasable {s : State} {k : Nat} {b : Band} (l : List Nat) (hb : s.str.bands.look k = some b)
    (h : k ∈ l ∨ b.st = .erasable) :
    (l.foldl (fun s bk => s.modBand bk (fun b => { b with st := .erasable })) s).str.bands.look k = some { b with st := .erasable } := by
  induction l generalizing s b with
  | nil =>
    rcases h with h | h
    · simp at h
    · rw [List.foldl_nil, hb, ← h]
  | cons x l ih =>
    rw [List.foldl_cons]
    by_cases hx : x = k
    · subst hx
      have hlook : (s.modBand x (fun b => { b with st := .erasable })).str.bands.look x = some { b with st := .erasable } := by
        rw [State.bands_modBand_self, hb]; rfl
      exact ih (b := { b with st := .erasable }) hlook (.inr rfl)
    · have hlook : (s.modBand x (fun b => { b with st := .erasable })).str.bands.look k = some b := by
        rw [State.modBand, Assoc.look_modify, if_neg (Ne.symm hx)]
        exact hb
      refine ih hlook ?_
      rcases h with h | h
      · exact .inl ((List.mem_cons.1 h).resolve_left (Ne.symm hx))
      · exact .inr h

theorem Assoc.mem_of_look {α : Type} {m : Assoc α} {k : Nat} {v : α} (h : m.look k = some v) : (k, v) ∈ m := by
  induction m with
  | nil => simp at h
  | cons e t ih =>
    rw [Assoc.look_cons] at h
    split at h
    · next hk =>
      rw [← Option.some.inj h, hk]
      exact List.mem_cons_self
    · exact List.mem_cons_of_mem _ (ih h)

/-- A pass with its records persistent ends: a band HELD before it began is free to erase (R323). -/
theorem State.refSweepEnd_frees {s : State} {k : Nat} {b : Band} (hs : s.gcx.sweeping = true) (hr : s.gcx.sweepRecs = [])
    (hb : s.str.bands.look k = some b) (hst : b.st = .held) (hpass : b.heldPass < s.gcx.passes) :
    s.refSweepEnd.gcx.sweeping = false ∧ s.refSweepEnd.str.bands.look k = some { b with st := .erasable } ∧
      s.refSweepEnd.rd Fld.GCX_SWEEP_PASSES_COUNT = satAdd 32 (s.rd Fld.GCX_SWEEP_PASSES_COUNT) 1 := by
  have hgo : (!s.gcx.sweeping || s.gcx.sweepRecs != []) = false := by rw [hs, hr]; rfl
  simp only [State.refSweepEnd, hgo, Bool.false_eq_true, if_false]
  refine ⟨trivial, ?_, ?_⟩
  · refine State.modBands_erasable (s := s.bump Fld.GCX_SWEEP_PASSES_COUNT) _ hb (.inl ?_)
    refine List.mem_map.2 ⟨(k, b), List.mem_filter.2 ⟨Assoc.mem_of_look hb, ?_⟩, rfl⟩
    show (b.st == BandSt.held && decide (b.heldPass < s.gcx.passes)) = true
    simp [hst, hpass]
  · show State.rd (List.foldl (fun s bk => State.modBand s bk _) _ _) _ = _
    rw [(State.modBands_frame _ _ _).rd_apart (by simp)]
    exact State.rd_bump_self s Fld.GCX_SWEEP_PASSES_COUNT 1 0

/-- Settles O43. -/
theorem bandsAreReclaimed : Obligations.BandsAreReclaimed := by
  unfold Obligations.BandsAreReclaimed
  refine ⟨?victim, ?claimEmpty, ?claimOne, ?record, ?persist, ?erase, ?sweep, ?sweepEnd, ?rescore, ?fold⟩
  case victim =>
    intro s k b l hp he hw hk hb ht hf
    refine Completes.of_effect (congrArg ended (State.victimChoice_asked hp he hw hk hb ht hf)) ⟨?_, ?_, rfl⟩
    · show (s.modBand k _).str.bands.look k = _
      rw [State.bands_modBand_self, hb]
      rfl
    · intro w hw'
      have hband := (List.mem_filter.1 hw').2
      exact bne_iff_ne.1 hband
  case claimEmpty =>
    intro s k b l hb hst ho hlive
    have heq : s.relocationClaim k l = s.modBand k (fun b => { b with st := .copied }) := by
      simp only [State.relocationClaim, hb, hst, ho, decide_true, Bool.and_self, if_true, State.relocate_empty .reloc l hlive]
    refine Completes.of_effect (congrArg ended heq) ⟨?_, rfl⟩
    rw [State.bands_modBand_self, hb]
    rfl
  case claimOne =>
    intro s k src d b c a y hb hst ho hlive hmoves hpg hband hy hkind hyst hfull hidx hdedup hdst
    obtain ⟨y', pgs, table, hcopy⟩ := State.copyChunk_plain hlive hmoves hpg hband hy hkind hyst hfull hidx hdedup hdst
    have hall : ((s.withMove a y' pgs table src (movedTo src d) c).liveChunks k).all
        (fun e => (s.withMove a y' pgs table src (movedTo src d) c).gcx.moves.any (fun x => x.src == e.1)) = true := by
      rw [State.liveChunks_withMove _ _ _ _ _ hband hdst, hlive]
      simp [State.withMove, State.bump]
    have heq : s.relocationClaim k [(src, a, d)] =
        (s.withMove a y' pgs table src (movedTo src d) c).modBand k (fun b => { b with st := .copied }) := by
      simp only [State.relocationClaim, hb, hst, ho, decide_true, Bool.and_self, if_true, State.relocate, List.foldl_cons, List.foldl_nil, hcopy,
        hall]
    refine Completes.of_effect (congrArg ended heq) ⟨?_, Assoc.look_put_self _ _ _, State.rd_bump_self _ Fld.GCX_STAT_RELOC_BYTES _ 0⟩
    rw [State.bands_modBand_self]
    show Option.map _ (s.str.bands.look k) = _
    rw [hb]
    rfl
  case record =>
    intro s k h y m e c hy hkind hst hmoves hk hrec hidx hc hp
    obtain ⟨v, n, o, hv, heq⟩ := State.relocRecord_indexed hy hkind hst hmoves hk hrec hidx hc
    have hadm : v.adm = s.adm := by rw [hv.1]
    have hpend : v.admittedPend Blk.PJM = false := (State.admittedPend_congr hadm _).trans hp
    have hjseq : v.nextJseq = s.nextJseq := hv.rd_apart (by simp)
    obtain ⟨r, hr, hbody⟩ := State.issue_look hpend (.mapDelta
      [{ kind := 5, reloc := true, nsid := c.nsid, laddr := h, addr := m.dst, wseq := c.wseq, pg := c.pg }]) n o
    obtain ⟨⟨_, _, _, _, hissue⟩, -⟩ := State.issue_journals hpend (.mapDelta
      [{ kind := 5, reloc := true, nsid := c.nsid, laddr := h, addr := m.dst, wseq := c.wseq, pg := c.pg }]) n o
    refine Completes.of_effect (congrArg ended heq) ⟨?_, r, by rw [← hjseq]; exact hr, hbody⟩
    rw [hissue]
    show v.gcx.moves = _
    rw [hv.1]
  case persist =>
    intro s k b hb hst hwaits hpins htable hrec
    refine Completes.of_effect (congrArg ended (State.relocPersist_free hb hst hwaits hpins htable hrec)) ⟨rfl, ?_, _, Assoc.look_put_self _ _ _, rfl⟩
    intro m hm
    exact bne_iff_ne.1 (List.mem_filter.1 hm).2
  case erase =>
    intro s k b hb hst ho hlive hm hbad
    have heq : s.bandErase k = s.eraseBand k := by
      simp only [State.bandErase, hb, hst, ho, hlive, beq_self_eq_true, Bool.true_or, Bool.and_self, if_true]
    exact Completes.of_effect (congrArg ended heq) (State.eraseBand_spec hb (by rw [hst]; decide) hm hbad)
  case sweep =>
    intro s he hs hp
    exact Completes.of_effect (u := s.refSweep) rfl (State.refSweep_begins he hs hp)
  case sweepEnd =>
    intro s k b hs hr hb hst hpass
    exact Completes.of_effect (u := s.refSweepEnd) rfl (State.refSweepEnd_frees hs hr hb hst hpass)
  case rescore =>
    intro s k b he hbands hkind hk hstripes hlive hm hbad
    have hb : s.str.bands.look k = some b := by rw [hbands, Assoc.look_cons, if_pos rfl]
    have heq : s.rescore = s.eraseBand k := by
      simp [State.rescore, he, hbands, hkind, hk, hstripes, hlive]
    obtain ⟨hchunks, -, -, herasing⟩ := State.eraseBand_spec hb (by rw [State.eligible_inUse hk hb]; decide) hm hbad
    exact Completes.of_effect (congrArg ended heq) ⟨hchunks, herasing⟩
  case fold =>
    intro s k b l hbands hst hslc hkind ho hlive
    have hb : s.str.bands.look k = some b := by rw [hbands, Assoc.look_cons, if_pos rfl]
    have hfirst : s.str.bands.first? (fun k b => b.st == .claimed && b.slc && b.kind == .buffer && s.ownsPg (k % 65536)) = some (k, b) := by
      simp [Assoc.first?, hbands, hst, hslc, hkind, ho]
    have heq : s.foldBand l = s.modBand k (fun b => { b with st := .copied }) := by
      simp only [State.foldBand, hfirst, State.relocate_empty .fold _ hlive]
    refine Completes.of_effect (congrArg ended heq) ⟨?_, rfl⟩
    rw [State.bands_modBand_self, hb]
    rfl

end Sys2Proof.Machine
end

section
-- One proof at a time: elaborated side by side, the one-file compile runs out of threads.
set_option Elab.async false
/-! PROOFS. KVS: the commands of an Enore session, read, routed and run (R334, R337 to R344). -/
namespace Sys2Proof.Machine

open Sys2Proof

/-! ## The end of a command -/

/-- A command that ends touches windows and sessions alone. -/
theorem State.enoreEnd_frame (s : State) (k n : Nat) (r : SessResp) :
    s.enoreEnd k n r = { s with wins := (s.enoreEnd k n r).wins, kvs := (s.enoreEnd k n r).kvs } := by
  unfold State.enoreEnd
  split
  · rfl
  · split
    · rfl
    · dsimp only
      split
      · unfold State.modWin
        split <;> rfl
      · rfl

/-- Its response waits, for its sequence number and with its status (R342). -/
theorem State.enoreEnd_ends {s : State} {k n : Nat} {x : Sess} {c : SessCmd} (hx : s.sess k = some x) (hc : x.cmds.look n = some c)
    (r : SessResp) : (s.enoreEnd k n r).EnoreEnds k c.e.seq r.status := by
  unfold State.enoreEnd
  rw [hx]
  dsimp only
  rw [hc]
  exact ⟨_, _, State.sess_setSess_self _ _ _, List.mem_append_left _ (List.mem_append_right _ (List.mem_singleton.2 rfl)), rfl, rfl⟩

/-- A command answered: its response waits, and the map stands. -/
theorem State.answer_enore {s : State} {k n : Nat} {x : Sess} {c : SessCmd} (hx : s.sess k = some x) (hc : x.cmds.look n = some c)
    (a : Answer) : (s.answer (.enore k n) a).map = s.map ∧ (s.answer (.enore k n) a).EnoreEnds k c.e.seq a.status := by
  simp only [State.answer, hx, hc]
  split
  · refine ⟨?_, State.enoreEnd_ends (by rw [State.roceSend_frame]; exact hx) hc _⟩
    rw [State.enoreEnd_frame, State.roceSend_frame]
    rfl
  · refine ⟨?_, State.enoreEnd_ends hx hc _⟩
    rw [State.enoreEnd_frame]

/-! ## What a read answers does not rest on the sessions -/

/-- The state with other sessions. -/
def State.withSessions (s : State) (l : Assoc Sess) : State := { s with kvs := { s.kvs with sessions := l } }

section
variable (s : State) (l : Assoc Sess)

@[simp] theorem State.leafAt_withSessions (nsid tree laddr : Nat) (cut : Option Nat) :
    (s.withSessions l).leafAt nsid tree laddr cut = s.leafAt nsid tree laddr cut := by
  have hin : ∀ fuel nsid cut, (s.withSessions l).leafIn tree laddr fuel nsid cut = s.leafIn tree laddr fuel nsid cut := by
    intro fuel
    induction fuel with
    | zero => exact fun _ _ => rfl
    | succ fuel ih =>
      intro nsid cut
      simp only [State.leafIn, ih]
      rfl
  exact hin _ _ _

@[simp] theorem State.kvRead_withSessions (nsid pg key keyLen : Nat) :
    (s.withSessions l).kvRead nsid pg key keyLen = s.kvRead nsid pg key keyLen := by
  have hin : ∀ fuel nsid cut, (s.withSessions l).kvIn pg key keyLen fuel nsid cut = s.kvIn pg key keyLen fuel nsid cut := by
    intro fuel
    induction fuel with
    | zero => exact fun _ _ => rfl
    | succ fuel ih =>
      intro nsid cut
      simp only [State.kvIn, ih]
      rfl
  simp only [State.kvRead, State.kvAt, hin]
  rfl

theorem State.readNow_withSessions (nsid : Nat) (r : ReadOf) : (s.withSessions l).readNow nsid r = s.readNow nsid r := by
  cases r with
  | blocks lba n =>
    simp only [State.readNow, State.readBlocks, State.leafAt_withSessions]
    rfl
  | get key keyLen len =>
    simp only [State.readNow, State.kvRead_withSessions, State.valueOf, State.leafAt_withSessions]
    rfl
  | exist key keyLen =>
    simp only [State.readNow, State.kvRead_withSessions]
    rfl
  | list l => rfl

theorem State.pagesOf_withSessions (nsid : Nat) (r : ReadOf) : (s.withSessions l).pagesOf nsid r = s.pagesOf nsid r := by
  cases r with
  | blocks lba n =>
    simp only [State.pagesOf, State.leafAt_withSessions]
    rfl
  | get key keyLen len =>
    simp only [State.pagesOf, State.kvRead_withSessions, State.leafAt_withSessions]
    rfl
  | exist key keyLen => rfl
  | list l => rfl

end

/-! ## A command runs -/

/-- The session with one of its commands begun. -/
def Sess.begin (x : Sess) (n : Nat) : Sess := { x with cmds := x.cmds.modify n (fun c => { c with started := true }) }

/-- The head with a session's command begun. -/
def State.begun (s : State) (k n : Nat) (x : Sess) : State := s.setSess k (Sess.begin x n)

@[simp] theorem Sess.begin_look {x : Sess} {n : Nat} {c : SessCmd} (h : x.cmds.look n = some c) :
    (Sess.begin x n).cmds.look n = some { c with started := true } := by
  rw [Sess.begin, Assoc.look_modify_self, h]
  rfl

@[simp] theorem State.sess_begun (s : State) (k n : Nat) (x : Sess) : (s.begun k n x).sess k = some (Sess.begin x n) :=
  State.sess_setSess_self _ _ _

theorem State.begun_eq (s : State) (k n : Nat) (x : Sess) :
    s.begun k n x = s.withSessions (s.kvs.sessions.put k (Sess.begin x n)) := rfl

/-- A command that may run begins, and its operation runs (R334, R337). -/
theorem State.enoreRun_go {s : State} {k n opcode : Nat} {x : Sess} {c : SessCmd} (h : s.EnoreGo k n x c opcode)
    (run : State → Sess → EnoreRec → State) : s.enoreRun k n opcode run = run (s.begun k n x) x c.e := by
  obtain ⟨hx, hc, hrouted, hfollows, hstarted, hop⟩ := h
  simp only [State.enoreRun, State.sessCmd, hx, hc, Option.map_some, hrouted, hfollows, hstarted, hop, bne_self_eq_false, Bool.not_true,
    Bool.or_self, Bool.false_eq_true, if_false, State.modCmd]
  rfl

/-- A read that the head serves is served so once the command has begun (R340). -/
theorem State.readCmd_begun {s : State} {k n opcode nsid : Nat} {x : Sess} {c : SessCmd} {r : ReadOf} (h : s.EnoreGo k n x c opcode)
    (hserves : s.ServesRead (.enore k n) nsid r) :
    ((s.begun k n x).readCmd (.enore k n) nsid r true false).map = s.map ∧
      ((s.begun k n x).readCmd (.enore k n) nsid r true false).EnoreEnds k c.e.seq (s.readNow nsid r).status := by
  obtain ⟨hx, hc, -, -, -, -⟩ := h
  obtain ⟨hgate, hset, hpages⟩ := hserves
  have hhost : (s.begun k n x).hostOf (.enore k n) = s.hostOf (.enore k n) := by
    simp only [State.hostOf, State.sess_begun, hx]
    rfl
  have hserved : (s.begun k n x).ServesRead (.enore k n) nsid r := by
    refine ⟨State.deferGate_eq_none.2 fun h' hs => ?_, hset, fun p hp => ?_⟩
    · exact State.deferGate_eq_none.1 hgate h' (hhost ▸ hs)
    · rw [State.begun_eq, State.pagesOf_withSessions] at hp
      exact hpages p hp
  rw [State.readCmd_served hserved, State.begun_eq, State.readNow_withSessions, ← State.begun_eq]
  exact State.answer_enore (State.sess_begun _ _ _ _) (Sess.begin_look hc) _

/-- A write of a command that has begun starts. -/
theorem State.starts_begun (s : State) (k n tenant : Nat) (x : Sess) (r : WriteReq) :
    s.Starts ((s.begun k n x).startWrite (.enore k n) tenant r) (.enore k n) r.kind r.nsid r.key r.keyLen :=
  ⟨rfl, rfl, rfl, _, State.startWrite_look (s.begun k n x) _ _ _, rfl, rfl, rfl, rfl, rfl, rfl⟩

/-- STATE alone in its session reports the window with no command open (R344). -/
theorem State.enoreState_reports {s : State} {k n : Nat} {x : Sess} {c : SessCmd} (h : s.EnoreGo k n x c opState) (hone : x.cmds = [(n, c)])
    (hlen : 160 ≤ c.e.len) :
    s.enoreState k n true = (((s.begun k n x).emit (.enoreData k c.e.addr
      [stateRecord (s.wins.getD (winSession k) (RWin.fresh 64 0 0)) []])).roceSend x.qp 160).enoreEnd k n
        { respOf STS_OK with vlen := 160, written := 160 } := by
  obtain ⟨hx, hc, -, -, -, hop⟩ := id h
  have hdecided : x.cmds.all (fun e => s.cmdDecided k e.1 e.2) = true := by
    simp [hone, State.cmdDecided, hop]
  have hlive : x.cmds.filter (fun c => c.2.routed && !c.2.follows && c.2.e.opcode != opState && c.2.e.opcode != opClose) = [] := by
    simp [hone, hop]
  simp only [State.enoreState, State.sessCmd, hx, hc, Option.map_some, hdecided, Bool.not_true, Bool.false_eq_true, if_false,
    State.enoreRun_go h, Nat.not_lt.2 hlen, hlive, List.map_nil, List.filter_nil, List.foldl_nil]
  rfl

/-! ## A record is read and routed -/

/-- A command as it is read from its slot (R337). -/
def readCmdOf (slot : Nat) (e : EnoreRec) : SessCmd :=
  { slot := slot, e := e, replayed := false, follows := false, stores := false, routed := false, started := false, owner := 0 }

/-- The session with one more command, the last thing it was used for. -/
def Sess.adds (x : Sess) (c : SessCmd) (now : Nat) : Sess :=
  { x with cmds := x.cmds.put x.nextCmd c, nextCmd := x.nextCmd + 1, lastUse := now }

/-- One record in a slot that is not busy is read, its epoch noted, and routed (R337, R338). -/
theorem State.commandImmediate_one {s : State} {k imm : Nat} {x : Sess} (e : EnoreRec) (hk : s.enabled Blk.KVS = true)
    (hx : s.sess k = some x) (ha : x.attached = true) (hp : s.admittedPend Blk.KVS = false) (hi : imm / 65536 % 256 = 0)
    (hb : x.busy (imm % 4096 % 2 ^ x.slotsLog2) = false) :
    s.commandImmediate k imm [e] = State.enoreRoute
      ((s.setSess k (Sess.adds x (readCmdOf (imm % 4096 % 2 ^ x.slotsLog2) e) s.now)).noteEpoch e.epoch) k x.nextCmd := by
  have hsize : ¬ 2 ^ x.slotsLog2 < 0 + 1 := Nat.not_lt.2 Nat.one_le_two_pow
  simp only [State.commandImmediate, hx, hk, ha, Bool.not_true, Bool.or_self, Bool.false_eq_true, if_false, State.boundary_eq hp, hi,
    List.range_one, zero_add, List.map_cons, List.map_nil, Nat.add_zero, List.any_cons, List.any_nil, hb,
    Bool.false_or, decide_eq_true_eq, if_neg hsize, List.zip_cons_cons, List.zip_nil_left, List.length_cons, List.length_nil,
    List.foldl_cons, List.foldl_nil, List.zipIdx_cons, List.zipIdx_nil, List.take_succ_cons, List.take_zero, Nat.add_sub_cancel, Sess.adds]
  rfl

/-- A command changed is a change of its session. -/
theorem State.modCmd_eq {s : State} {k : Nat} {x : Sess} (hx : s.sess k = some x) (n : Nat) (f : SessCmd → SessCmd) :
    s.modCmd k n f = s.setSess k { x with cmds := x.cmds.modify n f } := by
  simp only [State.modCmd, hx]

/-- A record that nothing is found wrong with names a key, unless it is a LIST (Table 15.4). -/
theorem State.key_of_recordStatus {s : State} {x : Sess} {e : EnoreRec} (h : s.recordStatus x e = none) (ho : e.opcode ≠ opList) :
    e.keyLen ≠ 0 := by
  intro hz
  unfold State.recordStatus at h
  split at h
  · simp at h
  · split at h
    · simp at h
    · simp [hz, ho] at h

/-- A PUT of a key that lives here, of an epoch not ahead and a sequence number still free, is taken and may run (R334). -/
theorem State.enoreRoute_put {u : State} {k n : Nat} {x : Sess} {c : SessCmd} {w : RWin} (hx : u.sess k = some x)
    (hc : x.cmds.look n = some c) (hr : c.routed = false) (hop : c.e.opcode = opPut) (he : c.e.epoch ≤ u.rd Fld.KVS_EPOCH_EPOCH)
    (hs : u.recordStatus x c.e = none) (hhere : u.KeyHere c.e.nsid c.e.key c.e.keyLen) (hw : u.wins.look (winSession k) = some w)
    (hj : w.judge c.e.seq = .free) :
    u.enoreRoute k n = ((u.kvHeat c.e.nsid c.e.key c.e.keyLen).setWin (winSession k)
      ((w.take c.e.seq).mark c.e.seq (u.bucketOf c.e.nsid c.e.key c.e.keyLen))).setSess k
        { x with cmds := x.cmds.modify n (fun c => { c with routed := true, stores := true, replayed := false }) } := by
  have hkey : c.e.keyLen ≠ 0 := State.key_of_recordStatus hs (by rw [hop]; decide)
  have hother : ¬ (c.e.opcode = opState ∨ c.e.opcode = opClose) := by rw [hop]; decide
  have hheld : u.cmdHeld c.e = false := by rw [State.cmdHeld, if_neg hkey]; exact hhere.2
  have howner : u.cmdOwner x c.e = (u, u.arrayId) := by rw [State.cmdOwner, if_neg hkey, State.ownerArray_here hhere]
  have hchanges : enoreChanges c.e.opcode = true := by rw [hop]; decide
  have hx' : (u.kvHeat c.e.nsid c.e.key c.e.keyLen).sess k = some x := hx
  have hw' : (u.kvHeat c.e.nsid c.e.key c.e.keyLen).wins.getD (winSession k) (RWin.fresh 64 0 0) = w :=
    congrArg (fun o => Option.getD o _) hw
  have hroute : u.enoreRoute k n = (u.kvHeat c.e.nsid c.e.key c.e.keyLen).enoreJudge k n c := by
    simp only [State.enoreRoute, State.sessCmd, hx, hc, Option.map_some, hr, Nat.not_lt.2 he, decide_false, Bool.false_and, Bool.or_self,
      Bool.false_eq_true, if_false, hother, hs, howner, ne_eq, not_true_eq_false, hheld, hkey]
  rw [hroute]
  simp only [State.enoreJudge, hw', hj, hchanges, if_true]
  exact State.modCmd_eq (s := (u.kvHeat c.e.nsid c.e.key c.e.keyLen).setWin _ _) hx' n _

/-- A field whose table begins after another field lies apart from it at every row. -/
theorem Field.key_ne_of_lt {f g : Field} (h : f.key 0 0 < g.key 0 0) (i j : Nat) : g.key i j ≠ f.key 0 0 := by
  have hle : g.key 0 0 ≤ g.key i j := by
    simp only [Field.key]
    omega
  omega

/-- The rows of a field whose table ends before another field lie apart from it. -/
theorem Field.key_ne_of_table_le {f g : Field} {n i : Nat} (hs : 0 < g.stride) (h : g.key 0 0 + n * g.stride ≤ f.key 0 0) (hi : i < n) :
    g.key i 0 ≠ f.key 0 0 := by
  have hle : i * g.stride < n * g.stride := Nat.mul_lt_mul_of_pos_right hi hs
  simp only [Field.key] at h ⊢
  omega

/-- The buffer quota of a tenant does not rest on whether the epoch in force is the newest known (R83). -/
theorem State.hasQuota_epochSync (s : State) (tenant : Nat) : s.epochSync.hasQuota tenant = s.hasQuota tenant := by
  refine congrArg (· != []) (congrArg (List.map Prod.fst) ?_)
  rw [State.epochSync, State.wrb_eq, State.listed_wr _ _ _ _ (by decide) (by decide)]
  refine List.filter_congr fun e he => ?_
  rw [State.rd_wr_ne _ _ _ _ _ _ _ _ (Field.key_ne_of_table_le (by decide) (by decide) (State.listed_lt he))]

/-- What is found wrong with a record does not rest on what its session holds, nor on the epochs known (R334). -/
theorem State.recordStatus_noteEpoch (s : State) (k epoch now : Nat) (x y : Sess) (c : SessCmd) (e : EnoreRec) :
    ((s.setSess k y).noteEpoch epoch).recordStatus (Sess.adds x c now) e = s.recordStatus x e := by
  unfold State.recordStatus State.noteEpoch
  simp only [State.hasQuota_epochSync]
  rfl

/-- A key that lives here does so still once a session is set and an epoch noted. -/
theorem State.keyHere_noteEpoch {s : State} {nsid key keyLen : Nat} (h : s.KeyHere nsid key keyLen) (k e : Nat) (x : Sess) :
    ((s.setSess k x).noteEpoch e).KeyHere nsid key keyLen := by
  obtain ⟨hplace, hheld⟩ := h
  have hrd : ∀ g : Field, ∀ i, g.key i 0 ≠ Fld.KVS_STATUS_EPOCH_SYNCED.key 0 0 → ((s.setSess k x).noteEpoch e).rd g i = s.rd g i :=
    fun g i hg => State.rd_wr_ne _ _ _ _ _ _ _ _ hg
  refine ⟨fun hc => ⟨?_, ?_⟩, ?_⟩
  · refine Eq.trans ?_ (hplace hc).1
    refine congrArg (fun p => List.find? p (List.range 16)) (funext fun t => ?_)
    rw [State.tblOn, State.tblOn, State.rdb, State.rdb, hrd _ _ (Field.key_ne_of_lt (by decide) t 0), hrd _ _ (Field.key_ne_of_lt (by decide) t 0)]
  · exact (hplace hc).2.trans (congrArg (· / 2) (hrd _ _ (by decide)).symm)
  · refine Eq.trans ?_ hheld
    unfold State.rangeHeld
    rw [hrd _ _ (by decide)]
    rfl

/-- Settles O45. -/
theorem enoreCommandsRun : Obligations.EnoreCommandsRun := by
  unfold Obligations.EnoreCommandsRun
  refine ⟨?immediate, ?put, ?delete, ?get, ?list, ?exist, ?state, ?close⟩
  case immediate =>
    intro s k imm e x w hk hx ha hp hi hb hop he hs hhere hw hj
    have hread : (Sess.adds x (readCmdOf (imm % 4096 % 2 ^ x.slotsLog2) e) s.now).cmds.look x.nextCmd =
        some (readCmdOf (imm % 4096 % 2 ^ x.slotsLog2) e) := Assoc.look_put_self _ _ _
    have hrouted : ((Sess.adds x (readCmdOf (imm % 4096 % 2 ^ x.slotsLog2) e) s.now).cmds.modify x.nextCmd
        (fun c => { c with routed := true, stores := true, replayed := false })).look x.nextCmd =
        some { readCmdOf (imm % 4096 % 2 ^ x.slotsLog2) e with routed := true, stores := true } := by
      rw [Assoc.look_modify_self, hread]
      rfl
    have hepoch : e.epoch ≤ ((s.setSess k (Sess.adds x (readCmdOf (imm % 4096 % 2 ^ x.slotsLog2) e) s.now)).noteEpoch e.epoch).rd
        Fld.KVS_EPOCH_EPOCH := by
      rw [State.noteEpoch, State.rd_epoch_epochSync]
      exact he
    have heq := (State.commandImmediate_one e hk hx ha hp hi hb).trans
      (State.enoreRoute_put (State.sess_setSess_self _ _ _) hread rfl hop hepoch ((State.recordStatus_noteEpoch _ _ _ _ _ _ _ _).trans hs)
        (State.keyHere_noteEpoch hhere _ _ _) hw hj)
    exact Completes.of_effect (congrArg ended heq) ⟨Assoc.look_put_self _ _ _, _,
      { readCmdOf (imm % 4096 % 2 ^ x.slotsLog2) e with routed := true, stores := true }, State.sess_setSess_self _ _ _, rfl,
      hrouted, rfl, rfl, rfl, rfl⟩
  case put =>
    intro s k n v x c h
    exact Completes.of_effect (congrArg ended (State.enoreRun_go h _)) (State.starts_begun s k n _ x _)
  case delete =>
    intro s k n x c h
    exact Completes.of_effect (congrArg ended (State.enoreRun_go h _)) (State.starts_begun s k n _ x _)
  case get =>
    intro s k n x c h hserves
    exact Completes.of_effect (congrArg ended (State.enoreRun_go h _)) (State.readCmd_begun h hserves)
  case list =>
    intro s k n x c l h hl hserves
    subst hl
    exact Completes.of_effect (congrArg ended (State.enoreRun_go h _)) (State.readCmd_begun h hserves)
  case exist =>
    intro s k n x c h hserves
    exact Completes.of_effect (congrArg ended (State.enoreRun_go h _)) (State.readCmd_begun h hserves)
  case state =>
    intro s k n x c h hone hlen
    obtain ⟨hx, hc, -⟩ := id h
    refine Completes.of_effect (congrArg ended (State.enoreState_reports h hone hlen)) ⟨?_, ?_⟩
    · refine State.enoreEnd_ends (c := { c with started := true }) ?_ (Sess.begin_look hc) _
      rw [State.roceSend_frame]
      exact State.sess_begun s k n x
    · rw [State.enoreEnd_frame, State.roceSend_frame]
      exact List.mem_cons_self
  case close =>
    intro s k n x c h
    obtain ⟨hx, hc, -⟩ := id h
    refine Completes.of_effect (congrArg ended (State.enoreRun_go h _)) ⟨State.enoreEnd_ends (State.sess_begun _ _ _ _) (Sess.begin_look hc) _, ?_⟩
    rw [State.enoreEnd_frame]
    rfl

end Sys2Proof.Machine
end

section
-- One proof at a time: elaborated side by side, the one-file compile runs out of threads.
set_option Elab.async false
/-! PROOFS. KVS: a Caravan through its phases, at its source and at its target (R349 to R354). -/
namespace Sys2Proof.Machine

open Sys2Proof

/-! ## Registers just written -/

theorem State.rd_of_regs_put {t : State} {r : Assoc Nat} {f : Field} {v : Nat} (h : t.regs = putField r f v 0 0)
    (hv : v < 2 ^ f.width := by decide) : t.rd f = v :=
  ((congrArg (fun r => Assoc.getD r (f.key 0 0) f.reset) h).trans (getD_putField_self r f v 0 0)).trans (Nat.mod_eq_of_lt hv)

/-! ## What a balancing round ranks does not rest on the heats -/

/-- The state with the heats of the buckets cleared (R349). -/
def State.cooled (s : State) : State := { s with kvs := { s.kvs with heat := [] } }

/-- A commit of MTE touches nothing besides its registers. -/
theorem State.afterCommit_mte (s old : State) (vals : Assoc Nat) : s.afterCommit old Blk.MTE vals = s := by
  simp [State.afterCommit]

theorem State.applyValues_cooled (s : State) (vals : Assoc Nat) : s.cooled.applyValues vals = (s.applyValues vals).cooled := rfl

theorem State.unpend_cooled (s : State) (b : Nat) : s.cooled.unpend b = (s.unpend b).cooled := rfl

theorem State.boundary_cooled (s : State) : s.cooled.boundary Blk.MTE = (s.boundary Blk.MTE).cooled := by
  by_cases h : s.admittedPend Blk.MTE = true
  · have h' : s.cooled.admittedPend Blk.MTE = true := h
    rw [State.boundary, State.boundary, if_pos h', if_pos h]
    simp only [State.applyCommit, State.afterCommit_mte]
    have hlatched : s.cooled.latched = s.latched := rfl
    rw [hlatched, State.applyValues_cooled, State.unpend_cooled]
    generalize (s.applyValues (blockEntries s.latched Blk.MTE)).unpend Blk.MTE = u
    generalize activeGenField Blk.MTE = g
    cases g <;> rfl
  · rw [State.boundary_eq (Bool.eq_false_iff.2 h), State.boundary_eq (Bool.eq_false_iff.2 h : s.cooled.admittedPend Blk.MTE = false)]

theorem State.bump_cooled (s : State) (f : Field) : s.cooled.bump f = (s.bump f).cooled := rfl

theorem State.mteSearch_cooled (s : State) (b t key : Nat) :
    s.cooled.mteSearch b t key = ((s.mteSearch b t key).1.cooled, (s.mteSearch b t key).2) := by
  have hrd : ∀ u : State, u.cooled.rd Fld.MTE_TBL_CFG_CONSUMER t = u.rd Fld.MTE_TBL_CFG_CONSUMER t := fun _ => rfl
  have hfind : ∀ u : State, u.cooled.mteFind t key = u.mteFind t key := fun _ => rfl
  simp only [State.mteSearch, State.boundary_cooled, hrd, hfind, State.bump_cooled]
  split
  · rfl
  · split <;> rfl

theorem State.override_cooled (s : State) (tenant nsid key keyLen b : Nat) :
    (s.cooled.override tenant nsid key keyLen b).2 = (s.override tenant nsid key keyLen b).2 := by
  unfold State.override
  rw [show s.cooled.mteTable Blk.KVS = s.mteTable Blk.KVS from rfl]
  cases s.mteTable Blk.KVS with
  | none => rfl
  | some t =>
    simp only [State.mteSearch_cooled]
    generalize s.mteSearch Blk.KVS t (overrideKey tenant nsid key keyLen) = q
    split
    · rfl
    · split
      · rfl
      · split
        · rw [show q.1.cooled.adm = q.1.adm from rfl]
          split <;> rfl
        · rfl

theorem State.bucketBytes_cooled (s : State) : s.cooled.bucketBytes = s.bucketBytes := by
  have hover : ∀ nsid key keyLen, s.cooled.overridden nsid key keyLen = s.overridden nsid key keyLen := by
    intro nsid key keyLen
    unfold State.overridden
    simp only [State.override_cooled]
    rfl
  simp only [State.bucketBytes, hover]
  rfl

/-! ## The source -/

/-- A Caravan that starts is proposed to its target (Table 15.6). -/
theorem State.caravanStart_spec {s : State} {peer b : Nat} {l : List Nat} (hp : peer ≠ s.arrayId) :
    (s.caravanStart peer (b :: l)).rd Fld.KVS_STATUS_OUT_PHASE = 1 ∧
      ∃ c, (s.caravanStart peer (b :: l)).kvs.outC = some c ∧ c.peer = peer ∧ c.buckets = b :: l := by
  have hgo : ¬ (b :: l = [] ∨ peer = s.arrayId) := by simp [hp]
  rw [State.caravanStart, if_neg hgo]
  refine ⟨?_, _, rfl, rfl, rfl⟩
  show State.rd (State.wr (State.wr (State.wr (State.wr _ Fld.KVS_STATUS_OUT_PHASE 1) Fld.KVS_CARAVAN_STATE_PEER peer)
    Fld.KVS_CARAVAN_STATE_BUCKETS (b :: l).length) Fld.KVS_CARAVAN_STATE_EPOCH 0) Fld.KVS_STATUS_OUT_PHASE = 1
  rw [State.rd_wr_other _ _ (by decide), State.rd_wr_other _ _ (by decide), State.rd_wr_other _ _ (by decide), State.rd_wr_self]
  rfl

/-- A round in which the fill of this array lies above the mean by more than the skew starts a Caravan to the emptiest one (R349). -/
theorem State.balancingRound_skewed {s : State} {mf : Nat} (mh a h : Nat) (he : s.enabled Blk.KVS = true)
    (hside : (s.aon.side == .b && s.linkUp) = false) (hb : s.rdb Fld.KVS_CTRL_BAL_EN = true) (ho : s.kvs.outC = none)
    (hf : mf + s.rd Fld.KVS_BAL_SKEW_PCT * 10000 < s.fillPpm) :
    s.balancingRound (some (mf, mh, a, h)) =
      s.cooled.caravanStart a (s.rankBuckets s.bucketBytes) := by
  simp only [State.balancingRound, he, hside, Bool.not_true, Bool.or_self, Bool.false_eq_true, if_false]
  rw [if_neg (by rw [ho]; exact (congrArg (fun v => ¬ (!v || false) = true) hb).mpr (by decide))]
  refine (if_pos ?_).trans (congrArg (fun l => s.cooled.caravanStart a (s.rankBuckets l)) s.bucketBytes_cooled)
  exact hf

/-- Buckets marked one after the other: all of them are MOVING. -/
theorem State.setMovingRange_moving {s : State} {b : Nat} (bs : List Nat) (h : b ∈ bs ∨ (s.bucket b).moving = true) :
    ((s.setMovingRange bs true).bucket b).moving = true := by
  induction bs generalizing s with
  | nil => simpa [State.setMovingRange] using h
  | cons x bs ih =>
    refine ih (s := { s with kvs := { s.kvs with buckets := s.kvs.buckets.put x { s.bucket x with moving := true } } }) ?_
    by_cases hx : b = x
    · subst hx
      exact .inr (by simp [State.bucket])
    · refine h.imp (fun h => (List.mem_cons.1 h).resolve_left hx) fun h => ?_
      rw [State.bucket, Assoc.getD, Assoc.look_put_ne _ _ hx]
      exact h

/-- Marking buckets touches the buckets alone. -/
theorem State.setMovingRange_frame (s : State) (bs : List Nat) (on : Bool) :
    State.Frame (fun s t => { s with kvs := { s.kvs with buckets := t.kvs.buckets } }) [] s (s.setMovingRange bs on) :=
  State.Frame.foldl bs (fun _ _ _ => State.Frame.of_eq rfl) s

/-- The target's acceptance starts COPY, with a first batch (Table 15.6, R350). -/
theorem State.caravanPropose_accepted {s : State} {c : Caravan} (ho : s.kvs.outC = some c) (hp : s.rd Fld.KVS_STATUS_OUT_PHASE = 1)
    (l : List Nat) (n : Nat) :
    s.caravanPropose c.peer l n (some true) = State.shipBatch ((s.setMovingRange c.buckets true).wr Fld.KVS_STATUS_OUT_PHASE 2) c
      (((s.setMovingRange c.buckets true).wr Fld.KVS_STATUS_OUT_PHASE 2).rangeRecords c 0) false := by
  have hgo : ¬ (s.rd Fld.KVS_STATUS_OUT_PHASE ≠ 1 ∨ c.peer ≠ c.peer) := by simp [hp]
  simp only [State.caravanPropose, ho, if_neg hgo, Bool.not_true, Bool.false_eq_true, if_false]

/-- The change of place of each bucket of a range. -/
def State.rangeChanges (s : State) (c : Caravan) : List PlaceChange :=
  c.buckets.map (fun b => PlaceChange.bucket b c.peer (s.bucket b).pinned)

/-- A small delta and a grant far enough ahead fix T_c, and the update goes to every head (R350). -/
theorem State.caravanGrant_spec {s : State} {c : Caravan} {e at_ : Nat} (ho : s.kvs.outC = some c)
    (hp : s.rd Fld.KVS_STATUS_OUT_PHASE = 2)
    (hd : ((s.rangeRecords c (max 1 c.since)).map (fun r => r.len)).sum < s.rd Fld.KVS_CARAVAN_DELTA_MIB * 1048576)
    (he : s.rd Fld.KVS_EPOCH_EPOCH < e) (ht : s.ctNs + s.rd Fld.KVS_CARAVAN_LEAD_MS * 1000000 ≤ at_) :
    s.caravanGrant (some (e, at_)) = State.emit (State.updateKnown
      ((State.wr { s with kvs := { s.kvs with outC := some { c with epoch := e, tc := at_ } } } Fld.KVS_STATUS_OUT_PHASE 3).wr
        Fld.KVS_CARAVAN_STATE_EPOCH e) e at_ (s.rangeChanges c)) (.placeMsg 0x7FFF 3 e at_ (s.rangeChanges c)) := by
  have hgo : ¬ (e ≤ s.rd Fld.KVS_EPOCH_EPOCH ∨ at_ < s.ctNs + s.rd Fld.KVS_CARAVAN_LEAD_MS * 1000000) := by omega
  simp only [State.caravanGrant, ho, hp, ne_eq, not_true_eq_false, if_false, if_neg (Nat.not_le.2 hd), if_neg hgo]
  rfl

/-- A newer update, once known, leaves the Caravan and its phase. -/
theorem State.updateKnown_caravan {s : State} {e : Nat} (h : s.rd Fld.KVS_EPOCH_EPOCH < e) (tEff : Nat) (cs : List PlaceChange) :
    (s.updateKnown e tEff cs).kvs.outC = s.kvs.outC ∧
      (s.updateKnown e tEff cs).rd Fld.KVS_STATUS_OUT_PHASE = s.rd Fld.KVS_STATUS_OUT_PHASE := by
  rw [State.updateKnown, if_neg (Nat.not_le.2 h)]
  exact ⟨rfl, State.rd_wr_other _ _ (by decide)⟩

/-- With no write open and no window, the final delta leaves (R351, R352). -/
theorem State.caravanCutover_ships {s : State} {c : Caravan} (ho : s.kvs.outC = some c) (hp : s.rd Fld.KVS_STATUS_OUT_PHASE = 4)
    (hops : s.ops = []) (hw : s.wins = []) : s.caravanCutover = s.shipBatch c (s.rangeRecords c (max 1 c.since)) true := by
  have hwins : (s.shipBatch c (s.rangeRecords c (max 1 c.since)) true).wins = [] := hw
  simp only [State.caravanCutover, ho, hp, show ¬ (4 : Nat) = 3 by decide, if_false, ne_eq, not_true_eq_false, hops, List.any_nil,
    Bool.false_eq_true, or_self, hwins, List.foldl_nil]

/-- An outgoing Caravan that is over leaves no phase. -/
theorem State.outEnd_phase (s : State) : s.outEnd.rd Fld.KVS_STATUS_OUT_PHASE = 0 :=
  (State.rd_wr_other _ _ (by decide)).trans ((State.rd_wr_other _ _ (by decide)).trans (State.rd_wr_self _ _ _ _ _))

/-! ## The target -/

/-- Reserves taken or given back touch the PGs alone. -/
theorem State.modPgs_frame (r : Assoc Nat) (f : Nat → Pg → Pg) (s : State) :
    State.Frame (fun s t => { s with pgs := t.pgs }) [] s (r.foldl (fun s e => s.modPg e.1 (f e.2)) s) :=
  State.Frame.foldl r (fun _ _ _ => State.Frame.of_eq rfl) s

/-- A proposal that fits is accepted, its reserve taken (R350). -/
theorem State.caravanPropose_accepts {s : State} {l : List Nat} {n : Nat} (a : Nat) (he : s.enabled Blk.KVS = true)
    (hin : s.rdb Fld.KVS_CTRL_CARAVAN_IN = true) (hnone : s.kvs.inC = none) (hl : l ≠ [])
    (hfits : ∀ e ∈ s.proposalNeed l n, e.2 ≤ s.pgRoom (s.pg e.1) ∧ s.setState (s.pg e.1).oset = setOwned) :
    ∃ pgs c, c.peer = a ∧ c.buckets = l ∧ c.reserve = s.proposalNeed l n ∧ s.caravanPropose a l n none =
      (State.wr { s with pgs := pgs, kvs := { s.kvs with inC := some c } } Fld.KVS_STATUS_IN_PHASE 2).emit (.caravanMsg a 2 l n) := by
  have hall : (s.proposalNeed l n).all (fun e => decide (e.2 ≤ s.pgRoom (s.pg e.1)) && s.setState (s.pg e.1).oset == setOwned) = true :=
    List.all_eq_true.2 fun e he => by simpa using hfits e he
  have hgo : (!s.rdb Fld.KVS_CTRL_CARAVAN_IN || s.kvs.inC.isSome || l == [] || false) = false := by simp [hin, hnone, hl]
  obtain ⟨hframe, -⟩ := State.modPgs_frame (s.proposalNeed l n) (fun n p => { p with reserved := p.reserved + n }) s
  simp only [State.caravanPropose, he, Bool.not_true, Bool.false_eq_true, if_false, hall, hgo]
  rw [hframe]
  exact ⟨_, _, rfl, rfl, rfl, rfl⟩

/-- A write just started, changed. -/
theorem State.look_modOp_startWrite (s : State) (src : Src) (tenant : Nat) (r : WriteReq) (f : WriteOp → WriteOp) :
    ((s.startWrite src tenant r).modOp s.nextOp f).ops.look s.nextOp = some (f (s.submitted src tenant r)) := by
  rw [State.modOp, Assoc.look_modify_self, State.startWrite_look]
  rfl

/-- A batch of one record starts its write, the VALUE_ID kept (R354). -/
theorem State.batchWrites_one {s : State} {c : Caravan} {b : Batch} {r : BatchRec} (hc : s.kvs.inC = some c) (hr : b.records = [r])
    (hk : r.kind = 4) :
    (s.batchWrites b).nextOp = s.nextOp + 1 ∧
      (∃ x, (s.batchWrites b).ops.look s.nextOp = some x ∧ x.kind = .kvPut ∧ x.nsid = r.nsid ∧ x.key = r.key ∧ x.valueId = r.version) ∧
      ∃ d, (s.batchWrites b).kvs.inC = some d ∧ d.batch = c.batch ∧ d.peer = c.peer := by
  have hin : ∀ src tenant w o f, ((s.startWrite src tenant w).modOp o f).kvs.inC = some c := fun _ _ _ _ _ => hc
  simp only [State.batchWrites, hr, List.foldl_cons, List.foldl_nil, hk, if_true, hin]
  refine ⟨rfl, ?_, _, rfl, rfl, rfl⟩
  have hop := State.look_modOp_startWrite s (.batch 0 b.seq) (match s.adm.nss.look r.nsid with | some n => n.tenant | none => 0)
    (keyReq .kvPut r.nsid r.key r.keyLen r.len r.data) (fun x => { x with valueId := r.version })
  exact ⟨_, hop, rfl, rfl, rfl, rfl⟩

/-- The next batch of the incoming Caravan is written (R350, R409). -/
theorem State.caravanCopy_next {s : State} {c : Caravan} {b : Batch} {r : BatchRec} (hp : s.rd Fld.KVS_STATUS_IN_PHASE = 2)
    (hc : s.kvs.inC = some c) (hcrc : b.crcOk = true) (hsrc : b.srcArray = c.peer) (hk : b.kind = 1) (hseq : c.batch < b.seq)
    (hr : b.records = [r]) :
    s.caravanCopy b = State.batchWrites { s with kvs := { s.kvs with inC := some { c with batch := b.seq } } } b := by
  have hnew : ¬ (b.seq ≤ c.batch ∨ b.records = []) := by simp [hr, hseq]
  rw [State.caravanCopy, if_pos (.inl hp)]
  simp only [State.caravanBatch, hc, hcrc, hsrc, hk, Bool.not_true, bne_self_eq_false, Bool.or_self, Bool.false_eq_true, if_false, if_neg hnew]

/-- A final delta with nothing in it goes straight on to INSTALL (R352). -/
theorem State.caravanInstall_final {s : State} {c : Caravan} {b : Batch} (l : List (Nat × Nat × List (Nat × Nat))) (hc : s.kvs.inC = some c)
    (hp : s.rd Fld.KVS_STATUS_IN_PHASE = 4) (hcrc : b.crcOk = true) (hsrc : b.srcArray = c.peer) (hlast : b.last = true)
    (hr : b.records = []) :
    s.caravanInstall b l =
      State.wr { s with kvs := { s.kvs with inC := some { c with batch := max c.batch b.seq } } } Fld.KVS_STATUS_IN_PHASE 5 := by
  simp only [State.caravanInstall, hc, hp, if_true, hcrc, hsrc, hlast, beq_self_eq_true, Bool.and_self, State.batchWrites, hr, List.foldl_nil]

theorem State.releaseHolds_none {s : State} (hh : s.kvs.held = []) : s.releaseHolds = s := by
  have hkvs : ({ s.kvs with held := [] } : Kvs) = s.kvs := by rw [← hh]
  simp only [State.releaseHolds, hh, List.foldl_nil]
  exact congrArg (fun k => { s with kvs := k }) hkvs

/-- With no write open, no slot and no request held, the range is served and the acknowledgement leaves (R352, R354). -/
theorem State.caravanInstall_done {s : State} {c : Caravan} {b : Batch} (hc : s.kvs.inC = some c) (hp : s.rd Fld.KVS_STATUS_IN_PHASE = 5)
    (hops : s.ops = []) (hr : b.records = []) (hh : s.kvs.held = []) :
    ∃ pgs, s.caravanInstall b [] = State.emit (State.wr { s with pgs := pgs, kvs := { s.kvs with inC := none } } Fld.KVS_STATUS_IN_PHASE 0)
      (.caravanMsg c.peer 5 c.buckets 0) := by
  obtain ⟨pgs, hback⟩ : ∃ pgs, s.caravanUnreserve c.reserve = { s with pgs := pgs } :=
    ⟨_, (State.modPgs_frame c.reserve (fun n p => { p with reserved := p.reserved - n }) s).1⟩
  simp only [State.caravanInstall, hc, hp, show ¬ (5 : Nat) = 4 by decide, if_false, ne_eq, not_true_eq_false, hops, List.any_nil,
    Bool.false_eq_true, or_self, hr, List.foldl_nil, hback]
  exact ⟨pgs, State.releaseHolds_none hh⟩

/-- Deletes of the head's own take consecutive numbers. -/
theorem State.ownDeletes_nextOp (s : State) (ks : List (Nat × Nat × Nat)) : (s.ownDeletes ks).nextOp = s.nextOp + ks.length :=
  (State.foldl_startWrite .own 0xFFFF (fun k : Nat × Nat × Nat => keyReq .kvDelete k.1 k.2.1 k.2.2 0 []) ks s).1

/-- The target's abort deletes its copies, and ends the Caravan (R350). -/
theorem State.caravanAbort_in {s : State} {c : Caravan} (hc : s.kvs.inC = some c) (hp : s.rd Fld.KVS_STATUS_IN_PHASE = 2) :
    (s.caravanAbort false).kvs.inC = none ∧ (s.caravanAbort false).rd Fld.KVS_STATUS_IN_PHASE = 0 ∧
      (s.caravanAbort false).rd Fld.KVS_ERR_CARAVAN_ABORT = 1 ∧ (s.caravanAbort false).nextOp = s.nextOp + c.keys.length := by
  obtain ⟨hframe, -⟩ := State.modPgs_frame c.reserve (fun n p => { p with reserved := p.reserved - n }) (s.ownDeletes c.keys)
  have hnext : ((s.ownDeletes c.keys).caravanUnreserve c.reserve).nextOp = s.nextOp + c.keys.length :=
    (congrArg State.nextOp hframe).trans (State.ownDeletes_nextOp _ _)
  have heq : s.caravanAbort false = State.emit (State.raise (State.wr { (s.ownDeletes c.keys).caravanUnreserve c.reserve with
      kvs := { ((s.ownDeletes c.keys).caravanUnreserve c.reserve).kvs with inC := none } } Fld.KVS_STATUS_IN_PHASE 0)
      Fld.KVS_ERR_CARAVAN_ABORT) (.caravanMsg c.peer 0 c.buckets 0) := by
    simp only [State.caravanAbort, Bool.false_eq_true, if_false, hc, hp, or_true, if_true]
  rw [heq]
  refine ⟨rfl, ?_, State.rd_of_regs_put rfl, hnext⟩
  rw [State.rd_emit, State.raise, State.rd_wr_other _ _ (by decide)]
  exact State.rd_wr_self _ _ _ _ _

/-! ## Requests held (R353) -/

/-- A command that ends leaves the requests held. -/
theorem State.enoreEnd_held (s : State) (k n : Nat) (r : SessResp) : (s.enoreEnd k n r).kvs.held = s.kvs.held := by
  unfold State.enoreEnd
  split
  · rfl
  · split
    · rfl
    · dsimp only
      split
      · unfold State.modWin
        split <;> rfl
      · rfl

/-- The oldest request held has waited HOLD_US (R353). -/
theorem State.holdExpiry_enore {s : State} {k n at_ : Nat} {l : List HeldReq} (hh : s.kvs.held = ⟨.enore k n, at_⟩ :: l)
    (hl : s.aon.leaseEnd = none) :
    s.holdExpiry = State.enoreEnd (State.kvsError
      { s with now := max s.now (at_ + s.rd Fld.KVS_CARAVAN_HOLD_US * unitsPerUs), kvs := { s.kvs with held := l } }
        Fld.KVS_ERR_HOLD_EXPIRED k) k n { respOf STS_NOT_OWNER with owner := 0 } := by
  simp only [State.holdExpiry, hh, State.advanceUs]
  rw [State.advance_unleased (s := { s with kvs := { s.kvs with held := l } }) hl]
  rfl

/-- Settles O46. -/
theorem caravansFollowTable156 : Obligations.CaravansFollowTable156 := by
  unfold Obligations.CaravansFollowTable156
  refine ⟨?unanswered, ?skewed, ?closed, ?accepts, ?accepted, ?batch, ?grant, ?cutover, ?final, ?installed, ?release, ?abortOut, ?abortIn,
    ?expiry⟩
  case unanswered =>
    intro s he hside
    refine Completes.of_effect (u := { s with kvs := { s.kvs with heat := [] } }) ?_ ⟨rfl, rfl, rfl⟩
    refine congrArg ended ?_
    simp only [State.balancingRound, he, hside, Bool.not_true, Bool.or_self, Bool.false_eq_true, if_false]
  case skewed =>
    intro s mf mh a h b l he hside hb ho hf hrank ha
    refine Completes.of_effect (congrArg ended ((State.balancingRound_skewed mh a h he hside hb ho hf).trans (congrArg _ hrank))) ?_
    exact State.caravanStart_spec ha
  case closed =>
    intro s a n l he hin
    refine Completes.of_effect (u := s.emit (.caravanMsg a 0 l n)) (congrArg ended ?_) ⟨rfl, rfl, rfl⟩
    simp only [State.caravanPropose, he, Bool.not_true, Bool.false_eq_true, if_false, hin, Bool.not_false, Bool.true_or, if_true]
  case accepts =>
    intro s a n l he hin hnone hl hfits
    obtain ⟨pgs, c, hpeer, hbuckets, hreserve, heq⟩ := State.caravanPropose_accepts a he hin hnone hl hfits
    exact Completes.of_effect (congrArg ended heq) ⟨rfl, State.rd_of_regs_put rfl, c, rfl, hpeer, hbuckets, hreserve⟩
  case accepted =>
    intro s c n l ho hp
    exact Completes.of_effect (congrArg ended (State.caravanPropose_accepted ho hp l n))
      ⟨State.rd_of_regs_put rfl, fun b hb => State.setMovingRange_moving _ (.inl hb), _, rfl, rfl, rfl⟩
  case batch =>
    intro s c b r hp hc hcrc hsrc hk hseq hr hkind
    exact Completes.of_effect (congrArg ended (State.caravanCopy_next hp hc hcrc hsrc hk hseq hr))
      (State.batchWrites_one (c := { c with batch := b.seq }) rfl hr hkind)
  case grant =>
    intro s c e at_ ho hp hd he ht
    have he' : ((State.wr { s with kvs := { s.kvs with outC := some { c with epoch := e, tc := at_ } } } Fld.KVS_STATUS_OUT_PHASE 3).wr
        Fld.KVS_CARAVAN_STATE_EPOCH e).rd Fld.KVS_EPOCH_EPOCH < e := by
      rw [State.rd_wr_other _ _ (by decide), State.rd_wr_other _ _ (by decide)]
      exact he
    obtain ⟨hupdate, -⟩ := State.updateKnown_spec he' at_ (s.rangeChanges c)
    obtain ⟨hout, hphase⟩ := State.updateKnown_caravan he' at_ (s.rangeChanges c)
    refine Completes.of_effect (congrArg ended (State.caravanGrant_spec ho hp hd he ht)) ⟨hphase.trans ?_, hout, _, hupdate, rfl⟩
    exact (State.rd_wr_other _ _ (by decide)).trans (State.rd_wr_self _ _ _ _ _)
  case cutover =>
    intro s c ho hp hops hw
    exact Completes.of_effect (congrArg ended (State.caravanCutover_ships ho hp hops hw)) ⟨hp, _, _, rfl, rfl, rfl, rfl⟩
  case final =>
    intro s c b l hc hp hcrc hsrc hlast hr
    exact Completes.of_effect (congrArg ended (State.caravanInstall_final l hc hp hcrc hsrc hlast hr)) ⟨State.rd_wr_self _ _ _ _ _, rfl⟩
  case installed =>
    intro s c b hc hp hops hr hh
    obtain ⟨pgs, heq⟩ := State.caravanInstall_done hc hp hops hr hh
    exact Completes.of_effect (congrArg ended heq) ⟨State.rd_of_regs_put rfl, rfl, rfl⟩
  case release =>
    intro s c ho hp hk
    refine Completes.of_effect (u := s.outEnd) (congrArg ended ?_) ⟨rfl, State.outEnd_phase s, rfl⟩
    simp only [State.caravanRelease, ho, hp, hk, show ¬ (5 : Nat) = 4 by decide, if_false, List.filter_nil, List.map_nil, and_self, if_true]
  case abortOut =>
    intro s c ho hp
    refine Completes.of_effect (u := ((((s.setMovingRange c.buckets false).outEnd).raise Fld.KVS_ERR_CARAVAN_ABORT).emit
      (.caravanMsg c.peer 0 c.buckets 0))) (congrArg ended ?_) ⟨rfl, ?_, State.rd_of_regs_put rfl, ?_⟩
    · simp only [State.caravanAbort, if_true, ho, hp, true_or]
    · rw [State.rd_emit, State.raise, State.rd_wr_other _ _ (by decide)]
      exact State.outEnd_phase _
    · have hout : (s.setMovingRange c.buckets false).out = s.out := by
        rw [(State.setMovingRange_frame s c.buckets false).1]
      exact congrArg (Out.caravanMsg c.peer 0 c.buckets 0 :: ·) hout
  case abortIn =>
    intro s c hc hp
    exact Completes.of_effect rfl (State.caravanAbort_in hc hp)
  case expiry =>
    intro s k n at_ l x c hh hx hc hl
    refine Completes.of_effect (congrArg ended (State.holdExpiry_enore hh hl)) ⟨?_, ?_, State.enoreEnd_ends (by exact hx) hc _, ?_⟩
    · rw [State.enoreEnd_held]
      rfl
    · rw [State.enoreEnd_frame]
      exact (State.rd_wr_other _ _ (by decide)).trans (State.rd_wr_self _ _ _ _ _)
    · rw [State.enoreEnd_frame]
      rfl

end Sys2Proof.Machine
end

section
-- One proof at a time: elaborated side by side, the one-file compile runs out of threads.
set_option Elab.async false
/-! PROOFS. SNP: the commands of `SNP_CMD`, the flushes of the catalogue, and cuts (R402 to R408, R411). -/
namespace Sys2Proof.Machine

open Sys2Proof

/-! ## A command of `SNP_CMD` -/

/-- The head once a command of `SNP_CMD` has begun: BUSY, and not DONE (R418). -/
def State.snpBegun (s : State) : State := (s.wr Fld.SNP_CMD_RESULT_BUSY 1).wr Fld.SNP_CMD_RESULT_DONE 0

theorem State.rd_snpBegun (s : State) {f : Field} (hb : f.key 0 0 ≠ Fld.SNP_CMD_RESULT_BUSY.key 0 0)
    (hd : f.key 0 0 ≠ Fld.SNP_CMD_RESULT_DONE.key 0 0) : s.snpBegun.rd f = s.rd f := by
  rw [State.snpBegun, State.rd_wr_other _ _ hd, State.rd_wr_other _ _ hb]

theorem State.busy_snpBegun (s : State) : s.snpBegun.rd Fld.SNP_CMD_RESULT_BUSY = 1 := by
  rw [State.snpBegun, State.rd_wr_other _ _ (by decide), State.rd_wr_self]
  rfl

@[simp] theorem State.ownsNs_snpBegun (s : State) (ns : Nat) : s.snpBegun.ownsNs ns = s.ownsNs ns := by
  have hapart : ∀ f ∈ [Fld.OWN_STATUS_LEASE, Fld.ISL_STATUS_STATE, Fld.ISL_STATUS_SUSPECT],
      f.key 0 0 ≠ Fld.SNP_CMD_RESULT_BUSY.key 0 0 ∧ f.key 0 0 ≠ Fld.SNP_CMD_RESULT_DONE.key 0 0 := by decide
  have hset : s.snpBegun.setState (s.osetOf ns) = s.setState (s.osetOf ns) :=
    State.setState_congr (s := s) (t := s.snpBegun) rfl rfl (fun f hf => s.rd_snpBegun (hapart f hf).1 (hapart f hf).2) _
  exact congrArg (fun n => s.adm.nss.has ns && n == setOwned) hset

/-- A command that is taken runs, and its namespace is not refused (R418). -/
theorem State.snpCmd_takes {s : State} {ns : Nat} (h : s.SnpTakes ns) (run : State → State) : s.snpCmd run = run s.snpBegun := by
  obtain ⟨he, hb, -, -⟩ := h
  have hgo : (!s.enabled Blk.SNP || s.rdb Fld.SNP_CMD_RESULT_BUSY) = false := by rw [he, hb]; rfl
  rw [State.snpCmd, hgo, if_neg Bool.false_ne_true]
  rfl

theorem State.nsRefusal_snpBegun {s : State} {ns : Nat} (h : s.SnpTakes ns) : s.snpBegun.nsRefusal ns = none := by
  obtain ⟨-, -, -, howns⟩ := h
  have hhas : s.snpBegun.adm.nss.has ns = true := (Bool.and_eq_true_iff.1 howns).1
  rw [State.nsRefusal, hhas, State.ownsNs_snpBegun, howns]
  rfl

theorem State.nsid_snpBegun {s : State} {ns : Nat} (h : s.SnpTakes ns) : s.snpBegun.rd Fld.SNP_CMD_ARG_NSID = ns :=
  (s.rd_snpBegun (by decide) (by decide)).trans h.2.2.1

/-- A command that completes leaves its status and epoch, and is no longer in progress (R418). -/
theorem State.snpDone_rd (s : State) (status epoch : Nat) :
    (s.snpDone status epoch).rd Fld.SNP_CMD_RESULT_STATUS = status % 2 ^ 16 ∧
      (s.snpDone status epoch).rd Fld.SNP_CMD_RESULT_EPOCH = epoch % 2 ^ 32 ∧ (s.snpDone status epoch).rd Fld.SNP_CMD_RESULT_DONE = 1 ∧
      (s.snpDone status epoch).rd Fld.SNP_CMD_RESULT_BUSY = 0 := by
  refine ⟨?_, ?_, ?_, State.rd_wr_self _ _ _ _ _⟩
  · rw [State.snpDone, State.rd_wr_other _ _ (by decide), State.rd_wr_other _ _ (by decide), State.rd_wr_other _ _ (by decide)]
    exact State.rd_wr_self _ _ _ _ _
  · rw [State.snpDone, State.rd_wr_other _ _ (by decide), State.rd_wr_other _ _ (by decide)]
    exact State.rd_wr_self _ _ _ _ _
  · rw [State.snpDone, State.rd_wr_other _ _ (by decide)]
    exact State.rd_wr_self _ _ _ _ _

/-- The fields of `SNP_CMD_RESULT` aside, a completion touches no register. -/
theorem State.rd_snpDone (s : State) (status epoch : Nat) {f : Field}
    (h : ∀ g ∈ [Fld.SNP_CMD_RESULT_STATUS, Fld.SNP_CMD_RESULT_EPOCH, Fld.SNP_CMD_RESULT_DONE, Fld.SNP_CMD_RESULT_BUSY],
      f.key 0 0 ≠ g.key 0 0) : (s.snpDone status epoch).rd f = s.rd f := by
  simp only [List.forall_mem_cons] at h
  obtain ⟨hs, he, hd, hb, -⟩ := h
  rw [State.snpDone, State.rd_wr_other _ _ hb, State.rd_wr_other _ _ hd, State.rd_wr_other _ _ he, State.rd_wr_other _ _ hs]

/-- An error of SNP is raised. -/
theorem State.rd_snpError_self (s : State) {f : Field} (nsid link : Nat) (hw : 1 < 2 ^ f.width)
    (hn : f.key 0 0 ≠ Fld.SNP_ERR_INFO_NSID.key 0 0) (hl : f.key 0 0 ≠ Fld.SNP_ERR_INFO_LINK.key 0 0) :
    (s.snpError f nsid link).rd f = 1 := by
  rw [State.snpError, State.rd_wr_other _ _ hl, State.rd_wr_other _ _ hn, State.raise, State.rd_wr_self, Nat.mod_eq_of_lt hw]

/-- SNAP_CREATE of a cut that lies far enough ahead opens an entry and starts its flush (R402, R403). -/
theorem State.snapCreate_cut {s : State} {ns : Nat} (h : s.SnpTakes ns) (hspan : s.spanNs ns = false) (hrep : s.snp.replicas.has ns = false)
    (ht : s.ctNs + s.rd Fld.SNP_CFG_LEAD_MS * 1000000 ≤ s.rd Fld.SNP_CMD_ARG_T) (hl : s.epochLimit ns = false) :
    s.snapCreate = State.flush (State.wr (s.snpBegun.newEpoch (CatEntry.cutAt ns (s.rd Fld.SNP_CMD_ARG_T) (s.lastFrozen ns) false)).1
      Fld.SNP_CMD_RESULT_EPOCH s.snp.nextEpoch) (.create s.snp.nextEpoch) := by
  have hspan' : s.snpBegun.spanNs ns = false := hspan
  have hrep' : s.snpBegun.snp.replicas.has ns = false := hrep
  have hlimit' : s.snpBegun.epochLimit ns = false := hl
  have htime : ¬ s.rd Fld.SNP_CMD_ARG_T < s.snpBegun.ctNs + s.rd Fld.SNP_CFG_LEAD_MS * 1000000 := Nat.not_lt.2 ht
  simp only [State.snapCreate, State.snpCmd_takes h, State.nsid_snpBegun h, State.nsRefusal_snpBegun h, hspan', hrep', hlimit',
    s.rd_snpBegun (f := Fld.SNP_CMD_ARG_T) (by decide) (by decide), s.rd_snpBegun (f := Fld.SNP_CFG_LEAD_MS) (by decide) (by decide), htime,
    Bool.false_eq_true, if_false]
  rfl

/-- SNAP_CREATE of a cut that lies too near is refused (R402). -/
theorem State.snapCreate_late {s : State} {ns : Nat} (h : s.SnpTakes ns) (hspan : s.spanNs ns = false) (hrep : s.snp.replicas.has ns = false)
    (ht : s.rd Fld.SNP_CMD_ARG_T < s.ctNs + s.rd Fld.SNP_CFG_LEAD_MS * 1000000) :
    s.snapCreate = (s.snpBegun.snpError Fld.SNP_ERR_CUT_LATE ns 0).snpDone STS_CUT_TOO_LATE 0 := by
  have hspan' : s.snpBegun.spanNs ns = false := hspan
  have hrep' : s.snpBegun.snp.replicas.has ns = false := hrep
  have htime : s.rd Fld.SNP_CMD_ARG_T < s.snpBegun.ctNs + s.rd Fld.SNP_CFG_LEAD_MS * 1000000 := ht
  simp only [State.snapCreate, State.snpCmd_takes h, State.nsid_snpBegun h, State.nsRefusal_snpBegun h, hspan', hrep',
    s.rd_snpBegun (f := Fld.SNP_CMD_ARG_T) (by decide) (by decide), s.rd_snpBegun (f := Fld.SNP_CFG_LEAD_MS) (by decide) (by decide), htime,
    Bool.false_eq_true, if_false, if_true]

/-- SNAP_DELETE names an epoch of its namespace: R408 judges it. -/
theorem State.snapDelete_judged {s : State} {ns e : Nat} {c : CatEntry} (h : s.SnpTakes ns) (he : s.rd Fld.SNP_CMD_ARG_EPOCH = e)
    (hc : s.cat e = some c) (hn : c.nsid = ns) :
    s.snapDelete = if (s.snpBegun.deleteEpoch e true).2 = STS_OK then (s.snpBegun.deleteEpoch e true).1
      else (s.snpBegun.deleteEpoch e true).1.snpDone (s.snpBegun.deleteEpoch e true).2 e := by
  have hcat : s.snpBegun.cat e = some c := hc
  have hmine : (!(s.snpBegun.cat e).any (fun c => c.nsid == ns)) = false := by rw [hcat]; simp [hn]
  simp only [State.snapDelete, State.snpCmd_takes h, State.nsid_snpBegun h, State.nsRefusal_snpBegun h,
    s.rd_snpBegun (f := Fld.SNP_CMD_ARG_EPOCH) (by decide) (by decide), he, hmine, Bool.false_eq_true, if_false]

/-- An epoch that a clone, a link or an attachment holds is not deleted (R408). -/
theorem State.deleteEpoch_inUse {s : State} {e : Nat} {c : CatEntry} (hc : s.cat e = some c)
    (h : c.cloneSrc = true ∨ c.linkBase = true ∨ c.expose ≠ 0) (cmd : Bool) : s.deleteEpoch e cmd = (s, STS_SNAP_IN_USE) := by
  have hused : (c.cloneSrc || c.linkBase || c.expose != 0 || c.state == epActive) = true := by
    rcases h with h | h | h <;> simp [h]
  simp only [State.deleteEpoch, hc, hused, if_true]

/-- A READY epoch that nothing holds is merged into its successor, and its removal flushed (R408). -/
theorem State.deleteEpoch_ready {s : State} {e : Nat} {c : CatEntry} (hc : s.cat e = some c) (hclone : c.cloneSrc = false)
    (hlink : c.linkBase = false) (hexpose : c.expose = 0) (hst : c.state = epReady) (cmd : Bool) :
    s.deleteEpoch e cmd = (((s.setCat e { c with state := epDeleting }).mergeEpoch c.nsid).flush (.remove e cmd), STS_OK) := by
  have hfree : (c.cloneSrc || c.linkBase || c.expose != 0 || c.state == epActive) = false := by
    rw [hclone, hlink, hexpose, hst]
    rfl
  have hready : (c.state != epReady) = false := by rw [hst]; rfl
  simp only [State.deleteEpoch, hc, hfree, hready, Bool.false_eq_true, if_false]

/-- A commit of PJM touches nothing besides its registers. -/
theorem State.afterCommit_pjm (s old : State) (vals : Assoc Nat) : s.afterCommit old Blk.PJM vals = s := by
  simp [State.afterCommit]

theorem State.boundary_pjm_snp (s : State) : (s.boundary Blk.PJM).snp = s.snp := by
  unfold State.boundary State.applyCommit
  simp only [State.afterCommit_pjm]
  split
  · split <;> rfl
  · rfl

/-- A record issued leaves the catalogue, whatever commit waits for the journal. -/
theorem State.issue_snp (s : State) (b : RecBody) (n o : Nat) : (s.issue b n o).snp = s.snp := by
  refine Eq.trans ?_ s.boundary_pjm_snp
  unfold State.issue
  generalize s.boundary Blk.PJM = u
  dsimp only
  split
  · next c _ =>
    obtain ⟨⟨_, _, _, _, h⟩, -⟩ := State.place_journals (u.wr Fld.PJM_JSEQ_NEXT (u.rd Fld.PJM_JSEQ_NEXT + 1)) c (u.rd Fld.PJM_JSEQ_NEXT) _
    rw [h]
    rfl
  · rfl

/-- The merge of a deleted epoch leaves the catalogue (R408). -/
theorem State.mergeEpoch_snp (s : State) (nsid : Nat) : (s.mergeEpoch nsid).snp = s.snp := by
  have hleaf : ∀ (l : List Nat) (u : State), (l.foldl State.pruneLeaf u).snp = u.snp := foldl_keeps _ State.snp fun _ _ => rfl
  have hkv : ∀ (l : List Nat) (u : State), (l.foldl State.pruneKv u).snp = u.snp := foldl_keeps _ State.snp fun _ _ => rfl
  simp only [State.mergeEpoch]
  split
  · rw [hkv, hleaf]
  · rw [State.issue_snp, hkv, hleaf]

/-- The READY epoch that a command names (R407). -/
theorem State.readyArg_snpBegun {s : State} {ns e : Nat} {c : CatEntry} (h : s.SnpTakes ns) (he : s.rd Fld.SNP_CMD_ARG_EPOCH = e)
    (hc : s.cat e = some c) (hn : c.nsid = ns) (hst : c.state = epReady) : s.snpBegun.readyArg = some c := by
  have hcat : s.snpBegun.cat e = some c := hc
  simp only [State.readyArg, State.nsid_snpBegun h, s.rd_snpBegun (f := Fld.SNP_CMD_ARG_EPOCH) (by decide) (by decide), he, hcat, hn, hst,
    and_self, if_true]

/-- SNAP_CLONE opens the clone's line at the epoch, which it holds (R407). -/
theorem State.snapClone_opens {s : State} {ns e : Nat} {c : CatEntry} (h : s.SnpTakes ns) (he : s.rd Fld.SNP_CMD_ARG_EPOCH = e)
    (hc : s.cat e = some c) (hn : c.nsid = ns) (hst : c.state = epReady) (hhas : s.adm.nss.has (s.rd Fld.SNP_CMD_ARG_NEW_NSID) = false)
    (hnew : s.rd Fld.SNP_CMD_ARG_NEW_NSID ≠ 0) (hl : s.epochLimit (s.rd Fld.SNP_CMD_ARG_NEW_NSID) = false) :
    s.snapClone = State.flush (State.wr ((s.snpBegun.setCat e { c with cloneSrc := true }).newEpoch
      { CatEntry.cutAt (s.rd Fld.SNP_CMD_ARG_NEW_NSID) 0 e true with state := epActive, srcNsid := ns }).1
        Fld.SNP_CMD_RESULT_EPOCH s.snp.nextEpoch) (.clone (s.rd Fld.SNP_CMD_ARG_NEW_NSID) e) := by
  have hhas' : s.snpBegun.adm.nss.has (s.rd Fld.SNP_CMD_ARG_NEW_NSID) = false := hhas
  have hlimit' : s.snpBegun.epochLimit (s.rd Fld.SNP_CMD_ARG_NEW_NSID) = false := hl
  simp only [State.snapClone, State.snpCmd_takes h, State.nsid_snpBegun h, State.nsRefusal_snpBegun h, State.readyArg_snpBegun h he hc hn hst,
    s.rd_snpBegun (f := Fld.SNP_CMD_ARG_EPOCH) (by decide) (by decide), s.rd_snpBegun (f := Fld.SNP_CMD_ARG_NEW_NSID) (by decide) (by decide),
    he, hhas', hnew, hlimit', Bool.false_eq_true, or_self, if_false]
  rfl

/-- SNAP_ATTACH exposes the epoch under a new NSID (R407). -/
theorem State.snapAttach_exposes {s : State} {ns e : Nat} {c : CatEntry} (h : s.SnpTakes ns) (he : s.rd Fld.SNP_CMD_ARG_EPOCH = e)
    (hc : s.cat e = some c) (hn : c.nsid = ns) (hst : c.state = epReady) (hx : c.expose = 0)
    (hhas : s.adm.nss.has (s.rd Fld.SNP_CMD_ARG_NEW_NSID) = false) (hnew : s.rd Fld.SNP_CMD_ARG_NEW_NSID ≠ 0) :
    s.snapAttach = (s.snpBegun.setCat e { c with expose := s.rd Fld.SNP_CMD_ARG_NEW_NSID }).flush (.attach e) := by
  have hhas' : s.snpBegun.adm.nss.has (s.rd Fld.SNP_CMD_ARG_NEW_NSID) = false := hhas
  simp only [State.snapAttach, State.snpCmd_takes h, State.nsid_snpBegun h, State.nsRefusal_snpBegun h,
    State.readyArg_snpBegun h he hc hn hst, s.rd_snpBegun (f := Fld.SNP_CMD_ARG_EPOCH) (by decide) (by decide),
    s.rd_snpBegun (f := Fld.SNP_CMD_ARG_NEW_NSID) (by decide) (by decide), he, hx, hhas', hnew, Bool.false_eq_true, or_self, ne_eq,
    not_true_eq_false, if_false]

/-! ## Flushes of the catalogue -/

/-- The head once its oldest flush has become persistent. -/
def State.unflushed (s : State) (l : List FlushOf) : State := { s with snp := { s.snp with flushes := l } }

theorem State.flushDone_ok {s : State} {f : FlushOf} {l : List FlushOf} (h : s.snp.flushes = f :: l) :
    s.flushDone true = (s.unflushed l).flushed f := by
  simp only [State.flushDone, h, if_true]
  rfl

/-- A cut whose create has become persistent is armed, and its command completes (R403). -/
theorem State.flushed_create {s : State} {e : Nat} {c : CatEntry} (hc : s.cat e = some c) (hs : c.scheduled = false)
    (hh : s.snp.heldNs.mem c.nsid = false) : s.flushed (.create e) = (s.setCat e { c with armed := true }).snpDone STS_OK e := by
  simp only [State.flushed, hc, hs, Bool.false_eq_true, if_false]
  exact if_neg (Bool.eq_false_iff.1 hh)

/-- Events leave the catalogue. -/
theorem State.eventToAll_snp (l : List Nat) (src code time a0 a1 : Nat) (s : State) :
    (s.eventToAll l src code time a0 a1).snp = s.snp := by
  refine foldl_keeps _ State.snp (fun u n => ?_) l s
  unfold State.eventTo
  dsimp only
  split
  · rfl
  · split <;> rfl

/-- A cut that is READY outside a schedule is announced, and nothing is deleted (R405, R406). -/
theorem State.flushed_ready {s : State} {e : Nat} {c : CatEntry} (hc : s.cat e = some c) (hs : c.sched = 0) :
    (s.flushed (.ready e)).snp = (s.setCat e { c with state := epReady }).snp := by
  have hkeep : ∀ (u : State) (n : Nat), u.keepSched n 0 = u := fun u n => by simp [State.keepSched]
  simp only [State.flushed, hc, hs, hkeep]
  exact State.eventToAll_snp _ _ _ _ _ _ _

/-! ## Cuts -/

/-- An armed cut is passed: its epoch is SEALING, and a new active one opens (R405). -/
theorem State.seal_spec {s : State} {e : Nat} {c : CatEntry} (he : e < s.snp.nextEpoch) :
    (s.seal e c).snp.nextEpoch = s.snp.nextEpoch + 1 ∧ (s.seal e c).snp.flushes = s.snp.flushes ∧
      (∃ x, (s.seal e c).cat e = some { c with state := epSealing, epsNs := x }) ∧
      ∃ y, (s.seal e c).cat s.snp.nextEpoch = some y ∧ y.state = epActive ∧ y.nsid = c.nsid ∧ y.pred = e := by
  have hne : e ≠ s.snp.nextEpoch := Nat.ne_of_lt he
  unfold State.seal
  cases hold : s.snp.cat.first? (fun _ a => a.nsid == c.nsid && a.state == epActive) with
  | none =>
    refine ⟨rfl, rfl, ?_, _, Assoc.look_put_self _ _ _, rfl, rfl, rfl⟩
    exact ⟨_, (Assoc.look_put_ne _ _ hne).trans (Assoc.look_put_self _ _ _)⟩
  | some old =>
    obtain ⟨k, a⟩ := old
    have ha := List.find?_some (p := fun x : Nat × CatEntry => x.2.nsid == c.nsid && x.2.state == epActive) hold
    obtain ⟨hns, hst⟩ := Bool.and_eq_true_iff.1 ha
    refine ⟨rfl, rfl, ?_, _, Assoc.look_put_self _ _ _, beq_iff_eq.1 hst, beq_iff_eq.1 hns, rfl⟩
    exact ⟨_, (Assoc.look_put_ne _ _ hne).trans (Assoc.look_put_self _ _ _)⟩

/-- Time that passes while no lease ends leaves all but the clock (R378). -/
theorem State.advanceCt_unleased {s : State} (h : s.aon.leaseEnd = none) (t : Frac) :
    ∃ now, s.now ≤ now ∧ s.advanceCt t = { s with now := now } :=
  ⟨_, Nat.le_max_left _ _, State.advance_unleased h _⟩

/-- The entry of a cut that a schedule takes (R406). -/
def State.schedEntry (s : State) (k ns at_ : Nat) : CatEntry :=
  { CatEntry.cutAt ns at_ (s.lastFrozen ns) true with scheduled := true, sched := k }

/-- Where a schedule has no READY cut, none is deleted (R406). -/
theorem State.keepSched_none {s : State} {ns k : Nat} (h : s.readyOf ns k = []) : s.keepSched ns k = s := by
  simp [State.keepSched, h]

/-- The first cut of a catalogue, sealed at once, is not READY. -/
theorem State.readyOf_seal_first {s : State} (k ns at_ : Nat) (hcat : s.snp.cat = []) (f : FlushOf) :
    (((s.newEpoch (s.schedEntry k ns at_)).1.seal s.snp.nextEpoch (s.schedEntry k ns at_)).flush f).readyOf ns k = [] := by
  have hone : (s.newEpoch (s.schedEntry k ns at_)).1.snp.cat = [(s.snp.nextEpoch, s.schedEntry k ns at_)] := by
    rw [State.newEpoch, hcat]
    rfl
  have hfirst : (s.newEpoch (s.schedEntry k ns at_)).1.snp.cat.first?
      (fun _ a => a.nsid == (s.schedEntry k ns at_).nsid && a.state == epActive) = none := by
    rw [hone]
    simp [Assoc.first?, State.schedEntry, CatEntry.cutAt]
  simp only [State.seal, hfirst]
  simp [State.readyOf, State.flush, State.newEpoch, State.setCat, hcat, Assoc.put, State.schedEntry, CatEntry.cutAt]

/-- A schedule's one cut that is due, on a namespace without an epoch, is taken and sealed at once (R406). -/
theorem State.schedCut_first {s : State} {k ns at_ : Nat} (hpol : (s.snpPolicy ns).1 = k) (howns : s.ownsNs ns = true)
    (hspan : s.spanNs ns = false) (hrep : s.snp.replicas = []) (hcat : s.snp.cat = []) (hdue : s.schedDue ns = [at_]) :
    s.schedCut k ns = ((s.newEpoch (s.schedEntry k ns at_)).1.seal s.snp.nextEpoch (s.schedEntry k ns at_)).flush
      (.create s.snp.nextEpoch) := by
  have hgo : ¬ ((s.snpPolicy ns).1 ≠ k ∨ s.ownsNs ns = false ∨ s.spanNs ns = true ∨ s.snp.replicas.has ns = true) := by
    simp [hpol, howns, hspan, hrep, Assoc.has]
  have hlimit : s.epochLimit ns = false := by simp [State.epochLimit, hcat, Assoc.countP]
  rw [State.schedCut, if_neg hgo, hdue]
  simp only [List.foldl_cons, List.foldl_nil, hlimit, Bool.false_eq_true, if_false]
  exact State.keepSched_none (State.readyOf_seal_first k ns at_ hcat _)

/-- Settles O47. -/
theorem snapshotsAndCuts : Obligations.SnapshotsAndCuts := by
  unfold Obligations.SnapshotsAndCuts
  refine ⟨?create, ?late, ?delete, ?inUse, ?clone, ?promote, ?attach, ?created, ?withdrawn, ?ready, ?removed, ?held, ?sealed, ?flush, ?open_,
    ?schedule⟩
  case create =>
    intro s ns h hspan hrep ht hl
    refine Completes.of_effect (congrArg ended (State.snapCreate_cut h hspan hrep ht hl)) ⟨rfl, ?_, Assoc.look_put_self _ _ _, rfl⟩
    exact (State.rd_wr_other (State.newEpoch s.snpBegun _).1 _ (by decide)).trans s.busy_snpBegun
  case late =>
    intro s ns h hspan hrep ht
    obtain ⟨hstatus, -, hdone, hbusy⟩ := State.snpDone_rd (s.snpBegun.snpError Fld.SNP_ERR_CUT_LATE ns 0) STS_CUT_TOO_LATE 0
    refine Completes.of_effect (congrArg ended (State.snapCreate_late h hspan hrep ht)) ⟨rfl, hstatus, hbusy, hdone, ?_⟩
    rw [State.rd_snpDone _ _ _ (by decide)]
    exact State.rd_snpError_self _ _ _ (by decide) (by decide) (by decide)
  case delete =>
    intro s ns e c h he hc hn hclone hlink hx hst
    have hdel := State.deleteEpoch_ready (s := s.snpBegun) hc hclone hlink hx hst true
    have heq := State.snapDelete_judged h he hc hn
    rw [hdel] at heq
    refine Completes.of_effect (congrArg ended (heq.trans (if_pos rfl))) ⟨?_, ?_⟩
    · show Assoc.look (State.snp (State.mergeEpoch _ _)).cat e = _
      rw [State.mergeEpoch_snp]
      exact Assoc.look_put_self _ _ _
    · show (State.snp (State.mergeEpoch _ _)).flushes ++ _ = _
      rw [State.mergeEpoch_snp]
      rfl
  case inUse =>
    intro s ns e c h he hc hn hused
    have heq := State.snapDelete_judged h he hc hn
    rw [State.deleteEpoch_inUse (s := s.snpBegun) hc hused] at heq
    obtain ⟨hstatus, -, -, hbusy⟩ := State.snpDone_rd s.snpBegun STS_SNAP_IN_USE e
    exact Completes.of_effect (congrArg ended (heq.trans (if_neg (by decide : ¬ STS_SNAP_IN_USE = STS_OK)))) ⟨rfl, rfl, hstatus, hbusy⟩
  case clone =>
    intro s ns e c h he hc hn hst hhas hnew hl
    exact Completes.of_effect (congrArg ended (State.snapClone_opens h he hc hn hst hhas hnew hl))
      ⟨rfl, rfl, _, Assoc.look_put_self _ _ _, rfl, rfl, rfl, rfl⟩
  case promote =>
    intro s ns h hrep
    have hrep' : s.snpBegun.snp.replicas.has ns = true := hrep
    have heq : s.replicaPromote = s.snpBegun.flush (.promote ns) := by
      simp only [State.replicaPromote, State.snpCmd_takes h, State.nsid_snpBegun h, State.nsRefusal_snpBegun h, hrep', if_true]
    exact Completes.of_effect (congrArg ended heq) ⟨rfl, rfl, rfl⟩
  case attach =>
    intro s ns e c h he hc hn hst hx hhas hnew
    exact Completes.of_effect (congrArg ended (State.snapAttach_exposes h he hc hn hst hx hhas hnew)) ⟨Assoc.look_put_self _ _ _, rfl⟩
  case created =>
    intro s e c l hf hc hs hh
    have heq := (State.flushDone_ok hf).trans (State.flushed_create (s := s.unflushed l) hc hs hh)
    obtain ⟨hstatus, hepoch, hdone, -⟩ := State.snpDone_rd ((s.unflushed l).setCat e { c with armed := true }) STS_OK e
    exact Completes.of_effect (congrArg ended heq) ⟨rfl, Assoc.look_put_self _ _ _, hstatus, hdone, hepoch⟩
  case withdrawn =>
    intro s e c l hf hc hs
    refine Completes.of_effect (u := s.unflushed (.withdraw e :: l)) (congrArg ended ?_) ⟨rfl, rfl, rfl⟩
    simp only [State.flushDone, hf, Bool.false_eq_true, if_false, hc, Option.any_some, hs]
    rfl
  case ready =>
    intro s e c l hf hc hs
    have hsnp := State.flushed_ready (s := s.unflushed l) hc hs
    refine Completes.of_effect (congrArg ended (State.flushDone_ok hf)) ⟨?_, ?_⟩
    · rw [hsnp]
      rfl
    · rw [State.cat, hsnp]
      exact Assoc.look_put_self _ _ _
  case removed =>
    intro s e k l hf
    refine Completes.of_effect (congrArg ended (State.flushDone_ok hf)) ?_
    have hdel : ((s.unflushed l).snp.cat.del e).look e = none := Assoc.look_del_self _ _
    cases k
    · exact ⟨rfl, hdel, rfl⟩
    · exact ⟨rfl, hdel, rfl⟩
  case held =>
    intro s e c hc hst harmed howns hh hl
    obtain ⟨now, hnow, hadv⟩ := State.advanceCt_unleased hl (Frac.int (c.cut : Nat))
    have hgo : (c.state != epPending || !s.ownsNs c.nsid) = false := by rw [hst, howns]; rfl
    refine Completes.of_effect (u := State.snpError { s with now := now, snp := { s.snp with heldNs := s.snp.heldNs.insert c.nsid } }
      Fld.SNP_ERR_CUT_HELD c.nsid 0) (congrArg ended ?_) ⟨NatSet.mem_insert_self _ _, ?_, rfl, hnow⟩
    · simp only [State.cutInstant, hc, hgo, hadv, harmed, hh, Bool.false_eq_true, if_false]
    · exact State.rd_snpError_self _ _ _ (by decide) (by decide) (by decide)
  case sealed =>
    intro s e c hc hst harmed howns he hl
    obtain ⟨now, hnow, hadv⟩ := State.advanceCt_unleased hl (Frac.int (c.cut : Nat))
    have hgo : (c.state != epPending || !s.ownsNs c.nsid) = false := by rw [hst, howns]; rfl
    have heq : s.cutInstant e = State.seal { s with now := now } e c := by
      simp only [State.cutInstant, hc, hgo, hadv, harmed, Bool.false_eq_true, if_false, if_true]
    obtain ⟨hnext, -, ⟨x, hold⟩, hnew⟩ := State.seal_spec (s := { s with now := now }) (c := c) he
    exact Completes.of_effect (congrArg ended heq) ⟨hnext, ⟨_, hold, rfl, rfl, rfl⟩, hnew⟩
  case flush =>
    intro s e c hc hst howns hopen hf
    refine Completes.of_effect (u := s.flush (.ready e)) (congrArg ended ?_) ⟨rfl, rfl, rfl⟩
    have hgo : (c.state != epSealing || !s.ownsNs c.nsid || s.stampOpen c || s.snp.flushes.any (fun f => f == .ready e)) = false := by
      rw [hst, howns, hopen, hf]
      rfl
    simp only [State.cutReady, hc, hgo, Bool.false_eq_true, if_false]
  case open_ =>
    intro s e c hc hopen
    refine Completes.of_effect (u := s) (congrArg ended ?_) ⟨rfl, rfl⟩
    have hstop : (c.state != epSealing || !s.ownsNs c.nsid || s.stampOpen c || s.snp.flushes.any (fun f => f == .ready e)) = true := by
      rw [hopen]
      simp
    simp only [State.cutReady, hc, hstop, if_true]
  case schedule =>
    intro s k ns at_ n he hk hk' hp hnss hpol howns hspan hrep hcat hdue
    have hgo : (!s.enabled Blk.SNP || decide (k = 0) || decide (32 ≤ k)) = false := by
      simp [he, Nat.ne_of_gt hk, hk']
    have heq : s.schedTrigger k = s.schedCut k ns := by
      simp only [State.schedTrigger, hgo, Bool.false_eq_true, if_false, State.boundary_eq hp, hnss, List.map_cons, List.map_nil, List.foldl_cons,
        List.foldl_nil]
    obtain ⟨-, hflushes, ⟨x, hentry⟩, -⟩ := State.seal_spec (s := (s.newEpoch (s.schedEntry k ns at_)).1) (c := s.schedEntry k ns at_)
      (Nat.lt_succ_self s.snp.nextEpoch)
    refine Completes.of_effect (congrArg ended (heq.trans (State.schedCut_first hpol howns hspan hrep hcat hdue)))
      ⟨congrArg (· ++ _) hflushes, _, hentry, rfl, rfl, rfl, rfl, rfl⟩

end Sys2Proof.Machine
end

section
-- One proof at a time: elaborated side by side, the one-file compile runs out of threads.
set_option Elab.async false
/-! PROOFS. SNP: replication links at the source and at the target (R409 to R416). -/
namespace Sys2Proof.Machine

open Sys2Proof

/-! ## Links -/

/-- A link changed. -/
theorem State.look_modLink {s : State} {l : Nat} {x : Link} (h : s.snp.links.look l = some x) (f : Link → Link) :
    (s.modLink l f).snp.links.look l = some (f x) := by
  rw [State.modLink, Assoc.look_modify_self, h]
  rfl

/-- The batch that a link sends next (R409). -/
def State.nextBatch (s : State) (l : Nat) (x : Link) (kind cut base : Nat) (last : Bool) (rs : List BatchRec) : Batch :=
  { kind := kind, srcArray := s.arrayId, link := l, cut := cut, base := base, seq := x.nextBatch, last := last, status := 0, crcOk := true,
    records := rs }

/-- A batch sent takes the link's next number, and waits for its reply (R409). -/
theorem State.sendBatch_sends {s : State} {l : Nat} {x : Link} (h : s.snp.links.look l = some x) (kind cut base : Nat) (last : Bool)
    (rs : List BatchRec) (op : Option Nat) :
    s.sendBatch l kind cut base last rs op = (s.modLink l (fun y => { y with
      nextBatch := y.nextBatch + 1
      sent := y.sent.put x.nextBatch { b := s.nextBatch l x kind cut base last rs, at_ := s.now, firstAt := s.now, op := op } })).emit
        (.batch (s.rd Fld.SNP_RLINK_ARRAY l) (s.nextBatch l x kind cut base last rs)) := by
  simp only [State.sendBatch, h]
  rfl

/-- The state of a link written reads back. -/
theorem State.linkState_wr (s : State) {v : Nat} (l : Nat) (hv : v < 8) : (s.wr Fld.SNP_RLINK_STAT_STATE v l).linkState l = v := by
  rw [State.linkState, State.rd_wr_self]
  exact Nat.mod_eq_of_lt hv

theorem State.linkState_modLink (s : State) (l k : Nat) (f : Link → Link) : (s.modLink k f).linkState l = s.linkState l := rfl

/-! ## The source -/

/-- A READY cut after the base goes out as one delta (R410). -/
theorem State.deltaShip_ships {s : State} {l e ns : Nat} {x : Link} {c : CatEntry} (he : s.enabled Blk.SNP = true)
    (hp : s.admittedPend Blk.SNP = false) (hx : s.snp.links.look l = some x) (hn : s.linkNs l = some ns) (hc : s.cat e = some c)
    (hst : s.linkState l = linkAsync) (hcn : c.nsid = ns) (hcs : c.state = epReady) (hs : x.shipping = none) (hb : x.base < c.cut) :
    s.deltaShip l e = (s.modLink l (fun x => { x with shipping := some (c.cut, e) })).sendBatch l 2 c.cut ((s.baseCut x).getD 0) true
      ((s.modLink l (fun x => { x with shipping := some (c.cut, e) })).deltaRecs ns (s.baseCut x) c.cut) none := by
  have hgo : (!s.enabled Blk.SNP || !(s.linkState l == linkAsync || s.linkState l == linkCatchup) || c.nsid != ns || c.state != epReady ||
      x.shipping.isSome || decide (c.cut ≤ x.base)) = false := by
    simp [he, hst, hcn, hcs, hs, hb]
  simp only [State.deltaShip, State.boundary_eq hp, hx, hn, hc, hgo, Bool.false_eq_true, if_false]

/-- A batch without a reply is sent again (R409). -/
theorem State.batchTimeout_again {s : State} {l q : Nat} {x : Link} {b : SentBatch} (hx : s.snp.links.look l = some x)
    (hb : x.sent.look q = some b) (hl : s.aon.leaseEnd = none) :
    s.batchTimeout l q = (State.modLink { s with now := max s.now (b.at_ + s.rd Fld.SNP_RLINK_SYNC_TMO_US l * unitsPerUs) } l (fun x =>
      { x with sent := x.sent.modify q (fun y =>
        { y with at_ := max s.now (b.at_ + s.rd Fld.SNP_RLINK_SYNC_TMO_US l * unitsPerUs) }) })).emit
          (.batch (s.rd Fld.SNP_RLINK_ARRAY l) b.b) := by
  simp only [State.batchTimeout, hx, hb, State.advanceUs, State.advance_unleased hl]
  rfl

/-- An accepted write that waits for its link goes out (R413). -/
theorem State.syncSend_sends {s : State} {o l : Nat} {x : WriteOp} {k : Link} (hx : s.ops.look o = some x)
    (hs : s.syncLink x.nsid x.tA = some l) (ha : x.accepted = true) (hy : x.synced = false) (hk : s.snp.links.look l = some k)
    (hn : k.sent.any (fun e => e.2.op == some o) = false) : s.syncSend o = s.sendBatch l 3 x.tA 0 false (syncRecs x) (some o) := by
  simp only [State.syncSend, hx, hs, hk, ha, hy, hn, Bool.not_true, Bool.or_self, Bool.false_eq_true, if_false]

/-- With no write open, a synchronous write dropped is the link's fall to CATCHUP, and its batches forgotten (R413). -/
theorem State.syncDrop_noOps {s : State} (h : s.ops = []) (l : Nat) (o : Option Nat) :
    s.syncDrop l o = State.modLink (if s.linkState l = linkSync ∨ s.linkState l = linkCatchup then s.wr Fld.SNP_RLINK_STAT_STATE linkCatchup l
      else s) l (fun x => { x with cr := none, sent := x.sent.keep (fun _ b => b.op != o || o.isNone) }) := by
  cases o with
  | none => rfl
  | some k =>
    have hlook : ∀ (t : State) (f : Link → Link), t.ops = [] → (t.modLink l f).ops.look k = none := fun t f ht => by
      show t.ops.look k = none
      rw [ht]
      rfl
    simp only [State.syncDrop]
    rw [hlook]
    split
    · exact h
    · exact h

/-- With no write open, writes dropped on a SUSPENDED link leave it so (R414). -/
theorem State.syncDrops_suspended {s : State} {l : Nat} (ops : List Nat) (h : s.ops = []) (hl : s.linkState l = linkSuspended) :
    State.Frame (fun s t => { s with snp := { s.snp with links := t.snp.links } }) [] s (ops.foldl (fun s o => s.syncDrop l (some o)) s) := by
  induction ops generalizing s with
  | nil => exact State.Frame.refl s
  | cons o ops ih =>
    have heq : s.syncDrop l (some o) = s.modLink l _ := (State.syncDrop_noOps h l (some o)).trans (by
      rw [if_neg (by rw [hl]; decide)])
    rw [List.foldl_cons, heq]
    exact (State.Frame.of_eq rfl).trans (ih h hl)

/-- A link that no reply has come on for 1 s is SUSPENDED, and its synchronous writes dropped (R414). -/
theorem State.linkSuspend_drops {s : State} {l : Nat} {x : Link} (hx : s.snp.links.look l = some x) (hst : s.linkState l = linkSync)
    (hsent : x.sent ≠ []) (hl : s.aon.leaseEnd = none) :
    ∃ (now : Nat) (ops : List Nat), s.now ≤ now ∧ s.linkSuspend l =
      ops.foldl (fun s o => s.syncDrop l (some o)) (State.wr { s with now := now } Fld.SNP_RLINK_STAT_STATE linkSuspended l) := by
  have hgo : ¬ (s.linkState l = linkOff ∨ s.linkState l = linkSuspended ∨ x.sent = []) := by
    rw [hst]
    simp [hsent]
  simp only [State.linkSuspend, hx, if_neg hgo, State.advanceUs, State.advance_unleased hl]
  exact ⟨_, _, Nat.le_max_left _ _, rfl⟩

/-- The target's acknowledgement of a delta moves the base; the old base is gone from the catalogue (R414 to R416). -/
theorem State.deltaAcked_moves {s : State} {l cut e : Nat} {x : Link} (hx : s.snp.links.look l = some x) (hcr : x.cr = none)
    (hold : s.cat x.baseEpoch = none) (hne : x.baseEpoch ≠ e) :
    ∃ (u : State) (w : Nat), u.snp.links = s.snp.links ∧ s.deltaAcked l cut e =
      ((u.modLink l (fun x => { x with base := cut, baseEpoch := e, shipping := none })).wr Fld.SNP_RLINK_STAT_LAST_CUT cut l).wr
        Fld.SNP_RLINK_STAT_LAG_MS w l := by
  have hgone : ∀ (u : State) f, u.cat x.baseEpoch = none → (u.modLink l f).cat x.baseEpoch = none := fun _ _ h => h
  simp only [State.deltaAcked, hx, hne, if_false, hcr]
  cases hc : s.cat e with
  | none =>
    simp only [hgone _ _ hold]
    exact ⟨s, _, rfl, rfl⟩
  | some c =>
    have hput : (s.setCat e { c with linkBase := true }).cat x.baseEpoch = none := (Assoc.look_put_ne _ _ hne).trans hold
    simp only [hgone _ _ hput]
    exact ⟨s.setCat e { c with linkBase := true }, _, rfl, rfl⟩

/-- The reply for the last batch of a delta is judged as its acknowledgement (R409, R416). -/
theorem State.ackBatch_delta {s : State} {l q cut e : Nat} {x : Link} {b : SentBatch} (hx : s.snp.links.look l = some x)
    (hb : x.sent.look q = some b) (hk : b.b.kind = 2) (hlast : b.b.last = true) (hst : s.linkState l ≠ linkSuspended)
    (hs : x.shipping = some (cut, e)) :
    s.ackBatch l q STS_OK = (s.modLink l (fun x => { x with
      sent := x.sent.del q, lastReply := s.now, rttNs := (s.now - b.at_) / unitsPerNs })).deltaAcked l cut e := by
  have hback : ∀ f, (s.modLink l f).linkBack l = s.modLink l f := fun f => if_neg hst
  simp only [State.ackBatch, hx, hb, hback, hk, show ¬ (2 : Nat) = 3 by decide, if_false, ne_eq, not_true_eq_false, hs, hlast, if_true]

/-- CATCHUP near its end arms an internal cut (R415). -/
theorem State.catchupCut_arms {s : State} {l ns : Nat} {x : Link} (hx : s.snp.links.look l = some x) (hn : s.linkNs l = some ns)
    (hst : s.linkState l = linkCatchup) (hcr : x.cr = none) (hf : s.snp.flushes = []) (hp : s.pendingBytes l ns x < 67108864)
    (hl : s.epochLimit ns = false) :
    s.catchupCut l = (s.newEpoch (CatEntry.cutAt ns (s.ctNs + s.rd Fld.SNP_CFG_LEAD_MS * 1000000) (s.lastFrozen ns) false)).1.flush
      (.internal l s.snp.nextEpoch) := by
  have hgo : ¬ (s.linkState l ≠ linkCatchup ∨ x.cr.isSome = true ∨ (s.snp.flushes.any fun f => match f with
      | .internal k _ => k == l
      | _ => false) = true ∨ 67108864 ≤ s.pendingBytes l ns x) := by
    simp [hst, hcr, hf, hp]
  simp only [State.catchupCut, hx, hn, hl, Bool.false_eq_true, if_false]
  exact (if_neg hgo).trans rfl

/-! ## The target -/

/-- A replica once a synchronous batch has come (R411). -/
def Replica.takes (x : Replica) (b : Batch) : Replica :=
  { x with applied := x.applied.insert b.seq, partial_ := x.partial_ || b.kind == 2, sync := x.sync || b.kind == 3 }

/-- The write of one block that is newer than what the replica holds starts (R411). -/
theorem State.replicaWrite_block {u : State} {ns : Nat} {x : Replica} {r : BatchRec} {k : Nat} (tenant link seq : Nat)
    (hx : u.snp.replicas.look ns = some x) (hw : x.srcWseq.look k = none) (hk : r.kind = 1) :
    u.replicaWrite ns tenant link seq (r, k) = State.startWrite { u with snp := { u.snp with
      replicas := u.snp.replicas.put ns { x with srcWseq := x.srcWseq.put k r.srcWseq } } } (.batch link seq) tenant
        (blockReq .block ns r.laddr 1 r.data false) := by
  simp only [State.replicaWrite, hx, hw, hk, Bool.false_eq_true, if_false, if_true]

/-- A synchronous batch of one block newer than what the replica holds starts its write (R411). -/
theorem State.batchReceive_block {s : State} {ns : Nat} {b : Batch} {r : BatchRec} {x : Replica} (he : s.enabled Blk.SNP = true)
    (howns : s.ownsNs ns = true) (hcrc : b.crcOk = true) (hk : b.kind = 3) (hx : s.snp.replicas.look ns = some x)
    (hnew : x.applied.mem b.seq = false) (hr : b.records = [r]) (hrk : r.kind = 1) (hlen : r.len = 1)
    (hw : x.srcWseq.look r.laddr = none) :
    ∃ tenant, s.batchReceive ns b = State.startWrite { s with snp := { s.snp with
      replicas := (s.snp.replicas.put ns (Replica.takes x b)).put ns { Replica.takes x b with srcWseq := x.srcWseq.put r.laddr r.srcWseq } } }
        (.batch b.link b.seq) tenant (blockReq .block ns r.laddr 1 (r.data.take 1) false) := by
  have hgo : (!s.enabled Blk.SNP || !b.crcOk || !s.ownsNs ns || !(b.kind == 2 || b.kind == 3)) = false := by rw [he, hcrc, howns, hk]; rfl
  have hget : s.snp.replicas.getD ns (Replica.init b.srcArray b.link) = x := by rw [Assoc.getD, hx]; rfl
  have hbase : ¬ (b.kind = 2 ∧ b.base ≠ 0 ∧ s.snp.cat.any (fun e => e.2.nsid == ns && e.2.cut == b.base && e.2.state == epReady) = false) := by
    simp [hk]
  have hlast : ¬ (b.kind = 2 ∧ b.last = true) := by simp [hk]
  have hparts : b.records.flatMap recParts = [({ r with data := r.data.take 1, len := 1 }, r.laddr)] := by
    simp [hr, recParts, hrk, hlen, srcKey]
  simp only [State.batchReceive, hgo, hget, hnew, hbase, hlast, hparts, Bool.false_eq_true, if_false, List.foldl_cons, List.foldl_nil]
  rw [State.replicaWrite_block (x := Replica.takes x b) (r := { r with data := r.data.take 1, len := 1 }) _ _ _
    (Assoc.look_put_self _ _ _) hw hrk]
  exact ⟨_, if_neg (Nat.succ_ne_self s.nextOp)⟩

/-- Settles O48. -/
theorem linksShipAndRecover : Obligations.LinksShipAndRecover := by
  unfold Obligations.LinksShipAndRecover
  refine ⟨?ship, ?receive, ?ack, ?again, ?sync, ?late, ?catchup, ?suspend, ?rpo⟩
  case ship =>
    intro s l e ns x c he hp hx hn hc hst hcn hcs hs hb
    have heq := (State.deltaShip_ships he hp hx hn hc hst hcn hcs hs hb).trans
      (State.sendBatch_sends (State.look_modLink hx _) _ _ _ _ _ _)
    exact Completes.of_effect (congrArg ended heq) ⟨rfl, ⟨_, rfl, rfl, rfl, rfl, rfl⟩, _, State.look_modLink (State.look_modLink hx _) _, rfl, rfl⟩
  case receive =>
    intro s ns b r x he howns hcrc hk hx hnew hr hrk hlen hw
    obtain ⟨tenant, heq⟩ := State.batchReceive_block he howns hcrc hk hx hnew hr hrk hlen hw
    exact Completes.of_effect (congrArg ended heq) ⟨⟨rfl, rfl, rfl, _, State.startWrite_look _ _ _ _, rfl, rfl, rfl, rfl, rfl, rfl⟩, _,
      Assoc.look_put_self _ _ _, NatSet.mem_insert_self _ _, Assoc.look_put_self _ _ _⟩
  case ack =>
    intro s l q cut e x b hl hx hb hk hlast hst hs hcr hold hne
    have hx' := State.look_modLink hx (fun x => { x with sent := x.sent.del q, lastReply := s.now, rttNs := (s.now - b.at_) / unitsPerNs })
    obtain ⟨u, w, hu, heq⟩ := State.deltaAcked_moves (cut := cut) (e := e) hx' hcr hold hne
    refine Completes.of_effect (congrArg ended ((State.ackBatch_delta hx hb hk hlast hst hs).trans heq)) ⟨?_, _,
      State.look_modLink (s := u) (by rw [hu]; exact hx') _, rfl, rfl, rfl, Assoc.look_del_self _ _⟩
    exact (State.rd_wr_row _ _ _ (by decide) (by decide)).trans (State.rd_wr_self _ _ _ _ _)
  case again =>
    intro s l q x b hx hb hl
    refine Completes.of_effect (congrArg ended (State.batchTimeout_again hx hb hl)) ⟨rfl, rfl, rfl, _, State.look_modLink hx _, ?_⟩
    rw [Assoc.look_modify_self, hb]
    rfl
  case sync =>
    intro s o l x k hx hs ha hy hk hn
    have heq := (State.syncSend_sends hx hs ha hy hk hn).trans (State.sendBatch_sends hk _ _ _ _ _ _)
    exact Completes.of_effect (congrArg ended heq) ⟨rfl, rfl, _, rfl, rfl, rfl, rfl⟩
  case late =>
    intro s l q x b hl hx hb hk hst hops hlease
    have heq : s.syncTimeout l q = State.syncDrop
        { s with now := max s.now (b.firstAt + 4 * s.rd Fld.SNP_RLINK_SYNC_TMO_US l * unitsPerUs) } l b.op := by
      simp only [State.syncTimeout, hx, hb, hk, ne_eq, not_true_eq_false, if_false, State.advanceUs, State.advance_unleased hlease]
    have hst' : State.linkState { s with now := max s.now (b.firstAt + 4 * s.rd Fld.SNP_RLINK_SYNC_TMO_US l * unitsPerUs) } l = linkSync := hst
    rw [State.syncDrop_noOps (by exact hops), if_pos (.inl hst')] at heq
    refine Completes.of_effect (congrArg ended heq) ⟨?_, rfl⟩
    rw [State.linkState_modLink]
    exact State.linkState_wr _ _ (by decide)
  case catchup =>
    intro s l ns x hx hn hst hcr hf hp hl
    exact Completes.of_effect (congrArg ended (State.catchupCut_arms hx hn hst hcr hf hp hl))
      ⟨by rw [State.flush]; exact congrArg (· ++ _) hf, rfl, _, Assoc.look_put_self _ _ _, rfl, rfl, rfl⟩
  case suspend =>
    intro s l x hl hx hst hsent hops hlease
    obtain ⟨now, ops, hnow, heq⟩ := State.linkSuspend_drops hx hst hsent hlease
    obtain ⟨hframe, -⟩ := State.syncDrops_suspended (s := State.wr { s with now := now } Fld.SNP_RLINK_STAT_STATE linkSuspended l) ops hops
      (State.linkState_wr (v := linkSuspended) _ _ (by decide))
    refine Completes.of_effect (congrArg ended (heq.trans hframe)) ⟨?_, hnow, rfl⟩
    exact State.linkState_wr (v := linkSuspended) { s with now := now } l (by decide)
  case rpo =>
    intro s l ns x hx hn hlease
    obtain ⟨now, hnow, hadv⟩ := State.advanceCt_unleased hlease
      (Frac.int ((s.rd Fld.SNP_RLINK_STAT_LAST_CUT l + (s.rd Fld.SNP_RLINK_RPO_MS l + 1) * 1000000 : Nat)))
    have heq : ∃ w a, s.rpoMiss l = State.record (State.snpError (State.wr { s with now := now } Fld.SNP_RLINK_STAT_LAG_MS w l)
        Fld.SNP_ERR_RPO_MISS ns l) Blk.SNP 0x2001 l 0 0 a := by
      simp only [State.rpoMiss, hx, hn, hadv]
      exact ⟨_, _, rfl⟩
    obtain ⟨w, a, heq⟩ := heq
    have hrec := State.record_frame (State.snpError (State.wr { s with now := now } Fld.SNP_RLINK_STAT_LAG_MS w l) Fld.SNP_ERR_RPO_MISS ns l)
      Blk.SNP 0x2001 l 0 0 a
    refine Completes.of_effect (congrArg ended heq) ⟨?_, ?_, ?_⟩
    · rw [hrec.rd_apart]
      exact State.rd_snpError_self _ _ _ (by decide) (by decide) (by decide)
    · rw [hrec.1]
      exact hnow
    · rw [hrec.1]
      rfl

end Sys2Proof.Machine
end

section
-- One proof at a time: elaborated side by side, the one-file compile runs out of threads.
set_option Elab.async false
/-! PROOFS. A latched value of a field that HRI's own boundary clears (R102, R441). -/

namespace Sys2Proof.Machine

open Sys2Proof

/-- Where `HRI_RING_STATE[0].KEPT` stands. -/
def kept0 : Nat := Fld.HRI_RING_STATE_KEPT.key 0 0

/-- An admitted commit of HRI waits, whose latched values are a first ring for function 0 and, though it is no configuration field, 1 for
`HRI_RING_STATE[0].KEPT`; the window of ring 0 is kept for function 0. -/
def State.withLatchedKept : State :=
  { State.reset with
    latched := [(Fld.HRI_FN_RINGS_BASE.key 0 0, 5), (kept0, 1)]
    adm := { State.reset.adm with pend := [(Blk.HRI, { gen := 1, admitted := true })] }
    wins := [(0, RWin.fresh 32 0 0)] }

/-- The commit moves function 0's rings, so the window that was kept for it is dropped, and the boundary writes KEPT 0 after the latched 1. -/
theorem State.withLatchedKept_boundary : (State.withLatchedKept.takeEffect Blk.HRI).regs.look kept0 = none := by decide +kernel

/-- Refutes O20: its clause of COMMIT_TAKE_EFFECT says that every latched value of the block stands in the register table. The latched
table, which it bounds by its order alone, may hold a value for `HRI_RING_STATE.KEPT`, and HRI's boundary writes that field itself. -/
theorem not_commitsAndAdmissionGuardTheConfiguration : ¬ Obligations.CommitsAndAdmissionGuardTheConfiguration := by
  intro h
  obtain ⟨-, -, -, -, heffect, -⟩ := h
  have hcompletes := heffect State.withLatchedKept Blk.HRI Fld.HRI_ACTIVE_GEN_GEN (by decide) rfl (by decide) (by decide) (by decide)
  obtain ⟨-, -, hvals⟩ := hcompletes.of_exec (u := State.withLatchedKept.takeEffect Blk.HRI) rfl
  have hkept := hvals kept0 1 (by decide)
  have hnone := State.withLatchedKept_boundary
  generalize State.withLatchedKept.takeEffect Blk.HRI = u at hkept hnone
  have hsome : u.regs.look kept0 = some 1 := hkept
  rw [hnone] at hsome
  exact absurd hsome (by decide)

end Sys2Proof.Machine
end

section
-- One proof at a time: elaborated side by side, the one-file compile runs out of threads.
set_option Elab.async false
/-! PROOFS. A regulator that names a chain beyond the two (R483, R484). -/

namespace Sys2Proof.Machine

open Sys2Proof

/-- Where the status of chain 2 would stand, were there one: the chains are 0 and 1 (R483). -/
def chain2 : Nat := Fld.PWR_CHAIN_STATUS.key 2 0

/-- Regulator 0 is listed, and `PWR_PMB_DEV[0].CHAIN`, a field of one bit, stands in the register table at 2. -/
def State.withChain2 : State :=
  { State.reset with
    regs := [(Fld.PWR_CTRL_ENABLE.key 0 0, 1), (Fld.PWR_PMB_DEV_VALID.key 0 0, 1), (Fld.PWR_PMB_DEV_CHAIN.key 0 0, 2)] }

/-- No chain of the table has its status there (R518). -/
theorem chain2_apart : ∀ f ∈ [Fld.PWR_CHAIN_STATUS, Fld.PWR_ERR_INFO_DEV, Fld.PWR_ERR_PMB_NAK], ∀ i j,
    i < f.first + f.count → j < f.count2 → f.key i j ≠ chain2 := by
  have hrows : ∀ f ∈ [Fld.PWR_CHAIN_STATUS, Fld.PWR_ERR_INFO_DEV, Fld.PWR_ERR_PMB_NAK],
      ∀ i < f.first + f.count, ∀ j < f.count2, f.key i j ≠ chain2 := by decide
  exact fun f hf i j hi hj => hrows f hf i hi j hj

/-- Regulator 0 answers that it is faulted: bit 4 of its status word. -/
abbrev faultedAnswers : List PmbAnswer := [{ dev := 0, status := some 16, pout := none }]

/-- The alert writes the status word there. -/
theorem State.withChain2_alert : (State.withChain2.pmbAlert faultedAnswers).regs.look chain2 = some 16 := by decide +kernel

/-- Refutes O59: its clause of PMB_ALERT bounds no chain. A regulator's CHAIN outside its one bit, which the statement's states may hold,
has the status word written outside the two chains' table, and so outside the fields that the clause names. -/
theorem not_framesOfHeadCommands : ¬ Obligations.FramesOfHeadCommands := by
  intro h
  obtain ⟨-, -, -, -, -, -, -, -, halert, -⟩ := h
  obtain ⟨-, hregs⟩ := (halert State.withChain2 faultedAnswers).of_exec (u := State.withChain2.pmbAlert faultedAnswers) rfl
  have hnew := State.withChain2_alert
  generalize State.withChain2.pmbAlert faultedAnswers = u at hregs hnew
  have hkept : u.regs.look chain2 = State.withChain2.regs.look chain2 := hregs chain2 chain2_apart
  rw [hnew] at hkept
  exact absurd hkept (by decide +kernel)

end Sys2Proof.Machine
end

section
-- One proof at a time: elaborated side by side, the one-file compile runs out of threads.
set_option Elab.async false
/-! PROOFS. Frames of the commands of keys and values, the match engine, ownership and snapshots. -/
namespace Sys2Proof.Machine

open Sys2Proof

/-! ## From an effect's frame to its command's -/

/-- A command ends in a frame when its effect is in a narrower one: the always-on logic at its end touches the always-on part alone. -/
theorem Completes.framed {U : State → State → State} {V : State → State} {l m : List Field} {c : Instr} {s u : State}
    (hf : State.Frame U l s u) (h : exec c s = ended u := by rfl) (hl : ∀ f ∈ l, f ∈ m := by decide)
    (hV : ∀ t a, V { U s t with aon := a } = { U s t with aon := a } := by intros; rfl) :
    Completes c s (fun t => t = V t ∧ s.RegsBut t m) := by
  refine Completes.of_ended h ⟨?_, (hf.2.mono hl).trans (State.RegsBut.of_eq rfl m)⟩
  have hu : { u with aon := u.aon.settled } = { U s u with aon := u.aon.settled } := by rw [← hf.1]
  rw [hu, hV]

/-- The same for the components alone. -/
theorem Completes.framed_alone {U : State → State → State} {V : State → State} {l : List Field} {c : Instr} {s u : State}
    (hf : State.Frame U l s u) (h : exec c s = ended u := by rfl)
    (hV : ∀ t a, V { U s t with aon := a } = { U s t with aon := a } := by intros; rfl) : Completes c s (fun t => t = V t) := by
  obtain ⟨t, ht, heq, -⟩ := Completes.framed (m := l) hf h (fun _ hm => hm) hV
  exact ⟨t, ht, heq⟩

/-! ## The match engine (R358 to R368) -/

/-- What a request for a power domain may touch: PWR's own state and its registers (R480, R481). -/
abbrev powers (s t : State) : State := { s with pwr := t.pwr, regs := t.regs }

theorem State.domRequest_frame (s : State) (d : Nat) (on cmd : Bool) : State.Frame powers domFields s (s.domRequest d on cmd) :=
  s.domRequest_powerOnly d on cmd

theorem State.mteBankPowerUp_frame (s : State) (bank : Nat) : State.Frame powers domFields s (s.mteBankPowerUp bank) := by
  unfold State.mteBankPowerUp
  exact State.Frame.ite (fun _ => State.domRequest_frame _ _ _ _) (fun _ => State.Frame.refl s)

/-- What a command on a bank may touch: the entries and the registers. -/
abbrev banks (s t : State) : State := { s with mte := t.mte, regs := t.regs }

/-- The register fields that entering or leaving bulk mode writes. -/
abbrev bulkFields : List Field := [Fld.MTE_BANK_STATE_STATE, Fld.MTE_ERR_BULK_LIVE, Fld.MTE_ERR_INFO_INDEX]

/-- Entering or leaving bulk mode touches registers alone (R367). -/
theorem State.mteBulkEnter_frame (s : State) (k : Nat) :
    State.Frame (fun s t => { s with regs := t.regs }) bulkFields s (s.mteBulkEnter k) := by
  unfold State.mteBulkEnter
  refine State.Frame.ite (fun _ => (State.Frame.wr _ _ _).trans (State.Frame.wr _ _ _)) (fun _ => ?_)
  exact State.Frame.ite (fun _ => State.Frame.wr _ _ _) (fun _ => State.Frame.refl s)

theorem State.mteBulkLeave_frame (s : State) (k : Nat) :
    State.Frame (fun s t => { s with regs := t.regs }) bulkFields s (s.mteBulkLeave k) := by
  unfold State.mteBulkLeave
  refine State.Frame.ite (fun _ => (State.Frame.wr _ _ _).trans (State.Frame.wr _ _ _)) (fun _ => ?_)
  exact State.Frame.ite (fun _ => State.Frame.wr _ _ _) (fun _ => State.Frame.refl s)

theorem State.setMte_frame {l : List Field} (s : State) (i : Nat) (e : MteEntry) : State.Frame banks l s (s.setMte i e) :=
  State.Frame.of_eq rfl

theorem State.mteBulkLoad_frame (s : State) (bank first count : Nat) (images : Option (List MteEntry)) :
    State.Frame banks [Fld.MTE_ERR_BULK_LIVE, Fld.MTE_ERR_BULK_SRC, Fld.MTE_ERR_INFO_INDEX] s (s.mteBulkLoad bank first count images) := by
  unfold State.mteBulkLoad
  refine State.Frame.ite (fun _ => (State.Frame.wr _ _ _).trans (State.Frame.wr _ _ _)) (fun _ => ?_)
  refine State.Frame.ite (fun _ => State.Frame.refl s) (fun _ => ?_)
  split
  · exact (State.Frame.wr _ _ _).trans (State.Frame.wr _ _ _)
  · exact State.Frame.foldl (List.range _) (fun u _ _ => State.Frame.ite (fun _ => State.setMte_frame _ _ _) (fun _ => State.Frame.refl u)) s

/-- What the power of a pair of banks may touch. -/
abbrev bankPowers (s t : State) : State := { s with mte := t.mte, pwr := t.pwr, regs := t.regs }

/-- The register fields that it writes. -/
abbrev bankPowerFields : List Field :=
  [Fld.MTE_BANK_STATE_STATE, Fld.MTE_ERR_INFO_INDEX, Fld.MTE_ERR_POWER_LIVE, Fld.PWR_DOM_RESULT_BUSY, Fld.PWR_DOM_RESULT_DONE,
    Fld.PWR_DOM_RESULT_STATUS, Fld.PWR_ERR_DOM_REFUSED, Fld.PWR_ERR_INFO_DOMAIN, Fld.PWR_STATUS_DOM_BUSY]

theorem State.mteBankPowerDown_frame (s : State) (bank : Nat) : State.Frame bankPowers bankPowerFields s (s.mteBankPowerDown bank) := by
  unfold State.mteBankPowerDown
  refine State.Frame.ite (fun _ => (State.Frame.wr _ _ _).trans (State.Frame.wr _ _ _)) (fun _ => ?_)
  refine State.Frame.ite (fun _ => State.Frame.refl s) (fun _ => ?_)
  refine State.Frame.trans ?_ ((State.domRequest_frame _ _ _ _).mono)
  exact State.Frame.trans (State.Frame.trans (State.Frame.of_eq rfl) (State.Frame.wr _ _ _)) (State.Frame.wr _ _ _)

/-! ## Ownership (R371 to R394) -/

/-- What an innkeeper's judgement may touch. -/
abbrev judges (s t : State) : State := { s with out := t.out, own := t.own, regs := t.regs }

theorem State.ikReply_frame {l : List Field} (s : State) (m : IkMsg) (op : IkOp) (status word : Nat) :
    State.Frame judges l s (s.ikReply m op status word) :=
  State.Frame.of_eq rfl

theorem State.setIkRecord_frame {l : List Field} (s : State) (a : Nat) (r : IkRecord) : State.Frame judges l s (s.setIkRecord a r) :=
  State.Frame.of_eq rfl

/-- A record changed, then a reply. -/
theorem State.ikRecorded_frame {l : List Field} (s : State) (a : Nat) (r : IkRecord) (m : IkMsg) (op : IkOp) (status word : Nat) :
    State.Frame judges l s ((s.setIkRecord a r).ikReply m op status word) :=
  (State.setIkRecord_frame _ _ _).trans (State.ikReply_frame _ _ _ _ _)

/-- A request is judged in the frame that its own rule keeps (R373, R376). -/
theorem State.ikJudge_frame {U : State → State → State} (s : State) (op : IkOp) (m : IkMsg) {f : State → State}
    (hf : ∀ u, State.Frame U [Fld.OWN_ERR_MAC_FAIL] u (f u)) (hV : ∀ s t, U s (judges s t) = judges s t := by intros; rfl)
    (hU : ∀ s t u, U (U s t) u = U s u := by intros; rfl) : State.Frame U [Fld.OWN_ERR_MAC_FAIL] s (s.ikJudge op m f) := by
  have hjudge {u v : State} (h : State.Frame judges [Fld.OWN_ERR_MAC_FAIL] u v) : State.Frame U [Fld.OWN_ERR_MAC_FAIL] u v :=
    h.mono (fun _ hm => hm) hV
  unfold State.ikJudge
  refine State.Frame.ite (fun _ => hjudge (State.Frame.refl s)) (fun _ => State.Frame.ite (fun _ => hjudge ?_) (fun _ => ?_))
  · exact (State.Frame.wr s Fld.OWN_ERR_MAC_FAIL 1).trans (State.Frame.of_eq rfl)
  · refine State.Frame.ite (fun _ => hjudge (State.ikReply_frame _ _ _ _ _)) (fun _ => ?_)
    have hheard (o : Own) : State.Frame U [Fld.OWN_ERR_MAC_FAIL] s { s with own := o } := hjudge (State.Frame.of_eq rfl)
    have hanswer (u : State) : State.Frame U [Fld.OWN_ERR_MAC_FAIL] u
        (if u.own.ikRecovering.isSome then u.ikReply m .refuse STS_IK_RECOVERING 0 else f u) :=
      State.Frame.ite (fun _ => hjudge (State.ikReply_frame _ _ _ _ _)) (fun _ => hf _)
    exact (hheard _).trans (hanswer _) hU

theorem State.ikAcquire_frame (s : State) (m : IkMsg) : State.Frame judges [Fld.OWN_ERR_MAC_FAIL] s (s.ikAcquire m) := by
  refine State.ikJudge_frame (U := judges) s _ m fun u => ?_
  dsimp only
  split
  · exact State.Frame.ite (fun _ => State.ikReply_frame _ _ _ _ _) (fun _ => State.ikRecorded_frame _ _ _ _ _ _ _)
  · exact State.ikRecorded_frame _ _ _ _ _ _ _

theorem State.ikRenew_frame (s : State) (m : IkMsg) : State.Frame judges [Fld.OWN_ERR_MAC_FAIL] s (s.ikRenew m) := by
  refine State.ikJudge_frame (U := judges) s _ m fun u => ?_
  refine State.Frame.ite (fun _ => State.ikReply_frame _ _ _ _ _) (fun _ => ?_)
  dsimp only
  split
  · refine State.Frame.ite (fun _ => ?_) (fun _ => State.ikRecorded_frame _ _ _ _ _ _ _)
    exact (State.ikRecorded_frame _ _ _ _ _ _ _).trans (State.ikRecorded_frame _ _ _ _ _ _ _)
  · exact State.ikRecorded_frame _ _ _ _ _ _ _

theorem State.ikTake_frame (s : State) (m : IkMsg) : State.Frame judges [Fld.OWN_ERR_MAC_FAIL] s (s.ikTake m) := by
  refine State.ikJudge_frame (U := judges) s _ m fun u => ?_
  refine State.Frame.ite (fun _ => State.ikReply_frame _ _ _ _ _) (fun _ => ?_)
  exact State.Frame.ite (fun _ => State.setIkRecord_frame _ _ _) (fun _ => State.ikRecorded_frame _ _ _ _ _ _ _)

theorem State.ikHandover_frame (s : State) (m : IkMsg) : State.Frame judges [Fld.OWN_ERR_MAC_FAIL] s (s.ikHandover m) := by
  refine State.ikJudge_frame (U := judges) s _ m fun u => ?_
  exact State.Frame.ite (fun _ => State.ikRecorded_frame _ _ _ _ _ _ _) (fun _ => State.ikReply_frame _ _ _ _ _)

/-- What sending a HANDOVER may touch. -/
abbrev hands (s t : State) : State := { s with aon := t.aon, out := t.out, own := t.own }

theorem State.handoverSend_frame (s : State) (kind first count : Nat) : State.Frame hands [] s (s.handoverSend kind first count) := by
  unfold State.handoverSend
  rw [State.ikSendAll_eq]
  exact State.Frame.of_eq rfl

theorem State.groupRelease_frame (s : State) (g : Nat) : State.Frame hands [] s (s.groupRelease g) := by
  unfold State.groupRelease
  have hmark : State.Frame hands [] s { s with own := { s.own with releasing := s.own.releasing.insert g } } := State.Frame.of_eq rfl
  refine State.Frame.ite (fun _ => State.Frame.refl s) (fun _ => hmark.trans ?_)
  refine State.Frame.ite (fun _ => State.Frame.refl _) (fun _ => State.Frame.trans (State.Frame.of_eq (t := State.dropGroup _ g) rfl) ?_)
  exact State.Frame.ite (fun _ => State.handoverSend_frame _ _ _ _) (fun _ => State.Frame.of_eq rfl)

/-- What handing a set over may touch. -/
abbrev handsSet (s t : State) : State := { s with aon := t.aon, nvf := t.nvf, out := t.out, own := t.own }

theorem State.handoverSet_frame (s : State) (o : Nat) : State.Frame handsSet [] s (s.handoverSet o) := by
  unfold State.handoverSet
  have hmove : State.Frame handsSet [] s (s.moveSet o) :=
    State.Frame.ite (fun _ => State.Frame.refl s) (fun _ => State.Frame.trans (State.Frame.of_eq rfl) ((State.anaNotices_frame _).mono))
  refine State.Frame.ite (fun _ => State.Frame.refl s) (fun _ => hmove.trans ?_)
  exact State.Frame.ite (fun _ => (State.handoverSend_frame _ _ _ _).mono) (fun _ => State.Frame.refl _)

/-- The register fields of `OWN_CMD_RESULT`. -/
abbrev ownResultFields : List Field := [Fld.OWN_CMD_RESULT_BUSY, Fld.OWN_CMD_RESULT_DONE, Fld.OWN_CMD_RESULT_STATUS]

/-- A command of `OWN_CMD` that hands over touches ownership and its result (R394). -/
theorem State.ownCmdHand_frame (s : State) (objs : List Nat) (named : Bool) :
    State.Frame (fun s t => { s with own := t.own, regs := t.regs }) ownResultFields s (s.ownCmdHand objs named) := by
  unfold State.ownCmdHand State.ownCmd
  refine State.Frame.ite (fun _ => State.Frame.refl s) (fun _ => ?_)
  refine State.Frame.trans ((State.Frame.wr _ _ _).trans (State.Frame.wr _ _ _)) (State.Frame.ite (fun _ => ?_) (fun _ => State.Frame.of_eq rfl))
  unfold State.ownCmdEnd
  refine State.Frame.ite (fun _ => ?_) (fun _ => State.Frame.refl _)
  exact ((State.Frame.wr _ _ _).trans (State.Frame.wr _ _ _)).trans (State.Frame.wr _ _ _)

/-! ## Snapshots and links (R405 to R415) -/

theorem State.sendBatch_frame (s : State) (l kind cut base : Nat) (last : Bool) (rs : List BatchRec) (op : Option Nat) :
    State.Frame (fun s t => { s with out := t.out, snp := t.snp }) [] s (s.sendBatch l kind cut base last rs op) := by
  unfold State.sendBatch
  split
  · exact State.Frame.refl s
  · exact State.Frame.of_eq rfl

theorem State.syncSend_frame (s : State) (o : Nat) : State.Frame (fun s t => { s with out := t.out, snp := t.snp }) [] s (s.syncSend o) := by
  unfold State.syncSend
  split
  · exact State.Frame.refl s
  · split
    · exact State.Frame.refl s
    · exact State.Frame.ite (fun _ => State.Frame.refl s) (fun _ => State.sendBatch_frame _ _ _ _ _ _ _ _)

/-- An error of SNP touches registers alone. -/
theorem State.snpError_frame (s : State) (f : Field) (nsid link : Nat) {l : List Field} (hf : f ∈ l) (hi : 0 < f.first + f.count)
    (hj : 0 < f.count2) (hn : Fld.SNP_ERR_INFO_NSID ∈ l) (hl : Fld.SNP_ERR_INFO_LINK ∈ l) :
    State.Frame (fun s t => { s with regs := t.regs }) l s (s.snpError f nsid link) :=
  ((State.Frame.wr s f 1 0 0 hf hi hj).trans (State.Frame.wr _ _ _ 0 0 hn)).trans (State.Frame.wr _ _ _ 0 0 hl)

/-- The register fields that a limit passed writes. -/
abbrev limitFields : List Field := [Fld.SNP_ERR_INFO_LINK, Fld.SNP_ERR_INFO_NSID, Fld.SNP_ERR_LIMIT]

theorem State.catchupCut_frame (s : State) (l : Nat) :
    State.Frame (fun s t => { s with regs := t.regs, snp := t.snp }) limitFields s (s.catchupCut l) := by
  unfold State.catchupCut
  split
  · refine State.Frame.ite (fun _ => State.Frame.refl s) (fun _ => State.Frame.ite (fun _ => ?_) (fun _ => State.Frame.of_eq rfl))
    exact State.Frame.mono
      (s.snpError_frame Fld.SNP_ERR_LIMIT _ _ (l := limitFields) (by decide) (by decide) (by decide) (by decide) (by decide))
  · exact State.Frame.refl s

/-- What a missed recovery point may touch. -/
abbrev misses (s t : State) : State := { s with aon := t.aon, gbk := t.gbk, now := t.now, regs := t.regs }

/-- The register fields that it writes. -/
abbrev missFields : List Field :=
  [Fld.GBK_ALARM_SOURCE, Fld.GBK_ERR_OVERFLOW, Fld.GBK_LOST_COUNT, Fld.OWN_ERR_SELF_FENCE, Fld.OWN_STATUS_LEASE, Fld.SNP_ERR_INFO_LINK,
    Fld.SNP_ERR_INFO_NSID, Fld.SNP_ERR_RPO_MISS, Fld.SNP_RLINK_STAT_LAG_MS]

theorem State.rpoMiss_frame (s : State) {l : Nat} (hl : l < 32) : State.Frame misses missFields s (s.rpoMiss l) := by
  unfold State.rpoMiss
  split
  · dsimp only
    have hlag (u : State) (v : Nat) : State.Frame misses missFields u (u.wr Fld.SNP_RLINK_STAT_LAG_MS v l) := State.Frame.wr _ _ _ l 0 (hi := hl)
    have hrec (u : State) (ns : Nat) (alarm : Bool) :
        State.Frame misses missFields u ((u.snpError Fld.SNP_ERR_RPO_MISS ns l).record Blk.SNP 0x2001 l 0 0 alarm) :=
      State.Frame.trans ((u.snpError_frame Fld.SNP_ERR_RPO_MISS ns l (l := missFields) (by decide) (by decide) (by decide) (by decide)
        (by decide)).mono) ((State.record_frame _ _ _ _ _ _ _).mono)
    exact (((State.advance_inFrame s _).mono).trans (hlag _ _)).trans (hrec _ _ _)
  · exact State.Frame.refl s

/-! ## Loops (R421 to R429) -/

/-- What a loop's disabling may touch. -/
abbrev loops (s t : State) : State := { s with lpe := t.lpe, regs := t.regs }

/-- The register fields that it writes. -/
abbrev loopFields : List Field :=
  [Fld.LPE_LOOP_CTRL_ENABLE, Fld.LPE_LOOP_STATE_OUT, Fld.LPE_LOOP_STATE_STATE, Fld.LPE_RUN_MASK, Fld.LPE_TRIPPED_MASK]

theorem State.loopState_frame (s : State) {n : Nat} (st : Nat) (hn : n < 64) : State.Frame loops loopFields s (s.loopState n st) :=
  ((State.Frame.wr _ Fld.LPE_LOOP_STATE_STATE _ n 0 (hi := hn)).trans (State.Frame.wr _ _ _)).trans (State.Frame.wr _ _ _)

theorem State.loopOut_frame (s : State) {n : Nat} (out : Nat) (hn : n < 64) : State.Frame loops loopFields s (s.loopOut n out) := by
  have hout := State.Frame.wr (U := loops) (l := loopFields) s Fld.LPE_LOOP_STATE_OUT out n 0 (hi := hn)
  exact State.Frame.ite (fun _ => hout) (fun _ => hout.trans (State.Frame.of_eq rfl))

theorem State.loopDisable_frame (s : State) {n : Nat} (hn : n < 64) : State.Frame loops loopFields s (s.loopDisable n) := by
  unfold State.loopDisable
  refine State.Frame.ite (fun _ => ?_) (fun _ => State.Frame.refl s)
  have hoff := (State.Frame.wr (U := loops) (l := loopFields) s Fld.LPE_LOOP_CTRL_ENABLE 0 n 0 (hi := hn)).trans
    (State.loopState_frame _ loopDisabled hn)
  exact (hoff.trans (State.loopOut_frame _ _ hn)).trans (State.Frame.of_eq rfl)

theorem State.loopSwap_frame (s : State) {n : Nat} (hn : n < 64) :
    State.Frame (fun s t => { s with regs := t.regs }) [Fld.LPE_LOOP_CTRL_SWAP] s (s.loopSwap n) :=
  State.Frame.ite (fun _ => State.Frame.wr _ _ _ n 0 (hi := hn)) (fun _ => State.Frame.refl s)

/-! ## Sessions and sweeps (R324, R338 to R341) -/

/-- A command of a session runs in the frame that its own rule keeps. -/
theorem State.enoreRun_frame {U : State → State → State} (s : State) (k n opcode : Nat) {run : State → Sess → EnoreRec → State}
    (hk : ∀ u, State.Frame (fun s t => { s with kvs := t.kvs }) [] s u → ∀ x e, State.Frame U [] s (run u x e)) (hU : U s s = s := by rfl) :
    State.Frame U [] s (s.enoreRun k n opcode run) := by
  unfold State.enoreRun
  split
  · refine State.Frame.ite (fun _ => State.Frame.refl s hU) (fun _ => hk _ ?_ _ _)
    unfold State.modCmd
    split
    · exact State.Frame.of_eq rfl
    · exact State.Frame.refl s
  · exact State.Frame.refl s hU

theorem State.enoreDelete_frame (s : State) (k n : Nat) :
    State.Frame (fun s t => { s with kvs := t.kvs, nextOp := t.nextOp, ops := t.ops }) [] s (s.enoreDelete k n) :=
  s.enoreRun_frame k n opDelete fun _ hu _ _ => hu.mono.trans (State.Frame.of_eq rfl)

theorem State.enoreClose_frame (s : State) (k n : Nat) :
    State.Frame (fun s t => { s with kvs := t.kvs, wins := t.wins }) [] s (s.enoreClose k n) :=
  s.enoreRun_frame k n opClose fun u hu _ _ => hu.mono.trans
    (State.Frame.of_eq (by rw [u.enoreEnd_frame k n _]) (by rw [u.enoreEnd_frame k n _]))

theorem State.updateKnown_frame (s : State) (e tEff : Nat) (cs : List PlaceChange) :
    State.Frame (fun s t => { s with kvs := t.kvs, regs := t.regs }) [Fld.KVS_STATUS_EPOCH_SYNCED] s (s.updateKnown e tEff cs) := by
  unfold State.updateKnown
  refine State.Frame.ite (fun _ => State.Frame.refl s) (fun _ => ?_)
  unfold State.noteEpoch State.epochSync
  rw [State.wrb_eq]
  exact State.Frame.trans (State.Frame.of_eq rfl) (State.Frame.wr _ _ _)

/-- What the end of a reference sweep may touch: the sweep, the bands and the count of passes (R324). -/
abbrev sweeps (s t : State) : State := { s with gcx := t.gcx, regs := t.regs, str := t.str }

theorem State.refSweepEnd_frame (s : State) :
    State.Frame sweeps [Fld.GCX_SWEEP_PASSES_COUNT] s s.refSweepEnd := by
  unfold State.refSweepEnd
  refine State.Frame.ite (fun _ => State.Frame.refl s) (fun _ => ?_)
  have hpass : State.Frame sweeps [Fld.GCX_SWEEP_PASSES_COUNT] s (s.bump Fld.GCX_SWEEP_PASSES_COUNT) := State.Frame.wr _ _ _
  have hbands (u : State) (bs : List Nat) : State.Frame sweeps [Fld.GCX_SWEEP_PASSES_COUNT] u
      (bs.foldl (fun (u : State) bk => u.modBand bk fun b => { b with st := .erasable }) u) :=
    State.Frame.foldl bs (fun _ _ _ => State.Frame.of_eq rfl) u
  exact (hpass.trans (hbands _ _)).trans (State.Frame.of_eq rfl)

theorem State.cutReady_frame (s : State) (e : Nat) : State.Frame (fun s t => { s with snp := t.snp }) [] s (s.cutReady e) := by
  unfold State.cutReady
  split
  · exact State.Frame.refl s
  · exact State.Frame.ite (fun _ => State.Frame.refl s) (fun _ => State.Frame.of_eq rfl)

theorem State.leaseExpiry_frame (s : State) :
    State.Frame (fun s t => { s with now := t.now, aon := t.aon, gbk := t.gbk, regs := t.regs }) leaseFields s s.leaseExpiry := by
  unfold State.leaseExpiry
  split
  · exact s.advance_inFrame _
  · exact State.Frame.refl s

theorem State.groupClaim_frame (s : State) (g : Nat) :
    State.Frame (fun s t => { s with aon := t.aon, gbk := t.gbk, regs := t.regs }) claimFields s (s.groupClaim g) :=
  State.Frame.ite (fun _ => s.claimGroup_frame g) (fun _ => State.Frame.refl s)

theorem State.returnReceive_frame (s : State) :
    State.Frame (fun s t => { s with aon := t.aon, own := t.own, pjm := t.pjm }) [] s s.returnReceive :=
  State.Frame.ite (fun _ => State.Frame.of_eq rfl) (fun _ => State.Frame.refl s)

/-- Settles O58: each command's effect runs through operations whose components and register fields are known; the lemma of each command names
them, and the always-on logic at its end touches the always-on part alone. -/
theorem framesOfServiceCommands : Obligations.FramesOfServiceCommands := by
  unfold Obligations.FramesOfServiceCommands
  refine ⟨?_, ?_, ?_, ?_, ?_, ?_, ?_, ?_, ?_, ?_, ?_, ?_, ?_, ?_, ?_, ?_, ?_, ?_, ?_, ?_, ?_, ?_, ?_, ?_, ?_, ?_, ?_⟩
  · exact fun s => Completes.framed s.refSweepEnd_frame
  · exact fun s k n => Completes.framed_alone (s.enoreDelete_frame k n)
  · exact fun s k n => Completes.framed_alone (s.enoreClose_frame k n)
  · exact fun s e t cs => Completes.framed (s.updateKnown_frame e t cs)
  · exact fun s b => Completes.framed (s.mteBulkEnter_frame b)
  · exact fun s b => Completes.framed (s.mteBulkLeave_frame b)
  · exact fun s b => Completes.framed (s.mteBankPowerDown_frame b)
  · exact fun s b => Completes.framed (s.mteBankPowerUp_frame b)
  · exact fun s b first n images => Completes.framed (s.mteBulkLoad_frame b first n images)
  · exact fun s => Completes.framed s.leaseExpiry_frame
  · exact fun s m => Completes.framed (s.ikRenew_frame m)
  · exact fun s m => Completes.framed (s.ikAcquire_frame m)
  · exact fun s m => Completes.framed (s.ikTake_frame m)
  · exact fun s m => Completes.framed (s.ikHandover_frame m)
  · exact fun s g => Completes.framed (s.groupClaim_frame g)
  · exact fun s g => Completes.framed_alone (s.groupRelease_frame g)
  · exact fun s o => Completes.framed_alone (s.handoverSet_frame o)
  · exact fun s => Completes.framed_alone s.returnReceive_frame
  · exact fun s => Completes.framed (s.ownCmdHand_frame _ _)
  · exact fun s o => Completes.framed (s.ownCmdHand_frame _ _)
  · exact fun s g => Completes.framed (s.ownCmdHand_frame _ _)
  · exact fun s e => Completes.framed_alone (s.cutReady_frame e)
  · exact fun s o => Completes.framed_alone (s.syncSend_frame o)
  · exact fun s l => Completes.framed (s.catchupCut_frame l)
  · exact fun s l hl => Completes.framed (s.rpoMiss_frame hl)
  · exact fun s n hn => Completes.framed (s.loopDisable_frame hn)
  · exact fun s n hn => Completes.framed (s.loopSwap_frame hn)

end Sys2Proof.Machine
end

section
-- One proof at a time: elaborated side by side, the one-file compile runs out of threads.
set_option Elab.async false
/-! PROOFS. Frames of the commands of reduction, keys, the map, the media, stripes and reclamation. -/
namespace Sys2Proof.Machine

open Sys2Proof

/-! ## The index of chunks (R200 to R211) -/

/-- What the index alone may touch. -/
abbrev indexes (s t : State) : State := { s with ddp := t.ddp }

theorem State.recentDrop_frame {l : List Field} (s : State) (h : Nat) : State.Frame indexes l s (s.recentDrop h) := State.Frame.of_eq rfl

theorem State.unpin_frame (s : State) (h : Nat) : State.Frame indexes [] s (s.unpin h) := by
  unfold State.unpin
  split
  · exact State.Frame.refl s
  · exact State.Frame.ite (fun _ => (s.recentDrop_frame h).trans (State.Frame.of_eq rfl)) (fun _ => State.Frame.of_eq rfl)

theorem State.pinRelease_frame (s : State) (h : Nat) : State.Frame indexes [] s (s.pinRelease h) := by
  unfold State.pinRelease
  refine State.Frame.ite (fun _ => ?_) (fun _ => State.Frame.refl s)
  split
  · exact State.Frame.ite (fun _ => State.Frame.refl s) (fun _ => s.unpin_frame h)
  · exact State.Frame.refl s

/-- What a reference applied may touch: the index, and the sign of a full count (R208). -/
abbrev refers (s t : State) : State := { s with ddp := t.ddp, regs := t.regs }

theorem State.applyRef_frame (s : State) (d : Delta) : State.Frame refers [Fld.DDP_ERR_REF_SAT] s (s.applyRef d) := by
  unfold State.applyRef
  dsimp only
  refine State.Frame.ite (fun _ => ?_) (fun _ => ?_)
  · split
    · refine State.Frame.trans (State.Frame.ite (fun _ => State.Frame.wr s _ _) (fun _ => State.Frame.refl s)) (State.Frame.of_eq rfl)
    · split <;> exact State.Frame.of_eq rfl
  · split
    · exact State.Frame.ite (fun _ => State.Frame.of_eq rfl) (fun _ => State.Frame.of_eq rfl)
    · exact State.Frame.refl s

theorem State.referenceApply_frame (s : State) (mirror : Bool) (orig : Nat) :
    State.Frame refers [Fld.DDP_ERR_REF_SAT] s (s.referenceApply mirror orig) := by
  unfold State.referenceApply
  dsimp only
  split
  · exact State.Frame.refl s
  · refine State.Frame.ite (fun _ => State.Frame.refl s) (fun _ => ?_)
    have happly (ds : List Delta) (u : State) : State.Frame refers [Fld.DDP_ERR_REF_SAT] u (ds.foldl State.applyRef u) :=
      State.Frame.foldl ds (fun u d _ => u.applyRef_frame d) u
    have hmark (ds : List Delta) (side : Side) (u : State) : State.Frame refers [Fld.DDP_ERR_REF_SAT] u
        (ds.foldl (fun s d => s.setApplied (d.laddr / 512) side orig) u) := State.Frame.foldl ds (fun u d _ => State.Frame.of_eq rfl) u
    exact (happly _ s).trans (hmark _ _ _)

theorem State.indexRelease_frame (s : State) (h : Nat) :
    State.Frame (fun s t => { s with ddp := t.ddp, map := t.map }) [] s (s.indexRelease h) := by
  unfold State.indexRelease
  split
  · exact State.Frame.refl s
  · exact State.Frame.ite (fun _ => State.Frame.refl s) (fun _ => State.Frame.of_eq rfl)

/-- The register fields that a failed check of a chunk writes. -/
abbrev crcFields : List Field := [Fld.CMP_CRC_FAIL_COUNT, Fld.CMP_ERR_CRC_FAIL, Fld.GBK_ALARM_SOURCE, Fld.GBK_ERR_OVERFLOW, Fld.GBK_LOST_COUNT]

/-- What it may touch: the chunk, and a record. -/
abbrev crcFails (s t : State) : State := { s with gbk := t.gbk, map := t.map, regs := t.regs }

theorem State.chunkCrcFail_frame (s : State) (addr : Nat) (persists : Bool) : State.Frame crcFails crcFields s (s.chunkCrcFail addr persists) := by
  unfold State.chunkCrcFail
  have hbump : State.Frame crcFails crcFields s (s.bump Fld.CMP_CRC_FAIL_COUNT) := State.Frame.wr _ _ _
  refine State.Frame.when hbump (fun _ => State.Frame.trans ?_ (State.record_frame _ _ _ _ _ _ _).mono)
  exact State.Frame.trans (State.Frame.of_eq rfl) (State.Frame.wr _ _ _)

/-! ## Keys (R223 to R232) -/

/-- What the key slots and the key-encryption keys may touch. -/
abbrev keys (s t : State) : State := { s with cip := t.cip, gbk := t.gbk, regs := t.regs }

/-- The register fields of a key command's result. -/
abbrev keyEndFields : List Field := [Fld.CIP_KEY_RESULT_BUSY, Fld.CIP_KEY_RESULT_DONE, Fld.CIP_KEY_RESULT_STATUS]

/-- What a key command alone writes: registers. -/
abbrev regsOnly (s t : State) : State := { s with regs := t.regs }

theorem State.keyEnd_frame (s : State) (status : Nat) : State.Frame regsOnly keyEndFields s (s.keyEnd status) :=
  ((State.Frame.wr _ _ _).trans (State.Frame.wr _ _ _)).trans (State.Frame.wr _ _ _)

theorem State.keyInUse_frame (s : State) (target : Nat) :
    State.Frame regsOnly (Fld.CIP_ERR_INFO_SLOT :: keyEndFields) s (s.keyInUse target) :=
  State.Frame.trans (State.Frame.wr s Fld.CIP_ERR_INFO_SLOT target) (State.keyEnd_frame _ _).mono

/-- The register fields of a key-encryption key. -/
abbrev kekFields : List Field := [Fld.CIP_KEK_STATE_KIND, Fld.CIP_KEK_STATE_STATE, Fld.CIP_KEK_STATE_TENANT]

/-- What setting one may touch. -/
abbrev keks (s t : State) : State := { s with cip := t.cip, regs := t.regs }

theorem State.kekWrites_frame (s : State) {k : Nat} (hk : k < 64) (a b c : Nat) : State.Frame keks kekFields s
    (((s.wr Fld.CIP_KEK_STATE_STATE a k).wr Fld.CIP_KEK_STATE_KIND b k).wr Fld.CIP_KEK_STATE_TENANT c k) :=
  ((State.Frame.wr s Fld.CIP_KEK_STATE_STATE a k 0 (hi := hk)).trans (State.Frame.wr _ Fld.CIP_KEK_STATE_KIND b k 0 (hi := hk))).trans
    (State.Frame.wr _ Fld.CIP_KEK_STATE_TENANT c k 0 (hi := hk))

theorem State.kekSet_frame (s : State) {k : Nat} (hk : k < 64) (x : Option CipKey) : State.Frame keks kekFields s (s.kekSet k x) := by
  unfold State.kekSet
  split
  · exact State.Frame.trans (State.Frame.of_eq rfl) (State.kekWrites_frame _ hk _ _ _)
  · exact State.Frame.trans (State.Frame.of_eq rfl) (State.kekWrites_frame _ hk _ _ _)

/-- A key command: refused while one runs, and else in its own frame (R226). -/
theorem State.keyCmd_frame {U : State → State → State} {l : List Field} (s : State) {run : State → State} (hl : Fld.CIP_ERR_CMD_BUSY ∈ l)
    (hr : State.Frame U l s (run s)) (hU : ∀ s r, U s { s with regs := r } = { s with regs := r } := by intros; rfl) :
    State.Frame U l s (s.keyCmd run) :=
  State.Frame.ite (fun _ => State.Frame.wr s Fld.CIP_ERR_CMD_BUSY 1 0 0 hl (hU := hU)) (fun _ => hr)

/-- The register fields that erasing a key-encryption key writes. -/
abbrev kekEraseFields : List Field := Fld.CIP_ERR_CMD_BUSY :: Fld.CIP_ERR_INFO_SLOT :: (kekFields ++ keyEndFields)

theorem State.keyEraseKek_frame (s : State) (target : Nat) : State.Frame keks kekEraseFields s (s.keyEraseKek target) := by
  refine s.keyCmd_frame (by decide) (State.Frame.ite (fun _ => (s.keyInUse_frame 0).mono) (fun _ => ?_))
  exact (State.kekSet_frame s (Nat.mod_lt _ (by decide)) none).mono.trans (State.keyEnd_frame _ _).mono

/-- The register fields that unwrapping one writes. -/
abbrev kekUnwrapFields : List Field :=
  Fld.CIP_ERR_UNWRAP_FAIL :: Fld.GBK_ALARM_SOURCE :: Fld.GBK_ERR_OVERFLOW :: Fld.GBK_LOST_COUNT :: kekEraseFields

theorem State.unwrapFail_frame (s : State) (target : Nat) : State.Frame keys kekUnwrapFields s (s.unwrapFail target) :=
  State.Frame.trans (State.Frame.trans (State.Frame.wr s Fld.CIP_ERR_UNWRAP_FAIL 1) (State.Frame.wr _ Fld.CIP_ERR_INFO_SLOT target))
    (State.record_frame _ _ _ _ _ _ _).mono

theorem State.unwrapKek_frame (s : State) {target : Nat} (ht : target < 64) (kek : Nat) (pad : Bool) (len blob : Nat) :
    State.Frame keys kekUnwrapFields s (s.unwrapKek target kek pad len blob).1 := by
  unfold State.unwrapKek
  split
  · exact State.Frame.wr s Fld.CIP_ERR_INFO_SLOT target
  · split
    · exact s.unwrapFail_frame target
    · next k _ => exact State.Frame.mono (s.kekSet_frame ht (some k))

theorem State.keyUnwrapKek_frame (s : State) (target kek : Nat) (pad : Bool) (len : Nat) :
    State.Frame keys kekUnwrapFields s (s.keyUnwrapKek target kek pad len) :=
  s.keyCmd_frame (by decide) ((State.unwrapKek_frame s (Nat.mod_lt _ (by decide)) _ _ _ _).trans (State.keyEnd_frame _ _).mono)

/-- The register fields that erasing a slot writes. -/
abbrev slotEraseFields : List Field :=
  Fld.CIP_ERR_CMD_BUSY :: Fld.CIP_ERR_INFO_SLOT :: Fld.CIP_SLOTS_LOADED_COUNT :: Fld.CIP_SLOT_STATE_STATE :: keyEndFields

theorem State.keyEraseSlot_frame (s : State) (target : Nat) : State.Frame regsOnly slotEraseFields s (s.keyEraseSlot target) := by
  have ht : target % 16384 < 16384 := Nat.mod_lt _ (by decide)
  refine s.keyCmd_frame (by decide) (State.Frame.ite (fun _ => (s.keyEnd_frame _).mono) (fun _ => ?_))
  refine State.Frame.ite (fun _ => (s.keyInUse_frame _).mono) (fun _ => ?_)
  have hstate (u : State) : State.Frame regsOnly slotEraseFields u (u.wr Fld.CIP_SLOT_STATE_STATE keyErasing (target % 16384)) :=
    State.Frame.wr _ _ _ _ 0 (hi := ht)
  have hload (v : Nat) : State.Frame regsOnly slotEraseFields s (s.wr Fld.CIP_SLOTS_LOADED_COUNT v) := State.Frame.wr _ _ _
  exact (((hload _).trans (hstate _)).trans (State.Frame.wr _ Fld.CIP_KEY_RESULT_DONE _)).trans (State.Frame.wr _ Fld.CIP_KEY_RESULT_BUSY _)

/-- The register fields of a slot emptied. -/
abbrev emptiedFields : List Field :=
  [Fld.CIP_SLOTS_LOADED_COUNT, Fld.CIP_SLOT_STATE_KIND, Fld.CIP_SLOT_STATE_STATE, Fld.CIP_SLOT_STATE_TENANT, Fld.CIP_SLOT_STATE_USAGE]

theorem State.slotWrites_frame (s : State) {k : Nat} (hk : k < 16384) : State.Frame keks emptiedFields s
    ((((s.wr Fld.CIP_SLOT_STATE_STATE keyEmpty k).wr Fld.CIP_SLOT_STATE_KIND 0 k).wr Fld.CIP_SLOT_STATE_USAGE 0 k).wr
      Fld.CIP_SLOT_STATE_TENANT 0 k) :=
  (((State.Frame.wr s Fld.CIP_SLOT_STATE_STATE keyEmpty k 0 (hi := hk)).trans
    (State.Frame.wr _ Fld.CIP_SLOT_STATE_KIND 0 k 0 (hi := hk))).trans (State.Frame.wr _ Fld.CIP_SLOT_STATE_USAGE 0 k 0 (hi := hk))).trans
    (State.Frame.wr _ Fld.CIP_SLOT_STATE_TENANT 0 k 0 (hi := hk))

theorem State.keySlotEmpty_frame (s : State) {k : Nat} (hk : k < 16384) : State.Frame keks emptiedFields s (s.keySlotEmpty k) := by
  unfold State.keySlotEmpty
  dsimp only
  exact State.Frame.trans (State.Frame.trans (State.Frame.of_eq rfl) (State.slotWrites_frame _ hk)) (State.Frame.wr _ Fld.CIP_SLOTS_LOADED_COUNT _)

theorem State.keyEraseEnd_frame (s : State) {k : Nat} (hk : k < 16384) :
    State.Frame keks (emptiedFields ++ keyEndFields) s (s.keyEraseEnd k) :=
  State.Frame.ite (fun _ => (s.keySlotEmpty_frame hk).mono.trans (State.keyEnd_frame _ _).mono) (fun _ => State.Frame.refl s)

/-- The register fields that a fault of the key store writes. -/
abbrev storeFaultFields : List Field :=
  Fld.CIP_ERR_STORE_FAIL :: Fld.CIP_ERR_INFO_SLOT :: Fld.GBK_ALARM_SOURCE :: Fld.GBK_ERR_OVERFLOW :: Fld.GBK_LOST_COUNT :: emptiedFields

theorem State.keyStoreFault_frame (s : State) {k : Nat} (hk : k < 16384) : State.Frame keys storeFaultFields s (s.keyStoreFault k) := by
  refine State.Frame.ite (fun _ => State.Frame.trans ?_ (State.record_frame _ _ _ _ _ _ _).mono) (fun _ => State.Frame.refl s)
  exact State.Frame.trans (State.Frame.trans (s.keySlotEmpty_frame hk).mono (State.Frame.wr _ Fld.CIP_ERR_STORE_FAIL _))
    (State.Frame.wr _ Fld.CIP_ERR_INFO_SLOT _)

/-! ## The map (R240 to R268) -/

/-- What deltas applied may touch: leaves, the index, and the count of dead copies. -/
abbrev maps (s t : State) : State := { s with ddp := t.ddp, map := t.map, regs := t.regs }

theorem State.dirtyPage_frame {l : List Field} (s : State) (page nsid : Nat) : State.Frame maps l s (s.dirtyPage page nsid) := by
  unfold State.dirtyPage
  split
  · exact State.Frame.of_eq rfl
  · exact State.Frame.refl s

theorem State.putLeaf_frame {l : List Field} (s : State) (key : Nat) (v : Leaf) : State.Frame maps l s (s.putLeaf key v) :=
  State.Frame.trans (State.Frame.of_eq rfl) (State.dirtyPage_frame _ _ _)

theorem State.moveLeaf_frame {l : List Field} (s : State) (key wseq : Nat) (f : Leaf → Leaf) : State.Frame maps l s (s.moveLeaf key wseq f) :=
  State.Frame.ite (fun _ => State.Frame.trans (State.Frame.of_eq rfl) (State.dirtyPage_frame _ _ _)) (fun _ => State.Frame.refl s)

theorem State.freshDelta_frame {l : List Field} (s : State) (d : Delta) (key : Nat) (idx : Option Nat) :
    State.Frame maps l s (s.freshDelta d key idx) := by
  unfold State.freshDelta
  dsimp only
  split
  · exact s.moveLeaf_frame _ _ _
  · split
    · exact State.Frame.ite (fun _ => s.putLeaf_frame _ _) (fun _ => State.Frame.refl s)
    · exact s.putLeaf_frame _ _

theorem State.applyDelta_frame (s : State) (d : Delta) (idx : Option Nat) : State.Frame maps [Fld.GCX_STAT_DEAD_COPY_COUNT] s (s.applyDelta d idx) := by
  unfold State.applyDelta
  refine State.Frame.ite (fun _ => State.Frame.ite (fun _ => ?_) (fun _ => s.freshDelta_frame d _ idx)) (fun _ => ?_)
  · exact State.Frame.ite (fun _ => s.moveLeaf_frame _ _ _) (fun _ => State.Frame.wr s _ _)
  · exact State.Frame.ite (fun _ => State.Frame.of_eq rfl) (fun _ => State.Frame.refl s)

theorem State.applyDeltas_frame (s : State) (ds : List Delta) : State.Frame maps [Fld.GCX_STAT_DEAD_COPY_COUNT] s (s.applyDeltas ds) :=
  State.Frame.foldl ds (fun u d _ => u.applyDelta_frame d _) s

theorem State.mapDeltaApply_frame (s : State) (mirror : Bool) (orig : Nat) :
    State.Frame maps [Fld.GCX_STAT_DEAD_COPY_COUNT] s (s.mapDeltaApply mirror orig) := by
  have hr := State.Frame.refl (U := maps) (l := [Fld.GCX_STAT_DEAD_COPY_COUNT]) s
  have hd := s.applyDeltas_frame
  unfold State.mapDeltaApply
  refine State.Frame.ite (fun _ => ?_) (fun _ => ?_)
  · split
    · split
      · exact hd _
      · exact hd _
      · exact hr
    · exact hr
  · split
    · refine State.Frame.ite (fun _ => ?_) (fun _ => hr)
      split
      · exact hd _
      · exact hd _
      · exact hr
    · exact hr

/-- What a group of ways of the map's cache may touch. -/
abbrev ways (s t : State) : State := { s with mdc := t.mdc, pwr := t.pwr, regs := t.regs }

theorem State.setWayGroup_frame (s : State) (g st : Nat) {l : List Field} (hl : Fld.MDC_WAYGRP_STATE_STATE ∈ l) :
    State.Frame regsOnly l s (s.setWayGroup g st) :=
  State.Frame.wr _ _ _ 0 0 hl

theorem State.wayDown_frame (s : State) (g : Nat) :
    State.Frame regsOnly [Fld.MDC_ERR_GROUP_CMD, Fld.MDC_WAYGRP_STATE_STATE] s (s.wayDown g) :=
  State.Frame.ite (fun _ => s.setWayGroup_frame _ _ (by decide)) (fun _ => State.Frame.wr _ _ _)

/-- The register fields that waking a group of ways writes. -/
abbrev wayUpFields : List Field := Fld.MDC_ERR_GROUP_CMD :: Fld.MDC_WAYGRP_STATE_STATE :: domFields

theorem State.wayUp_frame (s : State) (g : Nat) : State.Frame powers wayUpFields s (s.wayUp g) := by
  refine State.Frame.ite (fun _ => State.Frame.trans ?_ (State.domRequest_frame _ _ _ _).mono) (fun _ => State.Frame.wr s _ _)
  exact (s.setWayGroup_frame (l := wayUpFields) _ _ (by decide)).mono

theorem State.dropLines_frame {l : List Field} (s : State) (ls : Assoc MdcLine) : State.Frame ways l s (ls.foldl (fun s e => s.dropLine e.1) s) := by
  rw [State.dropLines_eq]
  exact State.Frame.of_eq rfl

/-- What a woken group of ways may touch. -/
abbrev wakes (s t : State) : State := { s with mdc := t.mdc, regs := t.regs }

theorem State.wakeEnd_frame (s : State) (g : Nat) : State.Frame wakes [Fld.MDC_WAYGRP_STATE_STATE] s (s.wakeEnd g) := by
  refine State.Frame.ite (fun _ => ?_) (fun _ => State.Frame.refl s)
  have hset (u : State) : State.Frame wakes [Fld.MDC_WAYGRP_STATE_STATE] u (u.setWayGroup (g % 8) 0) := State.Frame.wr _ _ _
  rw [State.dropLines_eq]
  exact State.Frame.trans (State.Frame.of_eq rfl) (hset _)

/-- The register fields that the end of a group's sweep writes. -/
abbrev sweepEndFields : List Field := Fld.MDC_STAT_WB_COUNT :: domFields

theorem State.sweepEnd_frame (s : State) (g : Nat) : State.Frame ways sweepEndFields s (s.sweepEnd g) := by
  unfold State.sweepEnd
  refine State.Frame.ite (fun _ => State.Frame.refl s) (fun _ => State.Frame.trans ?_ (State.domRequest_frame _ _ _ _).mono)
  have hbump (n : Nat) : State.Frame ways sweepEndFields s (s.bump Fld.MDC_STAT_WB_COUNT n) := State.Frame.wr _ _ _
  exact (hbump _).trans (State.dropLines_frame _ _)

/-! ## The media (R270 to R290) -/

theorem State.busyLun_frame (s : State) (lun : Nat) :
    State.Frame (fun s t => { s with flc := t.flc, out := t.out, regs := t.regs }) [Fld.FLC_CH_STATUS_RESETS] s (s.busyLun lun) := by
  have hc : lun % 128 < 128 := Nat.mod_lt _ (by decide)
  unfold State.busyLun
  split
  · refine State.Frame.ite (fun _ => ?_) (fun _ => State.Frame.refl s)
    exact State.Frame.trans (State.Frame.trans (State.Frame.of_eq (t := s.lunDone lun) rfl)
      (State.Frame.wr _ Fld.FLC_CH_STATUS_RESETS _ (lun % 128) 0 (hi := hc))) (State.Frame.emit _ _)
  · exact State.Frame.refl s

/-- What the loss of a group may touch. -/
abbrev groupLoses (s t : State) : State := { s with flc := t.flc, regs := t.regs, str := t.str }

/-- The register fields that it writes. -/
abbrev groupLostFields : List Field := [Fld.FLC_CH_STATUS_STATE, Fld.FLC_ERR_GROUP_LOST]

theorem State.modStripe_frame {l : List Field} (s : State) (k : Nat) (f : Stripe → Stripe) : State.Frame groupLoses l s (s.modStripe k f) :=
  State.Frame.of_eq rfl

theorem State.groupLost_frame (s : State) {g : Nat} (hg : g < 16) : State.Frame groupLoses groupLostFields s (s.groupLost g) := by
  have hchan : ∀ c ∈ chansOf g, c < 128 := by
    intro c hc
    obtain ⟨k, hk, rfl⟩ := List.mem_map.1 hc
    have := List.mem_range.1 hk
    omega
  have hchans (u : State) : State.Frame groupLoses groupLostFields u ((chansOf g).foldl (fun s c => s.wr Fld.FLC_CH_STATUS_STATE flcNotHeld c) u) :=
    State.Frame.foldl (chansOf g) (fun u c hc => State.Frame.wr u Fld.FLC_CH_STATUS_STATE flcNotHeld c 0 (hi := hchan c hc)) u
  unfold State.groupLost
  refine State.Frame.ite (fun _ => State.Frame.refl s) (fun _ => ?_)
  have hraise : State.Frame groupLoses groupLostFields s (s.raise Fld.FLC_ERR_GROUP_LOST) := State.Frame.wr _ _ _
  dsimp only
  refine State.Frame.trans ?_ (State.Frame.foldl _ (fun u _ _ => u.modStripe_frame _ _) _)
  exact (hraise.trans (hchans _)).trans (State.Frame.of_eq rfl)

/-- What FLC's own work may touch. -/
abbrev medias (s t : State) : State := { s with flc := t.flc }

theorem State.suspend_frame (s : State) (l reads : Nat) (erase : Bool) : State.Frame medias [] s (s.suspend l reads erase) :=
  State.Frame.ite (fun _ => State.Frame.refl s) (fun _ => State.Frame.of_eq rfl)

theorem State.valley_frame (s : State) (lun window : Nat) (offs : List Int) : State.Frame medias [] s (s.valley lun window offs) := by
  refine State.Frame.ite (fun _ => ?_) (fun _ => State.Frame.refl s)
  exact State.Frame.ite (fun _ => State.Frame.of_eq rfl) (fun _ => State.Frame.of_eq rfl)

theorem State.trackSweep_frame (s : State) (found : List Family) : State.Frame medias [] s (s.trackSweep found) := by
  have hvalleys : State.Frame medias [] s (found.foldl (fun s f => s.valley f.lun f.window f.offsets) s) :=
    State.Frame.foldl found (fun u f _ => u.valley_frame f.lun f.window f.offsets) s
  exact hvalleys.trans (State.Frame.of_eq rfl)

/-- Work joins GCX's list (R318). -/
theorem State.gcxWork_inFrame {l : List Field} (s : State) (cls band : Nat) :
    State.Frame (fun s t => { s with gcx := t.gcx }) l s (s.gcxWork cls band) :=
  State.Frame.of_eq (s.gcxWork_frame cls band).1 (by rw [(s.gcxWork_frame cls band).1])

theorem State.wearOffer_frame (s : State) (lun : Nat) : State.Frame (fun s t => { s with gcx := t.gcx }) [] s (s.wearOffer lun) := by
  unfold State.wearOffer
  dsimp only
  split
  · exact State.Frame.refl s
  · refine State.Frame.ite (fun _ => ?_) (fun _ => State.Frame.refl s)
    split
    · exact s.gcxWork_inFrame _ _
    · exact State.Frame.refl s

/-! ## Stripes and bands (R300 to R325) -/

theorem State.stripeProgram_frame (s : State) (k : Nat) :
    State.Frame (fun s t => { s with out := t.out, str := t.str }) [] s (s.stripeProgram k) := by
  unfold State.stripeProgram
  split
  · exact State.Frame.refl s
  · exact State.Frame.ite (fun _ => State.Frame.refl s) (fun _ => State.Frame.of_eq rfl)

theorem State.reconstruct_frame (s : State) (k : Nat) (bad : List (Nat × List Nat)) :
    State.Frame regsOnly [Fld.STR_STAT_RECON_COUNT] s (s.reconstruct k bad) := by
  unfold State.reconstruct
  split
  · exact State.Frame.refl s
  · exact State.Frame.wr _ _ _

theorem State.patrolTrigger_frame (s : State) : State.Frame regsOnly [Fld.STR_STATUS_PATROLLING] s s.patrolTrigger :=
  State.Frame.ite (fun _ => State.Frame.wr _ _ _) (fun _ => State.Frame.refl s)

/-- What a rebuild's start may touch. -/
abbrev rebuilds (s t : State) : State := { s with gcx := t.gcx, regs := t.regs }

theorem State.rebuildBand_frame (s : State) : State.Frame rebuilds [Fld.STR_STAT_RECON_COUNT] s s.rebuildBand := by
  have hbump (n : Nat) : State.Frame rebuilds [Fld.STR_STAT_RECON_COUNT] s (s.bump Fld.STR_STAT_RECON_COUNT n) := State.Frame.wr _ _ _
  unfold State.rebuildBand
  refine State.Frame.ite (fun _ => State.Frame.refl s) (fun _ => ?_)
  dsimp only
  split
  · exact State.Frame.refl s
  · split
    · refine (hbump _).trans (State.Frame.ite (fun _ => ?_) (fun _ => State.Frame.of_eq rfl))
      exact (State.gcxWork_inFrame (l := [Fld.STR_STAT_RECON_COUNT]) _ _ _).mono
    · exact hbump _

/-- What the end of a band's relocation may touch. -/
abbrev relocates (s t : State) : State := { s with ddp := t.ddp, gcx := t.gcx, str := t.str }

theorem State.relocPersist_frame (s : State) (bk : Nat) : State.Frame relocates [] s (s.relocPersist bk) := by
  have hpins (ps : List Nat) : State.Frame relocates [] s (ps.foldl State.unpin s) :=
    State.Frame.foldl ps (fun u h _ => (u.unpin_frame h).mono) s
  unfold State.relocPersist
  split
  · exact State.Frame.refl s
  · exact State.Frame.ite (fun _ => State.Frame.refl s) (fun _ => (hpins _).trans (State.Frame.of_eq rfl))

/-- Settles O57: each command's effect runs through operations whose components and register fields are known; an index into a register table
is within it by the operand's bound or by the model's own reduction. -/
theorem framesOfDataCommands : Obligations.FramesOfDataCommands := by
  unfold Obligations.FramesOfDataCommands
  refine ⟨?_, ?_, ?_, ?_, ?_, ?_, ?_, ?_, ?_, ?_, ?_, ?_, ?_, ?_, ?_, ?_, ?_, ?_, ?_, ?_, ?_, ?_, ?_, ?_, ?_⟩
  · exact fun s h => Completes.framed_alone (s.pinRelease_frame h)
  · exact fun s m j => Completes.framed (s.referenceApply_frame m j)
  · exact fun s h => Completes.framed_alone (s.indexRelease_frame h)
  · exact fun s a p => Completes.framed (s.chunkCrcFail_frame a p)
  · exact fun s t k p n _ => Completes.framed (s.keyUnwrapKek_frame t k p n)
  · exact fun s t _ => Completes.framed (s.keyEraseSlot_frame t)
  · exact fun s t _ => Completes.framed (s.keyEraseKek_frame t)
  · exact fun s k hk => Completes.framed (s.keyEraseEnd_frame hk)
  · exact fun s k hk => Completes.framed (s.keyStoreFault_frame hk)
  · exact fun s m j => Completes.framed (s.mapDeltaApply_frame m j)
  · exact fun s g => Completes.framed (s.wayDown_frame g)
  · exact fun s g => Completes.framed (s.wayUp_frame g)
  · exact fun s g => Completes.framed (s.sweepEnd_frame g)
  · exact fun s g => Completes.framed (s.wakeEnd_frame g)
  · exact fun s l => Completes.framed (s.busyLun_frame l)
  · exact fun s g hg => Completes.framed (s.groupLost_frame hg)
  · exact fun s l r e => Completes.framed_alone (s.suspend_frame l r e)
  · exact fun s l w os => Completes.framed_alone (s.valley_frame l w os)
  · exact fun s found => Completes.framed_alone (s.trackSweep_frame _)
  · exact fun s l => Completes.framed_alone (s.wearOffer_frame l)
  · exact fun s k => Completes.framed_alone (s.stripeProgram_frame k)
  · exact fun s k bad => Completes.framed (s.reconstruct_frame k bad)
  · exact fun s => Completes.framed s.patrolTrigger_frame
  · exact fun s => Completes.framed s.rebuildBand_frame
  · exact fun s bk => Completes.framed_alone (s.relocPersist_frame bk)

end Sys2Proof.Machine
end

section
-- One proof at a time: elaborated side by side, the one-file compile runs out of threads.
set_option Elab.async false
/-! PROOFS. Frames of the commands that reach further: the components that each may copy. -/
namespace Sys2Proof.Machine

open Sys2Proof

/-! ## Frames of components alone -/

/-- t differs from s at most in the components that U copies from it. -/
def State.Within (U : State → State → State) (s t : State) : Prop := t = U s t

section
variable {U V : State → State → State} {l : List Field} {s t u : State}

theorem State.Within.refl (s : State) (hU : U s s = s := by rfl) : State.Within U s s := hU.symm

theorem State.Within.trans (h : State.Within U s t) (h' : State.Within U t u) (hU : ∀ s t u, U (U s t) u = U s u := by intros; rfl) :
    State.Within U s u := by
  calc u = U t u := h'
    _ = U (U s t) u := by rw [← (h : t = U s t)]
    _ = U s u := hU s t u

theorem State.Within.mono (h : State.Within U s t) (hV : ∀ s t, V s (U s t) = U s t := by intros; rfl) : State.Within V s t := by
  calc t = U s t := h
    _ = V s (U s t) := (hV s t).symm
    _ = V s t := by rw [← (h : t = U s t)]

theorem State.Frame.within (h : State.Frame U l s t) (hV : ∀ s t, V s (U s t) = U s t := by intros; rfl) : State.Within V s t :=
  State.Within.mono h.1 hV

theorem State.Within.ite {c : Prop} [Decidable c] (h : c → State.Within U s t) (h' : ¬ c → State.Within U s u) :
    State.Within U s (if c then t else u) := by
  split
  · next hc => exact h hc
  · next hc => exact h' hc

theorem State.Within.foldl {β : Type} {f : State → β → State} (xs : List β) (hf : ∀ u x, State.Within U u (f u x)) (s : State)
    (hrefl : ∀ s, U s s = s := by intros; rfl) (hU : ∀ s t u, U (U s t) u = U s u := by intros; rfl) :
    State.Within U s (xs.foldl f s) := by
  induction xs generalizing s with
  | nil => exact State.Within.refl s (hrefl s)
  | cons a xs ih => exact (hf s a).trans (ih _) hU

/-- A command ends in a frame of components when its effect is in a narrower one. -/
theorem Completes.within {V : State → State} {c : Instr} (hf : State.Within U s u) (h : exec c s = ended u := by rfl)
    (hV : ∀ t a, V { U s t with aon := a } = { U s t with aon := a } := by intros; rfl) : Completes c s (fun t => t = V t) := by
  refine Completes.of_ended h ?_
  have hu : { u with aon := u.aon.settled } = { U s u with aon := u.aon.settled } := by rw [← (hf : u = U s u)]
  rw [hu, hV]

end

/-- What local time passing may touch: the clock, and what the lease's end does (R378). -/
abbrev clocks (s t : State) : State := { s with now := t.now, aon := t.aon, gbk := t.gbk, regs := t.regs }

theorem State.advance_within (s : State) (t : Nat) : State.Within clocks s (s.advance t) := (s.advance_inFrame t).1

/-- What a record may touch. -/
abbrev records (s t : State) : State := { s with gbk := t.gbk, regs := t.regs }

theorem State.record_within (s : State) (src code a0 a1 a2 : Nat) (alarm : Bool) :
    State.Within records s (s.record src code a0 a1 a2 alarm) :=
  (s.record_frame src code a0 a1 a2 alarm).1

/-- What a message to the partner may touch. -/
abbrev linkSends (s t : State) : State := { s with isl := t.isl, out := t.out }

theorem State.isend_within (s : State) (vc : Nat) (m : IslMsg) : State.Within linkSends s (s.isend vc m) := (s.isend_inFrame vc m).1

/-- What an enable tried may touch: registers, and the figures of a refusal (R441). -/
abbrev tries (s t : State) : State := { s with free := t.free, regs := t.regs }

theorem State.tryEnable_within (s : State) (f : Field) : State.Within tries s (s.tryEnable f).1 := by
  unfold State.tryEnable
  dsimp only
  split <;> rfl

/-! ## Time, events and rings (R69 to R106) -/

/-- What a ring's own writes may touch. -/
abbrev rings (s t : State) : State := { s with hri := t.hri, out := t.out, regs := t.regs }

/-- What they may touch at a later instant. -/
abbrev ringsLater (s t : State) : State :=
  { s with aon := t.aon, gbk := t.gbk, hri := t.hri, now := t.now, out := t.out, regs := t.regs }

theorem State.writeStatus_within (s : State) (r : Nat) : State.Within rings s (s.writeStatus r) :=
  State.Within.ite (fun _ => State.Within.refl s) (fun _ => rfl)

theorem State.ringSignal_within (s : State) (r : Nat) : State.Within rings s (s.ringSignal r) :=
  State.Within.ite (fun _ => rfl) (fun _ => rfl)

theorem State.eventFn_within (s : State) (n src code a0 a1 : Nat) : State.Within rings s (s.eventFn n src code a0 a1) :=
  State.Within.ite (fun _ => State.Within.refl s) (fun _ => State.Within.ite (fun _ => rfl) (fun _ => rfl))

theorem State.ringFault_within (s : State) (r : Nat) (f : Field) : State.Within rings s (s.ringFault r f) := by
  have hmark (u : State) : State.Within rings s u → State.Within rings s (((u.raise f).wr Fld.HRI_ERR_RING_RING r).touchStatus r) :=
    fun h => h.trans (t := u) (by rfl)
  have hstay (c : Prop) [Decidable c] : State.Within rings s (if c then s else s.wr Fld.HRI_RING_STATE_STATE ringError r) :=
    State.Within.ite (fun _ => State.Within.refl s) (fun _ => rfl)
  unfold State.ringFault
  dsimp only
  split
  · exact (hmark _ (hstay _)).trans (State.eventFn_within _ _ _ _ _ _)
  · exact hmark _ (hstay _)

theorem State.statusTimer_within (s : State) (r : Nat) (ok : Bool) : State.Within ringsLater s (s.statusTimer r ok) := by
  unfold State.statusTimer
  split
  · refine State.Within.ite (fun _ => State.Within.refl s) (fun _ => ?_)
    have hwritten (u : State) : State.Within ringsLater u (u.statusWritten r ok) :=
      State.Within.ite (fun _ => State.Within.refl u) (fun _ => (u.ringFault_within r _).mono)
    exact ((s.advance_within _).mono.trans (State.writeStatus_within _ r).mono).trans (hwritten _)
  · exact State.Within.refl s

theorem State.coalesceTimer_within (s : State) (r : Nat) : State.Within ringsLater s (s.coalesceTimer r) := by
  unfold State.coalesceTimer
  split
  · refine State.Within.ite (fun _ => State.Within.refl s) (fun _ => ?_)
    exact ((s.advance_within _).mono.trans (State.writeStatus_within _ r).mono).trans (State.ringSignal_within _ r).mono
  · exact State.Within.refl s

theorem State.cqWrite_within (s : State) (r : Nat) (e : ComplEntry) (irq : Bool) : State.Within rings s (s.cqWrite r e irq) := by
  have hsignal (u : State) : State.Within rings u ((u.writeStatus r).ringSignal r) :=
    (u.writeStatus_within r).trans (State.ringSignal_within _ r)
  have hput (x : Ring) (o : Out) : State.Within rings s ((s.setRing r x).emit o) := rfl
  unfold State.cqWrite
  refine State.Within.ite (fun _ => State.Within.refl s) (fun _ => ?_)
  exact State.Within.ite (fun _ => (hput _ _).trans (hsignal _)) (fun _ => hput _ _)

theorem State.ringEvent_within (s : State) (r : Nat) (h : HeldEvent) : State.Within rings s (s.ringEvent r h) :=
  State.Within.ite
    (fun _ => State.Within.ite (fun _ => s.cqWrite_within r _ _) (fun _ => State.Within.ite (fun _ => rfl) (fun _ => rfl)))
    (fun _ => rfl)

theorem State.slotIssue_within (s : State) (i lateness : Nat) (late : Bool) : State.Within rings s (s.slotIssue i lateness late) := by
  unfold State.slotIssue
  dsimp only
  split
  · rfl
  · exact s.ringEvent_within _ _
  · rfl
  · rfl
  · exact State.Within.refl s

theorem State.slotNext_within (s : State) (i : Nat) (issued : Frac) : State.Within rings s (s.slotNext i issued) := by
  obtain ⟨r, hr⟩ := s.slotNext_frame i issued
  rw [hr]
  rfl

theorem carillonFire_within (s : State) (i : Nat) : State.Within ringsLater s (carillonFire i s) := by
  have hissue (u : State) (off : Bool) (lateness : Nat) (late : Bool) :
      State.Within ringsLater u (if off then u.raise Fld.CAR_ERR_TARGET_OFF else u.slotIssue i lateness late) :=
    State.Within.ite (fun _ => rfl) (fun _ => (u.slotIssue_within i lateness late).mono)
  have hlog (u : State) (log : Bool) : State.Within ringsLater u (if log then u.record Blk.CAR 0x0002 i else u) :=
    State.Within.ite (fun _ => (u.record_within _ _ _ _ _ _).mono) (fun _ => State.Within.refl u)
  have hnext (u : State) (issued : Frac) (v : Nat) : State.Within ringsLater u ((u.slotNext i issued).advance v) :=
    (u.slotNext_within i issued).mono.trans (State.advance_within _ v).mono
  unfold carillonFire
  refine State.Within.ite (fun _ => State.Within.refl s) (fun _ => ?_)
  exact (((s.advance_within _).mono.trans (hissue _ _ _ _)).trans (hlog _ _)).trans (hnext _ _ _)

theorem ppsOutEdge_within (s : State) :
    State.Within (fun s t => { s with aon := t.aon, car := t.car, gbk := t.gbk, now := t.now, out := t.out, regs := t.regs }) s (ppsOutEdge s) :=
  State.Within.ite (fun _ => State.Within.trans (s.advance_within _).mono rfl) (fun _ => State.Within.refl s)

theorem ptpDelayReqSend_within (s : State) :
    State.Within (fun s t => { s with aon := t.aon, car := t.car, gbk := t.gbk, now := t.now, out := t.out, regs := t.regs }) s
      (ptpDelayReqSend s) := by
  unfold ptpDelayReqSend
  refine State.Within.ite (fun _ => ?_) (fun _ => State.Within.refl s)
  dsimp only
  split
  · exact State.Within.trans (s.advance_within _).mono rfl
  · rfl

theorem State.leapAdjust_within (s : State) :
    State.Within (fun s t => { s with aon := t.aon, car := t.car, gbk := t.gbk, now := t.now, regs := t.regs }) s s.leapAdjust := by
  unfold State.leapAdjust
  split
  · exact State.Within.refl s
  · exact State.Within.ite (fun _ => State.Within.refl s) (fun _ => State.Within.trans (s.advance_within _).mono rfl)

theorem State.mdcReady_within (s : State) :
    State.Within (fun s t => { s with aon := t.aon, gbk := t.gbk, mdc := t.mdc, now := t.now, regs := t.regs }) s s.mdcReady :=
  State.Within.ite (fun _ => State.Within.refl s) (fun _ => State.Within.trans (s.advance_within _).mono rfl)

/-- What the end of the interrupt's hold-off may touch. -/
abbrev interrupts (s t : State) : State :=
  { s with aon := t.aon, gbk := t.gbk, glb := t.glb, now := t.now, out := t.out, regs := t.regs }

theorem State.intHoldoff_within (s : State) : State.Within interrupts s s.intHoldoff := by
  have hsend (u : State) : State.Within interrupts u
      (if u.rdb Fld.GLB_INT_CFG_EN && u.maskedErr != 0 then u.intSend else u) :=
    State.Within.ite (fun _ => rfl) (fun _ => State.Within.refl u)
  have hheld (u : State) (g : Glb) : State.Within interrupts u { u with glb := g } := rfl
  refine State.Within.ite (fun _ => State.Within.refl s) (fun _ => ?_)
  exact ((s.advance_within _).mono.trans (hheld _ _)).trans (hsend _)

/-! ## Jobs of rings (R219 to R239) -/

/-- What a job may touch. -/
abbrev jobs (s t : State) : State := { s with hri := t.hri, out := t.out, regs := t.regs, wins := t.wins }

theorem State.endSub_within (s : State) (r q status r0 r1 : Nat) : State.Within jobs s (s.endSub r q status r0 r1) := by
  rw [State.endSub_frame]
  rfl

theorem State.jobEnd_within (s : State) (r q : Nat) (e : SubEntry) (out : List Nat) (outOk : Bool) (status r0 r1 : Nat) :
    State.Within jobs s (s.jobEnd r q e out outOk status r0 r1) := by
  obtain ⟨w, h, o, heq⟩ := s.jobEnd_frame r q e out outOk status r0 r1
  rw [heq]
  rfl

/-- A job runs in the frame of what it does with its input. -/
theorem State.job_within (s : State) (r q opcode block : Nat) (ok : SubEntry → Bool) (input : Option Nat)
    {run : State → SubEntry → Nat → State} (hrun : ∀ u e v, State.Within jobs u (run u e v)) :
    State.Within jobs s (s.job r q opcode block ok input run) := by
  refine State.Within.ite (fun _ => State.Within.refl s) (fun _ => ?_)
  unfold State.ringRun
  split
  · refine State.Within.trans (t := s.subStart r q) rfl (State.Within.ite (fun _ => State.endSub_within _ _ _ _ _ _) (fun _ => ?_))
    split
    · exact State.endSub_within _ _ _ _ _ _
    · exact hrun _ _ _
  · exact State.Within.refl s

theorem State.decompressChunk_within (s : State) (r q : Nat) (e : SubEntry) (v : Nat) (outOk : Bool) :
    State.Within jobs s (s.decompressChunk r q e v outOk) := by
  have hcrc : State.Within jobs s ((s.bump Fld.CMP_CRC_FAIL_COUNT).endSub r q STS_CHUNK_CRC 0 0) :=
    State.Within.trans (by rfl) (State.endSub_within _ _ _ _ _ _)
  have hbad : State.Within jobs s (s.streamInvalid.endSub r q STS_STREAM_INVALID 0 0) :=
    State.Within.trans (by rfl) (State.endSub_within _ _ _ _ _ _)
  unfold State.decompressChunk
  refine State.Within.ite (fun _ => hcrc) (fun _ => State.Within.ite (fun _ => s.endSub_within _ _ _ _ _) (fun _ => ?_))
  refine State.Within.ite (fun _ => hbad) (fun _ => State.Within.ite (fun _ => hbad) (fun _ => ?_))
  exact State.Within.ite (fun _ => hcrc) (fun _ => s.jobEnd_within _ _ _ _ _ _ _ _)

theorem State.decompressStream_within (s : State) (r q : Nat) (e : SubEntry) (v : Nat) (outOk : Bool) :
    State.Within jobs s (s.decompressStream r q e v outOk) := by
  have hbad : State.Within jobs s s.streamInvalid := rfl
  unfold State.decompressStream
  refine State.Within.ite (fun _ => ?_) (fun _ => ?_)
  · exact State.Within.ite (fun _ => s.endSub_within _ _ _ _ _) (fun _ => hbad.trans (State.endSub_within _ _ _ _ _ _))
  · refine State.Within.ite (fun _ => s.endSub_within _ _ _ _ _) (fun _ => ?_)
    refine State.Within.ite (fun _ => s.jobEnd_within _ _ _ _ _ _ _ _) (fun _ => ?_)
    exact State.Within.ite (fun _ => s.jobEnd_within _ _ _ _ _ _ _ _) (fun _ => hbad.trans (State.jobEnd_within _ _ _ _ _ _ _ _ _))

theorem State.decompress_within (s : State) (r q : Nat) (input : Option Nat) (outOk : Bool) :
    State.Within jobs s (s.decompress r q input outOk) :=
  s.job_within r q 0x21 Blk.CMP decompressOk input fun u e _ =>
    State.Within.ite (fun _ => u.decompressChunk_within r q e _ outOk) (fun _ => u.decompressStream_within r q e _ outOk)

/-! ## The journal (R30 to R38) -/

/-- What a failed write or channel of the journal may touch. -/
abbrev journals (s t : State) : State := { s with ops := t.ops, out := t.out, isl := t.isl, pjm := t.pjm, regs := t.regs }

theorem State.place_within (s : State) (c j : Nat) (r : PjmRec) : State.Within journals s (s.place c j r) := by
  obtain ⟨p, r, i, o, heq⟩ := (s.place_journals c j r).1
  rw [heq]
  rfl

theorem State.endLive_within (s : State) (p : Nat → PjmRec → Bool) : State.Within journals s (s.endLive p) := by
  have hretails (u : State) : State.Within journals u ((List.range 8).foldl State.retail u) :=
    State.Within.foldl _ (fun u c => by rw [u.retail_frame c]; rfl) u
  have hclose (u : State) (p : Pjm) : State.Within journals u ((List.range 8).foldl State.retail { u with pjm := p }) :=
    State.Within.trans (t := { u with pjm := p }) rfl (hretails _)
  unfold State.endLive
  exact (hclose s _).trans (hclose _ _)

theorem State.rewrite_within (s : State) (j : Nat) : State.Within journals s (s.rewrite j) := by
  unfold State.rewrite
  split
  · exact State.Within.refl s
  · split
    · exact s.place_within _ _ _
    · dsimp only
      split <;> rfl

theorem State.copyForward_within (s : State) (j : Nat) : State.Within journals s (s.copyForward j) := by
  have hnext (v : Nat) : State.Within journals s (s.wr Fld.PJM_JSEQ_NEXT v) := rfl
  unfold State.copyForward
  split
  · exact State.Within.refl s
  · split
    · exact State.Within.refl s
    · exact ((hnext _).trans (State.place_within _ _ _ _)).trans (State.endLive_within _ _)

theorem State.channelFail_within (s : State) (c : Nat) : State.Within journals s (s.channelFail c) := by
  have hsign : State.Within journals s
      (((s.wr Fld.PJM_CH_STATUS_STATE Machine.chanFailed c).raise Fld.PJM_ERR_CH_FAIL).wr Fld.PJM_ERR_INFO_CHANNEL c) := rfl
  have hmove (u : State) (e : Nat × PjmRec) : State.Within journals u
      (if e.2.localOk || e.2.mirrorOk then u.copyForward e.1 else u.rewrite e.1) :=
    State.Within.ite (fun _ => u.copyForward_within e.1) (fun _ => u.rewrite_within e.1)
  exact hsign.trans (State.Within.foldl _ hmove _)

theorem State.pjmWriteFail_within (s : State) (j : Nat) (local_ : Bool) : State.Within journals s (s.pjmWriteFail j local_) := by
  unfold State.pjmWriteFail
  split
  · exact State.Within.refl s
  · refine State.Within.ite (fun _ => State.Within.refl s) (fun _ => ?_)
    exact State.Within.ite (fun _ => s.channelFail_within _) (fun _ => s.rewrite_within j)

theorem State.pjmChannelFail_within (s : State) (c : Nat) : State.Within journals s (s.pjmChannelFail c) :=
  State.Within.ite (fun _ => s.channelFail_within c) (fun _ => State.Within.refl s)

theorem State.pjmChCmd_within (s : State) (c : Nat) :
    State.Within (fun s t => { s with isl := t.isl, out := t.out, pjm := t.pjm, regs := t.regs }) s (s.pjmChCmd c) :=
  State.Within.ite (fun _ => State.Within.trans (by rfl) (State.isend_within _ _ _).mono) (fun _ => State.Within.refl s)

/-- What closing a stripe of the buffer may touch. -/
abbrev closes (s t : State) : State := { s with aon := t.aon, gbk := t.gbk, now := t.now, out := t.out, regs := t.regs, str := t.str }

theorem State.bufferStripeClose_within (s : State) (k : Nat) (full : Bool) : State.Within closes s (s.bufferStripeClose k full) := by
  have hprogram (u : State) (y : Stripe) (o : Out) : State.Within closes u ((u.setStripe k y).emit o) := rfl
  have hwait (since : Nat) : State.Within closes s (if full then s else s.advance (since + closeDelay)) :=
    State.Within.ite (fun _ => State.Within.refl s) (fun _ => (s.advance_within _).mono)
  unfold State.bufferStripeClose
  split
  · exact State.Within.refl s
  · exact State.Within.ite (fun _ => State.Within.refl s) (fun _ => (hwait _).trans (hprogram _ _ _))

/-! ## The fabric (R107 to R157) -/

theorem State.tcpSyn_within (s : State) (l isn : Nat) (ecn sack tsopt : Bool) (wscale mss : Nat) :
    State.Within (fun s t => { s with free := t.free, net := t.net, out := t.out, regs := t.regs }) s
      (s.tcpSyn l isn ecn sack tsopt wscale mss) :=
  State.Within.ite (fun _ => rfl) (fun _ => State.Within.ite (fun _ => rfl) (fun _ => rfl))

/-- What the end of a queue may touch. -/
abbrev queues (s t : State) : State := { s with nvf := t.nvf, ops := t.ops, out := t.out, pol := t.pol, rdm := t.rdm }

theorem State.queueEnd_within (s : State) (q : Nat) : State.Within queues s (s.queueEnd q) := by
  rw [State.queueEnd_frame]
  rfl

theorem State.queueLost_within (s : State) (q : Nat) : State.Within queues s (s.queueLost q) := by
  unfold State.queueLost
  split
  · exact State.Within.refl s
  · refine State.Within.ite (fun _ => ?_) (fun _ => s.queueEnd_within q)
    exact State.Within.trans (State.Within.foldl _ (fun u x => u.queueEnd_within x) s) rfl

theorem State.disconnect_within (s : State) (q cid : Nat) : State.Within queues s (s.disconnect q cid) := by
  refine State.Within.ite (fun _ => State.Within.trans ?_ (State.queueLost_within _ q)) (fun _ => State.Within.refl s)
  rw [State.nvmeCpl_frame]
  rfl

/-- What a queue pair's congestion control may touch at a later instant. -/
abbrev paces (s t : State) : State := { s with aon := t.aon, gbk := t.gbk, now := t.now, rdm := t.rdm, regs := t.regs }

theorem State.ackReceive_within (s : State) (q psn : Nat) : State.Within paces s (s.ackReceive q psn) := by
  unfold State.ackReceive
  split
  · refine State.Within.ite (fun _ => ?_) (fun _ => State.Within.refl s)
    unfold State.qpProgress
    split
    · exact State.Within.refl s
    · exact State.Within.ite (fun _ => State.Within.refl s) (fun _ => rfl)
  · exact State.Within.refl s

theorem State.probeAck_within (s : State) (q rttNs : Nat) : State.Within paces s (s.probeAck q rttNs) := by
  unfold State.probeAck
  split
  · exact State.Within.refl s
  · split
    · exact State.Within.refl s
    · next psn at_ _ =>
      have hack : State.Within paces s ((s.advance (at_ + rttNs * unitsPerNs)).ackReceive q psn) :=
        (s.advance_within _).mono.trans (State.ackReceive_within _ q psn)
      dsimp only
      split
      · exact hack.trans rfl
      · exact hack

theorem State.ccIdle_within (s : State) (q : Nat) : State.Within paces s (s.ccIdle q) := by
  unfold State.ccIdle
  split
  · exact State.Within.ite (fun _ => State.Within.trans (s.advance_within _).mono rfl) (fun _ => State.Within.refl s)
  · exact State.Within.refl s

/-! ## Pools (R161 to R172) -/

/-- What a buffer given back may touch. -/
abbrev pools (s t : State) : State := { s with gbk := t.gbk, out := t.out, pol := t.pol, regs := t.regs }

theorem State.offerOne_within {s t : State} {p : Nat} (h : s.offerOne p = some t) : State.Within pools s t := by
  unfold State.offerOne at h
  dsimp only at h
  split at h
  · cases h
  · split at h
    · cases h
    · obtain rfl := Option.some.inj h
      rfl

theorem State.offer_within (p n : Nat) (s : State) : State.Within pools s (s.offer p n) := by
  induction n generalizing s with
  | zero => exact State.Within.refl s
  | succ n ih =>
    unfold State.offer
    split
    · next t ht => exact (State.offerOne_within ht).trans (ih t)
    · exact State.Within.refl s

theorem State.freeTaken_within (s : State) (p i o : Nat) : State.Within pools s (s.freeTaken p i o) :=
  State.Within.trans (by rfl) (State.Within.ite (fun _ => State.offer_within _ _ _) (fun _ => State.Within.refl _))

theorem State.freeRefused_within (s : State) (block p i o : Nat) : State.Within pools s (s.freeRefused block p i o) :=
  State.Within.trans (by rfl) (State.record_within _ _ _ _ _ _ _).mono

theorem State.polFree_within (s : State) (block p i o : Nat) : State.Within pools s (s.polFree block p i o) :=
  State.Within.ite (fun _ => (s.freeTaken_within p i o).trans rfl) (fun _ => (s.freeRefused_within block p i o).trans rfl)

theorem State.polOpFree_within (s : State) (p o : Nat) : State.Within pools s (s.polOpFree p o) := by
  refine State.Within.ite (fun _ => State.Within.refl s) (fun _ => ?_)
  exact State.Within.ite (fun _ => (s.freeTaken_within p _ o).trans rfl) (fun _ => (s.freeRefused_within 6 p _ o).trans rfl)

/-! ## The link to the partner (R185 to R190) -/

/-- What a link that comes up may touch. -/
abbrev links (s t : State) : State := { s with isl := t.isl, out := t.out, pjm := t.pjm, regs := t.regs }

theorem State.askCatchup_within (s : State) : State.Within links s s.askCatchup := by
  unfold State.askCatchup
  split
  · exact State.Within.refl s
  · refine State.Within.ite (fun _ => rfl) (fun _ => State.Within.ite (fun _ => ?_) (fun _ => State.Within.refl s))
    exact State.Within.trans (State.Within.trans (t := s.wr Fld.ISL_STATUS_STATE islCatchup) rfl (State.isend_within _ _ _).mono) rfl

theorem State.islLinkUp_within (s : State) : State.Within links s s.islLinkUp := by
  have htrial (u : State) : State.Within links u
      (if u.rdb Fld.FWU_STATUS_TRIAL then u.isend 0 (.trial (some (u.rd Fld.FWU_DEADLINE_NS))) else u) :=
    State.Within.ite (fun _ => (u.isend_within _ _).mono) (fun _ => State.Within.refl u)
  have hmark (u : State) : State.Within links u { u with isl := { u.isl with staleWritten := true } } := rfl
  have hanchors : State.Within links s (s.markAnchors (List.range 8) true) := rfl
  exact State.Within.ite (fun _ => State.Within.refl s)
    (fun _ => ((hanchors.trans (htrial _)).trans (hmark _)).trans (State.askCatchup_within _))

/-- What a drumbeat may touch. -/
abbrev drumbeats (s t : State) : State :=
  { s with aon := t.aon, gbk := t.gbk, isl := t.isl, now := t.now, out := t.out, regs := t.regs }

theorem State.drumbeatSend_within (s : State) : State.Within drumbeats s s.drumbeatSend := by
  have hcount (u : State) (i : Isl) : State.Within drumbeats u { u with isl := i } := rfl
  refine State.Within.ite (fun _ => State.Within.refl s) (fun _ => ?_)
  exact ((s.advance_within _).mono.trans (hcount _ _)).trans (State.isend_within _ _ _).mono

/-- What a question of the index from the partner may touch. -/
abbrev indexAnswers (s t : State) : State := { s with ddp := t.ddp, isl := t.isl, out := t.out, regs := t.regs }

theorem State.indexMessage_within (s : State) (fp domain : Nat) (reserve : Bool) :
    State.Within indexAnswers s (s.indexMessage fp domain reserve) := by
  have hlookup : State.Within indexAnswers s (s.idxLookup fp domain).1 := by
    obtain ⟨d, r, heq, -⟩ := (s.idxLookup_frame fp domain).1
    rw [heq]
    rfl
  have hsend (u : State) (a : IslMsg) : State.Within indexAnswers u (u.isend 2 a) := (u.isend_within 2 a).mono
  refine State.Within.ite (fun _ => State.Within.refl s) (fun _ => State.Within.ite (fun _ => ?_) (fun _ => ?_))
  · exact State.Within.trans (t := s.raise Fld.DDP_ERR_PIN_FULL) rfl (hsend _ _)
  · exact State.Within.ite (fun _ => hsend s _) (fun _ => hlookup.trans (hsend _ _))

/-! ## The map, the media and the stripes (R240 to R312) -/

/-- What enabling the map may touch. -/
abbrev mapStarts (s t : State) : State := { s with flc := t.flc, free := t.free, map := t.map, regs := t.regs }

theorem State.mapEnable_within (s : State) : State.Within mapStarts s s.mapEnable := by
  have htry : State.Within mapStarts s (s.tryEnable Fld.MAP_CTRL_ENABLE).1 := (s.tryEnable_within _).mono
  have hsets (u : State) (os : List Nat) : State.Within mapStarts u
      (os.foldl (fun s o => s.setMapSet o { s.mapSet o with recovering := true }) u) := State.Within.foldl os (fun _ _ => by rfl) u
  have hhalf (u : State) (f : Flc) : State.Within mapStarts u { u with flc := f } := rfl
  have hfrom (u : State) (m : MapSt) : State.Within mapStarts u { u.wr Fld.MAP_STATUS_STATE 1 with map := m } := rfl
  have hrecover (u : State) (os : List Nat) : State.Within mapStarts u (if os = [] then u.wr Fld.MAP_STATUS_STATE 2 else
      let v := os.foldl (fun s o => s.setMapSet o { s.mapSet o with recovering := true }) u
      { v.wr Fld.MAP_STATUS_STATE 1 with map := { v.map with recoveryFrom := some v.now } }) :=
    State.Within.ite (fun _ => rfl) (fun _ => (hsets u os).trans (hfrom _ _))
  unfold State.mapEnable
  refine State.Within.ite (fun _ => State.Within.refl s) (fun _ => State.Within.ite (fun _ => htry) (fun _ => ?_))
  exact (htry.trans (hhalf _ _)).trans (hrecover _ _)

/-- What enabling the media may touch. -/
abbrev mediaStarts (s t : State) : State := { s with flc := t.flc, free := t.free, pgs := t.pgs, regs := t.regs }

theorem State.flcEnable_within (s : State) (pages : List (Nat × ParamPage)) (bads : List Nat) :
    State.Within mediaStarts s (s.flcEnable pages bads) := by
  have htry : State.Within mediaStarts s
      (if s.rdb Fld.FLC_CTRL_ENABLE then (s, true) else s.tryEnable Fld.FLC_CTRL_ENABLE).1 := by
    split
    · exact State.Within.refl s
    · exact (s.tryEnable_within _).mono
  have hbads (u : State) : State.Within mediaStarts u (bads.foldl (fun s b => s.setBlock b { s.block b with bad := true }) u) :=
    State.Within.foldl bads (fun _ _ => by rfl) u
  have hchans (u : State) (cs : List Nat) : State.Within mediaStarts u
      (cs.foldl (fun s c => s.wr Fld.FLC_CH_STATUS_STATE flcInit c) u) := State.Within.foldl cs (fun _ _ => by rfl) u
  have hgeom (u : State) (p : ParamPage) : State.Within mediaStarts u (u.setGeom p) := rfl
  unfold State.flcEnable
  refine State.Within.ite (fun _ => State.Within.refl s) (fun _ => State.Within.ite (fun _ => htry) (fun _ => ?_))
  dsimp only
  split
  · exact htry.trans (hbads _)
  · split
    · exact (htry.trans (hbads _)).trans rfl
    · exact ((htry.trans (hbads _)).trans (hgeom _ _)).trans (hchans _ _)

/-- What the training of a channel may touch. -/
abbrev trainings (s t : State) : State := { s with flc := t.flc, out := t.out, regs := t.regs, str := t.str }

theorem State.failMembers_within (s : State) (p : Nat → Bool) : State.Within trainings s (s.failMembers p) := by
  unfold State.failMembers
  refine State.Within.foldl _ (fun u e => ?_) s
  have hstripes (es : Assoc Stripe) (ms : List Nat) : State.Within trainings u
      (es.foldl (fun s x => s.setStripe x.1 (ms.foldl Stripe.fail x.2)) u) := State.Within.foldl es (fun _ _ => by rfl) u
  have hqueue (v : State) (bk : Nat) : State.Within trainings v (v.queueRebuild bk) :=
    State.Within.ite (fun _ => State.Within.refl v) (fun _ => rfl)
  exact (hstripes _ _).trans (State.Within.ite (fun _ => hqueue _ _) (fun _ => State.Within.refl _))

theorem State.chanTraining_within (s : State) (c : Nat) (ok okLower : Bool) (ps : Nat) :
    State.Within trainings s (s.chanTraining c ok okLower ps) := by
  have htrained (u : State) (rate : Nat) : State.Within trainings u (u.trained c rate ps) := rfl
  have hfail (u : State) : State.Within trainings u
      ((((u.wr Fld.FLC_CH_STATUS_STATE flcFailed c).raise Fld.FLC_ERR_TRAIN_FAIL).wr Fld.FLC_ERR_INFO_CH c).failMembers
        (fun m => m % 128 == c)) := State.Within.trans (by rfl) (State.failMembers_within _ _)
  have hemit (u : State) (rate : Nat) : State.Within trainings u (u.emit (.train c rate)) := rfl
  unfold State.chanTraining
  refine State.Within.ite (fun _ => State.Within.refl s) (fun _ => (hemit s _).trans (State.Within.ite (fun _ => htrained _ _) (fun _ => ?_)))
  cases lowerRate (s.rd Fld.FLC_IF_CFG_RATE) with
  | none => exact hfail _
  | some r =>
    cases okLower with
    | true => exact (hemit _ r).trans (htrained _ r)
    | false => exact (hemit _ r).trans (hfail _)

/-- What a refresh may touch. -/
abbrev refreshes (s t : State) : State :=
  { s with aon := t.aon, flc := t.flc, gbk := t.gbk, gcx := t.gcx, now := t.now, regs := t.regs }

theorem State.refresh_within (s : State) (b : Nat) : State.Within refreshes s (s.refresh b) := by
  have hqueue (u : State) : State.Within refreshes u (u.queueRefresh b) := by
    rw [State.queueRefresh_frame]
    rfl
  refine State.Within.ite (fun _ => hqueue s) (fun _ => State.Within.ite (fun _ => State.Within.refl s) (fun _ => ?_))
  exact (s.advance_within _).mono.trans (hqueue _)

/-- What the patrol of a stripe may touch. -/
abbrev patrols (s t : State) : State := { s with gbk := t.gbk, gcx := t.gcx, regs := t.regs, str := t.str }

theorem State.gcxWork_within (s : State) (cls band : Nat) : State.Within patrols s (s.gcxWork cls band) := by
  rw [(s.gcxWork_frame cls band).1]
  rfl

theorem State.patrolBad_within (s : State) (k : Nat) : State.Within patrols s (s.patrolBad k) :=
  State.Within.trans (State.Within.trans (by rfl) (State.record_within _ _ _ _ _ _ _).mono) (State.gcxWork_within _ _ _)

theorem State.patrolFinding_within (s : State) (k : Nat) (y : Stripe) (f : PatrolFound) : State.Within patrols s (s.patrolFinding k y f) := by
  unfold State.patrolFinding
  dsimp only
  split
  · refine State.Within.ite (fun _ => ?_) (fun _ => State.Within.refl s)
    split
    · exact State.Within.ite (fun _ => State.Within.trans (by rfl) (State.gcxWork_within _ _ _)) (fun _ => s.patrolBad_within k)
    · exact s.patrolBad_within k
  · exact State.Within.trans (by rfl) (State.gcxWork_within _ _ _)

theorem State.patrolCheck_within (s : State) (k : Nat) (f : PatrolFound) : State.Within patrols s (s.patrolCheck k f) := by
  have hcursor (u : State) : State.Within patrols u { u with str := { u.str with patrolCursor := k } } := rfl
  have hpass (u : State) (pct : Nat) : State.Within patrols u (if f.passEnds then
      (u.bump Fld.STR_PATROL_PROGRESS_PASSES).wr Fld.STR_PATROL_PROGRESS_PCT 0 else u.wr Fld.STR_PATROL_PROGRESS_PCT pct) :=
    State.Within.ite (fun _ => rfl) (fun _ => rfl)
  have hend (u : State) : State.Within patrols u (if f.budgetEnds then u.wr Fld.STR_STATUS_PATROLLING 0 else u) :=
    State.Within.ite (fun _ => rfl) (fun _ => State.Within.refl u)
  unfold State.patrolCheck
  refine State.Within.ite (fun _ => State.Within.refl s) (fun _ => ?_)
  split
  · refine State.Within.trans ?_ (((hcursor _).trans (hpass _ _)).trans (hend _))
    exact State.Within.ite (fun _ => s.patrolFinding_within k _ f) (fun _ => State.Within.refl s)
  · exact State.Within.refl s

/-! ## Sessions (R341, R342) -/

/-- What STATE may touch. -/
abbrev states (s t : State) : State := { s with kvs := t.kvs, out := t.out, rdm := t.rdm, wins := t.wins }

theorem State.enoreEnd_within (s : State) (k n : Nat) (r : SessResp) : State.Within states s (s.enoreEnd k n r) := by
  rw [State.enoreEnd_frame]
  rfl

theorem State.roceSend_within (s : State) (q bytes : Nat) : State.Within states s (s.roceSend q bytes) := by
  rw [State.roceSend_frame]
  rfl

theorem State.enoreRun_within {U : State → State → State} (s : State) (k n opcode : Nat) {run : State → Sess → EnoreRec → State}
    (hrun : ∀ u x e, State.Within U u (run u x e)) (hk : ∀ s k, U s { s with kvs := k } = { s with kvs := k } := by intros; rfl)
    (hU : ∀ s t u, U (U s t) u = U s u := by intros; rfl) : State.Within U s (s.enoreRun k n opcode run) := by
  have hs : State.Within U s s := (hk s s.kvs).symm
  unfold State.enoreRun
  split
  · refine State.Within.ite (fun _ => hs) (fun _ => State.Within.trans ?_ (hrun _ _ _) hU)
    unfold State.modCmd
    split
    · exact (hk _ _).symm
    · exact hs
  · exact hs

theorem State.enoreState_within (s : State) (k n : Nat) (xferOk : Bool) : State.Within states s (s.enoreState k n xferOk) := by
  unfold State.enoreState
  split
  · exact State.Within.refl s
  · refine State.Within.ite (fun _ => State.Within.refl s) (fun _ => s.enoreRun_within k n opState fun u x e => ?_)
    refine State.Within.ite (fun _ => u.enoreEnd_within k n _) (fun _ => State.Within.ite (fun _ => u.enoreEnd_within k n _) (fun _ => ?_))
    exact State.Within.trans (State.Within.trans (by rfl) (State.roceSend_within _ _ _)) (State.enoreEnd_within _ k n _)

/-- What a response written may touch. -/
abbrev responses (s t : State) : State := { s with kvs := t.kvs, out := t.out, pol := t.pol, rdm := t.rdm, regs := t.regs }

theorem State.sessClose_within (s : State) (k : Nat) : State.Within responses s (s.sessClose k) := by
  have hrevoke (u : State) (w : Nat) : State.Within responses u (u.winRevokeCmd w false) := by
    rw [State.winRevokeCmd_frame]
    rfl
  have hset (u : State) (x : Sess) : State.Within responses u (u.setSess k x) := rfl
  have hqueue (u : State) : State.Within responses u (u.polQueueEnd (polSess k)) := rfl
  have hdetach (u : State) : State.Within responses u (u.sessDetach k) := by
    unfold State.sessDetach
    split
    · exact ((hset _ _).trans (hrevoke _ _)).trans (hqueue _)
    · exact State.Within.refl _
  unfold State.sessClose
  split
  · exact (hset _ _).trans (hdetach _)
  · exact State.Within.refl s

theorem State.responseWrite_within (s : State) (k i : Nat) : State.Within responses s (s.responseWrite k i) := by
  have hset (x : Sess) : State.Within responses s (s.setSess k x) := rfl
  have hsend (u : State) (o : Out) (q n : Nat) : State.Within responses u ((u.emit o).roceSend q n) := by
    rw [State.roceSend_frame]
    rfl
  have hsends (u : State) (c : Bool) (o : Out) (q n : Nat) : State.Within responses u (if c then (u.emit o).roceSend q n else u) :=
    State.Within.ite (fun _ => hsend u o q n) (fun _ => State.Within.refl u)
  have hclose (u : State) (c : Prop) [Decidable c] : State.Within responses u (if c then u.sessClose k else u) :=
    State.Within.ite (fun _ => u.sessClose_within k) (fun _ => State.Within.refl u)
  unfold State.responseWrite
  split
  · exact State.Within.refl s
  · split
    · exact State.Within.refl s
    · exact ((hset _).trans (hsends _ _ _ _ _)).trans (hclose _ _)

/-! ## Ownership (R371 to R394) -/

/-- What a request to the innkeepers may touch. -/
abbrev asks (s t : State) : State := { s with free := t.free, out := t.out, own := t.own, regs := t.regs }

theorem State.ikSendAll_within (s : State) (m : IkMsg) : State.Within asks s (s.ikSendAll m) := by
  rw [State.ikSendAll_eq]
  rfl

theorem State.acquireSend_within (s : State) : State.Within asks s s.acquireSend := by
  have hstate : State.Within asks s (s.wr Fld.OWN_STATUS_LEASE leaseAcquiring) := rfl
  have hquery (u : State) (kind first : Nat) : State.Within asks u (u.querySend kind first) := u.ikSendAll_within _
  exact ((hstate.trans (State.ikSendAll_within _ _)).trans (State.Within.foldl _ (fun u k => hquery u 0 _) _)).trans (hquery _ 1 0)

theorem State.ownEnable_within (s : State) : State.Within asks s s.ownEnable := by
  have htry : State.Within asks s (s.tryEnable Fld.OWN_CTRL_ENABLE).1 := (s.tryEnable_within _).mono
  have hbound (u : State) : State.Within asks u u.boundNow := rfl
  refine State.Within.ite (fun _ => State.Within.ite (fun _ => s.acquireSend_within) (fun _ => State.Within.refl s)) (fun _ => ?_)
  exact State.Within.ite (fun _ => (htry.trans (hbound _)).trans (State.acquireSend_within _)) (fun _ => htry)

theorem State.ikQuery_within (s : State) (m : IkMsg) : State.Within asks s (s.ikQuery m) :=
  (State.ikJudge_frame (U := asks) s .query m fun _ => State.Frame.of_eq rfl).1

/-- What an innkeeper's judgement at a later instant may touch. -/
abbrev judgesLater (s t : State) : State :=
  { s with aon := t.aon, gbk := t.gbk, now := t.now, out := t.out, own := t.own, regs := t.regs }

theorem State.ikHeldExpiry_within (s : State) (a : Nat) : State.Within judgesLater s (s.ikHeldExpiry a) := by
  have hrecord (u : State) (b : Nat) (r : IkRecord) (m : IkMsg) (op : IkOp) (status : Nat) :
      State.Within judgesLater u ((u.setIkRecord b r).ikReply m op status 0) :=
    (State.ikRecorded_frame (l := []) u b r m op status 0).within
  have hgrant (u : State) (c : Prop) [Decidable c] (r : IkRecord) (m : IkMsg) : State.Within judgesLater u
      (if c then u.ikGrantTake m else (u.setIkRecord a r).ikReply m .refuse STS_LEASE_STALE 0) :=
    State.Within.ite (fun _ => hrecord u _ _ _ _ _) (fun _ => hrecord u _ _ _ _ _)
  unfold State.ikHeldExpiry
  dsimp only
  split
  · exact State.Within.refl s
  · exact ((s.advance_within _).mono.trans (State.advance_within _ _).mono).trans (hgrant _ _ _ _)

theorem State.ikRecoveryEnd_within (s : State) :
    State.Within (fun s t => { s with aon := t.aon, gbk := t.gbk, now := t.now, own := t.own, regs := t.regs }) s s.ikRecoveryEnd := by
  unfold State.ikRecoveryEnd
  split
  · exact State.Within.trans (s.advance_within _).mono rfl
  · exact State.Within.refl s

theorem State.dailyDrill_within (s : State) (fail : Nat) (ph pd : Bool) : State.Within drills s (s.dailyDrill fail ph pd) :=
  State.Within.ite (fun _ => (s.drill_frame _ fail ph pd).1) (fun _ => State.Within.refl s)

/-- A command of `OWN_CMD` runs in the frame of what it does (R394). -/
theorem State.ownCmd_within {U : State → State → State} (s : State) {run : State → State} (hrun : ∀ u, State.Within U u (run u))
    (hr : ∀ s r, U s { s with regs := r } = { s with regs := r } := by intros; rfl) (hU : ∀ s t u, U (U s t) u = U s u := by intros; rfl) :
    State.Within U s (s.ownCmd fun u => (run u).ownCmdEnd STS_OK) := by
  have hs (u : State) : State.Within U u u := (hr u u.regs).symm
  have hwr (u : State) (f : Field) (v : Nat) : State.Within U u (u.wr f v) := (hr u _).symm
  have hend (u : State) : State.Within U u (u.ownCmdEnd STS_OK) :=
    State.Within.ite (fun _ => ((hwr u _ _).trans (hwr _ _ _) hU).trans (hwr _ _ _) hU) (fun _ => hs u)
  have hbegin : State.Within U s ((s.wr Fld.OWN_CMD_RESULT_BUSY 1).wr Fld.OWN_CMD_RESULT_DONE 0) := (hwr s _ _).trans (hwr _ _ _) hU
  exact State.Within.ite (fun _ => hs s) (fun _ => (hbegin.trans (hrun _) hU).trans (hend _) hU)

/-- What the request to give back what the partner holds may touch. -/
abbrev returns (s t : State) : State := { s with isl := t.isl, out := t.out, own := t.own, regs := t.regs }

theorem State.askReturn_within (s : State) : State.Within returns s s.askReturn :=
  State.Within.trans (s.isend_within 0 (.returnRequest (s.rdb Fld.FWU_STATUS_TRIAL))).mono rfl

/-! ## Snapshots, records, firmware, power and test -/

/-- What the instant of a cut may touch. -/
abbrev cuts (s t : State) : State := { s with aon := t.aon, gbk := t.gbk, now := t.now, regs := t.regs, snp := t.snp }

theorem State.seal_within (s : State) (e : Nat) (c : CatEntry) : State.Within cuts s (s.seal e c) := by
  unfold State.seal
  dsimp only
  split <;> rfl

theorem State.cutInstant_within (s : State) (e : Nat) : State.Within cuts s (s.cutInstant e) := by
  have hcut (u : State) (c : CatEntry) : State.Within cuts u (if c.armed then u.seal e c else if u.snp.heldNs.mem c.nsid then u
      else State.snpError { u with snp := { u.snp with heldNs := u.snp.heldNs.insert c.nsid } } Fld.SNP_ERR_CUT_HELD c.nsid 0) :=
    State.Within.ite (fun _ => u.seal_within e c) (fun _ => State.Within.ite (fun _ => State.Within.refl u) (fun _ => rfl))
  unfold State.cutInstant
  split
  · exact State.Within.refl s
  · exact State.Within.ite (fun _ => State.Within.refl s) (fun _ => (s.advance_within _).mono.trans (hcut _ _))

theorem State.batchTimeout_within (s : State) (l seq : Nat) :
    State.Within (fun s t => { s with aon := t.aon, gbk := t.gbk, now := t.now, out := t.out, regs := t.regs, snp := t.snp }) s
      (s.batchTimeout l seq) := by
  unfold State.batchTimeout
  split
  · exact State.Within.refl s
  · split
    · exact State.Within.refl s
    · exact State.Within.trans (s.advance_within _).mono rfl

/-- What CLEAR may touch. -/
abbrev clears (s t : State) : State := { s with gbk := t.gbk, isl := t.isl, out := t.out, regs := t.regs }

theorem State.gbkClear_within (s : State) : State.Within clears s s.gbkClear := by
  have hrec (u : State) (code a0 a1 a2 : Nat) : State.Within clears u (u.record Blk.GBK code a0 a1 a2) := (u.record_within _ _ _ _ _ _).mono
  have hend (u : State) (status : Nat) : State.Within clears u (u.gbkClearEnd status) := rfl
  have hgbk (g : Gbk) : State.Within clears s { s with gbk := g } := rfl
  have hzero (u : State) (upTo : Nat) : State.Within clears u ((u.isend 1 (.gbkZero upTo)).wr Fld.GBK_FLOOR_SEQ (upTo + 1)) :=
    State.Within.trans (u.isend_within 1 (.gbkZero upTo)).mono rfl
  unfold State.gbkClear
  refine State.Within.ite (fun _ => rfl) (fun _ => ?_)
  dsimp only
  split
  · exact State.Within.trans (State.Within.trans (t := s.raise Fld.GBK_ERR_CLEAR_REFUSED) rfl (hrec _ _ _ _ _)) (hend _ _)
  · exact (((hgbk _).trans (hzero _ _)).trans (hrec _ _ _ _ _)).trans (hend _ _)

/-- What a confirmed image may touch. -/
abbrev confirms (s t : State) : State :=
  { s with aon := t.aon, fwu := t.fwu, gbk := t.gbk, isl := t.isl, out := t.out, regs := t.regs }

theorem State.putRec_within (s : State) (r : BootRec) : State.Within confirms s (s.putRec r) :=
  State.Within.ite (fun _ => rfl) (fun _ => rfl)

theorem State.fwConfirm_within (s : State) (gen : Nat) : State.Within confirms s (s.fwConfirm gen) := by
  have hslots (u : State) (k a b j : Nat) : State.Within confirms u
      ((((u.wr Fld.FWU_SLOT_INFO_STATE a k).wr Fld.FWU_SLOT_INFO_STATE b j).wr Fld.FWU_STATUS_TRIAL 0).wr Fld.FWU_DEADLINE_NS 0) := rfl
  have haon (u : State) (a : Aon) : State.Within confirms u { u with aon := a } := rfl
  have hrec (u : State) : State.Within confirms u ((u.record Blk.FWU 0x0003 gen).isend 0 (.trial none)) :=
    (u.record_within _ _ _ _ _ _).mono.trans (State.isend_within _ _ _).mono
  refine State.Within.ite (fun _ => State.Within.refl s) (fun _ => State.Within.ite (fun _ => ?_) (fun _ => rfl))
  exact (((s.putRec_within _).trans (hslots _ _ _ _ _)).trans (haon _ _)).trans (hrec _)

/-- What the fault of a power chain may touch. -/
abbrev chainFaults (s t : State) : State := { s with gbk := t.gbk, own := t.own, pwr := t.pwr, regs := t.regs }

theorem State.degrade_within (s : State) (pd : Bool) : State.Within chainFaults s (s.degrade pd) := by
  refine State.Within.ite (fun _ => State.Within.refl s) (fun _ => State.Within.ite (fun _ => rfl) (fun _ => rfl))

theorem State.chainFault_within (s : State) (c : Nat) (pd : Bool) : State.Within chainFaults s (s.chainFault c pd) := by
  have hset (x : Chain) : State.Within chainFaults s (s.setChain c x) := State.Within.ite (fun _ => rfl) (fun _ => rfl)
  have hbits (u : State) (good : Bool) : State.Within chainFaults u (u.chainBits c good) :=
    State.Within.ite (fun _ => rfl) (fun _ => rfl)
  have hsign (u : State) (f : Field) : State.Within chainFaults u ((u.raise f).bump Fld.PWR_CHAIN_FAULTS 1 c) := rfl
  have hdev (u : State) (dev : Nat) : State.Within chainFaults u (if dev < 16 then u.wr Fld.PWR_ERR_INFO_DEV dev else u) :=
    State.Within.ite (fun _ => rfl) (fun _ => State.Within.refl u)
  have hrec (u : State) (code a0 a1 a2 : Nat) : State.Within chainFaults u ((u.record Blk.PWR code a0 a1 a2).degrade pd) :=
    (u.record_within _ _ _ _ _ _).mono.trans (State.degrade_within _ pd)
  refine State.Within.ite (fun _ => State.Within.refl s) (fun _ => ?_)
  split
  · exact State.Within.refl s
  · exact ((((hset _).trans (hbits _ _)).trans (hsign _ _)).trans (hdev _ _)).trans (hrec _ _ _ _ _)

/-- What a step of the core voltage may touch. -/
abbrev volts (s t : State) : State := { s with aon := t.aon, gbk := t.gbk, now := t.now, out := t.out, pwr := t.pwr, regs := t.regs }

theorem State.pmbAck_within (s : State) (d : Nat) (ok : Bool) : State.Within volts s (s.pmbAck d ok) := by
  have hset (u : State) (c : Nat) (x : Chain) : State.Within volts u (u.setChain c x) := State.Within.ite (fun _ => rfl) (fun _ => rfl)
  have hmiss (p : Pwr) : State.Within volts s
      ((State.raise { s with pwr := p } Fld.PWR_ERR_PMB_NAK).wr Fld.PWR_ERR_INFO_DEV d) := rfl
  refine State.Within.ite (fun _ => rfl) (fun _ => ?_)
  exact (hmiss _).trans (State.Within.ite (fun _ => State.Within.refl _) (fun _ => hset _ _ _))

theorem State.avsWrite_within (s : State) (naks : List Nat) : State.Within volts s (s.avsWrite naks) := by
  have hdev (u : State) (d mv : Nat) (ok : Bool) : State.Within volts u ((u.emit (.vout d mv)).pmbAck d ok) :=
    State.Within.trans (by rfl) (State.pmbAck_within _ d ok)
  have hset (u : State) (mv : Nat) : State.Within volts u (u.wr Fld.PWR_VDD_SET_MV mv) := rfl
  refine State.Within.ite (fun _ => State.Within.refl s) (fun _ => ?_)
  exact ((State.Within.foldl _ (fun u d => hdev u d _ _) s).trans (hset _ _)).trans (State.advance_within _ _).mono

/-- What a test command at a later instant may touch. -/
abbrev tests (s t : State) : State := { s with aon := t.aon, dbg := t.dbg, gbk := t.gbk, now := t.now, regs := t.regs }

theorem State.fuseProg_within (s : State) (field value : Nat) : State.Within tests s (s.fuseProg field value) := by
  unfold State.fuseProg
  refine State.Within.ite (fun _ => rfl) (fun _ => ?_)
  split
  · rfl
  · exact State.Within.trans (s.advance_within _).mono rfl

theorem State.fuseCmd_within (s : State) (field : Nat) (jtag : Option Nat) : State.Within tests s (s.fuseCmd field jtag) := by
  cases jtag with
  | none => exact s.fuseProg_within field _
  | some v =>
    have hload (op : Nat) : State.Within tests s (s.loadIr op) := rfl
    exact State.Within.ite (fun _ => rfl) (fun _ => (hload _).trans (State.fuseProg_within _ field v))

theorem State.loopDone_within (s : State) (errors : Nat) : State.Within tests s (s.loopDone errors) := by
  unfold State.loopDone
  split
  · exact State.Within.refl s
  · exact State.Within.ite (fun _ => rfl) (fun _ => State.Within.trans (s.advance_within _).mono rfl)

/-- Settles O60: each command's effect runs through operations whose components are known; the lemma of each command names them, and the always-on
logic at its end touches the always-on part alone. -/
theorem framesOfFurtherCommands : Obligations.FramesOfFurtherCommands := by
  unfold Obligations.FramesOfFurtherCommands
  refine ⟨?_, ?_, ?_, ?_, ?_, ?_, ?_, ?_, ?_, ?_, ?_, ?_, ?_, ?_, ?_, ?_, ?_, ?_, ?_, ?_, ?_, ?_, ?_, ?_, ?_, ?_, ?_, ?_, ?_, ?_, ?_, ?_, ?_, ?_, ?_,
    ?_, ?_, ?_, ?_, ?_, ?_, ?_, ?_, ?_⟩
  · exact fun s => Completes.within s.mdcReady_within
  · exact fun s => Completes.within (ppsOutEdge_within s)
  · exact fun s i => Completes.within (carillonFire_within s i)
  · exact fun s => Completes.within s.intHoldoff_within
  · exact fun s r ok => Completes.within (s.statusTimer_within r ok)
  · exact fun s r => Completes.within (s.coalesceTimer_within r)
  · exact fun s r q input ok => Completes.within (s.decompress_within r q input ok)
  · exact fun s j side => Completes.within (s.pjmWriteFail_within j side)
  · exact fun s c => Completes.within (s.pjmChannelFail_within c)
  · exact fun s c => Completes.within (s.pjmChCmd_within c)
  · exact fun s k full => Completes.within (s.bufferStripeClose_within k full)
  · exact fun s l isn ecn sack tsopt w mss => Completes.within (s.tcpSyn_within l isn ecn sack tsopt w mss)
  · exact fun s q cid => Completes.within (s.disconnect_within q cid)
  · exact fun s q rtt => Completes.within (s.probeAck_within q rtt)
  · exact fun s q => Completes.within (s.ccIdle_within q)
  · exact fun s b p i o => Completes.within (s.polFree_within b p i o)
  · exact fun s p o => Completes.within (s.polOpFree_within p o)
  · exact fun s => Completes.within s.islLinkUp_within
  · exact fun s => Completes.within s.drumbeatSend_within
  · exact fun s fp domain reserve => Completes.within (s.indexMessage_within fp domain reserve)
  · exact fun s => Completes.within s.mapEnable_within
  · exact fun s pages bads => Completes.within (s.flcEnable_within pages bads)
  · exact fun s c ok okLower ps => Completes.within (s.chanTraining_within c ok okLower ps)
  · exact fun s b => Completes.within (s.refresh_within b)
  · exact fun s k er differs cs be pe => Completes.within (s.patrolCheck_within k ⟨er, differs, cs, be, pe⟩)
  · exact fun s k n ok => Completes.within (s.enoreState_within k n ok)
  · exact fun s k i => Completes.within (s.responseWrite_within k i)
  · exact fun s => Completes.within s.ownEnable_within
  · exact fun s m => Completes.within (s.ikQuery_within m)
  · exact fun s a => Completes.within (s.ikHeldExpiry_within a)
  · exact fun s => Completes.within s.ikRecoveryEnd_within
  · exact fun s fail ph pd => Completes.within (s.dailyDrill_within fail ph pd)
  · exact fun s => Completes.within (s.ownCmd_within State.askReturn_within)
  · exact fun s g fail ph pd => Completes.within (s.ownCmd_within fun u => (u.drill_frame g fail ph pd).1)
  · exact fun s e => Completes.within (s.cutInstant_within e)
  · exact fun s l seq => Completes.within (s.batchTimeout_within l seq)
  · exact fun s => Completes.within s.gbkClear_within
  · exact fun s => Completes.within s.leapAdjust_within
  · exact fun s gen => Completes.within (s.fwConfirm_within gen)
  · exact fun s c pd => Completes.within (s.chainFault_within c pd)
  · exact fun s naks => Completes.within (s.avsWrite_within naks)
  · exact fun s field jtag => Completes.within (s.fuseCmd_within field jtag)
  · exact fun s errors => Completes.within (s.loopDone_within errors)
  · exact fun s => Completes.within (ptpDelayReqSend_within s)

end Sys2Proof.Machine
end
